-- ==== Sys2Proof/Word.lean ====
section
/-! DEFINITION. The words of the machine: a byte, and the 64 bits of a register (R4). -/

namespace Sys2Proof

/-- One byte of the physical address space (R23). -/
abbrev Byte := BitVec 8

/-- The 64 bits of a register (R4). -/
abbrev Word := BitVec 64

/-- A sparse map from numbers: a list of pairs whose keys rise strictly. -/
abbrev Store (α : Type) := List (Nat × α)

end Sys2Proof
end

