-- ==== Sys2Proof/Machine/Agents.lean ====
section
/-! DEFINITION. Who may issue an access (R23, R555), the accesses themselves, and the supply rails (R16). -/

namespace Sys2Proof.Machine

/-- The initiators of R555, with the recovery function of R77, a requester behind a ROOT-mode host port (R366), a
die's governor and the fallback path of a safety slice beside them. Application cores carry a guest tag; tag 63 is
the steward (R545). A vault core chooses the world of each access (R390). -/
inductive Initiator where
  | hardware
  | core (hart guest : Nat)
  | control (die : Nat)
  | sentinel (pair : Nat)
  | vault (core : Nat) (normal : Bool)
  | engine (te : Nat)
  | ring (n : Nat)
  | dma (queue : Nat)
  | hostFn (k : Nat)
  | requester (rid : Nat)
  | recovery
  | ipp (stream : Nat)
  | graphics (ctx : Nat)
  | tahr (seq : Nat)
  | loader
  | debug
  | governor (die : Nat)
  | fallbackPath (die : Nat)
  | chamois
  | service (vi : Option Nat)
deriving DecidableEq, Repr

/-- A read of len bytes, or a write of the bytes given, at a physical address. -/
inductive Access where
  | read (addr len : Nat)
  | write (addr : Nat) (data : List Byte)
deriving DecidableEq, Repr

/-- A request that is on a fabric link when the link fails (R15): a tile load of an engine, by engine and handle; a
posted write; or another request to an address. -/
inductive Caught where
  | load (te handle : Nat)
  | posted (who : Initiator) (addr : Nat)
  | request (who : Initiator) (addr : Nat)
deriving DecidableEq, Repr

/-- An event that a half of a redundant pair folds into its signature (R328): a store to the pair's shared memory by
address, byte mask and 64-bit data; an outbound message with its destination and payload; a read from outside the control
domain. -/
inductive PairEvent where
  | store (addr mask data : Nat)
  | message (addr : Nat) (payload : List Byte)
  | read (addr : Nat)
deriving DecidableEq, Repr

/-- What a half of a pair retired up to a checkpoint since the one before: its events in order, then the retired-instruction
count, the pc and the CRC-32C of the architectural registers at the checkpoint (R328, R330). -/
structure PairRun where
  events : List PairEvent
  count : Nat
  pc : Nat
  regs : Nat
deriving DecidableEq, Repr

/-- The depth functions of a render pass (R453). -/
inductive DepthFn where
  | never | less | equal | lequal | greater | notequal | gequal | always
deriving DecidableEq, Repr

/-- A fragment of a primitive as its shading leaves it: its pixel, its depth and colour, and whether its shader discards
it (R452, R453). -/
structure Fragment where
  x : Nat
  y : Nat
  depth : Nat
  colour : Nat
  discarded : Bool := false
deriving DecidableEq, Repr

/-- A render pass (R449 to R453): the render target and its depth buffer, the size, the format, the depth function, whether
depth is written and the function unchanged within the pass, the stencil settings, the blend mode, whether the fragment
shader writes depth or discards, and the clear values of colour and depth word where the pass does not load them. -/
structure RenderPass where
  colourAt : Nat
  colourStride : Nat
  depthAt : Nat
  depthStride : Nat
  width : Nat
  height : Nat
  fmt : Nat
  depthFn : DepthFn
  depthWrite : Bool
  depthFixed : Bool
  stencil : Nat
  blend : Option Nat
  shaderDepth : Bool
  shaderDiscards : Bool
  clear : Option (Nat × Nat)
deriving DecidableEq, Repr

/-- What a context binds and bins: a pass, its primitives in submission order, each as the fragments that the rasteriser
emits for it, and the 64 KiB pool chunks that their lists take. -/
structure Draw where
  pass : RenderPass
  prims : List (List Fragment)
  chunks : Nat
deriving DecidableEq, Repr

/-- A fragment, by its number in submission order, goes to a shader core or comes back shaded. -/
inductive ShadeEvent where
  | starts (n : Nat)
  | ends (n : Nat)
deriving DecidableEq, Repr

/-- The supply rails of R16. -/
inductive Rail where
  | vinLogic | vinSafe | vmemCore | vmemIo | vmemAux | vopt
deriving DecidableEq, Repr

/-- A storage word or line that a fault hit since it was last used: its address, and whether the error is
uncorrectable (R160, R176). -/
structure Hit where
  addr : Nat
  fatal : Bool
deriving DecidableEq, Repr

/-- A hardware fault that strikes during a step of a tensor engine, by what detects it (R107); clean for a step
without one. -/
inductive Upset where
  | clean
  | operandCorrected | operandUncorrectable | accumCorrected | accumUncorrectable
  | combine | residue | stateParity | lanes | twin
deriving DecidableEq, Repr

/-- A hardware fault that strikes during a step of a tahr sequencer, by what detects it (R342, R355). -/
inductive TahrUpset where
  | clean | eccCorrected | eccUncorrectable | lockstep
deriving DecidableEq, Repr

/-- A request that arrives at the host port (R473, R477): its link, its requester or function, its BAR in ENDPOINT mode,
its address and its data or length. op is 0 for a memory request, 1 for an INTx message and 2 for a poisoned write; of an
AtomicOp it is 0 FetchAdd, 1 Swap, 2 CAS, and data holds the operand (for CAS the compare value, then the new one). -/
structure HostRequest where
  link : Nat
  function : Nat
  rid : Nat
  bar : Nat
  addr : Nat
  len : Nat
  write : Bool
  data : List Byte
  op : Nat
deriving DecidableEq, Repr

end Sys2Proof.Machine
end

