-- ==== Sys2Proof/Syntax.lean ====
section
/-! DEFINITION. The commands of the block: one constructor per row of the table of operations and events
(opcode_table.json). Each stands for the row of that name; its arguments are the row's operands: who acts, which
unit, what value, what arrived. -/

namespace Sys2Proof

open Machine (Initiator Access Rail HostRequest Upset Hit TahrUpset Caught PairRun Draw ShadeEvent Fragment)

/-- The commands. -/
inductive Instr where
  /-- REGISTER_WRITE (R4): A write to a register that has no row of its own; checks write rights, width, alignment and reserved codes, then applies RW, W1C and W1S semantics. -/
  | registerWrite (who : Initiator) (addr : Nat) (size : Nat) (value : Word)
  /-- RC_READ (R6): A read of an RC field returns the value and clears it in one indivisible action. -/
  | rcRead (who : Initiator) (addr : Nat) (size : Nat)
  /-- SEL_LOAD (R221): A write to a selector register loads the registers that follow it within 0.1 µs. -/
  | selLoad (who : Initiator) (addr : Nat) (size : Nat) (value : Word)
  /-- MEMORY_ACCESS (R23): A read or write request reaches its target and is checked against the map, worlds, partitions, the gate and ECC. -/
  | memoryAccess (who : Initiator) (acc : Access) (hits : List Hit)
  /-- GRANULE_FILL_DONE (R199): The COPY or ZERO fill of a provisional slot completes and the stalled write is admitted. -/
  | granuleFillDone (die : Nat) (entry : Nat) (hits : List Hit)
  /-- OVER_BUDGET_END (R375): 100 µs after the last empty-bucket wait, the over-budget state ends. -/
  | overBudgetEnd (vi : Nat)
  /-- FAB_REPLAY (R15): A fabric flit fails its CRC and the link replays it. -/
  | fabReplay (die : Nat) (port : Nat) (ok : Bool)
  /-- FAB_LINK_DOWN (R15): After 16 failed replays the link is declared down, traffic is rerouted and requests caught on it fail. -/
  | fabLinkDown (die : Nat) (port : Nat) (caught : List Caught)
  /-- POSTED_WRITE_FAIL (R480): A posted write fails at its far side; a record and a log entry are written, and an MSI is sent if the log was empty. -/
  | postedWriteFail (who : Initiator) (addr : Nat) (code : Nat)
  /-- POWER_GOOD (R18): Every rail has been in tolerance for 2 ms, which starts the cold start sequence. -/
  | powerGood (cold : Bool)
  /-- SAFETY_IN_SERVICE (R72): The gateway, safety island and fallback are declared in service. -/
  | safetyInService (selfTests : Nat)
  /-- LPDDR6_TRAINING (R175): The controllers train every stack; an absent stack forces LINEAR mapping. -/
  | lpddr6Training (present : Nat)
  /-- GOLDEN_AREA_WRITE (R292): The loader hashes GOLDEN_SIGNATURES and writes each die's golden area. -/
  | goldenAreaWrite
  /-- COMPUTE_ISLAND_TEST (R71): Each compute island runs its extended self-test and golden test. -/
  | computeIslandTest (passed : Nat)
  /-- COMPUTE_READY (R70): The remaining records and lanes are loaded and the phase becomes COMPUTE_READY. -/
  | computeReady
  /-- RAIL_LOSS (R19): A supply rail leaves tolerance and the CV8 enters the safe state. -/
  | railLoss (rail : Rail)
  /-- RAIL_RESTORED (R19): A lost rail comes back into tolerance and the 2 ms wait starts. -/
  | railRestored (rail : Rail)
  /-- LOGIC_WARM_RESTART (R74): 2 ms after the rail returns, the logic restarts while the VIN_SAFE functions keep running. -/
  | logicWarmRestart
  /-- WHOLE_WARM_RESTART (R74): The whole device restarts, verifies the manifest again and scrubs memory. -/
  | wholeWarmRestart
  /-- BOOT_COMMIT (R80): The commit bit makes a TRIAL bank VALID and raises the rollback floor. -/
  | bootCommit (who : Initiator)
  /-- BOOT_SWITCH (R80): The switch bit makes the other bank the preferred TRIAL bank for the next cold start. -/
  | bootSwitch (who : Initiator)
  /-- BOOT_RESTART (R80): The restart bit requests a whole warm restart. -/
  | bootRestart (who : Initiator)
  /-- FLASH_PROGRAM (R82): The go bit starts erasing and programming the target bank from the staged image. -/
  | flashProgram (who : Initiator) (value : Word)
  /-- FLASH_PROGRAM_DONE (R82): Programming and read-back end and the bank is marked TRIAL, or a failure status is set. -/
  | flashProgramDone (written : Bool)
  /-- PACE_MONITOR_PERIOD (R38): Each 2 µs period, the pace monitor delivers its count of natural steps. -/
  | paceMonitorPeriod (cluster : Nat) (steps : Nat)
  /-- FIXED_PACE_LOST (R44): The fifth low reading, or a need for a set point below 0.78 V, makes every fixed-pace island leave fixed pace. -/
  | fixedPaceLost
  /-- FIXED_PACE_REQUEST (R45): A software request to re-enter fixed pace is accepted or refused with a status. -/
  | fixedPaceRequest (who : Initiator) (die : Nat) (value : Word)
  /-- PACE_TOKEN_RELEASE (R42): The token generator releases 125 tokens and counts any excess as slip. -/
  | paceTokenRelease (generator : Nat) (used : List Nat)
  /-- DROOP_INFORM (R40): An island crosses its INFORM threshold and the governor is signalled. -/
  | droopInform (die : Nat) (island : Nat)
  /-- DROOP_RAISE_END (R432): The 10 ms set-point raise after eight INFORM crossings ends. -/
  | droopRaiseEnd (die : Nat) (island : Nat)
  /-- MARGIN_LOST (R41): An island falls below 0.50 V, is frozen, and its unconfirmed tiles are discarded. -/
  | marginLost (die : Nat) (island : Nat)
  /-- LEVEL_RESERVATION (R51): A governor requests a level reservation from the governor across a die-to-die link. -/
  | levelReservation (src : Nat) (dst : Nat) (mv : Nat) (back : List Nat)
  /-- CROSSING_TEMP (R52): A crossing's temperature difference exceeds its limit and the hotter die lowers its island. -/
  | crossingTemp (die : Nat) (island : Nat) (other : Nat) (otherIsland : Nat)
  /-- OSC_FAIL (R54): The oscillator deviates from the relaxation reference or stops, and the device enters the safe state. -/
  | oscFail
  /-- CHAMOIS_PACE_LOST (R47): The chamois pace monitor reads low five times and the fallback becomes unavailable. -/
  | chamoisPaceLost
  /-- FALLBACK_RESTORED (R315): After 50 good pace readings and a passed chamois test, the fallback is available again. -/
  | fallbackRestored
  /-- NOP (R122): Tensor engine no-operation. -/
  | nop (te : Nat)
  /-- SOP (R123): Scalar arithmetic into a scalar register. -/
  | sop (te : Nat)
  /-- SCMP (R123): Compares scalars into a predicate. -/
  | scmp (te : Nat)
  /-- SLD (R123): Loads 64 bits into a scalar register. -/
  | sld (te : Nat)
  /-- SST (R123): Stores a scalar register. -/
  | sst (te : Nat)
  /-- PSET (R123): Predicate logic. -/
  | pset (te : Nat)
  /-- BR (R123): Branches, with optional link and indirect target. -/
  | br (te : Nat)
  /-- LOOP (R124): Starts a zero-overhead loop. -/
  | loop (te : Nat)
  /-- HALT (R142): Waits for the engine's writes and puts it in DONE. -/
  | halt (te : Nat)
  /-- AGSET (R126): Sets part of an address generator and resets its indices. -/
  | agset (te : Nat)
  /-- AGADV (R126): Advances an address generator. -/
  | agadv (te : Nat)
  /-- THSET (R127): Defines a tile handle. -/
  | thset (te : Nat)
  /-- THSWAP (R125): Exchanges two tile handles and their ready bits. -/
  | thswap (te : Nat)
  /-- TLD (R129): Issues a tile load from memory into a handle. -/
  | tld (te : Nat)
  /-- TLD_COMPLETE (R570): The data of an outstanding TLD arrives and the handle becomes ready. -/
  | tldComplete (te : Nat) (handle : Nat)
  /-- TST (R128): Stores a tile to memory. -/
  | tst (te : Nat) (upset : Upset)
  /-- TOPEN (R131): Opens a tile on a bank. -/
  | topen (te : Nat)
  /-- MMA (R133): Matrix multiply-accumulate into an open tile. -/
  | mma (te : Nat) (upset : Upset)
  /-- COMB (R135): Combines a reduction segment from entry images. -/
  | comb (te : Nat) (upset : Upset)
  /-- TCLOSE (R104): Closes a tile and compares residues. -/
  | tclose (te : Nat) (upset : Upset)
  /-- DRAIN (R134): Drains a bank with scale, bias, activation and conversion. -/
  | drain (te : Nat) (upset : Upset)
  /-- VOP (R136): Dispatches a vector operation. -/
  | vop (te : Nat) (upset : Upset)
  /-- WAIT (R137): Waits on event flags, with an optional timeout. -/
  | wait (te : Nat)
  /-- WAIT_TIMEOUT (R137): A WAIT's timeout expires and pd is written as 0. -/
  | waitTimeout (te : Nat)
  /-- SIGNAL (R138): Sets an event flag on a herd peer or a stream-engine ring. -/
  | signal (te : Nat)
  /-- EVENT_FLAG_ARRIVAL (R138): A SIGNAL's flag reaches the target engine and may satisfy its WAIT. -/
  | eventFlagArrival (te : Nat) (flag : Nat)
  /-- BAR (R138): Sends a herd barrier arrival, including a fence. -/
  | bar (te : Nat)
  /-- BARRIER_RELEASE (R243): The last arrival releases every party of a barrier. -/
  | barrierRelease (job : Nat) (barrier : Nat)
  /-- BARRIER_TIMEOUT (R138): A BAR's timeout expires and the engine faults. -/
  | barrierTimeout (te : Nat)
  /-- FENCE (R137): Waits for earlier writes and reports their status. -/
  | fence (te : Nat)
  /-- CMARK (R201): Records a confirm mark on granules with the gate. -/
  | cmark (te : Nat)
  /-- RIE (R140): Compares units and resolves speculation tokens. -/
  | rie (te : Nat) (upset : Upset)
  /-- CHKRD (R571): Reads check state into a scalar register. -/
  | chkrd (te : Nat)
  /-- SIG (R141): Signature control: CLEAR, ON or OFF. -/
  | sig (te : Nat)
  /-- ILLEGAL_OPCODE (R146): An instruction word whose opcode is not in the map faults the engine. -/
  | illegalOpcode (te : Nat)
  /-- WRITE_REFUSED_AT_TARGET (R126): A refusal of an engine write arrives from the target and the engine stops at its next boundary. -/
  | writeRefusedAtTarget (te : Nat) (addr : Nat)
  /-- TILE_INTERIM_CHECK (R132): A tile still open after 1 880 periods triggers an interim residue comparison. -/
  | tileInterimCheck (te : Nat) (upset : Upset)
  /-- TE_START (R148): The start bit loads TE_PROG and runs from instruction 0. -/
  | teStart (who : Initiator) (te : Nat)
  /-- TE_PREEMPT (R143): The preempt bit requests a stop at the next boundary and a save of the state. -/
  | tePreempt (who : Initiator) (te : Nat)
  /-- ENGINE_SAVED (R143): The engine finishes its writes, comparison and image save, and enters SAVED. -/
  | engineSaved (te : Nat) (upset : Upset)
  /-- TE_RESUME (R144): The resume bit loads and checks the saved image and continues. -/
  | teResume (who : Initiator) (te : Nat) (upset : Upset)
  /-- TE_ABORT (R145): The abort bit stops the engine without saving and fails its open tiles. -/
  | teAbort (who : Initiator) (te : Nat)
  /-- GRANULE_OWNER_WRITE (R158): A write to SPM_GRANULE that changes the owner starts a scrub of the granule. -/
  | granuleOwnerWrite (who : Initiator) (cluster : Nat) (granule : Nat) (value : Word)
  /-- GRANULE_SCRUB_DONE (R158): The scrub ends and stalled accesses to the granule proceed. -/
  | granuleScrubDone (cluster : Nat) (granule : Nat)
  /-- SPM_PATROL (R162): Patrol scrub reads and corrects scratchpad words. -/
  | spmPatrol (cluster : Nat) (hits : List Hit)
  /-- MEM_PATROL (R178): An LPDDR6 controller patrols its stack. -/
  | memPatrol (stack : Nat) (hits : List Hit)
  /-- SE_RING_TAIL_WRITE (R173): A ring tail write makes new descriptors available to issue. -/
  | seRingTailWrite (who : Initiator) (ring : Nat) (tail : Nat)
  /-- SE_RING_START (R173): Runs the ring from its head. -/
  | seRingStart (who : Initiator) (ring : Nat)
  /-- SE_RING_PAUSE (R172): Requests that the ring stop issuing and pause. -/
  | seRingPause (who : Initiator) (ring : Nat)
  /-- RING_PAUSED (R172): Outstanding requests complete and the ring enters PAUSED. -/
  | ringPaused (ring : Nat)
  /-- SE_RING_ABORT (R172): Aborts the ring and returns it to IDLE. -/
  | seRingAbort (who : Initiator) (ring : Nat)
  /-- SE_COPY (R167): A COPY descriptor moves rows from the source to the destination. -/
  | seCopy (ring : Nat)
  /-- SE_FILL (R167): A FILL descriptor writes the pattern over the destination shape. -/
  | seFill (ring : Nat)
  /-- SE_WAIT (R167): A WAIT descriptor holds the ring until its flag is set. -/
  | seWait (ring : Nat)
  /-- SE_SIGNAL (R167): A SIGNAL descriptor sets an engine flag. -/
  | seSignal (ring : Nat)
  /-- SE_FENCE (R167): A FENCE descriptor holds the ring until earlier descriptors complete. -/
  | seFence (ring : Nat)
  /-- RING_FLAG_SET (R165): An engine SIGNAL sets a ring flag, which may release a WAIT descriptor. -/
  | ringFlagSet (ring : Nat) (flag : Nat)
  /-- DESCRIPTOR_RETIRE (R168): A descriptor's writes are complete and it retires in ring order, signalling if requested. -/
  | descriptorRetire (ring : Nat) (same : Bool)
  /-- MC_REGISTER (R182): Registers a model for an instance. -/
  | mcRegister (queue : Nat)
  /-- MC_PIN (R185): Pins a model resident, loading it if absent. -/
  | mcPin (queue : Nat)
  /-- MC_UNPIN (R190): Unpins a model. -/
  | mcUnpin (queue : Nat)
  /-- MC_RELEASE (R190): Releases a model registration, deferred while in use. -/
  | mcRelease (queue : Nat)
  /-- MC_PREFETCH (R189): Requests a BULK model load. -/
  | mcPrefetch (queue : Nat)
  /-- MC_QUERY (R191): Returns a model's cache state. -/
  | mcQuery (queue : Nat)
  /-- MODEL_LOAD_DONE (R187): A model load completes as RESIDENT, or fails and leaves the model ABSENT. -/
  | modelLoadDone (vi : Nat) (id : Nat) (se : Nat) (same : Bool)
  /-- CB_REGISTER (R194): Registers a confirmable buffer. -/
  | cbRegister (queue : Nat) (die : Nat) (buffer : Nat)
  /-- CB_RELEASE (R194): Unregisters a buffer after copying confirmed slots into the public range. -/
  | cbRelease (queue : Nat)
  /-- CB_QUERY (R194): Returns version-table entries. -/
  | cbQuery (queue : Nat)
  /-- CB_SHARE (R194): Replaces a buffer's reader mask. -/
  | cbShare (queue : Nat)
  /-- GROUP_CONFIRM (R205): The last confirm condition of a MARKED group becomes true and the group flips indivisibly. -/
  | groupConfirm (die : Nat) (entry : Nat)
  /-- RESOLVE_DOORBELL (R208): A resolve word written to a doorbell resolves tokens at the home gate. -/
  | resolveDoorbell (who : Initiator) (queue : Nat) (value : Word)
  /-- TOKEN_DEADLINE (R208): Tokens still pending at the resolve deadline resolve false. -/
  | tokenDeadline (job : Nat)
  /-- DOORBELL_TAIL (R229): A tail write to a submission or system queue doorbell. -/
  | doorbellTail (who : Initiator) (queue : Nat) (value : Nat)
  /-- COMPLETION_HEAD_DOORBELL (R229): A head write to a completion queue frees room and releases held records. -/
  | completionHeadDoorbell (who : Initiator) (queue : Nat) (value : Nat)
  /-- JOB_RECORD_FETCH (R233): The scheduler fetches and checks a job record and takes a job context, or refuses it. -/
  | jobRecordFetch (queue : Nat)
  /-- MSI_COALESCE_TIMEOUT (R376): The oldest unsignalled completion reaches its time limit and the MSI is sent. -/
  | msiCoalesceTimeout (queue : Nat)
  /-- JOB_DISPATCH (R242): A job is placed on engines and starts on every rank. -/
  | jobDispatch (job : Nat) (tes : List Nat) (slots : List Nat)
  /-- JOB_PREEMPT (R244): The firmware pre-empts a victim job whole. -/
  | jobPreempt (job : Nat) (needing : Nat)
  /-- SPILL_DONE (R248): The spill copies of a victim's granules complete and the granules are scrubbed. -/
  | spillDone (job : Nat) (needer : Nat) (se : Nat) (granules : List Nat) (copies : List Nat)
  /-- JOB_RESUME (R246): A pre-empted job resumes once engines are free, starting with its refill. -/
  | jobResume (job : Nat) (tes : List Nat)
  /-- REFILL_DONE (R249): The spilled granules are restored and the ranks load their images. -/
  | refillDone (job : Nat) (same : Bool)
  /-- RT_BUDGET_END (R239): At budget end the RT dispatcher aborts every unhalted job of the partition. -/
  | rtBudgetEnd (partition : Nat)
  /-- XDIE_PREEMPT (R255): SCH_XDIE PREEMPT reaches the engine of a rank on any die. -/
  | xdiePreempt (who : Initiator) (die : Nat) (job : Nat) (rank : Nat)
  /-- XDIE_RESUME (R255): SCH_XDIE RESUME. -/
  | xdieResume (who : Initiator) (die : Nat) (job : Nat) (rank : Nat)
  /-- XDIE_ABORT (R255): SCH_XDIE ABORT. -/
  | xdieAbort (who : Initiator) (die : Nat) (job : Nat) (rank : Nat)
  /-- XDIE_PAUSE_RINGS (R255): SCH_XDIE PAUSE_RINGS. -/
  | xdiePauseRings (who : Initiator) (die : Nat) (job : Nat) (rank : Nat)
  /-- SCH_EVENT_READ (R255): A read of SCH_EVENT returns and removes the next die event. -/
  | schEventRead (who : Initiator) (die : Nat)
  /-- SAMPLE_INGEST (R259): A sample arrives on a lane, flow or ring and is timestamped. -/
  | sampleIngest (stream : Nat) (capture : Nat) (damage : List Nat) (data : List Byte)
  /-- SLOT_COMPLETE (R264): A sample finishes stages 3 to 8 and its slot is written. -/
  | slotComplete (stream : Nat) (lost : List Nat) (refsLost : List Nat)
  /-- DECODE_ABORT (R276): A decode reaches 4 × its budget and is aborted. -/
  | decodeAbort (stream : Nat) (undecoded : List Nat)
  /-- WINDOW_OPEN (R268): A group window opens and a FREE buffer starts FILLING. -/
  | windowOpen (group : Nat)
  /-- WINDOW_CLOSE (R268): At the close, incomplete slots become MISSING and the batch becomes PREPARED. -/
  | windowClose (group : Nat)
  /-- RT_CONSUME_DEADLINE (R278): No batch of the frame has been acquired by consume_offset, so the frame is missing. -/
  | rtConsumeDeadline (group : Nat)
  /-- GROUP_ACQUIRE (R270): A read of IPP_GRP_ACQ acquires the oldest PREPARED buffer. -/
  | groupAcquire (who : Initiator) (group : Nat)
  /-- GROUP_RELEASE (R270): A write of IPP_GRP_REL frees a HELD buffer. -/
  | groupRelease (who : Initiator) (group : Nat) (index : Nat)
  /-- PARAMETER_LOAD (R282): Copies a new parameter block into the store for the next window. -/
  | parameterLoad (who : Initiator) (stream : Nat) (src : Nat)
  /-- STREAM_RESET (R279): Clears the stream's reference store and makes its open slot MISSING. -/
  | streamReset (who : Initiator) (stream : Nat)
  /-- FALLBACK_CLOSE (R313): At fb_close the fallback batch closes and the fallback network run starts. -/
  | fallbackClose
  /-- FRAME_START (R290): A safety frame starts; partition engines and chamois engines begin their golden tests and waiting RT jobs are examined. -/
  | frameStart
  /-- GT_OPEN (R299): At gt_open, tests start on idle shared engines. -/
  | gtOpen
  /-- GT_FORCED_POINT (R299): At the forced point, jobs on untested shared engines are pre-empted and tested. -/
  | gtForcedPoint
  /-- GOLDEN_TEST_END (R294): A golden test ends and its signature is compared; a pass or fail goes to the gates. -/
  | goldenTestEnd (te : Nat)
  /-- CONFIRM_POINT (R302): At the confirm point, any test not yet ended is missed. -/
  | confirmPoint
  /-- DECISION_POINT (R287): Live states become decided states for the frame. -/
  | decisionPoint
  /-- FALLBACK_RUN_END (R314): The chamois fallback run ends and its output may become AVAILABLE. -/
  | fallbackRunEnd
  /-- FALLBACK_DEADLINE (R314): At the fallback deadline the frame's fallback availability is fixed. -/
  | fallbackDeadline
  /-- ENGINE_RETEST_END (R316): The retests and extended self-test of a quarantined engine end. -/
  | engineRetestEnd (te : Nat) (passed : Bool) (unitPassed : Bool)
  /-- STATUS_FRAME (R307): A status frame is sampled and sent on a safety status channel. -/
  | statusFrame (channel : Nat)
  /-- REQUEST_SAFE (R305): SAF_CTRL request_safe enters the device safe state. -/
  | requestSafe (who : Initiator)
  /-- PAIR_CHECKPOINT (R330): A pair takes a checkpoint and the comparator compares the two signatures. -/
  | pairCheckpoint (pair : Nat) (leader : Option PairRun) (follower : Option PairRun)
  /-- PAIR_COMPARATOR_TEST (R333): The comparator test of a pair runs and ends. -/
  | pairComparatorTest (pair : Nat) (passed : Bool)
  /-- TAHR_NOP (R345): Tahr no-operation. -/
  | tahrNop (seq : Nat) (upset : TahrUpset)
  /-- TAHR_ALU (R346): Register ALU operation. -/
  | tahrAlu (seq : Nat) (upset : TahrUpset)
  /-- TAHR_ADDI (R345): Add immediate. -/
  | tahrAddi (seq : Nat) (upset : TahrUpset)
  /-- TAHR_ANDI (R345): AND immediate. -/
  | tahrAndi (seq : Nat) (upset : TahrUpset)
  /-- TAHR_ORI (R345): OR immediate. -/
  | tahrOri (seq : Nat) (upset : TahrUpset)
  /-- TAHR_XORI (R345): XOR immediate. -/
  | tahrXori (seq : Nat) (upset : TahrUpset)
  /-- TAHR_SHI (R345): Shift by an immediate amount. -/
  | tahrShi (seq : Nat) (upset : TahrUpset)
  /-- TAHR_MOVI (R345): Move immediate. -/
  | tahrMovi (seq : Nat) (upset : TahrUpset)
  /-- TAHR_LUI (R345): Load upper immediate. -/
  | tahrLui (seq : Nat) (upset : TahrUpset)
  /-- TAHR_LD (R343): Loads a word. -/
  | tahrLd (seq : Nat) (upset : TahrUpset)
  /-- TAHR_LDH (R343): Loads a half-word. -/
  | tahrLdh (seq : Nat) (upset : TahrUpset)
  /-- TAHR_LDB (R343): Loads a byte. -/
  | tahrLdb (seq : Nat) (upset : TahrUpset)
  /-- TAHR_ST (R343): Stores a word. -/
  | tahrSt (seq : Nat) (upset : TahrUpset)
  /-- TAHR_STH (R343): Stores a half-word. -/
  | tahrSth (seq : Nat) (upset : TahrUpset)
  /-- TAHR_STB (R343): Stores a byte. -/
  | tahrStb (seq : Nat) (upset : TahrUpset)
  /-- TAHR_BEXT (R349): Extracts a register bit field. -/
  | tahrBext (seq : Nat) (upset : TahrUpset)
  /-- TAHR_BINS (R349): Inserts a register bit field. -/
  | tahrBins (seq : Nat) (upset : TahrUpset)
  /-- TAHR_BEXTM (R349): Extracts a memory bit field. -/
  | tahrBextm (seq : Nat) (upset : TahrUpset)
  /-- TAHR_BINSM (R349): Inserts a memory bit field. -/
  | tahrBinsm (seq : Nat) (upset : TahrUpset)
  /-- TAHR_RSCL (R348): Rescales a signal with clamping. -/
  | tahrRscl (seq : Nat) (upset : TahrUpset)
  /-- TAHR_TLX (R350): Indexed table lookup. -/
  | tahrTlx (seq : Nat) (upset : TahrUpset)
  /-- TAHR_TLK (R350): Keyed table lookup. -/
  | tahrTlk (seq : Nat) (upset : TahrUpset)
  /-- TAHR_CRC (R351): CRC over register bytes. -/
  | tahrCrc (seq : Nat) (upset : TahrUpset)
  /-- TAHR_CRCM (R351): CRC over memory bytes. -/
  | tahrCrcm (seq : Nat) (upset : TahrUpset)
  /-- TAHR_BR (R346): Conditional branch. -/
  | tahrBr (seq : Nat) (upset : TahrUpset)
  /-- TAHR_JAL (R345): Jump and link. -/
  | tahrJal (seq : Nat) (upset : TahrUpset)
  /-- TAHR_JR (R345): Jump to a register, with link. -/
  | tahrJr (seq : Nat) (upset : TahrUpset)
  /-- TAHR_RECV (R352): Receives a word from an input port. -/
  | tahrRecv (seq : Nat) (upset : TahrUpset)
  /-- TAHR_SEND (R352): Sends a word to an output port; on a gateway this submits an egress message. -/
  | tahrSend (seq : Nat) (upset : TahrUpset)
  /-- TAHR_WAIT (R353): Waits for selected events and returns the pending bits. -/
  | tahrWait (seq : Nat) (upset : TahrUpset)
  /-- TAHR_TIME (R345): Reads the time counter. -/
  | tahrTime (seq : Nat) (upset : TahrUpset)
  /-- TAHR_TMR (R345): Sets or stops the periodic timer. -/
  | tahrTmr (seq : Nat) (upset : TahrUpset)
  /-- TAHR_GETF (R345): Reads and clears the sticky flags. -/
  | tahrGetf (seq : Nat) (upset : TahrUpset)
  /-- TAHR_HALT (R345): The sequencer stops in IDLE. -/
  | tahrHalt (seq : Nat) (upset : TahrUpset)
  /-- TAHR_TIMER (R353): The sequencer's timer expires and sets e8. -/
  | tahrTimer (seq : Nat)
  /-- TAHR_EVENT (R353): A port message or site event sets an event bit, which may end a WAIT. -/
  | tahrEvent (seq : Nat) (event : Nat) (message : List Nat)
  /-- TAHR_ACTIVATION_LIMIT (R354): An activation reaches its site limit and faults. -/
  | tahrActivationLimit (seq : Nat)
  /-- TAHR_RESTART (R356): A faulted gateway or governor sequencer restarts automatically from the program store. -/
  | tahrRestart (seq : Nat)
  /-- TSQ_RESTART (R363): The TSQ_CTRL restart bit restarts a FAULTED or STOPPED sequencer. -/
  | tsqRestart (who : Initiator) (seq : Nat)
  /-- TSQ_STOP (R363): The TSQ_CTRL stop bit stops an INPUT sequencer at its next WAIT. -/
  | tsqStop (who : Initiator) (seq : Nat)
  /-- TABLE_SWAP (R359): TSQ_SWAP go requests a table swap on a gateway sequencer. -/
  | tableSwap (who : Initiator) (seq : Nat) (table : Nat) (variant : Nat)
  /-- TABLE_SWAP_DONE (R359): The swap copy, started at the next WAIT, completes and e9 is set. -/
  | tableSwapDone (seq : Nat)
  /-- SE_BIND (R360): TSQ_SE_BIND with enable set binds a ring and loads its STREAM program. -/
  | seBind (who : Initiator) (value : Word)
  /-- SE_UNBIND (R360): TSQ_SE_BIND with enable clear ends the ring's program. -/
  | seUnbind (who : Initiator) (value : Word)
  /-- VI_CREATE (R369): Creates an instance and commits its staged configuration. -/
  | viCreate (who : Initiator) (vi : Nat)
  /-- VI_RESIZE (R378): Resizes an instance. -/
  | viResize (who : Initiator) (vi : Nat) (shrinkNow : Bool)
  /-- VI_RESET (R379): Starts an instance reset. -/
  | viReset (who : Initiator) (vi : Nat)
  /-- VI_RESET_DONE (R379): After posted writes drain, the reset completes and queues are reset. -/
  | viResetDone (vi : Nat)
  /-- VI_RESET_LATE (R380): A reset not complete by 2 ms is recorded. -/
  | viResetLate (vi : Nat)
  /-- VI_QUIESCE (R381): Freezes the instance's queues and lets accepted work finish. -/
  | viQuiesce (who : Initiator) (vi : Nat)
  /-- VI_QUIESCED (R381): The last live work ends and the instance becomes QUIESCED. -/
  | viQuiesced (vi : Nat)
  /-- VI_RESUME (R381): Returns a QUIESCED instance to ACTIVE. -/
  | viResume (who : Initiator) (vi : Nat)
  /-- VI_REMOVE (R382): Removes a QUIESCED instance. -/
  | viRemove (who : Initiator) (vi : Nat)
  /-- FUNCTION_LEVEL_RESET (R384): An FLR of a virtual function starts its instance reset. -/
  | functionLevelReset (function : Nat)
  /-- DMA_TO_IOVA (R371): A DMA descriptor moves bytes from the reach to an IOVA. -/
  | dmaToIova (queue : Nat)
  /-- DMA_FROM_IOVA (R371): A DMA descriptor moves bytes from an IOVA into the reach. -/
  | dmaFromIova (queue : Nat)
  /-- DMA_COMPLETE (R482): Every write of a DMA descriptor has landed or failed and its completion is written. -/
  | dmaComplete (queue : Nat)
  /-- WATERMARK_MOVE (R393): SEC_WM_CMD go starts lowering or raising a watermark, or refuses it. -/
  | watermarkMove (who : Initiator) (target : Nat) (mark : Nat)
  /-- WATERMARK_MOVE_DONE (R396): The scrub of the moved range ends and the mark moves. -/
  | watermarkMoveDone (target : Nat)
  /-- WATERMARK_GRANT (R395): The steward publishes a raise grant. -/
  | watermarkGrant (who : Initiator) (target : Nat) (upTo : Nat)
  /-- SECURE_HOLD (R397): The vault places a secure hold on a block. -/
  | secureHold (who : Initiator) (block : Nat)
  /-- SECURE_RELEASE (R402): The vault releases a hold and the block is scrubbed. -/
  | secureRelease (who : Initiator) (block : Nat)
  /-- SECURE_HOLD_FORCED (R403): 100 µs after a thermal emergency, still-held blocks are aborted, scrubbed and parked. -/
  | secureHoldForced
  /-- WATCHDOG_KICK (R404): The vault writes the complemented challenge and the period restarts; any other value counts as expiry. -/
  | watchdogKick (who : Initiator) (value : Nat)
  /-- WATCHDOG_EXPIRY (R405): The secure watchdog expires and the device enters the safe state. -/
  | watchdogExpiry
  /-- SEC_TE_START (R419): The vault starts a vault job on a held engine. -/
  | secTeStart (who : Initiator)
  /-- SEC_TE_PREEMPT (R419): The vault pre-empts a vault job. -/
  | secTePreempt (who : Initiator)
  /-- SEC_TE_RESUME (R419): The vault resumes a vault job. -/
  | secTeResume (who : Initiator)
  /-- SEC_TE_ABORT (R419): The vault aborts a vault job. -/
  | secTeAbort (who : Initiator)
  /-- ATTEST (R412): The vault writes a signed attestation report. -/
  | attest (queue : Nat)
  /-- ATTEST_KEY (R411): Writes the unit identity and the attestation public key. -/
  | attestKey (queue : Nat)
  /-- TO_DEV (R415): A lifecycle request seals page 2. -/
  | toDev (who : Initiator) (flashOk : Bool)
  /-- SET_DEV_ROOT (R415): A lifecycle request writes the development key page. -/
  | setDevRoot (who : Initiator) (flashOk : Bool)
  /-- TO_PROD (R415): A lifecycle request seals the OEM root, generates the key and seals page 3. -/
  | toProd (who : Initiator) (flashOk : Bool)
  /-- ATTEST_KEY_GENERATED (R409): Generation of the attestation key completes. -/
  | attestKeyGenerated (flashOk : Bool)
  /-- TO_RETIRED (R415): A lifecycle request erases the vault store and seals page 4. -/
  | toRetired (who : Initiator) (flashOk : Bool)
  /-- GOVERNOR_PERIOD (R424): Each 2 µs period, the governors estimate power and apply the cap stages and pacing. -/
  | governorPeriod (counters : List Nat) (temps : List Nat)
  /-- CAP_WRITE (R425): The steward writes a new package cap. -/
  | capWrite (who : Initiator) (watts : Nat)
  /-- PARK (R428): PWR_PARK PARK requests that an engine be parked. -/
  | park (who : Initiator) (die : Nat) (engine : Nat)
  /-- ENGINE_PARKED (R428): The engine's job is saved and the engine is power-gated. -/
  | engineParked (te : Nat)
  /-- UNPARK (R428): PWR_PARK UNPARK requests a wake of an engine. -/
  | unpark (who : Initiator) (die : Nat) (engine : Nat)
  /-- WITHDRAW (R401): PWR_PARK WITHDRAW withdraws a parked request. -/
  | withdraw (who : Initiator) (die : Nat) (engine : Nat)
  /-- WAKE_GRANT (R431): The slew bucket grants a waiting wake. -/
  | wakeGrant
  /-- THERMAL_THROTTLE (R434): An island reads 110 °C or more and is throttled. -/
  | thermalThrottle (die : Nat) (island : Nat)
  /-- THERMAL_EMERGENCY (R434): An island reads 120 °C or more and the emergency is decided. -/
  | thermalEmergency (die : Nat) (island : Nat)
  /-- THERMAL_EMERGENCY_END (R434): Every island has read 112 °C or less for 10 ms and the emergency ends. -/
  | thermalEmergencyEnd
  /-- THERMAL_TRIP (R435): The 130 °C comparator trips the device into the safe state. -/
  | thermalTrip (die : Nat)
  /-- TRIP_RECOVERY (R435): After 1 s at 95 °C or less, a whole warm restart follows. -/
  | tripRecovery
  /-- GFX_PREEMPT (R447): Pre-empts a graphics context at tile boundaries. -/
  | gfxPreempt (who : Initiator) (ctx : Nat) (tiles : List Nat) (events : List ShadeEvent)
  /-- GFX_ABORT (R447): Aborts a graphics context. -/
  | gfxAbort (who : Initiator) (ctx : Nat)
  /-- GFX_RESUME (R447): Resumes a graphics context. -/
  | gfxResume (who : Initiator) (ctx : Nat) (draw : Option Draw)
  /-- GFX_TILE_TIMEOUT (R447): A tile shading for 500 µs is aborted and its context faults. -/
  | gfxTileTimeout (ctx : Nat)
  /-- GFX_FLUSH (R450): Full tile lists force a flush of the pass so far. -/
  | gfxFlush (ctx : Nat) (events : List ShadeEvent) (rest : List (List Fragment))
  /-- COMPOSITION_START (R454): The compositor starts a frame's composition comp_lead before the frame start. -/
  | compositionStart (pipe : Nat) (draw : Option Draw) (events : List ShadeEvent)
  /-- DISPLAY_LATCH (R457): At the latch, qualifying flips apply and version snapshots are read. -/
  | displayLatch (pipe : Nat)
  /-- DISPLAY_LINE (R456): A display line starts and is scanned. -/
  | displayLine (pipe : Nat) (line : Nat) (ready : Bool)
  /-- DISPLAY_STATUS_PACKET (R458): A cleared valid bit or a safe-state entry is sent at once in a STATUS packet. -/
  | displayStatusPacket (pipe : Nat)
  /-- DISPLAY_FLIP (R460): DSP_FLIP go stages a new layer base. -/
  | displayFlip (who : Initiator) (pipe : Nat) (value : Word)
  /-- TELLTALE_STATE_WRITE (R463): A write selects a telltale region's state. -/
  | telltaleStateWrite (who : Initiator) (region : Nat) (value : Nat)
  /-- TELLTALE_APPLY (R463): At the apply point, the new state starts rendering into the plane. -/
  | telltaleApply (region : Nat)
  /-- TELLTALE_RENDER_DONE (R463): The region render completes and applied is set. -/
  | telltaleRenderDone (region : Nat) (wrong : List (Nat × Nat))
  /-- TELLTALE_CHECK (R464): Each telltale frame, each region's plane and scan CRCs are checked. -/
  | telltaleCheck (region : Nat) (badWord : Bool) (wrong : List (Nat × Nat))
  /-- MEDIA_SESSION_OPEN (R470): Opens a media codec session. -/
  | mediaSessionOpen (who : Initiator) (session : Nat) (value : Word)
  /-- MEDIA_SESSION_CLOSE (R470): Closes a media codec session. -/
  | mediaSessionClose (who : Initiator) (session : Nat)
  /-- HOST_INBOUND_REQUEST (R477): An inbound PCI Express request is mapped, translated and checked. -/
  | hostInboundRequest (req : HostRequest)
  /-- HP_LINK_DOWN (R478): DL_Down or a 1 ms credit wait declares the link down and fails pending requests. -/
  | hpLinkDown (link : Nat) (lost : List Caught)
  /-- HP_FENCE_READ (R482): A read of HP_FENCE reports the posted writes of the reading stream. -/
  | hpFenceRead (who : Initiator)
  /-- INBOUND_ATOMIC (R485): An inbound AtomicOp is emulated under a line claim. -/
  | inboundAtomic (req : HostRequest) (refused : Bool)
  /-- BR_LOCK_TIMEOUT (R485): A line claim held for 8 µs is released and its sequence fails. -/
  | brLockTimeout (line : Nat)
  /-- INBOUND_LOCKED_READ (R487): An MRdLk starts a locked sequence on its line. -/
  | inboundLockedRead (req : HostRequest)
  /-- UNLOCK (R487): An Unlock message releases the locked line. -/
  | unlock (link : Nat)
  /-- OUTBOUND_AMO (R486): An AMO aimed at outbound space is carried natively or emulated. -/
  | outboundAmo (who : Initiator) (addr : Nat) (op : Nat) (size : Nat) (value : Word) (refused : Bool)
  /-- CLAIM_BACKOFF_RETRY (R488): After its back-off, a refused higher-numbered side retries its claims. -/
  | claimBackoffRetry (seq : Nat) (refused : Bool)
  /-- GW_INGRESS_MESSAGE (R490): A gateway message is looked up and, on a hit, a notice is placed in the sequencer's mp0. -/
  | gwIngressMessage (isQueue : Bool) (flow : Nat) (bus : Nat) (format : Nat) (identifier : Nat) (sdt : Nat) (vcid : Nat) (flags : Nat) (af : Nat) (payload : List Byte)
  /-- GW_IN_ENTRY (R496): A gateway IN queue entry is fetched and becomes a notice. -/
  | gwInEntry (queue : Nat)
  /-- GW_CONTEXT_ENABLE (R499): A write of a toggleable route context's enable sets e10 on the serving sequencers. -/
  | gwContextEnable (who : Initiator) (context : Nat) (enable : Bool)
  /-- ETH_FRAME_RECEIVE (R512): An Ethernet frame is classified to a flow context or forwarded. -/
  | ethFrameReceive (port : Nat) (frame : List Byte)
  /-- ETH_TRANSMIT (R513): A transmit entry is read and its frame is queued for egress. -/
  | ethTransmit (queue : Nat)
  /-- LAUNCH_TIME (R517): A launch-time frame becomes eligible and is sent, sent late or dropped. -/
  | launchTime (port : Nat)
  /-- GCL_ENTRY_EXPIRY (R516): A gate control list interval ends and the next gate states apply. -/
  | gclEntryExpiry (port : Nat)
  /-- GCL_STAGE (R516): NET_GCL go stages a replacement gate list. -/
  | gclStage (who : Initiator) (port : Nat) (src : Nat)
  /-- GCL_CONFIG_CHANGE (R516): At its configuration-change time the staged list becomes operational. -/
  | gclConfigChange (port : Nat)
  /-- PTP_SYNC (R519): An IEEE 802.1AS Sync updates a domain's estimate and the driving servo. -/
  | ptpSync (domain : Nat) (gm : Nat) (offset : Int) (rate : Int) (servo : Int)
  /-- SYNC_RECEIPT_TIMEOUT (R519): Syncs are missing for three intervals and the domain becomes LOST. -/
  | syncReceiptTimeout (domain : Nat)
  /-- TIME_READ (R528): A read of TIM_NOW_A latches TIM_NOW_B. -/
  | timeRead (who : Initiator)
  /-- ULK_LANE_ENABLE (R523): An enabled display transmitter sends IDLE and ALIGN before its first SOP. -/
  | ulkLaneEnable (who : Initiator) (die : Nat) (lane : Nat) (enable : Bool)
  /-- ULK_LIGHT_DETECTED (R523): A dark camera lane detects light and starts locking. -/
  | ulkLightDetected (die : Nat) (lane : Nat)
  /-- ULK_LOCKED (R523): 64 valid sync headers lock the lane. -/
  | ulkLocked (die : Nat) (lane : Nat)
  /-- ULK_ALIGNED (R523): Two ALIGN counters bring the lane UP. -/
  | ulkAligned (die : Nat) (lane : Nat)
  /-- ULK_LOCK_LOST (R523): 16 invalid headers within 1 024 blocks lose lock. -/
  | ulkLockLost (die : Nat) (lane : Nat)
  /-- ULK_SOP (R522): An SOP packet starts a picture. -/
  | ulkSop (die : Nat) (lane : Nat) (body : List Byte)
  /-- ULK_LINE (R522): A LINE packet delivers a picture line. -/
  | ulkLine (die : Nat) (lane : Nat) (body : List Byte)
  /-- ULK_EOP (R522): An EOP packet closes a picture. -/
  | ulkEop (die : Nat) (lane : Nat) (body : List Byte)
  /-- FW_LOAD (R536): Loads and verifies a control-firmware image into every pair. -/
  | fwLoad (who : Initiator)
  /-- FW_LOADED (R536): The firmware reconciles and sets fw_attached; the phase becomes FULL_SERVICE. -/
  | fwLoaded (die : Nat)
  /-- FW_STAGE (R538): Verifies an image and copies it into the free slot. -/
  | fwStage (who : Initiator)
  /-- FW_ACTIVATE (R541): Requests a hand-off to the staged image, or waits during an emergency. -/
  | fwActivate (who : Initiator)
  /-- HANDOFF_START (R541): The hand-off begins at the go write, or when the emergency bit clears. -/
  | handoffStart
  /-- FW_HANDOFF (R541): The new firmware reports ready and fw_attached is set. -/
  | fwHandoff (die : Nat) (sections : Option (List (Nat × List Byte)))
  /-- FW_ROLLBACK (R542): A failed hand-off rolls back to the old firmware. -/
  | fwRollback (die : Nat)
  /-- FW_ACTIVATION_EXPIRED (R543): A waiting activation expires after 60 s. -/
  | fwActivationExpired
  /-- FW_CANCEL (R538): Discards a staged image. -/
  | fwCancel (who : Initiator)
  /-- FW_COMMIT (R544): Raises the firmware floor. -/
  | fwCommit (who : Initiator)
  /-- FW_RELOADED (R537): After a miscompare and retest, the kept copy is reloaded into the pair. -/
  | fwReloaded (pair : Nat)
  /-- DRIVER_HEARTBEAT (R546): A heartbeat write resets the miss count. -/
  | driverHeartbeat (who : Initiator) (slot : Nat)
  /-- HEARTBEAT_WINDOW (R546): A 10 ms window ends without a heartbeat and a miss is counted. -/
  | heartbeatWindow (slot : Nat)
  /-- DRIVER_ATTACH (R549): An attach write attaches or re-attaches a slot. -/
  | driverAttach (who : Initiator) (slot : Nat)
  /-- DRIVER_DETACH (R546): A detach write makes the slot LOST. -/
  | driverDetach (who : Initiator) (slot : Nat)
  /-- FW_TEARDOWN (R550): The slot stays LOST for teardown_s and its instances are reset. -/
  | fwTeardown (slot : Nat)
  /-- ERROR_RECORD_ARRIVAL (R559): An error record reaches the collector and is stored, suppressed or lost. -/
  | errorRecordArrival (corrupt : Bool)
  /-- ERR_NEXT_READ (R558): A read of ERR_NEXT takes the next record into handling. -/
  | errNextRead (who : Initiator)
  /-- ERR_DONE (R558): Marks a record done and advances the tail. -/
  | errDone (who : Initiator) (index : Nat)
  /-- ERR_INJECT (R564): Writes an injected error record. -/
  | errInject (who : Initiator) (value : Word)
  /-- HEALTH_LOG_WRITE (R563): A record is written to the health log in flash. -/
  | healthLogWrite
  /-- HLOG_READ (R565): A write of CFG_HLOG_SEL loads a health-log entry from flash. -/
  | hlogRead (who : Initiator) (value : Nat)
  /-- PAIR_ADDRESS_MISCOMPARE (R327): A forwarded address differs from the address the follower computes, which is a miscompare detected at once. -/
  | pairAddressMiscompare (pair : Nat) (count : Nat)
  /-- HOST_LINK_UP (R474): A host-port link detects its partner by beacons, trains and reports DL_Up, so dl_up becomes 1. -/
  | hostLinkUp (link : Nat) (speed : Nat) (width : Nat) (atomics : Bool)
  /-- ETH_LINK_UP (R510): An Ethernet port's 802.3cz link comes up and link_up is set. -/
  | ethLinkUp (port : Nat)
  /-- ETH_LINK_DOWN (R510): An Ethernet port's link goes down; link_up clears and its flows deliver nothing. -/
  | ethLinkDown (port : Nat)
  /-- FALLBACK_SLOT_COMPLETE (R313): The fallback preparation path finishes a sample and writes its slot into chamois SRAM. -/
  | fallbackSlotComplete (slot : Nat)
deriving DecidableEq, Repr

end Sys2Proof
end

