-- ==== Sys2Proof/Decode.lean ====
section
/-! DEFINITION. The words of the table. The table of operations and events gives no row a bit pattern: a command comes
from outside the device as an access or an event, and no word of the table spells one. -/

namespace Sys2Proof

/-- The command that a word of the table spells: none, for no row of the table has bits. -/
def decodeTableWord (_nbits _w : Nat) : Option Instr := none

end Sys2Proof
end

