-- ==== Sys2Proof/Machine/Bits.lean ====
section
/-! DEFINITION. Bit fields of numbers, little-endian byte lists, and the sparse maps that State is made of. -/

namespace Sys2Proof.Machine

/-- Bits [lo + w - 1 : lo] of n. -/
def bits (n lo w : Nat) : Nat := n / 2 ^ lo % 2 ^ w

/-- n with its bits [lo + w - 1 : lo] replaced by the low w bits of v. -/
def setBits (n lo w v : Nat) : Nat :=
  n % 2 ^ lo + v % 2 ^ w * 2 ^ lo + n / 2 ^ (lo + w) * 2 ^ (lo + w)

/-- Bit i of n. -/
def bit (n i : Nat) : Bool := n / 2 ^ i % 2 == 1

/-- n with bit i set to b. -/
def setBit (n i : Nat) (b : Bool) : Nat := setBits n i 1 b.toNat

/-- The number of ones among the low k bits of n. -/
def popcount (n : Nat) : Nat → Nat
  | 0 => 0
  | k + 1 => popcount n k + n / 2 ^ k % 2

/-- The numbers below k whose bit is set in n, rising. -/
def onesBelow (n k : Nat) : List Nat := (List.range k).filter (bit n)

/-- The mask with a one for every member of the list. -/
def maskOf : List Nat → Nat
  | [] => 0
  | i :: is => setBit (maskOf is) i true

/-- v read as a two's complement number of w bits. -/
def signed (v w : Nat) : Int :=
  if v % 2 ^ w < 2 ^ (w - 1) then (v % 2 ^ w : Nat) else (v % 2 ^ w : Nat) - (2 ^ w : Nat)

/-- The two's complement code of i in w bits. -/
def unsigned (i : Int) (w : Nat) : Nat := (i % (2 ^ w : Nat)).toNat

/-- Addition that stops at the largest value of w bits. -/
def satAdd (a b w : Nat) : Nat := min (a + b) (2 ^ w - 1)

/-- The number that a little-endian byte list holds. -/
def leNat : List Byte → Nat
  | [] => 0
  | b :: bs => b.toNat + 256 * leNat bs

/-- The k bytes of n, little-endian. -/
def leBytes (n : Nat) : Nat → List Byte
  | 0 => []
  | k + 1 => BitVec.ofNat 8 n :: leBytes (n / 256) k

/-- The number that a big-endian byte list holds. -/
def beNat (bs : List Byte) : Nat := leNat bs.reverse

/-- The k bytes of n, big-endian. -/
def beBytes (n k : Nat) : List Byte := (leBytes n k).reverse

/-- Bytes [off, off + len) of a list, with zeros past its end. -/
def byteSlice (bs : List Byte) (off len : Nat) : List Byte :=
  let got := (bs.drop off).take len
  got ++ List.replicate (len - got.length) 0

/-- The little-endian number in bytes [off, off + len) of a list. -/
def leAt (bs : List Byte) (off len : Nat) : Nat := leNat (byteSlice bs off len)

/-- The value of a sparse map at a key. -/
def storeFind {α : Type} : Store α → Nat → Option α
  | [], _ => none
  | (k, v) :: t, a => if k = a then some v else if a < k then none else storeFind t a

/-- The value of a sparse map at a key, d where the map lists none. -/
def storeGet {α : Type} (d : α) (m : Store α) (a : Nat) : α := (storeFind m a).getD d

/-- A sparse map with one key listed anew. -/
def storePut {α : Type} : Store α → Nat → α → Store α
  | [], a, x => [(a, x)]
  | (k, v) :: t, a, x =>
    if k = a then (k, x) :: t
    else if a < k then (a, x) :: (k, v) :: t
    else (k, v) :: storePut t a x

/-- A sparse map without one key. -/
def storeDrop {α : Type} : Store α → Nat → Store α
  | [], _ => []
  | (k, v) :: t, a =>
    if k = a then t else if a < k then (k, v) :: t else (k, v) :: storeDrop t a

/-- A sparse map with one key changed by f, from d where the map lists none. -/
def storeMod {α : Type} (d : α) (m : Store α) (a : Nat) (f : α → α) : Store α :=
  storePut m a (f (storeGet d m a))

/-- The keys of a sparse map. -/
def storeKeys {α : Type} (m : Store α) : List Nat := m.map Prod.fst

/-- Every key of the list is above lo, and the keys rise strictly. -/
def risesFrom {α : Type} : Option Nat → Store α → Bool
  | _, [] => true
  | lo, (k, _) :: t => (match lo with | none => true | some l => l < k) && risesFrom (some k) t

/-- The keys of a sparse map rise strictly. -/
def storeRises {α : Type} (m : Store α) : Bool := risesFrom none m

/-- Membership in a sorted set of numbers. -/
def setHas (m : Store Unit) (a : Nat) : Bool := (storeFind m a).isSome

/-- Drops every key of [lo, lo + len). -/
def storeDropRange {α : Type} (m : Store α) (lo len : Nat) : Store α :=
  m.filter (fun p => !(lo ≤ p.1 && p.1 < lo + len))

/-- Item i of a list changed by f; a list without an item i is unchanged. -/
def modifyAt {α : Type} (l : List α) (i : Nat) (f : α → α) : List α :=
  match l[i]? with
  | none => l
  | some x => l.set i (f x)

end Sys2Proof.Machine
end

