-- ==== Sys2Proof/Machine/Crc.lean ====
section
/-! DEFINITION. Cyclic redundancy checks, bit by bit: one parametric form, and the CRC-32C that records, entries
and images of the spec carry. -/

namespace Sys2Proof.Machine

/-- One bit shifted into a CRC register of w bits. -/
def crcBit (w poly r : Nat) (b : Bool) : Nat :=
  let shifted := r * 2 % 2 ^ w
  if bit r (w - 1) == b then shifted else Nat.xor shifted poly

/-- The bits of a byte in the order a CRC takes them: lowest first when reflected. -/
def crcByteBits (reflected : Bool) (b : Byte) : List Bool :=
  let up := (List.range 8).map (bit b.toNat)
  if reflected then up else up.reverse

/-- The low w bits of n in reverse order. -/
def reflectBits (n : Nat) : Nat → Nat
  | 0 => 0
  | w + 1 => n % 2 * 2 ^ w + reflectBits (n / 2) w

/-- The parameters of a CRC: width, polynomial, first value, whether bytes and result are reflected, final xor. -/
structure CrcSpec where
  w : Nat
  poly : Nat
  start : Nat
  reflected : Bool
  xorOut : Nat
deriving DecidableEq, Repr

/-- The CRC of a byte list. -/
def crcOf (c : CrcSpec) (bs : List Byte) : Nat :=
  let r := bs.foldl (fun r b => (crcByteBits c.reflected b).foldl (crcBit c.w c.poly) r) c.start
  Nat.xor (if c.reflected then reflectBits r c.w else r) c.xorOut

/-- CRC-32C (Castagnoli). -/
def crc32cSpec : CrcSpec := ⟨32, 0x1EDC6F41, 0xFFFFFFFF, true, 0xFFFFFFFF⟩

/-- CRC-32C of a byte list. -/
def crc32c (bs : List Byte) : Nat := crcOf crc32cSpec bs

end Sys2Proof.Machine
end

