-- ==== Sys2Proof/Machine/TensorTypes.lean ====
section
/-! DEFINITION. The architectural state of a tensor engine (R118): what its registers do not show. -/

namespace Sys2Proof.Machine

/-- An address generator: base, three strides (as their 32-bit codes), three counts and three indices (R118, R126). -/
structure AddrGen where
  base : Nat := 0
  strides : List Nat := [0, 0, 0]
  counts : List Nat := [0, 0, 0]
  idx : List Nat := [0, 0, 0]
deriving DecidableEq, Repr

/-- A tile handle descriptor: the fields of THSET (R125). -/
structure Handle where
  slot : Nat
  slots : Nat
  fmt : Nat
  rows : Nat
  rowBytes : Nat
deriving DecidableEq, Repr

/-- A TLD that is not complete: its handle number and descriptor, the address of each row, and what its requests
found: the bytes, or the address of poison (R118, R129, R161). -/
structure TileLoad where
  th : Nat
  handle : Handle
  rows : List Nat
  raw : Bool
  data : List Byte
  poison : Option Nat
deriving DecidableEq, Repr

/-- The layouts of a bank entry (R94). -/
inductive Layout where
  | ext | int80 | fp32
deriving DecidableEq, Repr

/-- The families of operand pairs (R86). -/
inductive Family where
  | plainFloat | plainInt | mxFloat | mxInt | bf16
deriving DecidableEq, Repr

/-- The state of an accumulator bank's tile (R118, R130, R131). The tile state itself stands in TE_STATUS. Entry
row × 128 + column is listed by that number; an entry that is not listed is zero. -/
structure Bank where
  layout : Option Layout := none
  family : Option Family := none
  steps : Nat := 0
  maxSteps : Nat := 0
  range : Option (Nat × Nat) := none
  kPos : Nat := 0
  short : Bool := false
  nextSeg : Nat := 0
  ended : Bool := false
  combed : Bool := false
  kept : Bool := false
  segsDone : Bool := false
  openedAt : Nat := 0
  drained : List Nat := []
  entries : Store Nat := []
deriving DecidableEq, Repr

/-- A tensor engine. `program` is its instruction buffer (R119); `mmaDone` tells whether an MMA has run since job
start or resumption (R133); `writes` are its writes that have not reached their targets yet, oldest first (R126, R129);
`writesOk` tells whether every write since the previous FENCE succeeded (R137); `waitFrom` is the period in which the
WAIT or BAR that it waits in was issued (R137, R143). -/
structure Engine where
  s : List Word := List.replicate 32 0
  ags : List AddrGen := List.replicate 8 {}
  handles : List (Option Handle) := List.replicate 16 none
  preds : Nat := 0
  loops : List (Nat × Nat × Nat) := []
  flags : Nat := 0
  bankA : Bank := {}
  bankB : Bank := {}
  sigOn : Bool := false
  loads : List TileLoad := []
  opbuf : Store Byte := []
  program : List Nat := []
  mmaDone : Bool := false
  writes : List (Nat × List Byte) := []
  writesOk : Bool := true
  waitFrom : Nat := 0
deriving DecidableEq, Repr

/-- An engine image that was saved (R120): the control part that it stands for, and the 1 020 bytes that hold it. -/
structure SavedControl where
  engine : Engine
  pc : Nat
  signature : Nat
  bankStates : Nat
  bytes : List Byte
deriving DecidableEq, Repr

/-- A SIGNAL on its way (R138): sender, target (te number, or 64 + ring number) and flag. -/
structure Flight where
  sender : Nat
  target : Nat
  flag : Nat
deriving DecidableEq, Repr

end Sys2Proof.Machine
end

