-- ==== Sys2Proof/Machine/StateTypes.lean ====
section
/-! DEFINITION. The parts of State, chapter by chapter. Every field stands at its reset value: the value the spec
gives, or the one that INVENTORY.md and the assumption log name. -/

namespace Sys2Proof.Machine

/-! ### Answers and outputs of the model -/

/-- What the last access answered to its initiator: the value or bytes read, and whether the response was an
error response (R24). -/
structure Resp where
  value : Nat := 0
  bytes : List Byte := []
  error : Bool := false
  poison : Bool := false
  versions : List Nat := []
deriving DecidableEq, Repr

/-- Something the device sent: an MSI (address, data), a status frame on a channel, a frame at an Ethernet port,
a packet on a Ulham lane, a host-port transfer (0 memory write, 1 memory read, 2 AtomicOp, 3 ERR_NONFATAL). -/
inductive Sent where
  | msi (addr data : Nat)
  | status (channel : Nat) (frame : List Byte)
  | ethernet (port : Nat) (frame : List Byte)
  | ulham (pipe : Nat) (packet : List Byte)
  | host (what : Nat) (addr : Nat) (data : List Byte)
  | notice (kind unit : Nat)
deriving DecidableEq, Repr

/-! ### Error records (chapter 20) -/

/-- An error record in the fields of R554. `event` and `follow` tie a follow-on record to its primary (R557). -/
structure ErrRec where
  code : Nat
  sev : Nat
  die : Nat := 4
  block : Nat := 0
  unit : Nat := 0xFFFF
  time : Nat := 0
  seq : Nat := 0
  vi : Option Nat := none
  job : Option Nat := none
  addr : Option Nat := none
  injected : Bool := false
  noPrimary : Bool := false
  initiator : Nat := 0
  detail : Nat := 0
  event : Nat := 0
  follow : Bool := false
  crcBad : Bool := false
deriving DecidableEq, Repr

/-- One entry of the ring (R558). -/
structure RingSlot where
  record : ErrRec
  handling : Bool := false
  done : Bool := false
deriving DecidableEq, Repr

/-- A health-log entry in flash (R563): a record, and the moment it was written. -/
structure HlogEntry where
  record : ErrRec
  crcOk : Bool := true
deriving DecidableEq, Repr

/-- The error collector, its ring, its order of handling and the health log. -/
structure ErrUnit where
  inFlight : List ErrRec := []
  held : Store (List ErrRec) := []
  ring : Store RingSlot := []
  stored : Nat := 0
  tailSeq : Nat := 0
  handlingOrder : List Nat := []
  nextEvent : Nat := 1
  current : Nat := 0
  primaries : Store Nat := []
  hlog : Store HlogEntry := []
  hlogPos : Nat := 0
  hlogTimes : List Nat := []
  hlogDrops : Nat := 0
  hlogQueue : List ErrRec := []
deriving DecidableEq, Repr

/-! ### Start and configuration flash (chapter 3) -/

/-- The state of an image bank (R80): 0 EMPTY, 1 VALID, 2 TRIAL, 3 FAILED. -/
inductive BankState where
  | empty | valid | trial | failed
deriving DecidableEq, Repr

/-- A bank-select entry (R67). -/
structure BankEntry where
  seq : Nat
  preferB : Bool
  stateA : BankState
  stateB : BankState
  attempt : Bool
  crcOk : Bool := true
deriving DecidableEq, Repr

/-- What the configuration flash holds in the regions whose byte layout the spec leaves open (R56 to R58, R67):
write-once pages, development key page, bank-select sectors, rollback floor and attestation index; and the 64-byte lines
of the flash that no longer read (R82). Every other region is held as bytes. -/
structure FlashState where
  sealedPages : Nat := 0
  unitId : Nat := 0
  oemRoot : Nat := 0
  unreadable : Store Unit := []
  devKeySeq : Nat := 0
  devKeyRoot : Option Nat := none
  entry0 : Option BankEntry := none
  entry1 : Option BankEntry := none
  floor : Nat := 0
  fwFloor : Nat := 0
  attSeq : Nat := 0
  attCeiling : Nat := 0
  attKey : Option Nat := none
  vaultStoreErased : Bool := false
deriving DecidableEq, Repr

/-- The loader's progress and the marks it keeps between restarts (R67 to R78): among them when a rail last returned, the
stacks that training found, whether a rail other than VIN_SAFE was lost since the logic last started, whether step 12 is over, and the SECURE
payloads that were streamed to the vault, by record type (R60). -/
structure BootState where
  railsOk : Nat := 0x3F
  railBack : Nat := 0
  powered : Bool := false
  stopped : Bool := false
  railLost : Bool := false
  loaded : Bool := false
  memTrained : Bool := false
  stackMask : Nat := 0
  computeDone : Bool := false
  vaultHolds : List (Nat × List Byte) := []
  goldenWritten : Nat := 0
  islandsTested : Bool := false
  bankFailedLate : Bool := false
  imageBank : Nat := 0
  imageFloor : Nat := 0
  programSource : Nat := 0
  programSectors : Nat := 0
  programTarget : Nat := 0
  stewardBooted : Bool := false
  debugOff : Bool := false
  restartTime : Option Nat := none
  wdogStart : Option Nat := none
  keyGenerating : Bool := false
  manifestDigest : Nat := 0
  calibDigest : Nat := 0
  firmwareDigest : Nat := 0
  attestTimes : List Nat := []
deriving DecidableEq, Repr

/-! ### Control firmware and host drivers (chapter 19) -/

/-- A control-firmware image in the fields of R533 that outlive its verification. -/
structure FwImage where
  version : Nat
  hofWrite : Nat
  hofReadMin : Nat
  hofReadMax : Nat
  digest : Nat
  code : List Byte := []
deriving DecidableEq, Repr

/-- What the loader keeps beside the CFG_FW_ registers: the running image (its code is the kept copy of R535) and its code
slot, the staged image, an image whose load is not finished, the dies that reported ready, those whose old firmware reached
its hand-off point and wrote its record, the dies whose firmware does not run, the starts of a wait and of a hand-off, what a
roll-back names in its record, the hand-offs since cold start, the slots with a heartbeat in the window that runs, when that
window began, and when a slot became LOST. -/
structure FwState where
  running : Option FwImage := none
  slot : Nat := 0
  staged : Option FwImage := none
  loading : Option FwImage := none
  ready : List Nat := []
  down : List Nat := []
  points : List Nat := []
  waitStart : Option Nat := none
  start : Option Nat := none
  cause : Nat := 0
  handoffSeq : Nat := 0
  beats : List Nat := []
  window : Store Nat := []
  lostTime : Store Nat := []
deriving DecidableEq, Repr

/-! ### The confirm gate (chapter 7) -/

/-- What the gate keeps of a granule that is not IDLE beside its version-table entry: its buffer and place, the
group that its CMARK named (R201; count 0 for none), the ranks that marked it, whether the fill of R199 is still
going on, and the writes that wait for it: writer (te number, or 64 + ring number), offset and bytes. -/
structure OpenGranule where
  buf : Nat
  g : Nat
  grpFirst : Nat := 0
  grpCount : Nat := 0
  contrib : Nat := 0
  marks : Nat := 0
  filling : Bool := false
  written : Bool := false
  stalled : List (Nat × Nat × List Byte) := []
deriving DecidableEq, Repr

/-! ### Jobs and queues (chapter 8) -/

/-- A private region of a job (R231): base, length, die and whether it is allocated at dispatch. -/
structure PrivateRegion where
  base : Nat
  bytes : Nat
  die : Nat
  alloc : Bool
deriving DecidableEq, Repr

/-- The fields of a job record that stay with its context (R231). -/
structure JobRecord where
  checked : Bool := false
  speculative : Bool := false
  pairClusters : Bool := false
  singleDie : Bool := false
  tokens : Nat := 0
  partition : Nat := 0
  prog : Nat := 0
  progLenM1 : Nat := 0
  progress : Nat := 0
  cq : Nat := 0
  dieMask : Nat := 0
  deadline : Nat := 0
  models : List Nat := []
  producers : List Nat := []
  targetFrame : Nat := 0
  estSteps : Nat := 0
  buffers : List (Option (Nat × Nat)) := []
  privates : List PrivateRegion := []
  args : List Nat := []
deriving DecidableEq, Repr

/-- A granule of a job's private region that was spilled, and where its content lies (R248). -/
structure SpilledGranule where
  addr : Nat
  copy : Nat
deriving DecidableEq, Repr

/-- What the scheduler and the gate keep of a live job beside SCH_JCTX (R215, R234, R242). Energy is in pJ, `lines` are
the LPDDR6 lines since the last governor period (R439); `arrivedAt`, `released` and `herdLog` are the moments at which
ranks reached a barrier, that of the last release, and for each of the last 16 barriers its span and the waits on each
compute die (R433). -/
structure Job where
  record : JobRecord
  serial : Nat := 0
  upstream : List (Nat × Nat) := []
  upstreamLost : Bool := false
  ranks : List Nat := []
  stopped : List Nat := []
  saved : List Nat := []
  dispatched : Bool := false
  dispatchTime : Nat := 0
  endTime : Nat := 0
  preemptions : Nat := 0
  confirmed : Nat := 0
  discarded : Nat := 0
  sequence : Nat := 0
  lastConfirmed : List Nat := []
  faultCode : Nat := 0
  steps : Nat := 0
  energyActive : Nat := 0
  energyStatic : Nat := 0
  lines : Nat := 0
  fixedPace : Bool := false
  arrivedAt : Store Nat := []
  released : Nat := 0
  herdLog : List (List Nat) := []
  tokenHome : Nat := 0
  tokenBase : Nat := 0
  tokenCount : Nat := 0
  tokensTrue : Nat := 0
  tokensFalse : Nat := 0
  readers : List Nat := []
  windows : List (Nat × Nat × Nat) := []
  arrivals : Store (List Nat) := []
  spilled : List SpilledGranule := []
  slots : Store Nat := []
  settled : Bool := false
  held : Bool := false
  admitted : Bool := false
  unboundConfirmed : Nat := 0
  squashed : Bool := false
deriving DecidableEq, Repr

/-- A completion record that waits for room in its queue or for a FROZEN queue (R235, R548). -/
structure HeldRecord where
  job : Option Nat
  bytes : List Byte
deriving DecidableEq, Repr

/-- Completion-queue bookkeeping: records held, and the coalescing of R376. -/
structure CqState where
  held : List HeldRecord := []
  unsignalled : Nat := 0
  oldest : Nat := 0
deriving DecidableEq, Repr

/-- What an RT partition's record gives beside SCH_RT registers (R237), whether its window is open, the jobs admitted for the frame and those of
them that reached DONE (R287), the same of the frame before, and the engines lent to it (R240). -/
structure RtPartition where
  vi : Nat := 0
  allChecked : Bool := false
  lpddrGbps : Nat := 0
  windowOpen : Bool := false
  admitted : Nat := 0
  finished : Nat := 0
  lastAdmitted : Nat := 0
  lastFinished : Nat := 0
  lent : List (Nat × Nat) := []
deriving DecidableEq, Repr

/-- The scheduler. -/
structure SchedState where
  jobs : Store Job := []
  nextSerial : Nat := 0
  ready : List Nat := []
  nextFrame : List Nat := []
  cqs : Store CqState := []
  parts : Store RtPartition := []
  dieEvents : Store (List Nat) := []
deriving DecidableEq, Repr

/-! ### Functional safety (chapter 10) -/

/-- What the golden-test scheduler keeps of an engine beside GFT_ENG (R294 to R301, R316). -/
structure GftEngine where
  saved : List Nat := []
  passedFrame : Option Nat := none
  prior : Option Nat := none
  events : List Nat := []
  marginPasses : Nat := 0
  retest : Bool := false
  areaFault : Bool := false
  due : Bool := false
  startSteps : Nat := 0
  unitOut : Bool := false
deriving DecidableEq, Repr

/-- A lane of the fallback preparation path (R260, R313): its camera lane, format and parameter block, the sample it
holds as bytes with its damaged blocks, its reference store, and where its slot of the frame stands: the status word
once it is written, and its data. -/
structure FallbackLane where
  lane : Nat
  fmt : Nat
  params : List Byte := []
  sample : Option (Nat × List Byte × List Nat) := none
  seq : Nat := 0
  refs : Store Nat := []
  written : Option Nat := none
  capture : Nat := 0
  data : List Byte := []
deriving DecidableEq, Repr

/-- The safety island's books and the fallback's (R286 to R315). `frameStart` is the start of the current frame by the time
counter. `late` is the frame before the current one with the live states of its outputs while it is not decided,
`lateStart` its start; `lateFb` tells whether its fallback output was AVAILABLE. `fbCloseAt` is fb_close of R313. -/
structure SafetyState where
  unitTag : Nat := 0
  s4Restart : Bool := false
  starting : Bool := true
  deviceReason : Nat := 0
  stays : Bool := false
  pairTimes : Store (List Nat) := []
  fallbackOff : Bool := false
  restartTimes : List Nat := []
  retroCount : Nat := 0
  retroNew : Nat := 0
  lastReason : Nat := 0
  goldenBase : List Nat := []
  expected : List Nat := []
  goldenProgLen : Nat := 0
  chuExpected : List Nat := []
  chuUsable : Nat := 0
  chuRetired : Nat := 0
  chuPassed : Nat := 0
  chuPaceLost : Bool := false
  chuGood : Nat := 0
  chuLow : Nat := 0
  chuTestPassed : Bool := false
  chuBase : Nat := 0
  chuBytes : Nat := 0
  fbEngine : Nat := 0
  fbStart : Nat := 0
  lanes : List FallbackLane := []
  fbClosed : Bool := false
  fbAnyInput : Bool := false
  fbEnded : Bool := false
  fbFault : Bool := false
  fbLate : Bool := false
  fbFrame : Nat := 0
  fbBytes : List Byte := []
  fbAvailable : Bool := false
  late : Option (Nat × List Nat) := none
  lateFb : Bool := false
  lateStart : Nat := 0
  curDecided : Bool := false
  frameRun : Bool := false
  frameStart : Nat := 0
  fbCloseAt : Nat := 0
deriving DecidableEq, Repr

/-! ### Redundant pairs (chapter 11) -/

/-- A checkpoint of a pair's leader that awaits the follower's: the leader's signature, its retired-instruction count,
the stores to shared memory before it, and the outbound message that is held for it (R328 to R331). -/
structure PairSegment where
  signature : Nat
  count : Nat
  stores : List (Nat × Nat × Nat)
  message : Option (Nat × List Byte)
deriving DecidableEq, Repr

/-- A redundant pair (R326 to R331): the leader's checkpoints that are not compared yet, the time counter and the count
at its last one, and its shared memory by byte offset. -/
structure PairState where
  ahead : List PairSegment := []
  lastAt : Nat := 0
  lastCount : Nat := 0
  sram : Store Nat := []
deriving DecidableEq, Repr

/-! ### Stream engines and the model cache (chapter 6) -/

/-- A descriptor that was issued and has not retired: its index, its 64 bytes and the CRC of the bytes it read
(R168, R169). -/
structure Issued where
  idx : Nat
  desc : List Byte
  crc : Nat
deriving DecidableEq, Repr

/-- What a stream-engine ring holds beside its registers (R165, R168, R171): its 16 flags, the index of the next
descriptor to issue, the descriptors in progress, whether a pause was requested, and the prefetch program that its
binding started. -/
structure RingState where
  flags : Nat := 0
  issue : Nat := 0
  inFlight : List Issued := []
  pausing : Bool := false
  program : Option Nat := none
deriving DecidableEq, Repr

/-- Where a model of the cache stands (R184, R191). -/
inductive ModelState where
  | absent | loading | prefetching | resident
deriving DecidableEq, Repr

/-- A registered model (R182): its source, length, die and CRC table, its state, and the die granule index of its
first partition granule where it has granules; the pin commands that wait for its load, by queue, tag and completion
queue. -/
structure Model where
  source : Nat
  length : Nat
  die : Nat
  crcTable : Nat
  state : ModelState := .absent
  pinned : Bool := false
  pinLost : Bool := false
  releasing : Bool := false
  base : Option Nat := none
  lastUse : Nat := 0
  loadClass : Nat := 3
  waiters : List (Nat × Nat × Nat) := []
deriving DecidableEq, Repr

/-- The model cache: registrations by instance × 64 + id, the transition counters of each instance by
(instance × 64 + previous) × 64 + current, and the previous first model of each instance (R188). -/
structure CacheState where
  models : Store Model := []
  counters : Store Nat := []
  previous : Store Nat := []
  repins : List (Nat × Nat) := []
deriving DecidableEq, Repr

/-! ### Power, droop and heat (chapters 2 and 15) -/

/-- What the governors keep beside the PWR_ registers. Islands are numbered die × 16 + island, blocks that park
die × 16 + engine, and for G die × 16 + island. `lever` is each die's estimate of its cap-lever islands of the last
period, `low` and `good` count consecutive monitor readings below and at or above 1.66 G steps/s by cluster, `tokens`
are the unused step tokens (those of the chamois unit as 32) and `released` the moment of each generator's last release
(that of the chamois unit as 4), `raised` the ends of droop raises with the level before them, `frozen` the islands that
a lost margin froze, `hot` the crossings beyond their temperature limit, `paused` the ends of INFORM pauses, `wakes` the waiting
wakes with their class, `bucket` the level of the slew bucket in 1/192 A and its moment, `capLimit` and `herdLimit` the
pace limits asked for by the cap with heat and by herd pacing, `normal` the level from which the cap lowered an island,
`herds` a paced herd's limit and since when its slowest die sustains more, `reservations` the level granted across a
link by die × 8 + die, `stage` the cap stage of each die, `spare` the energy of each die that no job holds, in pJ. -/
structure PowerState where
  lever : Store Nat := []
  low : Store Nat := []
  good : Store Nat := []
  tokens : Store Nat := []
  fixPending : List Nat := []
  informs : Store (List Nat) := []
  released : Store Nat := []
  raised : Store (Nat × Nat) := []
  frozen : List Nat := []
  hot : List (Nat × Nat) := []
  paused : Store Nat := []
  wakes : List (Nat × Nat) := []
  bucket : Nat × Nat := (2880, 0)
  parking : List Nat := []
  capParked : List Nat := []
  capLimit : Store Nat := []
  herdLimit : Store Nat := []
  normal : Store Nat := []
  herds : Store (Nat × Nat) := []
  herdPacing : Bool := false
  throttled : List Nat := []
  emergency : Option Nat := none
  coolSince : Option Nat := none
  trips : List Nat := []
  tripped : Bool := false
  tripCool : Option Nat := none
  reservations : Store Nat := []
  stage : Store Nat := []
  spare : Store Nat := []
deriving DecidableEq, Repr

/-! ### Virtual instances (chapter 13) -/

/-- A DMA descriptor that was fetched and has not completed (R371): its queue, tag and completion queue, whether it asks
for a completion record, the bytes moved and the status. -/
structure DmaFlight where
  queue : Nat
  tag : Nat
  cq : Nat
  record : Bool
  moved : Nat
  status : Nat
deriving DecidableEq, Repr

/-- What the instance manager keeps beside the VI_ registers: bucket levels with the moment they held (by instance
× 4 + die), the last over-budget records and the last waits at an empty bucket, the state an instance returns to after its reset, the instances that the
loader made for RT partitions, those that shrink (1 with shrink_now), the borrowed die granules (by die × 128 +
granule), the start of a reset, the instances whose staged copy the next write of VI_SEL reloads, and the DMA
descriptors in flight. -/
structure ViManager where
  buckets : Store (Nat × Nat) := []
  rtLevels : Store (Nat × Nat) := []
  obTimes : Store Nat := []
  obWaits : Store Nat := []
  prior : Store Nat := []
  rtBound : Nat := 0
  shrinking : Store Nat := []
  borrowed : Store Unit := []
  resetStart : Store Nat := []
  stale : List Nat := []
  dma : List DmaFlight := []
deriving DecidableEq, Repr

/-! ### The host port bridge and the fabric (chapters 1 and 17) -/

/-- An initiator stream's posted writes (R479, R482): the next sequence number, and since the previous fence the number
of failures and the first one's sequence number. -/
structure PostStream where
  next : Nat := 0
  failed : Nat := 0
  first : Option Nat := none
deriving DecidableEq, Repr

/-- An entry of the address lock table that a locked sequence of a link holds: its line and when its claim began
(R485, R487). -/
structure LineLock where
  line : Nat
  link : Nat
  start : Nat
deriving DecidableEq, Repr

/-- What waits at the bridge or behind a line claim (R484, R485). -/
inductive HeldWork where
  | access (who : Initiator) (acc : Access)
  | request (req : HostRequest)
  | atomic (req : HostRequest)
  | locked (req : HostRequest)
  | amo (who : Initiator) (addr op size value : Nat)
deriving DecidableEq, Repr

/-- The bridge: the streams by initiator identity, the locks, what waits behind them in arrival order, the sequences
that back off with the number of their back-offs and the moment of the last one (R488), the number of the next of them, the time of the last BR_BACKOFF
record; by die × 4 + port the failed replays of the flit at a fabric port, and the ports whose link is down (R15); the
host-port links whose partner completes AtomicOps (R486). -/
structure BridgeState where
  streams : Store PostStream := []
  locks : List LineLock := []
  held : List HeldWork := []
  backoffs : Store (HeldWork × Nat × Nat) := []
  nextBackoff : Nat := 0
  lastRecord : Option Nat := none
  replays : Store Nat := []
  linksDown : List Nat := []
  atomics : List Nat := []
deriving DecidableEq, Repr

/-! ### The input pipeline (chapter 9) -/

/-- A sample that arrived: its number, capture time, bytes, the blocks or elements lost on its way, whether its decode was
aborted, and the time counter at its arrival (R259, R273, R276). -/
structure Sample where
  seq : Nat
  capture : Nat
  data : List Byte
  damage : List Nat := []
  aborted : Bool := false
  since : Nat := 0
deriving DecidableEq, Repr

/-- A stream (R258): its next sample number, the parameter block and remap table in force, those that take effect at
the next window, the reference store by block, and its configuration register as latched at the window's start. -/
structure IppStream where
  seq : Nat := 0
  params : List Byte := []
  remap : List Byte := []
  next : Option (List Byte × List Byte) := none
  refs : Store Nat := []
  cfg : Option Nat := none
deriving DecidableEq, Repr

/-- Where a slot of an open batch stands: it awaits a sample, holds one in its stages, or is complete with its header
fields (R266, R268). -/
inductive SlotStage where
  | waiting
  | staged (x : Sample)
  | complete (status capture seq bytes crc : Nat)
deriving DecidableEq, Repr

/-- A slot of an open batch: the package stream bound to it, where it has one, and its stage. -/
structure BatchSlot where
  stream : Option Nat
  stage : SlotStage := .waiting
deriving DecidableEq, Repr

/-- A batch of a window that is not closed: its buffer, window number, start in device time and by the time counter,
slots, and whether it is PREPARED already (R268). -/
structure Batch where
  buf : Nat
  window : Nat
  start : Nat
  opened : Nat := 0
  slots : List BatchSlot
  done : Bool := false
deriving DecidableEq, Repr

/-- The states of a batch buffer (R270). -/
inductive BufferState where
  | free | filling | prepared (window : Nat) | held (window : Nat)
deriving DecidableEq, Repr

/-- A group (R265 to R278): its configuration register as latched at the window's start, its buffers, the PREPARED
buffers from the oldest on, its open batches, the number of its next window, the frame it acquired last, the frame whose
consume deadline has passed, whether its alarm is armed, and the time counter and the frame at its last window's start.
-/
structure IppGroup where
  cfg : Nat := 0
  bufs : List BufferState := []
  order : List Nat := []
  batches : List Batch := []
  count : Nat := 0
  acquired : Option Nat := none
  passed : Option Nat := none
  armed : Bool := true
  opened : Option (Nat × Nat) := none
deriving DecidableEq, Repr

/-- The input pipelines: streams by package stream number, groups by O-die index × 16 + group. -/
structure IppState where
  streams : Store IppStream := []
  groups : Store IppGroup := []
deriving DecidableEq, Repr

/-! ### Ethernet and time (chapter 18) -/

/-- A frame that waits at an egress port (R513, R517): its traffic class, its flow where one is known, its bytes, its
launch time in parts of 1/65 536 ns (0 for none), and the transmit entry it came from, with want_time. -/
structure EthFrame where
  tc : Nat
  flow : Option Nat
  bytes : List Byte
  launch : Nat := 0
  entry : Option (Nat × Nat × Bool) := none
deriving DecidableEq, Repr

/-- A gate control list (R516): gate states and intervals in ns, cycle time in ns, base time in parts of
1/65 536 ns. -/
structure GateList where
  entries : List (Nat × Nat)
  cycle : Nat
  base : Nat
deriving DecidableEq, Repr

/-- An egress port: its frames in order, its operational list with the current entry and that entry's start, the list
that waits for its configuration change, the moment of its last NET_LATE record, and the cycle boundary at which a list
restarts after the first lock. -/
structure EthPort where
  waiting : List EthFrame := []
  oper : Option GateList := none
  index : Nat := 0
  entryStart : Nat := 0
  admin : Option GateList := none
  lateTime : Option Nat := none
  restart : Nat := 0
deriving DecidableEq, Repr

/-- What a Ulham camera lane receives (R522 to R524): whether a picture is open, with its size and lines so
far, the next line expected, its bytes and lost lines, and the moment of its last ULK_CRC record. -/
structure UlkLane where
  isOpen : Bool := false
  width : Nat := 0
  height : Nat := 0
  format : Nat := 0
  capture : Nat := 0
  nextLine : Nat := 0
  lines : Store (List Byte) := []
  lost : List Nat := []
  crcTime : Option Nat := none
deriving DecidableEq, Repr

/-- Ethernet, device time and the Ulham lanes: the key bytes of the flow entries; by domain the Syncs in a row within
±1 µs and the grandmaster; whether any domain locked since the cold start; the rate that bounds a new driver's; and when
each transmit lane that sends began to, by die × 32 + lane (R523). -/
structure NetState where
  ports : Store EthPort := []
  keys : Store Nat := []
  good : Store Nat := []
  gms : Store Nat := []
  anyLock : Bool := false
  limitBase : Option Int := none
  lanes : Store UlkLane := []
  sending : Store Nat := []
deriving DecidableEq, Repr

/-! ### Tahr sequencers and the gateway (chapters 12 and 17) -/

/-- A notice with its payload slot and what the route context window tells of it (R490 to R492). -/
structure Notice where
  ctx : Nat
  identifier : Nat
  format : Nat
  flags : Nat
  bus : Nat
  time : Nat
  af : Nat := 0
  sdt : Nat := 0
  vcid : Nat := 0
  payload : List Byte
deriving DecidableEq, Repr

/-- A TAHR_PROGRAM record in the program store (R358): entry, code, data, and its tables by offset, length and route
set. -/
structure TahrProgram where
  entry : Nat
  code : List Nat
  data : List Byte
  tables : List (Nat × Nat × Nat) := []
deriving DecidableEq, Repr

/-- A sequencer (R342, R354, R359, R360) beside TSQ_STATE and TSQ_COUNTS: its registers and flags, timer period, edge
events, port FIFOs, loaded code and data, the current notice and those that wait (gateway), the egress buffer or the
staging bytes and job-window base (stream), the activation's start, the moment of the last fault, the variants in force,
a requested swap, a requested stop, and the ring it serves. -/
structure TahrSeq where
  g : List Nat := []
  sat : Bool := false
  clamp : Bool := false
  miss : Bool := false
  timer : Nat := 0
  timerFrom : Nat := 0
  events : Nat := 0
  ports : Store (List Nat) := []
  code : List Nat := []
  data : Store Byte := []
  notice : Option Notice := none
  own : Bool := false
  waiting : List Notice := []
  buffer : Store Byte := []
  jobBase : Nat := 0
  started : Option Nat := none
  faultTime : Option Nat := none
  variants : List Nat := []
  swap : Option (Nat × Nat) := none
  stopping : Bool := false
  ring : Option Nat := none
deriving DecidableEq, Repr

/-- The sequencers, the program store (by sequencer; STREAM program n at 256 + n) and the table variants by sequencer,
table and variant. -/
structure TahrState where
  seqs : Store TahrSeq := []
  programs : Store TahrProgram := []
  variants : List (Nat × Nat × Nat × List Byte) := []
deriving DecidableEq, Repr

/-- The route contexts that the image declares, with their parameters (R498). -/
structure GatewayState where
  contexts : List Nat := []
  params : Store (List Byte) := []
deriving DecidableEq, Repr

/-! ### Displays and telltales (chapter 16) -/

/-- A frame of a display pipe as its latch took it (R457 to R459): its number, its flags and valid bits as the receiver
knows them, the layer settings (DSP_LAYER and DSP_LAYER_BASE), the versions read by layer, and the device time and safety
frame of the latch. -/
structure DspFrame where
  number : Nat := 0
  flags : Nat := 0
  valid : Nat := 0
  layers : List (Nat × Nat) := []
  versions : Store (List Nat) := []
  latchTime : Nat := 0
  safetyFrame : Nat := 0
deriving DecidableEq, Repr

/-- A display pipe (R454 to R461): the frame that is scanned, the one that was latched and starts next, the number of the
next one to latch and of the next one to compose, the next line to be sent, and pending flips by layer (new base, on_confirm, versions at the
staging). -/
structure DspPipe where
  scan : DspFrame := {}
  latched : Option DspFrame := none
  next : Nat := 0
  composed : Nat := 0
  nextLine : Nat := 0
  flips : Store (Nat × Bool × List Nat) := []
deriving DecidableEq, Repr

/-- A telltale region (R462, R467): its rectangle in plane coordinates, its group, whether the steward may write its state, the expected CRC of each state,
the draw list of each state, the state its checks use, the state that was last given to the pipeline, whether that one
renders now, and the moment of a state write that waits. -/
structure TtRegion where
  x : Nat := 0
  y : Nat := 0
  w : Nat := 0
  h : Nat := 0
  group : Nat
  qmWritable : Bool
  crcs : List Nat
  draws : List (List Byte) := []
  checked : Nat := 0
  target : Nat := 0
  rendering : Bool := false
  written : Option Nat := none
deriving DecidableEq, Repr

/-- A graphics context (R446 to R453): the render pass that it draws, the fragments of the primitives that it has binned
and not yet stored, the tiles of the pass that were stored, the pool chunks that its lists hold, and the moment from which
it has run. -/
structure GfxContext where
  pass : Option RenderPass := none
  bins : List (List Fragment) := []
  stored : List Nat := []
  chunks : Nat := 0
  since : Nat := 0
deriving DecidableEq, Repr

/-- The graphics contexts, the display pipes, the telltale regions, the telltale plane as its pixels by number (absent:
0x0000_0000) with its width, and the position of its layer and the pipe that carries it. -/
structure DisplayState where
  contexts : Store GfxContext := []
  pipes : Store DspPipe := []
  regions : List TtRegion := []
  plane : Store Nat := []
  ttW : Nat := 0
  ttH : Nat := 0
  ttX : Nat := 0
  ttY : Nat := 0
  ttPipe : Nat := 0xFF
deriving DecidableEq, Repr

end Sys2Proof.Machine
end

