-- ==== Sys2Proof/Machine/ErrCodes.lean ====
section
/-! DEFINITION. The error codes of the spec with their severities (R568 and the code tables of the chapters). Where
a table gives two severities, the lower stands here and the raiser decides. -/

namespace Sys2Proof.Machine

/-- An error code and its severity, 0 to 4 for S0 to S4. -/
structure ErrCode where
  code : Nat
  sev : Nat
deriving DecidableEq, Repr

namespace E

def residueTile : ErrCode := ⟨0x0401, 2⟩
def residueCombine : ErrCode := ⟨0x0402, 2⟩
def residueImport : ErrCode := ⟨0x0403, 2⟩
def drainLanes : ErrCode := ⟨0x0404, 2⟩
def twinIssue : ErrCode := ⟨0x0405, 2⟩
def operandEccUncorr : ErrCode := ⟨0x0406, 2⟩
def accumEccUncorr : ErrCode := ⟨0x0407, 2⟩
def operandEccCorr : ErrCode := ⟨0x0408, 1⟩
def accumEccCorr : ErrCode := ⟨0x0409, 1⟩
def stateParity : ErrCode := ⟨0x040A, 2⟩
def illegalOpcode : ErrCode := ⟨0x0501, 2⟩
def reservedEncoding : ErrCode := ⟨0x0502, 2⟩
def formatPair : ErrCode := ⟨0x0503, 2⟩
def shortContinue : ErrCode := ⟨0x0504, 2⟩
def tileSteps : ErrCode := ⟨0x0505, 2⟩
def tileState : ErrCode := ⟨0x0506, 2⟩
def combineOrder : ErrCode := ⟨0x0507, 2⟩
def handleRange : ErrCode := ⟨0x0508, 2⟩
def address : ErrCode := ⟨0x0509, 2⟩
def barrierTimeout : ErrCode := ⟨0x050A, 2⟩
def signalTarget : ErrCode := ⟨0x050B, 2⟩
def loopDepth : ErrCode := ⟨0x050C, 2⟩
def pcRange : ErrCode := ⟨0x050D, 2⟩
def granuleMarked : ErrCode := ⟨0x050E, 2⟩
def entryCrc : ErrCode := ⟨0x050F, 2⟩
def spmEccCorr : ErrCode := ⟨0x0601, 1⟩
def spmEccUncorr : ErrCode := ⟨0x0602, 2⟩
def spmPatrolUncorr : ErrCode := ⟨0x0603, 2⟩
def memEccCorr : ErrCode := ⟨0x0604, 1⟩
def memEccUncorr : ErrCode := ⟨0x0605, 2⟩
def seCrc : ErrCode := ⟨0x0606, 2⟩
def seExpectedCrc : ErrCode := ⟨0x0607, 2⟩
def seDescriptor : ErrCode := ⟨0x0608, 2⟩
def spmPartition : ErrCode := ⟨0x0609, 2⟩
def mcDropped : ErrCode := ⟨0x060A, 2⟩
def cgShadow : ErrCode := ⟨0x0701, 2⟩
def cgForeignWrite : ErrCode := ⟨0x0702, 2⟩
def cgPrivate : ErrCode := ⟨0x0703, 2⟩
def cgOwner : ErrCode := ⟨0x0704, 2⟩
def cgContribMismatch : ErrCode := ⟨0x0705, 2⟩
def cgFill : ErrCode := ⟨0x0706, 2⟩
def cgDiscard : ErrCode := ⟨0x0707, 3⟩
def cgResolveRefused : ErrCode := ⟨0x0708, 2⟩
def cgTokenDeadline : ErrCode := ⟨0x0709, 2⟩
def schDoorbellRefused : ErrCode := ⟨0x0801, 2⟩
def schRtEngine : ErrCode := ⟨0x0802, 3⟩
def schOverrun : ErrCode := ⟨0x0803, 3⟩
def schRefill : ErrCode := ⟨0x0804, 2⟩
def schEventOverflow : ErrCode := ⟨0x0805, 2⟩
def schRtProtected : ErrCode := ⟨0x0806, 2⟩
def schEntryUnreadable : ErrCode := ⟨0x0807, 2⟩
def ippConcealed : ErrCode := ⟨0x0901, 1⟩
def ippDecodeAbort : ErrCode := ⟨0x0902, 1⟩
def ippSlotMissing : ErrCode := ⟨0x0903, 2⟩
def ippRtMissing : ErrCode := ⟨0x0904, 3⟩
def ippLowWater : ErrCode := ⟨0x0905, 0⟩
def ippBadRelease : ErrCode := ⟨0x0906, 2⟩
def ippNotCollected : ErrCode := ⟨0x0907, 2⟩
def gftFail : ErrCode := ⟨0x0A01, 3⟩
def gftMissed : ErrCode := ⟨0x0A02, 3⟩
def gftForced : ErrCode := ⟨0x0A03, 0⟩
def gftArea : ErrCode := ⟨0x0A04, 2⟩
def gftEngineBusy : ErrCode := ⟨0x0A05, 1⟩
def engineQuarantined : ErrCode := ⟨0x0A06, 3⟩
def engineReturned : ErrCode := ⟨0x0A07, 1⟩
def engineRetired : ErrCode := ⟨0x0A08, 3⟩
def outputDegraded : ErrCode := ⟨0x0A09, 3⟩
def outputInvalid : ErrCode := ⟨0x0A0A, 3⟩
def retroInvalid : ErrCode := ⟨0x0A0B, 3⟩
def fallbackUnavailable : ErrCode := ⟨0x0A0C, 3⟩
def safeState : ErrCode := ⟨0x0A0D, 4⟩
def restartLimit : ErrCode := ⟨0x0A0E, 4⟩
def pairMiscompare : ErrCode := ⟨0x0B01, 3⟩
def pairTestFail : ErrCode := ⟨0x0B02, 3⟩
def pairRetired : ErrCode := ⟨0x0B03, 3⟩
def pairTakeover : ErrCode := ⟨0x0B04, 3⟩
def pairSramCorr : ErrCode := ⟨0x0B05, 1⟩
def pairSramUncorr : ErrCode := ⟨0x0B06, 3⟩
def tsqIllegal : ErrCode := ⟨0x0C01, 2⟩
def tsqAddress : ErrCode := ⟨0x0C02, 2⟩
def tsqPc : ErrCode := ⟨0x0C03, 2⟩
def tsqField : ErrCode := ⟨0x0C04, 2⟩
def tsqPort : ErrCode := ⟨0x0C05, 2⟩
def tsqActivation : ErrCode := ⟨0x0C06, 2⟩
def tsqLockstep : ErrCode := ⟨0x0C07, 3⟩
def tsqEccUncorr : ErrCode := ⟨0x0C08, 2⟩
def tsqEccCorr : ErrCode := ⟨0x0C09, 1⟩
def tsqSwapRefused : ErrCode := ⟨0x0C0A, 2⟩
def tsqBindRefused : ErrCode := ⟨0x0C0B, 2⟩
def viCmdRefused : ErrCode := ⟨0x0D01, 2⟩
def viResetDone : ErrCode := ⟨0x0D02, 0⟩
def viOverBudget : ErrCode := ⟨0x0D03, 0⟩
def viIommuFault : ErrCode := ⟨0x0D04, 2⟩
def viDrainFail : ErrCode := ⟨0x0D05, 2⟩
def viRemoved : ErrCode := ⟨0x0D06, 0⟩
def viResetLate : ErrCode := ⟨0x0D07, 3⟩
def secWorld : ErrCode := ⟨0x0E01, 3⟩
def secMoving : ErrCode := ⟨0x0E02, 2⟩
def secHeld : ErrCode := ⟨0x0E03, 0⟩
def secHeldWrite : ErrCode := ⟨0x0E04, 2⟩
def secHoldForced : ErrCode := ⟨0x0E05, 2⟩
def secWdogExpired : ErrCode := ⟨0x0E06, 3⟩
def secLifecycle : ErrCode := ⟨0x0E07, 0⟩
def capUnreachable : ErrCode := ⟨0x0F01, 2⟩
def fixedPaceLost : ErrCode := ⟨0x0F02, 3⟩
def thermalThrottle : ErrCode := ⟨0x0F03, 1⟩
def thermalEmergency : ErrCode := ⟨0x0F04, 3⟩
def thermalTrip : ErrCode := ⟨0x0F05, 3⟩
def crossingTemp : ErrCode := ⟨0x0F06, 1⟩
def govHold : ErrCode := ⟨0x0F07, 3⟩
def herdPaced : ErrCode := ⟨0x0F08, 0⟩
def marginLost : ErrCode := ⟨0x0F09, 3⟩
def gfxTileTimeout : ErrCode := ⟨0x1001, 2⟩
def gfxFlush : ErrCode := ⟨0x1002, 0⟩
def dspStale : ErrCode := ⟨0x1003, 1⟩
def dspTorn : ErrCode := ⟨0x1004, 1⟩
def dspUnderflow : ErrCode := ⟨0x1005, 2⟩
def ttCrcMismatch : ErrCode := ⟨0x1006, 3⟩
def ttBadState : ErrCode := ⟨0x1007, 2⟩
def medSuspended : ErrCode := ⟨0x1008, 1⟩
def brPostedFail : ErrCode := ⟨0x1101, 2⟩
def brBackoff : ErrCode := ⟨0x1102, 0⟩
def brLockTimeout : ErrCode := ⟨0x1103, 2⟩
def brClaimFail : ErrCode := ⟨0x1104, 2⟩
def hpLinkDown : ErrCode := ⟨0x1105, 2⟩
def gwIngressDrop : ErrCode := ⟨0x1106, 2⟩
def gwEgressDrop : ErrCode := ⟨0x1107, 2⟩
def gwLatency : ErrCode := ⟨0x1108, 3⟩
def netLate : ErrCode := ⟨0x1201, 1⟩
def netTorn : ErrCode := ⟨0x1202, 2⟩
def timStep : ErrCode := ⟨0x1203, 0⟩
def timSwitch : ErrCode := ⟨0x1204, 2⟩
def ulkLockLost : ErrCode := ⟨0x1205, 1⟩
def ulkCrc : ErrCode := ⟨0x1206, 1⟩
def fwLoaded : ErrCode := ⟨0x1301, 0⟩
def fwLoadFail : ErrCode := ⟨0x1302, 2⟩
def fwHandoff : ErrCode := ⟨0x1303, 0⟩
def fwRollback : ErrCode := ⟨0x1304, 2⟩
def fwActivationExpired : ErrCode := ⟨0x1305, 2⟩
def fwDriverLost : ErrCode := ⟨0x1306, 2⟩
def fwDriverAttached : ErrCode := ⟨0x1307, 0⟩
def fwTeardown : ErrCode := ⟨0x1308, 2⟩
def fwReloaded : ErrCode := ⟨0x1309, 2⟩
def regNarrow : ErrCode := ⟨0x0101, 2⟩
def regReservedCode : ErrCode := ⟨0x0102, 2⟩
def regWriteDropped : ErrCode := ⟨0x0103, 2⟩
def addressRefused : ErrCode := ⟨0x0104, 2⟩
def fabReplay : ErrCode := ⟨0x0105, 1⟩
def fabLinkDown : ErrCode := ⟨0x0106, 2⟩
def capsChanged : ErrCode := ⟨0x0107, 0⟩
def oscFail : ErrCode := ⟨0x0108, 4⟩
def bankFailed : ErrCode := ⟨0x0109, 2⟩
def recordUnloaded : ErrCode := ⟨0x010A, 3⟩
def islandStartFail : ErrCode := ⟨0x010B, 3⟩
def errorStorm : ErrCode := ⟨0x1401, 4⟩
def hwEscalation : ErrCode := ⟨0x1402, 4⟩
def recordCrc : ErrCode := ⟨0x1403, 3⟩
def hlogDropped : ErrCode := ⟨0x1404, 1⟩
def injected : ErrCode := ⟨0x1405, 2⟩

end E

end Sys2Proof.Machine
end

