-- ==== Sys2Proof/Config.lean ====
section
/-! DEFINITION. What the unit, the published standards and the spec's open points fix from outside the model:
constants without a body. No proof can see their values, so a claim holds whatever they are. -/

namespace Sys2Proof.Config

/-- The value that a "per unit", "per start" or "per image" register field holds after load where no payload layout
of the spec gives it: by the register's address and the field's lowest bit. -/
opaque unitField : Nat → Nat → Nat

/-- A fresh value that the spec leaves open: by the model's counter of such values. -/
opaque freeValue : Nat → Nat

/-- SHAKE256 with a 256-bit output, as the number of its 32 bytes (R60). -/
opaque shake256 : List Byte → Nat

/-- Whether an XMSS signature (RFC 8391) verifies: key, message, signature (R61). -/
opaque xmssVerify : List Byte → List Byte → List Byte → Bool

/-- The vendor root digest in boot ROM (R61, R76). -/
opaque vendorRoot : Nat

/-- The vendor root key that the calibration page carries (R407). -/
opaque vendorKey : List Byte

/-- The functions of R111 on binary32 codes: by the VOP function code 6 to 11 and the code of the input. -/
opaque vectorFn : Nat → Nat → Nat

/-- The content of a 16 × 16 block of a picture, as the source format or a JPEG XS decoder gives it (R261, R273): by
the decode mode, the parameter block, the sample's bytes and the block's number. -/
opaque sourceBlock : Nat → List Byte → List Byte → Nat → Nat

/-- The content of a block of uniform mid-scale input with neutral chroma (R269, R274), by the parameter block. -/
opaque greyBlock : List Byte → Nat

/-- The outcome of stages 3 and 4 as a binary32 code (R261, R262): by the parameter block, the blocks of the picture, and
the row, column and channel. -/
opaque stagedPixel : List Byte → List Nat → Nat → Nat → Nat → Nat

/-- A bilinear sample in binary32 (R263), whose order of operations the spec does not state (R262): by the four pixels
from the upper left one, row by row, and the fractions of row and column in 1/256. -/
opaque bilinear : List Nat → Nat → Nat → Nat

/-- An element of a sample that is no image, as a binary32 code: by the parameter block, the sample's bytes and the
element's number. -/
opaque plainElement : List Byte → List Byte → Nat → Nat

/-- The eight key bytes of a frame that arrives at a switch port, as the NET record carries them for a flow context
(R512, R526): by the port and the frame. -/
opaque frameKey : Nat → List Byte → Nat

/-- The frame that carries one message of an egress context (R493): an NTSCF frame with one ACF message, or a UDP
packet, by the flow, the format, the ACF bus, the identifier, SDT, VCID and the bit-rate switch. -/
opaque packMessage : List Nat → List Byte → List Byte

/-- The number of frames that the queue of a flow holds before it is full (R493). -/
opaque flowQueueDepth : Nat

/-- The egress port and traffic class that the static filtering table gives a frame without a flow context, port 24
for none (R511, R512): by the ingress port and the frame. -/
opaque staticRoute : Nat → List Byte → Nat × Nat

/-- The pixels of a display line (R455): the blend of the layers, the colour matrix, the gamma table and the dithering,
by the pipe's and the layers' settings, the line's number, and the source rows of the layers and the telltale plane. -/
opaque blendLine : List Nat → List (List Byte) → List Byte

/-- A blend mode (R452) in a format of a render target: by the mode, the format, the fragment's colour and the stored
one. -/
opaque blendPixel : Nat → Nat → Nat → Nat → Nat

/-- The stencil test (R452): by a pass's stencil settings and the stored value, whether it passes and the value it
leaves. -/
opaque stencilTest : Nat → Nat → Bool × Nat

/-- Whether a triangle covers a pixel of the telltale plane (R462), by the six coordinates of its vertices. -/
opaque covers : List Nat → Nat → Nat → Bool

/-- The source-over blend of two ARGB8888 colours (R462). -/
opaque sourceOver : Nat → Nat → Nat

/-- The IOMMU's translation (R372, the RISC-V IOMMU specification): by the memory, the IOMMU's registers, the
device_id, the I/O virtual address and whether the access writes; none for a translation fault. -/
opaque iommu : List Host.Cell → List (Nat × BitVec 64) → Nat → Nat → Bool → Option Nat

/-- The activity-counter weights in pJ that a calibration page holds, by the page's digest, die and counter, and its
weight of an LPDDR6 line (R59, R424, R439): the spec names the content of the page and leaves its layout open. -/
opaque powerWeight : Nat → Nat → Nat → Nat
opaque lineWeight : Nat → Nat

/-- A byte of a flash region whose byte layout the spec leaves open (R56, R67, R409): by the offset in the flash and what
the region holds. -/
opaque flashByte : Nat → List Nat → BitVec 8

/-- Where the fallback batch lies in the chamois SRAM, and its bytes (R260, R313): the spec leaves its place open. -/
opaque fallbackBatch : Nat × Nat

/-- Where CHAMOIS_NET lies in the chamois SRAM, and where the network leaves the fallback block (R312): the spec leaves
both places open. -/
opaque chamoisNet : Nat
opaque fallbackBlock : Nat

/-- What an activity counter of a die counts: its island, and the engine (0 to 15) or ring (16 to 31) whose work it
counts, 32 for any other (R424, R439). -/
opaque counterIsland : Nat → Nat → Nat
opaque counterUnit : Nat → Nat → Nat

/-- The leakage of an island over a period of 2 µs in pJ: by die, island, set point and temperature code (R424). -/
opaque leak : Nat → Nat → Nat → Nat → Nat

/-- Whether two islands of a die are adjacent, by die and the two islands, and the die at the other end of the fabric
link that an island borders (R48, R51). -/
opaque adjacent : Nat → Nat → Nat → Bool
opaque crossing : Nat → Nat → Option Nat

/-- An attestation signature (NIST SP 800-208, R409, R413) beyond its index, by key, index, message and byte number, and
the public key of an attestation key by byte number. -/
opaque attestSign : Nat → Nat → List Byte → Nat → Nat
opaque attestPublic : Nat → Nat → Nat

end Sys2Proof.Config
end

