-- ==== Sys2Proof/Machine/RegTypes.lean ====
section
/-! DEFINITION. The shapes of the register tables: a named field, a field's type (R6), who may write a register,
and a register's row. -/

namespace Sys2Proof.Machine

/-- A named field of a register: the offset of the register in its die's register window, the distance between
instances of the register, the field's lowest bit and its width. -/
structure Fld where
  off : Nat
  stride : Nat
  lo : Nat
  w : Nat
deriving DecidableEq, Repr

/-- The field types of R6. -/
inductive FieldTy where
  | ro | rw | w1c | w1s | wo | rc | hw
deriving DecidableEq, Repr

/-- What a field holds after load: a number of the table, a value that the image, the start or the unit gives, or
a number that the place of the register fixes. -/
inductive AfterLoad where
  | val (n : Nat)
  | image
  | dieNo
  | oDie
  | dieGov
  | stackNo
  | teId
  | peer
  | islands
  | compositor
  | level
deriving DecidableEq, Repr

/-- One field of a register: lowest bit, width, type, value after load and, where the spec lists them, the
permitted codes as inclusive ranges (R10; no range: every code is permitted). -/
structure FieldDesc where
  lo : Nat
  w : Nat
  ty : FieldTy
  after : AfterLoad
  codes : List (Nat × Nat)
deriving DecidableEq, Repr

/-- Who may write a register: the write rights that the owning chapter states for its block. -/
inductive WriteRight where
  | nobody
  | governor
  | governorOrSteward
  | dieControl
  | dieControlOrVault
  | anyControl
  | steward
  | sentinel
  | stewardOrSentinel
  | vault
  | loaderRegs
  | hlogSel
  | viWriter
  | fwSlot
  | fwDrv
  | telltale
  | pflogTail
  | ippRel
deriving DecidableEq, Repr

/-- A selector: the offset of its register and the width of its field, which starts at bit 0. -/
structure SelDesc where
  off : Nat
  w : Nat
deriving DecidableEq, Repr

/-- How a write of the register takes effect: by the generic rules of R4 to R10, as a selector, or in a row of
the table of operations of its own. -/
inductive RegKind where
  | plain | selector | own
deriving DecidableEq, Repr

/-- A register of the spec: the dies that hold it, its offset, the distance and the number of its instances (and
of a second level of instances), its write rights, its selector and its fields. -/
structure RegDesc where
  dies : List Nat
  off : Nat
  stride : Nat
  count : Nat
  stride2 : Nat
  count2 : Nat
  wr : WriteRight
  sel : Option SelDesc
  kind : RegKind
  fields : List FieldDesc
deriving DecidableEq, Repr

end Sys2Proof.Machine
end

