-- ==== Sys2Proof/Machine/RegFields.lean ====
section
/-! DEFINITION. The named fields of the registers, one line per field of the spec's register tables
(the rule of each table stands beside its register): offset of the register within its die's register
window, stride between instances, lowest bit, width. -/

namespace Sys2Proof.Machine.F

-- CFG_CAPS_ID (R29)
def cfgCapsId_device_code : Fld := ⟨0x380000, 0x0, 0, 16⟩
def cfgCapsId_stepping : Fld := ⟨0x380000, 0x0, 16, 8⟩
def cfgCapsId_lifecycle : Fld := ⟨0x380000, 0x0, 24, 4⟩
def cfgCapsId_dies_present : Fld := ⟨0x380000, 0x0, 32, 8⟩
-- CFG_CAPS_COUNTS (R30)
def cfgCapsCounts_engines : Fld := ⟨0x380008, 0x0, 0, 7⟩
def cfgCapsCounts_clusters : Fld := ⟨0x380008, 0x0, 8, 6⟩
def cfgCapsCounts_stacks : Fld := ⟨0x380008, 0x0, 16, 4⟩
def cfgCapsCounts_interleave_active : Fld := ⟨0x380008, 0x0, 20, 1⟩
def cfgCapsCounts_lpddr_gib : Fld := ⟨0x380008, 0x0, 24, 8⟩
def cfgCapsCounts_vector_units : Fld := ⟨0x380008, 0x0, 32, 6⟩
def cfgCapsCounts_chamois_engines : Fld := ⟨0x380008, 0x0, 40, 2⟩
-- CFG_CAPS_ENGINE_MAP (R31)
def cfgCapsEngineMap_engine_usable : Fld := ⟨0x380010, 0x0, 0, 64⟩
-- CFG_CAPS_CLUSTER_MAP (R31)
def cfgCapsClusterMap_cluster_usable : Fld := ⟨0x380018, 0x0, 0, 32⟩
def cfgCapsClusterMap_stack_usable : Fld := ⟨0x380018, 0x0, 32, 8⟩
-- CFG_CAPS_QUEUES_A (R32)
def cfgCapsQueuesA_accel_submit : Fld := ⟨0x380020, 0x0, 0, 16⟩
def cfgCapsQueuesA_completion : Fld := ⟨0x380020, 0x0, 16, 16⟩
def cfgCapsQueuesA_dma : Fld := ⟨0x380020, 0x0, 32, 16⟩
-- CFG_CAPS_QUEUES_B (R32)
def cfgCapsQueuesB_ethernet : Fld := ⟨0x380028, 0x0, 0, 16⟩
def cfgCapsQueuesB_gateway : Fld := ⟨0x380028, 0x0, 16, 16⟩
def cfgCapsQueuesB_system : Fld := ⟨0x380028, 0x0, 32, 16⟩
-- CFG_CAPS_CONTEXTS (R32)
def cfgCapsContexts_eth_flows : Fld := ⟨0x380030, 0x0, 0, 16⟩
def cfgCapsContexts_gw_routes : Fld := ⟨0x380030, 0x0, 16, 16⟩
def cfgCapsContexts_job_contexts : Fld := ⟨0x380030, 0x0, 32, 13⟩
def cfgCapsContexts_instances : Fld := ⟨0x380030, 0x0, 48, 7⟩
def cfgCapsContexts_max_guests : Fld := ⟨0x380030, 0x0, 56, 6⟩
-- CFG_CAPS_IO (R32)
def cfgCapsIo_eth_ports : Fld := ⟨0x380038, 0x0, 0, 5⟩
def cfgCapsIo_cam_lanes : Fld := ⟨0x380038, 0x0, 8, 6⟩
def cfgCapsIo_display_pipes : Fld := ⟨0x380038, 0x0, 16, 3⟩
def cfgCapsIo_host_mode : Fld := ⟨0x380038, 0x0, 20, 2⟩
def cfgCapsIo_host_bifurcated : Fld := ⟨0x380038, 0x0, 22, 1⟩
def cfgCapsIo_ssc_present : Fld := ⟨0x380038, 0x0, 24, 2⟩
-- CFG_CAPS_GEN (R32)
def cfgCapsGen_gen : Fld := ⟨0x380040, 0x0, 0, 32⟩
-- CFG_BOOT_STATUS (R78)
def cfgBootStatus_phase : Fld := ⟨0x380100, 0x0, 0, 4⟩
def cfgBootStatus_bank : Fld := ⟨0x380100, 0x0, 4, 1⟩
def cfgBootStatus_trial : Fld := ⟨0x380100, 0x0, 5, 1⟩
def cfgBootStatus_fallback_taken : Fld := ⟨0x380100, 0x0, 6, 1⟩
def cfgBootStatus_warm : Fld := ⟨0x380100, 0x0, 7, 1⟩
def cfgBootStatus_last_fail : Fld := ⟨0x380100, 0x0, 8, 8⟩
def cfgBootStatus_image_version : Fld := ⟨0x380100, 0x0, 16, 32⟩
def cfgBootStatus_warm_count : Fld := ⟨0x380100, 0x0, 48, 16⟩
-- CFG_BOOT_TIMES (R79)
def cfgBootTimes_safety_us : Fld := ⟨0x380108, 0x0, 0, 32⟩
def cfgBootTimes_compute_us : Fld := ⟨0x380108, 0x0, 32, 32⟩
-- CFG_BOOT_CTRL (R80)
def cfgBootCtrl_commit : Fld := ⟨0x380110, 0x0, 0, 1⟩
def cfgBootCtrl_switch : Fld := ⟨0x380110, 0x0, 1, 1⟩
def cfgBootCtrl_restart : Fld := ⟨0x380110, 0x0, 2, 1⟩
def cfgBootCtrl_bank_a : Fld := ⟨0x380110, 0x0, 4, 2⟩
def cfgBootCtrl_bank_b : Fld := ⟨0x380110, 0x0, 6, 2⟩
-- CFG_FLASH_CMD (R82)
def cfgFlashCmd_target : Fld := ⟨0x380120, 0x0, 0, 2⟩
def cfgFlashCmd_sectors : Fld := ⟨0x380120, 0x0, 4, 14⟩
def cfgFlashCmd_go : Fld := ⟨0x380120, 0x0, 24, 1⟩
def cfgFlashCmd_busy : Fld := ⟨0x380120, 0x0, 25, 1⟩
def cfgFlashCmd_status : Fld := ⟨0x380120, 0x0, 32, 8⟩
-- TE_ID (R147)
def teId_engine : Fld := ⟨0x100000, 0x10000, 0, 6⟩
def teId_die : Fld := ⟨0x100000, 0x10000, 8, 3⟩
def teId_cluster : Fld := ⟨0x100000, 0x10000, 11, 3⟩
def teId_engine_in_cluster : Fld := ⟨0x100000, 0x10000, 14, 1⟩
-- TE_CTRL (R148)
def teCtrl_start : Fld := ⟨0x100008, 0x10000, 0, 1⟩
def teCtrl_preempt : Fld := ⟨0x100008, 0x10000, 1, 1⟩
def teCtrl_resume : Fld := ⟨0x100008, 0x10000, 2, 1⟩
def teCtrl_abort : Fld := ⟨0x100008, 0x10000, 3, 1⟩
-- TE_STATUS (R149)
def teStatus_state : Fld := ⟨0x100010, 0x10000, 0, 4⟩
def teStatus_pc : Fld := ⟨0x100010, 0x10000, 4, 12⟩
def teStatus_bank_a : Fld := ⟨0x100010, 0x10000, 16, 2⟩
def teStatus_bank_b : Fld := ⟨0x100010, 0x10000, 18, 2⟩
def teStatus_loop_depth : Fld := ⟨0x100010, 0x10000, 20, 3⟩
def teStatus_handle_ready : Fld := ⟨0x100010, 0x10000, 24, 16⟩
-- TE_JOB (R150)
def teJob_job_ctx : Fld := ⟨0x100018, 0x10000, 0, 12⟩
def teJob_vi : Fld := ⟨0x100018, 0x10000, 12, 6⟩
def teJob_class : Fld := ⟨0x100018, 0x10000, 18, 2⟩
def teJob_checked : Fld := ⟨0x100018, 0x10000, 20, 1⟩
def teJob_speculative : Fld := ⟨0x100018, 0x10000, 21, 1⟩
def teJob_rank : Fld := ⟨0x100018, 0x10000, 22, 6⟩
-- TE_FAULT (R152)
def teFault_code : Fld := ⟨0x100030, 0x10000, 0, 16⟩
def teFault_pc : Fld := ⟨0x100030, 0x10000, 16, 12⟩
def teFault_valid : Fld := ⟨0x100030, 0x10000, 28, 1⟩
-- TE_STEPS (R153)
def teSteps_steps : Fld := ⟨0x100038, 0x10000, 0, 64⟩
-- TE_CONV_EVENTS (R153)
def teConvEvents_events : Fld := ⟨0x100040, 0x10000, 0, 32⟩
-- TE_CHECK_COUNTS (R153)
def teCheckCounts_tiles_checked : Fld := ⟨0x100048, 0x10000, 0, 32⟩
def teCheckCounts_interim : Fld := ⟨0x100048, 0x10000, 32, 16⟩
def teCheckCounts_imports : Fld := ⟨0x100048, 0x10000, 48, 16⟩
-- TE_SIG (R153)
def teSig_signature : Fld := ⟨0x100050, 0x10000, 0, 64⟩
-- TE_RESIDUE_LAST (R153)
def teResidueLast_predicted : Fld := ⟨0x100058, 0x10000, 0, 8⟩
def teResidueLast_found : Fld := ⟨0x100058, 0x10000, 8, 8⟩
def teResidueLast_bank : Fld := ⟨0x100058, 0x10000, 16, 1⟩
def teResidueLast_entry : Fld := ⟨0x100058, 0x10000, 17, 14⟩
def teResidueLast_code : Fld := ⟨0x100058, 0x10000, 32, 16⟩
-- SPM_GRANULE_n (R163)
def spmGranuleN_kind : Fld := ⟨0x200000, 0x8, 0, 3⟩
def spmGranuleN_vi : Fld := ⟨0x200000, 0x8, 4, 6⟩
def spmGranuleN_rt_partition : Fld := ⟨0x200000, 0x8, 10, 6⟩
def spmGranuleN_secure : Fld := ⟨0x200000, 0x8, 16, 1⟩
def spmGranuleN_scrubbing : Fld := ⟨0x200000, 0x8, 17, 1⟩
def spmGranuleN_poisoned : Fld := ⟨0x200000, 0x8, 18, 1⟩
-- SPM_ECC (R164)
def spmEcc_corrected : Fld := ⟨0x200080, 0x10000, 0, 32⟩
def spmEcc_uncorrected : Fld := ⟨0x200080, 0x10000, 32, 16⟩
-- SPM_ECC_ADDR (R164)
def spmEccAddr_addr : Fld := ⟨0x200088, 0x10000, 0, 48⟩
-- SPM_SCRUB (R164)
def spmScrub_passes : Fld := ⟨0x200090, 0x10000, 0, 32⟩
def spmScrub_last_pass_ms : Fld := ⟨0x200090, 0x10000, 32, 32⟩
-- SE_RING_BASE (R173)
def seRingBase_base : Fld := ⟨0x300000, 0x20, 0, 48⟩
def seRingBase_size_log2 : Fld := ⟨0x300000, 0x20, 48, 4⟩
def seRingBase_job_ctx : Fld := ⟨0x300000, 0x20, 52, 12⟩
-- SE_RING_TAIL (R173)
def seRingTail_tail : Fld := ⟨0x300008, 0x20, 0, 12⟩
-- SE_RING_HEAD (R173)
def seRingHead_head : Fld := ⟨0x300010, 0x20, 0, 12⟩
def seRingHead_state : Fld := ⟨0x300010, 0x20, 16, 3⟩
-- SE_RING_CTRL (R173)
def seRingCtrl_start : Fld := ⟨0x300018, 0x20, 0, 1⟩
def seRingCtrl_pause : Fld := ⟨0x300018, 0x20, 1, 1⟩
def seRingCtrl_abort : Fld := ⟨0x300018, 0x20, 2, 1⟩
-- SE_STATUS (R174)
def seStatus_outstanding : Fld := ⟨0x300080, 0x10000, 0, 9⟩
def seStatus_last_code : Fld := ⟨0x300080, 0x10000, 16, 16⟩
def seStatus_last_ring : Fld := ⟨0x300080, 0x10000, 32, 2⟩
-- SE_BYTES (R174)
def seBytes_lines : Fld := ⟨0x300088, 0x10000, 0, 64⟩
-- MEM_STATUS (R181)
def memStatus_trained : Fld := ⟨0x3C0000, 0x100, 0, 1⟩
def memStatus_usable : Fld := ⟨0x3C0000, 0x100, 1, 1⟩
def memStatus_stack : Fld := ⟨0x3C0000, 0x100, 4, 3⟩
def memStatus_temp_c : Fld := ⟨0x3C0000, 0x100, 8, 8⟩
-- MEM_ECC (R181)
def memEcc_corrected : Fld := ⟨0x3C0008, 0x100, 0, 32⟩
def memEcc_uncorrected : Fld := ⟨0x3C0008, 0x100, 32, 16⟩
-- MEM_ECC_ADDR (R181)
def memEccAddr_addr : Fld := ⟨0x3C0010, 0x100, 0, 48⟩
-- MEM_LINES (R181)
def memLines_lines : Fld := ⟨0x3C0018, 0x100, 0, 64⟩
-- MEM_PATROL (R181)
def memPatrol_passes : Fld := ⟨0x3C0020, 0x100, 0, 32⟩
-- CG_ID (R220)
def cgId_die : Fld := ⟨0x380000, 0x0, 0, 3⟩
def cgId_tvt_entries : Fld := ⟨0x380000, 0x0, 8, 14⟩
def cgId_token_entries : Fld := ⟨0x380000, 0x0, 32, 15⟩
-- CG_CONFIG (R220)
def cgConfig_strict_classes : Fld := ⟨0x380008, 0x0, 0, 4⟩
-- CG_STATUS (R220)
def cgStatus_tvt_used : Fld := ⟨0x380010, 0x0, 0, 14⟩
def cgStatus_tokens_used : Fld := ⟨0x380010, 0x0, 16, 15⟩
-- CG_COUNTS (R220)
def cgCounts_confirmations : Fld := ⟨0x380018, 0x0, 0, 32⟩
def cgCounts_discards : Fld := ⟨0x380018, 0x0, 32, 32⟩
-- CG_EVENTS (R220)
def cgEvents_foreign_writes : Fld := ⟨0x380020, 0x0, 0, 16⟩
def cgEvents_late_resolves : Fld := ⟨0x380020, 0x0, 16, 16⟩
def cgEvents_owner_conflicts : Fld := ⟨0x380020, 0x0, 32, 16⟩
def cgEvents_deadline_expiries : Fld := ⟨0x380020, 0x0, 48, 16⟩
-- CG_TVT_SEL (R221)
def cgTvtSel_entry : Fld := ⟨0x380100, 0x0, 0, 13⟩
-- CG_TVT_ENTRY (R221)
def cgTvtEntry_confirmed_slot : Fld := ⟨0x380108, 0x0, 0, 1⟩
def cgTvtEntry_state : Fld := ⟨0x380108, 0x0, 1, 2⟩
def cgTvtEntry_version : Fld := ⟨0x380108, 0x0, 4, 16⟩
def cgTvtEntry_owner : Fld := ⟨0x380108, 0x0, 20, 12⟩
def cgTvtEntry_marks_req_m1 : Fld := ⟨0x380108, 0x0, 32, 4⟩
def cgTvtEntry_marks_rcvd : Fld := ⟨0x380108, 0x0, 36, 4⟩
def cgTvtEntry_frame : Fld := ⟨0x380108, 0x0, 40, 16⟩
def cgTvtEntry_token : Fld := ⟨0x380108, 0x0, 56, 7⟩
def cgTvtEntry_bound : Fld := ⟨0x380108, 0x0, 63, 1⟩
-- CG_TVT_WRITERS (R221)
def cgTvtWriters_ranks : Fld := ⟨0x380110, 0x0, 0, 64⟩
-- CG_TVT_LAST (R221)
def cgTvtLast_confirmed_by : Fld := ⟨0x380118, 0x0, 0, 12⟩
def cgTvtLast_tag : Fld := ⟨0x380118, 0x0, 16, 16⟩
def cgTvtLast_confirm_us : Fld := ⟨0x380118, 0x0, 32, 32⟩
-- CG_TOKEN_SEL (R222)
def cgTokenSel_token : Fld := ⟨0x380120, 0x0, 0, 14⟩
-- CG_TOKEN (R222)
def cgToken_state : Fld := ⟨0x380128, 0x0, 0, 2⟩
def cgToken_by : Fld := ⟨0x380128, 0x0, 2, 2⟩
def cgToken_job_ctx : Fld := ⟨0x380128, 0x0, 4, 12⟩
def cgToken_index : Fld := ⟨0x380128, 0x0, 16, 7⟩
-- CG_BUF_BASE (R223)
def cgBufBase_base : Fld := ⟨0x381000, 0x20, 0, 48⟩
-- CG_BUF_SHADOW (R223)
def cgBufShadow_shadow : Fld := ⟨0x381008, 0x20, 0, 48⟩
-- CG_BUF_CTRL (R223)
def cgBufCtrl_granules_m1 : Fld := ⟨0x381010, 0x20, 0, 13⟩
def cgBufCtrl_fill : Fld := ⟨0x381010, 0x20, 13, 1⟩
def cgBufCtrl_valid : Fld := ⟨0x381010, 0x20, 15, 1⟩
def cgBufCtrl_tok_span : Fld := ⟨0x381010, 0x20, 16, 16⟩
def cgBufCtrl_vi : Fld := ⟨0x381010, 0x20, 32, 6⟩
def cgBufCtrl_tvt_first : Fld := ⟨0x381010, 0x20, 40, 13⟩
-- CG_BUF_STATUS (R223)
def cgBufStatus_open : Fld := ⟨0x381018, 0x20, 0, 14⟩
def cgBufStatus_marked : Fld := ⟨0x381018, 0x20, 16, 14⟩
def cgBufStatus_flips : Fld := ⟨0x381018, 0x20, 32, 32⟩
-- CG_BUF_READERS_n (R224)
def cgBufReadersN_readers : Fld := ⟨0x383000, 0x8, 0, 64⟩
-- SCH_ID (R251)
def schId_job_contexts : Fld := ⟨0x280000, 0x0, 0, 13⟩
def schId_rt_partitions : Fld := ⟨0x280000, 0x0, 16, 7⟩
def schId_active_partitions : Fld := ⟨0x280000, 0x0, 32, 8⟩
-- SCH_CTRL (R251)
def schCtrl_fw_attached : Fld := ⟨0x280008, 0x0, 0, 1⟩
-- SCH_STATUS (R251)
def schStatus_ctx_used : Fld := ⟨0x280010, 0x0, 0, 13⟩
def schStatus_ready_high : Fld := ⟨0x280010, 0x0, 16, 13⟩
def schStatus_ready_normal : Fld := ⟨0x280010, 0x0, 32, 13⟩
def schStatus_ready_bulk : Fld := ⟨0x280010, 0x0, 48, 13⟩
-- SCH_FRAME (R251)
def schFrame_frame : Fld := ⟨0x280018, 0x0, 0, 32⟩
def schFrame_frame_start_us : Fld := ⟨0x280018, 0x0, 32, 32⟩
-- SCH_EVENTS (R251)
def schEvents_preemptions : Fld := ⟨0x280020, 0x0, 0, 16⟩
def schEvents_spilled : Fld := ⟨0x280020, 0x0, 16, 16⟩
def schEvents_refusals : Fld := ⟨0x280020, 0x0, 32, 16⟩
def schEvents_overruns : Fld := ⟨0x280020, 0x0, 48, 16⟩
-- SCH_EVENTS2 (R251)
def schEvents2_cache_drops : Fld := ⟨0x280028, 0x0, 0, 16⟩
def schEvents2_cq_holds : Fld := ⟨0x280028, 0x0, 16, 16⟩
def schEvents2_space_waits : Fld := ⟨0x280028, 0x0, 32, 16⟩
-- SCH_QSEL (R252)
def schQsel_queue : Fld := ⟨0x280100, 0x0, 0, 16⟩
-- SCH_QBASE (R252)
def schQbase_base : Fld := ⟨0x280108, 0x0, 0, 48⟩
def schQbase_size_log2 : Fld := ⟨0x280108, 0x0, 48, 4⟩
def schQbase_vi : Fld := ⟨0x280108, 0x0, 52, 6⟩
-- SCH_QCFG (R252)
def schQcfg_class_max : Fld := ⟨0x280110, 0x0, 0, 2⟩
def schQcfg_rt_bound : Fld := ⟨0x280110, 0x0, 2, 1⟩
def schQcfg_rt_partition : Fld := ⟨0x280110, 0x0, 3, 6⟩
def schQcfg_msi_vector : Fld := ⟨0x280110, 0x0, 16, 11⟩
def schQcfg_msi_enable : Fld := ⟨0x280110, 0x0, 27, 1⟩
-- SCH_QPTR (R252)
def schQptr_head : Fld := ⟨0x280118, 0x0, 0, 16⟩
def schQptr_tail : Fld := ⟨0x280118, 0x0, 16, 16⟩
def schQptr_state : Fld := ⟨0x280118, 0x0, 32, 2⟩
-- SCH_JSEL (R253)
def schJsel_ctx : Fld := ⟨0x280120, 0x0, 0, 12⟩
-- SCH_JCTX (R253)
def schJctx_state : Fld := ⟨0x280128, 0x0, 0, 4⟩
def schJctx_vi : Fld := ⟨0x280128, 0x0, 4, 6⟩
def schJctx_class : Fld := ⟨0x280128, 0x0, 10, 2⟩
def schJctx_herd : Fld := ⟨0x280128, 0x0, 12, 1⟩
def schJctx_queue : Fld := ⟨0x280128, 0x0, 16, 16⟩
def schJctx_tag : Fld := ⟨0x280128, 0x0, 32, 16⟩
def schJctx_ranks_m1 : Fld := ⟨0x280128, 0x0, 48, 6⟩
-- SCH_JRANKS (R253)
def schJranks_engines : Fld := ⟨0x280130, 0x0, 0, 64⟩
-- SCH_RT_ENGINES (R254)
def schRtEngines_engines : Fld := ⟨0x281000, 0x20, 0, 64⟩
-- SCH_RT_CFG (R254)
def schRtCfg_budget_steps : Fld := ⟨0x281008, 0x20, 0, 32⟩
def schRtCfg_window : Fld := ⟨0x281008, 0x20, 32, 30⟩
def schRtCfg_condition : Fld := ⟨0x281008, 0x20, 62, 1⟩
def schRtCfg_spare_from_shared : Fld := ⟨0x281008, 0x20, 63, 1⟩
-- SCH_RT_USE (R254)
def schRtUse_used : Fld := ⟨0x281010, 0x20, 0, 40⟩
def schRtUse_usable : Fld := ⟨0x281010, 0x20, 40, 7⟩
def schRtUse_admit_corner : Fld := ⟨0x281010, 0x20, 47, 1⟩
-- SCH_RT_COUNTS (R254)
def schRtCounts_admitted : Fld := ⟨0x281018, 0x20, 0, 16⟩
def schRtCounts_no_budget : Fld := ⟨0x281018, 0x20, 16, 16⟩
def schRtCounts_late : Fld := ⟨0x281018, 0x20, 32, 16⟩
def schRtCounts_overruns : Fld := ⟨0x281018, 0x20, 48, 16⟩
-- SCH_DIE_ID (R255)
def schDieId_die : Fld := ⟨0x20000, 0x0, 0, 3⟩
-- SCH_EVENT (R255)
def schEvent_kind : Fld := ⟨0x20008, 0x0, 0, 4⟩
def schEvent_job_ctx : Fld := ⟨0x20008, 0x0, 4, 12⟩
def schEvent_detail : Fld := ⟨0x20008, 0x0, 16, 48⟩
-- SCH_EVENT_PENDING (R255)
def schEventPending_count : Fld := ⟨0x20010, 0x0, 0, 11⟩
def schEventPending_overflow : Fld := ⟨0x20010, 0x0, 11, 1⟩
-- SCH_RT_LOCK (R255)
def schRtLock_engines : Fld := ⟨0x20018, 0x0, 0, 16⟩
-- SCH_XDIE (R255)
def schXdie_kind : Fld := ⟨0x20020, 0x0, 0, 4⟩
def schXdie_job_ctx : Fld := ⟨0x20020, 0x0, 4, 12⟩
def schXdie_rank : Fld := ⟨0x20020, 0x0, 16, 6⟩
-- IPP_ID (R282)
def ippId_die : Fld := ⟨0x280000, 0x0, 0, 1⟩
def ippId_streams : Fld := ⟨0x280000, 0x0, 8, 8⟩
def ippId_groups : Fld := ⟨0x280000, 0x0, 16, 8⟩
def ippId_sequencers : Fld := ⟨0x280000, 0x0, 24, 8⟩
-- IPP_SSEL (R282)
def ippSsel_stream : Fld := ⟨0x280100, 0x0, 0, 6⟩
-- IPP_SCFG (R282)
def ippScfg_enable : Fld := ⟨0x280108, 0x0, 0, 1⟩
def ippScfg_decode : Fld := ⟨0x280108, 0x0, 1, 2⟩
def ippScfg_fmt : Fld := ⟨0x280108, 0x0, 3, 4⟩
def ippScfg_chw : Fld := ⟨0x280108, 0x0, 7, 1⟩
def ippScfg_sequencer : Fld := ⟨0x280108, 0x0, 8, 4⟩
def ippScfg_group : Fld := ⟨0x280108, 0x0, 12, 4⟩
def ippScfg_slot : Fld := ⟨0x280108, 0x0, 16, 6⟩
def ippScfg_in_group : Fld := ⟨0x280108, 0x0, 22, 1⟩
def ippScfg_budget_us : Fld := ⟨0x280108, 0x0, 24, 16⟩
def ippScfg_source : Fld := ⟨0x280108, 0x0, 40, 16⟩
-- IPP_SPARAM (R282)
def ippSparam_src : Fld := ⟨0x280110, 0x0, 0, 48⟩
def ippSparam_load : Fld := ⟨0x280110, 0x0, 48, 1⟩
def ippSparam_busy : Fld := ⟨0x280110, 0x0, 49, 1⟩
-- IPP_SSTAT (R282)
def ippSstat_state : Fld := ⟨0x280118, 0x0, 0, 2⟩
def ippSstat_reset : Fld := ⟨0x280118, 0x0, 2, 1⟩
def ippSstat_concealed : Fld := ⟨0x280118, 0x0, 16, 16⟩
def ippSstat_aborts : Fld := ⟨0x280118, 0x0, 32, 16⟩
def ippSstat_late : Fld := ⟨0x280118, 0x0, 48, 16⟩
-- IPP_GRP_BASE (R283)
def ippGrpBase_base : Fld := ⟨0x281000, 0x40, 0, 48⟩
-- IPP_GRP_CFG (R283)
def ippGrpCfg_slots_m1 : Fld := ⟨0x281008, 0x40, 0, 6⟩
def ippGrpCfg_depth_m1 : Fld := ⟨0x281008, 0x40, 6, 4⟩
def ippGrpCfg_low_water : Fld := ⟨0x281008, 0x40, 10, 4⟩
def ippGrpCfg_alarm_en : Fld := ⟨0x281008, 0x40, 14, 1⟩
def ippGrpCfg_window_src : Fld := ⟨0x281008, 0x40, 15, 1⟩
def ippGrpCfg_rt : Fld := ⟨0x281008, 0x40, 16, 1⟩
def ippGrpCfg_rt_partition : Fld := ⟨0x281008, 0x40, 17, 6⟩
def ippGrpCfg_vi : Fld := ⟨0x281008, 0x40, 23, 6⟩
def ippGrpCfg_enable : Fld := ⟨0x281008, 0x40, 29, 1⟩
def ippGrpCfg_stride : Fld := ⟨0x281008, 0x40, 32, 32⟩
-- IPP_GRP_TIMING (R283)
def ippGrpTiming_period : Fld := ⟨0x281010, 0x40, 0, 24⟩
def ippGrpTiming_offset : Fld := ⟨0x281010, 0x40, 24, 24⟩
-- IPP_GRP_TIMING2 (R283)
def ippGrpTiming2_close_offset : Fld := ⟨0x281018, 0x40, 0, 24⟩
def ippGrpTiming2_consume_offset : Fld := ⟨0x281018, 0x40, 24, 24⟩
-- IPP_GRP_STATE (R283)
def ippGrpState_prepared : Fld := ⟨0x281020, 0x40, 0, 5⟩
def ippGrpState_held : Fld := ⟨0x281020, 0x40, 5, 5⟩
def ippGrpState_alarm : Fld := ⟨0x281020, 0x40, 10, 1⟩
def ippGrpState_window : Fld := ⟨0x281020, 0x40, 16, 32⟩
-- IPP_GRP_ACQ (R283)
def ippGrpAcq_index : Fld := ⟨0x281028, 0x40, 0, 4⟩
def ippGrpAcq_valid : Fld := ⟨0x281028, 0x40, 4, 1⟩
def ippGrpAcq_window : Fld := ⟨0x281028, 0x40, 32, 32⟩
-- IPP_GRP_REL (R283)
def ippGrpRel_index : Fld := ⟨0x281030, 0x40, 0, 4⟩
-- IPP_GRP_COUNTS (R283)
def ippGrpCounts_overwritten : Fld := ⟨0x281038, 0x40, 0, 16⟩
def ippGrpCounts_not_collected : Fld := ⟨0x281038, 0x40, 16, 16⟩
def ippGrpCounts_rt_missing : Fld := ⟨0x281038, 0x40, 32, 16⟩
def ippGrpCounts_late_prepared : Fld := ⟨0x281038, 0x40, 48, 16⟩
-- SAF_ID (R322)
def safId_version : Fld := ⟨0x100000, 0x0, 0, 8⟩
def safId_outputs : Fld := ⟨0x100000, 0x0, 8, 7⟩
def safId_fallback_configured : Fld := ⟨0x100000, 0x0, 15, 1⟩
-- SAF_STATUS (R322)
def safStatus_safe_state : Fld := ⟨0x100008, 0x0, 0, 1⟩
def safStatus_time_valid : Fld := ⟨0x100008, 0x0, 1, 1⟩
def safStatus_fallback : Fld := ⟨0x100008, 0x0, 2, 2⟩
def safStatus_reason : Fld := ⟨0x100008, 0x0, 8, 16⟩
def safStatus_last_seq : Fld := ⟨0x100008, 0x0, 32, 32⟩
-- SAF_CTRL (R322)
def safCtrl_request_safe : Fld := ⟨0x100010, 0x0, 0, 1⟩
-- SAF_FRAME (R322)
def safFrame_current_frame : Fld := ⟨0x100018, 0x0, 0, 32⟩
def safFrame_decided_frame : Fld := ⟨0x100018, 0x0, 32, 32⟩
-- SAF_LIVE (R322)
def safLive_not_valid : Fld := ⟨0x100020, 0x0, 0, 64⟩
-- SAF_RETRO (R322)
def safRetro_retro_first : Fld := ⟨0x100028, 0x0, 0, 32⟩
def safRetro_retro_last : Fld := ⟨0x100028, 0x0, 32, 32⟩
-- SAF_RETRO_MASK (R322)
def safRetroMask_mask : Fld := ⟨0x100030, 0x0, 0, 64⟩
-- SAF_COUNTS (R322)
def safCounts_degraded_frames : Fld := ⟨0x100038, 0x0, 0, 16⟩
def safCounts_invalid_frames : Fld := ⟨0x100038, 0x0, 16, 16⟩
def safCounts_retro_events : Fld := ⟨0x100038, 0x0, 32, 16⟩
def safCounts_safe_entries : Fld := ⟨0x100038, 0x0, 48, 16⟩
-- SAF_CFG (R322)
def safCfg_decision_offset : Fld := ⟨0x100040, 0x0, 0, 32⟩
def safCfg_fallback_deadline : Fld := ⟨0x100040, 0x0, 32, 32⟩
-- SAF_RESTARTS (R322)
def safRestarts_recent : Fld := ⟨0x100048, 0x0, 0, 3⟩
-- SAF_OUT_SEL (R322)
def safOutSel_output : Fld := ⟨0x100100, 0x0, 0, 6⟩
-- SAF_OUT (R322)
def safOut_kind : Fld := ⟨0x100108, 0x0, 0, 4⟩
def safOut_index : Fld := ⟨0x100108, 0x0, 4, 8⟩
def safOut_fallback : Fld := ⟨0x100108, 0x0, 16, 8⟩
def safOut_live_state : Fld := ⟨0x100108, 0x0, 24, 2⟩
def safOut_decided_state : Fld := ⟨0x100108, 0x0, 26, 2⟩
def safOut_last_reason : Fld := ⟨0x100108, 0x0, 32, 16⟩
def safOut_bad_frames : Fld := ⟨0x100108, 0x0, 48, 16⟩
-- GFT_CFG (R323)
def gftCfg_frame_period : Fld := ⟨0x140000, 0x0, 0, 32⟩
def gftCfg_frame_phase : Fld := ⟨0x140000, 0x0, 32, 32⟩
-- GFT_WINDOW (R323)
def gftWindow_gt_open : Fld := ⟨0x140008, 0x0, 0, 32⟩
def gftWindow_confirm_offset : Fld := ⟨0x140008, 0x0, 32, 32⟩
-- GFT_TEST (R323)
def gftTest_test_steps : Fld := ⟨0x140010, 0x0, 0, 17⟩
-- GFT_STATUS (R323)
def gftStatus_frame : Fld := ⟨0x140018, 0x0, 0, 32⟩
def gftStatus_pending : Fld := ⟨0x140018, 0x0, 32, 7⟩
def gftStatus_testing : Fld := ⟨0x140018, 0x0, 40, 7⟩
-- GFT_COUNTS (R323)
def gftCounts_tests : Fld := ⟨0x140020, 0x0, 0, 32⟩
def gftCounts_failures : Fld := ⟨0x140020, 0x0, 32, 16⟩
def gftCounts_forced : Fld := ⟨0x140020, 0x0, 48, 16⟩
-- GFT_LAST_FAIL (R323)
def gftLastFail_engine : Fld := ⟨0x140028, 0x0, 0, 6⟩
def gftLastFail_cause : Fld := ⟨0x140028, 0x0, 6, 2⟩
def gftLastFail_frame : Fld := ⟨0x140028, 0x0, 8, 32⟩
-- GFT_LAST_SIG (R323)
def gftLastSig_found : Fld := ⟨0x140030, 0x0, 0, 64⟩
-- GFT_ENG_SEL (R323)
def gftEngSel_engine : Fld := ⟨0x140100, 0x0, 0, 6⟩
-- GFT_ENG (R323)
def gftEng_state : Fld := ⟨0x140108, 0x0, 0, 3⟩
def gftEng_rt : Fld := ⟨0x140108, 0x0, 3, 1⟩
def gftEng_window : Fld := ⟨0x140108, 0x0, 4, 16⟩
def gftEng_events_10min : Fld := ⟨0x140108, 0x0, 20, 2⟩
def gftEng_last_result : Fld := ⟨0x140108, 0x0, 22, 2⟩
def gftEng_events_total : Fld := ⟨0x140108, 0x0, 32, 16⟩
def gftEng_forced : Fld := ⟨0x140108, 0x0, 48, 16⟩
-- GFT_ENG_TIME (R323)
def gftEngTime_last_pass_us : Fld := ⟨0x140110, 0x0, 0, 32⟩
-- CHU_STATUS (R324)
def chuStatus_fallback : Fld := ⟨0x480000, 0x0, 0, 2⟩
def chuStatus_engines : Fld := ⟨0x480000, 0x0, 2, 2⟩
def chuStatus_pace : Fld := ⟨0x480000, 0x0, 8, 8⟩
-- CHU_FRAME (R324)
def chuFrame_last_frame : Fld := ⟨0x480008, 0x0, 0, 32⟩
def chuFrame_run_steps : Fld := ⟨0x480008, 0x0, 32, 32⟩
-- CHU_COUNTS (R324)
def chuCounts_unavailable : Fld := ⟨0x480010, 0x0, 0, 16⟩
def chuCounts_test_failures : Fld := ⟨0x480010, 0x0, 16, 16⟩
def chuCounts_missing_inputs : Fld := ⟨0x480010, 0x0, 32, 16⟩
-- SSC_STATUS (R324)
def sscStatus_active : Fld := ⟨0x3C0000, 0x0, 0, 1⟩
def sscStatus_relaxation_timed : Fld := ⟨0x3C0000, 0x0, 1, 1⟩
def sscStatus_seq : Fld := ⟨0x3C0000, 0x0, 8, 32⟩
-- SSC_LAST (R324)
def sscLast_sent : Fld := ⟨0x3C0008, 0x0, 0, 64⟩
-- SAF_PAIR_SEL (R338)
def safPairSel_pair : Fld := ⟨0x100200, 0x0, 0, 3⟩
-- SAF_PAIR (R338)
def safPair_state : Fld := ⟨0x100208, 0x0, 0, 3⟩
def safPair_active : Fld := ⟨0x100208, 0x0, 3, 1⟩
def safPair_miscompares : Fld := ⟨0x100208, 0x0, 16, 16⟩
def safPair_last_us : Fld := ⟨0x100208, 0x0, 32, 32⟩
-- SAF_PAIR_COUNTS (R338)
def safPairCounts_sram_corrected : Fld := ⟨0x100210, 0x0, 0, 16⟩
def safPairCounts_takeovers : Fld := ⟨0x100210, 0x0, 16, 16⟩
-- TSQ_ID (R362)
def tsqId_sequencers : Fld := ⟨0x300000, 0x0, 0, 7⟩
def tsqId_store_programs : Fld := ⟨0x300000, 0x0, 8, 8⟩
-- TSQ_SEL (R362)
def tsqSel_seq : Fld := ⟨0x300100, 0x0, 0, 7⟩
-- TSQ_STATE (R362)
def tsqState_state : Fld := ⟨0x300108, 0x0, 0, 3⟩
def tsqState_lockstep : Fld := ⟨0x300108, 0x0, 3, 1⟩
def tsqState_pc : Fld := ⟨0x300108, 0x0, 4, 12⟩
def tsqState_program : Fld := ⟨0x300108, 0x0, 16, 8⟩
def tsqState_last_fault : Fld := ⟨0x300108, 0x0, 32, 16⟩
def tsqState_faults : Fld := ⟨0x300108, 0x0, 48, 8⟩
-- TSQ_COUNTS (R362)
def tsqCounts_activations : Fld := ⟨0x300110, 0x0, 0, 32⟩
def tsqCounts_max_periods : Fld := ⟨0x300110, 0x0, 32, 16⟩
def tsqCounts_ecc_corrected : Fld := ⟨0x300110, 0x0, 48, 16⟩
-- TSQ_CTRL (R363)
def tsqCtrl_restart : Fld := ⟨0x300118, 0x0, 0, 1⟩
def tsqCtrl_stop : Fld := ⟨0x300118, 0x0, 1, 1⟩
-- TSQ_SWAP (R363)
def tsqSwap_seq : Fld := ⟨0x300120, 0x0, 0, 7⟩
def tsqSwap_table : Fld := ⟨0x300120, 0x0, 8, 3⟩
def tsqSwap_variant : Fld := ⟨0x300120, 0x0, 11, 8⟩
def tsqSwap_go : Fld := ⟨0x300120, 0x0, 19, 1⟩
def tsqSwap_busy : Fld := ⟨0x300120, 0x0, 20, 1⟩
def tsqSwap_status : Fld := ⟨0x300120, 0x0, 21, 2⟩
-- TSQ_SE_BIND (R363)
def tsqSeBind_se : Fld := ⟨0x300128, 0x0, 0, 2⟩
def tsqSeBind_die : Fld := ⟨0x300128, 0x0, 2, 2⟩
def tsqSeBind_program : Fld := ⟨0x300128, 0x0, 4, 8⟩
def tsqSeBind_enable : Fld := ⟨0x300128, 0x0, 12, 1⟩
def tsqSeBind_ring : Fld := ⟨0x300128, 0x0, 13, 2⟩
-- VI_RID_MAP_n (R366)
def viRidMapN_rid : Fld := ⟨0x200400, 0x8, 0, 16⟩
def viRidMapN_vi : Fld := ⟨0x200400, 0x8, 16, 6⟩
def viRidMapN_valid : Fld := ⟨0x200400, 0x8, 22, 1⟩
-- VI_ID (R385)
def viId_instances : Fld := ⟨0x200000, 0x0, 0, 7⟩
def viId_max_guests : Fld := ⟨0x200000, 0x0, 8, 6⟩
def viId_iommu_version : Fld := ⟨0x200000, 0x0, 16, 8⟩
-- VI_STATUS (R385)
def viStatus_active : Fld := ⟨0x200008, 0x0, 0, 7⟩
def viStatus_guests : Fld := ⟨0x200008, 0x0, 8, 6⟩
-- VI_SEL (R385)
def viSel_vi : Fld := ⟨0x200100, 0x0, 0, 6⟩
-- VI_STATE (R386)
def viState_state : Fld := ⟨0x200108, 0x0, 0, 3⟩
def viState_over_budget : Fld := ⟨0x200108, 0x0, 3, 1⟩
def viState_resets : Fld := ⟨0x200108, 0x0, 8, 8⟩
-- VI_CMD (R386)
def viCmd_cmd : Fld := ⟨0x200110, 0x0, 0, 4⟩
def viCmd_shrink_now : Fld := ⟨0x200110, 0x0, 4, 1⟩
def viCmd_go : Fld := ⟨0x200110, 0x0, 8, 1⟩
def viCmd_busy : Fld := ⟨0x200110, 0x0, 9, 1⟩
def viCmd_status : Fld := ⟨0x200110, 0x0, 16, 8⟩
-- VI_OWNER (R387)
def viOwner_guest : Fld := ⟨0x200118, 0x0, 0, 5⟩
def viOwner_device_id : Fld := ⟨0x200118, 0x0, 8, 24⟩
def viOwner_vf_enable : Fld := ⟨0x200118, 0x0, 32, 1⟩
def viOwner_class_max : Fld := ⟨0x200118, 0x0, 33, 2⟩
-- VI_QUEUES_A (R387)
def viQueuesA_accel_first : Fld := ⟨0x200120, 0x0, 0, 9⟩
def viQueuesA_accel_blocks : Fld := ⟨0x200120, 0x0, 9, 10⟩
def viQueuesA_cq_first : Fld := ⟨0x200120, 0x0, 19, 9⟩
def viQueuesA_cq_blocks : Fld := ⟨0x200120, 0x0, 28, 10⟩
def viQueuesA_dma_first : Fld := ⟨0x200120, 0x0, 38, 8⟩
def viQueuesA_dma_blocks : Fld := ⟨0x200120, 0x0, 46, 9⟩
-- VI_QUEUES_B (R387)
def viQueuesB_eth_first : Fld := ⟨0x200128, 0x0, 0, 9⟩
def viQueuesB_eth_blocks : Fld := ⟨0x200128, 0x0, 9, 10⟩
def viQueuesB_gw_first : Fld := ⟨0x200128, 0x0, 19, 7⟩
def viQueuesB_gw_blocks : Fld := ⟨0x200128, 0x0, 26, 8⟩
def viQueuesB_sys_first : Fld := ⟨0x200128, 0x0, 34, 7⟩
def viQueuesB_sys_blocks : Fld := ⟨0x200128, 0x0, 41, 8⟩
-- VI_CTX (R387)
def viCtx_ctx_first : Fld := ⟨0x200130, 0x0, 0, 8⟩
def viCtx_ctx_blocks : Fld := ⟨0x200130, 0x0, 8, 9⟩
def viCtx_vec_first : Fld := ⟨0x200130, 0x0, 24, 11⟩
def viCtx_vec_count : Fld := ⟨0x200130, 0x0, 35, 12⟩
-- VI_ENGINES (R387)
def viEngines_engine_max : Fld := ⟨0x200138, 0x0, 0, 7⟩
def viEngines_die_mask : Fld := ⟨0x200138, 0x0, 8, 4⟩
def viEngines_weight : Fld := ⟨0x200138, 0x0, 16, 8⟩
-- VI_SPM (R387)
def viSpm_spm_min0 : Fld := ⟨0x200140, 0x0, 0, 8⟩
def viSpm_spm_min1 : Fld := ⟨0x200140, 0x0, 16, 8⟩
def viSpm_spm_min2 : Fld := ⟨0x200140, 0x0, 32, 8⟩
def viSpm_spm_min3 : Fld := ⟨0x200140, 0x0, 48, 8⟩
def viSpm_spm_max0 : Fld := ⟨0x200140, 0x0, 8, 8⟩
def viSpm_spm_max1 : Fld := ⟨0x200140, 0x0, 24, 8⟩
def viSpm_spm_max2 : Fld := ⟨0x200140, 0x0, 40, 8⟩
def viSpm_spm_max3 : Fld := ⟨0x200140, 0x0, 56, 8⟩
-- VI_BW (R387)
def viBw_rate0 : Fld := ⟨0x200148, 0x0, 0, 10⟩
def viBw_rate1 : Fld := ⟨0x200148, 0x0, 10, 10⟩
def viBw_rate2 : Fld := ⟨0x200148, 0x0, 20, 10⟩
def viBw_rate3 : Fld := ⟨0x200148, 0x0, 30, 10⟩
def viBw_depth : Fld := ⟨0x200148, 0x0, 40, 8⟩
def viBw_work_conserving : Fld := ⟨0x200148, 0x0, 48, 1⟩
-- VI_MSI (R387)
def viMsi_file : Fld := ⟨0x200150, 0x0, 12, 36⟩
-- VI_COALESCE (R387)
def viCoalesce_count_max : Fld := ⟨0x200158, 0x0, 0, 8⟩
def viCoalesce_time_us : Fld := ⟨0x200158, 0x0, 8, 16⟩
def viCoalesce_ob_us : Fld := ⟨0x200158, 0x0, 24, 16⟩
-- VI_EXT_n (R387)
def viExtN_base : Fld := ⟨0x200180, 0x8, 21, 27⟩
def viExtN_granules : Fld := ⟨0x200180, 0x8, 48, 16⟩
-- VI_USE (R388)
def viUse_engines_held : Fld := ⟨0x2001C0, 0x0, 0, 7⟩
def viUse_granules : Fld := ⟨0x2001C0, 0x0, 8, 10⟩
def viUse_jobs_live : Fld := ⟨0x2001C0, 0x0, 18, 13⟩
def viUse_pending_msi : Fld := ⟨0x2001C0, 0x0, 32, 16⟩
-- VI_COUNTS (R388)
def viCounts_ob_events : Fld := ⟨0x2001C8, 0x0, 0, 16⟩
def viCounts_coalesced : Fld := ⟨0x2001C8, 0x0, 16, 16⟩
def viCounts_iommu_faults : Fld := ⟨0x2001C8, 0x0, 32, 16⟩
def viCounts_drain_failures : Fld := ⟨0x2001C8, 0x0, 48, 16⟩
-- VI_QPROG_SEL (R388)
def viQprogSel_queue : Fld := ⟨0x200200, 0x0, 0, 14⟩
-- VI_QPROG (R388)
def viQprog_program : Fld := ⟨0x200208, 0x0, 0, 8⟩
def viQprog_enable : Fld := ⟨0x200208, 0x0, 8, 1⟩
-- SEC_WM_STACK_n (R417)
def secWmStackN_mark : Fld := ⟨0x180010, 0x8, 0, 14⟩
-- SEC_WM_SPM_d (R417)
def secWmSpmD_mark : Fld := ⟨0x180050, 0x8, 0, 8⟩
-- SEC_WM_CMD (R417)
def secWmCmd_target : Fld := ⟨0x180080, 0x0, 0, 4⟩
def secWmCmd_new_mark : Fld := ⟨0x180080, 0x0, 16, 14⟩
def secWmCmd_go : Fld := ⟨0x180080, 0x0, 30, 1⟩
def secWmCmd_busy : Fld := ⟨0x180080, 0x0, 31, 1⟩
def secWmCmd_status : Fld := ⟨0x180080, 0x0, 32, 3⟩
-- SEC_HOLD_CMD (R418)
def secHoldCmd_block : Fld := ⟨0x180100, 0x0, 0, 6⟩
def secHoldCmd_op : Fld := ⟨0x180100, 0x0, 6, 2⟩
def secHoldCmd_go : Fld := ⟨0x180100, 0x0, 8, 1⟩
def secHoldCmd_busy : Fld := ⟨0x180100, 0x0, 9, 1⟩
def secHoldCmd_status : Fld := ⟨0x180100, 0x0, 10, 3⟩
-- SEC_HOLD_MAP (R418)
def secHoldMap_held : Fld := ⟨0x180108, 0x0, 0, 49⟩
-- SEC_NOTICE (R418)
def secNotice_block : Fld := ⟨0x180110, 0x0, 0, 6⟩
def secNotice_kind : Fld := ⟨0x180110, 0x0, 6, 2⟩
def secNotice_deadline_us : Fld := ⟨0x180110, 0x0, 16, 32⟩
-- SEC_WDOG (R418)
def secWdog_period_ms : Fld := ⟨0x180200, 0x0, 0, 10⟩
def secWdog_challenge : Fld := ⟨0x180200, 0x0, 16, 16⟩
def secWdog_remaining_ms : Fld := ⟨0x180200, 0x0, 32, 10⟩
-- SEC_WDOG_KICK (R418)
def secWdogKick_kick : Fld := ⟨0x180208, 0x0, 0, 16⟩
-- SEC_ATT (R418)
def secAtt_next : Fld := ⟨0x180300, 0x0, 0, 40⟩
-- SEC_TE_CTRL (R419)
def secTeCtrl_as_te_ctrl : Fld := ⟨0x180408, 0x0, 0, 4⟩
-- SEC_TE_STATUS (R419)
def secTeStatus_as_te_status : Fld := ⟨0x180410, 0x0, 0, 64⟩
-- SEC_TE_JOB (R419)
def secTeJob_as_te_job : Fld := ⟨0x180418, 0x0, 0, 28⟩
-- SEC_TE_PROG (R419)
def secTeProg_as_te_prog : Fld := ⟨0x180420, 0x0, 0, 60⟩
-- SEC_TE_SAVE_BASE (R419)
def secTeSaveBase_save_addr : Fld := ⟨0x180428, 0x0, 0, 48⟩
-- CFG_WM_GRANT (R420)
def cfgWmGrant_target : Fld := ⟨0x380128, 0x0, 0, 4⟩
def cfgWmGrant_up_to : Fld := ⟨0x380128, 0x0, 16, 14⟩
def cfgWmGrant_grant : Fld := ⟨0x380128, 0x0, 30, 1⟩
def cfgWmGrant_valid : Fld := ⟨0x380128, 0x0, 31, 1⟩
-- CFG_LIFE_SRC (R420)
def cfgLifeSrc_src : Fld := ⟨0x380130, 0x0, 0, 48⟩
-- CFG_LIFE_CMD (R420)
def cfgLifeCmd_go : Fld := ⟨0x380138, 0x0, 0, 1⟩
def cfgLifeCmd_busy : Fld := ⟨0x380138, 0x0, 1, 1⟩
def cfgLifeCmd_status : Fld := ⟨0x380138, 0x0, 8, 8⟩
-- PWR_ID (R441)
def pwrId_die : Fld := ⟨0x10000, 0x0, 0, 3⟩
def pwrId_islands : Fld := ⟨0x10000, 0x0, 8, 8⟩
def pwrId_governor : Fld := ⟨0x10000, 0x0, 16, 7⟩
-- PWR_STATUS (R441)
def pwrStatus_state : Fld := ⟨0x10008, 0x0, 0, 4⟩
def pwrStatus_fixed_pace_lost : Fld := ⟨0x10008, 0x0, 4, 1⟩
def pwrStatus_emergency : Fld := ⟨0x10008, 0x0, 5, 1⟩
def pwrStatus_herd_paced : Fld := ⟨0x10008, 0x0, 6, 1⟩
def pwrStatus_est_mw : Fld := ⟨0x10008, 0x0, 16, 20⟩
-- PWR_BUDGET (R441)
def pwrBudget_budget_mw : Fld := ⟨0x10010, 0x0, 0, 20⟩
-- PWR_FIXED_REQ (R441)
def pwrFixedReq_clusters : Fld := ⟨0x10030, 0x0, 0, 8⟩
def pwrFixedReq_go : Fld := ⟨0x10030, 0x0, 8, 1⟩
def pwrFixedReq_busy : Fld := ⟨0x10030, 0x0, 9, 1⟩
def pwrFixedReq_status : Fld := ⟨0x10030, 0x0, 10, 2⟩
-- PWR_PARK (R441)
def pwrPark_engine : Fld := ⟨0x10038, 0x0, 0, 4⟩
def pwrPark_op : Fld := ⟨0x10038, 0x0, 4, 2⟩
def pwrPark_go : Fld := ⟨0x10038, 0x0, 6, 1⟩
def pwrPark_busy : Fld := ⟨0x10038, 0x0, 7, 1⟩
def pwrPark_status : Fld := ⟨0x10038, 0x0, 8, 3⟩
-- PWR_PARKED (R441)
def pwrParked_parked : Fld := ⟨0x10040, 0x0, 0, 16⟩
def pwrParked_held_pending : Fld := ⟨0x10040, 0x0, 16, 16⟩
-- PWR_EVENTS (R441)
def pwrEvents_level_refusals : Fld := ⟨0x10048, 0x0, 0, 16⟩
def pwrEvents_inform : Fld := ⟨0x10048, 0x0, 16, 16⟩
def pwrEvents_throttle_periods : Fld := ⟨0x10048, 0x0, 32, 16⟩
def pwrEvents_parks : Fld := ⟨0x10048, 0x0, 48, 16⟩
-- PWR_ENERGY (R441)
def pwrEnergy_unattributed_uj : Fld := ⟨0x10050, 0x0, 0, 64⟩
-- PWR_CAP (R442)
def pwrCap_cap_w : Fld := ⟨0x10018, 0x0, 0, 9⟩
def pwrCap_unreachable : Fld := ⟨0x10018, 0x0, 9, 1⟩
def pwrCap_held_mw : Fld := ⟨0x10018, 0x0, 32, 20⟩
-- PWR_PKG (R442)
def pwrPkg_pkg_est_mw : Fld := ⟨0x10020, 0x0, 0, 20⟩
def pwrPkg_peak_mw : Fld := ⟨0x10020, 0x0, 20, 20⟩
-- PWR_SLEW (R442)
def pwrSlew_a_per_us : Fld := ⟨0x10028, 0x0, 0, 7⟩
def pwrSlew_queued : Fld := ⟨0x10028, 0x0, 8, 8⟩
def pwrSlew_grants : Fld := ⟨0x10028, 0x0, 16, 16⟩
-- PWR_ISL_SEL (R443)
def pwrIslSel_island : Fld := ⟨0x10100, 0x0, 0, 4⟩
-- PWR_ISL (R443)
def pwrIsl_setpoint : Fld := ⟨0x10108, 0x0, 0, 7⟩
def pwrIsl_target : Fld := ⟨0x10108, 0x0, 7, 7⟩
def pwrIsl_fixed : Fld := ⟨0x10108, 0x0, 14, 1⟩
def pwrIsl_protected : Fld := ⟨0x10108, 0x0, 15, 1⟩
def pwrIsl_pace_limit : Fld := ⟨0x10108, 0x0, 16, 7⟩
def pwrIsl_temp_c : Fld := ⟨0x10108, 0x0, 23, 8⟩
def pwrIsl_monitor : Fld := ⟨0x10108, 0x0, 31, 11⟩
def pwrIsl_priority : Fld := ⟨0x10108, 0x0, 42, 3⟩
-- PWR_ISL_SLIP (R443)
def pwrIslSlip_slip : Fld := ⟨0x10110, 0x0, 0, 32⟩
-- GFX_ID (R468)
def gfxId_shader_cores : Fld := ⟨0x100000, 0x0, 0, 6⟩
def gfxId_contexts : Fld := ⟨0x100000, 0x0, 8, 5⟩
-- GFX_STATUS (R468)
def gfxStatus_cores_on : Fld := ⟨0x100008, 0x0, 0, 48⟩
-- GFX_POOL (R468)
def gfxPool_base : Fld := ⟨0x100010, 0x0, 0, 48⟩
def gfxPool_mib : Fld := ⟨0x100010, 0x0, 48, 9⟩
-- GFX_COUNTS (R468)
def gfxCounts_flushes : Fld := ⟨0x100018, 0x0, 0, 16⟩
def gfxCounts_preemptions : Fld := ⟨0x100018, 0x0, 16, 16⟩
def gfxCounts_tile_timeouts : Fld := ⟨0x100018, 0x0, 32, 16⟩
-- GFX_CTX_SEL (R468)
def gfxCtxSel_ctx : Fld := ⟨0x100100, 0x0, 0, 4⟩
-- GFX_CTX (R468)
def gfxCtx_priority : Fld := ⟨0x100108, 0x0, 0, 2⟩
def gfxCtx_vi : Fld := ⟨0x100108, 0x0, 2, 6⟩
def gfxCtx_pool_max : Fld := ⟨0x100108, 0x0, 8, 8⟩
def gfxCtx_state : Fld := ⟨0x100108, 0x0, 16, 3⟩
def gfxCtx_compositor : Fld := ⟨0x100108, 0x0, 19, 1⟩
-- GFX_CTX_CTRL (R468)
def gfxCtxCtrl_preempt : Fld := ⟨0x100110, 0x0, 0, 1⟩
def gfxCtxCtrl_abort : Fld := ⟨0x100110, 0x0, 1, 1⟩
def gfxCtxCtrl_resume : Fld := ⟨0x100110, 0x0, 2, 1⟩
-- GFX_TT_STATUS (R468)
def gfxTtStatus_frames_checked : Fld := ⟨0x100200, 0x0, 0, 32⟩
def gfxTtStatus_mismatches : Fld := ⟨0x100200, 0x0, 32, 16⟩
-- GFX_TT_BAD (R468)
def gfxTtBad_bad : Fld := ⟨0x100208, 0x0, 0, 64⟩
-- GFX_TT_STATE_n (R468)
def gfxTtStateN_state : Fld := ⟨0x100400, 0x8, 0, 4⟩
def gfxTtStateN_applied : Fld := ⟨0x100400, 0x8, 4, 1⟩
-- DSP_CFG (R469)
def dspCfg_enable : Fld := ⟨0x201000, 0x100, 0, 1⟩
def dspCfg_two_lanes : Fld := ⟨0x201000, 0x100, 1, 1⟩
def dspCfg_out_fmt : Fld := ⟨0x201000, 0x100, 2, 2⟩
def dspCfg_tt_here : Fld := ⟨0x201000, 0x100, 4, 1⟩
def dspCfg_status : Fld := ⟨0x201000, 0x100, 8, 8⟩
-- DSP_TIMING (R469)
def dspTiming_active_w : Fld := ⟨0x201008, 0x100, 0, 12⟩
def dspTiming_active_h : Fld := ⟨0x201008, 0x100, 12, 12⟩
def dspTiming_total_lines : Fld := ⟨0x201008, 0x100, 24, 12⟩
-- DSP_TIMING2 (R469)
def dspTiming2_refresh_period : Fld := ⟨0x201010, 0x100, 0, 24⟩
def dspTiming2_phase : Fld := ⟨0x201010, 0x100, 24, 24⟩
def dspTiming2_latch_lead : Fld := ⟨0x201010, 0x100, 48, 16⟩
-- DSP_TIMING3 (R469)
def dspTiming3_comp_lead : Fld := ⟨0x201018, 0x100, 0, 24⟩
def dspTiming3_line_period_q8 : Fld := ⟨0x201018, 0x100, 24, 24⟩
-- DSP_STATUS (R469)
def dspStatus_frame : Fld := ⟨0x201020, 0x100, 0, 32⟩
def dspStatus_flags : Fld := ⟨0x201020, 0x100, 32, 4⟩
def dspStatus_layer_valid : Fld := ⟨0x201020, 0x100, 40, 8⟩
-- DSP_LAYER_SEL (R469)
def dspLayerSel_layer : Fld := ⟨0x201028, 0x100, 0, 3⟩
-- DSP_LAYER (R469)
def dspLayer_enable : Fld := ⟨0x201030, 0x100, 0, 1⟩
def dspLayer_fmt : Fld := ⟨0x201030, 0x100, 1, 3⟩
def dspLayer_x : Fld := ⟨0x201030, 0x100, 4, 12⟩
def dspLayer_y : Fld := ⟨0x201030, 0x100, 16, 12⟩
def dspLayer_w : Fld := ⟨0x201030, 0x100, 28, 12⟩
def dspLayer_h : Fld := ⟨0x201030, 0x100, 40, 12⟩
def dspLayer_safety_output : Fld := ⟨0x201030, 0x100, 52, 6⟩
def dspLayer_bound : Fld := ⟨0x201030, 0x100, 58, 1⟩
def dspLayer_premult : Fld := ⟨0x201030, 0x100, 59, 1⟩
def dspLayer_per_frame : Fld := ⟨0x201030, 0x100, 60, 1⟩
-- DSP_LAYER_BASE (R469)
def dspLayerBase_base : Fld := ⟨0x201038, 0x100, 0, 48⟩
def dspLayerBase_stride : Fld := ⟨0x201038, 0x100, 48, 16⟩
-- DSP_FLIP (R469)
def dspFlip_next_base : Fld := ⟨0x201040, 0x100, 0, 48⟩
def dspFlip_go : Fld := ⟨0x201040, 0x100, 48, 1⟩
def dspFlip_on_confirm : Fld := ⟨0x201040, 0x100, 49, 1⟩
def dspFlip_pending : Fld := ⟨0x201040, 0x100, 50, 1⟩
-- DSP_COUNTS (R469)
def dspCounts_stale : Fld := ⟨0x201048, 0x100, 0, 16⟩
def dspCounts_torn : Fld := ⟨0x201048, 0x100, 16, 16⟩
def dspCounts_underflow : Fld := ⟨0x201048, 0x100, 32, 16⟩
def dspCounts_tt_mismatch : Fld := ⟨0x201048, 0x100, 48, 16⟩
-- MED_STATUS (R470)
def medStatus_sessions_open : Fld := ⟨0x300000, 0x0, 0, 4⟩
def medStatus_parked : Fld := ⟨0x300000, 0x0, 4, 1⟩
def medStatus_held : Fld := ⟨0x300000, 0x0, 5, 1⟩
def medStatus_power_status : Fld := ⟨0x300000, 0x0, 6, 3⟩
-- MED_SESSION_SEL (R470)
def medSessionSel_session : Fld := ⟨0x300100, 0x0, 0, 3⟩
-- MED_SESSION (R470)
def medSession_state : Fld := ⟨0x300108, 0x0, 0, 3⟩
def medSession_vi : Fld := ⟨0x300108, 0x0, 3, 6⟩
def medSession_main10 : Fld := ⟨0x300108, 0x0, 9, 1⟩
def medSession_open : Fld := ⟨0x300108, 0x0, 10, 1⟩
def medSession_close : Fld := ⟨0x300108, 0x0, 11, 1⟩
def medSession_pictures : Fld := ⟨0x300108, 0x0, 32, 32⟩
-- GW_ID (R504)
def gwId_sequencers : Fld := ⟨0x300000, 0x0, 0, 6⟩
def gwId_contexts : Fld := ⟨0x300000, 0x0, 8, 15⟩
def gwId_sets : Fld := ⟨0x300000, 0x0, 24, 7⟩
-- GW_STATUS (R504)
def gwStatus_stopped : Fld := ⟨0x300008, 0x0, 0, 32⟩
-- GW_EVENTS (R504)
def gwEvents_unknown_key : Fld := ⟨0x300018, 0x0, 0, 16⟩
def gwEvents_ingress_drops : Fld := ⟨0x300018, 0x0, 16, 16⟩
def gwEvents_egress_drops : Fld := ⟨0x300018, 0x0, 32, 16⟩
def gwEvents_late : Fld := ⟨0x300018, 0x0, 48, 16⟩
-- GW_LAT (R504)
def gwLat_max_ns : Fld := ⟨0x300020, 0x0, 0, 32⟩
def gwLat_last_ns : Fld := ⟨0x300020, 0x0, 32, 32⟩
-- GW_CTX_SEL (R505)
def gwCtxSel_context : Fld := ⟨0x300100, 0x0, 0, 14⟩
-- GW_CTX (R505)
def gwCtx_enable : Fld := ⟨0x300108, 0x0, 0, 1⟩
def gwCtx_toggle : Fld := ⟨0x300108, 0x0, 1, 1⟩
def gwCtx_kind : Fld := ⟨0x300108, 0x0, 2, 2⟩
def gwCtx_set : Fld := ⟨0x300108, 0x0, 4, 6⟩
def gwCtx_sequencer : Fld := ⟨0x300108, 0x0, 10, 5⟩
def gwCtx_format : Fld := ⟨0x300108, 0x0, 16, 3⟩
def gwCtx_bus : Fld := ⟨0x300108, 0x0, 19, 5⟩
def gwCtx_flow : Fld := ⟨0x300108, 0x0, 24, 16⟩
def gwCtx_queue : Fld := ⟨0x300108, 0x0, 40, 1⟩
def gwCtx_max_len : Fld := ⟨0x300108, 0x0, 41, 12⟩
-- GW_CTX_KEY (R505)
def gwCtxKey_identifier : Fld := ⟨0x300110, 0x0, 0, 32⟩
def gwCtxKey_sdt : Fld := ⟨0x300110, 0x0, 32, 8⟩
def gwCtxKey_vcid : Fld := ⟨0x300110, 0x0, 40, 8⟩
def gwCtxKey_brs : Fld := ⟨0x300110, 0x0, 48, 1⟩
-- GW_CTX_EGRESS (R505)
def gwCtxEgress_flag_mode : Fld := ⟨0x300118, 0x0, 0, 2⟩
def gwCtxEgress_flag_bit : Fld := ⟨0x300118, 0x0, 2, 14⟩
def gwCtxEgress_flag_order : Fld := ⟨0x300118, 0x0, 16, 1⟩
def gwCtxEgress_chk_mode : Fld := ⟨0x300118, 0x0, 17, 2⟩
def gwCtxEgress_chk_offset : Fld := ⟨0x300118, 0x0, 19, 11⟩
def gwCtxEgress_chk_first : Fld := ⟨0x300118, 0x0, 30, 11⟩
def gwCtxEgress_chk_last : Fld := ⟨0x300118, 0x0, 41, 11⟩
def gwCtxEgress_pad : Fld := ⟨0x300118, 0x0, 52, 8⟩
-- GW_CTX_COUNTS (R505)
def gwCtxCounts_messages : Fld := ⟨0x300120, 0x0, 0, 32⟩
def gwCtxCounts_drops : Fld := ⟨0x300120, 0x0, 32, 16⟩
def gwCtxCounts_late : Fld := ⟨0x300120, 0x0, 48, 16⟩
-- GW_SET_SEL (R506)
def gwSetSel_set : Fld := ⟨0x300200, 0x0, 0, 6⟩
-- GW_SET (R506)
def gwSet_bound : Fld := ⟨0x300208, 0x0, 0, 1⟩
def gwSet_output : Fld := ⟨0x300208, 0x0, 1, 6⟩
def gwSet_failed : Fld := ⟨0x300208, 0x0, 7, 1⟩
def gwSet_latency_check : Fld := ⟨0x300208, 0x0, 8, 1⟩
def gwSet_latency_us : Fld := ⟨0x300208, 0x0, 24, 10⟩
-- GW_SET_COUNTS (R506)
def gwSetCounts_failures : Fld := ⟨0x300210, 0x0, 0, 16⟩
def gwSetCounts_failed_frames : Fld := ⟨0x300210, 0x0, 16, 16⟩
-- GW_QSEL (R506)
def gwQsel_queue : Fld := ⟨0x300300, 0x0, 0, 12⟩
-- GW_QCFG (R506)
def gwQcfg_dir : Fld := ⟨0x300308, 0x0, 0, 1⟩
-- HP_ID (R507)
def hpId_mode : Fld := ⟨0x380000, 0x0, 0, 2⟩
def hpId_bifurcated : Fld := ⟨0x380000, 0x0, 2, 1⟩
def hpId_lanes : Fld := ⟨0x380000, 0x0, 8, 8⟩
def hpId_device_id : Fld := ⟨0x380000, 0x0, 16, 16⟩
def hpId_vendor_id : Fld := ⟨0x380000, 0x0, 32, 16⟩
-- HP_LINK_n (R507)
def hpLinkN_ltssm : Fld := ⟨0x380008, 0x8, 0, 4⟩
def hpLinkN_speed : Fld := ⟨0x380008, 0x8, 4, 3⟩
def hpLinkN_width : Fld := ⟨0x380008, 0x8, 7, 4⟩
def hpLinkN_dl_up : Fld := ⟨0x380008, 0x8, 11, 1⟩
def hpLinkN_presence : Fld := ⟨0x380008, 0x8, 12, 1⟩
def hpLinkN_replays : Fld := ⟨0x380008, 0x8, 16, 16⟩
def hpLinkN_down_events : Fld := ⟨0x380008, 0x8, 32, 16⟩
-- HP_CFG (R507)
def hpCfg_l1_enable : Fld := ⟨0x380018, 0x0, 0, 1⟩
def hpCfg_atomic_native : Fld := ⟨0x380018, 0x0, 1, 1⟩
def hpCfg_max_speed : Fld := ⟨0x380018, 0x0, 2, 3⟩
-- HP_OUT_OFFSET (R507)
def hpOutOffset_offset : Fld := ⟨0x380020, 0x0, 12, 52⟩
-- HP_FENCE (R507)
def hpFence_all_ok : Fld := ⟨0x380080, 0x0, 0, 1⟩
def hpFence_failed : Fld := ⟨0x380080, 0x0, 16, 16⟩
def hpFence_first_seq : Fld := ⟨0x380080, 0x0, 32, 32⟩
-- HP_LOCK (R507)
def hpLock_used : Fld := ⟨0x380088, 0x0, 0, 7⟩
def hpLock_waits : Fld := ⟨0x380088, 0x0, 8, 16⟩
def hpLock_backoffs : Fld := ⟨0x380088, 0x0, 24, 16⟩
def hpLock_timeouts : Fld := ⟨0x380088, 0x0, 40, 16⟩
-- HP_EVENTS (R507)
def hpEvents_posted_failures : Fld := ⟨0x380090, 0x0, 0, 16⟩
def hpEvents_inbound_refused : Fld := ⟨0x380090, 0x0, 16, 16⟩
def hpEvents_intx_dropped : Fld := ⟨0x380090, 0x0, 32, 16⟩
-- HP_PFLOG_SEL (R508)
def hpPflogSel_vi : Fld := ⟨0x380100, 0x0, 0, 6⟩
-- HP_PFLOG_BASE (R508)
def hpPflogBase_base : Fld := ⟨0x380108, 0x0, 0, 48⟩
def hpPflogBase_size_log2 : Fld := ⟨0x380108, 0x0, 48, 4⟩
-- HP_PFLOG_PTR (R508)
def hpPflogPtr_head : Fld := ⟨0x380110, 0x0, 0, 12⟩
def hpPflogPtr_tail : Fld := ⟨0x380110, 0x0, 16, 12⟩
def hpPflogPtr_vector : Fld := ⟨0x380110, 0x0, 32, 11⟩
def hpPflogPtr_enable : Fld := ⟨0x380110, 0x0, 43, 1⟩
def hpPflogPtr_overflow : Fld := ⟨0x380110, 0x0, 48, 16⟩
-- NET_PORT_SEL (R527)
def netPortSel_port : Fld := ⟨0x100100, 0x0, 0, 3⟩
-- NET_PORT_CFG (R527)
def netPortCfg_enable : Fld := ⟨0x100108, 0x0, 0, 1⟩
def netPortCfg_rate : Fld := ⟨0x100108, 0x0, 1, 3⟩
def netPortCfg_late_mode : Fld := ⟨0x100108, 0x0, 4, 1⟩
def netPortCfg_gcl_enable : Fld := ⟨0x100108, 0x0, 5, 1⟩
def netPortCfg_late_threshold : Fld := ⟨0x100108, 0x0, 32, 32⟩
-- NET_PORT_COUNTS (R527)
def netPortCounts_link_up : Fld := ⟨0x100110, 0x0, 0, 1⟩
def netPortCounts_unknown : Fld := ⟨0x100110, 0x0, 1, 15⟩
def netPortCounts_late_sent : Fld := ⟨0x100110, 0x0, 16, 16⟩
def netPortCounts_late_dropped : Fld := ⟨0x100110, 0x0, 32, 16⟩
def netPortCounts_torn : Fld := ⟨0x100110, 0x0, 48, 16⟩
-- NET_GCL (R527)
def netGcl_admin_src : Fld := ⟨0x100118, 0x0, 0, 48⟩
def netGcl_go : Fld := ⟨0x100118, 0x0, 48, 1⟩
def netGcl_pending : Fld := ⟨0x100118, 0x0, 49, 1⟩
-- NET_FLOW_SEL (R527)
def netFlowSel_flow : Fld := ⟨0x100200, 0x0, 0, 16⟩
-- NET_FLOW (R527)
def netFlow_enable : Fld := ⟨0x100208, 0x0, 0, 1⟩
def netFlow_toggle : Fld := ⟨0x100208, 0x0, 1, 1⟩
def netFlow_kind : Fld := ⟨0x100208, 0x0, 2, 3⟩
def netFlow_port : Fld := ⟨0x100208, 0x0, 5, 5⟩
def netFlow_tc : Fld := ⟨0x100208, 0x0, 10, 3⟩
def netFlow_target : Fld := ⟨0x100208, 0x0, 13, 16⟩
def netFlow_safety_output : Fld := ⟨0x100208, 0x0, 29, 6⟩
def netFlow_bound : Fld := ⟨0x100208, 0x0, 35, 1⟩
def netFlow_max_len : Fld := ⟨0x100208, 0x0, 36, 14⟩
-- NET_FLOW_KEY (R527)
def netFlowKey_flag_check : Fld := ⟨0x100210, 0x0, 0, 64⟩
-- NET_QSEL (R527)
def netQsel_queue : Fld := ⟨0x100300, 0x0, 0, 14⟩
-- NET_QCFG (R527)
def netQcfg_dir : Fld := ⟨0x100308, 0x0, 0, 1⟩
-- TIM_NOW_A (R528)
def timNowA_low : Fld := ⟨0x400000, 0x0, 0, 64⟩
-- TIM_NOW_B (R528)
def timNowB_high : Fld := ⟨0x400008, 0x0, 0, 32⟩
-- TIM_COUNTER (R528)
def timCounter_periods : Fld := ⟨0x400010, 0x0, 0, 64⟩
-- TIM_RATE (R528)
def timRate_rate : Fld := ⟨0x400018, 0x0, 0, 40⟩
def timRate_driving : Fld := ⟨0x400018, 0x0, 40, 2⟩
def timRate_synchronised : Fld := ⟨0x400018, 0x0, 42, 1⟩
def timRate_stepped : Fld := ⟨0x400018, 0x0, 43, 1⟩
-- TIM_DOM_SEL (R528)
def timDomSel_domain : Fld := ⟨0x400100, 0x0, 0, 2⟩
-- TIM_DOM (R528)
def timDom_enable : Fld := ⟨0x400108, 0x0, 0, 1⟩
def timDom_number : Fld := ⟨0x400108, 0x0, 1, 7⟩
def timDom_priority : Fld := ⟨0x400108, 0x0, 8, 2⟩
def timDom_state : Fld := ⟨0x400108, 0x0, 10, 2⟩
def timDom_ports : Fld := ⟨0x400108, 0x0, 16, 24⟩
-- TIM_DOM_EST (R528)
def timDomEst_offset_ns : Fld := ⟨0x400110, 0x0, 0, 32⟩
def timDomEst_rate_ppb : Fld := ⟨0x400110, 0x0, 32, 32⟩
-- ULK_LANE_SEL (R529)
def ulkLaneSel_lane : Fld := ⟨0x200100, 0x0, 0, 5⟩
-- ULK_LANE (R529)
def ulkLane_enable : Fld := ⟨0x200108, 0x0, 0, 1⟩
def ulkLane_state : Fld := ⟨0x200108, 0x0, 1, 3⟩
-- ULK_LANE_COUNTS (R529)
def ulkLaneCounts_crc : Fld := ⟨0x200110, 0x0, 0, 16⟩
def ulkLaneCounts_lost_lines : Fld := ⟨0x200110, 0x0, 16, 16⟩
def ulkLaneCounts_lock_losses : Fld := ⟨0x200110, 0x0, 32, 16⟩
def ulkLaneCounts_pictures : Fld := ⟨0x200110, 0x0, 48, 16⟩
-- CFG_FW_SRC (R552)
def cfgFwSrc_src : Fld := ⟨0x380140, 0x0, 0, 48⟩
-- CFG_FW_CMD (R552)
def cfgFwCmd_op : Fld := ⟨0x380148, 0x0, 0, 3⟩
def cfgFwCmd_go : Fld := ⟨0x380148, 0x0, 3, 1⟩
def cfgFwCmd_busy : Fld := ⟨0x380148, 0x0, 4, 1⟩
def cfgFwCmd_status : Fld := ⟨0x380148, 0x0, 8, 8⟩
-- CFG_FW_STATUS (R552)
def cfgFwStatus_state : Fld := ⟨0x380150, 0x0, 0, 3⟩
def cfgFwStatus_handoffs : Fld := ⟨0x380150, 0x0, 8, 8⟩
def cfgFwStatus_running_version : Fld := ⟨0x380150, 0x0, 16, 32⟩
def cfgFwStatus_last_pause_us : Fld := ⟨0x380150, 0x0, 48, 16⟩
-- CFG_FW_HB (R552)
def cfgFwHb_beat : Fld := ⟨0x380158, 0x0, 0, 32⟩
def cfgFwHb_slot : Fld := ⟨0x380158, 0x0, 32, 1⟩
-- CFG_FW_DRV_SEL (R552)
def cfgFwDrvSel_slot : Fld := ⟨0x380160, 0x0, 0, 1⟩
-- CFG_FW_DRV (R552)
def cfgFwDrv_state : Fld := ⟨0x380168, 0x0, 0, 2⟩
def cfgFwDrv_attach : Fld := ⟨0x380168, 0x0, 2, 1⟩
def cfgFwDrv_detach : Fld := ⟨0x380168, 0x0, 3, 1⟩
def cfgFwDrv_misses : Fld := ⟨0x380168, 0x0, 4, 3⟩
def cfgFwDrv_teardown_s : Fld := ⟨0x380168, 0x0, 8, 10⟩
-- CFG_FW_DRV_MASK (R552)
def cfgFwDrvMask_instances : Fld := ⟨0x380170, 0x0, 0, 64⟩
-- CFG_FW_INFO (R552)
def cfgFwInfo_staged_version : Fld := ⟨0x380178, 0x0, 0, 32⟩
def cfgFwInfo_floor : Fld := ⟨0x380178, 0x0, 32, 32⟩
-- ERR_ID (R564)
def errId_entries : Fld := ⟨0x3C0000, 0x0, 0, 9⟩
def errId_version : Fld := ⟨0x3C0000, 0x0, 16, 8⟩
-- ERR_RING (R564)
def errRing_head : Fld := ⟨0x3C0008, 0x0, 0, 9⟩
def errRing_tail : Fld := ⟨0x3C0008, 0x0, 16, 9⟩
-- ERR_STATUS (R564)
def errStatus_occupancy : Fld := ⟨0x3C0010, 0x0, 0, 9⟩
def errStatus_handling : Fld := ⟨0x3C0010, 0x0, 9, 1⟩
def errStatus_level : Fld := ⟨0x3C0010, 0x0, 10, 3⟩
def errStatus_storm : Fld := ⟨0x3C0010, 0x0, 13, 1⟩
def errStatus_escalated : Fld := ⟨0x3C0010, 0x0, 14, 1⟩
-- ERR_NEXT (R564)
def errNext_index : Fld := ⟨0x3C0018, 0x0, 0, 8⟩
def errNext_valid : Fld := ⟨0x3C0018, 0x0, 8, 1⟩
def errNext_sequence : Fld := ⟨0x3C0018, 0x0, 32, 32⟩
-- ERR_DONE (R564)
def errDone_index : Fld := ⟨0x3C0020, 0x0, 0, 8⟩
-- ERR_COUNTS_A (R564)
def errCountsA_s0 : Fld := ⟨0x3C0028, 0x0, 0, 16⟩
def errCountsA_s1 : Fld := ⟨0x3C0028, 0x0, 16, 16⟩
def errCountsA_s2 : Fld := ⟨0x3C0028, 0x0, 32, 16⟩
def errCountsA_s3 : Fld := ⟨0x3C0028, 0x0, 48, 16⟩
-- ERR_COUNTS_B (R564)
def errCountsB_s4 : Fld := ⟨0x3C0030, 0x0, 0, 16⟩
def errCountsB_suppressed : Fld := ⟨0x3C0030, 0x0, 16, 16⟩
def errCountsB_lost : Fld := ⟨0x3C0030, 0x0, 32, 16⟩
def errCountsB_preemptions : Fld := ⟨0x3C0030, 0x0, 48, 16⟩
-- ERR_NOTIFY (R564)
def errNotify_min_severity : Fld := ⟨0x3C0038, 0x0, 0, 3⟩
def errNotify_enable : Fld := ⟨0x3C0038, 0x0, 3, 1⟩
def errNotify_vector : Fld := ⟨0x3C0038, 0x0, 4, 11⟩
def errNotify_file : Fld := ⟨0x3C0038, 0x0, 16, 36⟩
-- ERR_INJECT (R564)
def errInject_code : Fld := ⟨0x3C0040, 0x0, 0, 16⟩
def errInject_severity : Fld := ⟨0x3C0040, 0x0, 16, 3⟩
-- ERR_HLOG (R564)
def errHlog_written : Fld := ⟨0x3C0048, 0x0, 0, 32⟩
def errHlog_dropped : Fld := ⟨0x3C0048, 0x0, 32, 16⟩
-- CFG_HLOG_SEL (R565)
def cfgHlogSel_entry : Fld := ⟨0x380180, 0x0, 0, 18⟩
-- CFG_HLOG_STATUS (R565)
def cfgHlogStatus_ready : Fld := ⟨0x380188, 0x0, 0, 1⟩
def cfgHlogStatus_valid : Fld := ⟨0x380188, 0x0, 1, 1⟩
def cfgHlogStatus_newest_sector : Fld := ⟨0x380188, 0x0, 2, 8⟩
-- CFG_HLOG_DATA_n (R565)
def cfgHlogDataN_data : Fld := ⟨0x3801C0, 0x8, 0, 64⟩
-- FAB_ID (R566)
def fabId_node : Fld := ⟨0x0, 0x0, 0, 3⟩
-- FAB_PORT_n (R566)
def fabPortN_peer : Fld := ⟨0x8, 0x8, 0, 3⟩
def fabPortN_up : Fld := ⟨0x8, 0x8, 3, 1⟩
def fabPortN_replays : Fld := ⟨0x8, 0x8, 16, 16⟩
def fabPortN_flits : Fld := ⟨0x8, 0x8, 32, 32⟩
-- FAB_COUNTS (R566)
def fabCounts_rerouted : Fld := ⟨0x28, 0x0, 0, 16⟩
def fabCounts_held_records : Fld := ⟨0x28, 0x0, 16, 16⟩
-- CFG_FLASH_SRC (R81)
def cfgFlashSrc_src : Fld := ⟨0x380118, 0x0, 0, 48⟩
-- TE_PROG (R151)
def teProg_prog_addr : Fld := ⟨0x100020, 0x10000, 0, 48⟩
def teProg_length_m1 : Fld := ⟨0x100020, 0x10000, 48, 12⟩
-- TE_SAVE_BASE (R151)
def teSaveBase_save_addr : Fld := ⟨0x100028, 0x10000, 0, 48⟩
-- SEC_TE_SEL (R419)
def secTeSel_engine : Fld := ⟨0x180400, 0x0, 0, 6⟩

end Sys2Proof.Machine.F
end

