-- ==== Sys2Proof/Machine/RegTab.lean ====
section
/-! DEFINITION. The register tables of the spec as data (R4 to R10, R27, R567): one row per register, with the dies
that hold it, its place, who may write it, the selector that points it at a unit, and its fields. -/

namespace Sys2Proof.Machine

/-- The CFG_ registers. -/
def regTabCfg : List RegDesc := [
  -- CFG_CAPS_ID (R29)
  ⟨[4], 0x380000, 0x0, 1, 0x0, 1, .loaderRegs, none, .plain,
    [⟨0, 16, .ro, (.val 0xC8A), []⟩, ⟨16, 8, .ro, (.val 0x1), []⟩, ⟨24, 4, .hw, .image, []⟩, ⟨32, 8, .ro, (.val 0xFF), []⟩]⟩,
  -- CFG_CAPS_COUNTS (R30)
  ⟨[4], 0x380008, 0x0, 1, 0x0, 1, .loaderRegs, none, .plain,
    [⟨0, 7, .hw, (.val 0x40), []⟩, ⟨8, 6, .hw, (.val 0x20), []⟩, ⟨16, 4, .hw, (.val 0x8), []⟩, ⟨20, 1, .hw, (.val 0x0), []⟩, ⟨24, 8, .hw, (.val 0x80), []⟩, ⟨32, 6, .hw, (.val 0x20), []⟩, ⟨40, 2, .hw, (.val 0x2), []⟩]⟩,
  -- CFG_CAPS_ENGINE_MAP (R31)
  ⟨[4], 0x380010, 0x0, 1, 0x0, 1, .loaderRegs, none, .plain,
    [⟨0, 64, .hw, (.val 0xFFFFFFFFFFFFFFFF), []⟩]⟩,
  -- CFG_CAPS_CLUSTER_MAP (R31)
  ⟨[4], 0x380018, 0x0, 1, 0x0, 1, .loaderRegs, none, .plain,
    [⟨0, 32, .hw, (.val 0xFFFFFFFF), []⟩, ⟨32, 8, .hw, (.val 0xFF), []⟩]⟩,
  -- CFG_CAPS_QUEUES_A (R32)
  ⟨[4], 0x380020, 0x0, 1, 0x0, 1, .loaderRegs, none, .plain,
    [⟨0, 16, .ro, (.val 0x4000), []⟩, ⟨16, 16, .ro, (.val 0x4000), []⟩, ⟨32, 16, .ro, (.val 0x2000), []⟩]⟩,
  -- CFG_CAPS_QUEUES_B (R32)
  ⟨[4], 0x380028, 0x0, 1, 0x0, 1, .loaderRegs, none, .plain,
    [⟨0, 16, .ro, (.val 0x4000), []⟩, ⟨16, 16, .ro, (.val 0x1000), []⟩, ⟨32, 16, .ro, (.val 0x1000), []⟩]⟩,
  -- CFG_CAPS_CONTEXTS (R32)
  ⟨[4], 0x380030, 0x0, 1, 0x0, 1, .loaderRegs, none, .plain,
    [⟨0, 16, .ro, (.val 0xC000), []⟩, ⟨16, 16, .ro, (.val 0x4000), []⟩, ⟨32, 13, .ro, (.val 0x1000), []⟩, ⟨48, 7, .ro, (.val 0x40), []⟩, ⟨56, 6, .ro, (.val 0x20), []⟩]⟩,
  -- CFG_CAPS_IO (R32)
  ⟨[4], 0x380038, 0x0, 1, 0x0, 1, .loaderRegs, none, .plain,
    [⟨0, 5, .ro, (.val 0x10), []⟩, ⟨8, 6, .ro, (.val 0x20), []⟩, ⟨16, 3, .ro, (.val 0x6), []⟩, ⟨20, 2, .ro, (.val 0x0), []⟩, ⟨22, 1, .ro, (.val 0x0), []⟩, ⟨24, 2, .ro, (.val 0x3), []⟩]⟩,
  -- CFG_CAPS_GEN (R32)
  ⟨[4], 0x380040, 0x0, 1, 0x0, 1, .loaderRegs, none, .plain,
    [⟨0, 32, .hw, (.val 0x1), []⟩]⟩,
  -- CFG_BOOT_STATUS (R78)
  ⟨[4], 0x380100, 0x0, 1, 0x0, 1, .loaderRegs, none, .plain,
    [⟨0, 4, .hw, (.val 0x4), []⟩, ⟨4, 1, .hw, .image, []⟩, ⟨5, 1, .hw, .image, []⟩, ⟨6, 1, .hw, .image, []⟩, ⟨7, 1, .hw, .image, []⟩, ⟨8, 8, .hw, (.val 0x0), []⟩, ⟨16, 32, .hw, (.val 0x0), []⟩, ⟨48, 16, .hw, (.val 0x0), []⟩]⟩,
  -- CFG_BOOT_TIMES (R79)
  ⟨[4], 0x380108, 0x0, 1, 0x0, 1, .loaderRegs, none, .plain,
    [⟨0, 32, .hw, .image, []⟩, ⟨32, 32, .hw, .image, []⟩]⟩,
  -- CFG_BOOT_CTRL (R80)
  ⟨[4], 0x380110, 0x0, 1, 0x0, 1, .loaderRegs, none, .own,
    [⟨0, 1, .w1s, (.val 0x0), []⟩, ⟨1, 1, .w1s, (.val 0x0), []⟩, ⟨2, 1, .w1s, (.val 0x0), []⟩, ⟨4, 2, .hw, .image, []⟩, ⟨6, 2, .hw, .image, []⟩]⟩,
  -- CFG_FLASH_CMD (R82)
  ⟨[4], 0x380120, 0x0, 1, 0x0, 1, .loaderRegs, none, .own,
    [⟨0, 2, .rw, (.val 0x0), [(0, 2)]⟩, ⟨4, 14, .rw, (.val 0x0), [(1, 8192)]⟩, ⟨24, 1, .w1s, (.val 0x0), []⟩, ⟨25, 1, .hw, (.val 0x0), []⟩, ⟨32, 8, .hw, (.val 0x0), []⟩]⟩,
  -- CFG_WM_GRANT (R420)
  ⟨[4], 0x380128, 0x0, 1, 0x0, 1, .loaderRegs, none, .own,
    [⟨0, 4, .rw, (.val 0x0), [(0, 11)]⟩, ⟨16, 14, .rw, (.val 0x0), []⟩, ⟨30, 1, .w1s, (.val 0x0), []⟩, ⟨31, 1, .hw, (.val 0x0), []⟩]⟩,
  -- CFG_LIFE_SRC (R420)
  ⟨[4], 0x380130, 0x0, 1, 0x0, 1, .loaderRegs, none, .plain,
    [⟨0, 48, .rw, (.val 0x0), []⟩]⟩,
  -- CFG_LIFE_CMD (R420)
  ⟨[4], 0x380138, 0x0, 1, 0x0, 1, .loaderRegs, none, .own,
    [⟨0, 1, .w1s, (.val 0x0), []⟩, ⟨1, 1, .hw, (.val 0x0), []⟩, ⟨8, 8, .hw, (.val 0x0), []⟩]⟩,
  -- CFG_FW_SRC (R552)
  ⟨[4], 0x380140, 0x0, 1, 0x0, 1, .loaderRegs, none, .plain,
    [⟨0, 48, .rw, (.val 0x0), []⟩]⟩,
  -- CFG_FW_CMD (R552)
  ⟨[4], 0x380148, 0x0, 1, 0x0, 1, .loaderRegs, none, .own,
    [⟨0, 3, .rw, (.val 0x0), [(1, 5)]⟩, ⟨3, 1, .w1s, (.val 0x0), []⟩, ⟨4, 1, .hw, (.val 0x0), []⟩, ⟨8, 8, .hw, (.val 0x0), []⟩]⟩,
  -- CFG_FW_STATUS (R552)
  ⟨[4], 0x380150, 0x0, 1, 0x0, 1, .loaderRegs, none, .plain,
    [⟨0, 3, .hw, (.val 0x0), []⟩, ⟨8, 8, .hw, (.val 0x0), []⟩, ⟨16, 32, .hw, (.val 0x0), []⟩, ⟨48, 16, .hw, (.val 0x0), []⟩]⟩,
  -- CFG_FW_HB (R552)
  ⟨[4], 0x380158, 0x0, 1, 0x0, 1, .fwSlot, none, .own,
    [⟨0, 32, .wo, (.val 0x0), []⟩, ⟨32, 1, .wo, (.val 0x0), []⟩]⟩,
  -- CFG_FW_DRV_SEL (R552)
  ⟨[4], 0x380160, 0x0, 1, 0x0, 1, .loaderRegs, none, .selector,
    [⟨0, 1, .rw, (.val 0x0), []⟩]⟩,
  -- CFG_FW_DRV (R552)
  ⟨[4], 0x380168, 0x0, 1, 0x0, 1, .fwDrv, some ⟨0x380160, 1⟩, .own,
    [⟨0, 2, .hw, (.val 0x0), []⟩, ⟨2, 1, .w1s, (.val 0x0), []⟩, ⟨3, 1, .w1s, (.val 0x0), []⟩, ⟨4, 3, .hw, (.val 0x0), []⟩, ⟨8, 10, .rw, (.val 0xA), [(1, 600)]⟩]⟩,
  -- CFG_FW_DRV_MASK (R552)
  ⟨[4], 0x380170, 0x0, 1, 0x0, 1, .loaderRegs, some ⟨0x380160, 1⟩, .plain,
    [⟨0, 64, .rw, (.val 0x0), []⟩]⟩,
  -- CFG_FW_INFO (R552)
  ⟨[4], 0x380178, 0x0, 1, 0x0, 1, .loaderRegs, none, .plain,
    [⟨0, 32, .hw, (.val 0x0), []⟩, ⟨32, 32, .hw, .image, []⟩]⟩,
  -- CFG_HLOG_SEL (R565)
  ⟨[4], 0x380180, 0x0, 1, 0x0, 1, .hlogSel, none, .own,
    [⟨0, 18, .rw, (.val 0x0), []⟩]⟩,
  -- CFG_HLOG_STATUS (R565)
  ⟨[4], 0x380188, 0x0, 1, 0x0, 1, .loaderRegs, none, .plain,
    [⟨0, 1, .hw, (.val 0x0), []⟩, ⟨1, 1, .hw, (.val 0x0), []⟩, ⟨2, 8, .hw, .image, []⟩]⟩,
  -- CFG_HLOG_DATA_n (R565)
  ⟨[4], 0x3801C0, 0x8, 8, 0x0, 1, .loaderRegs, none, .plain,
    [⟨0, 64, .hw, (.val 0x0), []⟩]⟩,
  -- CFG_FLASH_SRC (R81)
  ⟨[4], 0x380118, 0x0, 1, 0x0, 1, .loaderRegs, none, .plain,
    [⟨0, 48, .rw, (.val 0x0), []⟩]⟩]

/-- The TE_ registers. -/
def regTabTe : List RegDesc := [
  -- TE_ID (R147)
  ⟨[0,1,2,3], 0x100000, 0x10000, 16, 0x0, 1, .dieControl, none, .plain,
    [⟨0, 6, .ro, .teId, []⟩, ⟨8, 3, .ro, .teId, []⟩, ⟨11, 3, .ro, .teId, []⟩, ⟨14, 1, .ro, .teId, []⟩]⟩,
  -- TE_CTRL (R148)
  ⟨[0,1,2,3], 0x100008, 0x10000, 16, 0x0, 1, .dieControl, none, .own,
    [⟨0, 1, .w1s, (.val 0x0), []⟩, ⟨1, 1, .w1s, (.val 0x0), []⟩, ⟨2, 1, .w1s, (.val 0x0), []⟩, ⟨3, 1, .w1s, (.val 0x0), []⟩]⟩,
  -- TE_STATUS (R149)
  ⟨[0,1,2,3], 0x100010, 0x10000, 16, 0x0, 1, .dieControl, none, .plain,
    [⟨0, 4, .hw, (.val 0x0), []⟩, ⟨4, 12, .hw, (.val 0x0), []⟩, ⟨16, 2, .hw, (.val 0x0), []⟩, ⟨18, 2, .hw, (.val 0x0), []⟩, ⟨20, 3, .hw, (.val 0x0), []⟩, ⟨24, 16, .hw, (.val 0x0), []⟩]⟩,
  -- TE_JOB (R150)
  ⟨[0,1,2,3], 0x100018, 0x10000, 16, 0x0, 1, .dieControl, none, .plain,
    [⟨0, 12, .rw, (.val 0x0), []⟩, ⟨12, 6, .rw, (.val 0x0), []⟩, ⟨18, 2, .rw, (.val 0x0), []⟩, ⟨20, 1, .rw, (.val 0x0), []⟩, ⟨21, 1, .rw, (.val 0x0), []⟩, ⟨22, 6, .rw, (.val 0x0), []⟩]⟩,
  -- TE_FAULT (R152)
  ⟨[0,1,2,3], 0x100030, 0x10000, 16, 0x0, 1, .dieControl, none, .plain,
    [⟨0, 16, .hw, (.val 0x0), []⟩, ⟨16, 12, .hw, (.val 0x0), []⟩, ⟨28, 1, .w1c, (.val 0x0), []⟩]⟩,
  -- TE_STEPS (R153)
  ⟨[0,1,2,3], 0x100038, 0x10000, 16, 0x0, 1, .dieControl, none, .plain,
    [⟨0, 64, .hw, (.val 0x0), []⟩]⟩,
  -- TE_CONV_EVENTS (R153)
  ⟨[0,1,2,3], 0x100040, 0x10000, 16, 0x0, 1, .dieControl, none, .plain,
    [⟨0, 32, .rc, (.val 0x0), []⟩]⟩,
  -- TE_CHECK_COUNTS (R153)
  ⟨[0,1,2,3], 0x100048, 0x10000, 16, 0x0, 1, .dieControl, none, .plain,
    [⟨0, 32, .hw, (.val 0x0), []⟩, ⟨32, 16, .hw, (.val 0x0), []⟩, ⟨48, 16, .hw, (.val 0x0), []⟩]⟩,
  -- TE_SIG (R153)
  ⟨[0,1,2,3], 0x100050, 0x10000, 16, 0x0, 1, .dieControl, none, .plain,
    [⟨0, 64, .hw, (.val 0x0), []⟩]⟩,
  -- TE_RESIDUE_LAST (R153)
  ⟨[0,1,2,3], 0x100058, 0x10000, 16, 0x0, 1, .dieControl, none, .plain,
    [⟨0, 8, .hw, (.val 0x0), []⟩, ⟨8, 8, .hw, (.val 0x0), []⟩, ⟨16, 1, .hw, (.val 0x0), []⟩, ⟨17, 14, .hw, (.val 0x0), []⟩, ⟨32, 16, .hw, (.val 0x0), []⟩]⟩,
  -- TE_PROG (R151)
  ⟨[0,1,2,3], 0x100020, 0x10000, 16, 0x0, 1, .dieControl, none, .plain,
    [⟨0, 48, .rw, (.val 0x0), []⟩, ⟨48, 12, .rw, (.val 0x0), []⟩]⟩,
  -- TE_SAVE_BASE (R151)
  ⟨[0,1,2,3], 0x100028, 0x10000, 16, 0x0, 1, .dieControl, none, .plain,
    [⟨0, 48, .rw, (.val 0x0), []⟩]⟩]

/-- The SPM_ registers. -/
def regTabSpm : List RegDesc := [
  -- SPM_GRANULE_n (R163)
  ⟨[0,1,2,3], 0x200000, 0x10000, 8, 0x8, 16, .dieControlOrVault, none, .own,
    [⟨0, 3, .rw, (.val 0x0), [(0, 4)]⟩, ⟨4, 6, .rw, (.val 0x0), []⟩, ⟨10, 6, .rw, (.val 0x0), []⟩, ⟨16, 1, .hw, (.val 0x0), []⟩, ⟨17, 1, .hw, (.val 0x0), []⟩, ⟨18, 1, .hw, (.val 0x0), []⟩]⟩,
  -- SPM_ECC (R164)
  ⟨[0,1,2,3], 0x200080, 0x10000, 8, 0x0, 1, .dieControl, none, .plain,
    [⟨0, 32, .rc, (.val 0x0), []⟩, ⟨32, 16, .rc, (.val 0x0), []⟩]⟩,
  -- SPM_ECC_ADDR (R164)
  ⟨[0,1,2,3], 0x200088, 0x10000, 8, 0x0, 1, .dieControl, none, .plain,
    [⟨0, 48, .hw, (.val 0x0), []⟩]⟩,
  -- SPM_SCRUB (R164)
  ⟨[0,1,2,3], 0x200090, 0x10000, 8, 0x0, 1, .dieControl, none, .plain,
    [⟨0, 32, .hw, (.val 0x0), []⟩, ⟨32, 32, .hw, (.val 0x0), []⟩]⟩]

/-- The SE_ registers. -/
def regTabSe : List RegDesc := [
  -- SE_RING_BASE (R173)
  ⟨[0,1,2,3], 0x300000, 0x10000, 4, 0x20, 4, .dieControl, none, .plain,
    [⟨0, 48, .rw, (.val 0x0), []⟩, ⟨48, 4, .rw, (.val 0x0), [(4, 12)]⟩, ⟨52, 12, .rw, (.val 0x0), []⟩]⟩,
  -- SE_RING_TAIL (R173)
  ⟨[0,1,2,3], 0x300008, 0x10000, 4, 0x20, 4, .dieControl, none, .own,
    [⟨0, 12, .rw, (.val 0x0), []⟩]⟩,
  -- SE_RING_HEAD (R173)
  ⟨[0,1,2,3], 0x300010, 0x10000, 4, 0x20, 4, .dieControl, none, .plain,
    [⟨0, 12, .hw, (.val 0x0), []⟩, ⟨16, 3, .hw, (.val 0x0), []⟩]⟩,
  -- SE_RING_CTRL (R173)
  ⟨[0,1,2,3], 0x300018, 0x10000, 4, 0x20, 4, .dieControl, none, .own,
    [⟨0, 1, .w1s, (.val 0x0), []⟩, ⟨1, 1, .w1s, (.val 0x0), []⟩, ⟨2, 1, .w1s, (.val 0x0), []⟩]⟩,
  -- SE_STATUS (R174)
  ⟨[0,1,2,3], 0x300080, 0x10000, 4, 0x0, 1, .dieControl, none, .plain,
    [⟨0, 9, .hw, (.val 0x0), []⟩, ⟨16, 16, .hw, (.val 0x0), []⟩, ⟨32, 2, .hw, (.val 0x0), []⟩]⟩,
  -- SE_BYTES (R174)
  ⟨[0,1,2,3], 0x300088, 0x10000, 4, 0x0, 1, .dieControl, none, .plain,
    [⟨0, 64, .hw, (.val 0x0), []⟩]⟩]

/-- The MEM_ registers. -/
def regTabMem : List RegDesc := [
  -- MEM_STATUS (R181)
  ⟨[0,1,2,3], 0x3C0000, 0x100, 2, 0x0, 1, .dieControl, none, .plain,
    [⟨0, 1, .hw, (.val 0x1), []⟩, ⟨1, 1, .hw, (.val 0x1), []⟩, ⟨4, 3, .ro, .stackNo, []⟩, ⟨8, 8, .hw, .image, []⟩]⟩,
  -- MEM_ECC (R181)
  ⟨[0,1,2,3], 0x3C0008, 0x100, 2, 0x0, 1, .dieControl, none, .plain,
    [⟨0, 32, .rc, (.val 0x0), []⟩, ⟨32, 16, .rc, (.val 0x0), []⟩]⟩,
  -- MEM_ECC_ADDR (R181)
  ⟨[0,1,2,3], 0x3C0010, 0x100, 2, 0x0, 1, .dieControl, none, .plain,
    [⟨0, 48, .hw, (.val 0x0), []⟩]⟩,
  -- MEM_LINES (R181)
  ⟨[0,1,2,3], 0x3C0018, 0x100, 2, 0x0, 1, .dieControl, none, .plain,
    [⟨0, 64, .hw, (.val 0x0), []⟩]⟩,
  -- MEM_PATROL (R181)
  ⟨[0,1,2,3], 0x3C0020, 0x100, 2, 0x0, 1, .dieControl, none, .plain,
    [⟨0, 32, .hw, (.val 0x0), []⟩]⟩]

/-- The CG_ registers. -/
def regTabCg : List RegDesc := [
  -- CG_ID (R220)
  ⟨[0,1,2,3], 0x380000, 0x0, 1, 0x0, 1, .dieControl, none, .plain,
    [⟨0, 3, .ro, .dieNo, []⟩, ⟨8, 14, .ro, (.val 0x2000), []⟩, ⟨32, 15, .ro, (.val 0x4000), []⟩]⟩,
  -- CG_CONFIG (R220)
  ⟨[0,1,2,3], 0x380008, 0x0, 1, 0x0, 1, .dieControl, none, .plain,
    [⟨0, 4, .ro, (.val 0x0), []⟩]⟩,
  -- CG_STATUS (R220)
  ⟨[0,1,2,3], 0x380010, 0x0, 1, 0x0, 1, .dieControl, none, .plain,
    [⟨0, 14, .hw, (.val 0x0), []⟩, ⟨16, 15, .hw, (.val 0x0), []⟩]⟩,
  -- CG_COUNTS (R220)
  ⟨[0,1,2,3], 0x380018, 0x0, 1, 0x0, 1, .dieControl, none, .plain,
    [⟨0, 32, .hw, (.val 0x0), []⟩, ⟨32, 32, .hw, (.val 0x0), []⟩]⟩,
  -- CG_EVENTS (R220)
  ⟨[0,1,2,3], 0x380020, 0x0, 1, 0x0, 1, .dieControl, none, .plain,
    [⟨0, 16, .rc, (.val 0x0), []⟩, ⟨16, 16, .rc, (.val 0x0), []⟩, ⟨32, 16, .rc, (.val 0x0), []⟩, ⟨48, 16, .rc, (.val 0x0), []⟩]⟩,
  -- CG_TVT_SEL (R221)
  ⟨[0,1,2,3], 0x380100, 0x0, 1, 0x0, 1, .dieControl, none, .selector,
    [⟨0, 13, .rw, (.val 0x0), []⟩]⟩,
  -- CG_TVT_ENTRY (R221)
  ⟨[0,1,2,3], 0x380108, 0x0, 1, 0x0, 1, .dieControl, some ⟨0x380100, 13⟩, .plain,
    [⟨0, 1, .hw, (.val 0x0), []⟩, ⟨1, 2, .hw, (.val 0x0), []⟩, ⟨4, 16, .hw, (.val 0x0), []⟩, ⟨20, 12, .hw, (.val 0x0), []⟩, ⟨32, 4, .hw, (.val 0x0), []⟩, ⟨36, 4, .hw, (.val 0x0), []⟩, ⟨40, 16, .hw, (.val 0x0), []⟩, ⟨56, 7, .hw, (.val 0x0), []⟩, ⟨63, 1, .hw, (.val 0x0), []⟩]⟩,
  -- CG_TVT_WRITERS (R221)
  ⟨[0,1,2,3], 0x380110, 0x0, 1, 0x0, 1, .dieControl, some ⟨0x380100, 13⟩, .plain,
    [⟨0, 64, .hw, (.val 0x0), []⟩]⟩,
  -- CG_TVT_LAST (R221)
  ⟨[0,1,2,3], 0x380118, 0x0, 1, 0x0, 1, .dieControl, some ⟨0x380100, 13⟩, .plain,
    [⟨0, 12, .hw, (.val 0x0), []⟩, ⟨16, 16, .hw, (.val 0x0), []⟩, ⟨32, 32, .hw, (.val 0x0), []⟩]⟩,
  -- CG_TOKEN_SEL (R222)
  ⟨[0,1,2,3], 0x380120, 0x0, 1, 0x0, 1, .dieControl, none, .selector,
    [⟨0, 14, .rw, (.val 0x0), []⟩]⟩,
  -- CG_TOKEN (R222)
  ⟨[0,1,2,3], 0x380128, 0x0, 1, 0x0, 1, .dieControl, some ⟨0x380120, 14⟩, .plain,
    [⟨0, 2, .hw, (.val 0x0), []⟩, ⟨2, 2, .hw, (.val 0x0), []⟩, ⟨4, 12, .hw, (.val 0x0), []⟩, ⟨16, 7, .hw, (.val 0x0), []⟩]⟩,
  -- CG_BUF_BASE (R223)
  ⟨[0,1,2,3], 0x381000, 0x20, 256, 0x0, 1, .dieControl, none, .plain,
    [⟨0, 48, .rw, (.val 0x0), []⟩]⟩,
  -- CG_BUF_SHADOW (R223)
  ⟨[0,1,2,3], 0x381008, 0x20, 256, 0x0, 1, .dieControl, none, .plain,
    [⟨0, 48, .rw, (.val 0x0), []⟩]⟩,
  -- CG_BUF_CTRL (R223)
  ⟨[0,1,2,3], 0x381010, 0x20, 256, 0x0, 1, .dieControl, none, .plain,
    [⟨0, 13, .rw, (.val 0x0), []⟩, ⟨13, 1, .rw, (.val 0x0), []⟩, ⟨15, 1, .rw, (.val 0x0), []⟩, ⟨16, 16, .rw, (.val 0x0), []⟩, ⟨32, 6, .rw, (.val 0x0), []⟩, ⟨40, 13, .hw, (.val 0x0), []⟩]⟩,
  -- CG_BUF_STATUS (R223)
  ⟨[0,1,2,3], 0x381018, 0x20, 256, 0x0, 1, .dieControl, none, .plain,
    [⟨0, 14, .hw, (.val 0x0), []⟩, ⟨16, 14, .hw, (.val 0x0), []⟩, ⟨32, 32, .hw, (.val 0x0), []⟩]⟩,
  -- CG_BUF_READERS_n (R224)
  ⟨[0,1,2,3], 0x383000, 0x8, 256, 0x0, 1, .dieControl, none, .plain,
    [⟨0, 64, .rw, (.val 0x0), []⟩]⟩]

/-- The SCH_ registers. -/
def regTabSch : List RegDesc := [
  -- SCH_ID (R251)
  ⟨[4], 0x280000, 0x0, 1, 0x0, 1, .anyControl, none, .plain,
    [⟨0, 13, .ro, (.val 0x1000), []⟩, ⟨16, 7, .ro, (.val 0x40), []⟩, ⟨32, 8, .ro, (.val 0x0), []⟩]⟩,
  -- SCH_CTRL (R251)
  ⟨[4], 0x280008, 0x0, 1, 0x0, 1, .anyControl, none, .plain,
    [⟨0, 1, .rw, (.val 0x0), []⟩]⟩,
  -- SCH_STATUS (R251)
  ⟨[4], 0x280010, 0x0, 1, 0x0, 1, .anyControl, none, .plain,
    [⟨0, 13, .hw, (.val 0x0), []⟩, ⟨16, 13, .hw, (.val 0x0), []⟩, ⟨32, 13, .hw, (.val 0x0), []⟩, ⟨48, 13, .hw, (.val 0x0), []⟩]⟩,
  -- SCH_FRAME (R251)
  ⟨[4], 0x280018, 0x0, 1, 0x0, 1, .anyControl, none, .plain,
    [⟨0, 32, .hw, (.val 0x0), []⟩, ⟨32, 32, .hw, (.val 0x0), []⟩]⟩,
  -- SCH_EVENTS (R251)
  ⟨[4], 0x280020, 0x0, 1, 0x0, 1, .anyControl, none, .plain,
    [⟨0, 16, .rc, (.val 0x0), []⟩, ⟨16, 16, .rc, (.val 0x0), []⟩, ⟨32, 16, .rc, (.val 0x0), []⟩, ⟨48, 16, .rc, (.val 0x0), []⟩]⟩,
  -- SCH_EVENTS2 (R251)
  ⟨[4], 0x280028, 0x0, 1, 0x0, 1, .anyControl, none, .plain,
    [⟨0, 16, .rc, (.val 0x0), []⟩, ⟨16, 16, .rc, (.val 0x0), []⟩, ⟨32, 16, .rc, (.val 0x0), []⟩]⟩,
  -- SCH_QSEL (R252)
  ⟨[4], 0x280100, 0x0, 1, 0x0, 1, .anyControl, none, .selector,
    [⟨0, 16, .rw, (.val 0x0), []⟩]⟩,
  -- SCH_QBASE (R252)
  ⟨[4], 0x280108, 0x0, 1, 0x0, 1, .anyControl, some ⟨0x280100, 16⟩, .plain,
    [⟨0, 48, .rw, (.val 0x0), []⟩, ⟨48, 4, .rw, (.val 0x0), [(4, 12)]⟩, ⟨52, 6, .rw, (.val 0x0), []⟩]⟩,
  -- SCH_QCFG (R252)
  ⟨[4], 0x280110, 0x0, 1, 0x0, 1, .anyControl, some ⟨0x280100, 16⟩, .plain,
    [⟨0, 2, .rw, (.val 0x0), []⟩, ⟨2, 1, .rw, (.val 0x0), []⟩, ⟨3, 6, .rw, (.val 0x0), []⟩, ⟨16, 11, .rw, (.val 0x0), []⟩, ⟨27, 1, .rw, (.val 0x0), []⟩]⟩,
  -- SCH_QPTR (R252)
  ⟨[4], 0x280118, 0x0, 1, 0x0, 1, .anyControl, some ⟨0x280100, 16⟩, .plain,
    [⟨0, 16, .hw, (.val 0x0), []⟩, ⟨16, 16, .hw, (.val 0x0), []⟩, ⟨32, 2, .rw, (.val 0x0), [(0, 2)]⟩]⟩,
  -- SCH_JSEL (R253)
  ⟨[4], 0x280120, 0x0, 1, 0x0, 1, .anyControl, none, .selector,
    [⟨0, 12, .rw, (.val 0x0), []⟩]⟩,
  -- SCH_JCTX (R253)
  ⟨[4], 0x280128, 0x0, 1, 0x0, 1, .anyControl, some ⟨0x280120, 12⟩, .plain,
    [⟨0, 4, .hw, (.val 0x0), []⟩, ⟨4, 6, .hw, (.val 0x0), []⟩, ⟨10, 2, .hw, (.val 0x0), []⟩, ⟨12, 1, .hw, (.val 0x0), []⟩, ⟨16, 16, .hw, (.val 0x0), []⟩, ⟨32, 16, .hw, (.val 0x0), []⟩, ⟨48, 6, .hw, (.val 0x0), []⟩]⟩,
  -- SCH_JRANKS (R253)
  ⟨[4], 0x280130, 0x0, 1, 0x0, 1, .anyControl, some ⟨0x280120, 12⟩, .plain,
    [⟨0, 64, .hw, (.val 0x0), []⟩]⟩,
  -- SCH_RT_ENGINES (R254)
  ⟨[4], 0x281000, 0x20, 64, 0x0, 1, .anyControl, none, .plain,
    [⟨0, 64, .hw, (.val 0x0), []⟩]⟩,
  -- SCH_RT_CFG (R254)
  ⟨[4], 0x281008, 0x20, 64, 0x0, 1, .anyControl, none, .plain,
    [⟨0, 32, .ro, (.val 0x0), []⟩, ⟨32, 30, .ro, (.val 0x0), []⟩, ⟨62, 1, .ro, (.val 0x0), []⟩, ⟨63, 1, .ro, (.val 0x0), []⟩]⟩,
  -- SCH_RT_USE (R254)
  ⟨[4], 0x281010, 0x20, 64, 0x0, 1, .anyControl, none, .plain,
    [⟨0, 40, .hw, (.val 0x0), []⟩, ⟨40, 7, .hw, (.val 0x0), []⟩, ⟨47, 1, .hw, (.val 0x0), []⟩]⟩,
  -- SCH_RT_COUNTS (R254)
  ⟨[4], 0x281018, 0x20, 64, 0x0, 1, .anyControl, none, .plain,
    [⟨0, 16, .rc, (.val 0x0), []⟩, ⟨16, 16, .rc, (.val 0x0), []⟩, ⟨32, 16, .rc, (.val 0x0), []⟩, ⟨48, 16, .rc, (.val 0x0), []⟩]⟩]

/-- The SCH_ registers. -/
def regTabSchd : List RegDesc := [
  -- SCH_DIE_ID (R255)
  ⟨[0,1,2,3], 0x20000, 0x0, 1, 0x0, 1, .dieControl, none, .plain,
    [⟨0, 3, .ro, .dieNo, []⟩]⟩,
  -- SCH_EVENT (R255)
  ⟨[0,1,2,3], 0x20008, 0x0, 1, 0x0, 1, .dieControl, none, .plain,
    [⟨0, 4, .rc, (.val 0x0), []⟩, ⟨4, 12, .rc, (.val 0x0), []⟩, ⟨16, 48, .rc, (.val 0x0), []⟩]⟩,
  -- SCH_EVENT_PENDING (R255)
  ⟨[0,1,2,3], 0x20010, 0x0, 1, 0x0, 1, .dieControl, none, .plain,
    [⟨0, 11, .hw, (.val 0x0), []⟩, ⟨11, 1, .w1c, (.val 0x0), []⟩]⟩,
  -- SCH_RT_LOCK (R255)
  ⟨[0,1,2,3], 0x20018, 0x0, 1, 0x0, 1, .dieControl, none, .plain,
    [⟨0, 16, .hw, (.val 0x0), []⟩]⟩,
  -- SCH_XDIE (R255)
  ⟨[0,1,2,3], 0x20020, 0x0, 1, 0x0, 1, .dieControl, none, .own,
    [⟨0, 4, .wo, (.val 0x0), [(1, 4)]⟩, ⟨4, 12, .wo, (.val 0x0), []⟩, ⟨16, 6, .wo, (.val 0x0), []⟩]⟩]

/-- The IPP_ registers. -/
def regTabIpp : List RegDesc := [
  -- IPP_ID (R282)
  ⟨[6,7], 0x280000, 0x0, 1, 0x0, 1, .steward, none, .plain,
    [⟨0, 1, .ro, .oDie, []⟩, ⟨8, 8, .ro, (.val 0x30), []⟩, ⟨16, 8, .ro, (.val 0x10), []⟩, ⟨24, 8, .ro, (.val 0x10), []⟩]⟩,
  -- IPP_SSEL (R282)
  ⟨[6,7], 0x280100, 0x0, 1, 0x0, 1, .steward, none, .selector,
    [⟨0, 6, .rw, (.val 0x0), [(0, 47)]⟩]⟩,
  -- IPP_SCFG (R282)
  ⟨[6,7], 0x280108, 0x0, 1, 0x0, 1, .steward, some ⟨0x280100, 6⟩, .plain,
    [⟨0, 1, .rw, (.val 0x0), []⟩, ⟨1, 2, .rw, (.val 0x0), [(0, 2)]⟩, ⟨3, 4, .rw, (.val 0x0), [(1, 2), (4, 4), (6, 6)]⟩, ⟨7, 1, .rw, (.val 0x0), []⟩, ⟨8, 4, .rw, (.val 0x0), []⟩, ⟨12, 4, .rw, (.val 0x0), []⟩, ⟨16, 6, .rw, (.val 0x0), []⟩, ⟨22, 1, .rw, (.val 0x0), []⟩, ⟨24, 16, .rw, (.val 0x0), []⟩, ⟨40, 16, .rw, (.val 0x0), []⟩]⟩,
  -- IPP_SPARAM (R282)
  ⟨[6,7], 0x280110, 0x0, 1, 0x0, 1, .steward, some ⟨0x280100, 6⟩, .own,
    [⟨0, 48, .rw, (.val 0x0), []⟩, ⟨48, 1, .w1s, (.val 0x0), []⟩, ⟨49, 1, .hw, (.val 0x0), []⟩]⟩,
  -- IPP_SSTAT (R282)
  ⟨[6,7], 0x280118, 0x0, 1, 0x0, 1, .steward, some ⟨0x280100, 6⟩, .own,
    [⟨0, 2, .hw, (.val 0x0), []⟩, ⟨2, 1, .w1s, (.val 0x0), []⟩, ⟨16, 16, .rc, (.val 0x0), []⟩, ⟨32, 16, .rc, (.val 0x0), []⟩, ⟨48, 16, .rc, (.val 0x0), []⟩]⟩,
  -- IPP_GRP_BASE (R283)
  ⟨[6,7], 0x281000, 0x40, 16, 0x0, 1, .steward, none, .plain,
    [⟨0, 48, .rw, (.val 0x0), []⟩]⟩,
  -- IPP_GRP_CFG (R283)
  ⟨[6,7], 0x281008, 0x40, 16, 0x0, 1, .steward, none, .plain,
    [⟨0, 6, .rw, (.val 0x0), []⟩, ⟨6, 4, .rw, (.val 0x0), [(1, 15)]⟩, ⟨10, 4, .rw, (.val 0x0), []⟩, ⟨14, 1, .rw, (.val 0x0), []⟩, ⟨15, 1, .rw, (.val 0x0), []⟩, ⟨16, 1, .rw, (.val 0x0), []⟩, ⟨17, 6, .rw, (.val 0x0), []⟩, ⟨23, 6, .rw, (.val 0x0), []⟩, ⟨29, 1, .rw, (.val 0x0), []⟩, ⟨32, 32, .rw, (.val 0x0), []⟩]⟩,
  -- IPP_GRP_TIMING (R283)
  ⟨[6,7], 0x281010, 0x40, 16, 0x0, 1, .steward, none, .plain,
    [⟨0, 24, .rw, (.val 0x0), []⟩, ⟨24, 24, .rw, (.val 0x0), []⟩]⟩,
  -- IPP_GRP_TIMING2 (R283)
  ⟨[6,7], 0x281018, 0x40, 16, 0x0, 1, .steward, none, .plain,
    [⟨0, 24, .rw, (.val 0x0), []⟩, ⟨24, 24, .rw, (.val 0x0), []⟩]⟩,
  -- IPP_GRP_STATE (R283)
  ⟨[6,7], 0x281020, 0x40, 16, 0x0, 1, .steward, none, .plain,
    [⟨0, 5, .hw, (.val 0x0), []⟩, ⟨5, 5, .hw, (.val 0x0), []⟩, ⟨10, 1, .w1c, (.val 0x0), []⟩, ⟨16, 32, .hw, (.val 0x0), []⟩]⟩,
  -- IPP_GRP_ACQ (R283)
  ⟨[6,7], 0x281028, 0x40, 16, 0x0, 1, .steward, none, .plain,
    [⟨0, 4, .rc, (.val 0x0), []⟩, ⟨4, 1, .rc, (.val 0x0), []⟩, ⟨32, 32, .rc, (.val 0x0), []⟩]⟩,
  -- IPP_GRP_REL (R283)
  ⟨[6,7], 0x281030, 0x40, 16, 0x0, 1, .ippRel, none, .own,
    [⟨0, 4, .wo, (.val 0x0), []⟩]⟩,
  -- IPP_GRP_COUNTS (R283)
  ⟨[6,7], 0x281038, 0x40, 16, 0x0, 1, .steward, none, .plain,
    [⟨0, 16, .rc, (.val 0x0), []⟩, ⟨16, 16, .rc, (.val 0x0), []⟩, ⟨32, 16, .rc, (.val 0x0), []⟩, ⟨48, 16, .rc, (.val 0x0), []⟩]⟩]

/-- The SAF_ registers. -/
def regTabSaf : List RegDesc := [
  -- SAF_ID (R322)
  ⟨[4], 0x100000, 0x0, 1, 0x0, 1, .sentinel, none, .plain,
    [⟨0, 8, .ro, (.val 0x1), []⟩, ⟨8, 7, .ro, (.val 0x0), []⟩, ⟨15, 1, .ro, (.val 0x0), []⟩]⟩,
  -- SAF_STATUS (R322)
  ⟨[4], 0x100008, 0x0, 1, 0x0, 1, .sentinel, none, .plain,
    [⟨0, 1, .hw, (.val 0x0), []⟩, ⟨1, 1, .hw, (.val 0x1), []⟩, ⟨2, 2, .hw, (.val 0x0), []⟩, ⟨8, 16, .hw, (.val 0x0), []⟩, ⟨32, 32, .hw, (.val 0x0), []⟩]⟩,
  -- SAF_CTRL (R322)
  ⟨[4], 0x100010, 0x0, 1, 0x0, 1, .stewardOrSentinel, none, .own,
    [⟨0, 1, .w1s, (.val 0x0), []⟩]⟩,
  -- SAF_FRAME (R322)
  ⟨[4], 0x100018, 0x0, 1, 0x0, 1, .sentinel, none, .plain,
    [⟨0, 32, .hw, (.val 0x0), []⟩, ⟨32, 32, .hw, (.val 0x0), []⟩]⟩,
  -- SAF_LIVE (R322)
  ⟨[4], 0x100020, 0x0, 1, 0x0, 1, .sentinel, none, .plain,
    [⟨0, 64, .hw, (.val 0x0), []⟩]⟩,
  -- SAF_RETRO (R322)
  ⟨[4], 0x100028, 0x0, 1, 0x0, 1, .sentinel, none, .plain,
    [⟨0, 32, .hw, (.val 0x0), []⟩, ⟨32, 32, .hw, (.val 0x0), []⟩]⟩,
  -- SAF_RETRO_MASK (R322)
  ⟨[4], 0x100030, 0x0, 1, 0x0, 1, .sentinel, none, .plain,
    [⟨0, 64, .hw, (.val 0x0), []⟩]⟩,
  -- SAF_COUNTS (R322)
  ⟨[4], 0x100038, 0x0, 1, 0x0, 1, .sentinel, none, .plain,
    [⟨0, 16, .rc, (.val 0x0), []⟩, ⟨16, 16, .rc, (.val 0x0), []⟩, ⟨32, 16, .rc, (.val 0x0), []⟩, ⟨48, 16, .rc, (.val 0x0), []⟩]⟩,
  -- SAF_CFG (R322)
  ⟨[4], 0x100040, 0x0, 1, 0x0, 1, .sentinel, none, .plain,
    [⟨0, 32, .ro, (.val 0x0), []⟩, ⟨32, 32, .ro, (.val 0x0), []⟩]⟩,
  -- SAF_RESTARTS (R322)
  ⟨[4], 0x100048, 0x0, 1, 0x0, 1, .sentinel, none, .plain,
    [⟨0, 3, .hw, (.val 0x0), []⟩]⟩,
  -- SAF_OUT_SEL (R322)
  ⟨[4], 0x100100, 0x0, 1, 0x0, 1, .sentinel, none, .selector,
    [⟨0, 6, .rw, (.val 0x0), []⟩]⟩,
  -- SAF_OUT (R322)
  ⟨[4], 0x100108, 0x0, 1, 0x0, 1, .sentinel, some ⟨0x100100, 6⟩, .plain,
    [⟨0, 4, .ro, (.val 0x0), []⟩, ⟨4, 8, .ro, (.val 0x0), []⟩, ⟨16, 8, .ro, (.val 0x0), []⟩, ⟨24, 2, .hw, (.val 0x0), []⟩, ⟨26, 2, .hw, (.val 0x0), []⟩, ⟨32, 16, .hw, (.val 0x0), []⟩, ⟨48, 16, .hw, (.val 0x0), []⟩]⟩,
  -- SAF_PAIR_SEL (R338)
  ⟨[4], 0x100200, 0x0, 1, 0x0, 1, .sentinel, none, .selector,
    [⟨0, 3, .rw, (.val 0x0), [(0, 5)]⟩]⟩,
  -- SAF_PAIR (R338)
  ⟨[4], 0x100208, 0x0, 1, 0x0, 1, .sentinel, some ⟨0x100200, 3⟩, .plain,
    [⟨0, 3, .hw, .image, []⟩, ⟨3, 1, .hw, .image, []⟩, ⟨16, 16, .hw, (.val 0x0), []⟩, ⟨32, 32, .hw, (.val 0x0), []⟩]⟩,
  -- SAF_PAIR_COUNTS (R338)
  ⟨[4], 0x100210, 0x0, 1, 0x0, 1, .sentinel, none, .plain,
    [⟨0, 16, .rc, (.val 0x0), []⟩, ⟨16, 16, .rc, (.val 0x0), []⟩]⟩]

/-- The GFT_ registers. -/
def regTabGft : List RegDesc := [
  -- GFT_CFG (R323)
  ⟨[4], 0x140000, 0x0, 1, 0x0, 1, .sentinel, none, .plain,
    [⟨0, 32, .ro, (.val 0x0), []⟩, ⟨32, 32, .ro, (.val 0x0), []⟩]⟩,
  -- GFT_WINDOW (R323)
  ⟨[4], 0x140008, 0x0, 1, 0x0, 1, .sentinel, none, .plain,
    [⟨0, 32, .ro, (.val 0x0), []⟩, ⟨32, 32, .ro, (.val 0x0), []⟩]⟩,
  -- GFT_TEST (R323)
  ⟨[4], 0x140010, 0x0, 1, 0x0, 1, .sentinel, none, .plain,
    [⟨0, 17, .ro, (.val 0x0), []⟩]⟩,
  -- GFT_STATUS (R323)
  ⟨[4], 0x140018, 0x0, 1, 0x0, 1, .sentinel, none, .plain,
    [⟨0, 32, .hw, (.val 0x0), []⟩, ⟨32, 7, .hw, (.val 0x0), []⟩, ⟨40, 7, .hw, (.val 0x0), []⟩]⟩,
  -- GFT_COUNTS (R323)
  ⟨[4], 0x140020, 0x0, 1, 0x0, 1, .sentinel, none, .plain,
    [⟨0, 32, .hw, (.val 0x0), []⟩, ⟨32, 16, .rc, (.val 0x0), []⟩, ⟨48, 16, .rc, (.val 0x0), []⟩]⟩,
  -- GFT_LAST_FAIL (R323)
  ⟨[4], 0x140028, 0x0, 1, 0x0, 1, .sentinel, none, .plain,
    [⟨0, 6, .hw, (.val 0x0), []⟩, ⟨6, 2, .hw, (.val 0x0), []⟩, ⟨8, 32, .hw, (.val 0x0), []⟩]⟩,
  -- GFT_LAST_SIG (R323)
  ⟨[4], 0x140030, 0x0, 1, 0x0, 1, .sentinel, none, .plain,
    [⟨0, 64, .hw, (.val 0x0), []⟩]⟩,
  -- GFT_ENG_SEL (R323)
  ⟨[4], 0x140100, 0x0, 1, 0x0, 1, .sentinel, none, .selector,
    [⟨0, 6, .rw, (.val 0x0), []⟩]⟩,
  -- GFT_ENG (R323)
  ⟨[4], 0x140108, 0x0, 1, 0x0, 1, .sentinel, some ⟨0x140100, 6⟩, .plain,
    [⟨0, 3, .hw, .image, []⟩, ⟨3, 1, .hw, (.val 0x0), []⟩, ⟨4, 16, .hw, (.val 0x0), []⟩, ⟨20, 2, .hw, (.val 0x0), []⟩, ⟨22, 2, .hw, (.val 0x0), []⟩, ⟨32, 16, .hw, (.val 0x0), []⟩, ⟨48, 16, .hw, (.val 0x0), []⟩]⟩,
  -- GFT_ENG_TIME (R323)
  ⟨[4], 0x140110, 0x0, 1, 0x0, 1, .sentinel, some ⟨0x140100, 6⟩, .plain,
    [⟨0, 32, .hw, (.val 0x0), []⟩]⟩]

/-- The CHU_ registers. -/
def regTabChu : List RegDesc := [
  -- CHU_STATUS (R324)
  ⟨[4], 0x480000, 0x0, 1, 0x0, 1, .sentinel, none, .plain,
    [⟨0, 2, .hw, (.val 0x0), []⟩, ⟨2, 2, .hw, (.val 0x2), []⟩, ⟨8, 8, .hw, (.val 0x64), []⟩]⟩,
  -- CHU_FRAME (R324)
  ⟨[4], 0x480008, 0x0, 1, 0x0, 1, .sentinel, none, .plain,
    [⟨0, 32, .hw, (.val 0x0), []⟩, ⟨32, 32, .hw, (.val 0x0), []⟩]⟩,
  -- CHU_COUNTS (R324)
  ⟨[4], 0x480010, 0x0, 1, 0x0, 1, .sentinel, none, .plain,
    [⟨0, 16, .rc, (.val 0x0), []⟩, ⟨16, 16, .rc, (.val 0x0), []⟩, ⟨32, 16, .rc, (.val 0x0), []⟩]⟩]

/-- The SSC_ registers. -/
def regTabSsc : List RegDesc := [
  -- SSC_STATUS (R324)
  ⟨[6,7], 0x3C0000, 0x0, 1, 0x0, 1, .sentinel, none, .plain,
    [⟨0, 1, .hw, (.val 0x1), []⟩, ⟨1, 1, .hw, (.val 0x0), []⟩, ⟨8, 32, .hw, (.val 0x0), []⟩]⟩,
  -- SSC_LAST (R324)
  ⟨[6,7], 0x3C0008, 0x0, 1, 0x0, 1, .sentinel, none, .plain,
    [⟨0, 64, .hw, (.val 0x0), []⟩]⟩]

/-- The TSQ_ registers. -/
def regTabTsq : List RegDesc := [
  -- TSQ_ID (R362)
  ⟨[4], 0x300000, 0x0, 1, 0x0, 1, .nobody, none, .plain,
    [⟨0, 7, .ro, (.val 0x58), []⟩, ⟨8, 8, .ro, (.val 0x0), []⟩]⟩,
  -- TSQ_SEL (R362)
  ⟨[4], 0x300100, 0x0, 1, 0x0, 1, .stewardOrSentinel, none, .selector,
    [⟨0, 7, .rw, (.val 0x0), [(0, 87)]⟩]⟩,
  -- TSQ_STATE (R362)
  ⟨[4], 0x300108, 0x0, 1, 0x0, 1, .nobody, some ⟨0x300100, 7⟩, .plain,
    [⟨0, 3, .hw, (.val 0x0), []⟩, ⟨3, 1, .ro, .image, []⟩, ⟨4, 12, .hw, .image, []⟩, ⟨16, 8, .hw, (.val 0x0), []⟩, ⟨32, 16, .hw, (.val 0x0), []⟩, ⟨48, 8, .hw, (.val 0x0), []⟩]⟩,
  -- TSQ_COUNTS (R362)
  ⟨[4], 0x300110, 0x0, 1, 0x0, 1, .nobody, some ⟨0x300100, 7⟩, .plain,
    [⟨0, 32, .hw, (.val 0x0), []⟩, ⟨32, 16, .hw, (.val 0x0), []⟩, ⟨48, 16, .rc, (.val 0x0), []⟩]⟩,
  -- TSQ_CTRL (R363)
  ⟨[4], 0x300118, 0x0, 1, 0x0, 1, .stewardOrSentinel, some ⟨0x300100, 7⟩, .own,
    [⟨0, 1, .w1s, (.val 0x0), []⟩, ⟨1, 1, .w1s, (.val 0x0), []⟩]⟩,
  -- TSQ_SWAP (R363)
  ⟨[4], 0x300120, 0x0, 1, 0x0, 1, .stewardOrSentinel, none, .own,
    [⟨0, 7, .rw, (.val 0x0), []⟩, ⟨8, 3, .rw, (.val 0x0), []⟩, ⟨11, 8, .rw, (.val 0x0), []⟩, ⟨19, 1, .w1s, (.val 0x0), []⟩, ⟨20, 1, .hw, (.val 0x0), []⟩, ⟨21, 2, .hw, (.val 0x0), []⟩]⟩,
  -- TSQ_SE_BIND (R363)
  ⟨[4], 0x300128, 0x0, 1, 0x0, 1, .anyControl, none, .own,
    [⟨0, 2, .wo, (.val 0x0), []⟩, ⟨2, 2, .wo, (.val 0x0), []⟩, ⟨4, 8, .wo, (.val 0x0), []⟩, ⟨12, 1, .wo, (.val 0x0), []⟩, ⟨13, 2, .wo, (.val 0x0), []⟩]⟩]

/-- The VI_ registers. -/
def regTabVi : List RegDesc := [
  -- VI_RID_MAP_n (R366)
  ⟨[4], 0x200400, 0x8, 64, 0x0, 1, .steward, none, .plain,
    [⟨0, 16, .rw, (.val 0x0), []⟩, ⟨16, 6, .rw, (.val 0x0), []⟩, ⟨22, 1, .rw, (.val 0x0), []⟩]⟩,
  -- VI_ID (R385)
  ⟨[4], 0x200000, 0x0, 1, 0x0, 1, .viWriter, none, .plain,
    [⟨0, 7, .ro, (.val 0x40), []⟩, ⟨8, 6, .ro, (.val 0x20), []⟩, ⟨16, 8, .ro, (.val 0x10), []⟩]⟩,
  -- VI_STATUS (R385)
  ⟨[4], 0x200008, 0x0, 1, 0x0, 1, .viWriter, none, .plain,
    [⟨0, 7, .hw, (.val 0x0), []⟩, ⟨8, 6, .hw, (.val 0x0), []⟩]⟩,
  -- VI_SEL (R385)
  ⟨[4], 0x200100, 0x0, 1, 0x0, 1, .viWriter, none, .selector,
    [⟨0, 6, .rw, (.val 0x0), []⟩]⟩,
  -- VI_STATE (R386)
  ⟨[4], 0x200108, 0x0, 1, 0x0, 1, .viWriter, some ⟨0x200100, 6⟩, .plain,
    [⟨0, 3, .hw, (.val 0x0), []⟩, ⟨3, 1, .hw, (.val 0x0), []⟩, ⟨8, 8, .hw, (.val 0x0), []⟩]⟩,
  -- VI_CMD (R386)
  ⟨[4], 0x200110, 0x0, 1, 0x0, 1, .viWriter, some ⟨0x200100, 6⟩, .own,
    [⟨0, 4, .rw, (.val 0x0), [(1, 6)]⟩, ⟨4, 1, .rw, (.val 0x0), []⟩, ⟨8, 1, .w1s, (.val 0x0), []⟩, ⟨9, 1, .hw, (.val 0x0), []⟩, ⟨16, 8, .hw, (.val 0x0), []⟩]⟩,
  -- VI_OWNER (R387)
  ⟨[4], 0x200118, 0x0, 1, 0x0, 1, .viWriter, some ⟨0x200100, 6⟩, .plain,
    [⟨0, 5, .rw, (.val 0x0), []⟩, ⟨8, 24, .rw, (.val 0x0), []⟩, ⟨32, 1, .rw, (.val 0x0), []⟩, ⟨33, 2, .rw, (.val 0x0), []⟩]⟩,
  -- VI_QUEUES_A (R387)
  ⟨[4], 0x200120, 0x0, 1, 0x0, 1, .viWriter, some ⟨0x200100, 6⟩, .plain,
    [⟨0, 9, .rw, (.val 0x0), []⟩, ⟨9, 10, .rw, (.val 0x0), [(0, 512)]⟩, ⟨19, 9, .rw, (.val 0x0), []⟩, ⟨28, 10, .rw, (.val 0x0), [(0, 512)]⟩, ⟨38, 8, .rw, (.val 0x0), []⟩, ⟨46, 9, .rw, (.val 0x0), [(0, 256)]⟩]⟩,
  -- VI_QUEUES_B (R387)
  ⟨[4], 0x200128, 0x0, 1, 0x0, 1, .viWriter, some ⟨0x200100, 6⟩, .plain,
    [⟨0, 9, .rw, (.val 0x0), []⟩, ⟨9, 10, .rw, (.val 0x0), [(0, 512)]⟩, ⟨19, 7, .rw, (.val 0x0), []⟩, ⟨26, 8, .rw, (.val 0x0), [(0, 128)]⟩, ⟨34, 7, .rw, (.val 0x0), []⟩, ⟨41, 8, .rw, (.val 0x0), [(0, 128)]⟩]⟩,
  -- VI_CTX (R387)
  ⟨[4], 0x200130, 0x0, 1, 0x0, 1, .viWriter, some ⟨0x200100, 6⟩, .plain,
    [⟨0, 8, .rw, (.val 0x0), []⟩, ⟨8, 9, .rw, (.val 0x0), [(0, 256)]⟩, ⟨24, 11, .rw, (.val 0x0), [(1, 2047)]⟩, ⟨35, 12, .rw, (.val 0x0), [(0, 2047)]⟩]⟩,
  -- VI_ENGINES (R387)
  ⟨[4], 0x200138, 0x0, 1, 0x0, 1, .viWriter, some ⟨0x200100, 6⟩, .plain,
    [⟨0, 7, .rw, (.val 0x0), []⟩, ⟨8, 4, .rw, (.val 0x0), []⟩, ⟨16, 8, .rw, (.val 0x1), [(1, 255)]⟩]⟩,
  -- VI_SPM (R387)
  ⟨[4], 0x200140, 0x0, 1, 0x0, 1, .viWriter, some ⟨0x200100, 6⟩, .plain,
    [⟨0, 8, .rw, (.val 0x0), []⟩, ⟨16, 8, .rw, (.val 0x0), []⟩, ⟨32, 8, .rw, (.val 0x0), []⟩, ⟨48, 8, .rw, (.val 0x0), []⟩, ⟨8, 8, .rw, (.val 0x0), []⟩, ⟨24, 8, .rw, (.val 0x0), []⟩, ⟨40, 8, .rw, (.val 0x0), []⟩, ⟨56, 8, .rw, (.val 0x0), []⟩]⟩,
  -- VI_BW (R387)
  ⟨[4], 0x200148, 0x0, 1, 0x0, 1, .viWriter, some ⟨0x200100, 6⟩, .plain,
    [⟨0, 10, .rw, (.val 0x0), []⟩, ⟨10, 10, .rw, (.val 0x0), []⟩, ⟨20, 10, .rw, (.val 0x0), []⟩, ⟨30, 10, .rw, (.val 0x0), []⟩, ⟨40, 8, .rw, (.val 0x10), [(1, 255)]⟩, ⟨48, 1, .rw, (.val 0x0), []⟩]⟩,
  -- VI_MSI (R387)
  ⟨[4], 0x200150, 0x0, 1, 0x0, 1, .viWriter, some ⟨0x200100, 6⟩, .plain,
    [⟨12, 36, .rw, (.val 0x0), []⟩]⟩,
  -- VI_COALESCE (R387)
  ⟨[4], 0x200158, 0x0, 1, 0x0, 1, .viWriter, some ⟨0x200100, 6⟩, .plain,
    [⟨0, 8, .rw, (.val 0x1), [(1, 255)]⟩, ⟨8, 16, .rw, (.val 0x0), []⟩, ⟨24, 16, .rw, (.val 0xC8), []⟩]⟩,
  -- VI_EXT_n (R387)
  ⟨[4], 0x200180, 0x8, 8, 0x0, 1, .viWriter, some ⟨0x200100, 6⟩, .plain,
    [⟨21, 27, .rw, (.val 0x0), []⟩, ⟨48, 16, .rw, (.val 0x0), []⟩]⟩,
  -- VI_USE (R388)
  ⟨[4], 0x2001C0, 0x0, 1, 0x0, 1, .viWriter, some ⟨0x200100, 6⟩, .plain,
    [⟨0, 7, .hw, (.val 0x0), []⟩, ⟨8, 10, .hw, (.val 0x0), []⟩, ⟨18, 13, .hw, (.val 0x0), []⟩, ⟨32, 16, .hw, (.val 0x0), []⟩]⟩,
  -- VI_COUNTS (R388)
  ⟨[4], 0x2001C8, 0x0, 1, 0x0, 1, .viWriter, some ⟨0x200100, 6⟩, .plain,
    [⟨0, 16, .rc, (.val 0x0), []⟩, ⟨16, 16, .rc, (.val 0x0), []⟩, ⟨32, 16, .rc, (.val 0x0), []⟩, ⟨48, 16, .rc, (.val 0x0), []⟩]⟩,
  -- VI_QPROG_SEL (R388)
  ⟨[4], 0x200200, 0x0, 1, 0x0, 1, .viWriter, none, .selector,
    [⟨0, 14, .rw, (.val 0x0), []⟩]⟩,
  -- VI_QPROG (R388)
  ⟨[4], 0x200208, 0x0, 1, 0x0, 1, .viWriter, some ⟨0x200200, 14⟩, .plain,
    [⟨0, 8, .rw, (.val 0x0), []⟩, ⟨8, 1, .rw, (.val 0x0), []⟩]⟩]

/-- The SEC_ registers. -/
def regTabSec : List RegDesc := [
  -- SEC_WM_STACK_n (R417)
  ⟨[4], 0x180010, 0x8, 8, 0x0, 1, .vault, none, .plain,
    [⟨0, 14, .hw, (.val 0x0), []⟩]⟩,
  -- SEC_WM_SPM_d (R417)
  ⟨[4], 0x180050, 0x8, 4, 0x0, 1, .vault, none, .plain,
    [⟨0, 8, .hw, (.val 0x0), []⟩]⟩,
  -- SEC_WM_CMD (R417)
  ⟨[4], 0x180080, 0x0, 1, 0x0, 1, .vault, none, .own,
    [⟨0, 4, .rw, (.val 0x0), [(0, 11)]⟩, ⟨16, 14, .rw, (.val 0x0), []⟩, ⟨30, 1, .w1s, (.val 0x0), []⟩, ⟨31, 1, .hw, (.val 0x0), []⟩, ⟨32, 3, .hw, (.val 0x0), []⟩]⟩,
  -- SEC_HOLD_CMD (R418)
  ⟨[4], 0x180100, 0x0, 1, 0x0, 1, .vault, none, .own,
    [⟨0, 6, .rw, (.val 0x0), [(0, 48)]⟩, ⟨6, 2, .rw, (.val 0x0), [(1, 2)]⟩, ⟨8, 1, .w1s, (.val 0x0), []⟩, ⟨9, 1, .hw, (.val 0x0), []⟩, ⟨10, 3, .hw, (.val 0x0), []⟩]⟩,
  -- SEC_HOLD_MAP (R418)
  ⟨[4], 0x180108, 0x0, 1, 0x0, 1, .vault, none, .plain,
    [⟨0, 49, .hw, (.val 0x0), []⟩]⟩,
  -- SEC_NOTICE (R418)
  ⟨[4], 0x180110, 0x0, 1, 0x0, 1, .vault, none, .plain,
    [⟨0, 6, .rc, (.val 0x0), []⟩, ⟨6, 2, .rc, (.val 0x0), []⟩, ⟨16, 32, .rc, (.val 0x0), []⟩]⟩,
  -- SEC_WDOG (R418)
  ⟨[4], 0x180200, 0x0, 1, 0x0, 1, .vault, none, .plain,
    [⟨0, 10, .ro, (.val 0x0), []⟩, ⟨16, 16, .hw, .image, []⟩, ⟨32, 10, .hw, .image, []⟩]⟩,
  -- SEC_WDOG_KICK (R418)
  ⟨[4], 0x180208, 0x0, 1, 0x0, 1, .vault, none, .own,
    [⟨0, 16, .wo, (.val 0x0), []⟩]⟩,
  -- SEC_ATT (R418)
  ⟨[4], 0x180300, 0x0, 1, 0x0, 1, .vault, none, .plain,
    [⟨0, 40, .hw, .image, []⟩]⟩,
  -- SEC_TE_CTRL (R419)
  ⟨[4], 0x180408, 0x0, 1, 0x0, 1, .vault, none, .own,
    [⟨0, 4, .w1s, (.val 0x0), []⟩]⟩,
  -- SEC_TE_STATUS (R419)
  ⟨[4], 0x180410, 0x0, 1, 0x0, 1, .vault, none, .plain,
    [⟨0, 64, .hw, (.val 0x0), []⟩]⟩,
  -- SEC_TE_JOB (R419)
  ⟨[4], 0x180418, 0x0, 1, 0x0, 1, .vault, none, .plain,
    [⟨0, 28, .rw, (.val 0x0), []⟩]⟩,
  -- SEC_TE_PROG (R419)
  ⟨[4], 0x180420, 0x0, 1, 0x0, 1, .vault, none, .plain,
    [⟨0, 60, .rw, (.val 0x0), []⟩]⟩,
  -- SEC_TE_SAVE_BASE (R419)
  ⟨[4], 0x180428, 0x0, 1, 0x0, 1, .vault, none, .plain,
    [⟨0, 48, .rw, (.val 0x0), []⟩]⟩,
  -- SEC_TE_SEL (R419)
  ⟨[4], 0x180400, 0x0, 1, 0x0, 1, .vault, none, .plain,
    [⟨0, 6, .rw, (.val 0x0), []⟩]⟩]

/-- The PWR_ registers. -/
def regTabPwr : List RegDesc := [
  -- PWR_ID (R441)
  ⟨[0,1,2,3,4,5,6,7], 0x10000, 0x0, 1, 0x0, 1, .governor, none, .plain,
    [⟨0, 3, .ro, .dieNo, []⟩, ⟨8, 8, .ro, .islands, []⟩, ⟨16, 7, .ro, .dieGov, []⟩]⟩,
  -- PWR_STATUS (R441)
  ⟨[0,1,2,3,4,5,6,7], 0x10008, 0x0, 1, 0x0, 1, .governor, none, .plain,
    [⟨0, 4, .hw, (.val 0x0), []⟩, ⟨4, 1, .hw, (.val 0x0), []⟩, ⟨5, 1, .hw, (.val 0x0), []⟩, ⟨6, 1, .hw, (.val 0x0), []⟩, ⟨16, 20, .hw, .image, []⟩]⟩,
  -- PWR_BUDGET (R441)
  ⟨[0,1,2,3,4,5,6,7], 0x10010, 0x0, 1, 0x0, 1, .governor, none, .plain,
    [⟨0, 20, .hw, (.val 0x0), []⟩]⟩,
  -- PWR_FIXED_REQ (R441)
  ⟨[0,1,2,3,4,5,6,7], 0x10030, 0x0, 1, 0x0, 1, .governorOrSteward, none, .own,
    [⟨0, 8, .rw, (.val 0x0), []⟩, ⟨8, 1, .w1s, (.val 0x0), []⟩, ⟨9, 1, .hw, (.val 0x0), []⟩, ⟨10, 2, .hw, (.val 0x0), []⟩]⟩,
  -- PWR_PARK (R441)
  ⟨[0,1,2,3,4,5,6,7], 0x10038, 0x0, 1, 0x0, 1, .governorOrSteward, none, .own,
    [⟨0, 4, .rw, (.val 0x0), []⟩, ⟨4, 2, .rw, (.val 0x0), [(1, 3)]⟩, ⟨6, 1, .w1s, (.val 0x0), []⟩, ⟨7, 1, .hw, (.val 0x0), []⟩, ⟨8, 3, .hw, (.val 0x0), []⟩]⟩,
  -- PWR_PARKED (R441)
  ⟨[0,1,2,3,4,5,6,7], 0x10040, 0x0, 1, 0x0, 1, .governor, none, .plain,
    [⟨0, 16, .hw, (.val 0x0), []⟩, ⟨16, 16, .hw, (.val 0x0), []⟩]⟩,
  -- PWR_EVENTS (R441)
  ⟨[0,1,2,3,4,5,6,7], 0x10048, 0x0, 1, 0x0, 1, .governor, none, .plain,
    [⟨0, 16, .rc, (.val 0x0), []⟩, ⟨16, 16, .rc, (.val 0x0), []⟩, ⟨32, 16, .rc, (.val 0x0), []⟩, ⟨48, 16, .rc, (.val 0x0), []⟩]⟩,
  -- PWR_ENERGY (R441)
  ⟨[0,1,2,3,4,5,6,7], 0x10050, 0x0, 1, 0x0, 1, .governor, none, .plain,
    [⟨0, 64, .hw, (.val 0x0), []⟩]⟩,
  -- PWR_CAP (R442)
  ⟨[4], 0x10018, 0x0, 1, 0x0, 1, .governorOrSteward, none, .own,
    [⟨0, 9, .rw, (.val 0x0), []⟩, ⟨9, 1, .hw, (.val 0x0), []⟩, ⟨32, 20, .hw, (.val 0x0), []⟩]⟩,
  -- PWR_PKG (R442)
  ⟨[4], 0x10020, 0x0, 1, 0x0, 1, .governor, none, .plain,
    [⟨0, 20, .hw, .image, []⟩, ⟨20, 20, .rc, (.val 0x0), []⟩]⟩,
  -- PWR_SLEW (R442)
  ⟨[4], 0x10028, 0x0, 1, 0x0, 1, .governorOrSteward, none, .plain,
    [⟨0, 7, .rw, (.val 0x0), []⟩, ⟨8, 8, .hw, (.val 0x0), []⟩, ⟨16, 16, .rc, (.val 0x0), []⟩]⟩,
  -- PWR_ISL_SEL (R443)
  ⟨[0,1,2,3,4,5,6,7], 0x10100, 0x0, 1, 0x0, 1, .governor, none, .selector,
    [⟨0, 4, .rw, (.val 0x0), []⟩]⟩,
  -- PWR_ISL (R443)
  ⟨[0,1,2,3,4,5,6,7], 0x10108, 0x0, 1, 0x0, 1, .governor, some ⟨0x10100, 4⟩, .plain,
    [⟨0, 7, .hw, .level, []⟩, ⟨7, 7, .hw, .level, []⟩, ⟨14, 1, .hw, (.val 0x0), []⟩, ⟨15, 1, .hw, (.val 0x0), []⟩, ⟨16, 7, .hw, (.val 0x0), []⟩, ⟨23, 8, .hw, .image, []⟩, ⟨31, 11, .hw, .image, []⟩, ⟨42, 3, .hw, (.val 0x0), []⟩]⟩,
  -- PWR_ISL_SLIP (R443)
  ⟨[0,1,2,3,4,5,6,7], 0x10110, 0x0, 1, 0x0, 1, .governor, some ⟨0x10100, 4⟩, .plain,
    [⟨0, 32, .rc, (.val 0x0), []⟩]⟩]

/-- The GFX_ registers. -/
def regTabGfx : List RegDesc := [
  -- GFX_ID (R468)
  ⟨[5], 0x100000, 0x0, 1, 0x0, 1, .steward, none, .plain,
    [⟨0, 6, .ro, (.val 0x30), []⟩, ⟨8, 5, .ro, (.val 0x10), []⟩]⟩,
  -- GFX_STATUS (R468)
  ⟨[5], 0x100008, 0x0, 1, 0x0, 1, .steward, none, .plain,
    [⟨0, 48, .hw, (.val 0xFFFFFFFFFFFF), []⟩]⟩,
  -- GFX_POOL (R468)
  ⟨[5], 0x100010, 0x0, 1, 0x0, 1, .steward, none, .plain,
    [⟨0, 48, .ro, (.val 0x0), []⟩, ⟨48, 9, .ro, (.val 0x0), []⟩]⟩,
  -- GFX_COUNTS (R468)
  ⟨[5], 0x100018, 0x0, 1, 0x0, 1, .steward, none, .plain,
    [⟨0, 16, .rc, (.val 0x0), []⟩, ⟨16, 16, .rc, (.val 0x0), []⟩, ⟨32, 16, .rc, (.val 0x0), []⟩]⟩,
  -- GFX_CTX_SEL (R468)
  ⟨[5], 0x100100, 0x0, 1, 0x0, 1, .steward, none, .selector,
    [⟨0, 4, .rw, (.val 0x0), []⟩]⟩,
  -- GFX_CTX (R468)
  ⟨[5], 0x100108, 0x0, 1, 0x0, 1, .steward, some ⟨0x100100, 4⟩, .plain,
    [⟨0, 2, .rw, (.val 0x2), [(0, 2)]⟩, ⟨2, 6, .rw, (.val 0x0), []⟩, ⟨8, 8, .rw, (.val 0x0), []⟩, ⟨16, 3, .hw, (.val 0x0), []⟩, ⟨19, 1, .ro, .compositor, []⟩]⟩,
  -- GFX_CTX_CTRL (R468)
  ⟨[5], 0x100110, 0x0, 1, 0x0, 1, .steward, some ⟨0x100100, 4⟩, .own,
    [⟨0, 1, .w1s, (.val 0x0), []⟩, ⟨1, 1, .w1s, (.val 0x0), []⟩, ⟨2, 1, .w1s, (.val 0x0), []⟩]⟩,
  -- GFX_TT_STATUS (R468)
  ⟨[5], 0x100200, 0x0, 1, 0x0, 1, .steward, none, .plain,
    [⟨0, 32, .hw, (.val 0x0), []⟩, ⟨32, 16, .rc, (.val 0x0), []⟩]⟩,
  -- GFX_TT_BAD (R468)
  ⟨[5], 0x100208, 0x0, 1, 0x0, 1, .steward, none, .plain,
    [⟨0, 64, .hw, (.val 0x0), []⟩]⟩,
  -- GFX_TT_STATE_n (R468)
  ⟨[5], 0x100400, 0x8, 64, 0x0, 1, .telltale, none, .own,
    [⟨0, 4, .rw, (.val 0x0), []⟩, ⟨4, 1, .hw, (.val 0x0), []⟩]⟩]

/-- The DSP_ registers. -/
def regTabDsp : List RegDesc := [
  -- DSP_CFG (R469)
  ⟨[5], 0x201000, 0x100, 6, 0x0, 1, .steward, none, .plain,
    [⟨0, 1, .rw, (.val 0x0), []⟩, ⟨1, 1, .rw, (.val 0x0), []⟩, ⟨2, 2, .rw, (.val 0x0), [(0, 2)]⟩, ⟨4, 1, .ro, (.val 0x0), []⟩, ⟨8, 8, .hw, (.val 0x0), []⟩]⟩,
  -- DSP_TIMING (R469)
  ⟨[5], 0x201008, 0x100, 6, 0x0, 1, .steward, none, .plain,
    [⟨0, 12, .rw, (.val 0x0), []⟩, ⟨12, 12, .rw, (.val 0x0), []⟩, ⟨24, 12, .rw, (.val 0x0), []⟩]⟩,
  -- DSP_TIMING2 (R469)
  ⟨[5], 0x201010, 0x100, 6, 0x0, 1, .steward, none, .plain,
    [⟨0, 24, .rw, (.val 0x0), []⟩, ⟨24, 24, .rw, (.val 0x0), []⟩, ⟨48, 16, .rw, (.val 0x0), [(768, 65535)]⟩]⟩,
  -- DSP_TIMING3 (R469)
  ⟨[5], 0x201018, 0x100, 6, 0x0, 1, .steward, none, .plain,
    [⟨0, 24, .rw, (.val 0x0), []⟩, ⟨24, 24, .rw, (.val 0x0), []⟩]⟩,
  -- DSP_STATUS (R469)
  ⟨[5], 0x201020, 0x100, 6, 0x0, 1, .steward, none, .plain,
    [⟨0, 32, .hw, (.val 0x0), []⟩, ⟨32, 4, .hw, (.val 0x0), []⟩, ⟨40, 8, .hw, (.val 0x0), []⟩]⟩,
  -- DSP_LAYER_SEL (R469)
  ⟨[5], 0x201028, 0x100, 6, 0x0, 1, .steward, none, .selector,
    [⟨0, 3, .rw, (.val 0x0), [(0, 6)]⟩]⟩,
  -- DSP_LAYER (R469)
  ⟨[5], 0x201030, 0x100, 6, 0x0, 1, .steward, some ⟨0x201028, 3⟩, .plain,
    [⟨0, 1, .rw, (.val 0x0), []⟩, ⟨1, 3, .rw, (.val 0x0), [(0, 4)]⟩, ⟨4, 12, .rw, (.val 0x0), []⟩, ⟨16, 12, .rw, (.val 0x0), []⟩, ⟨28, 12, .rw, (.val 0x0), []⟩, ⟨40, 12, .rw, (.val 0x0), []⟩, ⟨52, 6, .rw, (.val 0x0), []⟩, ⟨58, 1, .rw, (.val 0x0), []⟩, ⟨59, 1, .rw, (.val 0x0), []⟩, ⟨60, 1, .rw, (.val 0x0), []⟩]⟩,
  -- DSP_LAYER_BASE (R469)
  ⟨[5], 0x201038, 0x100, 6, 0x0, 1, .steward, some ⟨0x201028, 3⟩, .plain,
    [⟨0, 48, .hw, (.val 0x0), []⟩, ⟨48, 16, .rw, (.val 0x0), []⟩]⟩,
  -- DSP_FLIP (R469)
  ⟨[5], 0x201040, 0x100, 6, 0x0, 1, .steward, some ⟨0x201028, 3⟩, .own,
    [⟨0, 48, .rw, (.val 0x0), []⟩, ⟨48, 1, .w1s, (.val 0x0), []⟩, ⟨49, 1, .rw, (.val 0x0), []⟩, ⟨50, 1, .hw, (.val 0x0), []⟩]⟩,
  -- DSP_COUNTS (R469)
  ⟨[5], 0x201048, 0x100, 6, 0x0, 1, .steward, none, .plain,
    [⟨0, 16, .rc, (.val 0x0), []⟩, ⟨16, 16, .rc, (.val 0x0), []⟩, ⟨32, 16, .rc, (.val 0x0), []⟩, ⟨48, 16, .rc, (.val 0x0), []⟩]⟩]

/-- The MED_ registers. -/
def regTabMed : List RegDesc := [
  -- MED_STATUS (R470)
  ⟨[5], 0x300000, 0x0, 1, 0x0, 1, .steward, none, .plain,
    [⟨0, 4, .hw, (.val 0x0), []⟩, ⟨4, 1, .hw, (.val 0x0), []⟩, ⟨5, 1, .hw, (.val 0x0), []⟩, ⟨6, 3, .hw, (.val 0x0), []⟩]⟩,
  -- MED_SESSION_SEL (R470)
  ⟨[5], 0x300100, 0x0, 1, 0x0, 1, .steward, none, .selector,
    [⟨0, 3, .rw, (.val 0x0), []⟩]⟩,
  -- MED_SESSION (R470)
  ⟨[5], 0x300108, 0x0, 1, 0x0, 1, .steward, some ⟨0x300100, 3⟩, .own,
    [⟨0, 3, .hw, (.val 0x0), []⟩, ⟨3, 6, .rw, (.val 0x0), []⟩, ⟨9, 1, .rw, (.val 0x0), []⟩, ⟨10, 1, .w1s, (.val 0x0), []⟩, ⟨11, 1, .w1s, (.val 0x0), []⟩, ⟨32, 32, .hw, (.val 0x0), []⟩]⟩]

/-- The GW_ registers. -/
def regTabGw : List RegDesc := [
  -- GW_ID (R504)
  ⟨[6], 0x300000, 0x0, 1, 0x0, 1, .nobody, none, .plain,
    [⟨0, 6, .ro, (.val 0x20), []⟩, ⟨8, 15, .ro, (.val 0x4000), []⟩, ⟨24, 7, .ro, (.val 0x0), []⟩]⟩,
  -- GW_STATUS (R504)
  ⟨[6], 0x300008, 0x0, 1, 0x0, 1, .nobody, none, .plain,
    [⟨0, 32, .hw, (.val 0x0), []⟩]⟩,
  -- GW_EVENTS (R504)
  ⟨[6], 0x300018, 0x0, 1, 0x0, 1, .nobody, none, .plain,
    [⟨0, 16, .rc, (.val 0x0), []⟩, ⟨16, 16, .rc, (.val 0x0), []⟩, ⟨32, 16, .rc, (.val 0x0), []⟩, ⟨48, 16, .rc, (.val 0x0), []⟩]⟩,
  -- GW_LAT (R504)
  ⟨[6], 0x300020, 0x0, 1, 0x0, 1, .nobody, none, .plain,
    [⟨0, 32, .rc, (.val 0x0), []⟩, ⟨32, 32, .hw, (.val 0x0), []⟩]⟩,
  -- GW_CTX_SEL (R505)
  ⟨[6], 0x300100, 0x0, 1, 0x0, 1, .stewardOrSentinel, none, .selector,
    [⟨0, 14, .rw, (.val 0x0), []⟩]⟩,
  -- GW_CTX (R505)
  ⟨[6], 0x300108, 0x0, 1, 0x0, 1, .stewardOrSentinel, some ⟨0x300100, 14⟩, .own,
    [⟨0, 1, .rw, (.val 0x0), []⟩, ⟨1, 1, .ro, (.val 0x0), []⟩, ⟨2, 2, .ro, (.val 0x0), []⟩, ⟨4, 6, .ro, (.val 0x0), []⟩, ⟨10, 5, .ro, (.val 0x0), []⟩, ⟨16, 3, .ro, (.val 0x0), []⟩, ⟨19, 5, .ro, (.val 0x0), []⟩, ⟨24, 16, .ro, (.val 0x0), []⟩, ⟨40, 1, .ro, (.val 0x0), []⟩, ⟨41, 12, .ro, (.val 0x0), []⟩]⟩,
  -- GW_CTX_KEY (R505)
  ⟨[6], 0x300110, 0x0, 1, 0x0, 1, .nobody, some ⟨0x300100, 14⟩, .plain,
    [⟨0, 32, .ro, (.val 0x0), []⟩, ⟨32, 8, .ro, (.val 0x0), []⟩, ⟨40, 8, .ro, (.val 0x0), []⟩, ⟨48, 1, .ro, (.val 0x0), []⟩]⟩,
  -- GW_CTX_EGRESS (R505)
  ⟨[6], 0x300118, 0x0, 1, 0x0, 1, .nobody, some ⟨0x300100, 14⟩, .plain,
    [⟨0, 2, .ro, (.val 0x0), []⟩, ⟨2, 14, .ro, (.val 0x0), []⟩, ⟨16, 1, .ro, (.val 0x0), []⟩, ⟨17, 2, .ro, (.val 0x0), []⟩, ⟨19, 11, .ro, (.val 0x0), []⟩, ⟨30, 11, .ro, (.val 0x0), []⟩, ⟨41, 11, .ro, (.val 0x0), []⟩, ⟨52, 8, .ro, (.val 0x0), []⟩]⟩,
  -- GW_CTX_COUNTS (R505)
  ⟨[6], 0x300120, 0x0, 1, 0x0, 1, .nobody, some ⟨0x300100, 14⟩, .plain,
    [⟨0, 32, .hw, (.val 0x0), []⟩, ⟨32, 16, .rc, (.val 0x0), []⟩, ⟨48, 16, .rc, (.val 0x0), []⟩]⟩,
  -- GW_SET_SEL (R506)
  ⟨[6], 0x300200, 0x0, 1, 0x0, 1, .stewardOrSentinel, none, .selector,
    [⟨0, 6, .rw, (.val 0x0), []⟩]⟩,
  -- GW_SET (R506)
  ⟨[6], 0x300208, 0x0, 1, 0x0, 1, .nobody, some ⟨0x300200, 6⟩, .plain,
    [⟨0, 1, .ro, (.val 0x0), []⟩, ⟨1, 6, .ro, (.val 0x0), []⟩, ⟨7, 1, .hw, (.val 0x0), []⟩, ⟨8, 1, .ro, (.val 0x0), []⟩, ⟨24, 10, .ro, (.val 0x0), []⟩]⟩,
  -- GW_SET_COUNTS (R506)
  ⟨[6], 0x300210, 0x0, 1, 0x0, 1, .nobody, some ⟨0x300200, 6⟩, .plain,
    [⟨0, 16, .rc, (.val 0x0), []⟩, ⟨16, 16, .rc, (.val 0x0), []⟩]⟩,
  -- GW_QSEL (R506)
  ⟨[6], 0x300300, 0x0, 1, 0x0, 1, .stewardOrSentinel, none, .selector,
    [⟨0, 12, .rw, (.val 0x0), []⟩]⟩,
  -- GW_QCFG (R506)
  ⟨[6], 0x300308, 0x0, 1, 0x0, 1, .stewardOrSentinel, some ⟨0x300300, 12⟩, .plain,
    [⟨0, 1, .rw, (.val 0x0), []⟩]⟩]

/-- The HP_ registers. -/
def regTabHp : List RegDesc := [
  -- HP_ID (R507)
  ⟨[7], 0x380000, 0x0, 1, 0x0, 1, .viWriter, none, .plain,
    [⟨0, 2, .ro, (.val 0x0), []⟩, ⟨2, 1, .ro, (.val 0x0), []⟩, ⟨8, 8, .ro, (.val 0x8), []⟩, ⟨16, 16, .ro, (.val 0xC8A), []⟩, ⟨32, 16, .ro, .image, []⟩]⟩,
  -- HP_LINK_n (R507)
  ⟨[7], 0x380008, 0x8, 2, 0x0, 1, .viWriter, none, .plain,
    [⟨0, 4, .hw, (.val 0x0), []⟩, ⟨4, 3, .hw, (.val 0x0), []⟩, ⟨7, 4, .hw, (.val 0x0), []⟩, ⟨11, 1, .hw, (.val 0x0), []⟩, ⟨12, 1, .hw, (.val 0x0), []⟩, ⟨16, 16, .rc, (.val 0x0), []⟩, ⟨32, 16, .rc, (.val 0x0), []⟩]⟩,
  -- HP_CFG (R507)
  ⟨[7], 0x380018, 0x0, 1, 0x0, 1, .viWriter, none, .plain,
    [⟨0, 1, .rw, (.val 0x1), []⟩, ⟨1, 1, .rw, (.val 0x0), []⟩, ⟨2, 3, .rw, (.val 0x5), [(1, 5)]⟩]⟩,
  -- HP_OUT_OFFSET (R507)
  ⟨[7], 0x380020, 0x0, 1, 0x0, 1, .viWriter, none, .plain,
    [⟨12, 52, .rw, (.val 0x0), []⟩]⟩,
  -- HP_FENCE (R507)
  ⟨[7], 0x380080, 0x0, 1, 0x0, 1, .viWriter, none, .plain,
    [⟨0, 1, .rc, (.val 0x1), []⟩, ⟨16, 16, .rc, (.val 0x0), []⟩, ⟨32, 32, .rc, (.val 0x0), []⟩]⟩,
  -- HP_LOCK (R507)
  ⟨[7], 0x380088, 0x0, 1, 0x0, 1, .viWriter, none, .plain,
    [⟨0, 7, .hw, (.val 0x0), []⟩, ⟨8, 16, .rc, (.val 0x0), []⟩, ⟨24, 16, .rc, (.val 0x0), []⟩, ⟨40, 16, .rc, (.val 0x0), []⟩]⟩,
  -- HP_EVENTS (R507)
  ⟨[7], 0x380090, 0x0, 1, 0x0, 1, .viWriter, none, .plain,
    [⟨0, 16, .rc, (.val 0x0), []⟩, ⟨16, 16, .rc, (.val 0x0), []⟩, ⟨32, 16, .rc, (.val 0x0), []⟩]⟩,
  -- HP_PFLOG_SEL (R508)
  ⟨[7], 0x380100, 0x0, 1, 0x0, 1, .viWriter, none, .selector,
    [⟨0, 6, .rw, (.val 0x0), []⟩]⟩,
  -- HP_PFLOG_BASE (R508)
  ⟨[7], 0x380108, 0x0, 1, 0x0, 1, .viWriter, some ⟨0x380100, 6⟩, .plain,
    [⟨0, 48, .rw, (.val 0x0), []⟩, ⟨48, 4, .rw, (.val 0x0), [(4, 12)]⟩]⟩,
  -- HP_PFLOG_PTR (R508)
  ⟨[7], 0x380110, 0x0, 1, 0x0, 1, .pflogTail, some ⟨0x380100, 6⟩, .plain,
    [⟨0, 12, .hw, (.val 0x0), []⟩, ⟨16, 12, .rw, (.val 0x0), []⟩, ⟨32, 11, .rw, (.val 0x0), []⟩, ⟨43, 1, .rw, (.val 0x0), []⟩, ⟨48, 16, .rc, (.val 0x0), []⟩]⟩]

/-- The NET_ registers. -/
def regTabNet : List RegDesc := [
  -- NET_PORT_SEL (R527)
  ⟨[6,7], 0x100100, 0x0, 1, 0x0, 1, .steward, none, .selector,
    [⟨0, 3, .rw, (.val 0x0), []⟩]⟩,
  -- NET_PORT_CFG (R527)
  ⟨[6,7], 0x100108, 0x0, 1, 0x0, 1, .nobody, some ⟨0x100100, 3⟩, .plain,
    [⟨0, 1, .ro, (.val 0x0), []⟩, ⟨1, 3, .ro, (.val 0x0), []⟩, ⟨4, 1, .ro, (.val 0x0), []⟩, ⟨5, 1, .ro, (.val 0x0), []⟩, ⟨32, 32, .ro, (.val 0x0), []⟩]⟩,
  -- NET_PORT_COUNTS (R527)
  ⟨[6,7], 0x100110, 0x0, 1, 0x0, 1, .nobody, some ⟨0x100100, 3⟩, .plain,
    [⟨0, 1, .hw, (.val 0x0), []⟩, ⟨1, 15, .rc, (.val 0x0), []⟩, ⟨16, 16, .rc, (.val 0x0), []⟩, ⟨32, 16, .rc, (.val 0x0), []⟩, ⟨48, 16, .rc, (.val 0x0), []⟩]⟩,
  -- NET_GCL (R527)
  ⟨[6,7], 0x100118, 0x0, 1, 0x0, 1, .steward, some ⟨0x100100, 3⟩, .own,
    [⟨0, 48, .rw, (.val 0x0), []⟩, ⟨48, 1, .w1s, (.val 0x0), []⟩, ⟨49, 1, .hw, (.val 0x0), []⟩]⟩,
  -- NET_FLOW_SEL (R527)
  ⟨[6], 0x100200, 0x0, 1, 0x0, 1, .steward, none, .selector,
    [⟨0, 16, .rw, (.val 0x0), []⟩]⟩,
  -- NET_FLOW (R527)
  ⟨[6], 0x100208, 0x0, 1, 0x0, 1, .steward, some ⟨0x100200, 16⟩, .plain,
    [⟨0, 1, .rw, (.val 0x0), []⟩, ⟨1, 1, .ro, (.val 0x0), []⟩, ⟨2, 3, .ro, (.val 0x0), []⟩, ⟨5, 5, .ro, (.val 0x0), []⟩, ⟨10, 3, .ro, (.val 0x0), []⟩, ⟨13, 16, .ro, (.val 0x0), []⟩, ⟨29, 6, .ro, (.val 0x0), []⟩, ⟨35, 1, .ro, (.val 0x0), []⟩, ⟨36, 14, .ro, (.val 0x0), []⟩]⟩,
  -- NET_FLOW_KEY (R527)
  ⟨[6], 0x100210, 0x0, 1, 0x0, 1, .nobody, some ⟨0x100200, 16⟩, .plain,
    [⟨0, 64, .ro, (.val 0x0), []⟩]⟩,
  -- NET_QSEL (R527)
  ⟨[6], 0x100300, 0x0, 1, 0x0, 1, .steward, none, .selector,
    [⟨0, 14, .rw, (.val 0x0), []⟩]⟩,
  -- NET_QCFG (R527)
  ⟨[6], 0x100308, 0x0, 1, 0x0, 1, .steward, some ⟨0x100300, 14⟩, .plain,
    [⟨0, 1, .rw, (.val 0x0), []⟩]⟩]

/-- The TIM_ registers. -/
def regTabTim : List RegDesc := [
  -- TIM_NOW_A (R528)
  ⟨[4], 0x400000, 0x0, 1, 0x0, 1, .nobody, none, .plain,
    [⟨0, 64, .hw, (.val 0x0), []⟩]⟩,
  -- TIM_NOW_B (R528)
  ⟨[4], 0x400008, 0x0, 1, 0x0, 1, .nobody, none, .plain,
    [⟨0, 32, .hw, (.val 0x0), []⟩]⟩,
  -- TIM_COUNTER (R528)
  ⟨[4], 0x400010, 0x0, 1, 0x0, 1, .nobody, none, .plain,
    [⟨0, 64, .hw, (.val 0x0), []⟩]⟩,
  -- TIM_RATE (R528)
  ⟨[4], 0x400018, 0x0, 1, 0x0, 1, .nobody, none, .plain,
    [⟨0, 40, .hw, (.val 0x0), []⟩, ⟨40, 2, .hw, (.val 0x0), []⟩, ⟨42, 1, .hw, (.val 0x0), []⟩, ⟨43, 1, .hw, (.val 0x0), []⟩]⟩,
  -- TIM_DOM_SEL (R528)
  ⟨[4], 0x400100, 0x0, 1, 0x0, 1, .steward, none, .selector,
    [⟨0, 2, .rw, (.val 0x0), []⟩]⟩,
  -- TIM_DOM (R528)
  ⟨[4], 0x400108, 0x0, 1, 0x0, 1, .steward, some ⟨0x400100, 2⟩, .plain,
    [⟨0, 1, .rw, (.val 0x0), []⟩, ⟨1, 7, .ro, (.val 0x0), []⟩, ⟨8, 2, .ro, (.val 0x0), []⟩, ⟨10, 2, .hw, (.val 0x0), []⟩, ⟨16, 24, .ro, (.val 0x0), []⟩]⟩,
  -- TIM_DOM_EST (R528)
  ⟨[4], 0x400110, 0x0, 1, 0x0, 1, .nobody, some ⟨0x400100, 2⟩, .plain,
    [⟨0, 32, .hw, (.val 0x0), []⟩, ⟨32, 32, .hw, (.val 0x0), []⟩]⟩]

/-- The ULK_ registers. -/
def regTabUlk : List RegDesc := [
  -- ULK_LANE_SEL (R529)
  ⟨[6,7], 0x200100, 0x0, 1, 0x0, 1, .steward, none, .selector,
    [⟨0, 5, .rw, (.val 0x0), [(0, 21)]⟩]⟩,
  -- ULK_LANE (R529)
  ⟨[6,7], 0x200108, 0x0, 1, 0x0, 1, .steward, some ⟨0x200100, 5⟩, .plain,
    [⟨0, 1, .rw, (.val 0x0), []⟩, ⟨1, 3, .hw, (.val 0x0), []⟩]⟩,
  -- ULK_LANE_COUNTS (R529)
  ⟨[6,7], 0x200110, 0x0, 1, 0x0, 1, .nobody, some ⟨0x200100, 5⟩, .plain,
    [⟨0, 16, .rc, (.val 0x0), []⟩, ⟨16, 16, .rc, (.val 0x0), []⟩, ⟨32, 16, .rc, (.val 0x0), []⟩, ⟨48, 16, .hw, (.val 0x0), []⟩]⟩]

/-- The ERR_ registers. -/
def regTabErr : List RegDesc := [
  -- ERR_ID (R564)
  ⟨[4], 0x3C0000, 0x0, 1, 0x0, 1, .nobody, none, .plain,
    [⟨0, 9, .ro, (.val 0x100), []⟩, ⟨16, 8, .ro, (.val 0x1), []⟩]⟩,
  -- ERR_RING (R564)
  ⟨[4], 0x3C0008, 0x0, 1, 0x0, 1, .nobody, none, .plain,
    [⟨0, 9, .hw, (.val 0x0), []⟩, ⟨16, 9, .hw, (.val 0x0), []⟩]⟩,
  -- ERR_STATUS (R564)
  ⟨[4], 0x3C0010, 0x0, 1, 0x0, 1, .sentinel, none, .plain,
    [⟨0, 9, .hw, (.val 0x0), []⟩, ⟨9, 1, .hw, (.val 0x0), []⟩, ⟨10, 3, .hw, (.val 0x7), []⟩, ⟨13, 1, .w1c, (.val 0x0), []⟩, ⟨14, 1, .hw, (.val 0x0), []⟩]⟩,
  -- ERR_NEXT (R564)
  ⟨[4], 0x3C0018, 0x0, 1, 0x0, 1, .nobody, none, .plain,
    [⟨0, 8, .rc, (.val 0x0), []⟩, ⟨8, 1, .rc, (.val 0x0), []⟩, ⟨32, 32, .rc, (.val 0x0), []⟩]⟩,
  -- ERR_DONE (R564)
  ⟨[4], 0x3C0020, 0x0, 1, 0x0, 1, .sentinel, none, .own,
    [⟨0, 8, .wo, (.val 0x0), []⟩]⟩,
  -- ERR_COUNTS_A (R564)
  ⟨[4], 0x3C0028, 0x0, 1, 0x0, 1, .nobody, none, .plain,
    [⟨0, 16, .rc, (.val 0x0), []⟩, ⟨16, 16, .rc, (.val 0x0), []⟩, ⟨32, 16, .rc, (.val 0x0), []⟩, ⟨48, 16, .rc, (.val 0x0), []⟩]⟩,
  -- ERR_COUNTS_B (R564)
  ⟨[4], 0x3C0030, 0x0, 1, 0x0, 1, .nobody, none, .plain,
    [⟨0, 16, .rc, (.val 0x0), []⟩, ⟨16, 16, .rc, (.val 0x0), []⟩, ⟨32, 16, .rc, (.val 0x0), []⟩, ⟨48, 16, .rc, (.val 0x0), []⟩]⟩,
  -- ERR_NOTIFY (R564)
  ⟨[4], 0x3C0038, 0x0, 1, 0x0, 1, .steward, none, .plain,
    [⟨0, 3, .rw, (.val 0x2), [(0, 4)]⟩, ⟨3, 1, .rw, (.val 0x0), []⟩, ⟨4, 11, .rw, (.val 0x0), []⟩, ⟨16, 36, .rw, (.val 0x0), []⟩]⟩,
  -- ERR_INJECT (R564)
  ⟨[4], 0x3C0040, 0x0, 1, 0x0, 1, .sentinel, none, .own,
    [⟨0, 16, .wo, (.val 0x0), []⟩, ⟨16, 3, .wo, (.val 0x0), [(0, 3)]⟩]⟩,
  -- ERR_HLOG (R564)
  ⟨[4], 0x3C0048, 0x0, 1, 0x0, 1, .nobody, none, .plain,
    [⟨0, 32, .hw, (.val 0x0), []⟩, ⟨32, 16, .rc, (.val 0x0), []⟩]⟩]

/-- The FAB_ registers. -/
def regTabFab : List RegDesc := [
  -- FAB_ID (R566)
  ⟨[0,1,2,3,4,5,6,7], 0x0, 0x0, 1, 0x0, 1, .nobody, none, .plain,
    [⟨0, 3, .ro, .dieNo, []⟩]⟩,
  -- FAB_PORT_n (R566)
  ⟨[0,1,2,3,4,5,6,7], 0x8, 0x8, 4, 0x0, 1, .nobody, none, .plain,
    [⟨0, 3, .ro, .peer, []⟩, ⟨3, 1, .hw, (.val 0x1), []⟩, ⟨16, 16, .rc, (.val 0x0), []⟩, ⟨32, 32, .hw, (.val 0x0), []⟩]⟩,
  -- FAB_COUNTS (R566)
  ⟨[0,1,2,3,4,5,6,7], 0x28, 0x0, 1, 0x0, 1, .nobody, none, .plain,
    [⟨0, 16, .rc, (.val 0x0), []⟩, ⟨16, 16, .rc, (.val 0x0), []⟩]⟩]

/-- Every register of the spec. -/
def regTab : List RegDesc :=
  regTabCfg ++ regTabTe ++ regTabSpm ++ regTabSe ++ regTabMem ++ regTabCg ++ regTabSch ++ regTabSchd ++ regTabIpp ++ regTabSaf ++ regTabGft ++ regTabChu ++ regTabSsc ++ regTabTsq ++ regTabVi ++ regTabSec ++ regTabPwr ++ regTabGfx ++ regTabDsp ++ regTabMed ++ regTabGw ++ regTabHp ++ regTabNet ++ regTabTim ++ regTabUlk ++ regTabErr ++ regTabFab

end Sys2Proof.Machine
end

