-- ==== Sys2Proof/Machine/State.lean ====
section
/-! DEFINITION. The state of the block. -/

namespace Sys2Proof.Machine

/-- The state of the CV8. -/
structure State where
  regs : Store Word := []
  halves : Store (Nat × Nat) := []
  mem : List Host.Cell := []
  resp : Resp := {}
  sent : List Sent := []
  freeCtr : Nat := 0
  periods : Nat := 0
  devFine : Nat := 0
  err : ErrUnit := {}
  flash : FlashState := {}
  boot : BootState := {}
  fw : FwState := {}
  poisonWords : Store Unit := []
  poisonLines : Store Unit := []
  softWords : Store Unit := []
  softLines : Store Unit := []
  hardWords : Store Unit := []
  hardLines : Store Unit := []
  secureLines : Store Unit := []
  opens : Store OpenGranule := []
  sched : SchedState := {}
  gft : Store GftEngine := []
  safety : SafetyState := {}
  pairs : Store PairState := []
  rings : Store RingState := []
  cache : CacheState := {}
  moves : Store (Nat × Nat) := []
  power : PowerState := {}
  vis : ViManager := {}
  bridge : BridgeState := {}
  engines : Store Engine := []
  signals : List Flight := []
  saves : Store SavedControl := []
  ipp : IppState := {}
  net : NetState := {}
  tahr : TahrState := {}
  gateway : GatewayState := {}
  display : DisplayState := {}
  pending : List Instr := []
deriving DecidableEq, Repr

/-- Why a command stops the machine. No command of the spec stops it. -/
inductive Fault where
  /-- Raised by nobody: no meaning answers a fault (safe). -/
  | none
deriving DecidableEq, Repr

/-- Why a command is refused. -/
inductive Refusal where
  /-- Raised by an arm of `exec` whose meaning is not written yet (safe: the machine stops). -/
  | notModelled (mnemonic : String)
deriving DecidableEq, Repr

/-- The state after reset. -/
def State.reset : State := {}

end Sys2Proof.Machine
end

