-- ==== Sys2Proof/Machine/Ops.lean ====
section
/-! DEFINITION. The named operations over registers, time and error records that every family shares. -/

namespace Sys2Proof.Machine

/-! ### Registers (R4 to R8) -/

/-- The address of the first register of a die's register window (R5). -/
def regBase (die : Nat) : Nat := 0x8000000000 + die * 0x1000000

/-- The distance between the copies of a register that a selector points at one of several units. -/
def bankStride : Nat := 0x1000000000000

/-- Where an instance of a field's register stands: die, instance, and selected unit. -/
def fldAddr (f : Fld) (die idx unit : Nat) : Nat :=
  regBase die + f.off + idx * f.stride + unit * bankStride

/-- The number of the instance at offset off of a die's window, where the row describes that offset. -/
def descIndex (d : RegDesc) (off : Nat) : Option (Nat × Nat) :=
  if off < d.off then none
  else
    let rel := off - d.off
    let i := if d.stride = 0 then 0 else rel / d.stride
    let rest := if d.stride = 0 then rel else rel % d.stride
    let j := if d.stride2 = 0 then 0 else rest / d.stride2
    let last := if d.stride2 = 0 then rest else rest % d.stride2
    if i < d.count && j < d.count2 && last == 0 then some (i, j) else none

/-- The row of the register at an offset of a die's window. -/
def findDesc (die off : Nat) : Option RegDesc :=
  regTab.find? (fun d => d.dies.contains die && (descIndex d off).isSome)

/-- The die whose register window holds an address, and the offset within the window. -/
def regPlace (addr : Nat) : Option (Nat × Nat) :=
  if regBase 0 ≤ addr ∧ addr < regBase 8 then
    some ((addr - regBase 0) / 0x1000000, (addr - regBase 0) % 0x1000000)
  else none

/-- The die at the other end of port p of die d (R12). -/
def fabPeer (d p : Nat) : Nat :=
  (([[0x1, 0x3, 0x4, 0x6], [0x0, 0x2, 0x5, 0x7], [0x1, 0x3, 0x4, 0x7], [0x2, 0x0, 0x5, 0x6], [0x0, 0x2, 0x6, 0x7],
     [0x1, 0x3, 0x6, 0x7], [0x4, 0x5, 0x0, 0x3], [0x4, 0x5, 0x1, 0x2]] : List (List Nat))[d]?.getD [])[p]?.getD 8

/-- The numbered islands of a die (R422). -/
def islandCount (die : Nat) : Nat := if die < 4 then 9 else if die = 4 then 7 else if die = 5 then 10 else 2

/-- The set-point range of an island on a cap lever, in units of 10 mV (R422). -/
def islandRange (d i : Nat) : Option (Nat × Nat) :=
  if d < 4 ∧ i < 8 then some (55, 85)
  else if d = 4 ∧ i < 6 then some (60, 90)
  else if d = 5 ∧ 1 ≤ i ∧ i ≤ 7 then some (60, 85)
  else none

/-- A set point or a level of an island after load: the unit's, inside the island's range; 0.75 V on a fixed island
(R341, R422). -/
def levelAfterLoad (die island addr lo : Nat) : Nat :=
  match islandRange die island with
  | some (a, b) => a + Config.unitField addr lo % (b - a + 1)
  | none => if island < islandCount die then 75 else Config.unitField addr lo

/-- What a field holds after load. -/
def fieldAfterLoad (die off addr : Nat) (f : FieldDesc) : Nat :=
  match f.after with
  | .val n => n
  | .image => Config.unitField addr f.lo
  | .dieNo => die
  | .oDie => die - 6
  | .dieGov => 64 + die
  | .peer => fabPeer die ((off - 8) / 8)
  | .islands => islandCount die
  | .compositor => if addr < bankStride then 1 else 0
  | .level => levelAfterLoad die (addr / bankStride) addr f.lo
  | .stackNo => 2 * die + (off % 0x10000) / 0x100
  | .teId =>
    let e := (off - 0x100000) / 0x10000
    if f.lo = 0 then die * 16 + e else if f.lo = 8 then die else if f.lo = 11 then e / 2 else e % 2

/-- What a register holds after load. -/
def wordAfterLoad (addr : Nat) : Nat :=
  let plain := addr % bankStride
  match regPlace plain with
  | none => 0
  | some (die, off) =>
    match findDesc die off with
    | none => 0
    | some d => d.fields.foldl (fun n f => setBits n f.lo f.w (fieldAfterLoad die off addr f)) 0

/-- The value of the register at an address: what was last put there, else its after-load value once the image is
applied, else zero (R8). -/
def State.reg (s : State) (addr : Nat) : Nat :=
  match storeFind s.regs addr with
  | some w => w.toNat
  | none => if s.boot.loaded then wordAfterLoad addr % 2 ^ 64 else 0

/-- The register at an address set to a value. -/
def State.setReg (s : State) (addr v : Nat) : State :=
  { s with regs := storePut s.regs addr (BitVec.ofNat 64 v) }

/-- A field of the value of its register. -/
def Fld.of (f : Fld) (v : Nat) : Nat := bits v f.lo f.w

/-- A field of a register of a die: instance idx, selected unit. -/
def State.fget (s : State) (f : Fld) (die idx unit : Nat) : Nat :=
  bits (s.reg (fldAddr f die idx unit)) f.lo f.w

/-- A field of a register set to the low bits of v; the register's other bits stay. -/
def State.fset (s : State) (f : Fld) (die idx unit v : Nat) : State :=
  let a := fldAddr f die idx unit
  s.setReg a (setBits (s.reg a) f.lo f.w v)

/-- A counter field stepped by n, stopping at its largest value. -/
def State.fadd (s : State) (f : Fld) (die idx unit n : Nat) : State :=
  s.fset f die idx unit (satAdd (s.fget f die idx unit) n f.w)

/-- A counter field stepped by n, wrapping. -/
def State.fwrap (s : State) (f : Fld) (die idx unit n : Nat) : State :=
  s.fset f die idx unit (s.fget f die idx unit + n)

/-- Whether a one-bit field is set. -/
def State.fon (s : State) (f : Fld) (die idx unit : Nat) : Bool :=
  s.fget f die idx unit == 1

/-! ### Time (R53) -/

/-- Whole microseconds of the 38.4 MHz time counter. -/
def State.nowUs (s : State) : Nat := s.periods * 5 / 192

/-- Whole milliseconds of the time counter. -/
def State.nowMs (s : State) : Nat := s.periods / 38400

/-! ### Frozen islands (R41) -/

/-- Whether an island is frozen since a lost margin (R41). -/
def State.islandFrozen (s : State) (d i : Nat) : Bool := s.power.frozen.contains (d * 16 + i)

/-- The island of a die's logic (R422): on G the one of the fixed function and the display pipes. -/
def logicIsland (d : Nat) : Nat := if d < 4 ∨ d = 5 then 8 else if d = 4 then 6 else 0

/-- Whether the logic of a die is frozen: what it holds completes no step (R41). -/
def State.logicFrozen (s : State) (d : Nat) : Bool := s.islandFrozen d (logicIsland d)

/-! ### Tahr sequencers -/

def State.tahrSeq (s : State) (n : Nat) : TahrSeq := storeGet {} s.tahr.seqs n

def State.setTahrSeq (s : State) (n : Nat) (x : TahrSeq) : State :=
  { s with tahr := { s.tahr with seqs := storePut s.tahr.seqs n x } }

/-- An edge of a sequencer's site events is set (R353). -/
def State.seqEvent (s : State) (n event : Nat) : State :=
  s.setTahrSeq n { s.tahrSeq n with events := setBit (s.tahrSeq n).events event true }

/-! ### Free values -/

/-- A value that the spec leaves open, of w bits, and the state with the model's counter of such values moved on. -/
def State.fresh (s : State) (w : Nat) : Nat × State :=
  (Config.freeValue s.freeCtr % 2 ^ w, { s with freeCtr := s.freeCtr + 1 })

end Sys2Proof.Machine
end

