-- ==== Sys2Proof/Machine/Report.lean ====
section
/-! DEFINITION. Device time, initiator identities, and how a block raises an error record (R518, R554 to R557). -/

namespace Sys2Proof.Machine

/-- The parts of 1/65 536 ns that device time has counted (R518). -/
def State.timeParts (s : State) : Nat := s.devFine / 3000000000000

/-- Device time as its 96-bit code: seconds, nanoseconds, 1/65 536 ns (R518). -/
def timeCode (parts : Nat) : Nat :=
  let ns := parts / 65536
  ns / 1000000000 * 2 ^ 48 + ns % 1000000000 * 2 ^ 16 + parts % 65536

/-- The parts of 1/65 536 ns that a 96-bit code of device time stands for. -/
def timeOfCode (c : Nat) : Nat :=
  (c / 2 ^ 48 * 1000000000 + c / 2 ^ 16 % 2 ^ 32) * 65536 + c % 65536

/-- The steps of 1/3 × 10^−12 parts of 1/65 536 ns by which device time advances in an oscillator period: 26.041 6… ns
times 1 + rate, with the rate of TIM_RATE in parts per 10^12 (R518). -/
def fineStep (rate : Int) : Nat := (5120000 * (1000000000000 + rate)).toNat

/-- One period of the 38.4 MHz oscillator: the time counter and device time advance (R53, R518). -/
def State.tick (s : State) : State :=
  { s with periods := s.periods + 1, devFine := s.devFine + fineStep (signed (s.fget F.timRate_rate 4 0 0) 40) }

/-- Device time in its 96-bit code. -/
def State.deviceTime (s : State) : Nat := timeCode s.timeParts % 2 ^ 96

/-- The instance an engine's job belongs to (R150). -/
def State.engineVi (s : State) (te : Nat) : Nat := s.fget F.teJob_vi (te / 16) (te % 16) 0

/-- The instance a ring serves: that of its bound job context (R173, R253). -/
def State.ringVi (s : State) (n : Nat) : Nat :=
  s.fget F.schJctx_vi 4 0 (s.fget F.seRingBase_job_ctx (n / 16) (n % 16 / 4 * 0x800 + n % 4) 0)

/-- The instance a requester ID belongs to in ROOT mode (R366). -/
def State.ridVi (s : State) (rid : Nat) : Option Nat :=
  ((List.range 64).find? (fun n =>
    s.fon F.viRidMapN_valid 4 n 0 && s.fget F.viRidMapN_rid 4 n 0 == rid)).map
    (fun n => s.fget F.viRidMapN_vi 4 n 0)

/-- The host port's mode (R32): 0 DISABLED, 1 ROOT, 2 ENDPOINT. -/
def State.hostMode (s : State) : Nat := s.fget F.cfgCapsIo_host_mode 4 0 0

/-- Whether an initiator is one of the steward's: an application core with guest tag 63. -/
def Initiator.isSteward : Initiator → Bool
  | .core _ g => g == 63
  | _ => false

/-- Whether an initiator is a vault core. -/
def Initiator.isVault : Initiator → Bool
  | .vault _ _ => true
  | _ => false

/-- The kind and index of an initiator's identity (R555). -/
def Initiator.kindIndex : Initiator → Nat × Nat
  | .hardware => (0, 0)
  | .core h _ => (1, h)
  | .control d => (2, d)
  | .sentinel p => (3, p)
  | .vault c _ => (4, c)
  | .engine n => if n < 64 then (5, n) else (0, 0)
  | .ring n => (6, n)
  | .dma q => (7, q)
  | .hostFn k => (8, k)
  | .requester r => (8, r)
  | .recovery => (8, 0)
  | .ipp n => (9, n)
  | .graphics c => (10, c)
  | .tahr n => (11, n)
  | .loader => (12, 0)
  | .debug => (13, 0)
  | .governor d => (11, 64 + d)
  | .fallbackPath _ => (0, 0)
  | .chamois => (0, 0)
  | .service _ => (0, 0)

/-- The initiator identity of R555 as its 32 bits. -/
def initiatorCode (who : Initiator) (vi : Nat) (secure : Bool) : Nat :=
  let ki := who.kindIndex
  ki.1 % 256 + ki.2 % 65536 * 2 ^ 8 + vi % 64 * 2 ^ 24 + secure.toNat * 2 ^ 30

/-- Raises a primary record: the source stamps its time, and it goes on its way to the collector (R554, R557). -/
def State.raiseRec (s : State) (r : ErrRec) : State :=
  { s with err := { s.err with
      inFlight := s.err.inFlight ++ [{ r with time := s.deviceTime, event := s.err.nextEvent }]
      current := s.err.nextEvent
      nextEvent := s.err.nextEvent + 1 } }

/-- Raises the primary record of something else that an event brings about: follow-on records stay with the event
under way. -/
def State.raiseSide (s : State) (r : ErrRec) : State :=
  { s with err := { s.err with
      inFlight := s.err.inFlight ++ [{ r with time := s.deviceTime, event := s.err.nextEvent }]
      nextEvent := s.err.nextEvent + 1 } }

/-- Raises a follow-on record of the primary of the event under way (R557). -/
def State.raiseFollow (s : State) (r : ErrRec) : State :=
  { s with err := { s.err with
      inFlight := s.err.inFlight ++ [{ r with time := s.deviceTime, event := s.err.current, follow := true }] } }

/-- Opens an event that writes no primary record. -/
def State.newEvent (s : State) : State :=
  { s with err := { s.err with current := s.err.nextEvent, nextEvent := s.err.nextEvent + 1 } }

/-- A record of a code at its table's severity, by a block and a unit of a die. -/
def recOf (c : ErrCode) (die block unit : Nat) : ErrRec :=
  { code := c.code, sev := c.sev, die, block, unit }

/-- The record of an access that a block refused: it names the initiator and the address (R24). -/
def recAccess (c : ErrCode) (die block : Nat) (who : Initiator) (vi : Option Nat) (secure : Bool) (addr : Nat) :
    ErrRec :=
  { code := c.code, sev := c.sev, die, block, vi, addr := some addr,
    initiator := initiatorCode who (vi.getD 0) secure }

/-- The detail of the records of chapter 6: the die, the cluster or stream engine, and the ring or controller
(R192). -/
def unitDetail (die unit sub : Nat) : Nat := die + unit * 2 ^ 8 + sub * 2 ^ 16

/-- The detail of the gate's records: the buffer, the granule entry and the job context (R225). -/
def gateDetail (buffer entry job : Nat) : Nat := buffer + entry * 2 ^ 16 + job * 2 ^ 32

/-- Severity S3 when the condition holds, else S2: the records whose table gives both. -/
def ErrCode.s3If (c : ErrCode) (b : Bool) : ErrCode := ⟨c.code, if b then 3 else c.sev⟩

/-- Adds an output of the device. -/
def State.send (s : State) (m : Sent) : State := { s with sent := s.sent ++ [m] }

/-- The answer to the initiator of the current access. -/
def State.answer (s : State) (value : Nat) : State := { s with resp := { value } }

/-- A write was accepted. -/
def State.answerOk (s : State) : State := { s with resp := {} }

/-- An error response to the initiator of the current access: zero data (R24). -/
def State.answerError (s : State) : State := { s with resp := { error := true } }

end Sys2Proof.Machine
end

