-- ==== Sys2Proof/Machine/Memory.lean ====
section
/-! DEFINITION. The bytes of the physical address space, without any check: the map of R23 and R25, reads and
writes of bytes, and the error state of the words and lines that hold them (R160, R176). -/

namespace Sys2Proof.Machine

/-- The parts of the physical address map (R23). -/
inductive Place where
  | lpddr
  | scratchpad (die cluster : Nat)
  | chamois
  | flash
  | registers
  | outbound
  | reserved
deriving DecidableEq, Repr

/-- Where an address lies in the map of R23. -/
def placeOf (addr : Nat) : Place :=
  if addr < 0x2000000000 then .lpddr
  else if 0x4000000000 ≤ addr ∧ addr < 0x4040000000 then
    let off := (addr - 0x4000000000) % 0x10000000
    if off < 0x8000000 then .scratchpad ((addr - 0x4000000000) / 0x10000000) (off / 0x1000000) else .reserved
  else if 0x4040000000 ≤ addr ∧ addr < 0x4041000000 then .chamois
  else if 0x6000000000 ≤ addr ∧ addr < 0x6080000000 then .flash
  else if 0x8000000000 ≤ addr ∧ addr < 0x8008000000 then .registers
  else if 0x100000000000 ≤ addr ∧ addr < 0x200000000000 then .outbound
  else .reserved

/-- The first address of a cluster's scratchpad (R23). -/
def spmBase (die cluster : Nat) : Nat := 0x4000000000 + die * 0x10000000 + cluster * 0x1000000

/-- Whether a stack is trained and usable (R26). -/
def State.stackUp (s : State) (n : Nat) : Bool := s.boot.memTrained && bit s.boot.stackMask n

/-- Whether the interleaved mapping is in force (R25, R26). -/
def State.interleaved (s : State) : Bool := s.fon F.cfgCapsCounts_interleave_active 4 0 0

/-- The stack and the offset within it of an LPDDR6 address (R25). -/
def stackOf (interleaved : Bool) (addr : Nat) : Nat × Nat :=
  if interleaved then (addr / 0x1000 % 8, addr / 0x8000 % 2 ^ 22 * 0x1000 + addr % 0x1000)
  else (addr / 2 ^ 34 % 8, addr % 2 ^ 34)

/-- The byte at an address; a byte that nothing has written reads as zero. -/
def State.byteAt (s : State) (a : Nat) : Byte := storeGet 0 s.mem a

/-- The canonical form of a memory: addresses rise strictly, and no zero byte is listed. -/
def Memory.wf (m : List Host.Cell) : Bool := storeRises m && m.all (fun c => c.2 != 0)

/-- The memory with one byte changed: a zero byte is not listed. -/
def putByte (m : List Host.Cell) (a : Nat) (b : Byte) : List Host.Cell :=
  if b = 0 then storeDrop m a else storePut m a b

/-- The memory with a list of bytes written from an address on. -/
def putBytes (m : List Host.Cell) (a : Nat) : List Byte → List Host.Cell
  | [] => m
  | b :: bs => putBytes (putByte m a b) (a + 1) bs

/-- Bytes of a pixel in a format of R455: of a render target, and of the first plane of a layer. -/
def fmtBytes : Nat → Nat
  | 2 => 1
  | 3 => 2
  | 4 => 8
  | _ => 4

/-- The bytes [a, a + n). -/
def State.bytesAt (s : State) (a : Nat) : Nat → List Byte
  | 0 => []
  | n + 1 => s.byteAt a :: s.bytesAt (a + 1) n

/-- The little-endian number of n bytes at an address. -/
def State.numAt (s : State) (a n : Nat) : Nat := leNat (s.bytesAt a n)

/-- The state with bytes written. -/
def State.putAt (s : State) (a : Nat) (bs : List Byte) : State := { s with mem := putBytes s.mem a bs }

/-- The state with the n-byte little-endian number v written. -/
def State.putNum (s : State) (a n v : Nat) : State := s.putAt a (leBytes v n)

/-- The state with [a, a + n) zero, its error marks gone and its line tags normal: a scrub (R158, R396). -/
def State.scrub (s : State) (a n : Nat) : State :=
  { s with
    mem := storeDropRange s.mem a n
    poisonWords := storeDropRange s.poisonWords (a / 8) (n / 8)
    softWords := storeDropRange s.softWords (a / 8) (n / 8)
    hardWords := storeDropRange s.hardWords (a / 8) (n / 8)
    poisonLines := storeDropRange s.poisonLines (a / 64) (n / 64)
    softLines := storeDropRange s.softLines (a / 64) (n / 64)
    hardLines := storeDropRange s.hardLines (a / 64) (n / 64)
    secureLines := storeDropRange s.secureLines (a / 64) (n / 64)
    flash := { s.flash with unreadable := storeDropRange s.flash.unreadable (a / 64) (n / 64) } }

/-- n bytes copied from one address to another. -/
def State.copyBytes (s : State) (src dst n : Nat) : State := s.putAt dst (s.bytesAt src n)

/-- Whether a set of units of size k holds one of [a, a + n). -/
def touches (m : Store Unit) (k a n : Nat) : Bool := m.any (fun p => a / k ≤ p.1 && p.1 ≤ (a + n - 1) / k)

/-- Whether a scratchpad word or an LPDDR6 line of [a, a + n) is poisoned, or holds an uncorrectable error that was
not found yet (R161, R176). -/
def State.poisoned (s : State) (a n : Nat) : Bool :=
  match placeOf a with
  | .scratchpad _ _ => touches s.poisonWords 8 a n || touches s.hardWords 8 a n
  | .lpddr => touches s.poisonLines 64 a n || touches s.hardLines 64 a n
  | .flash => touches s.flash.unreadable 64 a n
  | _ => false

/-- The errors that a write of n bytes at a clears: those of the whole words or lines it covers (R161, R176). -/
def State.clearPoison (s : State) (a n : Nat) : State :=
  match placeOf a with
  | .scratchpad _ _ =>
    let first := (a + 7) / 8
    let k := (a + n) / 8 - first
    { s with poisonWords := storeDropRange s.poisonWords first k, hardWords := storeDropRange s.hardWords first k,
             softWords := storeDropRange s.softWords first k }
  | .lpddr =>
    let first := (a + 63) / 64
    let k := (a + n) / 64 - first
    { s with poisonLines := storeDropRange s.poisonLines first k, hardLines := storeDropRange s.hardLines first k,
             softLines := storeDropRange s.softLines first k }
  | _ => s

/-- A write that passed every check: bytes and poison. -/
def State.store (s : State) (a : Nat) (bs : List Byte) : State :=
  (s.clearPoison a bs.length).putAt a bs

/-- Storage faults since the last use: correctable or not, by word or line. -/
def State.strike (s : State) (hits : List Hit) : State :=
  hits.foldl (fun s h =>
    match placeOf h.addr with
    | .scratchpad _ _ =>
      if h.fatal then { s with hardWords := storePut s.hardWords (h.addr / 8) () }
      else { s with softWords := storePut s.softWords (h.addr / 8) () }
    | .lpddr =>
      if h.fatal then { s with hardLines := storePut s.hardLines (h.addr / 64) () }
      else { s with softLines := storePut s.softLines (h.addr / 64) () }
    | .flash =>
      if h.fatal then { s with flash := { s.flash with unreadable := storePut s.flash.unreadable (h.addr / 64) () } } else s
    | _ => s) s

/-- The errors of the words or lines of [a, a + n) that were latent are marked as poison. -/
def State.markPoison (s : State) (a n : Nat) : State :=
  match placeOf a with
  | .scratchpad _ _ =>
    let ws := (storeKeys s.hardWords).filter (fun w => a / 8 ≤ w && w ≤ (a + n - 1) / 8)
    { s with poisonWords := ws.foldl (fun m w => storePut m w ()) s.poisonWords,
             hardWords := ws.foldl storeDrop s.hardWords }
  | .lpddr =>
    let ls := (storeKeys s.hardLines).filter (fun w => a / 64 ≤ w && w ≤ (a + n - 1) / 64)
    { s with poisonLines := ls.foldl (fun m w => storePut m w ()) s.poisonLines,
             hardLines := ls.foldl storeDrop s.hardLines }
  | _ => s

/-- A word or line marked as poisoned. -/
def State.setPoison (s : State) (a : Nat) : State :=
  match placeOf a with
  | .scratchpad _ _ => { s with poisonWords := storePut s.poisonWords (a / 8) () }
  | .lpddr => { s with poisonLines := storePut s.poisonLines (a / 64) () }
  | _ => s

/-- n bytes copied by the device with the poison that lies on them. -/
def State.copyMarked (s : State) (src dst n : Nat) : State :=
  let words := (storeKeys s.poisonWords ++ storeKeys s.hardWords).filter (fun w => src / 8 ≤ w && w ≤ (src + n - 1) / 8)
  let lines := (storeKeys s.poisonLines ++ storeKeys s.hardLines).filter
    (fun w => src / 64 ≤ w && w ≤ (src + n - 1) / 64)
  let bad := match placeOf src with
    | .scratchpad _ _ => words.map (· * 8)
    | .lpddr => (lines.map (fun l => (List.range 8).map (fun i => l * 64 + i * 8))).flatten
    | _ => []
  bad.foldl (fun s a => s.setPoison (a - src + dst)) (s.store dst (s.bytesAt src n))

/-- The world bit of a writer recorded in the tags of the LPDDR6 lines it wrote (R177): a line that a secure write
reached is secure. -/
def State.tagLines (s : State) (secure : Bool) (a n : Nat) : State :=
  if secure && placeOf a == .lpddr then
    let ls := (List.range ((a + n + 63) / 64 - a / 64)).map (· + a / 64)
    { s with secureLines := ls.foldl (fun m l => storePut m l ()) s.secureLines }
  else s

end Sys2Proof.Machine
end

