-- ==== Sys2Proof/Machine/Flash.lean ====
section
/-! DEFINITION. Error records and the health log as bytes, and the window of the configuration flash: who writes its
regions, and what those hold that State keeps as fields (R23, R56, R57, R67, R409, R554, R563). -/

namespace Sys2Proof.Machine

/-! ### A record as bytes (R554, R555, R557) -/

/-- The 64 bytes of a record. -/
def ErrRec.bytes (r : ErrRec) : List Byte :=
  let flags := r.vi.isSome.toNat + 2 * r.job.isSome.toNat + 4 * r.addr.isSome.toNat + 8 * r.injected.toNat
    + 16 * r.noPrimary.toNat
  let body := leBytes r.time 12 ++ leBytes r.seq 4 ++ leBytes r.die 1 ++ leBytes r.block 1 ++ leBytes r.unit 2
    ++ leBytes r.sev 1 ++ leBytes flags 1 ++ leBytes r.code 2 ++ leBytes (r.vi.getD 0) 1 ++ leBytes 0 1
    ++ leBytes (r.job.getD 0 % 4096) 2 ++ leBytes r.initiator 4 ++ leBytes (r.addr.getD 0) 8 ++ leBytes r.detail 20
  let crc := crc32c body
  body ++ leBytes (if r.crcBad then crc + 1 else crc) 4

/-! ### The health log (R563, R565) -/

/-- The sector and slot of the log's entry n: slots 1 to 1 023 of sector after sector. -/
def hlogPlace (n : Nat) : Nat := n / 1023 % 256 * 1024 + n % 1023 + 1

/-- The base address of the health log. -/
def hlogBase : Nat := 0x6001000000

/-- The sequence of the sector that stands at a sector's place, where it was opened. -/
def State.sectorSeq (s : State) (sector : Nat) : Option Nat :=
  let last := (s.err.hlogPos - 1) / 1023
  if s.err.hlogPos = 0 then none
  else (List.range 256).findSome? (fun i => if i ≤ last ∧ (last - i) % 256 = sector then some (last - i) else none)

/-- The 64 bytes of an entry of the log with the verdict of its CRC: slot 0 is the header of its sector; a slot that the
log's writer has not used holds what was written at its place, where anything was. -/
def State.hlogBytes (s : State) (entry : Nat) : Option (List Byte × Bool) :=
  if entry % 1024 = 0 then
    (s.sectorSeq (entry / 1024)).map (fun q =>
      let first := match storeFind s.err.hlog (entry + 1) with
        | none => 0
        | some x => x.record.seq
      let body := beBytes 0x485A484C 4 ++ leBytes q 4 ++ leBytes first 4 ++ leBytes 0 48
      (body ++ leBytes (crc32c body) 4, true))
  else
    match storeFind s.err.hlog entry with
    | some x => some (x.record.bytes, x.crcOk)
    | none =>
      let bs := s.bytesAt (hlogBase + entry * 64) 64
      if bs.all (· == 0) then none else some (bs, leAt bs 60 4 == crc32c (bs.take 60))

/-! ### The window of the flash (R56, R57) -/

/-- What the fields of State that stand for a flash region say, by the region's place: write-once pages, development key
page, bank-select sectors and rollback floor; none for a region that is held as bytes. -/
def FlashState.region (f : FlashState) (off : Nat) : Option (List Nat) :=
  let entry := fun (e : Option BankEntry) => match e with
    | none => []
    | some e => [e.seq, e.preferB.toNat, e.attempt.toNat, e.crcOk.toNat]
  let page := off / 0x1000
  if off < 0x10000 then
    some ([(bit f.sealedPages page).toNat] ++ (if page = 0 then [f.unitId] else if page = 1 then [f.oemRoot] else []))
  else if off < 0x30000 then none
  else if off < 0x40000 then some [f.devKeySeq, f.devKeyRoot.getD 0, f.devKeyRoot.isSome.toNat]
  else if off < 0x50000 then some (entry f.entry0)
  else if off < 0x60000 then some (entry f.entry1)
  else if off < 0x80000 then some [f.floor, f.fwFloor]
  else none

/-- A byte of the flash as its window shows it. -/
def State.flashByte (s : State) (a : Nat) : Byte :=
  let off := a - 0x6000000000
  match s.flash.region off with
  | some content => Config.flashByte off content
  | none =>
    if 0x1000000 ≤ off ∧ off < 0x2000000 then
      match s.hlogBytes ((off - 0x1000000) / 64) with
      | some (bs, _) => bs[off % 64]?.getD 0
      | none => s.byteAt a
    else s.byteAt a

/-- The bytes [a, a + n) of the flash. -/
def State.flashBytes (s : State) (a : Nat) : Nat → List Byte
  | 0 => []
  | n + 1 => s.flashByte a :: s.flashBytes (a + 1) n

/-- Whether a flash address lies in the health log. -/
def inHlog (a : Nat) : Bool := hlogBase ≤ a && a < hlogBase + 0x1000000

/-- Who writes a byte of the flash directly (R56): the vault its store, sentinel firmware and the loader a free slot of
the health log, the loader the payload area. Every other region is written by the commands of its own rows, and no sealed
page by anyone (R57). -/
def State.flashWriter (s : State) (who : Initiator) (a : Nat) : Bool :=
  let free := inHlog a && (storeFind s.err.hlog ((a - hlogBase) / 64)).isNone
  match who with
  | .vault _ _ => 0x6000090000 ≤ a && a < 0x6001000000
  | .sentinel _ => free
  | .loader => free || (0x6050000000 ≤ a && a < 0x6080000000)
  | _ => false

end Sys2Proof.Machine
end

