-- ==== Sys2Proof/Machine/Iommu.lean ====
section
/-! DEFINITION. The IOMMU of S: translation, the fault queue, and the MSIs that pass through it (R366, R372, R373,
R384). -/

namespace Sys2Proof.Machine

/-- The IOMMU's register file (R372). -/
def iommuBase : Nat := regBase 4 + 0x210000
def inIommu (addr : Nat) : Bool := iommuBase ≤ addr && addr < iommuBase + 0x10000

/-- The address that the IOMMU gives an I/O virtual address of a device, by the memory and its registers. -/
def State.translate (s : State) (device iova : Nat) (write : Bool) : Option Nat :=
  Config.iommu s.mem (s.regs.filter (fun p => inIommu p.1)) device iova write

/-- The unit under which the committed configuration of an instance stands; the staged copy stands under the
instance's own number (R368). -/
def committed (vi : Nat) : Nat := 64 + vi

/-- The device_id of an instance. -/
def State.viDevice (s : State) (vi : Nat) : Nat := s.fget F.viOwner_device_id 4 0 (committed vi)

/-- A fault record of 32 bytes: transaction type 3 for a write and 2 for a read, the device, the address. PRESUMED: the
layouts of the record and of the queue's registers are those of the RISC-V IOMMU specification, version 1.0; its cause
and its second address are free values. -/
def State.faultRecord (s : State) (device iova : Nat) (write : Bool) : State × List Byte :=
  let c := s.fresh 12
  let v := c.2.fresh 64
  (v.2, leBytes (c.1 + (if write then 3 else 2) * 2 ^ 34 + device % 2 ^ 24 * 2 ^ 40) 8 ++ leBytes 0 8
    ++ leBytes iova 8 ++ leBytes v.1 8)

/-- A translation fault enters the fault queue; a full queue sets fqof, and a queue that is off takes none. -/
def State.queueFault (s : State) (device iova : Nat) (write : Bool) : State :=
  let base := s.reg (iommuBase + 0x28)
  let ends := s.reg (iommuBase + 0x30)
  let csr := s.reg (iommuBase + 0x48)
  let size := 2 ^ (bits base 0 5 + 1)
  let head := bits ends 0 32
  let tail := bits ends 32 32
  if !bit csr 32 || bit csr 41 then s
  else if (tail + 1) % size = head % size then s.setReg (iommuBase + 0x48) (setBit csr 41 true)
  else
    let r := s.faultRecord device iova write
    (r.1.store (bits base 10 44 * 4096 + tail % size * 32) r.2).setReg (iommuBase + 0x30)
      (head + (tail + 1) % size * 2 ^ 32)

/-- A translation fault of an instance: queued, counted and recorded (R372). -/
def State.iommuFault (s : State) (vi : Nat) (r : ErrRec) (iova : Nat) (write : Bool) : State :=
  ((s.queueFault (s.viDevice vi) iova write).fadd F.viCounts_iommu_faults 4 0 vi 1).raiseRec
    { r with vi := some vi, addr := some iova }

/-- An MSI of an instance: a 32-bit write to its interrupt file through the IOMMU; the MSI-X entry of its number where
a virtual function exposes the instance (R373, R384). -/
def State.sendViMsi (s : State) (vi vector : Nat) : State :=
  let a := s.fget F.viMsi_file 4 0 (committed vi) * 4096
  if s.hostMode = 2 ∧ s.fget F.viOwner_vf_enable 4 0 (committed vi) = 1 then s.send (.host 4 (vi + 1) (leBytes vector 4))
  else
    match s.translate (s.viDevice vi) a true with
    | some p => s.send (.msi p vector)
    | none => s.iommuFault vi { recOf E.viIommuFault 4 0x0B 0xFFFF with detail := vi } a true

end Sys2Proof.Machine
end

