-- ==== Sys2Proof/Machine/Jobs.lean ====
section
/-! DEFINITION. Job contexts, die events, completion records and their MSIs (R215, R216, R234, R235, R255, R373,
R376): the shared operations of the scheduler and the gate. -/

namespace Sys2Proof.Machine

/-! ### Fields of a job context (R253) -/

/-- The states of R216; 15 is FREE. -/
def jsQueued : Nat := 0
def jsRunning : Nat := 1
def jsPreempted : Nat := 2
def jsSettling : Nat := 3
def jsDone : Nat := 4
def jsFaulted : Nat := 5
def jsAborted : Nat := 6
def jsOverrun : Nat := 7
def jsReset : Nat := 8
def jsSquashed : Nat := 9
def jsFree : Nat := 15

/-- The record the scheduler keeps of a job, where the context is in use. -/
def State.job? (s : State) (j : Nat) : Option Job := storeFind s.sched.jobs j

/-- The record of a job; an empty one where the context is free. -/
def State.job (s : State) (j : Nat) : Job := (s.job? j).getD { record := {} }

/-- A job's record changed. -/
def State.modJob (s : State) (j : Nat) (f : Job → Job) : State :=
  match s.job? j with
  | none => s
  | some x => { s with sched := { s.sched with jobs := storePut s.sched.jobs j (f x) } }

def State.jobState (s : State) (j : Nat) : Nat := s.fget F.schJctx_state 4 0 j
def State.jobVi (s : State) (j : Nat) : Nat := s.fget F.schJctx_vi 4 0 j
def State.jobClass (s : State) (j : Nat) : Nat := s.fget F.schJctx_class 4 0 j
def State.jobTag (s : State) (j : Nat) : Nat := s.fget F.schJctx_tag 4 0 j
def State.jobRanksM1 (s : State) (j : Nat) : Nat := s.fget F.schJctx_ranks_m1 4 0 j

/-- A final state of R216. -/
def jobFinal (st : Nat) : Bool := 4 ≤ st && st ≤ 9

/-- Whether a job is live: its context is in use, and it has neither reached a final state nor been refused. -/
def State.jobLive (s : State) (j : Nat) : Bool :=
  (s.job? j).isSome && !jobFinal (s.jobState j) && !(s.job j).settled

/-- Whether records of the job's troubles carry S3: it is checked or RT (R108, R146). -/
def State.jobGrave (s : State) (j : Nat) : Bool :=
  (s.job? j).isSome && ((s.job j).record.checked || s.jobClass j == 0)

/-- The index of a rank's engine: te number, where the job holds that rank. -/
def State.rankEngine (s : State) (j r : Nat) : Option Nat := (s.job j).ranks[r]?

/-! ### Rings of stream engines (R165, R172, R173) -/

/-- The index of a ring's registers among those of its die. -/
def ringReg (n : Nat) : Nat := n % 16 / 4 * 0x800 + n % 4

/-- Ring states (R173). -/
def rgIdle : Nat := 0
def rgRunning : Nat := 1
def rgWaiting : Nat := 2
def rgPaused : Nat := 3
def rgFaulted : Nat := 4

def State.ringSt (s : State) (n : Nat) : Nat := s.fget F.seRingHead_state (n / 16) (ringReg n) 0
def State.setRingSt (s : State) (n st : Nat) : State := s.fset F.seRingHead_state (n / 16) (ringReg n) 0 st
def State.ringHead (s : State) (n : Nat) : Nat := s.fget F.seRingHead_head (n / 16) (ringReg n) 0
def State.ringJob (s : State) (n : Nat) : Nat := s.fget F.seRingBase_job_ctx (n / 16) (ringReg n) 0
def State.ring (s : State) (n : Nat) : RingState := storeGet {} s.rings n
def State.setRing (s : State) (n : Nat) (r : RingState) : State := { s with rings := storePut s.rings n r }

/-- A pause: the ring stops issuing. -/
def State.opRingPause (s : State) (n : Nat) : State :=
  if s.ringSt n = rgRunning ∨ s.ringSt n = rgWaiting then s.setRing n { s.ring n with pausing := true } else s

/-- An abort returns the ring to IDLE. -/
def State.opRingAbort (s : State) (n : Nat) : State :=
  (s.setRing n { s.ring n with issue := s.ringHead n, inFlight := [], pausing := false }).setRingSt n rgIdle

/-- The rings that are bound to a job on a die. -/
def State.ringsOf (s : State) (j die : Nat) : List Nat :=
  ((List.range 16).map (fun i => die * 16 + i)).filter (fun n =>
    s.ringJob n == j && 4 ≤ s.fget F.seRingBase_size_log2 (n / 16) (ringReg n) 0)

def State.allRingsOf (s : State) (j : Nat) : List Nat := ((List.range 4).map (s.ringsOf j)).flatten

/-! ### Die events (R255) -/

/-- Posts an event to the die control block of a compute die: kind, job context, detail. An event posted to a full
SCH_EVENT is lost, sets overflow and writes a record. -/
def State.postEvent (s : State) (die kind job detail : Nat) : State :=
  let q := storeGet [] s.sched.dieEvents die
  if 1024 ≤ q.length then
    (s.fset F.schEventPending_overflow die 0 0 1).raiseSide (recOf E.schEventOverflow die 0x02 0xFFFF)
  else
    let w := kind % 16 + job % 4096 * 2 ^ 4 + detail % 2 ^ 48 * 2 ^ 16
    { s with sched := { s.sched with dieEvents := storePut s.sched.dieEvents die (q ++ [w]) } }.fset
      F.schEventPending_count die 0 0 (q.length + 1)

/-- The dies on which a job holds ranks; die 0's mailbox serves a job that holds none. -/
def State.jobDies (s : State) (j : Nat) : List Nat :=
  let ds := (List.range 4).filter (fun d => (s.job j).ranks.any (fun te => te / 16 == d))
  if ds.isEmpty then [0] else ds

/-- Posts an event about a job to every die on which it holds ranks. -/
def State.postJobEvent (s : State) (kind j detail : Nat) : State :=
  (s.jobDies j).foldl (fun t d => t.postEvent d kind j detail) s

/-! ### Progress records (R215) -/

/-- The flags byte of R215. -/
def State.progressFlags (s : State) (j : Nat) : Nat :=
  let r := (s.job j).record
  let strict := bit (s.fget F.cgConfig_strict_classes (s.job j).tokenHome 0 0) (s.jobClass j)
  r.checked.toNat + 2 * r.speculative.toNat + 4 * strict.toNat + 8 * (0 < (s.job j).discarded : Bool).toNat

/-- The 64 bytes of a job's progress record. -/
def State.progressBytes (s : State) (j : Nat) : List Byte :=
  let x := s.job j
  leBytes (s.jobState j) 1 ++ leBytes (s.progressFlags j) 1 ++ leBytes (j % 4096) 2 ++ leBytes (s.jobVi j) 1
    ++ leBytes (x.record.buffers.filter Option.isSome).length 1 ++ leBytes x.faultCode 2
    ++ leBytes x.confirmed 4 ++ leBytes x.discarded 4 ++ leBytes x.sequence 4 ++ leBytes (s.jobTag j) 2
    ++ leBytes x.tokensTrue 1 ++ leBytes x.tokensFalse 1 ++ leBytes s.periods 8
    ++ ((List.range 16).map (fun i => leBytes (x.lastConfirmed[i]?.getD 0xFFFF) 2)).flatten

/-- Writes a job's progress record: its sequence is incremented at every update (R216). -/
def State.writeProgress (s : State) (j : Nat) : State :=
  match s.job? j with
  | none => s
  | some _ =>
    let t := s.modJob j (fun x => { x with sequence := x.sequence + 1 })
    t.store (t.job j).record.progress (t.progressBytes j)

/-- Changes a job's state and writes its progress record. -/
def State.setJobState (s : State) (j st : Nat) : State :=
  (s.fset F.schJctx_state 4 0 j st).writeProgress j

/-! ### Completion queues (R228, R235, R373, R376) -/

def State.qHead (s : State) (q : Nat) : Nat := s.fget F.schQptr_head 4 0 q
def State.qTail (s : State) (q : Nat) : Nat := s.fget F.schQptr_tail 4 0 q
def State.qState (s : State) (q : Nat) : Nat := s.fget F.schQptr_state 4 0 q
def State.qVi (s : State) (q : Nat) : Nat := s.fget F.schQbase_vi 4 0 q
def State.qSize (s : State) (q : Nat) : Nat := 2 ^ s.fget F.schQbase_size_log2 4 0 q

/-- Entries between head and tail; the indexes run modulo 65 536. -/
def State.qUsed (s : State) (q : Nat) : Nat := (s.qTail q + 65536 - s.qHead q) % 65536

/-- The address of entry i of a queue whose entries have n bytes. -/
def State.qEntry (s : State) (q i n : Nat) : Nat := s.fget F.schQbase_base 4 0 q + i % s.qSize q * n

/-- The bookkeeping of a completion queue. -/
def State.cq (s : State) (q : Nat) : CqState := storeGet {} s.sched.cqs q

def State.setCq (s : State) (q : Nat) (c : CqState) : State :=
  { s with sched := { s.sched with cqs := storePut s.sched.cqs q c } }

/-- Sends a completion queue's MSI: a 32-bit write of its vector to the instance's interrupt file (R373). A vector
outside the instance's range is never sent. -/
def State.sendCqMsi (s : State) (q : Nat) : State :=
  let vi := s.qVi q
  let vec := s.fget F.schQcfg_msi_vector 4 0 q
  let first := s.fget F.viCtx_vec_first 4 0 (64 + vi)
  let count := s.fget F.viCtx_vec_count 4 0 (64 + vi)
  let t := s.setCq q { s.cq q with unsignalled := 0, oldest := 0 }
  let t := t.fset F.viUse_pending_msi 4 0 vi (t.fget F.viUse_pending_msi 4 0 vi - (s.cq q).unsignalled)
  if first ≤ vec ∧ vec < first + count then
    t.sendViMsi vi vec
  else t

/-- A record was written to a completion queue: its MSI goes out at once when count_max records wait, unless the
instance is over budget (R376). -/
def State.signalCq (s : State) (q : Nat) : State :=
  if s.fon F.schQcfg_msi_enable 4 0 q then
    let c := s.cq q
    let n := c.unsignalled + 1
    let t := s.setCq q { c with unsignalled := n, oldest := if c.unsignalled = 0 then s.periods else c.oldest }
    let vi := s.qVi q
    let t := t.fadd F.viUse_pending_msi 4 0 vi 1
    let now := if s.fon F.viState_over_budget 4 0 vi then s.fget F.viCoalesce_ob_us 4 0 (64 + vi) == 0
      else s.fget F.viCoalesce_count_max 4 0 (64 + vi) ≤ n || s.fget F.viCoalesce_time_us 4 0 (64 + vi) == 0
    if now then t.sendCqMsi q
    else if 1 < n then t.fadd F.viCounts_coalesced 4 0 vi 1 else t
  else s

/-- A job no longer holds its engines (R253, R388). -/
def State.releaseEngines (s : State) (j : Nat) : State :=
  let n := popcount (s.fget F.schJranks_engines 4 0 j) 64
  let vi := s.jobVi j
  let s := s.fset F.viUse_engines_held 4 0 vi (s.fget F.viUse_engines_held 4 0 vi - n)
  s.fset F.schJranks_engines 4 0 j 0

/-- The numbers of jobs that wait in the ready lists, by class (R251). -/
def State.countReady (s : State) : State :=
  let n := fun c => (s.sched.ready.filter (fun j => s.jobClass j == c)).length
  ((s.fset F.schStatus_ready_high 4 0 0 (n 1)).fset F.schStatus_ready_normal 4 0 0 (n 2)).fset
    F.schStatus_ready_bulk 4 0 0 (n 3)

/-- Takes a job out of the ready list. -/
def State.unready (s : State) (j : Nat) : State :=
  { s with sched := { s.sched with ready := s.sched.ready.filter (· != j)
                                   nextFrame := s.sched.nextFrame.filter (· != j) } }.countReady

/-- Frees a job context. -/
def State.freeJob (s : State) (j : Nat) : State :=
  let x := s.job j
  let s := s.releaseEngines j
  let t := (List.range x.tokenCount).foldl
    (fun t i => t.setReg (fldAddr F.cgToken_state x.tokenHome 0 (x.tokenBase + i)) 0) s
  let t := t.fset F.cgStatus_tokens_used x.tokenHome 0 0
    (t.fget F.cgStatus_tokens_used x.tokenHome 0 0 - x.tokenCount)
  let t := t.unready j
  let t := { t with sched := { t.sched with jobs := storeDrop t.sched.jobs j } }
  let t := t.setReg (fldAddr F.schJctx_state 4 0 j) jsFree
  let vi := s.jobVi j
  let t := t.fset F.viUse_jobs_live 4 0 vi (t.fget F.viUse_jobs_live 4 0 vi - 1)
  t.fset F.schStatus_ctx_used 4 0 0 (t.fget F.schStatus_ctx_used 4 0 0 - 1)

/-- Writes a completion record at the queue's tail, with the phase bit of its pass, and signals it; a job's context
is freed by it. -/
def State.putCompletion (s : State) (q : Nat) (h : HeldRecord) : State :=
  let i := s.qTail q
  let phase := (i / s.qSize q + 1) % 2
  let bs := h.bytes.set 7 (BitVec.ofNat 8 (leAt h.bytes 7 1 / 2 * 2 + phase))
  let t := (s.store (s.qEntry q i 64) bs).fset F.schQptr_tail 4 0 q (i + 1)
  let t := t.signalCq q
  match h.job with
  | none => t
  | some j => t.freeJob j

/-- Whether a completion queue takes no record now: it is full, FROZEN or DISABLED (R235, R548). A queue that its
instance's quiescing froze still takes them (R381). -/
def State.cqBlocked (s : State) (q : Nat) : Bool :=
  s.qSize q ≤ s.qUsed q
    || (s.qState q != 1 && !(s.qState q == 2 && s.fget F.viState_state 4 0 (s.qVi q) == 2))

/-- Releases a completion record: it is written, or it waits in its context behind those that wait already (R235). -/
def State.releaseCompletion (s : State) (q : Nat) (h : HeldRecord) : State :=
  if s.cqBlocked q || !(s.cq q).held.isEmpty then
    (s.setCq q { s.cq q with held := (s.cq q).held ++ [h] }).fadd F.schEvents2_cq_holds 4 0 0 1
  else s.putCompletion q h

/-- Writes held records while the queue has room, in the order in which they settled. -/
def State.drainHeld (s : State) (q : Nat) : Nat → State
  | 0 => s
  | fuel + 1 =>
    match (s.cq q).held with
    | [] => s
    | h :: hs =>
      if s.cqBlocked q then s
      else ((s.setCq q { s.cq q with held := hs }).putCompletion q h).drainHeld q fuel

/-- The 64 bytes of a completion record (R234). -/
def completionBytes (tag job st vi status flags fault preempts confirmed discarded ea es t0 t1 steps result : Nat) :
    List Byte :=
  leBytes tag 2 ++ leBytes job 2 ++ leBytes st 1 ++ leBytes vi 1 ++ leBytes status 1 ++ leBytes flags 1
    ++ leBytes fault 2 ++ leBytes preempts 2 ++ leBytes confirmed 4 ++ leBytes discarded 4 ++ leBytes ea 4
    ++ leBytes es 4 ++ leBytes 0 4 ++ leBytes t0 8 ++ leBytes t1 8 ++ leBytes steps 8 ++ leBytes result 8

/-- The completion record of a job that reached a final state. -/
def State.jobCompletion (s : State) (j status : Nat) : List Byte :=
  let x := s.job j
  completionBytes (s.jobTag j) j (s.jobState j) (s.jobVi j) status 0 x.faultCode (min x.preemptions 65535)
    x.confirmed x.discarded (x.energyActive / 1000000) (x.energyStatic / 1000000) x.dispatchTime x.endTime x.steps 0

/-- Completes a command of a system queue: command flag, status and result (R230, R234). -/
def State.completeCommand (s : State) (q tag vi status result : Nat) : State :=
  s.releaseCompletion q
    { job := none, bytes := completionBytes tag 0 jsDone vi status 2 0 0 0 0 0 0 0 0 0 result }

/-! ### The control firmware (R227, R335, R532, R539) -/

/-- The die that acts for die d: its own pair while admitted, else the lowest die whose pair is (R335). -/
def State.actingDie (s : State) (d : Nat) : Nat :=
  if s.fget F.safPair_state 4 0 d = 3 then
    ((List.range 4).find? (fun k => s.fget F.safPair_state 4 0 k == 0)).getD d
  else d

/-- Whether a pair that can act for a die is there: the pair that holds its write rights is admitted and runs (R335,
R532), on a die whose logic is not frozen (R41). -/
def State.firmwareActs (s : State) (d : Nat) : Bool :=
  let k := s.actingDie d
  s.fget F.safPair_state 4 0 k == 0 && !s.fw.down.contains k && !s.logicFrozen k

/-- Whether firmware is attached. -/
def State.fwAttached (s : State) : Bool := s.fon F.schCtrl_fw_attached 4 0 0

/-- Whether the firmware of a die starts new work: pre-emptions, spills, refills, loads and commands. In a hand-off it
starts none. -/
def State.firmwareStarts (s : State) (d : Nat) : Bool := s.fwAttached && s.firmwareActs d

/-- The dies whose pair is admitted and whose firmware runs. -/
def State.runningDies (s : State) : List Nat :=
  (List.range 4).filter (fun d => s.fget F.safPair_state 4 0 d == 0 && !s.fw.down.contains d)

/-- Whether the pairs were restarted for a hand-off or its roll-back: every old firmware stopped at its hand-off point, or
the loader rolls back. -/
def State.fwRestarted (s : State) : Bool :=
  s.fget F.cfgFwStatus_state 4 0 0 == 5 || s.runningDies.all s.fw.points.contains

/-- Whether the firmware of a die finishes an operation that was issued before: while attached, and in a hand-off up to
its hand-off point and again from the restart on. -/
def State.firmwareFinishes (s : State) (d : Nat) : Bool :=
  s.firmwareActs d && (s.fwAttached
    || (s.fw.start.isSome && (!s.fw.points.contains (s.actingDie d) || s.fwRestarted)))

/-- Whether a queue number names a completion queue of an instance (R28, R233). -/
def State.cqValid (s : State) (vi cq : Nat) : Bool :=
  16384 ≤ cq && cq < 32768 && s.qVi cq == vi && 4 ≤ s.fget F.schQbase_size_log2 4 0 cq

end Sys2Proof.Machine
end

