-- ==== Sys2Proof/Machine/GateOps.lean ====
section
/-! DEFINITION. The confirm gate's shared operations: buffers and version-table entries, steering, discards, tokens,
settling and the stop of a job (R193 to R219). -/

namespace Sys2Proof.Machine

/-! ### Buffers and entries -/

def granBytes : Nat := 0x10000

/-- The granule states of R198 by their codes. -/
def gIdle : Nat := 0
def gOpen : Nat := 1
def gMarked : Nat := 2
def gFailed : Nat := 3

/-- Buffer b of gate d: registered, and its fields. -/
def State.bufValid (s : State) (d b : Nat) : Bool := s.fon F.cgBufCtrl_valid d b 0
def State.bufBase (s : State) (d b : Nat) : Nat := s.fget F.cgBufBase_base d b 0
def State.bufShadow (s : State) (d b : Nat) : Nat := s.fget F.cgBufShadow_shadow d b 0
def State.bufGranules (s : State) (d b : Nat) : Nat := s.fget F.cgBufCtrl_granules_m1 d b 0 + 1
def State.bufVi (s : State) (d b : Nat) : Nat := s.fget F.cgBufCtrl_vi d b 0
def State.bufFirst (s : State) (d b : Nat) : Nat := s.fget F.cgBufCtrl_tvt_first d b 0

/-- Every buffer of every gate. -/
def allBuffers : List (Nat × Nat) :=
  ((List.range 4).map (fun d => (List.range 256).map (fun b => (d, b)))).flatten

/-- Whether an address lies in a range of n granules. -/
def inGranules (addr base n : Nat) : Bool := base ≤ addr && addr < base + n * granBytes

/-- The registered buffer whose public range holds an address. -/
def State.publicAt (s : State) (addr : Nat) : Option (Nat × Nat) :=
  allBuffers.find? (fun p => s.bufValid p.1 p.2 && inGranules addr (s.bufBase p.1 p.2) (s.bufGranules p.1 p.2))

/-- The registered buffer whose shadow range holds an address. -/
def State.shadowAt (s : State) (addr : Nat) : Option (Nat × Nat) :=
  allBuffers.find? (fun p => s.bufValid p.1 p.2 && inGranules addr (s.bufShadow p.1 p.2) (s.bufGranules p.1 p.2))

/-- The key of a version-table entry in the list of granules that are not IDLE. -/
def openKey (d e : Nat) : Nat := d * 8192 + e

/-- A field of a version-table entry. -/
def State.tvt (s : State) (f : Fld) (d e : Nat) : Nat := s.fget f d 0 e

def State.granState (s : State) (d e : Nat) : Nat := s.tvt F.cgTvtEntry_state d e

/-- The address of a slot of granule g of a buffer (R193). -/
def State.slotAddr (s : State) (d b g slot : Nat) : Nat :=
  (if slot = 0 then s.bufBase d b else s.bufShadow d b) + g * granBytes

/-- A granule's state changed, with the counts of its buffer. -/
def State.setGranState (s : State) (d b e st : Nat) : State :=
  let old := s.granState d e
  let s := if old = gOpen then s.fset F.cgBufStatus_open d b 0 (s.fget F.cgBufStatus_open d b 0 - 1)
    else if old = gMarked then s.fset F.cgBufStatus_marked d b 0 (s.fget F.cgBufStatus_marked d b 0 - 1) else s
  let s := if st = gOpen then s.fwrap F.cgBufStatus_open d b 0 1
    else if st = gMarked then s.fwrap F.cgBufStatus_marked d b 0 1 else s
  s.fset F.cgTvtEntry_state d 0 e st

/-- A granule back to IDLE with its version unchanged: no owner, no writers, no marks. -/
def State.idleGranule (s : State) (d b e : Nat) : State :=
  let s := s.setGranState d b e gIdle
  let s := s.fset F.cgTvtEntry_marks_rcvd d 0 e 0
  let s := s.fset F.cgTvtEntry_marks_req_m1 d 0 e 0
  let s := s.fset F.cgTvtWriters_ranks d 0 e 0
  { s with opens := storeDrop s.opens (openKey d e) }

/-- The granules that are not IDLE and belong to a job: gate, entry, and what the gate keeps of them. -/
def State.ownedBy (s : State) (j : Nat) : List (Nat × Nat × OpenGranule) :=
  (s.opens.map (fun p => (p.1 / 8192, p.1 % 8192, p.2))).filter
    (fun t => s.tvt F.cgTvtEntry_owner t.1 t.2.1 == j)

/-- Discards granules of a job: each returns to IDLE and is counted (R210, R217). -/
def State.discard (s : State) (j : Nat) (gs : List (Nat × Nat × OpenGranule)) : State :=
  gs.foldl (fun s t =>
    let s := s.idleGranule t.1 t.2.2.buf t.2.1
    let s := s.fwrap F.cgCounts_discards t.1 0 0 1
    s.modJob j (fun x => { x with discarded := x.discarded + 1 })) s

/-- Makes granules FAILED (R213). -/
def State.failGranules (s : State) (gs : List (Nat × Nat × OpenGranule)) : State :=
  gs.foldl (fun s t => s.setGranState t.1 t.2.2.buf t.2.1 gFailed) s

/-- Makes granules FAILED and writes the event's one CG_DISCARD record (R213): it names the first granule's buffer, entry
and job context, and counts the granules. -/
def State.failAndReport (s : State) (die : Nat) (gs : List (Nat × Nat × OpenGranule)) : State :=
  let first := match gs with
    | [] => gateDetail 0xFFFF 0xFFFF 0xFFFF
    | t :: _ => gateDetail t.2.2.buf t.2.1 (s.tvt F.cgTvtEntry_owner t.1 t.2.1)
  (s.failGranules gs).raiseFollow { recOf E.cgDiscard die 0x06 0xFFFF with detail := first + gs.length * 2 ^ 48 }

/-- The granules whose OPEN or MARKED writers hold a rank. -/
def State.writtenBy (s : State) (j r : Nat) : List (Nat × Nat × OpenGranule) :=
  (s.ownedBy j).filter (fun t =>
    (s.granState t.1 t.2.1 == gOpen || s.granState t.1 t.2.1 == gMarked)
      && bit (s.tvt F.cgTvtWriters_ranks t.1 t.2.1) r)

/-! ### Chains (R209) -/

/-- The members of a job's chain upstream that still hold their contexts: a context that another job has taken since is
none of them. -/
def State.upstream (s : State) (j : Nat) : List Nat :=
  ((s.job j).upstream.filter (fun p => (s.job? p.1).isSome && (s.job p.1).serial == p.2)).map Prod.fst

/-- Whether p belongs to j's chain upstream. -/
def State.inChain (s : State) (j p : Nat) : Bool := (s.upstream j).contains p

/-- The live jobs whose chain upstream holds a job. -/
def State.downstream (s : State) (j : Nat) : List Nat :=
  (storeKeys s.sched.jobs).filter (fun k => k != j && s.jobLive k && s.inChain k j)

/-! ### Tokens (R207, R208, R210) -/

def State.tokenState (s : State) (j i : Nat) : Nat :=
  s.fget F.cgToken_state (s.job j).tokenHome 0 ((s.job j).tokenBase + i)

/-- Ways a token resolves, by the codes of R222. -/
def byDoorbell : Nat := 1
def byRie : Nat := 2
def byStop : Nat := 3

/-- Resolves one token of a job once; a later attempt is counted in CG_EVENTS. -/
def State.resolveOne (s : State) (j i : Nat) (outcome : Bool) (how : Nat) : State :=
  let x := s.job j
  let u := x.tokenBase + i
  if s.tokenState j i = 1 then
    let s := s.fset F.cgToken_state x.tokenHome 0 u (if outcome then 2 else 3)
    let s := s.fset F.cgToken_by x.tokenHome 0 u how
    s.modJob j (fun x =>
      if outcome then { x with tokensTrue := x.tokensTrue + 1 } else { x with tokensFalse := x.tokensFalse + 1 })
  else if how = byStop then s
  else s.fadd F.cgEvents_late_resolves x.tokenHome 0 0 1

/-- Resolves tokens [first, first + n) of a job. -/
def State.resolveRange (s : State) (j first : Nat) (outcome : Nat → Bool) (how : Nat) : Nat → State
  | 0 => s
  | n + 1 => (s.resolveOne j first (outcome first) how).resolveRange j (first + 1) outcome how n

/-- Whether some token of a job up to i is false. -/
def State.prefixFalse (s : State) (j i : Nat) : Bool :=
  (List.range (i + 1)).any (fun k => s.tokenState j k == 3)

/-- Whether every token of a job up to i is true. -/
def State.prefixTrue (s : State) (j i : Nat) : Bool :=
  (List.range (i + 1)).all (fun k => s.tokenState j k == 2)

/-- The token a granule of a buffer is bound to, for a speculative job of n tokens (R207). -/
def boundToken (span g n : Nat) : Option Nat :=
  if span = 0xFFFF then none else if span = 0 then some 0 else some (min (g / span) (n - 1))

/-- The job's granules bound to a token that is false, or to one behind it (R210). -/
def State.doomed (s : State) (j : Nat) : List (Nat × Nat × OpenGranule) :=
  (s.ownedBy j).filter (fun t =>
    s.tvt F.cgTvtEntry_bound t.1 t.2.1 == 1 && s.prefixFalse j (s.tvt F.cgTvtEntry_token t.1 t.2.1))

/-- Marks an engine's part of a job as stopped. -/
def State.rankStopped (s : State) (j r : Nat) : State :=
  s.modJob j (fun x => { x with stopped := if x.stopped.contains r then x.stopped else x.stopped ++ [r] })

/-- Stops the engines that still run a job, without saving: each goes to the state given (R145, R210). Their open
tiles never confirm; the banks are discarded by the engine's own reset of its state at its next start. -/
def State.haltEngines (s : State) (j teState : Nat) : State :=
  (List.range (s.job j).ranks.length).foldl (fun s r =>
    match s.rankEngine j r with
    | none => s
    | some te =>
      if (s.job j).stopped.contains r || (s.job j).saved.contains r then s
      else (s.fset F.teStatus_state (te / 16) (te % 16) 0 teState).rankStopped j r) s

/-- Stops a job that runs, without saving: its engines, and its rings. -/
def State.haltJob (s : State) (j teState : Nat) : State :=
  (s.allRingsOf j).foldl State.opRingAbort (s.haltEngines j teState)

/-- Squashes what depends on a discard: the doomed granules of the job go, and every member of the chain that read
any granule of the job has its pending tokens resolved false and stops (R210). A chain holds at most 8 jobs. -/
def State.squash (s : State) (j : Nat) : Nat → State
  | 0 => s
  | fuel + 1 =>
    let s := s.discard j (s.doomed j)
    let readers := (s.job j).readers
    let s := s.modJob j (fun x => { x with readers := [] })
    readers.foldl (fun s r =>
      if s.jobLive r then
        let s := s.resolveRange r 0 (fun _ => false) byStop (s.job r).tokenCount
        let s := s.modJob r (fun x => { x with squashed := true })
        let s := if s.jobState r = jsQueued ∨ s.jobState r = jsRunning ∨ s.jobState r = jsPreempted then
          (s.haltJob r 0).setJobState r jsSettling else s
        s.squash r fuel
      else s) s

/-! ### Settling (R211, R214, R216) -/

/-- Whether every rank of a job has halted, stopped or been saved; a job never dispatched has none. -/
def State.allStopped (s : State) (j : Nat) : Bool :=
  (List.range (s.job j).ranks.length).all (fun r => (s.job j).stopped.contains r || (s.job j).saved.contains r)

/-- Whether a granule of the job is still OPEN or MARKED. -/
def State.awaits (s : State) (j : Nat) : Bool :=
  (s.ownedBy j).any (fun t => s.granState t.1 t.2.1 == gOpen || s.granState t.1 t.2.1 == gMarked)

/-- Whether a live job names a model of its instance: the model is in use (R184). -/
def State.modelInUse (s : State) (vi id : Nat) : Bool :=
  (storeKeys s.sched.jobs).any (fun j => s.jobLive j && s.jobVi j == vi && (s.job j).record.models.contains id)

/-- A job no longer uses the models it names: those that nothing else uses are idle from now on, and those under
release leave (R186, R190). -/
def State.endModels (s : State) (j : Nat) : State :=
  (s.job j).record.models.foldl (fun s id =>
    let k := s.jobVi j * 64 + id
    match storeFind s.cache.models k with
    | none => s
    | some m =>
      if s.modelInUse (s.jobVi j) id then s
      else if m.releasing then { s with cache := { s.cache with models := storeDrop s.cache.models k } }
      else { s with cache := { s.cache with models := storePut s.cache.models k { m with lastUse := s.periods } } }) s

/-- A job reached a final state: its FAILED granules are released and its private regions end. DEDUCED: where a granule of
it was discarded, "every granule it owned has confirmed" no longer comes true for the jobs downstream of it (R203). -/
def State.finishJob (s : State) (j st : Nat) : State :=
  let s := s.discard j (s.ownedBy j)
  let s := if (s.job j).discarded = 0 then s
    else (s.downstream j).foldl (fun s k => s.modJob k (fun x => { x with upstreamLost := true })) s
  let s := s.modJob j (fun x => { x with endTime := s.periods, settled := true })
  ((s.setJobState j st).endModels j).unready j

/-- Whether R211 makes the job leave no trace: token 0 is false and no unbound buffer granule confirmed. A squashed
member of a chain that holds no tokens counts as one whose token 0 is false. -/
def State.traceless (s : State) (j : Nat) : Bool :=
  (s.job j).unboundConfirmed == 0
    && (if (s.job j).tokenCount = 0 then (s.job j).squashed else s.tokenState j 0 == 3)

/-- Whether a token of the job is still pending: a halted job then stays SETTLING (R219). -/
def State.tokensPending (s : State) (j : Nat) : Bool :=
  (List.range (s.job j).tokenCount).any (fun i => s.tokenState j i == 1)

/-- Whether everything a halted job waits for is decided: its tokens, and its granules unless it is squashed. -/
def State.settleDue (s : State) (j : Nat) : Bool :=
  !s.tokensPending j && ((s.job j).squashed || !s.awaits j)

/-- An RT job reached DONE: its partition counts it for the job's frame (R287). -/
def State.countDone (s : State) (j : Nat) : State :=
  let p := (s.job j).record.partition
  let x : RtPartition := storeGet {} s.sched.parts p
  let x := if (s.job j).record.targetFrame = s.fget F.schFrame_frame 4 0 0 % 65536 then
      { x with finished := x.finished + 1 }
    else { x with lastFinished := x.lastFinished + 1 }
  { s with sched := { s.sched with parts := storePut s.sched.parts p x } }

/-- Settles a job whose engines have all stopped and whose granules are all decided, releases its completion record
(R235), and frees a squashed job's context without one (R211). -/
def State.settle (s : State) (j : Nat) : State :=
  if (s.job? j).isNone || (s.job j).held then s
  else
    let st := s.jobState j
    if st = jsSettling then
      if s.allStopped j && s.settleDue j then
        if s.traceless j then
          (s.finishJob j jsSquashed).freeJob j
        else
          let s := s.finishJob j jsDone
          let s := if s.jobClass j = 0 then s.countDone j else s
          let s := s.modJob j (fun x => { x with held := true })
          s.releaseCompletion (s.job j).record.cq { job := some j, bytes := s.jobCompletion j 0 }
      else s
    else if jobFinal st then
      if s.allStopped j then
        let s := s.releaseEngines j
        let s := s.modJob j (fun x => { x with held := true })
        s.releaseCompletion (s.job j).record.cq { job := some j, bytes := s.jobCompletion j 0 }
      else s
    else s

/-- The squashed members of a chain settle after a resolution or a stop. -/
def State.settleAll (s : State) : State :=
  (storeKeys s.sched.jobs).foldl (fun s j => s.settle j) s

/-- Stops a job in a final state (R217): its pending tokens resolve false, its provisional granules are discarded,
the members of the chain downstream are squashed (R219), and the scheduler is told. Engines still running go on to their
own stop. -/
def State.stopJob (s : State) (j st code : Nat) : State :=
  if s.jobLive j then
    let s := s.resolveRange j 0 (fun _ => false) byStop (s.job j).tokenCount
    let down := s.downstream j
    let s := (s.modJob j (fun x => { x with readers := down })).squash j 8
    let s := s.modJob j (fun x => { x with faultCode := if x.faultCode = 0 then code else x.faultCode })
    let s := s.finishJob j st
    let s := if st = jsFaulted then s.postJobEvent 3 j 0 else if st = jsReset then s.postJobEvent 6 j 0 else s
    (s.settle j).settleAll
  else s

/-- Tokens [first, first + n) of a job resolve: where one resolves false, discards and squashes follow in the same update;
jobs that this settles settle (R210, R219). -/
def State.resolveTokens (s : State) (j first : Nat) (outcome : Nat → Bool) (how n : Nat) : State :=
  let t := s.resolveRange j first outcome how n
  let t := if (s.job j).tokensFalse < (t.job j).tokensFalse then t.squash j 8 else t
  (t.postJobEvent 5 j 0).settleAll

/-! ### Who reads what (R206, R209) -/

/-- A reader as the gate sees it: a job's engine or ring, or anything else. -/
inductive GateReader where
  | job (j : Nat)
  | other
deriving DecidableEq, Repr

/-- Whether a read of granule entry e by this reader goes to the provisional slot. -/
def State.steersProvisional (s : State) (r : GateReader) (d e : Nat) : Bool :=
  match r with
  | .other => false
  | .job j =>
    let o := s.tvt F.cgTvtEntry_owner d e
    let st := s.granState d e
    (st == gOpen || st == gMarked) && (o == j || s.inChain j o)

/-- The slot a read of a granule is steered to, and the version it carries (R206). -/
def State.steerSlot (s : State) (r : GateReader) (d e : Nat) : Nat × Nat :=
  let slot := s.tvt F.cgTvtEntry_confirmed_slot d e
  let v := s.tvt F.cgTvtEntry_version d e
  if s.steersProvisional r d e then (1 - slot, (v + 1) % 65536) else (slot, v)

/-- The address that a read of a byte goes to. -/
def State.steer (s : State) (r : GateReader) (addr : Nat) : Nat :=
  match s.publicAt addr with
  | none => addr
  | some (d, b) =>
    let g := (addr - s.bufBase d b) / granBytes
    s.slotAddr d b g (s.steerSlot r d (s.bufFirst d b + g)).1 + (addr - s.bufBase d b) % granBytes

/-- The version that a read of an address carries; zero outside public ranges. -/
def State.steerVersion (s : State) (r : GateReader) (addr : Nat) : Nat :=
  match s.publicAt addr with
  | none => 0
  | some (d, b) => (s.steerSlot r d (s.bufFirst d b + (addr - s.bufBase d b) / granBytes)).2

/-- The pieces of [a, a + n) between multiples of size. -/
def pieces (size a n : Nat) : Nat → List (Nat × Nat)
  | 0 => []
  | fuel + 1 =>
    if n = 0 then []
    else
      let k := min n (size - a % size)
      (a, k) :: pieces size (a + k) (n - k) fuel

/-- The pieces of [a, a + n) by granules of 64 KiB. -/
def granPieces (a n : Nat) : List (Nat × Nat) := pieces granBytes a n (n / granBytes + 2)

/-- The bytes that a steered read of [a, a + n) returns. -/
def State.steeredBytes (s : State) (r : GateReader) (a n : Nat) : List Byte :=
  ((granPieces a n).map (fun p => s.bytesAt (s.steer r p.1) p.2)).flatten

/-- Notes that a job read a provisional slot of another: a squash of the owner reaches the reader (R210). -/
def State.noteRead (s : State) (r : GateReader) (a n : Nat) : State :=
  match r with
  | .other => s
  | .job j =>
    (granPieces a n).foldl (fun s p =>
      match s.publicAt p.1 with
      | none => s
      | some (d, b) =>
        let e := s.bufFirst d b + (p.1 - s.bufBase d b) / granBytes
        let o := s.tvt F.cgTvtEntry_owner d e
        if s.steersProvisional r d e && o != j then
          s.modJob o (fun x => { x with readers := if x.readers.contains j then x.readers else x.readers ++ [j] })
        else s) s

end Sys2Proof.Machine
end

