-- ==== Sys2Proof/Machine/CacheOps.lean ====
section
/-! DEFINITION. Partition granules and their owners, and the model cache's shared operations: allotments, values,
drops, placement and loads (R157, R158, R182 to R190). -/

namespace Sys2Proof.Machine

/-! ### Owners (R158) -/

/-- The owner that an entry names: none, an instance, or a partition. -/
def granuleOwner (kind vi rt : Nat) : Option (Bool × Nat) :=
  if kind = 0 then none else if kind = 2 then some (true, rt) else some (false, vi)

/-- Entry idx of the scratchpad granules of a die. -/
def State.granKind (s : State) (die idx : Nat) : Nat := s.fget F.spmGranuleN_kind die idx 0
def State.granVi (s : State) (die idx : Nat) : Nat := s.fget F.spmGranuleN_vi die idx 0
def State.granOwner (s : State) (die idx : Nat) : Option (Bool × Nat) :=
  granuleOwner (s.granKind die idx) (s.granVi die idx) (s.fget F.spmGranuleN_rt_partition die idx 0)

/-- The register index of a die granule (R157). -/
def granReg (g : Nat) : Nat := g / 16 * 0x2000 + g % 16

/-- The instance that holds the granules of an owner: an RT partition's are those of the instance it serves (R370). -/
def State.ownerVi (s : State) (o : Option (Bool × Nat)) : Option Nat :=
  match o with
  | none => none
  | some (false, vi) => some vi
  | some (true, p) => (storeFind s.sched.parts p).map (fun x => x.vi)

/-- The granules that instances hold follow a change of owner (R388). -/
def State.countGranule (s : State) (o : Option (Bool × Nat)) (up : Bool) : State :=
  match s.ownerVi o with
  | some vi =>
    let n := s.fget F.viUse_granules 4 0 vi
    s.fset F.viUse_granules 4 0 vi (if up then n + 1 else n - 1)
  | none => s

/-- An owner entry is written; a change of the owner scrubs the granule. -/
def State.setGranule (s : State) (die g kind vi rt : Nat) : State :=
  let i := granReg g
  let old := s.granOwner die i
  let new := granuleOwner kind vi rt
  let s := s.fset F.spmGranuleN_kind die i 0 kind
  let s := s.fset F.spmGranuleN_vi die i 0 vi
  let s := s.fset F.spmGranuleN_rt_partition die i 0 rt
  if old = new then s
  else
    let s := (s.countGranule old false).countGranule new true
    let s := s.scrub (spmBase die 0 + g * 0x100000) 0x100000
    let s := s.fset F.spmGranuleN_scrubbing die i 0 1
    { s with vis := { s.vis with borrowed := storeDrop s.vis.borrowed (die * 128 + g) } }

/-! ### An instance's allotment on a die (R183) -/

/-- The scratchpad address of a die granule. -/
def granuleAddr (die g : Nat) : Nat := spmBase die 0 + g * 0x100000

/-- Whether a die granule belongs to an instance's allotment for jobs and models. -/
def State.allotted (s : State) (vi die g : Nat) : Bool :=
  (s.granKind die (granReg g) == 1 || s.granKind die (granReg g) == 3) && s.granVi die (granReg g) == vi

/-- The granules of a model: two for each 2 MiB of its length. -/
def modelPairs (length : Nat) : Nat := (length + 0x1FFFFF) / 0x200000

/-- Whether a die granule holds part of a model. -/
def Model.covers (m : Model) (die g : Nat) : Bool :=
  m.die == die && (match m.base with
    | none => false
    | some b => b ≤ g && g < b + modelPairs m.length * 2)

/-- Whether a die granule holds a slot of a registered buffer (R247). -/
def State.holdsBuffer (s : State) (die g : Nat) : Bool :=
  let a := granuleAddr die g
  allBuffers.any (fun p => s.bufValid p.1 p.2
    && ((s.bufBase p.1 p.2 < a + 0x100000 && a < s.bufBase p.1 p.2 + s.bufGranules p.1 p.2 * granBytes)
      || (s.bufShadow p.1 p.2 < a + 0x100000 && a < s.bufShadow p.1 p.2 + s.bufGranules p.1 p.2 * granBytes)))

/-- The live job that holds a die granule by one of its private regions. -/
def State.regionHolder (s : State) (die g : Nat) : Option Nat :=
  let a := granuleAddr die g
  (storeKeys s.sched.jobs).find? (fun j =>
    s.jobLive j && (s.job j).record.privates.any (fun p => p.base < a + 0x100000 && a < p.base + p.bytes)
      && !(s.job j).spilled.any (fun x => x.addr == a))

/-- Whether a die granule is free for an instance: in its allotment, with no model, region or buffer. -/
def State.granFree (s : State) (vi die g : Nat) : Bool :=
  s.allotted vi die g && !s.cache.models.any (fun p => p.2.covers die g) && (s.regionHolder die g).isNone
    && !s.holdsBuffer die g && bit (s.fget F.cfgCapsClusterMap_cluster_usable 4 0 0) (die * 8 + g / 16)

/-- The free cache granules of an instance on a die: pairs of aligned partition granules, by pair number. -/
def State.freePairs (s : State) (vi die : Nat) : List Nat :=
  (List.range 64).filter (fun p => s.granFree vi die (2 * p) && s.granFree vi die (2 * p + 1))

/-- The first of n consecutive numbers of a list below k. -/
def findRun (free : List Nat) (n k : Nat) : Option Nat :=
  (List.range k).find? (fun p => (List.range n).all (fun i => free.contains (p + i)))

/-- The number of cache granules of an instance's allotment on a die. -/
def State.allotPairs (s : State) (vi die : Nat) : Nat :=
  ((List.range 64).filter (fun p => s.allotted vi die (2 * p) && s.allotted vi die (2 * p + 1))).length

/-! ### Models -/

def State.model? (s : State) (vi id : Nat) : Option Model := storeFind s.cache.models (vi * 64 + id)

def State.putModel (s : State) (vi id : Nat) (m : Model) : State :=
  { s with cache := { s.cache with models := storePut s.cache.models (vi * 64 + id) m } }

/-- A model marked ABSENT: its granules are free. -/
def State.dropModel (s : State) (vi id : Nat) : State :=
  match s.model? vi id with
  | none => s
  | some m => s.putModel vi id { m with state := .absent, base := none }

/-- The load time of a model in µs at the typical bandwidth of a die (R186). -/
def reloadUs (length : Nat) : Nat := (length + 531999) / 532000

/-- Milliseconds since a model was last in use. DESIGN CHOICE: a model that no job has used yet counts from the start of
the time counter. -/
def State.idleMs (s : State) (m : Model) : Nat := (s.periods - m.lastUse) / 38400

/-- Whether a × 2^(−i / 500) lies below b × 2^(−k / 500): both sides to the power of 500. -/
def valueBelow (a i b k : Nat) : Bool := a ^ 500 * 2 ^ k < b ^ 500 * 2 ^ i

/-- The models of an instance on a die that a load may drop: neither pinned nor in use (R186). -/
def State.droppable (s : State) (vi die : Nat) : List (Nat × Model) :=
  (s.cache.models.filter (fun p => p.1 / 64 == vi && p.2.die == die && p.2.state == .resident && !p.2.pinned
    && !s.modelInUse vi (p.1 % 64))).map (fun p => (p.1 % 64, p.2))

/-- The member of a list of models with the lowest value; the lower id wins (R186). -/
def State.leastValue (s : State) : List (Nat × Model) → Option Nat
  | [] => none
  | x :: t =>
    match s.leastValue t with
    | none => some x.1
    | some y =>
      match t.find? (fun p => p.1 == y) with
      | none => some x.1
      | some q => if valueBelow (reloadUs q.2.length) (s.idleMs q.2) (reloadUs x.2.length) (s.idleMs x.2)
        then some y else some x.1

/-- The prefetches of an instance on a die that no job names. -/
def State.prefetches (s : State) (vi die : Nat) : List Nat :=
  (s.cache.models.filter (fun p => p.1 / 64 == vi && p.2.die == die && p.2.state == .prefetching
    && !s.modelInUse vi (p.1 % 64))).map (fun p => p.1 % 64)

/-- Moves a model to the cache granules from a pair on: copied within its die, with the poison that lies on it, and not
reloaded (R183). -/
def State.moveModel (s : State) (vi id pair : Nat) : State :=
  match s.model? vi id with
  | none => s
  | some m =>
    match m.base with
    | none => s
    | some b =>
      let n := modelPairs m.length
      let s := (List.range (n * 2)).foldl (fun s i =>
        let g := 2 * pair + i
        s.setGranule m.die g 3 vi (s.fget F.spmGranuleN_rt_partition m.die (granReg g) 0)) s
      (s.copyMarked (granuleAddr m.die b) (granuleAddr m.die (2 * pair)) (n * 0x200000)).putModel vi id
        { m with base := some (2 * pair) }

/-- Moves the models of an instance on a die that no live job names towards its first cache granules, in the order in
which they lie. -/
def State.compact (s : State) (vi die : Nat) : State :=
  (List.range 64).foldl (fun s p =>
    match s.cache.models.find? (fun q => q.1 / 64 == vi && q.2.die == die && q.2.state == .resident
      && q.2.base == some (2 * p) && !s.modelInUse vi (q.1 % 64)) with
    | none => s
    | some q =>
      let n := modelPairs q.2.length
      match findRun (s.freePairs vi die ++ (List.range n).map (· + p)) n 64 with
      | none => s
      | some t => if t < p then s.moveModel vi (q.1 % 64) t else s) s

/-- A run of n free cache granules, if need be after models have moved together (R183). -/
def State.runOf (s : State) (vi die n : Nat) : Option (State × Nat) :=
  match findRun (s.freePairs vi die) n 64 with
  | some p => some (s, p)
  | none =>
    let t := s.compact vi die
    (findRun (t.freePairs vi die) n 64).map (fun p => (t, p))

/-- Room for n cache granules of a demand load: free granules, if need be after a move, else prefetches are cancelled,
then models are dropped in ascending order of value, until the load fits (R183, R186, R189). -/
def State.makeRoom (s : State) (vi die n : Nat) : Nat → Option (State × Nat)
  | 0 => none
  | fuel + 1 =>
    match s.runOf vi die n with
    | some r => some r
    | none =>
      match s.prefetches vi die with
      | id :: _ => (s.dropModel vi id).makeRoom vi die n fuel
      | [] =>
        match s.leastValue (s.droppable vi die) with
        | none => none
        | some id => (s.dropModel vi id).makeRoom vi die n fuel

/-- A load starts into the cache granules from a pair on: they take the kind CACHE. -/
def State.startLoad (s : State) (vi id pair cls : Nat) (st : ModelState) : State :=
  match s.model? vi id with
  | none => s
  | some m =>
    let s := (List.range (modelPairs m.length * 2)).foldl (fun s i =>
      let g := 2 * pair + i
      s.setGranule m.die g 3 vi (s.fget F.spmGranuleN_rt_partition m.die (granReg g) 0)) s
    s.putModel vi id { m with state := st, base := some (2 * pair), loadClass := cls }

/-- A model is wanted at a class: a prefetch becomes a demand load, and an absent model's load starts where room can
be made (R184, R186, R189). The firmware of the model's die decides both. -/
def State.demandModel (s : State) (vi id cls : Nat) : State :=
  match s.model? vi id with
  | none => s
  | some m =>
    if !s.firmwareStarts m.die then s
    else match m.state with
    | .prefetching => s.putModel vi id { m with state := .loading, loadClass := cls }
    | .absent =>
      match s.makeRoom vi m.die (modelPairs m.length) 130 with
      | none => s
      | some (t, p) => t.startLoad vi id p cls .loading
    | _ => s

/-- A pinned model that a cluster c lost is loaded elsewhere in its allotment on the die, or its pin is lost (R190). The
load waits for the firmware of the die. -/
def State.repin (s : State) (key c : Nat) : State :=
  let vi := key / 64
  let id := key % 64
  match s.model? vi id with
  | none => s
  | some m =>
    if !m.pinned || m.state != .absent then s
    else if !s.firmwareStarts m.die then { s with cache := { s.cache with repins := s.cache.repins ++ [(key, c)] } }
    else
      let t := s.demandModel vi id m.loadClass
      if (t.model? vi id).any (fun n => n.state == .loading) then t
      else (s.putModel vi id { m with pinLost := true }).raiseSide
        { recOf E.mcDropped m.die 0x04 c with vi := some vi, detail := unitDetail m.die c 0 }

/-- The pinned models that wait for the firmware. -/
def State.repinAll (s : State) : State :=
  s.cache.repins.foldl (fun s p => s.repin p.1 p.2) { s with cache := { s.cache with repins := [] } }

/-- The models of a cluster that left service are dropped; a pinned one is loaded elsewhere (R190). -/
def State.clusterLost (s : State) (cluster : Nat) : State :=
  let die := cluster / 8
  let c := cluster % 8
  let hit := fun (m : Model) => (List.range 16).any (fun i => m.covers die (c * 16 + i))
  (s.cache.models.filter (fun p => hit p.2)).foldl (fun s p =>
    (s.dropModel (p.1 / 64) (p.1 % 64)).repin p.1 c) s

/-! ### An instance that shrinks (R378) -/

/-- Whether a die granule is borrowed by its instance: it lies outside the guaranteed allotment (R248, R368). -/
def State.granBorrowed (s : State) (die g : Nat) : Bool := setHas s.vis.borrowed (die * 128 + g)

def State.spmMin (s : State) (unit d : Nat) : Nat := bits (s.reg (fldAddr F.viSpm_spm_min0 4 0 unit)) (16 * d) 8
def State.spmMax (s : State) (unit d : Nat) : Nat := bits (s.reg (fldAddr F.viSpm_spm_min0 4 0 unit)) (16 * d + 8) 8

/-- The die granules that an instance holds, borrowed or guaranteed. -/
def State.heldGranules (s : State) (vi die : Nat) (borrowed : Bool) : List Nat :=
  (List.range 128).filter (fun g =>
    (s.granKind die (granReg g) == 1 || s.granKind die (granReg g) == 3 || s.granKind die (granReg g) == 4)
      && s.granVi die (granReg g) == vi && s.granBorrowed die g == borrowed)

/-- The die granules of an instance's RT partitions, which count towards spm_min (R387). -/
def State.rtGranules (s : State) (vi die : Nat) : Nat :=
  ((List.range 128).filter (fun g => s.granKind die (granReg g) == 2
    && (storeGet {} s.sched.parts (s.fget F.spmGranuleN_rt_partition die (granReg g) 0)).vi == vi)).length

/-- The guaranteed granules of an instance on a die. -/
def State.guaranteed (s : State) (vi die : Nat) : Nat :=
  (s.heldGranules vi die false).length + s.rtGranules vi die

/-- A granule that an instance over its limits gives up: a free borrowed one where it holds more than spm_max, a free
guaranteed one where it holds more than spm_min; and whether it is over a limit at all. -/
def State.overLimit (s : State) (vi die : Nat) : Bool × Option Nat :=
  let n := s.guaranteed vi die
  let b := s.heldGranules vi die true
  let overMin := s.spmMin (committed vi) die < n
  let overMax := s.spmMax (committed vi) die < n + b.length
  let free := fun (l : List Nat) => (l.filter (fun g => s.granFree vi die g)).getLast?
  (overMin || overMax,
    match (if overMax then free b else none), (if overMin then free (s.heldGranules vi die false) else none) with
    | some g, _ => some g
    | none, r => r)

/-- The pinned models of an instance on a die that no live job names. -/
def State.pinnedIdle (s : State) (vi die : Nat) : List Nat :=
  (s.cache.models.filter (fun p => p.1 / 64 == vi && p.2.die == die && p.2.state == .resident && p.2.pinned
    && !s.modelInUse vi (p.1 % 64))).map (fun p => p.1 % 64)

/-- An instance gives up granules on a die until its limits hold or nothing more is free: free granules, then models
in ascending order of value, then pinned models, whose pins are lost (R186, R190). -/
def State.shrinkDie (s : State) (vi die : Nat) : Nat → State
  | 0 => s
  | fuel + 1 =>
    match s.overLimit vi die with
    | (false, _) => s
    | (true, some g) => (s.setGranule die g 0 0 0).shrinkDie vi die fuel
    | (true, none) =>
      match s.leastValue (s.droppable vi die) with
      | some id => (s.dropModel vi id).shrinkDie vi die fuel
      | none =>
        match s.pinnedIdle vi die with
        | [] => s
        | id :: _ =>
          let c := (((s.model? vi id).bind (fun m => m.base)).getD 0) / 16
          let s := s.dropModel vi id
          let s := match s.model? vi id with
            | none => s
            | some m => s.putModel vi id { m with pinLost := true }
          (s.raiseSide { recOf E.mcDropped die 0x04 c with vi := some vi, detail := unitDetail die c 0 }).shrinkDie
            vi die fuel

/-- Every instance that shrinks gives up what is free; one whose limits hold everywhere has shrunk. -/
def State.shrinkAll (s : State) : State :=
  (storeKeys s.vis.shrinking).foldl (fun s vi =>
    let s := (List.range 4).foldl (fun s d => s.shrinkDie vi d 400) s
    if (List.range 4).any (fun d => (s.overLimit vi d).1) then s
    else { s with vis := { s.vis with shrinking := storeDrop s.vis.shrinking vi } }) s

end Sys2Proof.Machine
end

