-- ==== Sys2Proof/Machine/SafetyOps.lean ====
section
/-! DEFINITION. Shared operations of functional safety: the live states of outputs and the doubts that move them,
the safe state, the capability table, engines that leave and return to service, and check failures (R33, R108, R240,
R287, R288, R303, R305, R316, R317). -/

namespace Sys2Proof.Machine

/-! ### Safety outputs (R286 to R288) -/

def outInvalid : Nat := 0
def outValid : Nat := 1
def outDegraded : Nat := 2
def outNone : Nat := 3

/-- Reason codes of R309. -/
def rsNone : Nat := 0x00
def rsCheckFailure : Nat := 0x01
def rsGolden : Nat := 0x02
def rsRtOverrun : Nat := 0x03
def rsRtInput : Nat := 0x04
def rsMarginLost : Nat := 0x05
def rsTelltale : Nat := 0x07
def rsGateway : Nat := 0x08
def rsFallbackLost : Nat := 0x09
def rsFixedPaceLost : Nat := 0x0A
def rsNoImage : Nat := 0x10
def rsRetired : Nat := 0x11
def rsTimeInvalid : Nat := 0x12
def rsS4Fatal : Nat := 0x13
def rsWatchdog : Nat := 0x14
def rsThermalTrip : Nat := 0x15
def rsSoftware : Nat := 0x16
def rsEscalation : Nat := 0x17
def rsRailLoss : Nat := 0x18
def rsRestartLimit : Nat := 0x19
def rsStarting : Nat := 0x1A

/-- The number of declared outputs. -/
def State.outputs (s : State) : Nat := s.fget F.safId_outputs 4 0 0

def State.outKind (s : State) (o : Nat) : Nat := s.fget F.safOut_kind 4 0 o
def State.outIndex (s : State) (o : Nat) : Nat := s.fget F.safOut_index 4 0 o
def State.outFallback (s : State) (o : Nat) : Nat := s.fget F.safOut_fallback 4 0 o
def State.live (s : State) (o : Nat) : Nat := s.fget F.safOut_live_state 4 0 o
def State.decided (s : State) (o : Nat) : Nat := s.fget F.safOut_decided_state 4 0 o

/-- Whether the time counter has passed an offset from the start of the current frame (R290). -/
def State.afterStart (s : State) (off : Nat) : Bool := s.safety.frameRun && s.safety.frameStart + off ≤ s.periods

/-- Whether an output has a fallback slot. -/
def State.hasFallback (s : State) (o : Nat) : Bool := s.outFallback o != 0xFF

/-- The fallback's state: 0 AVAILABLE, 1 UNAVAILABLE, 2 NOT_CONFIGURED (R308). -/
def State.fallbackState (s : State) : Nat := s.fget F.safStatus_fallback 4 0 0

/-- The fallback's state set in both registers that show it. -/
def State.setFallback (s : State) (v : Nat) : State :=
  (s.fset F.safStatus_fallback 4 0 0 v).fset F.chuStatus_fallback 4 0 0 v

/-- The reason field of SAF_STATUS follows the latest change unless a device-level reason lasts (R309). -/
def State.noteReason (s : State) (reason : Nat) : State :=
  let s := { s with safety := { s.safety with lastReason := reason } }
  if s.safety.deviceReason = 0 then s.fset F.safStatus_reason 4 0 0 reason else s

/-- A live state set to another value, with not_valid beside it. -/
def State.putLive (s : State) (o st : Nat) : State :=
  let s := s.fset F.safOut_live_state 4 0 o st
  s.fset F.safLive_not_valid 4 0 0 (setBit (s.fget F.safLive_not_valid 4 0 0) o (st != outValid))

/-- How bad a state is: the worse of two doubts stands (R287). -/
def outRank (st : Nat) : Nat := if st = outInvalid then 2 else if st = outDegraded then 1 else 0

/-- Moves a declared output to a state no better than it has; the reason is that of the first doubt. -/
def State.worsen (s : State) (o st reason : Nat) : State :=
  if s.live o = outNone ∨ outRank st ≤ outRank (s.live o) then s
  else
    let first := s.live o == outValid
    let s := s.putLive o st
    let s := if first then s.fset F.safOut_last_reason 4 0 o reason else s
    let s := s.noteReason reason
    s.raiseFollow { recOf (if st = outDegraded then E.outputDegraded else E.outputInvalid) 4 0x08 o with
                    detail := o + reason * 2 ^ 16 }

/-- A doubt of R288 on an output in the current frame: DEGRADED where the output has a fallback that is not
UNAVAILABLE, else INVALID. -/
def State.doubt (s : State) (o reason : Nat) : State :=
  s.worsen o (if s.hasFallback o && s.fallbackState != 1 then outDegraded else outInvalid) reason

/-- A doubt on every output of a kind that names an index. -/
def State.doubtKind (s : State) (kind index reason : Nat) : State :=
  (List.range s.outputs).foldl
    (fun s o => if s.outKind o = kind ∧ s.outIndex o = index then s.doubt o reason else s) s

/-- A doubt on the outputs of an RT partition. -/
def State.doubtPartition (s : State) (p reason : Nat) : State := s.doubtKind 1 p reason

/-- The RT partitions that hold an engine now (R254). -/
def State.partitionsOf (s : State) (te : Nat) : List Nat :=
  (List.range 64).filter (fun p => bit (s.fget F.schRtEngines_engines 4 p 0) te)

/-- Whether fixed pace is lost on any island (R44). -/
def State.paceLost (s : State) : Bool := (List.range 8).any (fun d => s.fon F.pwrStatus_fixed_pace_lost d 0 0)

/-- The reason that R309 gives now. -/
def State.reasonNow (s : State) : Nat :=
  if s.safety.deviceReason ≠ 0 then s.safety.deviceReason
  else if s.fget F.safLive_not_valid 4 0 0 ≠ 0 then s.safety.lastReason
  else if s.paceLost then rsFixedPaceLost else rsNone

/-- The reason field brought up to date. -/
def State.refreshReason (s : State) : State := s.fset F.safStatus_reason 4 0 0 s.reasonNow

/-! ### The safe state (R305) -/

/-- A time for the whole warm restart, unless one stands for an earlier time. -/
def State.earlierRestart (s : State) (t : Nat) : Nat := min (s.boot.restartTime.getD t) t

/-- Enters the device safe state for a cause of R305: every output INVALID, or DEGRADED on its fallback where the
fallback continues and no earlier cause ended it; the in-band flags follow the live states. A cause already in force is not replaced by S4_FATAL
(R556). -/
def State.enterSafe (s : State) (reason : Nat) (fallbackGoesOn : Bool) : State :=
  if s.fon F.safStatus_safe_state 4 0 0 && reason == rsS4Fatal then s
  else
    let s := s.fset F.safStatus_safe_state 4 0 0 1
    let s := s.fset F.safStatus_reason 4 0 0 reason
    let s := { s with safety := { s.safety with
      deviceReason := reason, fallbackOff := s.safety.fallbackOff || !fallbackGoesOn } }
    let s := s.fadd F.safCounts_safe_entries 4 0 0 1
    let s := s.raiseFollow { recOf E.safeState 4 0x08 0xFFFF with detail := reason }
    let s := (List.range s.outputs).foldl (fun s o =>
      s.worsen o (if !s.safety.fallbackOff && s.hasFallback o && s.fallbackState != 1 then outDegraded else outInvalid)
        reason) s
    let s := if reason == rsWatchdog || reason == rsEscalation || (reason == rsS4Fatal && s.safety.s4Restart) then
        { s with boot := { s.boot with restartTime := some (s.earlierRestart (s.periods + 768000)) } } else s
    if fallbackGoesOn then s
    else
      let s := s.setFallback (if s.fallbackState = 2 then 2 else 1)
      (s.fset F.sscStatus_relaxation_timed 6 0 0 1).fset F.sscStatus_relaxation_timed 7 0 0 1

/-! ### The capability table (R30, R31, R33) -/

/-- GFT_STATUS pending: the usable engines whose test of the frame has not passed. -/
def State.countPending (s : State) : State :=
  s.fset F.gftStatus_pending 4 0 0 ((onesBelow (s.fget F.cfgCapsEngineMap_engine_usable 4 0 0) 64).filter (fun te =>
    (storeGet {} s.gft te).passedFrame != some (s.fget F.schFrame_frame 4 0 0))).length

/-- A capability change: gen is incremented in the same update, and an S0 record names the resource. -/
def State.capsChanged (s : State) (resource : Nat) : State :=
  (s.fwrap F.cfgCapsGen_gen 4 0 0 1).raiseSide { recOf E.capsChanged 4 0x0E 0xFFFF with detail := resource }

/-- The resources that CAPS_CHANGED names beside engines (0 to 63), chamois engines (64), stacks (128 on) and vector units
(192): the lifecycle state and the memory mapping. -/
def capsLifecycle : Nat := 193
def capsMapping : Nat := 194

/-- A field of the capability table set, as a change where it had another value (R33). -/
def State.setCaps (s : State) (f : Fld) (v resource : Nat) : State :=
  if s.fget f 4 0 0 = v then s else (s.fset f 4 0 0 v).capsChanged resource

def State.engineUsable (s : State) (te : Nat) : Bool :=
  bit (s.fget F.cfgCapsEngineMap_engine_usable 4 0 0) te

/-- The usable bit of an engine set or cleared, with the counts and the cluster's bit that follow it (R30, R31).
Nothing changes where it has that value. -/
def State.setUsable (s : State) (te : Nat) (u : Bool) : State :=
  if s.engineUsable te = u then s
  else
    let m := setBit (s.fget F.cfgCapsEngineMap_engine_usable 4 0 0) te u
    let s := s.fset F.cfgCapsEngineMap_engine_usable 4 0 0 m
    let s := s.fset F.cfgCapsCounts_engines 4 0 0 (popcount m 64)
    let c := te / 2
    let was := s.fget F.cfgCapsClusterMap_cluster_usable 4 0 0
    let cm := setBit was c (bit m (2 * c) || bit m (2 * c + 1))
    let s := s.fset F.cfgCapsClusterMap_cluster_usable 4 0 0 cm
    let s := s.fset F.cfgCapsCounts_clusters 4 0 0 (popcount cm 32)
    let s := (s.capsChanged te).countPending
    if bit was c && !bit cm c then s.clusterLost c else s

/-- The clusters whose vector unit is in service: neither engine took it out (R114, R318). -/
def State.unitsIn (s : State) : List Nat :=
  (List.range 32).filter (fun c =>
    !((storeGet {} s.gft (2 * c)).unitOut || (storeGet {} s.gft (2 * c + 1)).unitOut))

/-- The count of usable vector units follows (R30); nothing changes where it has that value. -/
def State.countUnits (s : State) : State :=
  if s.fget F.cfgCapsCounts_vector_units 4 0 0 = s.unitsIn.length then s
  else (s.fset F.cfgCapsCounts_vector_units 4 0 0 s.unitsIn.length).capsChanged 192

/-! ### RT partitions and their engines (R240) -/

/-- The number of usable engines of a partition. -/
def State.rtUsable (s : State) (p : Nat) : Nat :=
  popcount (Nat.land (s.fget F.schRtEngines_engines 4 p 0) (s.fget F.cfgCapsEngineMap_engine_usable 4 0 0)) 64

/-- Whether a cluster is protected: an engine of it belongs to a partition, or it holds RT granules (R423). -/
def State.clusterProtected (s : State) (c : Nat) : Bool :=
  (List.range 2).any (fun i => !(s.partitionsOf (2 * c + i)).isEmpty)
    || (List.range 16).any (fun i => s.granKind (c / 8) (granReg (c % 8 * 16 + i)) == 2)

/-- PWR_ISL shows whether a cluster's island is protected. -/
def State.refreshProtected (s : State) (c : Nat) : State :=
  s.fset F.pwrIsl_protected (c / 8) 0 (c % 8) (s.clusterProtected c).toNat

/-- The die locks that follow the engines held by RT partitions (R255), and the marks of GFT_ENG and PWR_ISL. -/
def State.lockRt (s : State) (te : Nat) (held : Bool) : State :=
  let s := s.fset F.schRtLock_engines (te / 16) 0 0
    (setBit (s.fget F.schRtLock_engines (te / 16) 0 0) (te % 16) held)
  let s := s.fset F.gftEng_rt 4 0 te held.toNat
  s.refreshProtected (te / 2)

def State.rtPart (s : State) (p : Nat) : RtPartition := storeGet {} s.sched.parts p

def State.setRtPart (s : State) (p : Nat) (x : RtPartition) : State :=
  { s with sched := { s.sched with parts := storePut s.sched.parts p x } }

/-- The engines that no partition holds. -/
def State.sharedEngine (s : State) (te : Nat) : Bool := (s.partitionsOf te).isEmpty

/-- The spare that a partition takes for a lost engine: the lowest-numbered usable shared engine of its die, else of
any die (R240); none of a cluster that is held for the secure world (R398). -/
def State.spareFor (s : State) (te : Nat) : Option Nat :=
  let ok := fun n => s.engineUsable n && s.sharedEngine n && !bit (s.fget F.secHoldMap_held 4 0 0) (n / 2)
  match ((List.range 16).map (fun e => te / 16 * 16 + e)).find? ok with
  | some n => some n
  | none => (List.range 64).find? ok

/-- The job a busy engine runs (TE_JOB), where it is one of the scheduler's. -/
def State.engineJob (s : State) (te : Nat) : Option Nat :=
  let st := s.fget F.teStatus_state (te / 16) (te % 16) 0
  let j := s.fget F.teJob_job_ctx (te / 16) (te % 16) 0
  if (st = 1 ∨ st = 2 ∨ st = 3) ∧ (s.job? j).isSome then some j else none

def gfIn : Nat := 0
def gfTesting : Nat := 1
def gfQuarantine : Nat := 2
def gfRetired : Nat := 3
def gfMargin : Nat := 4
def gfAbsent : Nat := 5

def State.gftState (s : State) (te : Nat) : Nat := s.fget F.gftEng_state 4 0 te

def State.gftOf (s : State) (te : Nat) : GftEngine := storeGet {} s.gft te

def State.setGft (s : State) (te : Nat) (x : GftEngine) : State := { s with gft := storePut s.gft te x }

/-- Whether an engine runs a golden test: the GFT keeps the registers that the test's end restores (R294). -/
def State.testing (s : State) (te : Nat) : Bool := !(s.gftOf te).saved.isEmpty

/-- Whether a block of R397 is held: 0 to 31 clusters, 32 to 47 stream engines, 48 the codec. -/
def State.blockHeld (s : State) (b : Nat) : Bool := bit (s.fget F.secHoldMap_held 4 0 0) b

/-- The job of which an engine holds a rank; none while it runs a golden test, or in a held cluster (R398). -/
def State.teJobOf (s : State) (te : Nat) : Option Nat :=
  let j := s.fget F.teJob_job_ctx (te / 16) (te % 16) 0
  if !s.testing te && !s.blockHeld (te / 2) && (s.job? j).isSome && (s.job j).ranks.contains te then some j else none

/-- Requests that every rank of a job stop and save, and that its rings pause (R244, R245 step 1): a running engine goes
to STOPPING. -/
def State.requestPreempt (s : State) (j : Nat) : State :=
  let s := (s.job j).ranks.foldl (fun s te =>
    let st := s.fget F.teStatus_state (te / 16) (te % 16) 0
    if (st = 1 ∨ st = 2) ∧ s.teJobOf te = some j then s.fset F.teStatus_state (te / 16) (te % 16) 0 3 else s) s
  (s.allRingsOf j).foldl State.opRingPause s

/-- An engine of partitions left service: the usable count follows, and a partition with spare_from_shared takes a
spare, pre-empting its work; each change writes a record (R240). -/
def State.rtEngineLost (s : State) (te : Nat) : State :=
  (s.partitionsOf te).foldl (fun s p =>
    let s := s.fset F.schRtUse_usable 4 p 0 (s.rtUsable p)
    let s := s.raiseSide { recOf E.schRtEngine 4 0x0C te with detail := p }
    if s.fon F.schRtCfg_spare_from_shared 4 p 0 then
      match s.spareFor te with
      | none => s
      | some n =>
        let s := match s.engineJob n with
          | none => s
          | some j => s.requestPreempt j
        let s := s.fset F.schRtEngines_engines 4 p 0 (setBit (s.fget F.schRtEngines_engines 4 p 0) n true)
        let s := s.lockRt n true
        let s := s.fset F.schRtUse_usable 4 p 0 (s.rtUsable p)
        let x := s.rtPart p
        (s.setRtPart p { x with lent := x.lent ++ [(te, n)] }).raiseSide
          { recOf E.schRtEngine 4 0x0C n with detail := p }
    else s) s

/-- A lost engine returned: the spares that stood in for it go back, and the usable counts follow (R240). -/
def State.rtEngineBack (s : State) (te : Nat) : State :=
  (s.partitionsOf te).foldl (fun s p =>
    let x := s.rtPart p
    let back := (x.lent.filter (fun l => l.1 == te)).map Prod.snd
    let s := s.setRtPart p { x with lent := x.lent.filter (fun l => l.1 != te) }
    let s := back.foldl (fun s n =>
      (s.fset F.schRtEngines_engines 4 p 0 (setBit (s.fget F.schRtEngines_engines 4 p 0) n false)).lockRt n false) s
    (s.fset F.schRtUse_usable 4 p 0 (s.rtUsable p)).raiseSide { recOf E.schRtEngine 4 0x0C te with detail := p }) s

/-! ### Engines out of service (R316, R317) -/

/-- Ten minutes of the time counter. -/
def tenMinutes : Nat := 38400000 * 600

/-- Counts an event of R317 on an engine: those of the last 10 minutes, this one with them. -/
def State.countEvent (s : State) (te : Nat) : State :=
  let x := s.gftOf te
  let es := x.events.filter (fun t => s.periods < t + tenMinutes) ++ [s.periods]
  let s := s.setGft te { x with events := es }
  (s.fset F.gftEng_events_10min 4 0 te (min es.length 3)).fadd F.gftEng_events_total 4 0 te 1

/-- The granules that an engine's doubt from frame f on makes FAILED, from every frame on where f is none: those of every
job that held the engine in a window of frame f or later, written by the rank it held, of frame f or later; under strict
mode also f − 1 (R213). -/
def State.goldenHits (s : State) (te : Nat) (f : Option Nat) : List (Nat × Nat × OpenGranule) :=
  ((storeKeys s.sched.jobs).map (fun j =>
    let x := s.job j
    let strict := x.record.checked && bit (s.fget F.cgConfig_strict_classes x.tokenHome 0 0) (s.jobClass j)
    let late := fun (w : Nat) => match f with
      | none => true
      | some f => (w + 65536 - (f + 65536 - strict.toNat) % 65536) % 65536 < 32768
    let ranks := (x.windows.filter (fun w => w.1 == te && late w.2.2)).map (fun w => w.2.1)
    (s.ownedBy j).filter (fun t =>
      (s.granState t.1 t.2.1 == gOpen || s.granState t.1 t.2.1 == gMarked)
        && ranks.any (bit (s.tvt F.cgTvtWriters_ranks t.1 t.2.1)) && late (s.tvt F.cgTvtEntry_frame t.1 t.2.1)))).flatten

/-- Retires an engine until the next cold start (R317). Granules of frames whose test it has not passed fail (R213,
R219). -/
def State.retire (s : State) (te : Nat) : State :=
  let s := ((s.fset F.gftEng_state 4 0 te gfRetired).fset F.teStatus_state (te / 16) (te % 16) 0 7).raiseFollow
    (recOf E.engineRetired 4 0x09 te)
  let hits := s.goldenHits te ((s.gftOf te).passedFrame.map (· + 1))
  if hits.isEmpty then s else (s.failAndReport (te / 16) hits).settleAll

/-- The chamois engines are engines 128 and 129 (R116): the spec gives them no register block, and what R147 to R153 give
an engine stands for them as the registers of a die 8, which no address of the map reaches. -/
def chamoisTe : Nat := 128

/-- The usable chamois engines changed: CHU_STATUS and the capability table follow. -/
def State.setChamois (s : State) (m : Nat) : State :=
  let s := { s with safety := { s.safety with chuUsable := m } }
  let s := s.fset F.chuStatus_engines 4 0 0 (popcount m 2)
  s.setCaps F.cfgCapsCounts_chamois_engines (popcount m 2) 64

/-- A chamois engine leaves service after an event; the third in 10 minutes retires it (R316, R317). Chamois engine k
keeps its books as engine 64 + k. -/
def State.chamoisOut (s : State) (k : Nat) : State :=
  if !bit s.safety.chuUsable k then s
  else
    let x := s.gftOf (64 + k)
    let es := x.events.filter (fun t => s.periods < t + tenMinutes) ++ [s.periods]
    let s := s.setGft (64 + k) { x with events := es, retest := es.length < 3 }
    let s := s.setChamois (setBit s.safety.chuUsable k false)
    let s := s.fset F.teStatus_state 8 k 0 7
    let s := s.raiseFollow (recOf E.engineQuarantined 4 0x11 (64 + k))
    if es.length < 3 then s
    else { s with safety := { s.safety with chuRetired := setBit s.safety.chuRetired k true } }.raiseFollow
      (recOf E.engineRetired 4 0x11 (64 + k))

/-- An engine leaves service after an event (R316 steps 2, 5 and 8): quarantine with its retests, or retirement at
the third event in 10 minutes. -/
def State.quarantine (s : State) (te : Nat) : State :=
  if chamoisTe ≤ te then s.chamoisOut (te - chamoisTe)
  else if s.gftState te = gfRetired then s
  else
    let s := s.countEvent te
    let s := s.fset F.gftEng_state 4 0 te gfQuarantine
    let s := s.fset F.teStatus_state (te / 16) (te % 16) 0 7
    let s := s.raiseFollow (recOf E.engineQuarantined 4 0x09 te)
    let lost := s.engineUsable te
    let s := s.setUsable te false
    let s := if lost then s.rtEngineLost te else s
    if 3 ≤ (s.gftOf te).events.length then s.retire te
    else s.setGft te { s.gftOf te with retest := true }

/-- Whether an engine belongs to a partition all of whose jobs are checked (R108). -/
def State.checkedPartition (s : State) (te : Nat) : Bool :=
  (s.partitionsOf te).any (fun p => (s.rtPart p).allChecked)

/-- Whether an engine works for a checked or RT job (R146); its golden test counts as a checked job (R294). -/
def State.engineJobGrave (s : State) (te : Nat) : Bool :=
  s.fon F.teJob_checked (te / 16) (te % 16) 0 || s.fget F.teJob_class (te / 16) (te % 16) 0 == 0

/-- Whether a check failure on an engine is of severity S3 (R108). -/
def State.engineGrave (s : State) (te : Nat) : Bool := s.engineJobGrave te || s.checkedPartition te

/-- The record of an event on an engine, with its job and instance (R554); S3 where it is grave. -/
def State.engineRec (s : State) (c : ErrCode) (te : Nat) (grave : Bool) : ErrRec :=
  { code := c.code, sev := if grave then 3 else c.sev
    die := if te < chamoisTe then te / 16 else 4
    block := if te < chamoisTe then 0x03 else 0x11
    unit := if te < chamoisTe then te else te - chamoisTe
    vi := (s.teJobOf te).map (fun _ => s.engineVi te), job := s.teJobOf te }

/-- The detail of a check failure (R109, R117): engine, bank and entry index, the predicted and the found residue, and
the number of further checks that failed in the same tile. -/
def checkDetail (te : Nat) (b : Bool) (entry predicted found others : Nat) : Nat :=
  te + b.toNat * 2 ^ 8 + entry * 2 ^ 16 + predicted * 2 ^ 32 + found * 2 ^ 40 + min others 65535 * 2 ^ 48

/-- An engine stops in FAULTED with a code in TE_FAULT, and its job stops FAULTED (R108, R146). -/
def State.teStop (s : State) (te : Nat) (c : ErrCode) : State :=
  let s := s.fset F.teStatus_state (te / 16) (te % 16) 0 6
  let s := s.fset F.teFault_code (te / 16) (te % 16) 0 c.code
  let s := s.fset F.teFault_pc (te / 16) (te % 16) 0 (s.fget F.teStatus_pc (te / 16) (te % 16) 0)
  let s := s.fset F.teFault_valid (te / 16) (te % 16) 0 1
  match s.teJobOf te with
  | none => s
  | some j => (s.rankStopped j (s.fget F.teJob_rank (te / 16) (te % 16) 0)).stopJob j jsFaulted c.code

/-- Effects 1 and 2 of R108 and its record: the granules that hold the engine's rank fail, and the job stops
FAULTED. -/
def State.checkStops (s : State) (c : ErrCode) (te : Nat) (detail : Nat) : State :=
  let s := s.raiseRec { s.engineRec c te (s.engineGrave te) with detail }
  let s := match s.teJobOf te with
    | none => s
    | some j => s.failAndReport (te / 16) (s.writtenBy j (s.fget F.teJob_rank (te / 16) (te % 16) 0))
  s.teStop te c

/-- A check failure on an engine (R108): the job stops, the doubt of R288 touches the partitions' outputs, and the
engine leaves service. -/
def State.checkFailure (s : State) (c : ErrCode) (te : Nat) (detail : Nat) : State :=
  let s := s.checkStops c te detail
  let s := (s.partitionsOf te).foldl (fun s p => s.doubtPartition p rsCheckFailure) s
  s.quarantine te

end Sys2Proof.Machine
end

