-- ==== Sys2Proof/Machine/Access.lean ====
section
/-! DEFINITION. The checks that a read or write request meets on its way, and its effect: map, worlds, moving ranges,
golden areas, the gate, partitions and reach, ECC (R23 to R26, R157 to R161, R176, R177, R195 to R202, R209, R224,
R292, R365, R367, R390, R391, R396). -/

namespace Sys2Proof.Machine

/-! ### Who acts (R365, R390) -/

/-- Whether an initiator belongs to an instance (R365). -/
def State.belongs (s : State) (who : Initiator) (vi : Nat) : Bool :=
  match who with
  | .core _ g => g != 63 && s.fget F.viOwner_guest 4 0 (committed vi) == g
      && s.fget F.viState_state 4 0 vi != 0
  | .engine te => !s.testing te && !s.blockHeld (te / 2) && s.engineVi te == vi
  | .ring n => !s.blockHeld (32 + n / 4) && s.ringVi n == vi
  | .dma q => s.qVi (32768 + q) == vi
  | .hostFn k => k != 0 && k - 1 == vi && s.fon F.viOwner_vf_enable 4 0 (committed vi)
  | .requester r => s.hostMode == 1 && s.ridVi r == some vi
  | .ipp n => s.fget F.ippGrpCfg_vi (6 + n / 48) (s.fget F.ippScfg_group (6 + n / 48) 0 (n % 48)) 0 == vi
  | .graphics c => s.fget F.gfxCtx_vi 5 0 c == vi
  | .service v => v == some vi
  | _ => false

/-- Whether a driver slot is LOST: 0 DETACHED, 1 ATTACHED, 2 LOST, 3 TORN_DOWN (R545). -/
def State.slotLost (s : State) (slot : Nat) : Bool := s.fget F.cfgFwDrv_state 4 0 slot == 2

/-- Whether the driver slot of an instance is LOST: what the slot's drivers do not see waits (R547). -/
def State.driverLost (s : State) (vi : Nat) : Bool :=
  (List.range 2).any (fun k => s.slotLost k && bit (s.fget F.cfgFwDrvMask_instances 4 0 k) vi)

/-- The instance named in a record of an initiator's access. -/
def State.viOf (s : State) (who : Initiator) : Option Nat := (List.range 64).find? (s.belongs who)

/-- The job for which an initiator acts: none for golden tests and vault jobs (R398). -/
def State.jobOf (s : State) (who : Initiator) : Option Nat :=
  match who with
  | .engine te => if s.testing te || s.blockHeld (te / 2) then none
    else some (s.fget F.teJob_job_ctx (te / 16) (te % 16) 0)
  | .ring n => if s.blockHeld (32 + n / 4) then none else some (s.fget F.seRingBase_job_ctx (n / 16) (n % 16 / 4 * 0x800 + n % 4) 0)
  | _ => none

/-- The world bit of an initiator's access (R390). -/
def State.secureAccess (s : State) (who : Initiator) : Bool :=
  match who with
  | .vault _ normal => !normal
  | .engine te => s.blockHeld (te / 2) && !s.testing te
  | .ring n => s.blockHeld (32 + n / 4)
  | _ => false


/-- Whether an initiator is the control cores that hold a die's write rights (R335). -/
def State.controlsDie (s : State) (who : Initiator) (d : Nat) : Bool :=
  match who with
  | .control k => k == d || k == s.actingDie d
  | _ => false

/-! ### Worlds (R391, R393, R396) -/

/-- The watermark target of an address and its granule number there: 0 to 7 the stacks in units of 2 MiB, 8 to 11
the scratchpads in units of 1 MiB. -/
def State.markPlace (s : State) (addr : Nat) : Option (Nat × Nat) :=
  match placeOf addr with
  | .lpddr => some ((stackOf s.interleaved addr).1, (stackOf s.interleaved addr).2 / 0x200000)
  | .scratchpad d _ => some (8 + d, (addr - spmBase d 0) / 0x100000)
  | _ => none

/-- A target's watermark. -/
def State.mark (s : State) (target : Nat) : Nat :=
  if target < 8 then s.fget F.secWmStackN_mark 4 target 0 else s.fget F.secWmSpmD_mark 4 (target - 8) 0

/-- Whether an address lies below its watermark. -/
def State.belowMark (s : State) (addr : Nat) : Bool :=
  match s.markPlace addr with
  | none => false
  | some (t, g) => g < s.mark t

/-- Whether a write of a vault job leaves the secure world: it must fall below the watermarks (R398). -/
def State.vaultJobStrays (s : State) (who : Initiator) (write : Bool) (addr n : Nat) : Bool :=
  write && s.secureAccess who && !who.isVault && !(s.belowMark addr && s.belowMark (addr + n - 1))

/-- Whether [a, a + n) of LPDDR6 meets the offsets [lo, hi) of a stack, both multiples of 4 KiB (R25, R393). -/
def State.meetsStack (s : State) (a n m lo hi : Nat) : Bool :=
  if n = 0 ∨ hi ≤ lo then false
  else if s.interleaved then
    let p0 := a / 0x1000
    let p1 := (a + n - 1) / 0x1000
    let k0 := (p0 + 7 - m) / 8
    m ≤ p1 && k0 ≤ (p1 - m) / 8 && k0 < hi / 0x1000 && lo / 0x1000 ≤ (p1 - m) / 8
  else a < m * 2 ^ 34 + hi && m * 2 ^ 34 + lo < a + n

/-- Whether an address lies in a range under move. -/
def State.isMoving (s : State) (addr : Nat) : Bool :=
  match s.markPlace addr with
  | none => false
  | some (t, g) =>
    match storeFind s.moves t with
    | none => false
    | some (old, new) => min old new ≤ g && g < max old new

/-- Whether a normal-world access to an address is refused (R391). -/
def State.worldRefuses (s : State) (secure : Bool) (addr n : Nat) : Bool :=
  !secure && (s.belowMark addr || s.belowMark (addr + n - 1)
    || (placeOf addr == .lpddr && s.secureLines.any (fun p => addr / 64 ≤ p.1 && p.1 ≤ (addr + n - 1) / 64))
    || (regBase 4 + 0x180000 ≤ addr && addr < regBase 4 + 0x190000)
    || (0x6000090000 ≤ addr && addr < 0x6001000000))

/-- Whether [a, a + n) of LPDDR6 meets a range under move, or lies below a watermark in part (R388, R396). -/
def State.meetsMove (s : State) (a n : Nat) : Bool :=
  s.moves.any (fun p => p.1 < 8
    && s.meetsStack a n p.1 (min p.2.1 p.2.2 * 0x200000) (max p.2.1 p.2.2 * 0x200000))

def State.meetsSecure (s : State) (a n : Nat) : Bool :=
  (List.range 8).any (fun m => s.meetsStack a n m 0 (s.mark m * 0x200000))

/-! ### Golden areas (R292) -/

/-- Whether an address lies in the golden area of a die. -/
def State.inGolden (s : State) (d addr : Nat) : Bool :=
  let b := s.safety.goldenBase[d]?.getD 0
  bit s.boot.goldenWritten d && b ≤ addr && addr < b + 0x200000

/-- Whether the rule of golden areas refuses an access of n bytes. -/
def State.goldenRefuses (s : State) (who : Initiator) (write : Bool) (addr n : Nat) : Bool :=
  match who with
  | .engine te =>
    if s.testing te then
      let out := s.safety.goldenBase[te / 16]?.getD 0 + 0x100000 + te % 16 * 0x8000
      if write then !(out ≤ addr && addr + n ≤ out + 0x8000) else !(s.inGolden (te / 16) addr)
    else (List.range 4).any (fun d => s.inGolden d addr)
  | .loader => false
  | .hardware => false
  | _ => (List.range 4).any (fun d => s.inGolden d addr)

/-! ### Partitions and reach (R157, R196, R197, R367) -/

/-- The index of the partition granule of a scratchpad address among SPM_GRANULE registers of its die. -/
def spmIndex (addr : Nat) : Nat :=
  (addr - 0x4000000000) % 0x10000000 / 0x1000000 * 0x2000 + addr % 0x1000000 / 0x100000

/-- Whether a job names a resident model that holds a die granule index (R157, CACHE). -/
def State.namesModelAt (s : State) (j d g : Nat) : Bool :=
  (s.job j).record.models.any (fun id =>
    match storeFind s.cache.models (s.jobVi j * 64 + id) with
    | none => false
    | some m => m.die == d && (match m.base with
      | none => false
      | some b => b ≤ g && g < b + (m.length + 0x1FFFFF) / 0x200000 * 2))

/-- Whether the owner entry of a scratchpad granule lets an initiator in (R157). DEDUCED: the device's own accesses for an
instance count as the instance's in granules of kind INSTANCE, since queue rings, batch buffers and layers may lie in its
scratchpad (R228, R265, R446). -/
def State.partitionAllows (s : State) (who : Initiator) (d addr : Nat) : Bool :=
  if s.controlsDie who d then true
  else
    let i := spmIndex addr
    let kind := s.fget F.spmGranuleN_kind d i 0
    let vi := s.fget F.spmGranuleN_vi d i 0
    let acts := match who with
      | .engine _ => true
      | .ring _ => true
      | .dma _ => true
      | .service _ => true
      | .ipp _ => true
      | .graphics _ => true
      | _ => false
    if kind = 1 then acts && s.belongs who vi
    else if kind = 2 then
      match s.jobOf who with
      | none => false
      | some j => s.jobClass j == 0 && (s.job j).record.partition == s.fget F.spmGranuleN_rt_partition d i 0
    else if kind = 3 then
      match s.jobOf who with
      | none => false
      | some j => s.belongs who vi && s.namesModelAt j d ((addr - spmBase d 0) / 0x100000)
    else false

/-- Whether [a, e) lies in the ranges of a list, the end of one being the start of the next. -/
def coveredBy (rs : List (Nat × Nat)) (e a : Nat) : Nat → Bool
  | 0 => false
  | fuel + 1 =>
    match rs.find? (fun r => r.1 ≤ a && a < r.2) with
    | none => false
    | some r => e ≤ r.2 || coveredBy rs e r.2 fuel

/-- The LPDDR6 extents of an instance as first and end address (R367). -/
def State.extentsOf (s : State) (vi : Nat) : List (Nat × Nat) :=
  (List.range 8).map (fun k =>
    let base := s.fget F.viExtN_base 4 k (committed vi) * 0x200000
    (base, base + s.fget F.viExtN_granules 4 k (committed vi) * 0x200000))

/-- Whether [a, a + n) lies in the LPDDR6 extents of an instance, in one or in several that adjoin (R367). -/
def State.inExtent (s : State) (vi a n : Nat) : Bool := coveredBy (s.extentsOf vi) (a + n) a 8

/-- Whether an instance owns the partition granule of a scratchpad address: the entry names it, or names an RT
partition that serves it. -/
def State.ownsGranule (s : State) (vi addr : Nat) : Bool :=
  match placeOf addr with
  | .scratchpad d _ =>
    let i := spmIndex addr
    let k := s.fget F.spmGranuleN_kind d i 0
    if k = 2 then (storeGet {} s.sched.parts (s.fget F.spmGranuleN_rt_partition d i 0)).vi == vi
    else (k == 1 || k == 3 || k == 4) && s.fget F.spmGranuleN_vi d i 0 == vi
  | _ => false

/-- Whether every partition granule that [a, a + n) touches satisfies a test on one of its addresses; no scratchpad
range is longer than the four dies' scratchpads. -/
def allGranules (p : Nat → Bool) (a n : Nat) : Bool :=
  n ≤ 0x40000000 && (List.range ((a + n - 1) / 0x100000 + 1 - a / 0x100000)).all (fun i =>
    p (max a ((a / 0x100000 + i) * 0x100000)))

/-- Whether [a, a + n) lies in an instance's reach for writing (R367). -/
def State.inReach (s : State) (vi a n : Nat) : Bool :=
  s.inExtent vi a n || (0 < n && allGranules (s.ownsGranule vi) a n)
    || (match s.publicAt a with
      | none => false
      | some (d, b) => s.bufVi d b == vi && inGranules (a + n - 1) (s.bufBase d b) (s.bufGranules d b))

/-- Whether an instance may read [a, a + n): its reach, or a public range whose mask names it. -/
def State.inReadReach (s : State) (vi a n : Nat) : Bool :=
  s.inReach vi a n || (match s.publicAt a with
    | none => false
    | some (d, b) => bit (s.fget F.cgBufReadersN_readers d b 0) vi)

/-- Whether a job names buffer b of gate d. -/
def State.namesBuffer (s : State) (j d b : Nat) : Bool := (s.job j).record.buffers.contains (some (d, b))

/-- The live job whose private region holds an address. -/
def State.privateOwner (s : State) (addr : Nat) : Option Nat :=
  (storeKeys s.sched.jobs).find? (fun j =>
    s.jobLive j && (s.job j).record.privates.any (fun p => p.base ≤ addr && addr < p.base + p.bytes))

/-- Whether a read of a registered buffer's public range is admitted (R209, R224). -/
def State.readerAdmitted (s : State) (who : Initiator) (d b : Nat) (lpddr : Bool) : Bool :=
  s.belongs who (s.bufVi d b) || (List.range 64).any (fun v =>
      bit (s.fget F.cgBufReadersN_readers d b 0) v && s.belongs who v)
    || s.controlsDie who d
    || (match who with
      | .sentinel _ => lpddr
      | .vault _ _ => lpddr
      | .loader => lpddr
      | .hardware => true
      | _ => false)
    || (match s.jobOf who with
      | none => false
      | some j => s.namesBuffer j d b)

/-- Initiators whose LPDDR6 accesses are held to their instance's reach (R24, R367). -/
def Initiator.reachBound : Initiator → Bool
  | .engine _ => true
  | .ring _ => true
  | .dma _ => true
  | .hostFn k => k != 0
  | .ipp _ => true
  | .graphics _ => true
  | .service v => v.isSome
  | _ => false

/-- Whether an initiator's LPDDR6 accesses are held to its instance's reach: a requester's too, where the map names an
instance for it (R366). -/
def State.reachBound (s : State) (who : Initiator) : Bool :=
  who.reachBound || (match who with
    | .requester r => s.hostMode == 1 && (s.ridVi r).isSome
    | _ => false)

/-- Initiators that may reach register space (R23). -/
def Initiator.reachesRegisters : Initiator → Bool
  | .engine _ => false
  | .ring _ => false
  | .dma _ => false
  | .ipp _ => false
  | .graphics _ => false
  | .fallbackPath _ => false
  | .chamois => false
  | _ => true

/-- The registers that an initiator's BARs map (R77, R384, R416): the CFG_ block for the recovery function and the debug
lane, the VI_ block for physical function 0, the doorbells for a virtual function; all of them for everyone else. -/
def Initiator.barMaps (who : Initiator) (addr : Nat) : Bool :=
  let within := fun (lo hi : Nat) => regBase 4 + lo ≤ addr && addr < regBase 4 + hi
  match who with
  | .recovery => within 0x380000 0x3C0000
  | .debug => within 0x380000 0x3C0000
  | .hostFn 0 => within 0x200000 0x280000
  | .hostFn _ => within 0x800000 0x1000000
  | _ => true

/-- Whether an initiator reaches a register address (R23). -/
def reachesRegister (who : Initiator) (addr : Nat) : Bool := who.reachesRegisters && who.barMaps addr

/-- Whether an address of the chamois SRAM lies in the fallback batch (R260, R313). -/
def inFallbackBatch (addr : Nat) : Bool :=
  let a := 0x4040000000 + Config.fallbackBatch.1
  a ≤ addr && addr < a + Config.fallbackBatch.2

/-- The chamois unit, or one of its engines. -/
def Initiator.isChamois : Initiator → Bool
  | .chamois => true
  | .engine te => chamoisTe ≤ te
  | _ => false

/-- Whether the map of R23 lets an initiator into a part of the address space. -/
def State.mapAllows (s : State) (who : Initiator) (write : Bool) (addr : Nat) : Bool :=
  if who.isChamois then placeOf addr == .chamois
  else
  match placeOf addr with
  | .lpddr => s.stackUp (stackOf s.interleaved addr).1
      && (match who with
        | .recovery => addr < 0x40000000
        | .fallbackPath _ => false
        | .debug => addr < 0x40000000
        | _ => true)
  | .scratchpad _ _ => true
  | .chamois =>
    match who with
    | .sentinel _ => true
    | .fallbackPath _ => write && inFallbackBatch addr
    | .hardware => true
    | _ => false
  | .flash =>
    if write then s.flashWriter who addr
    else
      match who with
      | .loader => true
      | .vault _ _ => true
      | .sentinel _ => inHlog addr
      | _ => false
  | .registers => reachesRegister who addr
  | .outbound => (s.jobOf who).isNone || !write
  | .reserved => false

/-! ### Who is heard (R19, R21, R41, R54) -/


/-- The island in which an initiator works, where R422 numbers it. -/
def Initiator.island : Initiator → Option (Nat × Nat)
  | .core h _ => some (4, h / 4)
  | .control d => some (d, 8)
  | .engine te => some (te / 16, te % 16 / 2)
  | .ring n => some (n / 16, 8)
  | .dma _ => some (4, 6)
  | .hostFn _ => some (7, 0)
  | .requester _ => some (7, 0)
  | .recovery => some (7, 0)
  | .debug => some (7, 0)
  | .ipp n => some (6 + n / 48, 0)
  | .fallbackPath d => some (d, 1)
  | _ => none

/-- The islands through which an access to an address goes at its target (R422). -/
def State.targetIslands (s : State) (addr : Nat) : List (Nat × Nat) :=
  match placeOf addr with
  | .lpddr => [((stackOf s.interleaved addr).1 / 2, 8)]
  | .scratchpad d k => [(d, 8), (d, k)]
  | .outbound => [(7, 0)]
  | .registers =>
    let d := (addr - regBase 0) / 0x1000000
    let off := (addr - regBase 0) % 0x1000000
    if off < 0x20000 then []
    else if d < 4 then
      if 0x100000 ≤ off ∧ off < 0x200000 then [(d, 8), (d, off / 0x10000 % 16 / 2)]
      else if 0x200000 ≤ off ∧ off < 0x280000 then [(d, 8), (d, off / 0x10000 % 8)]
      else [(d, 8)]
    else if d = 4 then
      if (0x140000 ≤ off ∧ off < 0x180000) ∨ (0x200000 ≤ off ∧ off < 0x380000) ∨ 0x800000 ≤ off then [(4, 6)] else []
    else if d = 5 then [(5, if 0x300000 ≤ off then 9 else 8)]
    else [(d, if 0x3C0000 ≤ off then 1 else 0)]
  | _ => []

/-- Whether the debug lane is active: only in DEV (R21, R76). -/
def State.debugOn (s : State) : Bool := s.fget F.cfgCapsId_lifecycle 4 0 0 == 1 && !s.boot.debugOff

/-- Whether an initiator's access is heard: not in a device that has stopped, not of a debug lane that is off, and not
where a frozen island completes no step. DEDUCED: an access that is not heard has no effect and gets no answer. -/
def State.hears (s : State) (who : Initiator) (addr : Nat) : Bool :=
  who == .hardware || (!s.boot.stopped && (who != .debug || s.debugOn)
    && (match who.island with
      | none => true
      | some x => !s.islandFrozen x.1 x.2)
    && (s.targetIslands addr).all (fun x => !s.islandFrozen x.1 x.2))

/-! ### The verdict -/

/-- The end of one request's checks: passed, or refused with a code. -/
inductive Verdict where
  | pass
  | refuse (c : ErrCode)
deriving DecidableEq, Repr

/-- Whether two jobs are members of one chain: that of a live job which both are, or are upstream of (R209). -/
def State.chained (s : State) (j k : Nat) : Bool :=
  let within := fun c x => x == c || s.inChain c x
  j == k || (storeKeys s.sched.jobs).any (fun c => s.jobLive c && within c j && within c k)

/-- The gate's rules on direct shadow accesses, foreign writes, private regions and owners (R195, R197, R200). -/
def State.gateVerdict (s : State) (who : Initiator) (write : Bool) (addr : Nat) : Verdict :=
  if (s.shadowAt addr).isSome then .refuse E.cgShadow
  else
    match s.publicAt addr with
    | some (d, b) =>
      if write then
        match s.jobOf who with
        | none => .refuse E.cgForeignWrite
        | some j =>
          if !s.namesBuffer j d b then .refuse E.cgForeignWrite
          else
            let e := s.bufFirst d b + (addr - s.bufBase d b) / granBytes
            if s.granState d e != gIdle && s.tvt F.cgTvtEntry_owner d e != j then
              .refuse (E.cgOwner.s3If (s.jobGrave j))
            else .pass
      else if s.readerAdmitted who d b (placeOf addr == .lpddr) then .pass
      else .refuse (if placeOf addr == .lpddr then E.addressRefused else E.spmPartition)
    | none =>
      match s.privateOwner addr with
      | none => .pass
      | some j =>
        match s.jobOf who with
        | none => if write then .pass else .refuse E.cgPrivate
        | some k => if write || s.chained k j then .pass else .refuse E.cgPrivate

/-- The gate's verdict on every byte of a request: what its rules name has the granularity of 64 KiB granules or of the
private regions, whose ends are tested too. -/
def State.gateVerdicts (s : State) (who : Initiator) (write : Bool) (addr n : Nat) : Verdict :=
  let ends := ((storeKeys s.sched.jobs).map (fun j => (s.job j).record.privates.map (fun p => p.base))).flatten
  let at' := (granPieces addr n).map Prod.fst ++ ends.filter (fun b => addr < b && b < addr + n)
  (((addr :: at').map (s.gateVerdict who write)).find? (· != .pass)).getD .pass

/-- Whether a job's write falls inside its named buffers or its private regions (R196), which are its own while it is live
(R197). -/
def State.jobWriteAllowed (s : State) (j addr n : Nat) : Bool :=
  (granPieces addr n).all (fun q => (match s.publicAt q.1 with
    | none => false
    | some (d, b) => s.namesBuffer j d b)
  || (s.jobLive j && (s.job j).record.privates.any (fun p => p.base ≤ q.1 && q.1 + q.2 ≤ p.base + p.bytes)))

/-- Whether a read lies in a public range whose reader mask names the reader's instance (R157, R224). -/
def State.maskOpens (s : State) (who : Initiator) (addr : Nat) : Bool :=
  match s.publicAt addr, s.viOf who with
  | some (d, b), some v => bit (s.fget F.cgBufReadersN_readers d b 0) v
  | _, _ => false

/-- Whether LPDDR6 is in the reach of an initiator's instance for this request (R24, R367). -/
def State.reaches (s : State) (who : Initiator) (write : Bool) (addr n : Nat) : Bool :=
  match s.viOf who with
  | none => false
  | some v => if write then s.inReach v addr n else s.inReadReach v addr n

/-- Every check of a request, the most specific code first (R557). -/
def State.checkAccess (s : State) (who : Initiator) (write : Bool) (addr n : Nat) : Verdict :=
  if who == .hardware then .pass
  else if s.worldRefuses (s.secureAccess who) addr n then .refuse E.secWorld
  else if s.isMoving addr || s.isMoving (addr + n - 1) then .refuse E.secMoving
  else if s.goldenRefuses who write addr n then .refuse E.gftArea
  else if s.vaultJobStrays who write addr n then .refuse E.addressRefused
  else if !s.mapAllows who write addr || !s.mapAllows who write (addr + n - 1) then .refuse E.addressRefused
  else
    let testing := match who with
      | .engine te => s.testing te
      | _ => false
    if testing then .pass
    else
      match s.gateVerdicts who write addr n with
      | .refuse c => .refuse c
      | .pass =>
        match placeOf addr with
        | .scratchpad d _ =>
          if (!write && s.maskOpens who addr) || s.secureAccess who || allGranules (s.partitionAllows who d) addr n
          then (match s.jobOf who with
            | none => .pass
            | some j => if write && !s.secureAccess who && !s.jobWriteAllowed j addr n
              then .refuse E.addressRefused else .pass)
          else .refuse E.spmPartition
        | .lpddr =>
          if s.reachBound who && !s.secureAccess who && !s.reaches who write addr n then .refuse E.addressRefused
          else (match s.jobOf who with
            | none => .pass
            | some j => if write && !s.secureAccess who && !s.jobWriteAllowed j addr n
              then .refuse E.addressRefused else .pass)
        | _ => .pass

/-- The error record of a refusal: it names the initiator and the address (R24), its instance and its job. -/
def State.refusalRec (s : State) (c : ErrCode) (who : Initiator) (addr : Nat) : ErrRec :=
  let die := match placeOf addr with
    | .scratchpad d _ => d
    | .lpddr => (stackOf s.interleaved addr).1 / 2
    | .outbound => 7
    | _ => 4
  let block := if c.code / 256 = 7 then 0x06 else if c.code / 256 = 6 then 0x04 else if c.code / 256 = 0x0E then 0x0A
    else if c.code / 256 = 0x0A then 0x09 else 0x00
  let grave := match who with
    | .engine te => s.engineJobGrave te
    | .ring n => s.jobGrave ((s.jobOf (.ring n)).getD 0)
    | _ => false
  let detail := if block = 0x04 then (match placeOf addr with
      | .scratchpad d k => unitDetail d k 0
      | _ => 0)
    else if block = 0x06 then
      let j := (s.jobOf who).getD 0xFFFF
      match s.publicAt addr, s.shadowAt addr with
      | some (d, b), _ => gateDetail b (s.bufFirst d b + (addr - s.bufBase d b) / granBytes) j
      | none, some (d, b) => gateDetail b (s.bufFirst d b + (addr - s.bufShadow d b) / granBytes) j
      | none, none => gateDetail 0xFFFF 0xFFFF ((s.privateOwner addr).getD j)
    else 0
  { recAccess (c.s3If grave) die block who (s.viOf who) (s.secureAccess who) addr with
    job := s.jobOf who, detail }

/-- A refusal's counters in the gate (R220). -/
def State.countRefusal (s : State) (c : ErrCode) (addr : Nat) : State :=
  match (s.publicAt addr).or (s.shadowAt addr) with
  | none => s
  | some (d, _) =>
    if c.code = E.cgForeignWrite.code ∨ c.code = E.cgShadow.code then s.fadd F.cgEvents_foreign_writes d 0 0 1
    else if c.code = E.cgOwner.code then s.fadd F.cgEvents_owner_conflicts d 0 0 1 else s

/-! ### ECC on the way (R160, R161, R176) -/

/-- A read's correctable words and lines are corrected, written back, counted and recorded. -/
def State.correctSoft (s : State) (addr n : Nat) : State :=
  match placeOf addr with
  | .scratchpad d c =>
    let ws := (storeKeys s.softWords).filter (fun w => addr / 8 ≤ w && w ≤ (addr + n - 1) / 8)
    ws.foldl (fun s w =>
      (({ s with softWords := storeDrop s.softWords w }.fadd F.spmEcc_corrected d c 0 1)).raiseSide
        { recOf E.spmEccCorr d 0x04 c with addr := some (w * 8), detail := unitDetail d c 0 }) s
  | .lpddr =>
    let ls := (storeKeys s.softLines).filter (fun w => addr / 64 ≤ w && w ≤ (addr + n - 1) / 64)
    ls.foldl (fun s w =>
      let m := (stackOf s.interleaved (w * 64)).1
      (({ s with softLines := storeDrop s.softLines w }.fadd F.memEcc_corrected (m / 2) (m % 2) 0 1)).raiseSide
        { recOf E.memEccCorr (m / 2) 0x07 (m % 2) with
          addr := some (w * 64), detail := unitDetail (m / 2) 0 (m % 2) }) s
  | _ => s

/-- Drops a model as ABSENT, pinned or not, when poison is found in it (R190). -/
def State.dropModelAt (s : State) (d addr : Nat) : State :=
  let g := (addr - spmBase d 0) / 0x100000
  match s.cache.models.find? (fun p => p.2.die == d && (match p.2.base with
      | none => false
      | some b => b ≤ g && g < b + (p.2.length + 0x1FFFFF) / 0x200000 * 2)) with
  | none => s
  | some (k, m) =>
    { s with cache := { s.cache with models := storePut s.cache.models k { m with state := .absent, base := none } }
      }.raiseSide { recOf E.mcDropped d 0x04 (g / 16) with vi := some (k / 64), detail := unitDetail d (g / 16) 0 }

/-- The uncorrectable word or line of [addr, addr + n) that is named. -/
def State.poisonAt (s : State) (addr n : Nat) : Nat :=
  match placeOf addr with
  | .scratchpad _ _ => ((storeKeys s.poisonWords).find? (fun w => addr / 8 ≤ w && w ≤ (addr + n - 1) / 8)).getD 0 * 8
  | .lpddr => ((storeKeys s.poisonLines).find? (fun w => addr / 64 ≤ w && w ≤ (addr + n - 1) / 64)).getD 0 * 64
  | _ => addr

/-- The poisoned words or lines of [addr, addr + n), by their addresses. -/
def State.poisonsIn (s : State) (addr n : Nat) : List Nat :=
  match placeOf addr with
  | .scratchpad _ _ =>
    ((storeKeys s.poisonWords).filter (fun w => addr / 8 ≤ w && w ≤ (addr + n - 1) / 8)).map (· * 8)
  | .lpddr => ((storeKeys s.poisonLines).filter (fun w => addr / 64 ≤ w && w ≤ (addr + n - 1) / 64)).map (· * 64)
  | _ => []

/-- One uncorrectable word or line counted, with its address (R164, R181). -/
def State.countBad (s : State) (a : Nat) : State :=
  match placeOf a with
  | .scratchpad d c => (s.fadd F.spmEcc_uncorrected d c 0 1).fset F.spmEccAddr_addr d c 0 a
  | .lpddr =>
    let m := (stackOf s.interleaved a).1
    (s.fadd F.memEcc_uncorrected (m / 2) (m % 2) 0 1).fset F.memEccAddr_addr (m / 2) (m % 2) 0 a
  | _ => s

/-- An uncorrectable read of [addr, addr + n): marks, counters and address registers, word by word or line by line. -/
def State.countPoison (s : State) (addr n : Nat) : State :=
  let s := s.markPoison addr n
  (s.poisonsIn addr n).foldl State.countBad s

/-- An uncorrectable read: counters, the record of R161 or R176, and the drop of a model that held the word. -/
def State.reportPoison (s : State) (who : Initiator) (addr n : Nat) : State :=
  let grave := match s.jobOf who with
    | none => false
    | some j => s.jobGrave j
  let s := s.countPoison addr n
  let w := s.poisonAt addr n
  match placeOf addr with
  | .scratchpad d c =>
    let kind := s.fget F.spmGranuleN_kind d (spmIndex addr) 0
    let s := s.raiseRec { s.refusalRec (E.spmEccUncorr.s3If (grave || kind == 2)) who w with
                          die := d, detail := unitDetail d c 0 }
    if kind = 3 then s.dropModelAt d addr else s
  | .lpddr =>
    let m := (stackOf s.interleaved w).1
    s.raiseRec { s.refusalRec (E.memEccUncorr.s3If grave) who w with
      block := 0x07, unit := m % 2, detail := unitDetail (m / 2) 0 (m % 2) }
  | _ => s

/-! ### The gate's side of a write (R199, R202) -/

/-- The buffer's granule becomes OPEN for a job: owner, bound token, and the fill of the other slot starts (R199). -/
def State.takeGranule (s : State) (j d b g : Nat) : State :=
  let e := s.bufFirst d b + g
  let s := s.setGranState d b e gOpen
  let s := s.fset F.cgTvtEntry_owner d 0 e j
  let s := s.fset F.cgTvtWriters_ranks d 0 e 0
  let s := s.fset F.cgTvtEntry_marks_rcvd d 0 e 0
  let x := s.job j
  let tok := if x.record.speculative then boundToken (s.fget F.cgBufCtrl_tok_span d b 0) g x.tokenCount else none
  let s := s.fset F.cgTvtEntry_bound d 0 e tok.isSome.toNat
  let s := s.fset F.cgTvtEntry_token d 0 e (tok.getD 0)
  { s with opens := storePut s.opens (openKey d e) { buf := b, g, filling := true } }

/-- Whether a job's writes and marks on a granule are dropped: a token it needs is false (R210), or the job is over, its
granules discarded with it (R217, R218). -/
def State.dropsWrite (s : State) (j d b g : Nat) : Bool :=
  let x := s.job j
  !s.jobLive j || (x.record.speculative && (match boundToken (s.fget F.cgBufCtrl_tok_span d b 0) g x.tokenCount with
    | none => false
    | some t => s.prefixFalse j t))

/-- The frame number a job's write carries: the window number of the writing engine, else the current frame (R295). -/
def State.writeFrame (s : State) (who : Initiator) : Nat :=
  match who with
  | .engine te => s.fget F.gftEng_window 4 0 te
  | _ => s.fget F.schFrame_frame 4 0 0 % 65536

/-- Whether a frame number of 16 bits comes before another: they count on modulo 65 536. -/
def frameBefore (a b : Nat) : Bool := 0 < (b + 65536 - a) % 65536 && (b + 65536 - a) % 65536 < 32768

/-- The outcome of one piece of a job's write into a named buffer. -/
inductive GateWrite where
  | done
  | waits
  | dropped
  | marked
deriving DecidableEq, Repr

/-- The number under which a waiting write is noted: te number, or 64 + ring number. -/
def writerCode (who : Initiator) : Nat :=
  match who with
  | .engine te => te
  | .ring n => 64 + n
  | _ => 128

/-- A job's write of bytes that lie in one granule of a named buffer: the first write into an IDLE granule takes it
and waits for the fill; a write while the fill goes on waits; the owner's write into a MARKED granule is refused. -/
def State.gateWrite (s : State) (who : Initiator) (j d b addr : Nat) (bs : List Byte) : State × GateWrite :=
  let g := (addr - s.bufBase d b) / granBytes
  let e := s.bufFirst d b + g
  if s.dropsWrite j d b g then (s, .dropped)
  else if s.granState d e = gMarked then (s, .marked)
  else if s.granState d e = gFailed then (s, .dropped)
  else
    let s := if s.granState d e = gIdle then s.takeGranule j d b g else s
    let f := s.writeFrame who
    let o : OpenGranule := (storeFind s.opens (openKey d e)).getD { buf := b, g }
    let s := if !o.written || frameBefore (s.tvt F.cgTvtEntry_frame d e) f then s.fset F.cgTvtEntry_frame d 0 e f else s
    let s := match who with
      | .engine te => s.fset F.cgTvtWriters_ranks d 0 e
          (setBit (s.fget F.cgTvtWriters_ranks d 0 e) (s.fget F.teJob_rank (te / 16) (te % 16) 0) true)
      | _ => s
    let off := (addr - s.bufBase d b) % granBytes
    if o.filling then
      ({ s with opens := storePut s.opens (openKey d e)
                  { o with written := true, stalled := o.stalled ++ [(writerCode who, off, bs)] } }, .waits)
    else
      let a := s.slotAddr d b g (1 - s.tvt F.cgTvtEntry_confirmed_slot d e) + off
      let s := { s with opens := storePut s.opens (openKey d e) { o with written := true } }
      ((s.store a bs).tagLines (s.secureAccess who) a bs.length, .done)

/-- A write that passed its checks: through the gate for a job's named buffer, else straight to its place, with the
world bit recorded in the tags of its lines (R177). -/
def State.placeWrite (s : State) (who : Initiator) (addr : Nat) (bs : List Byte) : State × GateWrite :=
  match s.jobOf who, s.publicAt addr with
  | some j, some (d, b) =>
    (granPieces addr bs.length).foldl (fun acc p =>
      let r := acc.1.gateWrite who j d b p.1 ((bs.drop (p.1 - addr)).take p.2)
      (r.1, if acc.2 = .marked then .marked else r.2)) (s, .done)
  | _, _ => ((s.store addr bs).tagLines (s.secureAccess who) addr bs.length, .done)

/-! ### One request -/

/-- What a refused request leaves beside its response: record and counters. -/
def State.refused (s : State) (c : ErrCode) (who : Initiator) (addr : Nat) : State :=
  let s := match who with
    | .engine te => if c.code = E.gftArea.code && s.testing te
        then s.setGft te { s.gftOf te with areaFault := true } else s
    | _ => s
  (s.countRefusal c addr).raiseRec (s.refusalRec c who addr)

/-- A request refused: error response, record, counters. -/
def State.refuse (s : State) (c : ErrCode) (who : Initiator) (addr : Nat) : State := (s.refused c who addr).answerError

/-- The 64-byte lines that a request to LPDDR6 moves at each stack that it reaches (R25). -/
def State.linesOn (s : State) (addr n : Nat) : List (Nat × Nat) :=
  let ps := if s.interleaved then pieces 0x1000 addr n (n / 0x1000 + 2) else [(addr, n)]
  let count := fun m => ((ps.filter (fun p => (stackOf s.interleaved p.1).1 == m)).map (fun p =>
    (p.1 + p.2 + 63) / 64 - p.1 / 64)).sum
  ((List.range 8).map (fun m => (m, count m))).filter (fun x => x.2 != 0)

/-- Counts the 64-byte lines that a request moves at the stacks it reaches (R181), and at its job (R439). -/
def State.countLines (s : State) (who : Initiator) (addr n : Nat) : State :=
  match placeOf addr with
  | .lpddr =>
    let ks := s.linesOn addr n
    let s := ks.foldl (fun s k => s.fwrap F.memLines_lines (k.1 / 2) (k.1 % 2) 0 k.2) s
    match s.jobOf who with
    | none => s
    | some j => s.modJob j (fun x => { x with lines := x.lines + (ks.map Prod.snd).sum })
  | _ => s

/-! ### Posted writes (R479 to R482) -/

/-- The die from which an initiator's requests enter the fabric. -/
def Initiator.die : Initiator → Nat
  | .control d => d
  | .engine te => if te < chamoisTe then te / 16 else 4
  | .ring n => n / 16
  | .ipp n => 6 + n / 48
  | .graphics _ => 5
  | .governor d => d
  | .hostFn _ => 7
  | .requester _ => 7
  | .recovery => 7
  | .debug => 7
  | _ => 4

/-- The die that an address lies on. -/
def State.dieOf (s : State) (addr : Nat) : Nat :=
  match placeOf addr with
  | .lpddr => (stackOf s.interleaved addr).1 / 2
  | .scratchpad d _ => d
  | .registers => (addr - regBase 0) / 0x1000000
  | .outbound => 7
  | _ => 4

/-- Whether an initiator's writes form a stream: a hart, an engine, a ring, a DMA queue or a host-port function. -/
def Initiator.isStream : Initiator → Bool
  | .core _ _ => true
  | .engine _ => true
  | .ring _ => true
  | .dma _ => true
  | .hostFn _ => true
  | .requester _ => true
  | .recovery => true
  | _ => false

/-- Whether a write of an initiator is posted: through the host port, or across the fabric to memory of another die. -/
def State.posts (s : State) (who : Initiator) (addr : Nat) : Bool :=
  who.isStream && placeOf addr != .registers && (who.die == 7 || s.dieOf addr != who.die)

/-- The stream of an initiator with its instance. -/
def State.streamKey (s : State) (who : Initiator) : Nat := initiatorCode who ((s.viOf who).getD 0) false

def State.stream (s : State) (who : Initiator) : PostStream := storeGet {} s.bridge.streams (s.streamKey who)

def State.setStream (s : State) (who : Initiator) (x : PostStream) : State :=
  { s with bridge := { s.bridge with streams := storePut s.bridge.streams (s.streamKey who) x } }

/-- A posted write takes the next sequence number of its stream. -/
def State.notePosted (s : State) (who : Initiator) (addr : Nat) : State :=
  if s.posts who addr then s.setStream who { s.stream who with next := (s.stream who).next + 1 } else s

/-- The link that an outbound request takes: link A, or in a bifurcated ROOT port link B for its own ECAM window (R476). -/
def State.outLink (s : State) (addr : Nat) : Nat :=
  if s.hostMode = 1 ∧ s.fget F.hpId_bifurcated 7 0 0 = 1 ∧ 0x100010000000 ≤ addr ∧ addr < 0x100020000000 then 1 else 0

/-- Whether outbound requests leave: the port is not DISABLED, and the link is up. -/
def State.outUp (s : State) (addr : Nat) : Bool := s.hostMode != 0 && s.fon F.hpLinkN_dl_up 7 (s.outLink addr) 0

/-- The bus address of an outbound request (R476). -/
def State.busAddr (s : State) (addr : Nat) : Nat :=
  (s.fget F.hpOutOffset_offset 7 0 0 * 4096 + addr % 2 ^ 44) % 2 ^ 64

/-- The entry of the posted-failure log of an instance, and the MSI where the log was empty (R480, R481). -/
def State.logPosted (s : State) (vi seq addr code : Nat) (initiator : Nat) : State :=
  let head := s.fget F.hpPflogPtr_head 7 0 vi
  let tail := s.fget F.hpPflogPtr_tail 7 0 vi
  let size := 2 ^ s.fget F.hpPflogBase_size_log2 7 0 vi
  if s.fon F.hpPflogPtr_enable 7 0 vi = false ∨ s.fget F.viState_state 4 0 vi = 4 then s
  else if (head + 1) % size = tail % size then s.fadd F.hpPflogPtr_overflow 7 0 vi 1
  else
    let entry := leBytes seq 4 ++ leBytes initiator 4 ++ leBytes addr 8 ++ leBytes s.deviceTime 12 ++ leBytes code 2
      ++ leBytes 0 2
    let s := (s.store (s.fget F.hpPflogBase_base 7 0 vi + head % size * 32) entry).fset F.hpPflogPtr_head 7 0 vi
      ((head + 1) % size)
    if head % size = tail % size then
      s.sendViMsi vi (s.fget F.hpPflogPtr_vector 7 0 vi)
    else s

/-- A posted write of an instance that fails while its reset drains them is counted, with a record of the VI manager
(R380, R389). -/
def State.drainFailed (s : State) (vi addr : Nat) : State :=
  if s.fget F.viState_state 4 0 vi = 4 then
    (s.fadd F.viCounts_drain_failures 4 0 vi 1).raiseFollow
      { recOf E.viDrainFail 4 0x0B 0xFFFF with vi := some vi, addr := some addr, detail := vi }
  else s

/-- The outstanding writes without the oldest one that covers an address; none where none does. -/
def takeWrite (addr : Nat) : List (Nat × List Byte) → Option (List (Nat × List Byte))
  | [] => none
  | w :: t => if w.1 ≤ addr && addr < w.1 + w.2.length then some t else (takeWrite addr t).map (fun r => w :: r)

/-- An outstanding write of an engine fails or is refused before it lands; none where no write covers the address. -/
def State.dropOutstanding (s : State) (te addr : Nat) : Option State :=
  let e := storeGet ({} : Engine) s.engines te
  (takeWrite addr e.writes).map (fun ws => { s with engines := storePut s.engines te { e with writes := ws } })

/-- A posted write of a stream failed at its far side: it keeps its number, the fence of its stream will tell, and the
record of the refusal carries the number and the time in its detail (R480). -/
def State.postFail (s : State) (who : Initiator) (addr : Nat) (r : ErrRec) : State :=
  let x := s.stream who
  let seq := x.next % 2 ^ 32
  let s := s.setStream who { next := x.next + 1, failed := x.failed + 1, first := some (x.first.getD seq) }
  let s := match who with
    | .engine te => { s with engines := storePut s.engines te { storeGet ({} : Engine) s.engines te with writesOk := false } }
    | _ => s
  let s := s.raiseRec { r with detail := seq + s.nowUs % 2 ^ 32 * 2 ^ 32 }
  let s := s.fadd F.hpEvents_posted_failures 7 0 0 1
  match s.viOf who with
  | none => s
  | some vi => (s.drainFailed vi addr).logPosted vi seq (if placeOf addr == .outbound then s.busAddr addr else addr) r.code (s.streamKey who)

/-- Bytes that the spec leaves open. -/
def State.freeBytes (s : State) : Nat → State × List Byte
  | 0 => (s, [])
  | k + 1 =>
    let r := s.fresh 8
    let q := r.2.freeBytes k
    (q.1, BitVec.ofNat 8 r.1 :: q.2)

/-- A write to outbound space: posted to the link, or failed where the link is down (R478). -/
def State.outWrite (s : State) (who : Initiator) (addr : Nat) (bs : List Byte) : State × Bool :=
  if s.outUp addr then ((s.notePosted who addr).send (.host 0 (s.busAddr addr) bs), true)
  else (s.postFail who addr (s.refusalRec E.addressRefused who addr), false)

/-- A read of outbound space: the far side's bytes, which the spec does not give; none where the link is down. -/
def State.outRead (s : State) (addr n : Nat) : State × Option (List Byte) :=
  if s.outUp addr then
    let r := (s.send (.host 1 (s.busAddr addr) (leBytes n 4))).freeBytes n
    (r.1, some r.2)
  else (s, none)

/-- A write refused: that of a posted write is a failed posted write, for which nobody waits; every other completes
with an error response. -/
def State.refuseWrite (s : State) (c : ErrCode) (who : Initiator) (addr : Nat) : State :=
  if s.posts who addr then
    let s := (s.countRefusal c addr).postFail who addr (s.refusalRec c who addr)
    { s with resp := {} }
  else s.refuse c who addr

/-- The pieces of memory that a steered read of [a, a + n) reaches, granule by granule (R214). -/
def State.steeredPieces (s : State) (r : GateReader) (a n : Nat) : List (Nat × Nat) :=
  (granPieces a n).map (fun p => (s.steer r p.1, p.2))

/-- The first piece of a steered read that is poisoned. -/
def State.poisonOf (s : State) (r : GateReader) (a n : Nat) : Option (Nat × Nat) :=
  (s.steeredPieces r a n).find? (fun p => s.poisoned p.1 p.2)


/-- Corrected errors of a steered read (R160, R176). -/
def State.correctSteered (s : State) (r : GateReader) (a n : Nat) : State :=
  (s.steeredPieces r a n).foldl (fun s p => s.correctSoft p.1 p.2) s


/-! ### Over budget (R374, R375) -/

/-- An instance's bucket is found empty with a request waiting: over_budget is set, counted, and recorded at most
once in 10 ms. -/
def State.noteOverBudget (s : State) (vi : Nat) : State :=
  let s := { s with vis := { s.vis with obWaits := storePut s.vis.obWaits vi s.periods } }
  if s.fon F.viState_over_budget 4 0 vi then s
  else
    let s := s.fset F.viState_over_budget 4 0 vi 1
    let s := s.fadd F.viCounts_ob_events 4 0 vi 1
    let last := storeGet 0 s.vis.obTimes vi
    if last = 0 ∨ last + 384000 ≤ s.periods + 1 then
      { s with vis := { s.vis with obTimes := storePut s.vis.obTimes vi (s.periods + 1) } }.raiseSide
        { recOf E.viOverBudget 4 0x0B 0xFFFF with vi := some vi }
    else s

/-- The tokens an instance's bucket of a die holds now, in bytes (R374): the stored level plus the refill since. -/
def State.bucketLevel (s : State) (vi d : Nat) : Nat :=
  let rate := bits (s.reg (fldAddr F.viBw_rate0 4 0 (committed vi))) (10 * d) 10
  let cap := s.fget F.viBw_depth 4 0 (committed vi) * 65536
  let b := storeGet (cap, 0) s.vis.buckets (vi * 4 + d)
  min cap (b.1 + rate * 1000000000 * (s.periods - b.2) / 38400000)

/-- What an RT partition may still move of the bandwidth it reserves on a die's stacks, in bytes: its lpddr_gbps accrue.
DESIGN CHOICE: for at most one frame period; R180 names the bandwidth and no window. -/
def State.rtLevel (s : State) (p d : Nat) : Nat :=
  let rate := (s.rtPart p).lpddrGbps * 1000000000
  let cap := rate * s.fget F.gftCfg_frame_period 4 0 0 / 38400000
  let b := storeGet (cap, 0) s.vis.rtLevels (p * 4 + d)
  min cap (b.1 + rate * (s.periods - b.2) / 38400000)

/-- Takes the tokens of a request to LPDDR6 from its instance's bucket; a request that finds too few waits, which
makes the instance over budget (R374, R375). -/
def State.takeBucket (s : State) (vi d need : Nat) : State :=
  let have' := s.bucketLevel vi d
  let s := if have' < need then s.noteOverBudget vi else s
  { s with vis := { s.vis with buckets := storePut s.vis.buckets (vi * 4 + d) (have' - need, s.periods) } }

/-- The order of service of R180 as far as it is kept: an RT request is served first up to the bandwidth that its
partition reserves; every other request of an instance passes the instance's bucket. -/
def State.takeTokens (s : State) (who : Initiator) (addr n : Nat) : State :=
  match placeOf addr, s.viOf who with
  | .lpddr, some vi =>
    (s.linesOn addr n).foldl (fun s k =>
      let d := k.1 / 2
      let need := k.2 * 64
      match (s.jobOf who).filter (fun j => s.jobClass j == 0) with
      | none => s.takeBucket vi d need
      | some j =>
        let p := (s.job j).record.partition
        let level := s.rtLevel p d
        if need ≤ level then
          { s with vis := { s.vis with rtLevels := storePut s.vis.rtLevels (p * 4 + d) (level - need, s.periods) } }
        else s.takeBucket vi d need) s
  | _, _ => s

/-! ### Reads and writes of an initiator -/

/-- An initiator as a reader at the gate. -/
def State.readerOf (s : State) (who : Initiator) : GateReader :=
  match s.jobOf who with
  | some j => .job j
  | none => .other

/-- The versions that a steered read carries: one for each granule of a public range that it reads (R206). -/
def State.readVersions (s : State) (r : GateReader) (a n : Nat) : List Nat :=
  ((granPieces a n).filter (fun p => (s.publicAt p.1).isSome)).map (fun p => s.steerVersion r p.1)

/-- A read of n bytes by an initiator other than a core or function that waits for its response: checked, corrected,
counted, steered. None where it is refused or meets poison (R24, R161). -/
def State.fetchAs (s : State) (who : Initiator) (a n : Nat) : State × Option (List Byte) :=
  match s.checkAccess who false a n with
  | .refuse c => (s.refused c who a, none)
  | .pass =>
    let r := s.readerOf who
    let s := ((s.correctSteered r a n).takeTokens who a n).countLines who a n
    match s.poisonOf r a n with
    | some p => (s.reportPoison who p.1 p.2, none)
    | none => (s.noteRead r a n, some (if placeOf a == .flash then s.flashBytes a n else s.steeredBytes r a n))

/-- A read of n bytes: checked, corrected, steered; poison answers an error response to any consumer but those
whose chapter names another effect (R161). -/
def State.readMem (s : State) (who : Initiator) (addr n : Nat) : State :=
  let r := s.fetchAs who addr n
  match r.2 with
  | some bs => { r.1 with resp := { value := leNat bs, bytes := bs, versions := s.readVersions (s.readerOf who) addr n } }
  | none => { r.1 with resp := { error := true, poison := s.checkAccess who false addr n == .pass } }

/-- A write of bytes: checked, then through the gate or to its place. -/
def State.writeMem (s : State) (who : Initiator) (addr : Nat) (bs : List Byte) : State :=
  match s.checkAccess who true addr bs.length with
  | .refuse c => s.refuseWrite c who addr
  | .pass =>
    let r := (((s.takeTokens who addr bs.length).countLines who addr bs.length).notePosted who addr).placeWrite who addr bs
    if r.2 = .marked then
      let j := (s.jobOf who).getD 0
      r.1.refuse (E.cgOwner.s3If (s.jobGrave j)) who addr
    else { r.1 with resp := {} }

/-- A write of the device itself for an instance: checked, then to its place. False where it is refused. -/
def State.storeAs (s : State) (who : Initiator) (a : Nat) (bs : List Byte) : State × Bool :=
  match s.checkAccess who true a bs.length with
  | .refuse c => (s.refused c who a, false)
  | .pass => ((((s.takeTokens who a bs.length).countLines who a bs.length).placeWrite who a bs).1, true)

end Sys2Proof.Machine
end

