-- ==== Sys2Proof/Machine/NetOps.lean ====
section
/-! DEFINITION. Shared operations of the switch and its ports: the egress queues, gates and launch times, and the flag
and check fields of egress messages (R493, R497, R511 to R517). -/

namespace Sys2Proof.Machine

/-! ### Flag and check fields (steps 3 and 4 of R493, R515) -/

/-- The validity flag written into a message whose flag_mode is BIT: bit b of a message is bit b mod 8 of byte b / 8
(R349). -/
def putFlag (image : Nat) (flag : Bool) (m : List Byte) : List Byte :=
  if F.gwCtxEgress_flag_mode.of image = 1 then
    let b := F.gwCtxEgress_flag_bit.of image
    modifyAt m (b / 8) (fun x => BitVec.ofNat 8 (setBit x.toNat (b % 8) flag))
  else m

/-- The CRC of a check mode: all ones at first and as the final XOR (R493), with the polynomials of R351. -/
def checkSpec : Nat → CrcSpec
  | 1 => ⟨8, 0x1D, 0xFF, false, 0xFF⟩
  | 2 => ⟨16, 0x1021, 0xFFFF, false, 0xFFFF⟩
  | _ => crc32cSpec

/-- Bytes written into a list from an offset on; those past its end are lost. -/
def overlay (m : List Byte) (off : Nat) (bs : List Byte) : List Byte :=
  m.take off ++ bs.take (m.length - off) ++ m.drop (off + bs.length)

/-- The check field computed over the bytes chk_first to chk_last, little-endian at chk_offset. -/
def putCheck (image : Nat) (m : List Byte) : List Byte :=
  let mode := F.gwCtxEgress_chk_mode.of image
  if mode = 0 then m
  else
    let first := F.gwCtxEgress_chk_first.of image
    let c := crcOf (checkSpec mode) ((m.drop first).take (F.gwCtxEgress_chk_last.of image + 1 - first))
    overlay m (F.gwCtxEgress_chk_offset.of image) (leBytes c ((checkSpec mode).w / 8))

/-- Whether a message carries a set flag (R497): no safe state, and the bound output's live state is VALID. -/
def State.flagSet (s : State) (bound : Bool) (output : Nat) : Bool :=
  !s.fon F.safStatus_safe_state 4 0 0 && (!bound || s.live output == outValid)

/-! ### Ports (R516, R517) -/

def portDie (p : Nat) : Nat := 6 + p / 8

def State.ethPort (s : State) (p : Nat) : EthPort := storeGet {} s.net.ports p

def State.setEthPort (s : State) (p : Nat) (x : EthPort) : State :=
  { s with net := { s.net with ports := storePut s.net.ports p x } }

/-- The list that a port runs: its operational one, where gcl_enable is set (R527). -/
def State.portList (s : State) (p : Nat) : Option GateList :=
  if s.fon F.netPortCfg_gcl_enable (portDie p) 0 (p % 8) then (s.ethPort p).oper else none

/-- The gate states that a port's list gives now; every gate is open without one (R516). -/
def State.gates (s : State) (p : Nat) : Nat :=
  match s.portList p with
  | none => 0xFF
  | some l => match l.entries[(s.ethPort p).index]? with
    | none => 0xFF
    | some e => e.1

/-- The start of entry i of a list within its cycle, in ns. -/
def GateList.offset (l : GateList) (i : Nat) : Nat := ((l.entries.take i).map Prod.snd).sum

/-- The nanoseconds from the start of entry i to the next closing of a class's gate, over at most as many entries as
fuel; none where it stays open. The last entry of a cycle ends with the cycle. -/
def GateList.closes (l : GateList) (tc : Nat) : Nat → Nat → Option Nat
  | 0, _ => none
  | fuel + 1, i =>
    match l.entries[i]? with
    | none => some 0
    | some e =>
      if bit e.1 tc then
        let stop := l.offset i + e.2
        let last := i + 1 = l.entries.length ∨ l.cycle ≤ stop
        (l.closes tc fuel (if last then 0 else i + 1)).map (fun d =>
          d + ((if last then l.cycle else stop) - l.offset i))
      else some 0

/-- The rate of a port in units of 0.1 Gb/s. -/
def rateTenths (code : Nat) : Nat := [25, 50, 100, 250, 500][code]?.getD 25

/-- Whether a frame of n bytes ends before its class's gate closes, at the port's rate (R516). -/
def State.frameFits (s : State) (p tc n : Nat) : Bool :=
  let x := s.ethPort p
  match s.portList p with
  | none => true
  | some l =>
    if x.index < l.entries.length then
      let from' := if s.timeParts < x.restart then (0, x.restart) else (x.index, x.entryStart)
      match l.closes tc l.entries.length from'.1 with
      | none => true
      | some d =>
        let rate := rateTenths (s.fget F.netPortCfg_rate (portDie p) 0 (p % 8))
        s.timeParts + n * 80 * 65536 / rate ≤ from'.2 + d * 65536
    else true

/-- Marks a transmit entry done, with its status and, where wanted, the time of its egress (R513). -/
def State.finishEntry (s : State) (e : Option (Nat × Nat × Bool)) (status : Nat) : State :=
  match e with
  | none => s
  | some (q, i, want) =>
    let a := s.qEntry q i 64
    let who : Initiator := .service (some (s.qVi q))
    let flags := s.numAt (a + 4) 1
    let s := (s.storeAs who (a + 4) (leBytes (setBit flags 0 true) 1 ++ leBytes status 1)).1
    if want then (s.storeAs who (a + 32) (leBytes s.deviceTime 12)).1 else s

/-- A late launch-time frame: counted, with a record at most once per 10 ms. -/
def State.noteLate (s : State) (p : Nat) (sent : Bool) : State :=
  let s := s.fadd (if sent then F.netPortCounts_late_sent else F.netPortCounts_late_dropped) (portDie p) 0 (p % 8) 1
  let x := s.ethPort p
  let quiet := match x.lateTime with
    | none => false
    | some t => s.periods < t + 384000
  if quiet then s
  else (s.setEthPort p { x with lateTime := some s.periods }).raiseSide
    { recOf E.netLate (portDie p) 0x16 p with detail := p }

/-- A field of a flow context. -/
def State.flow (s : State) (f : Fld) (n : Nat) : Nat := s.fget f 6 0 n

/-- The frame of a flow as it leaves: the validity flag and check fields of a bound flow, none in the safe state where
the flow has no flag (R515). -/
def State.flowBytes (s : State) (n : Nat) (bytes : List Byte) : Option (List Byte) :=
  if s.flow F.netFlow_bound n = 0 then some bytes
  else
    let image := s.flow F.netFlowKey_flag_check n
    if s.fon F.safStatus_safe_state 4 0 0 && F.gwCtxEgress_flag_mode.of image == 0 then none
    else some (putCheck image (putFlag image (s.flagSet true (s.flow F.netFlow_safety_output n)) bytes))

/-- A frame leaves a port, or is dropped as late (R517). -/
def State.sendFrame (s : State) (p : Nat) (f : EthFrame) : State :=
  let late := s.fget F.netPortCfg_late_threshold (portDie p) 0 (p % 8) * 65536
  if f.launch = 0 ∨ s.timeParts ≤ f.launch + late then
    (s.send (.ethernet p f.bytes)).finishEntry f.entry 0
  else if s.fon F.netPortCfg_late_mode (portDie p) 0 (p % 8) then
    ((s.noteLate p true).send (.ethernet p f.bytes)).finishEntry f.entry 1
  else (s.noteLate p false).finishEntry f.entry 2

/-- A frame is about to leave: a flow that sends nothing now refuses it. -/
def State.emitFrame (s : State) (p : Nat) (f : EthFrame) : State :=
  match f.flow with
  | none => s.sendFrame p f
  | some n => match s.flowBytes n f.bytes with
    | none => s.finishEntry f.entry 4
    | some bytes => s.sendFrame p { f with bytes }

/-- The frame that a port sends next: the head of the highest class whose gate is open, where it is eligible and ends
before the gate closes. -/
def State.nextFrame (s : State) (p : Nat) : Option (Nat × EthFrame) :=
  let x := s.ethPort p
  let numbered := (List.range x.waiting.length).zip x.waiting
  ([7, 6, 5, 4, 3, 2, 1, 0].findSome? (fun (tc : Nat) =>
    match numbered.find? (fun f => f.2.tc == tc) with
    | none => none
    | some f =>
      if bit (s.gates p) tc && (f.2.launch ≤ s.timeParts : Bool) && s.frameFits p tc f.2.bytes.length then some f else none))

/-- A port that is up, of a die whose logic is not frozen, sends what may leave now. -/
def State.drainPort (s : State) (p : Nat) : Nat → State
  | 0 => s
  | fuel + 1 =>
    if !(s.fon F.netPortCfg_enable (portDie p) 0 (p % 8) && s.fon F.netPortCounts_link_up (portDie p) 0 (p % 8))
        || s.logicFrozen (portDie p) then s
    else
      match s.nextFrame p with
      | none => s
      | some (i, f) =>
        let x := s.ethPort p
        ((s.setEthPort p { x with waiting := x.waiting.eraseIdx i }).emitFrame p f).drainPort p fuel

/-- A port sends all that may leave. -/
def State.runPort (s : State) (p : Nat) : State := s.drainPort p ((s.ethPort p).waiting.length + 1)

/-- A frame is queued at an egress port of the switch; one for an internal port is handed over there (R511). -/
def State.enqueueFrame (s : State) (p : Nat) (f : EthFrame) : State :=
  if p < 16 then
    let x := s.ethPort p
    (s.setEthPort p { x with waiting := x.waiting ++ [f] }).runPort p
  else s.emitFrame p f

/-- Whether the queue of a flow is full. -/
def State.flowFull (s : State) (n : Nat) : Bool :=
  Config.flowQueueDepth ≤ ((s.ethPort (s.flow F.netFlow_port n)).waiting.filter (fun f => f.flow == some n)).length

end Sys2Proof.Machine
end

