-- ==== Sys2Proof/Machine/GatewayOps.lean ====
section
/-! DEFINITION. Shared operations of the signal gateway: route sets and their failures, payload slots, the route context
window and the egress stage (R490 to R501). -/

namespace Sys2Proof.Machine

/-- A field of a route context. -/
def State.gw (s : State) (f : Fld) (ctx : Nat) : Nat := s.fget f 6 0 ctx

/-- A field of a route set. -/
def State.gset (s : State) (f : Fld) (set : Nat) : Nat := s.fget f 6 0 set

/-- The route sets that a gateway sequencer serves: those of the INGRESS contexts that name it. -/
def State.setsOf (s : State) (seq : Nat) : List Nat :=
  ((s.gateway.contexts.filter (fun c => s.gw F.gwCtx_kind c == 1 && s.gw F.gwCtx_sequencer c == seq)).map
    (s.gw F.gwCtx_set)).eraseDups

/-- A route failure of a set (R501): counted, and the GATEWAY doubt on the bound output. -/
def State.routeFailure (s : State) (set : Nat) : State :=
  let s := s.fadd F.gwSetCounts_failures 6 0 set 1
  let s := if s.gset F.gwSet_failed set = 0 then s.fadd F.gwSetCounts_failed_frames 6 0 set 1 else s
  let s := s.fset F.gwSet_failed 6 0 set 1
  if s.gset F.gwSet_bound set = 1 then s.doubt (s.gset F.gwSet_output set) rsGateway else s

/-- The start of a frame at the gateway: no set has failed, but those that a STOPPED sequencer serves (R501). -/
def State.gatewayFrame (s : State) : State :=
  let s := (List.range 64).foldl (fun s n => if s.gset F.gwSet_failed n = 1 then s.fset F.gwSet_failed 6 0 n 0 else s) s
  ((List.range 32).filter (fun n => bit (s.fget F.gwStatus_stopped 6 0 0) n)).foldl
    (fun s n => (s.setsOf n).foldl State.routeFailure s) s

/-- A message of a context is dropped with a record (R490, R493). -/
def State.dropMessage (s : State) (c : ErrCode) (ctx : Nat) (ingress : Bool) : State :=
  let set := s.gw F.gwCtx_set ctx
  let bound := s.gset F.gwSet_bound set == 1
  let s := s.fadd (if ingress then F.gwEvents_ingress_drops else F.gwEvents_egress_drops) 6 0 0 1
  let s := s.fadd F.gwCtxCounts_drops 6 0 ctx 1
  (s.raiseRec { recOf (c.s3If bound) 6 0x19 0xFFFF with detail := ctx + set * 2 ^ 16 }).routeFailure set

/-! ### Ingress (R490 to R492) -/

/-- The notice word. -/
def Notice.word (n : Notice) : Nat := n.ctx % 2 ^ 14 + n.payload.length % 2 ^ 12 * 2 ^ 16

/-- The 256 bytes of the route context window. -/
def State.noticeWindow (s : State) (n : Notice) : List Byte :=
  leBytes n.identifier 4 ++ leBytes n.format 1 ++ leBytes n.flags 1 ++ leBytes n.bus 2 ++ leBytes n.time 12
    ++ leBytes n.payload.length 2 ++ leBytes n.ctx 2 ++ leBytes n.af 4 ++ leBytes n.sdt 1 ++ leBytes n.vcid 1
    ++ leBytes 0 2 ++ byteSlice (storeGet [] s.gateway.params n.ctx) 0 96 ++ leBytes 0 128

/-- The enabled INGRESS context that a message's key hits. -/
def State.ingressCtx (s : State) (isQueue : Bool) (flow : Nat) (n : Notice) : Option Nat :=
  s.gateway.contexts.find? (fun c =>
    s.gw F.gwCtx_kind c == 1 && s.gw F.gwCtx_enable c == 1 && s.gw F.gwCtx_queue c == isQueue.toNat
      && s.gw F.gwCtx_flow c == flow && s.gw F.gwCtx_bus c == n.bus && s.gw F.gwCtx_format c == n.format
      && s.gw F.gwCtxKey_identifier c == n.identifier
      && (n.format != 2 || (s.gw F.gwCtxKey_sdt c == n.sdt && s.gw F.gwCtxKey_vcid c == n.vcid)))

/-- A message of a context takes a payload slot of its sequencer and waits for mp0, or is dropped where all 32 slots
are taken. -/
def State.postNotice (s : State) (ctx : Nat) (n : Notice) : State :=
  let seq := s.gw F.gwCtx_sequencer ctx
  let x := s.tahrSeq seq
  let s := s.fwrap F.gwCtxCounts_messages 6 0 ctx 1
  if 32 ≤ x.waiting.length + x.notice.isSome.toNat then s.newEvent.dropMessage E.gwIngressDrop ctx true
  else s.setTahrSeq seq { x with waiting := x.waiting ++ [{ n with ctx }] }

/-- A message arrives: its key is looked up; one with no hit is counted. -/
def State.ingress (s : State) (isQueue : Bool) (flow : Nat) (n : Notice) : State :=
  match s.ingressCtx isQueue flow n with
  | none => s.fadd F.gwEvents_unknown_key 6 0 0 1
  | some c => s.postNotice c n

/-! ### Egress (R493, R496, R497, R500) -/

/-- The longest payload of a format. -/
def formatMax : Nat → Nat
  | 0 => 8
  | 1 => 64
  | 3 => 8
  | _ => 2048

/-- The next valid CAN FD data length. -/
def canFdLength (n : Nat) : Nat := ([0, 1, 2, 3, 4, 5, 6, 7, 8, 12, 16, 20, 24, 32, 48].find? (fun k => n ≤ k)).getD 64

/-- Writes an entry into a gateway OUT queue (R496), for the queue's instance. -/
def State.putOutEntry (s : State) (q ctx : Nat) (flag : Bool) (m : List Byte) : State :=
  let i := s.qTail q
  let phase := (i / s.qSize q + 1) % 2
  let bytes := leBytes ctx 2 ++ leBytes m.length 2 ++ leBytes (phase + 2 * flag.toNat) 1 ++ leBytes 0 3
    ++ leBytes s.deviceTime 12 ++ leBytes 0 12 ++ byteSlice m 0 96
  (((s.storeAs (.service (some (s.qVi q))) (s.qEntry q i 128) bytes).1).fset F.schQptr_tail 4 0 q (i + 1)).signalCq q

/-- Measures the latency of a message from its ingress (R500). -/
def State.measureLatency (s : State) (ctx ingress : Nat) : State :=
  let set := s.gw F.gwCtx_set ctx
  let ns := (s.timeParts - timeOfCode ingress) / 65536
  let s := s.fset F.gwLat_last_ns 6 0 0 ns
  let s := s.fset F.gwLat_max_ns 6 0 0 (max ns (s.fget F.gwLat_max_ns 6 0 0))
  if s.gset F.gwSet_latency_check set = 1 ∧ s.gset F.gwSet_latency_us set * 1000 < ns then
    let s := s.fadd F.gwEvents_late 6 0 0 1
    let s := s.fadd F.gwCtxCounts_late 6 0 ctx 1
    (s.raiseRec { recOf E.gwLatency 6 0x19 0xFFFF with detail := ctx + set * 2 ^ 16 }).routeFailure set
  else s

/-- The egress stage on a submission: the context, the message's bytes, and the ingress time where the activation began
with the message's own notice. -/
def State.egress (s : State) (seq ctx : Nat) (m : List Byte) (ingress : Option Nat) : State :=
  let set := s.gw F.gwCtx_set ctx
  let format := s.gw F.gwCtx_format ctx
  let image := s.reg (fldAddr F.gwCtxEgress_flag_mode 6 0 ctx)
  let s := s.newEvent
  if s.gw F.gwCtx_kind ctx ≠ 2 then
    (s.fadd F.gwEvents_egress_drops 6 0 0 1).raiseRec { recOf E.gwEgressDrop 6 0x19 0xFFFF with detail := ctx }
  else if !((s.setsOf seq).contains set && s.gw F.gwCtx_enable ctx == 1) || m.isEmpty
      || s.gw F.gwCtx_max_len ctx < m.length || formatMax format < m.length then
    s.dropMessage E.gwEgressDrop ctx false
  else
    let bound := s.gset F.gwSet_bound set == 1
    let flag := s.flagSet bound (s.gset F.gwSet_output set)
    if s.fon F.safStatus_safe_state 4 0 0 && F.gwCtxEgress_flag_mode.of image == 0 && bound then
      (s.fadd F.gwEvents_egress_drops 6 0 0 1).fadd F.gwCtxCounts_drops 6 0 ctx 1
    else
      let m := if format = 1 then
          m ++ List.replicate (canFdLength m.length - m.length) (BitVec.ofNat 8 (F.gwCtxEgress_pad.of image)) else m
      let m := putCheck image (putFlag image flag m)
      let flow := s.gw F.gwCtx_flow ctx
      let toQueue := s.gw F.gwCtx_queue ctx == 1
      let q := 57344 + flow
      let full := if toQueue then s.qState q != 1 || s.fget F.gwQcfg_dir 6 0 flow != 1 || s.qSize q ≤ s.qUsed q
        else s.flow F.netFlow_enable flow != 1 || s.flowFull flow
      if full then s.dropMessage E.gwEgressDrop ctx false
      else
        let s := s.fwrap F.gwCtxCounts_messages 6 0 ctx 1
        let s := if toQueue then s.putOutEntry q ctx flag m
          else
            let frame := Config.packMessage [flow, format, s.gw F.gwCtx_bus ctx, s.gw F.gwCtxKey_identifier ctx,
              s.gw F.gwCtxKey_sdt ctx, s.gw F.gwCtxKey_vcid ctx, s.gw F.gwCtxKey_brs ctx] m
            s.enqueueFrame (s.flow F.netFlow_port flow)
              { tc := s.flow F.netFlow_tc flow, flow := some flow, bytes := frame }
        match ingress with
        | none => s
        | some t => s.measureLatency ctx t

end Sys2Proof.Machine
end

