-- ==== Sys2Proof/Machine/VectorFn.lean ====
section
/-! DEFINITION. The exact values of the functions of R111, to far more bits than binary32 holds: each as a fraction of
2^400, or as a significand and an exponent. -/

namespace Sys2Proof.Machine

/-- The bits of the fractions below. -/
def fnScale : Nat := 400

/-- 1 as a fraction. -/
def fnOne : Int := 2 ^ fnScale

/-- The sum of terms, each formed from the one before it and its number. -/
def seriesSum (next : Int → Nat → Int) : Nat → Nat → Int → Int
  | 0, _, _ => 0
  | fuel + 1, k, t => t + seriesSum next fuel (k + 1) (next t (k + 1))

/-- ln 2 as a fraction: the sum of 2 / ((2k + 1) × 3^(2k + 1)). -/
def fnLn2 : Int :=
  ((List.range 140).map (fun k => 2 * fnOne / ((2 * k + 1 : Nat) * 3 ^ (2 * k + 1)))).sum

/-- e^r for a fraction r of a small value: the series of the exponential function. -/
def fnExpSmall (r : Int) : Int := seriesSum (fun t k => t * r / (fnOne * k)) 90 0 fnOne

/-- e^y for a fraction y: significand as a fraction, and a power of two. -/
def fnExp (y : Int) : Int × Int :=
  let n := y / fnLn2
  (fnExpSmall (y - n * fnLn2), n)

/-- i × 2^k, rounded down. -/
def shiftInt (i k : Int) : Int := if 0 ≤ k then i * 2 ^ k.toNat else i / 2 ^ (-k).toNat

/-- The binary digits of log2 y for a fraction y in [1, 2): each squaring of y gives one. -/
def fnLogBits : Nat → Int → Int → Int
  | 0, _, acc => acc
  | fuel + 1, y, acc =>
    let q := y * y / fnOne
    if 2 * fnOne ≤ q then fnLogBits fuel (q / 2) (2 * acc + 1) else fnLogBits fuel q (2 * acc)

/-- The integer square root: the largest number of the bits still to be chosen whose square is at most n. -/
def intSqrt (n : Nat) : Nat → Nat → Nat
  | 0, r => r
  | k + 1, r => if (r + 2 ^ k) * (r + 2 ^ k) ≤ n then intSqrt n k (r + 2 ^ k) else intSqrt n k r

/-- The exact value of a function of R111 at (−1)^neg × m × 2^e, as an integer and a power of two; none where it has
no finite value, or one far above binary32. -/
def exactFn (func : Nat) (neg : Bool) (m : Nat) (e : Int) : Option (Int × Int) :=
  let sign : Int := if neg then -1 else 1
  let x : Int := sign * shiftInt m (e + fnScale)
  let huge := 200 * fnOne < (if neg then -x else x)
  match func with
  | 0x06 =>
    if huge then (if neg then some (0, 0) else none)
    else
      let n := x / fnOne
      some (fnExpSmall ((x - n * fnOne) * fnLn2 / fnOne), n - fnScale)
  | 0x07 =>
    if neg || m = 0 then none
    else
      let n := Nat.log2 m
      some (((n : Int) + e) * 2 ^ 200 + fnLogBits 200 (shiftInt m (fnScale - n)) 0, -200)
  | 0x08 => if m = 0 then none else some (sign * (fnOne / m), -e - fnScale)
  | 0x09 =>
    if neg || m = 0 then none
    else
      let k := (e % 2).toNat
      some (intSqrt (2 ^ 800 / (m * 2 ^ k)) 401 0, -fnScale - (e - k) / 2)
  | 0x0A =>
    if m = 0 || e + Nat.log2 m < -40 then some (sign * m, e)
    else if 5 < e + Nat.log2 m then some (sign, 0)
    else
      let r := fnExp (2 * sign * x)
      let q := shiftInt r.1 r.2
      some (sign * ((q - fnOne) * fnOne / (q + fnOne)), -fnScale)
  | 0x0B =>
    if huge then some (if neg then 0 else 1, 0)
    else
      let r := fnExp (-x)
      some (fnOne * fnOne / (fnOne + shiftInt r.1 r.2), -fnScale)
  | _ => none

end Sys2Proof.Machine
end

