-- ==== Sys2Proof/Machine/Num.lean ====
section
/-! DEFINITION. Numbers of the tensor engines: exact values, formats and their codes, roundings, binary32
operations, residues (R85, R87, R88, R90, R92, R99 to R101, R110, R112). -/

namespace Sys2Proof.Machine

/-- A number: not a number, an infinity, or (−1)^neg × m × 2^e. -/
inductive Num where
  | nan
  | inf (neg : Bool)
  | fin (neg : Bool) (m : Nat) (e : Int)
deriving DecidableEq, Repr

def Num.zero : Num := .fin false 0 0
def Num.one : Num := .fin false 1 0

/-- The number of bits of n. -/
def bitLen (n : Nat) : Nat := if n = 0 then 0 else Nat.log2 n + 1

/-- n / 2^d rounded to nearest, ties to even. -/
def shrRound (n d : Nat) : Nat :=
  let q := n / 2 ^ d
  let r := n % 2 ^ d * 2
  if 2 ^ d < r then q + 1 else if r = 2 ^ d && d != 0 then q + q % 2 else q

/-- m × 2^e rounded to at most p significant bits and to multiples of 2^qmin (where given), to nearest with ties to
even: the new significand and exponent. -/
def roundSig (p : Nat) (qmin : Option Int) (m : Nat) (e : Int) : Nat × Int :=
  if m = 0 then (0, 0)
  else
    let q0 := e + ((bitLen m : Nat) : Int) - (p : Int)
    let q := match qmin with
      | none => q0
      | some k => max q0 k
    if q ≤ e then (m, e) else (shrRound m (q - e).toNat, q)

/-- A finite value as an integer number of 2^e units, for e at or below its exponent. -/
def atExp (neg : Bool) (m : Nat) (e e' : Int) : Int :=
  let n : Int := (m * 2 ^ (e - e').toNat : Nat)
  if neg then -n else n

/-- The value i × 2^e; a zero is +0 (R93). -/
def Num.ofInt (i e : Int) : Num := .fin (i < 0) i.natAbs e

/-- The exact sum of two numbers (R87, R93). -/
def Num.add (a b : Num) : Num :=
  match a, b with
  | .nan, _ => .nan
  | _, .nan => .nan
  | .inf s, .inf t => if s = t then .inf s else .nan
  | .inf s, .fin _ _ _ => .inf s
  | .fin _ _ _, .inf t => .inf t
  | .fin s m e, .fin t n f =>
    let u := min e f
    Num.ofInt (atExp s m e u + atExp t n f u) u

/-- The exact product of two numbers (R87). -/
def Num.mul (a b : Num) : Num :=
  match a, b with
  | .nan, _ => .nan
  | _, .nan => .nan
  | .inf s, .inf t => .inf (s != t)
  | .inf s, .fin t n _ => if n = 0 then .nan else .inf (s != t)
  | .fin s m _, .inf t => if m = 0 then .nan else .inf (s != t)
  | .fin s m e, .fin t n f => .fin (s != t) (m * n) (e + f)

def Num.negate (a : Num) : Num :=
  match a with
  | .nan => .nan
  | .inf s => .inf (!s)
  | .fin s m e => .fin (!s) m e

/-- A number times 2^k. -/
def Num.scale (a : Num) (k : Int) : Num :=
  match a with
  | .fin s m e => .fin s m (e + k)
  | _ => a

def Num.isZero (a : Num) : Bool :=
  match a with
  | .fin _ m _ => m == 0
  | _ => false

/-- The magnitude of a finite number compared with that of another: at most as large. -/
def magLe (m : Nat) (e : Int) (n : Nat) (f : Int) : Bool :=
  let u := min e f
  m * 2 ^ (e - u).toNat ≤ n * 2 ^ (f - u).toNat

/-! ### Formats (R85) -/

def fmtE4M3 : Nat := 1
def fmtE5M2 : Nat := 2
def fmtE2M1 : Nat := 3
def fmtInt8 : Nat := 4
def fmtInt4 : Nat := 5
def fmtBF16 : Nat := 6
def fmtFP16 : Nat := 7
def fmtFP32 : Nat := 8
def fmtInt32 : Nat := 9

/-- The format codes of R85. -/
def fmtValid (f : Nat) : Bool := 1 ≤ f && f ≤ 0xD

/-- The MX formats. -/
def fmtIsMx (f : Nat) : Bool := 0xA ≤ f && f ≤ 0xD

/-- The element format of an MX code; other codes are their own. -/
def elemFmt (f : Nat) : Nat :=
  if f = 0xA then fmtE4M3 else if f = 0xB then fmtE5M2 else if f = 0xC then fmtE2M1 else f

/-- The bits of an element. -/
def fmtBits (f : Nat) : Nat :=
  if f = 3 ∨ f = 5 ∨ f = 0xC then 4
  else if f = 6 ∨ f = 7 then 16
  else if f = 8 ∨ f = 9 then 32
  else 8

/-- A binary float format: exponent bits, fraction bits, bias. -/
structure FloatFmt where
  eb : Nat
  mb : Nat
  bias : Int
deriving DecidableEq, Repr

def floatFmt (f : Nat) : FloatFmt :=
  if f = fmtE4M3 then ⟨4, 3, 7⟩
  else if f = fmtE5M2 then ⟨5, 2, 15⟩
  else if f = fmtE2M1 then ⟨2, 1, 1⟩
  else if f = fmtBF16 then ⟨8, 7, 127⟩
  else if f = fmtFP16 then ⟨5, 10, 15⟩
  else ⟨8, 23, 127⟩

/-- Formats whose top exponent code holds infinities and NaNs. -/
def hasInf (f : Nat) : Bool := f == fmtE5M2 || f == fmtBF16 || f == fmtFP16 || f == fmtFP32

/-- The value of a code of a plain float format. -/
def decodeFloat (f code : Nat) : Num :=
  let x := floatFmt f
  let neg := bit code (x.eb + x.mb)
  let ex := bits code x.mb x.eb
  let fr := bits code 0 x.mb
  if hasInf f && ex == 2 ^ x.eb - 1 then if fr = 0 then .inf neg else .nan
  else if f = fmtE4M3 ∧ code % 128 = 0x7F then .nan
  else if ex = 0 then .fin neg fr (1 - x.bias - x.mb)
  else .fin neg (2 ^ x.mb + fr) (ex - x.bias - x.mb)

/-- The value of an element code; an MX element without its block's scale. -/
def decodeElem (f code : Nat) : Num :=
  if f = fmtInt8 then Num.ofInt (signed code 8) 0
  else if f = fmtInt4 then Num.ofInt (signed code 4) 0
  else if f = fmtInt32 then Num.ofInt (signed code 32) 0
  else if f = 0xD then Num.ofInt (signed code 8) (-6)
  else decodeFloat (elemFmt f) code

/-- The exponent of an E8M0 scale code; none for NaN. -/
def scaleExp (code : Nat) : Option Int := if code = 0xFF then none else some (code - 127)

/-! ### Conversion to a format (R99) -/

/-- The largest finite value of a float format, as significand and exponent, and its code. -/
def maxFinite (f : Nat) : Nat × Int × Nat :=
  let x := floatFmt f
  if f = fmtE4M3 then (14, 5, 0x7E)
  else if f = fmtE2M1 then (3, 1, 7)
  else (2 ^ (x.mb + 1) - 1, 2 ^ x.eb - 2 - x.bias - x.mb, (2 ^ x.eb - 2) * 2 ^ x.mb + (2 ^ x.mb - 1))

/-- The code of a significand that already fits the format. -/
def packFloat (f : Nat) (m : Nat) (e : Int) : Nat :=
  let x := floatFmt f
  if m = 0 then 0
  else
    let top : Int := e + ((bitLen m : Nat) : Int) - 1
    if top < 1 - x.bias then (m * 2 ^ (e - (1 - x.bias - x.mb)).toNat : Nat)
    else
      let sh := x.mb + 1 - (bitLen m : Int)
      let sig := if 0 ≤ sh then m * 2 ^ sh.toNat else m / 2 ^ (-sh).toNat
      (top + x.bias).toNat * 2 ^ x.mb + (sig - 2 ^ x.mb)

/-- The canonical NaN of a float format; zero where the format has none. -/
def nanCode (f : Nat) : Nat :=
  if f = fmtFP32 then 0x7FC00000 else if f = fmtFP16 then 0x7E00 else if f = fmtBF16 then 0x7FC0
  else if f = fmtE5M2 then 0x7F else if f = fmtE4M3 then 0x7F else 0

/-- The code of an infinite value or of an overflow: infinity, or the largest finite value. -/
def infCode (f : Nat) (neg saturate : Bool) : Nat × Nat :=
  let x := floatFmt f
  let sg := if neg then 2 ^ (x.eb + x.mb) else 0
  if hasInf f && !saturate then (sg + (2 ^ x.eb - 1) * 2 ^ x.mb, 0) else (sg + (maxFinite f).2.2, 1)

/-- A number converted to a float format: its code, and the conversion events counted. -/
def encodeFloat (f : Nat) (saturate : Bool) (v : Num) : Nat × Nat :=
  let x := floatFmt f
  match v with
  | .nan => (nanCode f, if f = fmtE2M1 then 1 else 0)
  | .inf neg => infCode f neg saturate
  | .fin neg m e =>
    let r := roundSig (x.mb + 1) (some (1 - x.bias - x.mb)) m e
    let mx := maxFinite f
    if magLe r.1 r.2 mx.1 mx.2.1 then
      ((if neg then 2 ^ (x.eb + x.mb) else 0) + packFloat f r.1 r.2, 0)
    else infCode f neg saturate

/-- A number converted to a two's complement format of w bits, of value units 2^u. -/
def encodeInt (w : Nat) (u : Int) (v : Num) : Nat × Nat :=
  let lo : Int := -((2 ^ (w - 1) : Nat) : Int)
  let hi : Int := ((2 ^ (w - 1) : Nat) : Int) - 1
  match v with
  | .nan => (0, 1)
  | .inf neg => (unsigned (if neg then lo else hi) w, 1)
  | .fin neg m e =>
    let k := e - u
    let a : Nat := if 0 ≤ k then m * 2 ^ k.toNat else shrRound m (-k).toNat
    let i : Int := if neg then -(a : Int) else a
    if i < lo then (unsigned lo w, 1) else if hi < i then (unsigned hi w, 1) else (unsigned i w, 0)

/-- A number converted to an element code (R99), with the conversion events it counts. -/
def encodeElem (f : Nat) (saturate : Bool) (v : Num) : Nat × Nat :=
  if f = fmtInt8 then encodeInt 8 0 v
  else if f = fmtInt4 then encodeInt 4 0 v
  else if f = fmtInt32 then encodeInt 32 0 v
  else if f = 0xD then encodeInt 8 (-6) v
  else encodeFloat (elemFmt f) saturate v

/-- A value rounded to binary32. -/
def roundF32 (v : Num) : Num := decodeFloat fmtFP32 (encodeFloat fmtFP32 false v).1

/-! ### MX blocks (R100) -/

/-- emax of an element format. -/
def mxEmax (f : Nat) : Int := if f = 0xA then 8 else if f = 0xB then 15 else if f = 0xC then 2 else 0

/-- floor(log2) of a finite non-zero magnitude. -/
def floorLog2 (m : Nat) (e : Int) : Int := e + ((bitLen m : Nat) : Int) - 1

/-- The largest floor(log2) among the non-zero finite elements. -/
def topExp : List Num → Option Int
  | [] => none
  | .fin _ m e :: t =>
    if m = 0 then topExp t
    else match topExp t with
      | none => some (floorLog2 m e)
      | some k => some (max k (floorLog2 m e))
  | _ :: t => topExp t

/-- A block of outputs converted to an MX format: its scale code, its element codes, its conversion events. -/
def mxBlock (f : Nat) (saturate : Bool) (vs : List Num) : Nat × List Nat × Nat :=
  let hasNan := vs.any (fun v => match v with | .nan => true | _ => false)
  let hasInf' := vs.any (fun v => match v with | .inf _ => true | _ => false)
  let ex : Int := match topExp vs with
    | none => if hasInf' then 0 else -127
    | some k => min 127 (max (-127) (k - mxEmax f))
  let cs := vs.map (fun v => encodeElem f saturate (v.scale (-ex)))
  let code := if hasNan then 0xFF else (ex + 127).toNat
  (code, cs.map Prod.fst, (cs.map Prod.snd).sum)

/-! ### Packing rows (R127) -/

/-- The bytes of a row of element codes. -/
def packRow (f : Nat) (cs : List Nat) : List Byte :=
  let w := fmtBits f
  let n := cs.foldr (fun c acc => c % 2 ^ w + acc * 2 ^ w) 0
  leBytes n ((cs.length * w + 7) / 8)

/-- Element i of a row's bytes. -/
def elemOf (f : Nat) (row : List Byte) (i : Nat) : Nat :=
  let w := fmtBits f
  if w = 4 then bits (leAt row (i / 2) 1) (i % 2 * 4) 4 else leAt row (i * (w / 8)) (w / 8)

/-- Elements per row of so many bytes. -/
def elemsOf (f rowBytes : Nat) : Nat := rowBytes * 8 / fmtBits f

/-! ### Binary32 operations (R110, R112) -/

/-- The sign of a sum or fused product that is exactly zero: negative only where both terms are −0. -/
def zeroSign (a b r : Num) : Num :=
  match a, b, r with
  | .fin true 0 _, .fin true 0 _, .fin _ 0 e => .fin true 0 e
  | _, _, r => r

def f32Add (a b : Num) : Num := roundF32 (zeroSign a b (a.add b))
def f32Sub (a b : Num) : Num := f32Add a b.negate
def f32Mul (a b : Num) : Num := roundF32 (a.mul b)
def f32Fma (a b c : Num) : Num := roundF32 (zeroSign (a.mul b) c ((a.mul b).add c))

/-- a < b for numbers that are no NaN; −0 lies below +0. -/
def Num.below (a b : Num) : Bool :=
  match a, b with
  | .inf s, .inf t => s && !t
  | .inf s, _ => s
  | _, .inf t => !t
  | .fin s m e, .fin t n f =>
    let u := min e f
    let x := atExp s m e u
    let y := atExp t n f u
    x < y || (x == y && m == 0 && s && !t)
  | _, _ => false

/-- IEEE 754-2019 maximum. -/
def f32Max (a b : Num) : Num :=
  match a, b with
  | .nan, _ => .nan
  | _, .nan => .nan
  | a, b => if a.below b then b else a

/-- IEEE 754-2019 minimum. -/
def f32Min (a b : Num) : Num :=
  match a, b with
  | .nan, _ => .nan
  | _, .nan => .nan
  | a, b => if b.below a then b else a

/-- Whether a number lies within 2 units in the last place of binary32 of an exact value i × 2^k. -/
def within2Ulp (a : Num) (i k : Int) : Bool :=
  match a with
  | .fin neg m e =>
    let u := max (-149) (floorLog2 i.natAbs k - 23)
    let w := min (min e k) u
    (atExp neg m e w - shiftInt i (k - w)).natAbs ≤ 2 * 2 ^ (u - w).toNat
  | _ => false

/-- A function of R111 on a binary32 value: the algorithm's result, which the spec leaves open within 2 units in the
last place of the exact one. Where no finite exact value within binary32 exists, the result is open. -/
def f32Fn (func : Nat) (a : Num) : Num :=
  let r := decodeFloat fmtFP32 (Config.vectorFn func (encodeFloat fmtFP32 false a).1 % 2 ^ 32)
  match a with
  | .fin neg m e =>
    match exactFn func neg m e with
    | none => r
    | some (i, k) =>
      match roundF32 (Num.ofInt i k) with
      | .fin s n f => if within2Ulp r i k then r else .fin s n f
      | _ => r
  | _ => r

/-- One level of a balanced tree: neighbours joined. -/
def pairUp (op : Num → Num → Num) : List Num → List Num
  | a :: b :: t => op a b :: pairUp op t
  | l => l

/-- A balanced binary tree over 2^levels leaves, neighbours joined level by level. -/
def treeFold (op : Num → Num → Num) : Nat → List Num → Num
  | 0, l => l.headD Num.zero
  | n + 1, l => treeFold op n (pairUp op l)

/-- The levels of the tree over n leaves. -/
def treeLevels (n : Nat) : Nat := if n ≤ 1 then 0 else Nat.log2 (n - 1) + 1

/-- The sum of a list along the tree of R112, widened with +0 to a power of two. -/
def treeSum (l : List Num) : Num :=
  let k := treeLevels l.length
  treeFold f32Add k (l ++ List.replicate (2 ^ k - l.length) Num.zero)

/-! ### Residues (R101) -/

/-- The residue of (−1)^neg × m × 2^e modulo 255. -/
def residue (neg : Bool) (m : Nat) (e : Int) : Nat :=
  let k := (e % 8).toNat
  let r := m % 255 * 2 ^ k % 255
  if neg then (255 - r) % 255 else r

/-! ### Entries (R94) -/

/-- Entry states. -/
def esFinite : Nat := 0
def esPosInf : Nat := 1
def esNegInf : Nat := 2
def esNan : Nat := 3

/-- The state field of an entry; INT80 entries are finite. -/
def entryState (l : Layout) (n : Nat) : Nat :=
  match l with
  | .int80 => esFinite
  | _ => bits n 13 2

/-- Whether the state parity of an entry holds. -/
def entryParity (l : Layout) (n : Nat) : Bool :=
  match l with
  | .int80 => true
  | _ => (bits n 12 1 + bits n 13 1 + bits n 14 1) % 2 == 0

/-- The value of an entry. -/
def entryNum (l : Layout) (n : Nat) : Num :=
  let st := entryState l n
  if st = esNan then .nan
  else if st = esPosInf then .inf false
  else if st = esNegInf then .inf true
  else match l with
    | .ext => .fin (bit n 95) (bits n 15 64) ((bits n 79 16 : Nat) - (16446 : Int))
    | .int80 => Num.ofInt (signed (bits n 16 80) 80) 0
    | .fp32 => decodeFloat fmtFP32 (bits n 64 32)

/-- The residue that an entry's value has (R101). -/
def entryResidue (l : Layout) (n : Nat) : Nat :=
  match entryNum l n with
  | .fin neg m e => residue neg m e
  | _ => 0

/-- The state and parity bits of an entry. -/
def stateBits (st : Nat) : Nat := st * 2 ^ 13 + (st % 2 + st / 2) % 2 * 2 ^ 12

/-- A non-zero significand brought to 64 bits with bit 63 set, and its exponent. A rounding that carried out of bit 63
left a power of two, which gives up its low zero bits. -/
def normal64 (m : Nat) (e : Int) : Nat × Int :=
  let n := bitLen m
  if n ≤ 64 then (m * 2 ^ (64 - n), e - ((64 - n : Nat) : Int)) else (m / 2 ^ (n - 64), e + ((n - 64 : Nat) : Int))

/-- A number that fits a layout as an entry, with the residue of its value as the predicted one. DESIGN CHOICE: a
finite sum or product that overflows binary32 (R92 states no result) is an infinity, so the entry is POS_INF or
NEG_INF by its sign. -/
def packEntry (l : Layout) (v : Num) : Nat :=
  match l, v with
  | _, .nan => stateBits esNan
  | _, .inf neg => stateBits (if neg then esNegInf else esPosInf)
  | .ext, .fin neg m e =>
    if m = 0 then 0
    else
      let r := normal64 m e
      neg.toNat * 2 ^ 95 + (r.2 + 16446).toNat * 2 ^ 79 + r.1 * 2 ^ 15 + residue neg m e
  | .int80, .fin neg m e =>
    unsigned (atExp neg m e 0) 80 * 2 ^ 16 + residue neg m e
  | .fp32, .fin neg m e => (encodeFloat fmtFP32 false (.fin neg m e)).1 * 2 ^ 64 + residue neg m e

/-- The rounding on the way into an entry of a layout (R90, R91, R92). -/
def roundLayout (l : Layout) (v : Num) : Num :=
  match l, v with
  | .ext, .fin neg m e =>
    let r := roundSig 64 none m e
    .fin neg r.1 r.2
  | .fp32, v => roundF32 v
  | _, v => v

/-- An addition into an entry: exact, then one rounding (R90 to R93, R96). -/
def entryAdd (l : Layout) (n : Nat) (v : Num) : Nat := packEntry l (roundLayout l ((entryNum l n).add v))

/-- The 12 bytes of an entry image. -/
def entryImage (n : Nat) : List Byte := leBytes n 12

/-! ### Chunks (R87 to R92) -/

/-- The family of a pair of operand formats (R86). -/
def pairFamily (a b : Nat) : Option Family :=
  if 1 ≤ a && a ≤ 3 && 1 ≤ b && b ≤ 3 then some .plainFloat
  else if 4 ≤ a && a ≤ 5 && 4 ≤ b && b ≤ 5 then some .plainInt
  else if 0xA ≤ a && a ≤ 0xC && 0xA ≤ b && b ≤ 0xC then some .mxFloat
  else if a = 0xD ∧ b = 0xD then some .mxInt
  else if a = 6 ∧ b = 6 then some .bf16
  else none

def Family.layout : Family → Layout
  | .plainInt => .int80
  | .bf16 => .fp32
  | _ => .ext

def Family.isMx : Family → Bool
  | .mxFloat => true
  | .mxInt => true
  | _ => false

/-- The chunk size of a family (R89). -/
def Family.chunk : Family → Nat
  | .plainFloat => 128
  | .plainInt => 128
  | _ => 32

/-- The exact sum of the products of a chunk (R88). -/
def chunkSum : List Num → List Num → Num
  | a :: as, b :: bs => (a.mul b).add (chunkSum as bs)
  | _, _ => Num.zero

/-- A sum whose exact zero is +0 (R93). -/
def accAdd (a b : Num) : Num := roundF32 (a.add b)

/-- The chunk result of BF16: each product rounded to binary32, the products added along a tree of 32 leaves (R92). -/
def chunkTree (as bs : List Num) : Num :=
  let ps := (List.zip as bs).map (fun p => f32Mul p.1 p.2)
  treeFold accAdd 5 (ps ++ List.replicate (32 - ps.length) Num.zero)

/-- The result of a chunk with its scale; no scale exponent where a scale is NaN. -/
def chunkResult (f : Family) (as bs : List Num) (scale : Option Int) : Num :=
  match f, scale with
  | .bf16, _ => chunkTree as bs
  | _, none => .nan
  | _, some k => (chunkSum as bs).scale k

/-- The entry images of a chunk list folded into an entry in ascending chunk order (R90). -/
def foldChunks (f : Family) (n : Nat) : List (List Num × List Num × Option Int) → Nat
  | [] => n
  | (as, bs, k) :: t => foldChunks f (entryAdd f.layout n (chunkResult f as bs k)) t

end Sys2Proof.Machine
end

