-- ==== Sys2Proof/Machine/EngineState.lean ====
section
/-! DEFINITION. A tensor engine's state and its registers, and how the golden-test scheduler takes an engine for the
test of a frame (R118, R149, R290 to R299). -/

namespace Sys2Proof.Machine

/-! ### The engine's state -/

def State.eng (s : State) (te : Nat) : Engine := storeGet {} s.engines te

def State.setEng (s : State) (te : Nat) (e : Engine) : State := { s with engines := storePut s.engines te e }

/-- The states of TE_STATUS (R149). -/
def tsIdle : Nat := 0
def tsRunning : Nat := 1
def tsWaiting : Nat := 2
def tsStopping : Nat := 3
def tsSaved : Nat := 4
def tsDone : Nat := 5
def tsFaulted : Nat := 6
def tsOut : Nat := 7

def State.teStat (s : State) (te : Nat) : Nat := s.fget F.teStatus_state (te / 16) (te % 16) 0
def State.setTeStat (s : State) (te v : Nat) : State := s.fset F.teStatus_state (te / 16) (te % 16) 0 v
def State.tePc (s : State) (te : Nat) : Nat := s.fget F.teStatus_pc (te / 16) (te % 16) 0
def State.teRank (s : State) (te : Nat) : Nat := s.fget F.teJob_rank (te / 16) (te % 16) 0

/-- Tile states by their codes. -/
def bkEmpty : Nat := 0
def bkOpen : Nat := 1
def bkPassed : Nat := 2
def bkFailed : Nat := 3

def bankFld (b : Bool) : Fld := if b then F.teStatus_bank_b else F.teStatus_bank_a

def State.bankState (s : State) (te : Nat) (b : Bool) : Nat := s.fget (bankFld b) (te / 16) (te % 16) 0
def State.setBankState (s : State) (te : Nat) (b : Bool) (v : Nat) : State :=
  s.fset (bankFld b) (te / 16) (te % 16) 0 v

def Engine.bank (e : Engine) (b : Bool) : Bank := if b then e.bankB else e.bankA
def Engine.setBank (e : Engine) (b : Bool) (x : Bank) : Engine :=
  if b then { e with bankB := x } else { e with bankA := x }

/-- A scalar register. -/
def Engine.reg (e : Engine) (i : Nat) : Nat := (e.s[i]?.getD 0).toNat
def Engine.setReg (e : Engine) (i v : Nat) : Engine := { e with s := e.s.set i (BitVec.ofNat 64 v) }

/-! ### Taking an engine for a golden test -/

/-- The current frame number. -/
def State.frame (s : State) : Nat := s.fget F.schFrame_frame 4 0 0

/-- Whether an engine is parked (R428). -/
def State.parked (s : State) (te : Nat) : Bool := bit (s.fget F.pwrParked_parked (te / 16) 0 0) (te % 16)

/-- Whether an engine holds no job that runs or waits on it. -/
def State.teFree (s : State) (te : Nat) : Bool :=
  let st := s.teStat te
  st == tsIdle || st == tsSaved || st == tsDone || st == tsFaulted

/-- Whether an engine's test of the current frame has not passed yet. -/
def State.untested (s : State) (te : Nat) : Bool := (s.gftOf te).passedFrame != some s.frame

/-- The golden area of a die: program, inputs at 64 KiB, output slots from 1 MiB (R292). -/
def State.goldenArea (s : State) (die : Nat) : Nat := s.safety.goldenBase[die]?.getD 0

/-- The instruction words of a program image at an address. -/
def State.programAt (s : State) (a n : Nat) : List Nat := (List.range n).map (fun i => s.numAt (a + 16 * i) 16)

/-- The engine at its job's start: scalar registers as given, every other item of R118 at its start value. -/
def engineAtStart (scalars : List Nat) (program : List Nat) : Engine :=
  { s := (List.range 32).map (fun i => BitVec.ofNat 64 (scalars[i]?.getD 0)), program }

/-- TE_STATUS of an engine that starts to run at instruction 0. -/
def State.teBegin (s : State) (te : Nat) : State :=
  s.setReg (fldAddr F.teStatus_state (te / 16) (te % 16) 0) tsRunning

/-- The GFT takes an engine and starts its test of the current frame as a checked job (R294, R295): the window number
becomes that of the frame. -/
def State.startTest (s : State) (te : Nat) : State :=
  let d := te / 16
  let i := te % 16
  let x := s.gftOf te
  let saved := [s.reg (fldAddr F.teJob_job_ctx d i 0), s.reg (fldAddr F.teProg_prog_addr d i 0),
                s.reg (fldAddr F.teSaveBase_save_addr d i 0)]
  let a := s.goldenArea d
  let n := s.safety.goldenProgLen
  let s := s.setGft te { x with saved, due := false, areaFault := false,
                                startSteps := s.fget F.teSteps_steps d i 0 }
  let s := s.fset F.gftEng_state 4 0 te gfTesting
  let s := s.fset F.gftEng_window 4 0 te s.frame
  let s := s.fset F.gftStatus_testing 4 0 0 (s.fget F.gftStatus_testing 4 0 0 + 1)
  let s := s.fwrap F.gftCounts_tests 4 0 0 1
  let s := s.setReg (fldAddr F.teJob_job_ctx d i 0) (setBit 0 20 true)
  let s := s.setReg (fldAddr F.teProg_prog_addr d i 0) (a + (n - 1) * 2 ^ 48)
  let s := s.setReg (fldAddr F.teSig_signature d i 0) 0
  (s.setEng te (engineAtStart [a + 0x100000 + i * 0x8000, a, i] (s.programAt a n))).teBegin te

/-! ### The chamois engines (R310 to R316) -/

/-- Where CHAMOIS_NET lies in the chamois SRAM. -/
def chamoisBase (bytes : Nat) : Nat := 0x4040000000 + Config.chamoisNet % (2 ^ 24 + 1 - min bytes (2 ^ 24))

/-- The words of the fallback network's program, and of the chamois golden test that follows it (R312). -/
def State.chamoisPrograms (s : State) : List Nat × List Nat :=
  let a := s.safety.chuBase
  let n := s.numAt (a + 24) 4 + 1
  (s.programAt (a + 96) n,
   s.programAt (a + 96 + 16 * n) ((s.safety.chuBytes - 96 - 16 * n - s.numAt (a + 28) 4) / 16))

/-- A chamois engine starts a program at instruction 0. What its scalar registers hold then is open. -/
def State.startChamois (s : State) (k : Nat) (program : List Nat) : State :=
  let scalars := (List.range 32).map (fun i => Config.freeValue (s.freeCtr + i))
  let s := { s with freeCtr := s.freeCtr + 32 }
  let s := s.setReg (fldAddr F.teSig_signature 8 k 0) 0
  let s := s.setGft (64 + k) { s.gftOf (64 + k) with startSteps := s.fget F.teSteps_steps 8 k 0 }
  (s.setEng (chamoisTe + k) (engineAtStart scalars program)).teBegin (chamoisTe + k)

/-- The golden tests of the chamois engines of a mask start (R314). -/
def State.testChamois (s : State) (mask : Nat) : State :=
  (onesBelow mask 2).foldl (fun s k => s.startChamois k s.chamoisPrograms.2) s

/-- The chamois engines of a mask whose golden test ended with the expected signature (R312, R314). -/
def State.chamoisPassed (s : State) (mask : Nat) : List Nat :=
  (onesBelow mask 2).filter (fun k => s.teStat (chamoisTe + k) == tsDone
    && s.fget F.teSig_signature 8 k 0 == s.safety.chuExpected[k]?.getD 0)

/-- Whether a golden test can start on an engine now: it is usable, in service, not parked, holds no job, and its
test of the frame has not passed. -/
def State.canTest (s : State) (te : Nat) : Bool :=
  s.engineUsable te && s.gftState te == gfIn && !s.parked te && s.teFree te && s.untested te

/-- An engine came free: a test that is due starts at once (R299, step 4). -/
def State.testIfDue (s : State) (te : Nat) : State :=
  if (s.gftOf te).due && s.canTest te then s.startTest te else s

end Sys2Proof.Machine
end

