-- ==== Sys2Proof/Machine/TensorOps.lean ====
section
/-! DEFINITION. Shared operations of the tensor engines: fetch and word check, guards and loops, faults, memory
requests, handles, generators, banks, check failures (R108, R118 to R146). -/

namespace Sys2Proof.Machine

/-! ### Handles (R127, R129) -/

/-- The scale bytes of each row of a handle. -/
def Handle.scales (h : Handle) : Nat :=
  if fmtIsMx h.fmt then (elemsOf h.fmt h.rowBytes + 31) / 32 else 0

/-- The bytes of a handle's contents. -/
def Handle.size (h : Handle) : Nat := h.rows * (h.rowBytes + h.scales)

/-- Elements per row. -/
def Handle.perRow (h : Handle) : Nat := elemsOf h.fmt h.rowBytes

/-- Whether two handles share an operand-buffer slot. -/
def Handle.meets (a b : Handle) : Bool := a.slot < b.slot + b.slots && b.slot < a.slot + a.slots

def Engine.handle (e : Engine) (th : Nat) : Option Handle := (e.handles[th]?).getD none

/-- A handle's ready bit: no outstanding write into its slots (R129). -/
def Engine.ready (e : Engine) (h : Handle) : Bool := !e.loads.any (fun l => l.handle.meets h)

/-- The ready bits of all handles. -/
def Engine.readyMask (e : Engine) : Nat :=
  maskOf ((List.range 16).filter (fun i => match e.handle i with
    | none => false
    | some h => e.ready h))

/-- Bytes [off, off + n) of a handle's slots. -/
def Engine.hBytes (e : Engine) (h : Handle) (off n : Nat) : List Byte :=
  (List.range n).map (fun i => storeGet 0 e.opbuf (h.slot * 16384 + off + i))

def putOp (m : Store Byte) (a : Nat) : List Byte → Store Byte
  | [] => m
  | b :: bs => putOp (if b = 0 then storeDrop m a else storePut m a b) (a + 1) bs

def Engine.putBytes (e : Engine) (h : Handle) (off : Nat) (bs : List Byte) : Engine :=
  { e with opbuf := putOp e.opbuf (h.slot * 16384 + off) bs }

def Engine.rowBytesOf (e : Engine) (h : Handle) (r : Nat) : List Byte := e.hBytes h (r * h.rowBytes) h.rowBytes
def Engine.rowScales (e : Engine) (h : Handle) (r : Nat) : List Byte :=
  e.hBytes h (h.rows * h.rowBytes + r * h.scales) h.scales

/-- Elements [lo, lo + n) of a row, without scales. -/
def Engine.rowElems (e : Engine) (h : Handle) (r lo n : Nat) : List Num :=
  let row := e.rowBytesOf h r
  (List.range n).map (fun i => decodeElem h.fmt (elemOf h.fmt row (lo + i)))

/-- The scale exponent of block k of a row; zero for formats without scales. -/
def Engine.rowScale (e : Engine) (h : Handle) (r k : Nat) : Option Int :=
  if fmtIsMx h.fmt then scaleExp (leAt (e.rowScales h r) k 1) else some 0

/-- The values of a row's elements with their scales applied. -/
def Engine.rowValues (e : Engine) (h : Handle) (r : Nat) : List Num :=
  ((e.rowElems h r 0 h.perRow).zip (List.range h.perRow)).map (fun p =>
    match e.rowScale h r (p.2 / 32) with
    | none => .nan
    | some k => p.1.scale k)

/-- A row as written to a handle: element bytes and scale bytes. -/
def Engine.putRow (e : Engine) (h : Handle) (r : Nat) (els scs : List Byte) : Engine :=
  (e.putBytes h (r * h.rowBytes) els).putBytes h (h.rows * h.rowBytes + r * h.scales) scs

/-! ### Generators (R126) -/

def AddrGen.addr (g : AddrGen) : Nat :=
  let off := ((List.zip g.idx g.strides).map (fun p => (p.1 : Int) * signed p.2 32)).sum
  unsigned ((g.base : Int) + off) 48

/-- Steps the first index whose count allows it; those before it return to zero. -/
def stepIdx : List Nat → List Nat → List Nat
  | i :: is, c :: cs => if i + 1 < c then (i + 1) :: is else 0 :: stepIdx is cs
  | is, _ => is

def AddrGen.step (g : AddrGen) : AddrGen := { g with idx := stepIdx g.idx g.counts }

def AddrGen.advance (g : AddrGen) : Nat → AddrGen
  | 0 => g
  | n + 1 => g.step.advance n

def Engine.gen (e : Engine) (a : Nat) : AddrGen := (e.ags[a]?).getD {}
def Engine.setGen (e : Engine) (a : Nat) (g : AddrGen) : Engine := { e with ags := e.ags.set a g }

/-- The addresses of n rows: the generator advances once per row where adv is set. -/
def AddrGen.rows (g : AddrGen) (adv : Bool) : Nat → List Nat
  | 0 => []
  | n + 1 => g.addr :: (if adv then g.step else g).rows adv n

/-! ### The instruction word (R121 to R123) -/

/-- The fields that an opcode lists beside opcode and guard, as lowest bit and width; none for a code that is not in
the map. -/
def opFields (w : Nat) : Option (List (Nat × Nat)) :=
  match bits w 0 8 with
  | 0x00 => some []
  | 0x01 => some [(16, 20), (64, 64)]
  | 0x02 => some [(16, 3), (21, 15), (64, 64)]
  | 0x03 => some [(16, 10), (64, 64)]
  | 0x04 => some [(16, 10), (64, 64)]
  | 0x05 => some [(16, 11)]
  | 0x08 => some [(16, 12), (64, 12)]
  | 0x09 => some [(16, 2), (21, 5), (31, 1), (64, 12), (96, 32)]
  | 0x0A => some []
  | 0x10 => some (if bits w 19 2 = 0 then [(16, 10), (31, 1), (64, 48)] else [(16, 10), (31, 1), (64, 56)])
  | 0x11 => some [(16, 3), (32, 16)]
  | 0x18 => some [(16, 41)]
  | 0x19 => some [(16, 8)]
  | 0x20 => some [(16, 9)]
  | 0x21 => some [(16, 7), (24, 1)]
  | 0x30 => some [(16, 18)]
  | 0x31 => some [(16, 37), (64, 12)]
  | 0x32 => some [(16, 26)]
  | 0x33 => some [(16, 1)]
  | 0x34 => some [(16, 46), (64, 32)]
  | 0x40 => some [(16, 24)]
  | 0x50 => some [(16, 20), (40, 24)]
  | 0x51 => some [(16, 13)]
  | 0x52 => some [(16, 14), (40, 24)]
  | 0x53 => some [(16, 3)]
  | 0x60 => some [(16, 52)]
  | 0x61 => some [(16, 8), (24, 35), (64, 5)]
  | 0x70 => some [(16, 8)]
  | 0x71 => some [(16, 2)]
  | _ => none

/-- Whether every bit outside the listed fields is zero. -/
def reservedClear (w : Nat) (fs : List (Nat × Nat)) : Bool :=
  fs.foldl (fun n f => setBits n f.1 f.2 0) (setBits w 0 13 0) == 0

/-- Whether the guard code is one of R121. -/
def guardCode (w : Nat) : Bool :=
  let g := bits w 8 5
  g == 0 || (8 ≤ g && g ≤ 15) || 24 ≤ g

/-- Whether an engine accepts a format code: the chamois engines take 0x1, 0x4, 0xA and 0xD only (R116). DESIGN CHOICE: a
word of theirs that names another format is a reserved encoding. -/
def acceptsFmt (te f : Nat) : Bool := fmtValid f && (te < chamoisTe || f == 1 || f == 4 || f == 0xA || f == 0xD)

/-- The rows and columns of an engine's array: 128, and 64 on a chamois engine (R116). -/
def arrayDim (te : Nat) : Nat := if te < chamoisTe then 128 else 64

/-- Whether every field value lies in the range its definition states. DESIGN CHOICE: the word of an AGSET holds a count
of 1 or more also where from_reg takes the value from a register. -/
def fieldsInRange (te w : Nat) : Bool :=
  match bits w 0 8 with
  | 0x01 => bits w 32 4 ≤ 0xD
  | 0x02 => bits w 32 4 ≤ 5
  | 0x10 => bits w 19 2 == 0 || 1 ≤ bits w 96 24
  | 0x18 => acceptsFmt te (bits w 29 4)
  | 0x30 => 1 ≤ bits w 17 16 && bits w 17 16 ≤ 32768
  | 0x31 => 1 ≤ bits w 39 13 && bits w 39 13 ≤ 4096 && bits w 64 12 % 32 == 0
  | 0x34 => bits w 31 2 ≤ 2 && bits w 42 4 ≤ 5 && acceptsFmt te (bits w 25 4)
  | 0x40 => bits w 34 6 ≤ 0xC || (0x10 ≤ bits w 34 6 && bits w 34 6 ≤ 0x13)
  | 0x60 => bits w 16 8 ≤ 15 && 1 ≤ bits w 48 16
  | 0x61 => 1 ≤ bits w 40 8 && bits w 40 8 ≤ 128 && 1 ≤ bits w 48 8 && bits w 48 8 ≤ 128
  | 0x70 => bits w 21 3 ≤ 5
  | 0x71 => bits w 16 2 ≤ 2
  | _ => true

/-- Whether the guard lets the instruction execute. -/
def guardHolds (w preds : Nat) : Bool :=
  let g := bits w 8 5
  if g < 8 then true else if g < 16 then bit preds (g - 8) else !bit preds (g - 24)

/-! ### Loops and the pc (R124) -/

/-- The pc after an instruction that completed at pc, and the loops then active, innermost first. -/
def loopNext (pc : Nat) : List (Nat × Nat × Nat) → Nat × List (Nat × Nat × Nat)
  | [] => (pc + 1, [])
  | (a, b, n) :: t =>
    if pc = b then
      if 1 < n then (a, (a, b, n - 1) :: t) else loopNext pc t
    else (pc + 1, (a, b, n) :: t)

/-- The loops that a branch to t leaves active. -/
def loopJump (t : Nat) (ls : List (Nat × Nat × Nat)) : List (Nat × Nat × Nat) :=
  (ls.reverse.takeWhile (fun l => l.1 ≤ t && t ≤ l.2.1)).reverse

/-! ### Faults and check failures (R108, R146) -/

/-! ### Outstanding writes (R126, R129) -/

/-- The requests of [a, a + n): at most 256 bytes each, none across a 256-byte boundary (R170, R570). -/
def requests (a n : Nat) : List (Nat × Nat) := pieces 256 a n (n / 256 + 2)

/-- The first refusal among requests. -/
def State.firstRefusal (s : State) (who : Initiator) (write : Bool) : List (Nat × Nat) → Option (ErrCode × Nat)
  | [] => none
  | (a, n) :: t =>
    match s.checkAccess who write a n with
    | .refuse c => some (c, a)
    | .pass => s.firstRefusal who write t

/-- The record of a refused write of an engine: one across the fabric is a failed posted write too (R480). -/
def State.teWriteRefusal (s : State) (te : Nat) (c : ErrCode) (addr : Nat) : State :=
  if s.posts (.engine te) addr && !s.testing te then
    (s.countRefusal c addr).postFail (.engine te) addr (s.refusalRec c (.engine te) addr)
  else s.refuse c (.engine te) addr

/-- One outstanding write reaches its target. Refused there it changes nothing and writes its record; else it lands.
Whether it was refused. -/
def State.landWrite (s : State) (te : Nat) (w : Nat × List Byte) : State × Bool :=
  let who : Initiator := .engine te
  match s.checkAccess who true w.1 w.2.length with
  | .refuse c => (s.teWriteRefusal te c w.1, true)
  | .pass =>
    let s := ((s.notePosted who w.1).countLines who w.1 w.2.length).takeTokens who w.1 w.2.length
    let r := s.placeWrite who w.1 w.2
    if r.2 = .marked then (r.1.teWriteRefusal te (E.cgOwner.s3If (s.engineJobGrave te)) w.1, true) else (r.1, false)

/-- The outstanding writes that a predicate names reach their targets, oldest first. Whether one was refused. -/
def State.landWrites (s : State) (te : Nat) (which : Nat × List Byte → Bool) : State × Bool :=
  let e := s.eng te
  (e.writes.filter which).foldl (fun acc w =>
    let r := acc.1.landWrite te w
    (r.1, acc.2 || r.2)) (s.setEng te { e with writes := e.writes.filter (fun w => !which w) }, false)

/-- Every outstanding write of an engine that stops reaches its target: instructions that completed keep their effects
(R126). -/
def State.settleWrites (s : State) (te : Nat) : State := (s.landWrites te (fun _ => true)).1

/-- The bytes from address a on with the part that a write covers replaced. -/
def spliceWrite (a : Nat) (bs : List Byte) (w : Nat × List Byte) : List Byte :=
  let lo := max a w.1
  let hi := min (a + bs.length) (w.1 + w.2.length)
  if lo < hi then bs.take (lo - a) ++ (w.2.drop (lo - w.1)).take (hi - lo) ++ bs.drop (hi - a) else bs

/-- An engine reads its own outstanding writes in program order (R129). -/
def State.ownView (s : State) (who : Initiator) (a : Nat) (bs : List Byte) : List Byte :=
  match who with
  | .engine te => (s.eng te).writes.foldl (spliceWrite a) bs
  | _ => bs

/-- Whether an outstanding write of an engine covers the whole ECC word or line at an address: its old poison is not
read. -/
def State.ownCovers (s : State) (who : Initiator) (a : Nat) : Bool :=
  match who with
  | .engine te =>
    let u := if placeOf a = .lpddr then 64 else 8
    (s.eng te).writes.any (fun w => w.1 ≤ a / u * u && a / u * u + u ≤ w.1 + w.2.length)
  | _ => false

/-- An instruction fault: its record, the engine FAULTED, its job FAULTED; a test that is due then starts. -/
def State.teFault (s : State) (te : Nat) (c : ErrCode) : State :=
  let s := s.settleWrites te
  ((s.raiseRec (s.engineRec c te (s.engineJobGrave te))).teStop te c).testIfDue te

/-- The image of the last failing check (R153). -/
def State.noteResidue (s : State) (te : Nat) (c : ErrCode) (b : Bool) (entry predicted found : Nat) : State :=
  let s := s.fset F.teResidueLast_code (te / 16) (te % 16) 0 c.code
  let s := s.fset F.teResidueLast_bank (te / 16) (te % 16) 0 b.toNat
  let s := s.fset F.teResidueLast_entry (te / 16) (te % 16) 0 entry
  let s := s.fset F.teResidueLast_predicted (te / 16) (te % 16) 0 predicted
  s.fset F.teResidueLast_found (te / 16) (te % 16) 0 found

/-- A check failure that a hardware fault reveals on a bank, beside others of the same tile: the tile fails, and R108
takes its course. Which entry differs, and by what residues, the fault decides. DESIGN CHOICE: an uncorrectable
operand-buffer read by an instruction that names no bank (TST, RIE, VOP, the save of R143) fails the tile of bank A, and
its record's entry is open like any other. -/
def State.upsetFails (s : State) (te : Nat) (c : ErrCode) (b : Bool) (others : Nat) : State :=
  let e := s.fresh 14
  let p := e.2.fresh 8
  let f := p.2.fresh 8
  let s := f.2.noteResidue te c b e.1 (p.1 % 255) (f.1 % 255)
  ((s.settleWrites te).setBankState te b bkFailed).checkFailure c te
    (checkDetail te b e.1 (p.1 % 255) (f.1 % 255) others)

/-- The code of an upset that a step detects as a failure. -/
def Upset.failure : Upset → Option ErrCode
  | .operandUncorrectable => some E.operandEccUncorr
  | .accumUncorrectable => some E.accumEccUncorr
  | .combine => some E.residueCombine
  | .residue => some E.residueTile
  | .stateParity => some E.stateParity
  | .lanes => some E.drainLanes
  | .twin => some E.twinIssue
  | _ => none

/-- A corrected read of an operand buffer or an accumulator writes its S1 record (R84). -/
def State.upsetCorrected (s : State) (te : Nat) (u : Upset) : State :=
  match u with
  | .operandCorrected => s.raiseSide { s.engineRec E.operandEccCorr te false with sev := 1, detail := te }
  | .accumCorrected =>
    let e := s.fresh 15
    e.2.raiseSide { s.engineRec E.accumEccCorr te false with
                    sev := 1, detail := checkDetail te (bit e.1 14) (e.1 % 2 ^ 14) 0 0 0 }
  | _ => s

/-! ### Running an instruction (R121, R129) -/

/-- What an instruction's effect answers: it completed and the next instruction follows; it branched; it waits and
nothing changed; it faulted before it changed anything; or it stopped the engine in a state given. -/
inductive TeResult where
  | done (s : State)
  | jump (s : State) (target : Nat) (loops : List (Nat × Nat × Nat))
  | stall
  | fault (c : ErrCode)
  | stopped (s : State)

/-- Whether a write of the engine waits for a fill (R199). -/
def State.teStalled (s : State) (te : Nat) : Bool := s.opens.any (fun p => p.2.stalled.any (fun w => w.1 == te))

/-- The handle_ready, loop_depth and pc fields of TE_STATUS brought up to date. -/
def State.tePlace (s : State) (te pc : Nat) (loops : List (Nat × Nat × Nat)) : State :=
  let e := s.eng te
  let s := s.setEng te { e with loops }
  let s := s.fset F.teStatus_pc (te / 16) (te % 16) 0 pc
  let s := s.fset F.teStatus_loop_depth (te / 16) (te % 16) 0 loops.length
  let s := s.fset F.teStatus_handle_ready (te / 16) (te % 16) 0 e.readyMask
  let s := if s.teStat te = tsWaiting then s.setTeStat te tsRunning else s
  if e.program.length ≤ pc then s.teFault te E.pcRange else s

/-- The next instruction in sequence (R124, R146). -/
def State.teAdvance (s : State) (te : Nat) : State :=
  let n := loopNext (s.tePc te) (s.eng te).loops
  s.tePlace te n.1 n.2

/-- Runs the instruction at the engine's pc where it carries the opcode: word check, guard, effect. -/
def State.teRun (s : State) (te op : Nat) (effect : Nat → TeResult) : State :=
  if (s.teStat te != tsRunning && s.teStat te != tsWaiting) || s.teStalled te then s
  else
    match (s.eng te).program[s.tePc te]? with
    | none => s
    | some w =>
      if bits w 0 8 != op then s
      else
        match opFields w with
        | none => s
        | some fs =>
          if !(reservedClear w fs && guardCode w && fieldsInRange te w) then s.teFault te E.reservedEncoding
          else if !guardHolds w (s.eng te).preds then s.teAdvance te
          else
            match effect w with
            | .done t => t.teAdvance te
            | .jump t target loops => t.tePlace te target loops
            | .stall => s
            | .fault c => s.teFault te c
            | .stopped t => t

/-! ### Memory requests (R126, R129, R170) -/

/-- An engine stops because an access of it was refused: TE_FAULT holds ADDRESS (R146). -/
def State.teAddressStop (s : State) (te : Nat) : State := ((s.settleWrites te).teStop te E.address).testIfDue te

/-- A refused access of an engine: the refusal writes the record, and the engine stops. -/
def State.teRefused (s : State) (te : Nat) (c : ErrCode) (addr : Nat) : State :=
  (s.refuse c (.engine te) addr).teAddressStop te

/-- Lets every outstanding write that a predicate names reach its target before an instruction goes on: a refusal stops
the engine before it, and a write that waits for a fill holds it (R126, R129). -/
def State.teSync (s : State) (te : Nat) (which : Nat × List Byte → Bool) (go : State → TeResult) : TeResult :=
  let r := s.landWrites te which
  if r.2 then .stopped (r.1.teAddressStop te) else if r.1.teStalled te then .stopped r.1 else go r.1

/-- Where a read by a job's engine of [a, a + n) finds poison. -/
def State.poisonIn (s : State) (who : Initiator) (a n : Nat) : Option Nat :=
  let r : GateReader := match s.jobOf who with
    | some j => .job j
    | none => .other
  match (granPieces a n).find? (fun p => s.poisoned (s.steer r p.1) p.2) with
  | none => none
  | some _ =>
    ((pieces 8 a n (n / 8 + 2)).find? (fun p => s.poisoned (s.steer r p.1) p.2 && !s.ownCovers who p.1)).map
      (fun p => s.steer r p.1)

/-- The bytes that reads of an initiator return, with what reading changes: corrections, lines, chain readers. -/
def State.fetchBytes (s : State) (who : Initiator) (a n : Nat) : State × List Byte :=
  let r : GateReader := match s.jobOf who with
    | some j => .job j
    | none => .other
  let s := ((s.correctSteered r a n).countLines who a n).takeTokens who a n
  (s.noteRead r a n, s.ownView who a (s.steeredBytes r a n))

/-- Whether an engine's write of a byte range meets a granule that the job has marked (R139, R200). -/
def State.meetsMarked (s : State) (te a : Nat) : Bool :=
  match s.publicAt a with
  | none => false
  | some (d, b) =>
    let en := s.bufFirst d b + (a - s.bufBase d b) / granBytes
    let mine := s.tvt F.cgTvtEntry_owner d en == s.fget F.teJob_job_ctx (te / 16) (te % 16) 0
    (s.granState d en == gMarked && mine) || (match storeFind s.opens (openKey d en) with
      | none => false
      | some o => mine && bit o.marks (s.teRank te))

/-- The writes of rows as the requests that carry them. -/
def writeRequests (ws : List (Nat × List Byte)) : List (Nat × List Byte) :=
  (ws.map (fun w => (requests w.1 w.2.length).map (fun r => (r.1, (w.2.drop (r.1 - w.1)).take r.2)))).flatten

/-- The outcome of an engine's writes: checked whole where they are issued, then outstanding until an instruction waits
for them (R126, R129). -/
def State.teWrites (s : State) (te : Nat) (ws : List (Nat × List Byte)) : TeResult :=
  let rs := writeRequests ws
  match s.firstRefusal (.engine te) true (rs.map (fun r => (r.1, r.2.length))) with
  | some (c, a) => .stopped ((s.teWriteRefusal te c a).teAddressStop te)
  | none =>
    if rs.any (fun r => s.meetsMarked te r.1) then .fault E.granuleMarked
    else .done (s.setEng te { s.eng te with writes := (s.eng te).writes ++ rs })

/-! ### The signature (R141) -/

/-- CRC-64 with the polynomial of R141 from a register value on. -/
def crc64 (from' : Nat) (bs : List Byte) : Nat := crcOf ⟨64, 0x42F0E1EBA9EA3693, from', false, 0⟩ bs

/-- A piece put into a list that ascends by address, behind those of the same address. -/
def insertLine (x : Nat × List Byte) : List (Nat × List Byte) → List (Nat × List Byte)
  | [] => [x]
  | y :: t => if x.1 < y.1 then x :: y :: t else y :: insertLine x t

/-- The 64-byte lines of written rows in ascending address order. -/
def signatureLines (ws : List (Nat × List Byte)) : List (Nat × List Byte) :=
  let ls := (ws.map (fun w => (pieces 64 w.1 w.2.length (w.2.length / 64 + 2)).map
    (fun p => (p.1, (w.2.drop (p.1 - w.1)).take p.2)))).flatten
  ls.foldl (fun acc x => insertLine x acc) []

/-- Folds written rows into the signature while it is ON. -/
def State.foldSignature (s : State) (te : Nat) (ws : List (Nat × List Byte)) : State :=
  if (s.eng te).sigOn then
    s.fset F.teSig_signature (te / 16) (te % 16) 0
      ((signatureLines ws).foldl (fun r l => crc64 r (leBytes l.1 6 ++ l.2))
        (s.fget F.teSig_signature (te / 16) (te % 16) 0))
  else s

/-! ### Steps (R133, R153) -/

/-- Counts array steps of an engine, and of its job. -/
def State.countSteps (s : State) (te n : Nat) : State :=
  let s := s.fwrap F.teSteps_steps (te / 16) (te % 16) 0 n
  match s.teJobOf te with
  | none => s
  | some j => s.modJob j (fun x => { x with steps := x.steps + n })

/-- Whether the cluster's vector unit is out of service beside an engine that remains in it (R114). -/
def State.vectorOut (s : State) (te : Nat) : Bool :=
  (s.gftOf (te / 2 * 2)).unitOut || (s.gftOf (te / 2 * 2 + 1)).unitOut

end Sys2Proof.Machine
end

