-- ==== Sys2Proof/Machine/GoldenOps.lean ====
section
/-! DEFINITION. Golden tests and frame decisions: the shared operations (R287, R292 to R303, R320). -/

namespace Sys2Proof.Machine

/-- Starts the tests of a list of engines; an engine that cannot be tested now is due. -/
def State.testEngines (s : State) (tes : List Nat) : State :=
  tes.foldl (fun s te =>
    if s.canTest te then s.startTest te
    else if s.engineUsable te && s.untested te && s.gftState te == gfIn && !s.parked te then
      s.setGft te { s.gftOf te with due := true }
    else s) s

/-- The test of an engine is over: its registers are restored and it is IDLE (R294), or out of service where a check
failed meanwhile. -/
def State.endTest (s : State) (te : Nat) : State :=
  let d := te / 16
  let i := te % 16
  let x := s.gftOf te
  let s := s.setReg (fldAddr F.teJob_job_ctx d i 0) (x.saved[0]?.getD 0)
  let s := s.setReg (fldAddr F.teProg_prog_addr d i 0) (x.saved[1]?.getD 0)
  let s := s.setReg (fldAddr F.teSaveBase_save_addr d i 0) (x.saved[2]?.getD 0)
  let s := s.setReg (fldAddr F.teStatus_state d i 0) tsIdle
  let s := (s.setEng te {}).setGft te { x with saved := [] }
  let s := s.fset F.gftStatus_testing 4 0 0 (s.fget F.gftStatus_testing 4 0 0 - 1)
  if s.gftState te = gfTesting then s.fset F.gftEng_state 4 0 te gfIn
  else s.fset F.teStatus_state d i 0 tsOut

/-- An engine passed its test of the current frame. -/
def State.notePass (s : State) (te : Nat) : State :=
  let s := s.setGft te { s.gftOf te with passedFrame := some s.frame, due := false }
  let s := s.fset F.gftEng_last_result 4 0 te 1
  let s := s.fset F.gftEngTime_last_pass_us 4 0 te s.nowUs
  s.countPending

/-- Whether the golden test of frame f (its low 16 bits) has passed on an engine (R203). -/
def State.passedFrom (s : State) (te f : Nat) : Bool :=
  match (s.gftOf te).passedFrame with
  | none => false
  | some p => (p + 65536 - f % 65536) % 65536 < 32768

/-! ### Failures of golden tests (R213, R301, R303) -/


/-- The live states of the frame that is late, changed by a doubt on an output. -/
def State.lateDoubt (s : State) (o : Nat) : State :=
  match s.safety.late with
  | none => s
  | some (f, l) =>
    let st := if s.hasFallback o && s.fallbackState != 1 then outDegraded else outInvalid
    let old := l[o]?.getD outNone
    if old = outNone ∨ outRank st ≤ outRank old then s
    else { s with safety := { s.safety with late := some (f, l.set o st) } }

/-- The outputs of the partitions that hold an engine. -/
def State.outputsOf (s : State) (te : Nat) : List Nat :=
  (List.range s.outputs).filter (fun o => s.outKind o == 1 && (s.partitionsOf te).contains (s.outIndex o))

/-- The island's part of a golden failure (R303): frames f − 1 and f where not yet decided, else their retroactive
invalidation; none under strict mode of the class RT. -/
def State.goldenDoubts (s : State) (te : Nat) : State :=
  let f := s.frame
  let outs := s.outputsOf te
  let prevOpen := s.safety.late.isSome
  let s := outs.foldl (fun s o => (s.lateDoubt o).doubt o rsGolden) s
  let strict := bit (s.fget F.cgConfig_strict_classes 0 0 0) 0
  if outs.isEmpty || strict || (prevOpen && !s.safety.curDecided) || (f = 0 && !s.safety.curDecided) then s
  else
    let s := s.fset F.safRetro_retro_first 4 0 0 (f - 1)
    let s := s.fset F.safRetro_retro_last 4 0 0 f
    let s := s.fset F.safRetroMask_mask 4 0 0 (maskOf outs)
    let s := s.fadd F.safCounts_retro_events 4 0 0 1
    let s := { s with safety := { s.safety with retroCount := s.safety.retroCount + 1, retroNew := 3 } }
    s.raiseSide { recOf E.retroInvalid 4 0x08 te with detail := te + f * 2 ^ 16 }

/-- Causes of a failed test by the codes of GFT_LAST_FAIL. -/
def causeSignature : Nat := 0
def causeFault : Nat := 1
def causeMissed : Nat := 2
def causeExtended : Nat := 3

/-- What every failed or missed golden test leaves in the registers of the GFT, with its record (R301, R302). -/
def State.noteFailure (s : State) (te cause found : Nat) : State :=
  let f := s.frame
  let s := s.fadd F.gftCounts_failures 4 0 0 1
  let s := s.fset F.gftLastFail_engine 4 0 0 te
  let s := s.fset F.gftLastFail_cause 4 0 0 cause
  let s := s.fset F.gftLastFail_frame 4 0 0 f
  let s := s.fset F.gftLastSig_found 4 0 0 found
  let s := s.fset F.gftEng_last_result 4 0 te 2
  s.raiseRec { recOf (if cause = causeMissed then E.gftMissed else E.gftFail) 4 0x09 te with
               detail := te + f * 2 ^ 16 + cause * 2 ^ 48 }

/-- A failed or missed golden test (R301 to R303, R316): record, granules, doubts, quarantine. -/
def State.goldenFailure (s : State) (te cause : Nat) (found : Nat) : State :=
  let f := s.frame
  let s := s.noteFailure te cause found
  let s := (s.failAndReport (te / 16) (s.goldenHits te (some f))).settleAll
  let s := s.goldenDoubts te
  if s.gftState te = gfQuarantine then s else s.quarantine te

/-- Records that a job holds an engine at a rank in the engine's window (R213). -/
def State.noteWindow (s : State) (j te r : Nat) : State :=
  let w := s.fget F.gftEng_window 4 0 te
  s.modJob j (fun x => { x with windows := if x.windows.contains (te, r, w) then x.windows
                                           else x.windows ++ [(te, r, w)] })

end Sys2Proof.Machine
end

