-- ==== Sys2Proof/Machine/Rights.lean ====
section
/-! DEFINITION. What happens to a register write that the write rights of its block refuse, and the rights of the
control cores over engines, rings and the gate (R256, R567, R568). -/

namespace Sys2Proof.Machine

/-- The block code of an offset of a die's register window (R27, R567). -/
def regBlock (die off : Nat) : Nat :=
  if off < 0x10000 then 0x00
  else if off < 0x20000 then 0x01
  else if die < 4 then
    if off < 0x100000 then 0x02
    else if off < 0x200000 then 0x03
    else if off < 0x300000 then 0x04
    else if off < 0x380000 then 0x05
    else if off < 0x3C0000 then 0x06
    else 0x07
  else if die = 4 then
    if off < 0x140000 then 0x08
    else if off < 0x180000 then 0x09
    else if off < 0x200000 then 0x0A
    else if off < 0x280000 then 0x0B
    else if off < 0x300000 then 0x0C
    else if off < 0x380000 then 0x0D
    else if off < 0x3C0000 then 0x0E
    else if off < 0x400000 then 0x0F
    else if off < 0x480000 then 0x10
    else if off < 0x800000 then 0x11
    else 0x12
  else if die = 5 then if off < 0x200000 then 0x13 else if off < 0x300000 then 0x14 else 0x15
  else if off < 0x200000 then 0x16
  else if off < 0x280000 then 0x17
  else if off < 0x300000 then 0x18
  else if off < 0x380000 then 0x19
  else if off < 0x3C0000 then 0x1A
  else 0x1B

/-- The die and block of a register address. -/
def regSource (addr : Nat) : Nat × Nat :=
  match regPlace (addr % bankStride) with
  | some (d, off) => (d, regBlock d off)
  | none => (4, 0)

/-- A register write that is dropped, with the record of a code (R568 where the block has none of its own). -/
def State.dropReg (s : State) (c : ErrCode) (who : Initiator) (addr : Nat) : State :=
  let p := regSource addr
  { s.raiseRec (recAccess c p.1 p.2 who (s.viOf who) (s.secureAccess who) (addr % bankStride)) with resp := {} }

/-- A write that the block's write rights refuse. -/
def State.dropWrite (s : State) (who : Initiator) (addr : Nat) : State := s.dropReg E.regWriteDropped who addr

/-- The address of a field's register. -/
def fldPlace (f : Fld) (die idx : Nat) : Nat := fldAddr f die idx 0

/-- The answer to a write of TE_CTRL: allowed, or dropped with a record: only the die's control cores write it, and
they do not act on engines that RT partitions hold (R256). -/
def State.teCtrlRefused (s : State) (who : Initiator) (te : Nat) : Option State :=
  let a := fldPlace F.teCtrl_start (te / 16) (te % 16)
  if who == .hardware then none
  else if !s.controlsDie who (te / 16) then some (s.dropWrite who a)
  else if s.testing te then some (s.dropReg E.gftEngineBusy who a)
  else if s.blockHeld (te / 2) then some (s.dropReg E.secHeldWrite who a)
  else if bit (s.fget F.schRtLock_engines (te / 16) 0 0) (te % 16) then some (s.dropReg E.schRtProtected who a)
  else none

end Sys2Proof.Machine
end

