-- ==== Sys2Proof/Machine/SysQueue.lean ====
section
/-! DEFINITION. How the scheduler reads queue entries, and how a command of a system queue is carried out and completed
(R28, R229, R230, R234). -/

namespace Sys2Proof.Machine

/-- The queue kinds of R28. -/
def isSubmission (q : Nat) : Bool := q < 16384
def isCompletion (q : Nat) : Bool := 16384 ≤ q && q < 32768

/-- Whether the doorbell of a queue holds its head: completion queues, Ethernet receive queues and gateway OUT queues
(R228, R496, R513). -/
def State.headQueue (s : State) (q : Nat) : Bool :=
  isCompletion q || (40960 ≤ q && q < 57344 && s.fget F.netQcfg_dir 6 0 (q - 40960) == 1)
    || (57344 ≤ q && q < 61440 && s.fget F.gwQcfg_dir 6 0 (q - 57344) == 1)
def isDma (q : Nat) : Bool := 32768 ≤ q && q < 40960
def isSystem (q : Nat) : Bool := 61440 ≤ q && q < 65536


/-- Whether a queue's next entry is read: the queue is ACTIVE and not empty, and the unit that reads it, the switch or the
gateway of O0 or a unit of S, is not frozen (R41). -/
def State.queueReady (s : State) (q : Nat) : Bool :=
  s.qState q == 1 && s.qHead q != s.qTail q && !s.logicFrozen (if 40960 ≤ q ∧ q < 61440 then 6 else 4)

/-- An entry of n bytes whose read met an error response or poison is skipped (R229). DEDUCED: the failed read and the
skipped entry are two events, since R24 or R161 and R229 each ask for a record. -/
def State.skipEntry (s : State) (q n : Nat) : State :=
  let i := s.qHead q
  (s.fset F.schQptr_head 4 0 q (i + 1)).raiseRec
    { recOf E.schEntryUnreadable 4 0x0C 0xFFFF with
      vi := some (s.qVi q), addr := some (s.qEntry q i n), detail := q + i * 2 ^ 16 }

/-- Entry i of n bytes of a queue, read for the queue's instance. -/
def State.readEntryAt (s : State) (q i n : Nat) : State × Option (List Byte) :=
  s.fetchAs (.service (some (s.qVi q))) (s.qEntry q i n) n

/-- What becomes of the entry of n bytes at the head of a queue: nothing where the queue is not ACTIVE or empty; skipped
where it cannot be read (R229); else what `f` makes of it. -/
def State.withEntry (s : State) (q n : Nat) (f : State → List Byte → State) : State :=
  if !s.queueReady q then s
  else
    match s.readEntryAt q (s.qHead q) n with
    | (t, none) => t.skipEntry q n
    | (t, some e) => f t e

/-- Argument i of a command entry. -/
def cmdArg (e : List Byte) (i : Nat) : Nat := leAt e (8 + 8 * i) 8

/-- The command at the head of a system queue is carried out where it has the code: the head passes it, `f` gives
its effect, status and result for the entry and the instance, and its completion is released to its queue. `f`
answers no completion where the command completes later. Commands wait while the firmware of a die does not run (R532). -/
def State.sysCommand (s : State) (q code : Nat) (f : State → List Byte → Nat → State × Option (Nat × Nat)) : State :=
  if !isSystem q || !(List.range 4).all s.firmwareStarts then s
  else s.withEntry q 256 (fun t e =>
    if leAt e 0 1 != code then s
    else
      let vi := s.qVi q
      let r := f (t.fset F.schQptr_head 4 0 q (s.qHead q + 1)) e vi
      match r.2 with
      | none => r.1
      | some (status, result) =>
        if r.1.cqValid vi (leAt e 4 2) then r.1.completeCommand (leAt e 4 2) (leAt e 2 2) vi status result else r.1)

/-- Status codes of commands (R191, R194, R233). -/
def stOk : Nat := 0x00
def stNoSpace : Nat := 0x01
def stPinLimit : Nat := 0x02
def stUnknownModel : Nat := 0x03
def stInUseDeferred : Nat := 0x04
def stLoadFailed : Nat := 0x05
def stBadSource : Nat := 0x06
def stIdInUse : Nat := 0x07
def stModelNotPinned : Nat := 0x08
def stNoEntries : Nat := 0x10
def stBadRange : Nat := 0x11
def stInUse : Nat := 0x12
def stUnknownBuffer : Nat := 0x13
def stBadRecord : Nat := 0x20
def stCtxBusy : Nat := 0x21
def stNotPermitted : Nat := 0x22
def stNoEngines : Nat := 0x23
def stRtNoBudget : Nat := 0x24
def stRtLate : Nat := 0x25
def stCqInvalid : Nat := 0x26

end Sys2Proof.Machine
end

