-- ==== Sys2Proof/Machine/Ingest.lean ====
section
/-! DEFINITION. Sensor ingest and batch preparation: streams, windows, slots and their concealment, batches and their
consumers (R258 to R284). Streams are numbered across the package, groups as O-die index × 16 + group. -/

namespace Sys2Proof.Machine

/-! ### Registers of streams and groups -/

def ippDieOf (stream : Nat) : Nat := 6 + stream / 48
def grpDie (group : Nat) : Nat := 6 + group / 16

def State.ippStream (s : State) (n : Nat) : IppStream := storeGet {} s.ipp.streams n
def State.setIppStream (s : State) (n : Nat) (x : IppStream) : State :=
  { s with ipp := { s.ipp with streams := storePut s.ipp.streams n x } }
def State.ippGroup (s : State) (g : Nat) : IppGroup := storeGet {} s.ipp.groups g
def State.setIppGroup (s : State) (g : Nat) (x : IppGroup) : State :=
  { s with ipp := { s.ipp with groups := storePut s.ipp.groups g x } }

/-- The configuration register of a stream now. -/
def State.scfgReg (s : State) (n : Nat) : Nat := s.reg (fldAddr F.ippScfg_enable (ippDieOf n) 0 (n % 48))

/-- A stream's configuration in force: as latched, else the register's. -/
def State.scfg (s : State) (n : Nat) : Nat := (s.ippStream n).cfg.getD (s.scfgReg n)

def State.grpFld (s : State) (f : Fld) (g : Nat) : Nat := s.fget f (grpDie g) (g % 16) 0

/-! ### Parameter blocks (R281) -/

def parInW (p : List Byte) : Nat := leAt p 0 2
def parInH (p : List Byte) : Nat := leAt p 2 2
def parChannels (p : List Byte) : Nat := leAt p 5 1
def parOutW (p : List Byte) : Nat := leAt p 16 2
def parOutH (p : List Byte) : Nat := leAt p 18 2
def parMean (p : List Byte) (c : Nat) : Nat := leAt p (24 + 4 * c) 4
def parScale (p : List Byte) (c : Nat) : Nat := leAt p (40 + 4 * c) 4

/-- Whether a stream's samples are images: its source has a size. -/
def parImage (p : List Byte) : Bool := parInW p != 0 && parInH p != 0

/-- The 16 × 16 blocks of a picture (R273). -/
def parBlocks (p : List Byte) : Nat := (parInW p + 15) / 16 * ((parInH p + 15) / 16)

/-- The elements of a slot. -/
def parElems (p : List Byte) : Nat := parOutW p * parOutH p * parChannels p

/-- The bytes of a slot (R267). -/
def slotBytes (p : List Byte) (fmt : Nat) : Nat := (parElems p * fmtBits fmt + 7) / 8

/-- The bytes of a remap table (R263). -/
def remapBytes (p : List Byte) : Nat :=
  if leAt p 21 1 = 1 then (parOutW p / 16 + 1) * (parOutH p / 16 + 1) * 8 else 0

/-! ### Stages 3 to 7 (R261, R262) -/

/-- Stages 6 and 7 on one element: v = (x − mean) × scale in binary32, converted with saturation. -/
def normCode (p : List Byte) (fmt c x : Nat) : Nat :=
  let f := decodeFloat fmtFP32
  (encodeElem fmt true (f32Mul (f32Sub (f x) (f (parMean p c))) (f (parScale p c)))).1

/-- Element i of a slot as row, column and channel, in the layout HWC or CHW. -/
def elemPlace (p : List Byte) (chw : Bool) (i : Nat) : Nat × Nat × Nat :=
  let w := max 1 (parOutW p)
  let h := max 1 (parOutH p)
  let ch := max 1 (parChannels p)
  if chw then (i / w % h, i % w, i / (w * h)) else (i / ch / w, i / ch % w, i % ch)

/-- Coordinate k of grid point (i, j) of a remap table: 0 the column, 1 the row, in 1/256 pixel. -/
def remapPoint (p remap : List Byte) (k i j : Nat) : Int :=
  signed (leAt remap ((j * (parOutW p / 16 + 1) + i) * 8 + 4 * k) 4) 32

/-- The source coordinate of an output pixel: between its four grid points in integers, rounded half up (R263). -/
def remapCoord (p remap : List Byte) (k row col : Nat) : Int :=
  let i := col / 16
  let j := row / 16
  let fx : Int := ((col % 16 : Nat) : Int)
  let fy : Int := ((row % 16 : Nat) : Int)
  let at' := remapPoint p remap k
  (at' i j * (16 - fx) * (16 - fy) + at' (i + 1) j * fx * (16 - fy) + at' i (j + 1) * (16 - fx) * fy
    + at' (i + 1) (j + 1) * fx * fy + 128) / 256

/-- An element of the picture after stage 5: where the stream remaps, a bilinear sample at the coordinate of the table,
and the border value outside the picture (R261, R263). DEDUCED: the picture that stage 5 samples is the one that stage 4
gives, out_w by out_h. DESIGN CHOICE: a neighbour beyond its last row or column is that row or column. -/
def stagePixel (p remap : List Byte) (blocks : List Nat) (row col c : Nat) : Nat :=
  if leAt p 21 1 = 1 then
    let x := remapCoord p remap 0 row col
    let y := remapCoord p remap 1 row col
    let w := parOutW p
    let h := parOutH p
    if x < 0 ∨ y < 0 ∨ (w : Int) * 256 ≤ x ∨ (h : Int) * 256 ≤ y then leAt p 112 4
    else
      let q := fun (r k : Nat) => Config.stagedPixel p blocks (min (y.toNat / 256 + r) (h - 1))
        (min (x.toNat / 256 + k) (w - 1)) c
      Config.bilinear [q 0 0, q 0 1, q 1 0, q 1 1] (y.toNat % 256) (x.toNat % 256)
  else Config.stagedPixel p blocks row col c

/-- The slot data of a picture given by its blocks. -/
def imageSlot (p remap : List Byte) (fmt : Nat) (chw : Bool) (blocks : List Nat) : List Byte :=
  packRow fmt ((List.range (parElems p)).map (fun i =>
    let q := elemPlace p chw i
    normCode p fmt q.2.2 (stagePixel p remap blocks q.1 q.2.1 q.2.2)))

/-- The slot data of a sample that is no image: lost elements are zero (R274). -/
def plainSlot (p : List Byte) (fmt : Nat) (chw : Bool) (data : Option (List Byte)) (lost : List Nat) : List Byte :=
  packRow fmt ((List.range (parElems p)).map (fun i =>
    normCode p fmt (elemPlace p chw i).2.2
      (match data with
        | none => 0
        | some d => if lost.contains i then 0 else Config.plainElement p d i)))

/-- The grey slot of R269. -/
def greySlot (p remap : List Byte) (fmt : Nat) (chw : Bool) : List Byte :=
  if parImage p then imageSlot p remap fmt chw (List.replicate (parBlocks p) (Config.greyBlock p))
  else plainSlot p fmt chw none []

/-! ### Concealment (R273, R274) -/

/-- The damaged blocks or elements that a picture of n has. -/
def damagedOf (l : List Nat) (n : Nat) : List Nat := (l.filter (· < n)).eraseDups

/-- The content of a picture's blocks after concealment: a damaged block takes the reference store's, mid-grey where
that was never filled. -/
def concealed (p : List Byte) (src : Nat → Nat) (lost : List Nat) (refs : Store Nat) : List Nat :=
  (List.range (parBlocks p)).map (fun b =>
    if lost.contains b then (storeFind refs b).getD (Config.greyBlock p) else src b)

/-- The reference store after a picture: its undamaged blocks are the latest. -/
def refreshed (p : List Byte) (src : Nat → Nat) (lost : List Nat) (refs : Store Nat) : Store Nat :=
  (List.range (parBlocks p)).foldl (fun m b => if lost.contains b then m else storePut m b (src b)) refs

/-- The damage field of a status word. -/
def damageField (lost total : Nat) : Nat := if total = 0 then 0 else 65535 * lost / total

/-! ### Batch buffers (R266, R270) -/

/-- The bytes that a slot takes in a buffer. -/
def slotRoom (n : Nat) : Nat := (n + 4095) / 4096 * 4096

/-- The slot bytes of the stream of a slot. -/
def State.slotBytesOf (s : State) (stream : Option Nat) : Nat :=
  match stream with
  | none => 0
  | some n => slotBytes (s.ippStream n).params (F.ippScfg_fmt.of (s.scfg n))

/-- The address of a group's buffer. -/
def State.batchAddr (s : State) (g buf : Nat) : Nat :=
  s.grpFld F.ippGrpBase_base g + buf * F.ippGrpCfg_stride.of (s.ippGroup g).cfg

/-- The address of a slot's data. -/
def State.slotDataAddr (s : State) (g : Nat) (b : Batch) (slot : Nat) : Nat :=
  s.batchAddr g b.buf + 0x1000 + (((b.slots.take slot).map (fun x => slotRoom (s.slotBytesOf x.stream)))).sum

/-- A write of the pipeline for a group: it belongs to the group's instance. -/
def State.ippWrite (s : State) (g a : Nat) (bs : List Byte) : State :=
  if bs.isEmpty then s else (s.storeAs (.service (some (F.ippGrpCfg_vi.of (s.ippGroup g).cfg))) a bs).1

/-- The numbers of buffers in a state, as IPP_GRP_STATE shows them. -/
def State.countBuffers (s : State) (g : Nat) : State :=
  let bs := (s.ippGroup g).bufs
  let p := (bs.filter (fun b => match b with | .prepared _ => true | _ => false)).length
  let h := (bs.filter (fun b => match b with | .held _ => true | _ => false)).length
  (s.fset F.ippGrpState_prepared (grpDie g) (g % 16) 0 p).fset F.ippGrpState_held (grpDie g) (g % 16) 0 h

/-- The detail of the pipeline's records: O-die, stream, group and slot (R284). -/
def ippDetail (g : Nat) (stream slot : Option Nat) : Nat :=
  g / 16 + stream.getD 0xFFFF * 2 ^ 8 + g % 16 * 2 ^ 24 + slot.getD 0xFF * 2 ^ 32

/-- A record of the pipeline about a group. -/
def State.ippRec (s : State) (c : ErrCode) (g : Nat) (stream slot : Option Nat) : ErrRec :=
  { recOf c (grpDie g) 0x18 (g % 16) with
    vi := some (F.ippGrpCfg_vi.of (s.ippGroup g).cfg), detail := ippDetail g stream slot }

/-- The low-water alarm after the PREPARED count fell (R272). -/
def State.lowWater (s : State) (g : Nat) : State :=
  let x := s.ippGroup g
  if F.ippGrpCfg_alarm_en.of x.cfg = 1 ∧ x.armed = true ∧ x.order.length ≤ F.ippGrpCfg_low_water.of x.cfg then
    let s := (s.setIppGroup g { x with armed := false }).fset F.ippGrpState_alarm (grpDie g) (g % 16) 0 1
    (s.send (.notice 0x09 g)).raiseSide (s.ippRec E.ippLowWater g none none)
  else s

/-- A PREPARED buffer is discarded. -/
def State.discardPrepared (s : State) (g b : Nat) : State :=
  let x := s.ippGroup g
  ((s.setIppGroup g { x with bufs := x.bufs.set b .free, order := x.order.filter (· != b) }).countBuffers g).lowWater g

/-! ### Windows (R268, R271) -/

/-- The streams that a group's slots are bound to. -/
def State.slotStreams (s : State) (g : Nat) (slots : Nat) : List BatchSlot :=
  (List.range slots).map (fun i =>
    { stream := ((List.range 48).map (· + g / 16 * 48)).find? (fun n =>
        let c := s.scfgReg n
        F.ippScfg_enable.of c == 1 && F.ippScfg_in_group.of c == 1 && F.ippScfg_group.of c == g % 16
          && F.ippScfg_slot.of c == i) })

/-- The configuration that takes effect at a window's start (R279, R282): of the group, and of its slots' streams. -/
def State.latchGroup (s : State) (g : Nat) : State :=
  let cfg := s.reg (fldAddr F.ippGrpCfg_enable (grpDie g) (g % 16) 0)
  let depth := F.ippGrpCfg_depth_m1.of cfg + 1
  let x := s.ippGroup g
  let bufs := x.bufs.take depth ++ List.replicate (depth - x.bufs.length) .free
  let s := s.setIppGroup g { x with cfg, bufs, order := x.order.filter (· < depth) }
  (s.slotStreams g (F.ippGrpCfg_slots_m1.of cfg + 1)).foldl (fun s b =>
    match b.stream with
    | none => s
    | some n =>
      let y := s.ippStream n
      let y := match y.next with
        | none => y
        | some (p, r) => { y with params := p, remap := r, next := none }
      s.setIppStream n { y with cfg := some (s.scfgReg n) }) s

/-- A buffer for a new window: a FREE one, else the oldest PREPARED one, which is discarded. -/
def State.takeBuffer (s : State) (g : Nat) : Option (State × Nat) :=
  let x := s.ippGroup g
  match (List.range x.bufs.length).find? (fun i => x.bufs[i]? == some .free) with
  | some i => some (s, i)
  | none =>
    match x.order with
    | [] => none
    | b :: _ => some ((s.fadd F.ippGrpCounts_overwritten (grpDie g) (g % 16) 0 1).discardPrepared g b, b)

/-- Whether a window of a group may open now (R268): once in each safety frame, or a period after the one before. -/
def State.windowDue (s : State) (g : Nat) : Bool :=
  let x := s.ippGroup g
  match x.opened with
  | none => true
  | some (t, f) => if s.grpFld F.ippGrpCfg_window_src g = 0 then f != s.frame
      else t + s.grpFld F.ippGrpTiming_period g ≤ s.periods

/-- A window of a group opens. -/
def execWindowOpen (group : Nat) (s : State) : Host.Outcome State Fault Refusal :=
  if !s.fon F.ippGrpCfg_enable (grpDie group) (group % 16) 0 || !s.windowDue group || s.logicFrozen (grpDie group) then
    .next s
  else
    let s := s.latchGroup group
    let x := s.ippGroup group
    let w := if F.ippGrpCfg_window_src.of x.cfg = 0 then s.fget F.schFrame_frame 4 0 0 else x.count
    let t := if F.ippGrpCfg_window_src.of x.cfg = 0 then s.safety.frameStart
      else (x.opened.map (fun o => o.1 + s.grpFld F.ippGrpTiming_period group)).getD s.periods
    let s := s.setIppGroup group { x with count := (x.count + 1) % 2 ^ 32, opened := some (t, s.frame) }
    let s := s.fset F.ippGrpState_window (grpDie group) (group % 16) 0 w
    match s.takeBuffer group with
    | none =>
      .next ((s.fadd F.ippGrpCounts_not_collected (grpDie group) (group % 16) 0 1).raiseRec
        (s.ippRec E.ippNotCollected group none none))
    | some (s, b) =>
      let x := s.ippGroup group
      let batch : Batch := { buf := b, window := w, start := s.deviceTime, opened := t
                             slots := s.slotStreams group (F.ippGrpCfg_slots_m1.of x.cfg + 1) }
      .next ((s.setIppGroup group { x with bufs := x.bufs.set b .filling, batches := x.batches ++ [batch] }).countBuffers
        group)

/-! ### Completion of slots and batches -/

/-- The sequencer that drives a stream's stages (R261). -/
def State.stageSeq (s : State) (n : Nat) : Nat := 32 + n / 48 * 16 + F.ippScfg_sequencer.of (s.scfgReg n)

/-- The 32 bytes of a slot header. -/
def slotHeader (b : BatchSlot) : List Byte :=
  match b.stage with
  | .complete status capture seq bytes crc =>
    leBytes status 4 ++ leBytes (b.stream.getD 0xFFFF) 2 ++ leBytes 0 2 ++ leBytes capture 12 ++ leBytes seq 4
      ++ leBytes bytes 4 ++ leBytes crc 4
  | _ => leBytes 0 32

/-- The number of slots of a batch in a state of the status word. -/
def slotsIn (b : Batch) (st : Nat) : Nat :=
  (b.slots.filter (fun x => match x.stage with
    | .complete status _ _ _ _ => status % 4 == st
    | _ => false)).length

/-- The 64 bytes of a batch header. -/
def batchHeader (g : Nat) (b : Batch) : List Byte :=
  leBytes b.window 4 ++ leBytes (g % 16) 1 ++ leBytes b.slots.length 1 ++ leBytes (slotsIn b 0) 1
    ++ leBytes (slotsIn b 1) 1 ++ leBytes (slotsIn b 2) 1 ++ leBytes 0 3 ++ leBytes b.start 12 ++ leBytes 0 40

/-- A batch changed: that of a group whose buffer it fills. -/
def State.putBatch (s : State) (g : Nat) (b : Batch) : State :=
  let x := s.ippGroup g
  s.setIppGroup g { x with batches := x.batches.map (fun y => if y.buf = b.buf ∧ y.done = false then b else y) }

/-- Whether the consume deadline of a frame, or of a later one, has passed. -/
def lateBatch (passed : Option Nat) (window : Nat) : Bool :=
  match passed with
  | none => false
  | some p => (p + 2 ^ 32 - window) % 2 ^ 32 < 2 ^ 31

/-- A batch whose slots are all complete becomes PREPARED: headers first; a late batch of an rt group is discarded
(R270, R277). -/
def State.prepareBatch (s : State) (g : Nat) (b : Batch) : State :=
  let a := s.batchAddr g b.buf
  let s := (List.range b.slots.length).foldl (fun s i =>
    match b.slots[i]? with
    | none => s
    | some x => s.ippWrite g (a + 64 + 32 * i) (slotHeader x)) s
  let s := s.ippWrite g a (batchHeader g b)
  let s := s.putBatch g { b with done := true }
  let x := s.ippGroup g
  let order := x.order ++ [b.buf]
  let s := (s.setIppGroup g { x with
    bufs := x.bufs.set b.buf (.prepared b.window), order
    armed := x.armed || F.ippGrpCfg_low_water.of x.cfg < order.length }).countBuffers g
  if F.ippGrpCfg_rt.of x.cfg = 1 ∧ lateBatch x.passed b.window = true then
    (s.fadd F.ippGrpCounts_late_prepared (grpDie g) (g % 16) 0 1).discardPrepared g b.buf
  else s

/-- One slot of a batch completes with its data. -/
def State.fillSlot (s : State) (g : Nat) (b : Batch) (slot : Nat) (status capture seq : Nat) (data : List Byte) :
    State × Batch :=
  let s := s.ippWrite g (s.slotDataAddr g b slot) data
  let b := { b with slots := modifyAt b.slots slot (fun x =>
    { x with stage := .complete status capture seq data.length (crc32c data) }) }
  (s.putBatch g b, b)

/-- A slot becomes MISSING and holds the grey slot (R268, R269). -/
def State.missSlot (s : State) (g : Nat) (b : Batch) (slot : Nat) : State × Batch :=
  let stream := (b.slots[slot]?).bind (fun x => x.stream)
  let data := match stream with
    | none => []
    | some n => greySlot (s.ippStream n).params (s.ippStream n).remap (F.ippScfg_fmt.of (s.scfg n))
        (F.ippScfg_chw.of (s.scfg n) == 1)
  let rt := F.ippGrpCfg_rt.of (s.ippGroup g).cfg == 1
  let s := s.raiseSide (s.ippRec (E.ippSlotMissing.s3If rt) g stream (some slot))
  s.fillSlot g b slot (2 + 4 + 0xFFFF * 2 ^ 16) 0 0 data

def slotDone (x : BatchSlot) : Bool :=
  match x.stage with
  | .complete _ _ _ _ _ => true
  | _ => false

/-- The close of a group's oldest window, close_offset after its start: what is not complete is MISSING, and the batch
becomes PREPARED. -/
def execWindowClose (group : Nat) (s : State) : Host.Outcome State Fault Refusal :=
  match (s.ippGroup group).batches with
  | [] => .next s
  | b :: _ =>
    if s.periods < b.opened + s.grpFld F.ippGrpTiming2_close_offset group || s.logicFrozen (grpDie group) then .next s
    else
    let s := (b.slots.filterMap (fun x => x.stream)).foldl (fun s n => s.seqEvent (s.stageSeq n) 10) s
    let s := if b.done then s else
      let r := (List.range b.slots.length).foldl (fun (r : State × Batch) i =>
        match r.2.slots[i]? with
        | none => r
        | some x => if slotDone x then r else r.1.missSlot group r.2 i) (s, b)
      r.1.prepareBatch group r.2
    let x := s.ippGroup group
    .next (s.setIppGroup group { x with batches := x.batches.drop 1 })

/-! ### Samples (R259, R260, R268, R276) -/

/-- The camera lane whose samples a stream takes. -/
def laneOfStream (n : Nat) : Nat := n / 48 * 16 + n % 48

/-- A safety-slice lane hands its sample to the fallback preparation path (R260). -/
def State.fallbackSample (s : State) (n capture : Nat) (damage : List Nat) (data : List Byte) : State :=
  if n % 48 < 16 then
    { s with safety := { s.safety with lanes := s.safety.lanes.map (fun l =>
        if l.lane = laneOfStream n ∧ l.sample = none ∧ s.safety.fbClosed = false then
          { l with sample := some (capture, data, damage) } else l) } }
  else s

/-- A span of time counter periods in parts of 1/65 536 ns, times 24. -/
def periodParts24 (n : Nat) : Nat := n * 625 * 65536

/-- Whether a capture time lies in the window of a batch: [start + offset, next start + offset) (R268). -/
def State.captureIn (s : State) (g : Nat) (b : Batch) (capture : Nat) : Bool :=
  let len := if F.ippGrpCfg_window_src.of (s.ippGroup g).cfg = 0 then s.fget F.gftCfg_frame_period 4 0 0
    else s.grpFld F.ippGrpTiming_period g
  let off := s.grpFld F.ippGrpTiming_offset g
  let lo := timeOfCode b.start * 24 + periodParts24 off
  lo ≤ timeOfCode capture * 24 && timeOfCode capture * 24 < lo + periodParts24 len

/-- The slot that a stream feeds, by group and slot number. -/
def State.slotOf (s : State) (n : Nat) : Option (Nat × Nat) :=
  let c := s.scfg n
  if F.ippScfg_in_group.of c = 1 then some (n / 48 * 16 + F.ippScfg_group.of c, F.ippScfg_slot.of c) else none

/-- A sample with its capture time arrives on a stream. -/
def State.ingestSample (s : State) (stream capture : Nat) (damage : List Nat) (data : List Byte) :
    Host.Outcome State Fault Refusal :=
  let s := s.fallbackSample stream capture damage data
  if F.ippScfg_enable.of (s.scfg stream) != 1 || s.fget F.ippSstat_state (ippDieOf stream) 0 (stream % 48) != 1
      || s.logicFrozen (ippDieOf stream) then .next s
  else
    let y := s.ippStream stream
    let x : Sample := { seq := y.seq, capture, data, damage, since := s.periods }
    let s := s.setIppStream stream { y with seq := (y.seq + 1) % 2 ^ 32 }
    match s.slotOf stream with
    | none => .next s
    | some (g, slot) =>
      match (s.ippGroup g).batches.find? (fun b => !b.done && s.captureIn g b capture) with
      | none => .next (s.fadd F.ippSstat_late (ippDieOf stream) 0 (stream % 48) 1)
      | some b =>
        match b.slots[slot]? with
        | some q =>
          if q.stream = some stream ∧ q.stage = .waiting then
            .next (s.putBatch g { b with slots := b.slots.set slot { q with stage := .staged x } })
          else .next s
        | none => .next s

/-- A sample arrives on a stream. Camera samples carry the time of their start of picture; others their own time. -/
def execSampleIngest (stream capture : Nat) (damage : List Nat) (data : List Byte) (s : State) :
    Host.Outcome State Fault Refusal :=
  s.ingestSample stream (if stream % 48 < 16 then s.deviceTime else capture) damage data

/-- The batch and the sample that a stream has in its stages. -/
def State.stagedSample (s : State) (n : Nat) : Option (Nat × Nat × Batch × Sample) :=
  match s.slotOf n with
  | none => none
  | some (g, slot) =>
    (s.ippGroup g).batches.findSome? (fun (b : Batch) =>
      match b.slots[slot]? with
      | some ⟨some k, .staged x⟩ => if k = n ∧ b.done = false then some (g, slot, b, x) else none
      | _ => none)

/-- Whether the sequencer that drives a stream's stages is STOPPED: its slots become MISSING at each close (R261,
R356). -/
def State.stagesStopped (s : State) (n : Nat) : Bool := s.fget F.tsqState_state 4 0 (s.stageSeq n) == 5

/-- Whether a sample's decode has taken n µs. DEDUCED: a decode starts when its sample has arrived. -/
def State.decodedFor (s : State) (x : Sample) (n : Nat) : Bool := x.since * 10 + n * 384 ≤ s.periods * 10

/-- A decode has reached four times its budget: the blocks not yet decoded are damaged. -/
def execDecodeAbort (stream : Nat) (undecoded : List Nat) (s : State) : Host.Outcome State Fault Refusal :=
  match s.stagedSample stream with
  | none => .next s
  | some (g, slot, b, x) =>
    if F.ippScfg_decode.of (s.scfg stream) = 0 ∨ x.aborted = true ∨ s.logicFrozen (ippDieOf stream) = true
        ∨ s.decodedFor x (4 * F.ippScfg_budget_us.of (s.scfg stream)) = false then .next s
    else
      let x := { x with damage := x.damage ++ undecoded, aborted := true }
      let s := s.putBatch g { b with slots := b.slots.set slot { stream := some stream, stage := .staged x } }
      let s := s.fadd F.ippSstat_aborts (ippDieOf stream) 0 (stream % 48) 1
      .next (s.raiseRec (s.ippRec E.ippDecodeAbort g (some stream) (some slot)))

/-- The blocks that a sample gives: those of H.265 depend on earlier pictures too, so each is a free value. -/
def State.sourceOf (s : State) (decode : Nat) (p : List Byte) (x : Sample) : (Nat → Nat) × State :=
  if decode = 2 then
    (fun b => Config.freeValue (s.freeCtr + b), { s with freeCtr := s.freeCtr + parBlocks p })
  else (fun b => Config.sourceBlock decode p x.data b, s)

/-- A sample finishes its stages and its slot is written; `lost` are the blocks that the decoder could not reconstruct
or that rest on damaged areas, `refsLost` those whose reference has met an uncorrectable error: it counts as never filled
(R275). -/
def execSlotComplete (stream : Nat) (lost refsLost : List Nat) (s : State) : Host.Outcome State Fault Refusal :=
  match (if s.stagesStopped stream || s.logicFrozen (ippDieOf stream) then none else s.stagedSample stream) with
  | none => .next s
  | some (g, slot, b, x) =>
    let y := s.ippStream stream
    let y := { y with refs := refsLost.foldl storeDrop y.refs }
    let p := y.params
    let c := s.scfg stream
    let fmt := F.ippScfg_fmt.of c
    let chw := F.ippScfg_chw.of c == 1
    let total := if parImage p then parBlocks p else parElems p
    let bad := damagedOf (x.damage ++ lost) total
    let r := s.sourceOf (F.ippScfg_decode.of c) p x
    let data := if parImage p then imageSlot p y.remap fmt chw (concealed p r.1 bad y.refs)
      else plainSlot p fmt chw (some x.data) bad
    let grey := parImage p && bad.any (fun k => (storeFind y.refs k).isNone)
    let s := if parImage p then r.2.setIppStream stream { y with refs := refreshed p r.1 bad y.refs } else r.2
    let status := (if bad.isEmpty then 0 else 1) + grey.toNat * 4 + x.aborted.toNat * 8
      + damageField bad.length total * 2 ^ 16
    let s := if bad.isEmpty then s
      else (s.fadd F.ippSstat_concealed (ippDieOf stream) 0 (stream % 48) 1).raiseRec
        (s.ippRec E.ippConcealed g (some stream) (some slot))
    let q := s.fillSlot g b slot status x.capture x.seq data
    if q.2.slots.all slotDone then .next (q.1.prepareBatch g q.2) else .next q.1

/-! ### Consumers (R270, R277, R278) -/

/-- The PREPARED buffer that an acquire takes: the oldest; for an rt group, of the current frame. -/
def State.acquirable (s : State) (g : Nat) : Option (Nat × Nat) :=
  let x := s.ippGroup g
  x.order.findSome? (fun (i : Nat) =>
    match x.bufs[i]? with
    | some (.prepared w) =>
      if F.ippGrpCfg_rt.of x.cfg = 1 ∧ w ≠ s.frame then none else some (i, w)
    | _ => none)

/-- Whether a group's instance is under reset, which refuses acquires and releases (R379). -/
def State.instanceResets (s : State) (vi : Nat) : Bool := s.fget F.viState_state 4 0 vi == 4

/-- A read of IPP_GRP_ACQ. -/
def execGroupAcquire (who : Initiator) (group : Nat) (s : State) : Host.Outcome State Fault Refusal :=
  if !who.reachesRegisters then
    .next (s.refuse E.addressRefused who (fldAddr F.ippGrpAcq_index (grpDie group) (group % 16) 0))
  else if s.instanceResets (s.grpFld F.ippGrpCfg_vi group) then
    .next (s.refuse E.addressRefused who (fldAddr F.ippGrpAcq_index (grpDie group) (group % 16) 0))
  else
    match s.acquirable group with
    | none => .next (s.answer 0)
    | some (i, w) =>
      let x := s.ippGroup group
      let s := s.setIppGroup group { x with
        bufs := x.bufs.set i (.held w), order := x.order.filter (· != i), acquired := some w }
      .next (((s.countBuffers group).lowWater group).answer (i + 2 ^ 4 + w % 2 ^ 32 * 2 ^ 32))

/-- A write of IPP_GRP_REL. -/
def execGroupRelease (who : Initiator) (group index : Nat) (s : State) : Host.Outcome State Fault Refusal :=
  let a := fldAddr F.ippGrpRel_index (grpDie group) (group % 16) 0
  if !(who.isSteward || s.belongs who (s.grpFld F.ippGrpCfg_vi group))
      || s.instanceResets (s.grpFld F.ippGrpCfg_vi group) then .next (s.dropWrite who a)
  else
    let x := s.ippGroup group
    match x.bufs[index]? with
    | some (.held _) =>
      .next ((s.setIppGroup group { x with bufs := x.bufs.set index .free }).countBuffers group).answerOk
    | _ => .next { s.raiseRec { s.ippRec E.ippBadRelease group none none with
                                  initiator := initiatorCode who ((s.viOf who).getD 0) false } with resp := {} }

/-- The consume deadline of an rt group's frame. -/
def execRtConsumeDeadline (group : Nat) (s : State) : Host.Outcome State Fault Refusal :=
  let x := s.ippGroup group
  let f := s.frame
  if F.ippGrpCfg_rt.of x.cfg != 1 || !s.fon F.ippGrpCfg_enable (grpDie group) (group % 16) 0
      || !s.afterStart (s.grpFld F.ippGrpTiming2_consume_offset group) then .next s
  else
    let s := s.setIppGroup group { x with passed := some f }
    if x.acquired = some f then .next s
    else
      let s := (x.order.filter (fun i => x.bufs[i]? == some (.prepared f))).foldl
        (fun s i => s.discardPrepared group i) s
      let s := s.fadd F.ippGrpCounts_rt_missing (grpDie group) (group % 16) 0 1
      let s := s.raiseRec (s.ippRec E.ippRtMissing group none none)
      .next (s.doubtPartition (F.ippGrpCfg_rt_partition.of x.cfg) rsRtInput)

/-- At a frame start, the PREPARED batches of earlier frames of rt groups are discarded (R277). -/
def State.ippFrameStart (s : State) : State :=
  (storeKeys s.ipp.groups).foldl (fun s g =>
    let x := s.ippGroup g
    if F.ippGrpCfg_rt.of x.cfg = 1 then x.order.foldl (fun s i =>
      if x.bufs[i]? = some (.prepared s.frame) then s else s.discardPrepared g i) s
    else s) s

/-- An instance reset disables the instance's groups: FILLING buffers are discarded, HELD ones freed (R279). -/
def State.ippResetVi (s : State) (vi : Nat) : State :=
  (List.range 32).foldl (fun s g =>
    if s.grpFld F.ippGrpCfg_vi g = vi ∧ s.fon F.ippGrpCfg_enable (grpDie g) (g % 16) 0 = true then
      let s := s.fset F.ippGrpCfg_enable (grpDie g) (g % 16) 0 0
      let x := s.ippGroup g
      (s.setIppGroup g { x with
        batches := [], bufs := x.bufs.map (fun b => match b with
          | .prepared w => .prepared w
          | _ => .free) }).countBuffers g
    else s) s

/-! ### Parameters and stream reset (R279, R282) -/

/-- The load bit of IPP_SPARAM: the parameter block and its remap table are copied into the store. -/
def execParameterLoad (who : Initiator) (stream src : Nat) (s : State) : Host.Outcome State Fault Refusal :=
  let a := fldAddr F.ippSparam_src (ippDieOf stream) 0 (stream % 48)
  if !who.isSteward then .next (s.dropWrite who a)
  else
    let s := (s.fset F.ippSparam_src (ippDieOf stream) 0 (stream % 48) src).answerOk
    match s.fetchAs (.service none) src 128 with
    | (s, none) => .next s
    | (s, some p) =>
      if remapBytes p = 0 then .next (s.setIppStream stream { s.ippStream stream with next := some (p, []) })
      else
        match s.fetchAs (.service none) (leAt p 104 8) (remapBytes p) with
        | (s, none) => .next s
        | (s, some r) => .next (s.setIppStream stream { s.ippStream stream with next := some (p, r) })

/-- A stream reset: the reference store is cleared, and the stream's slot in the open batch is MISSING. -/
def execStreamReset (who : Initiator) (stream : Nat) (s : State) : Host.Outcome State Fault Refusal :=
  if !who.isSteward then .next (s.dropWrite who (fldAddr F.ippSstat_reset (ippDieOf stream) 0 (stream % 48)))
  else
    let s := (s.setIppStream stream { s.ippStream stream with refs := [] }).answerOk
    match s.slotOf stream with
    | none => .next s
    | some (g, slot) =>
      match (s.ippGroup g).batches.find? (fun b => !b.done && (match b.slots[slot]? with
          | some x => x.stream == some stream && !slotDone x
          | none => false)) with
      | none => .next s
      | some b =>
        let q := s.missSlot g b slot
        if q.2.slots.all slotDone then .next (q.1.prepareBatch g q.2) else .next q.1

end Sys2Proof.Machine
end

