-- ==== Sys2Proof/Machine/Cache.lean ====
section
/-! DEFINITION. The model cache: its commands and the end of a load (R182 to R191). -/

namespace Sys2Proof.Machine

/-- A registration that a command may name: it exists and is not being released (R191). -/
def State.namedModel (s : State) (vi id : Nat) : Option Model :=
  match s.model? vi id with
  | none => none
  | some m => if m.releasing then none else some m

/-- MC_REGISTER: model id, source, length, die, address of the CRC table. -/
def execMcRegister (queue : Nat) (s : State) : Host.Outcome State Fault Refusal :=
  .next (s.sysCommand queue 0x01 (fun s e vi =>
    let id := cmdArg e 0
    let src := cmdArg e 1
    let len := cmdArg e 2
    let die := cmdArg e 3
    if 64 ≤ id ∨ 4 ≤ die then (s, some (stBadRecord, 0))
    else if (s.model? vi id).isSome then (s, some (stIdInUse, 0))
    else if len = 0 ∨ placeOf src ≠ .lpddr ∨ !s.inReach vi src len then (s, some (stBadSource, 0))
    else if s.allotPairs vi die < modelPairs len then (s, some (stNoSpace, 0))
    else
      (s.putModel vi id { source := src, length := len, die, crcTable := cmdArg e 4 }, some (stOk, 0))))

/-- The cache granules of an instance's pinned models on a die, with one more model counted in. -/
def State.pinnedPairs (s : State) (vi die id : Nat) : Nat :=
  ((s.cache.models.filter (fun p => p.1 / 64 == vi && p.2.die == die && (p.2.pinned || p.1 % 64 == id))).map
    (fun p => modelPairs p.2.length)).sum

/-- MC_PIN: keeps a model resident, and loads it first where it is absent; the command then completes with the load. -/
def execMcPin (queue : Nat) (s : State) : Host.Outcome State Fault Refusal :=
  .next (s.sysCommand queue 0x02 (fun s e vi =>
    let id := cmdArg e 0
    match s.namedModel vi id with
    | none => (s, some (stUnknownModel, 0))
    | some m =>
      if s.allotPairs vi m.die * 3 / 4 < s.pinnedPairs vi m.die id then (s, some (stPinLimit, 0))
      else
        match m.state with
        | .resident => (s.putModel vi id { m with pinned := true, pinLost := false }, some (stOk, 0))
        | _ =>
          let t := s.demandModel vi id m.loadClass
          match t.model? vi id with
          | none => (s, some (stNoSpace, 0))
          | some n =>
            if n.state = .absent then (s, some (stNoSpace, 0))
            else
              let ws := n.waiters ++ [(queue, leAt e 2 2, leAt e 4 2)]
              (t.putModel vi id { n with pinned := true, pinLost := false, waiters := ws }, none)))

/-- MC_UNPIN: takes effect at once. -/
def execMcUnpin (queue : Nat) (s : State) : Host.Outcome State Fault Refusal :=
  .next (s.sysCommand queue 0x03 (fun s e vi =>
    match s.namedModel vi (cmdArg e 0) with
    | none => (s, some (stUnknownModel, 0))
    | some m => (s.putModel vi (cmdArg e 0) { m with pinned := false, pinLost := false }, some (stOk, 0))))

/-- Completes the pin commands that wait for a load. -/
def State.pinDone (s : State) (vi : Nat) (ws : List (Nat × Nat × Nat)) (status : Nat) : State :=
  ws.foldl (fun s w => if s.cqValid vi w.2.2 then s.completeCommand w.2.2 w.2.1 vi status 0 else s) s

/-- MC_RELEASE: a model in use leaves when its last job ends. Pin commands that wait for its load end with
UNKNOWN_MODEL. -/
def execMcRelease (queue : Nat) (s : State) : Host.Outcome State Fault Refusal :=
  .next (s.sysCommand queue 0x04 (fun s e vi =>
    let id := cmdArg e 0
    match s.namedModel vi id with
    | none => (s, some (stUnknownModel, 0))
    | some m =>
      let s := s.pinDone vi m.waiters stUnknownModel
      if s.modelInUse vi id then
        (s.putModel vi id { m with releasing := true, pinned := false, waiters := [] }, some (stInUseDeferred, 0))
      else ({ s with cache := { s.cache with models := storeDrop s.cache.models (vi * 64 + id) } }, some (stOk, 0))))

/-! ### Prefetch (R188, R189) -/

def State.counter (s : State) (vi x y : Nat) : Nat := storeGet 0 s.cache.counters ((vi * 64 + x) * 64 + y)

def State.rowSum (s : State) (vi x : Nat) : Nat := ((List.range 64).map (s.counter vi x)).sum

/-- A dispatch counted in the table of its instance; a row whose counter reaches 255 is halved (R188). -/
def State.learn (s : State) (vi prev cur : Nat) : State :=
  let n := s.counter vi prev cur + 1
  let row := fun y => (vi * 64 + prev) * 64 + y
  let c := storePut s.cache.counters (row cur) n
  let c := if n < 255 then c
    else (List.range 64).foldl (fun c y => storePut c (row y) (storeGet 0 c (row y) / 2)) c
  { s with cache := { s.cache with counters := c } }

/-- Room for a prefetch of a model of value share num / den: free granules, else models below that share are dropped
in ascending order of value (R189). -/
def State.prefetchRoom (s : State) (vi : Nat) (y : Model) (num den : Nat) : Nat → Option (State × Nat)
  | 0 => none
  | fuel + 1 =>
    match s.runOf vi y.die (modelPairs y.length) with
    | some r => some r
    | none =>
      match s.leastValue (s.droppable vi y.die) with
      | none => none
      | some id =>
        match s.model? vi id with
        | none => none
        | some m =>
          if valueBelow (reloadUs m.length * den) (s.idleMs m) (num * reloadUs y.length) (s.idleMs y) then
            (s.dropModel vi id).prefetchRoom vi y num den fuel
          else none

/-- Starts a BULK load of an absent model under the space rule of R189 with p = num / den; none where it finds no
room. -/
def State.prefetch (s : State) (vi id num den : Nat) : Option State :=
  match s.model? vi id with
  | none => none
  | some m =>
    if m.state = .absent ∧ s.firmwareStarts m.die = true then
      (s.prefetchRoom vi m num den 66).map (fun r => r.1.startLoad vi id r.2 3 .prefetching)
    else none

/-- The model with the highest counter of a row; the lower id wins. -/
def State.likeliest (s : State) (vi x : Nat) : Nat :=
  (List.range 64).foldl (fun best y => if s.counter vi x best < s.counter vi x y then y else best) 0

/-- The cache's part of the dispatch of a job whose first model is X: the learned transition, then the prefetch
(R188, R189). -/
def State.cacheDispatch (s : State) (vi x : Nat) : State :=
  let s := match storeFind s.cache.previous vi with
    | none => s
    | some prev => s.learn vi prev x
  let s := { s with cache := { s.cache with previous := storePut s.cache.previous vi x } }
  let y := s.likeliest vi x
  let n := s.counter vi x y
  if 8 ≤ n ∧ s.rowSum vi x ≤ 2 * n then (s.prefetch vi y n (s.rowSum vi x)).getD s else s

/-- MC_PREFETCH: a BULK load under the space rule of R189, the requested model at its own value. -/
def execMcPrefetch (queue : Nat) (s : State) : Host.Outcome State Fault Refusal :=
  .next (s.sysCommand queue 0x05 (fun s e vi =>
    let id := cmdArg e 0
    match s.namedModel vi id with
    | none => (s, some (stUnknownModel, 0))
    | some m =>
      if m.state ≠ .absent then (s, some (stOk, 0))
      else
        match s.prefetch vi id 1 1 with
        | none => (s, some (stNoSpace, 0))
        | some t => (t, some (stOk, 0))))

/-- The state that MC_QUERY returns, by its place in the list of R191. -/
def modelCode (m : Model) : Nat :=
  if m.pinLost then 5
  else
    match m.state with
    | .absent => 0
    | .loading => 1
    | .prefetching => 2
    | .resident => if m.pinned then 4 else 3

/-- MC_QUERY. -/
def execMcQuery (queue : Nat) (s : State) : Host.Outcome State Fault Refusal :=
  .next (s.sysCommand queue 0x06 (fun s e vi =>
    match s.namedModel vi (cmdArg e 0) with
    | none => (s, some (stUnknownModel, 0))
    | some m => (s, some (stOk, modelCode m))))

/-! ### The end of a load (R184, R187) -/

/-- The pieces of a model's source that its descriptors move: offset and bytes. -/
def modelPieces (length : Nat) : List (Nat × Nat) :=
  (List.range (modelPairs length)).map (fun i => (i * 0x200000, min 0x200000 (length - i * 0x200000)))

/-- The record of a load's COPY that failed its end-to-end check on stream engine se of the model's die (R169, R192). -/
def State.loadRec (c : ErrCode) (vi : Nat) (m : Model) (se off : Nat) : ErrRec :=
  { recOf c m.die 0x05 0xFFFF with vi := some vi, addr := some (m.source + off), detail := unitDetail m.die se 0 }

/-- One COPY of a load, of one cache granule: the source and its CRC are read for the instance, compared, and the bytes
written (R169, R187). False where a read was refused or met poison, or a check failed, each with its record. -/
def State.loadPiece (s : State) (vi : Nat) (m : Model) (b se : Nat) (same : Bool) (p : Nat × Nat) : State × Bool :=
  let who : Initiator := .service (some vi)
  match s.fetchAs who (m.crcTable + p.1 / 0x200000 * 4) 4 with
  | (s, none) => (s, false)
  | (s, some crc) =>
    match s.fetchAs who (m.source + p.1) p.2 with
    | (s, none) => (s, false)
    | (s, some bs) =>
      let dst := granuleAddr m.die b + p.1
      let s := (s.store dst bs).fwrap F.seBytes_lines m.die se 0 ((dst + bs.length + 63) / 64 - dst / 64)
      if !same then (s.raiseRec (State.loadRec E.seCrc vi m se p.1), false)
      else if crc32c bs != leNat crc then (s.raiseRec (State.loadRec E.seExpectedCrc vi m se p.1), false)
      else (s, true)

/-- The COPY descriptors of a load, one after the other, up to the first that fails. -/
def State.loadPieces (s : State) (vi : Nat) (m : Model) (b se : Nat) (same : Bool) : List (Nat × Nat) → State × Bool
  | [] => (s, true)
  | p :: t =>
    match s.loadPiece vi m b se same p with
    | (s, false) => (s, false)
    | (s, true) => s.loadPieces vi m b se same t

/-- The jobs that wait for a model. -/
def State.jobsWaitingOn (s : State) (vi id : Nat) : List Nat :=
  (storeKeys s.sched.jobs).filter (fun j => s.jobLive j && s.jobState j == jsQueued && s.jobVi j == vi
    && (s.job j).record.models.contains id)

/-- A waiting job completes without having run: state QUEUED and a status; its context is freed. -/
def State.refuseWaiting (s : State) (j status : Nat) : State :=
  let q := (s.job j).record.cq
  let bytes := s.jobCompletion j status
  let s := s.modJob j (fun x => { x with held := true, settled := true })
  ((s.endModels j).unready j).releaseCompletion q { job := some j, bytes }

/-- A model load completes: its bytes are in place and it is RESIDENT, or it fails and is ABSENT, with the jobs that
wait on it. The firmware chose stream engine se of the die; `same` tells whether the CRC of the bytes as written equals that
of the bytes as read. -/
def execModelLoadDone (vi id se : Nat) (same : Bool) (s : State) : Host.Outcome State Fault Refusal :=
  match s.model? vi id with
  | none => .next s
  | some m =>
    match m.base with
    | none => .next s
    | some b =>
      if (m.state ≠ .loading ∧ m.state ≠ .prefetching) ∨ !s.firmwareFinishes m.die then .next s
      else
        let r := s.loadPieces vi m b (se % 4) same (modelPieces m.length)
        if r.2 then .next ((r.1.putModel vi id { m with state := .resident, waiters := [] }).pinDone vi m.waiters stOk)
        else
          let s := r.1.putModel vi id { m with state := .absent, base := none, waiters := [],
                                               pinned := m.pinned && m.waiters.isEmpty }
          let s := s.pinDone vi m.waiters stLoadFailed
          .next ((s.jobsWaitingOn vi id).foldl (fun s j => s.refuseWaiting j stLoadFailed) s)

end Sys2Proof.Machine
end

