-- ==== Sys2Proof/Machine/TensorSync.lean ====
section
/-! DEFINITION. Synchronisation, confirmation and speculation on the tensor engines: WAIT, SIGNAL, BAR, FENCE, CMARK,
RIE and the events that end their waits (R137 to R140, R196, R199 to R201, R243). -/

namespace Sys2Proof.Machine

/-! ### Event flags -/

/-- Sets an event flag of an engine. -/
def State.setFlag (s : State) (te f : Nat) : State :=
  let e := s.eng te
  s.setEng te { e with flags := setBit e.flags f true }

/-- An engine waits: the time counts from the period in which it began. -/
def State.teWaits (s : State) (te : Nat) : State :=
  if s.teStat te = tsWaiting then s
  else (s.setEng te { s.eng te with waitFrom := s.periods }).setTeStat te tsWaiting

/-- Waits on event flags; the flags that satisfied the wait are cleared. -/
def execWait (te : Nat) (s : State) : Host.Outcome State Fault Refusal :=
  .next (s.teRun te 0x50 (fun w =>
    let e := s.eng te
    let mask := bits w 16 16
    let met := Nat.land e.flags mask
    if (if bit w 32 then met == mask else met != 0) then
      .done (s.setEng te { e with flags := e.flags - met, preds := setBit e.preds (bits w 33 3) true })
    else .stopped (s.teWaits te)))

/-- Whether the timeout of the WAIT or BAR that an engine waits in has run out: its periods have passed since it was
issued, or issued again (R137, R143). -/
def State.timedOut (s : State) (te w : Nat) : Bool :=
  bits w 40 24 != 0 && (s.eng te).waitFrom + bits w 40 24 ≤ s.periods

/-- A WAIT's timeout ends it with pd = 0. -/
def execWaitTimeout (te : Nat) (s : State) : Host.Outcome State Fault Refusal :=
  if s.teStat te != tsWaiting then .next s
  else
    .next (s.teRun te 0x50 (fun w =>
      let e := s.eng te
      if !s.timedOut te w then .stall
      else .done (s.setEng te { e with preds := setBit e.preds (bits w 33 3) false })))

/-- The ring of a stream engine of a die that is bound to a job (R165). -/
def State.boundRing (s : State) (die se j : Nat) : Option Nat :=
  ((List.range 4).map (fun r => die * 16 + se * 4 + r)).find? (fun n =>
    let i := n % 16 / 4 * 0x800 + n % 4
    s.fget F.seRingBase_job_ctx die i 0 == j && 4 ≤ s.fget F.seRingBase_size_log2 die i 0)

/-- Sends a flag to a herd peer or to a ring once every earlier write has completed; it sets the flag when it arrives
(R138). -/
def execSignal (te : Nat) (s : State) : Host.Outcome State Fault Refusal :=
  .next (s.teRun te 0x51 (fun w =>
    match s.teJobOf te with
    | none => .fault E.signalTarget
    | some j =>
      let target := if bit w 26 then (s.boundRing (te / 16) (bits w 27 2) j).map (· + 64)
        else s.rankEngine j (bits w 16 6)
      match target with
      | none => .fault E.signalTarget
      | some t => s.teSync te (fun _ => true) (fun s =>
          .done { s with signals := s.signals ++ [⟨te, t, bits w 22 4⟩] })))

/-- The list without the first flight of a flag to a target that no earlier flight of its sender to that target
precedes; none where there is no such flight. -/
def takeFlight (target flag : Nat) : List Flight → List Flight → Option (List Flight)
  | _, [] => none
  | before, x :: t =>
    if x.target = target ∧ x.flag = flag ∧ before.all (fun y => y.sender != x.sender || y.target != target) then
      some (before ++ t)
    else takeFlight target flag (before ++ [x]) t

/-- A SIGNAL arrives at its engine and sets the flag. -/
def execEventFlagArrival (te flag : Nat) (s : State) : Host.Outcome State Fault Refusal :=
  match takeFlight te flag [] s.signals with
  | none => .next s
  | some fs => .next ({ s with signals := fs }.setFlag te flag)

/-! ### Barriers (R138, R243) -/

/-- Arrives at a barrier, once every earlier write has completed, and waits there for its release. -/
def execBar (te : Nat) (s : State) : Host.Outcome State Fault Refusal :=
  .next (s.teRun te 0x52 (fun w => s.teSync te (fun _ => true) (fun s =>
    let s := s.teWaits te
    match s.teJobOf te with
    | none => .stopped s
    | some j =>
      let here := storeGet [] (s.job j).arrivals (bits w 16 8)
      if here.any (fun a => a / 64 == s.teRank te) then .stopped s
      else .stopped (s.modJob j (fun x =>
        { x with arrivals := storePut x.arrivals (bits w 16 8) (here ++ [s.teRank te * 64 + bits w 24 6])
                 arrivedAt := storePut x.arrivedAt (s.teRank te) s.periods })))))

/-- A release logged for herd pacing: the span since the release before, and the waits on each die (R433). -/
def State.logRelease (s : State) (j : Nat) (ranks : List Nat) : State :=
  s.modJob j (fun x =>
    let wait := fun d => (ranks.map (fun r =>
      if (x.ranks[r]?.getD 64) / 16 = d then s.periods - storeGet s.periods x.arrivedAt r else 0)).sum
    let entry := (s.periods - max x.released x.dispatchTime) :: (List.range 4).map wait
    { x with released := s.periods, herdLog := (x.herdLog ++ [entry]).drop (x.herdLog.length - 15) })

/-- The last arrival of a barrier releases every engine that arrived. -/
def execBarrierRelease (job barrier : Nat) (s : State) : Host.Outcome State Fault Refusal :=
  let here := storeGet [] (s.job job).arrivals barrier
  if !here.isEmpty && here.all (fun a => a % 64 + 1 ≤ here.length) then
    let s := s.modJob job (fun x => { x with arrivals := storeDrop x.arrivals barrier })
    let s := s.logRelease job (here.map (· / 64))
    .next (here.foldl (fun s a =>
      match s.rankEngine job (a / 64) with
      | none => s
      | some te => if s.teStat te = tsWaiting then s.teAdvance te else s) s)
  else .next s

/-- A BAR's timeout expires on an engine that still waits at it. -/
def execBarrierTimeout (te : Nat) (s : State) : Host.Outcome State Fault Refusal :=
  if s.teStat te != tsWaiting then .next s
  else .next (s.teRun te 0x52 (fun w => if s.timedOut te w then .fault E.barrierTimeout else .stall))

/-- Waits for earlier writes and reports whether all since the previous FENCE succeeded (R137, R482). -/
def execFence (te : Nat) (s : State) : Host.Outcome State Fault Refusal :=
  .next (s.teRun te 0x53 (fun w => s.teSync te (fun _ => true) (fun s =>
    let e := s.eng te
    .done (s.setEng te { e with preds := setBit e.preds (bits w 16 3) e.writesOk, writesOk := true }))))

/-! ### Confirm marks (R139, R196, R201) -/

/-- The granules [first, first + count) of a buffer as entry numbers, but for those whose bound token is false: a
CMARK on these has no effect (R210). -/
def State.markGranules (s : State) (j d b first count : Nat) : List Nat :=
  ((List.range count).map (· + first)).filter (fun g => !s.dropsWrite j d b g)

/-- Whether an address lies in granules [first, first + count) of a buffer. -/
def State.inBufferRange (s : State) (d b first count addr : Nat) : Bool :=
  inGranules addr (s.bufBase d b + first * granBytes) count

/-- Whether a CMARK may count on a granule: it is IDLE, FAILED, OPEN without a group, or OPEN in the same group with
marks still to come. -/
def State.markFits (s : State) (d e first count contrib : Nat) : Bool :=
  let st := s.granState d e
  if st = gIdle ∨ st = gFailed then true
  else
    match storeFind s.opens (openKey d e) with
    | none => true
    | some o => st == gOpen &&
        (o.grpCount == 0 || (o.grpFirst == first && o.grpCount == count && o.contrib == contrib))

/-- The granules of the groups that a CMARK touches. -/
def State.groupsOf (s : State) (d b : Nat) (gs : List Nat) : List (Nat × Nat × OpenGranule) :=
  let first := s.bufFirst d b
  let hit := fun (o : OpenGranule) => gs.any (fun g =>
    g == o.g || (match storeFind s.opens (openKey d (first + g)) with
      | none => false
      | some q => q.grpCount != 0 && q.grpFirst == o.grpFirst && q.grpCount == o.grpCount))
  (s.opens.filter (fun p => p.1 / 8192 == d && p.2.buf == b && hit p.2)).map
    (fun p => (p.1 / 8192, p.1 % 8192, p.2))

/-- One mark on one granule; with the last mark required the granule is MARKED. A FAILED granule joins the group, which
then does not confirm (R203). -/
def State.markOne (s : State) (te d b g first count contrib : Nat) : State :=
  let e := s.bufFirst d b + g
  match storeFind s.opens (openKey d e) with
  | none => s
  | some o =>
    let o := { o with grpFirst := first, grpCount := count, contrib := contrib, marks := setBit o.marks (s.teRank te) true }
    let s := { s with opens := storePut s.opens (openKey d e) o }
    if s.granState d e = gFailed then s
    else
      let n := if s.tvt F.cgTvtEntry_marks_req_m1 d e = contrib then s.tvt F.cgTvtEntry_marks_rcvd d e + 1 else 1
      let s := s.fset F.cgTvtEntry_marks_req_m1 d 0 e contrib
      let s := s.fset F.cgTvtEntry_marks_rcvd d 0 e n
      if n = contrib + 1 then s.setGranState d b e gMarked else s

/-- Whether a granule is not ready for a mark: it is IDLE, or its fill still runs (R199). -/
def State.awaitsFill (s : State) (d e : Nat) : Bool :=
  s.granState d e == gIdle || (match storeFind s.opens (openKey d e) with
    | none => false
    | some o => o.filling)

/-- A CMARK on granules that are not ready: the job becomes the owner of those that are IDLE, and the engine waits for the
fills; the CMARK counts once they are done (R199, R201). -/
def State.markWaits (s : State) (te j d b : Nat) (gs : List Nat) : State :=
  gs.foldl (fun s g =>
    let e := s.bufFirst d b + g
    let s := if s.granState d e = gIdle then s.takeGranule j d b g else s
    match storeFind s.opens (openKey d e) with
    | none => s
    | some o =>
      if o.filling then { s with opens := storePut s.opens (openKey d e) { o with stalled := o.stalled ++ [(te, 0, [])] } }
      else s) s

/-- Records a confirm mark on a granule range of one of the job's buffers. -/
def execCmark (te : Nat) (s : State) : Host.Outcome State Fault Refusal :=
  .next (s.teRun te 0x60 (fun w =>
    let first := bits w 24 24
    let count := bits w 48 16
    let contrib := bits w 64 4
    match s.teJobOf te with
    | none => .fault E.reservedEncoding
    | some j =>
      match ((s.job j).record.buffers[bits w 16 8]?).getD none with
      | none => .fault E.reservedEncoding
      | some (d, b) =>
        if s.bufGranules d b < first + count then .fault E.handleRange
        else s.teSync te (fun p => s.inBufferRange d b first count p.1) (fun s =>
          let gs := s.markGranules j d b first count
          let ent := fun g => s.bufFirst d b + g
          match gs.find? (fun g => s.granState d (ent g) != gIdle && s.tvt F.cgTvtEntry_owner d (ent g) != j) with
          | some g =>
            .stopped (s.teRefused te (E.cgOwner.s3If (s.jobGrave j)) (s.slotAddr d b g 0))
          | none =>
            if gs.all (fun g => s.markFits d (ent g) first count contrib) then
              if gs.any (fun g => s.awaitsFill d (ent g)) then .stopped (s.markWaits te j d b gs)
              else .done (gs.foldl (fun s g => s.markOne te d b g first count contrib) s)
            else
              let s := s.settleWrites te
              let s := s.raiseRec { s.engineRec E.cgContribMismatch te (s.engineJobGrave te) with
                                    die := d, block := 0x06, unit := b, detail := gateDetail b (ent first) j }
              let s := s.failGranules (s.groupsOf d b gs)
              .stopped (s.teStop te E.cgContribMismatch))))

/-! ### Resolving speculation (R140) -/

/-- The number of leading units that are equal. -/
def leadingEqual (unit : Nat) (a b : List Byte) : Nat → Nat
  | 0 => 0
  | n + 1 =>
    if a.take unit = b.take unit then 1 + leadingEqual unit (a.drop unit) (b.drop unit) n else 0

/-- Compares the units of two handles and resolves tokens by the outcome, all in one update. -/
def execRie (te : Nat) (upset : Upset) (s : State) : Host.Outcome State Fault Refusal :=
  .next (s.teRun te 0x61 (fun w =>
    let e := s.eng te
    let base := bits w 24 16
    let count := bits w 40 8
    let unit := bits w 48 8
    match e.handle (bits w 16 4), e.handle (bits w 20 4) with
    | some ha, some hb =>
      if !(e.ready ha && e.ready hb) then .stall
      else if ha.size < count * unit || hb.size < count * unit then .fault E.handleRange
      else
        let n := match s.teJobOf te with
          | none => 0
          | some j => (s.job j).tokenCount
        if n < base + count then .fault E.reservedEncoding
        else if upset = .operandUncorrectable then .stopped (s.upsetFails te E.operandEccUncorr false 0)
        else
          let s := s.upsetCorrected te upset
          let lead := leadingEqual unit (e.hBytes ha 0 (count * unit)) (e.hBytes hb 0 (count * unit)) count
          let e' := { e.setReg (bits w 64 5) lead with preds := setBit e.preds (bits w 56 3) (lead == count) }
          let s := s.setEng te e'
          match s.teJobOf te with
          | none => .done s
          | some j =>
            .done (s.resolveTokens j base (fun t => t < base + lead) byRie count)
    | _, _ => .fault E.handleRange))

end Sys2Proof.Machine
end

