-- ==== Sys2Proof/Machine/Stream.lean ====
section
/-! DEFINITION. Stream engines: rings, descriptors and their retirement (R165 to R174). Ring n stands for ring n mod 4
of stream engine n / 4 mod 4 of compute die n / 16. -/

namespace Sys2Proof.Machine

/-! ### A ring and its registers -/

def State.ringTail (s : State) (n : Nat) : Nat := s.fget F.seRingTail_tail (n / 16) (ringReg n) 0

/-- The address of descriptor i of a ring. -/
def State.descAddr (s : State) (n i : Nat) : Nat :=
  s.fget F.seRingBase_base (n / 16) (ringReg n) 0
    + i % 2 ^ s.fget F.seRingBase_size_log2 (n / 16) (ringReg n) 0 * 64

/-- Whether an initiator may write a ring's registers: the die's control cores, and the stream engine's own
sequencer (R163, R171, R335). -/
def State.ringRights (s : State) (who : Initiator) (n : Nat) : Bool :=
  s.controlsDie who (n / 16) || who == .hardware || who == .tahr (72 + n / 4)

/-! ### Descriptors (R166, R167) -/

def descOp (d : List Byte) : Nat := leAt d 0 1
def descRank (d : List Byte) : Nat := leAt d 2 1
def descEvent (d : List Byte) : Nat := leAt d 3 1
def descSignals (d : List Byte) : Bool := bit (leAt d 1 1) 0
def descExpects (d : List Byte) : Bool := bit (leAt d 1 1) 1

/-- Whether a descriptor moves or fills bytes. -/
def descMoves (d : List Byte) : Bool := descOp d == 1 || descOp d == 2

/-- Whether a descriptor is well formed for a job of so many ranks (R166, R167). -/
def descOk (ranks : Nat) (d : List Byte) : Bool :=
  (1 ≤ descOp d && descOp d ≤ 5) && leAt d 1 1 < 4 && leAt d 4 4 == 0 && leAt d 56 8 == 0
    && leAt d 8 8 < 2 ^ 48 && leAt d 16 8 < 2 ^ 48 && descRank d < ranks && descEvent d < 16
    && (!descMoves d || (1 ≤ leAt d 40 4 && leAt d 40 4 ≤ 16777216 && 1 ≤ leAt d 44 2 && 1 ≤ leAt d 46 2))

/-- The addresses of the rows of a shape in transfer order; an address below zero wraps past the map. -/
def shapeRows (base s1 s2 c1 c2 : Nat) : List Nat :=
  ((List.range c2).map (fun (k2 : Nat) => (List.range c1).map (fun (k1 : Nat) =>
    unsigned (base + k1 * signed s1 32 + k2 * signed s2 32) 64))).flatten

def descSrcRows (d : List Byte) : List Nat :=
  shapeRows (leAt d 8 8) (leAt d 24 4) (leAt d 28 4) (leAt d 44 2) (leAt d 46 2)
def descDstRows (d : List Byte) : List Nat :=
  shapeRows (leAt d 16 8) (leAt d 32 4) (leAt d 36 4) (leAt d 44 2) (leAt d 46 2)

/-- Whether the source and the destination of a COPY overlap. -/
def descOverlaps (d : List Byte) : Bool :=
  let n := leAt d 40 4
  (descSrcRows d).any (fun a => (descDstRows d).any (fun b => a < b + n && b < a + n))

/-! ### Failure (R172) -/

/-- A ring stops FAULTED for a code, and its job with it. -/
def State.ringStop (s : State) (n : Nat) (code : Nat) : State :=
  let s := s.setRingSt n rgFaulted
  let s := s.setRing n { s.ring n with inFlight := [], pausing := false }
  let s := s.fset F.seStatus_last_code (n / 16) (n % 16 / 4) 0 code
  let s := s.fset F.seStatus_last_ring (n / 16) (n % 16 / 4) 0 (n % 4)
  s.stopJob (s.ringJob n) jsFaulted code

/-- A failed descriptor: its record, then the stop of ring and job. -/
def State.ringFail (s : State) (n : Nat) (c : ErrCode) : State :=
  let j := s.ringJob n
  (s.raiseRec { recOf (c.s3If (s.jobGrave j)) (n / 16) 0x05 (n % 16) with
                vi := some (s.ringVi n), job := some j, addr := some (s.descAddr n (s.ring n).issue),
                detail := unitDetail (n / 16) (n % 16 / 4) (n % 4) }).ringStop n c.code

/-! ### Accesses of a ring -/

/-- A ring's read of one request: its bytes, or the code of the record that a refusal or poison raised. -/
def State.ringRead (s : State) (n a len : Nat) : State × Except Nat (List Byte) :=
  match s.checkAccess (.ring n) false a len with
  | .refuse c => (s.refuse c (.ring n) a, .error c.code)
  | .pass =>
    match s.poisonIn (.ring n) a len with
    | some p =>
      (s.reportPoison (.ring n) p 1,
       .error (if placeOf p == .lpddr then E.memEccUncorr.code else E.spmEccUncorr.code))
    | none =>
      let r := s.fetchBytes (.ring n) a len
      (r.1, .ok r.2)

/-- A ring's write of one request, with the code of the record that a refusal raised. -/
def State.ringWrite (s : State) (n a : Nat) (bs : List Byte) : State × Option Nat :=
  match s.checkAccess (.ring n) true a bs.length with
  | .refuse c => if s.posts (.ring n) a then (s.refuseWrite c (.ring n) a, some E.brPostedFail.code)
    else (s.refuse c (.ring n) a, some c.code)
  | .pass =>
    let s := s.notePosted (.ring n) a
    let r := ((s.countLines (.ring n) a bs.length).takeTokens (.ring n) a bs.length).placeWrite (.ring n) a bs
    let s := r.1.fwrap F.seBytes_lines (n / 16) (n % 16 / 4) 0 ((a + bs.length + 63) / 64 - a / 64)
    if r.2 = .marked then (s.refuse (E.cgOwner.s3If (s.jobGrave (s.ringJob n))) (.ring n) a, some E.cgOwner.code)
    else (s, none)

/-- Writes bytes in requests of at most 256 bytes, up to the first refusal. -/
def State.ringWrites (s : State) (n : Nat) (bs : List Byte) (a : Nat) : List (Nat × Nat) → State × Option Nat
  | [] => (s, none)
  | p :: t =>
    let r := s.ringWrite n p.1 ((bs.drop (p.1 - a)).take p.2)
    match r.2 with
    | some c => (r.1, some c)
    | none => r.1.ringWrites n bs a t

/-- Writes the bytes of one row. -/
def State.ringWriteRow (s : State) (n a : Nat) (bs : List Byte) : State × Option Nat :=
  s.ringWrites n bs a (requests a bs.length)

/-- Moves the requests of one row; the bytes read are added to those read before. -/
def State.copyRow (s : State) (n src dst : Nat) (blind : Bool) (acc : List Byte) :
    List (Nat × Nat) → State × Except Nat (List Byte)
  | [] => (s, .ok acc)
  | p :: t =>
    match s.ringRead n p.1 p.2 with
    | (s, .error c) => (s, .error c)
    | (s, .ok bs) =>
      let w := if blind then s.freeBytes bs.length else (s, bs)
      match w.1.ringWriteRow n (dst + (p.1 - src)) w.2 with
      | (s, some c) => (s, .error c)
      | (s, none) => s.copyRow n src dst blind (acc ++ bs) t

/-- Moves rows one by one. -/
def State.copyRows (s : State) (n len : Nat) (blind : Bool) (acc : List Byte) :
    List (Nat × Nat) → State × Except Nat (List Byte)
  | [] => (s, .ok acc)
  | p :: t =>
    match s.copyRow n p.1 p.2 blind acc (requests p.1 len) with
    | (s, .error c) => (s, .error c)
    | (s, .ok acc) => s.copyRows n len blind acc t

/-- The fill pattern repeated over so many bytes from a position of the transfer on. -/
def fillBytes (pattern : List Byte) (from' len : Nat) : List Byte :=
  (List.range len).map (fun i => pattern[(from' + i) % 4]?.getD 0)

/-- Fills rows one by one. -/
def State.fillRows (s : State) (n len : Nat) (pattern : List Byte) (done : Nat) : List Nat → State × Option Nat
  | [] => (s, none)
  | a :: t =>
    match s.ringWriteRow n a (fillBytes pattern done len) with
    | (s, some c) => (s, some c)
    | (s, none) => s.fillRows n len pattern (done + len) t

/-! ### Issue (R168) -/

/-- The next index of a ring: indexes have 12 bits. -/
def ringNext (i : Nat) : Nat := (i + 1) % 4096

/-- A descriptor was issued: it is in progress until it retires. -/
def State.ringIssued (s : State) (n : Nat) (d : List Byte) (crc : Nat) : State :=
  let r := s.ring n
  (s.setRing n { r with inFlight := r.inFlight ++ [⟨r.issue, d, crc⟩], issue := ringNext r.issue }).setRingSt n
    rgRunning

/-- Issues the ring's next descriptor where it has the operation code; a malformed one fails in any case. Nothing is issued
while the die's logic is frozen (R41). -/
def State.ringRun (s : State) (n op : Nat) (effect : State → List Byte → State) : State :=
  let r := s.ring n
  let st := s.ringSt n
  if (st != rgRunning && st != rgWaiting) || r.pausing || r.issue == s.ringTail n || s.logicFrozen (n / 16) then s
  else
    match s.ringRead n (s.descAddr n r.issue) 64 with
    | (s, .error c) => s.ringStop n c
    | (t, .ok d) =>
      if !descOk (t.job (t.ringJob n)).ranks.length d then t.ringFail n E.seDescriptor
      else if descOp d != op then s
      else effect t d

/-- Moves the rows of a COPY. -/
def execSeCopy (ring : Nat) (s : State) : Host.Outcome State Fault Refusal :=
  .next (s.ringRun ring 1 (fun s d =>
    match s.copyRows ring (leAt d 40 4) (descOverlaps d) [] ((descSrcRows d).zip (descDstRows d)) with
    | (s, .error c) => s.ringStop ring c
    | (s, .ok bs) => s.ringIssued ring d (crc32c bs)))

/-- Writes the pattern of a FILL. -/
def execSeFill (ring : Nat) (s : State) : Host.Outcome State Fault Refusal :=
  .next (s.ringRun ring 2 (fun s d =>
    let len := leAt d 40 4
    let rows := descDstRows d
    match s.fillRows ring len (byteSlice d 52 4) 0 rows with
    | (s, some c) => s.ringStop ring c
    | (s, none) => s.ringIssued ring d (crc32c (fillBytes (byteSlice d 52 4) 0 (len * rows.length)))))

/-- Holds the ring until its flag is set, then clears the flag. -/
def execSeWait (ring : Nat) (s : State) : Host.Outcome State Fault Refusal :=
  .next (s.ringRun ring 3 (fun s d =>
    let r := s.ring ring
    if bit r.flags (descEvent d) then
      (s.setRing ring { r with flags := setBit r.flags (descEvent d) false }).ringIssued ring d (crc32c [])
    else s.setRingSt ring rgWaiting))

/-- Sets an event flag of the engine of a herd rank of the ring's job. -/
def State.signalRank (s : State) (n : Nat) (d : List Byte) : State :=
  match s.rankEngine (s.ringJob n) (descRank d) with
  | none => s
  | some te => s.setFlag te (descEvent d)

/-- Sets an engine flag. -/
def execSeSignal (ring : Nat) (s : State) : Host.Outcome State Fault Refusal :=
  .next (s.ringRun ring 4 (fun s d => (s.signalRank ring d).ringIssued ring d (crc32c [])))

/-- Holds the ring until every earlier descriptor has completed. -/
def execSeFence (ring : Nat) (s : State) : Host.Outcome State Fault Refusal :=
  .next (s.ringRun ring 5 (fun s d =>
    if (s.ring ring).inFlight.isEmpty then s.ringIssued ring d (crc32c []) else s.setRingSt ring rgWaiting))

/-- A SIGNAL of an engine arrives at a ring and sets its flag. -/
def execRingFlagSet (ring flag : Nat) (s : State) : Host.Outcome State Fault Refusal :=
  match takeFlight (64 + ring) flag [] s.signals with
  | none => .next s
  | some fs =>
    let r := s.ring ring
    .next ({ s with signals := fs }.setRing ring { r with flags := setBit r.flags flag true })

/-! ### Retirement (R168, R169) -/

/-- Whether a write of the ring waits for a fill of the gate (R199). -/
def State.ringStalled (s : State) (n : Nat) : Bool :=
  s.opens.any (fun p => p.2.stalled.any (fun w => w.1 == 64 + n))

/-- The destination of a failed descriptor holds bytes that the spec leaves open. -/
def State.spoilDest (s : State) (n : Nat) (d : List Byte) : State :=
  (descDstRows d).foldl (fun s a =>
    let r := s.freeBytes (leAt d 40 4)
    (r.1.placeWrite (.ring n) a r.2).1) s

/-- The oldest descriptor in progress retires: the CRCs are compared, then the head moves on and the flag is set. -/
def State.retireDescriptor (s : State) (n : Nat) (x : Issued) (rest : List Issued) (same : Bool) : State :=
  if descMoves x.desc && !same then (s.spoilDest n x.desc).ringFail n E.seCrc
  else if descMoves x.desc && descExpects x.desc && x.crc != leAt x.desc 48 4 then
    (s.spoilDest n x.desc).ringFail n E.seExpectedCrc
  else
    let s := s.setRing n { s.ring n with inFlight := rest }
    let s := s.fset F.seRingHead_head (n / 16) (ringReg n) 0 (ringNext x.idx)
    let s := if (s.tahrSeq (72 + n / 4)).ring = some n then s.seqEvent (72 + n / 4) 10 else s
    if descSignals x.desc then s.signalRank n x.desc else s

/-- A descriptor retires; `same` tells whether the CRC of the bytes as written equals that of the bytes as read. -/
def execDescriptorRetire (ring : Nat) (same : Bool) (s : State) : Host.Outcome State Fault Refusal :=
  match (s.ring ring).inFlight with
  | [] => .next s
  | x :: rest =>
    if s.ringStalled ring || s.logicFrozen (ring / 16) then .next s else .next (s.retireDescriptor ring x rest same)

/-! ### Control of a ring (R172, R173) -/

/-- A write of the ring's tail index. -/
def execSeRingTailWrite (who : Initiator) (ring tail : Nat) (s : State) : Host.Outcome State Fault Refusal :=
  if s.ringRights who ring then
    .next (s.setReg (fldAddr F.seRingTail_tail (ring / 16) (ringReg ring) 0) (tail % 4096)).answerOk
  else .next (s.dropWrite who (fldAddr F.seRingTail_tail (ring / 16) (ringReg ring) 0))

/-- Runs a ring from its head; nothing happens in RUNNING, WAITING and FAULTED. -/
def State.opRingStart (s : State) (n : Nat) : State :=
  if s.ringSt n = rgIdle ∨ s.ringSt n = rgPaused then
    (s.setRing n { s.ring n with issue := s.ringHead n, inFlight := [], pausing := false }).setRingSt n rgRunning
  else s


/-- A bit of SE_RING_CTRL written by an initiator. -/
def State.ringCtrl (s : State) (who : Initiator) (n : Nat) (op : State → Nat → State) : State :=
  if s.ringRights who n then (op s n).answerOk
  else s.dropWrite who (fldAddr F.seRingCtrl_start (n / 16) (ringReg n) 0)

def execSeRingStart (who : Initiator) (ring : Nat) (s : State) : Host.Outcome State Fault Refusal :=
  .next (s.ringCtrl who ring State.opRingStart)

def execSeRingPause (who : Initiator) (ring : Nat) (s : State) : Host.Outcome State Fault Refusal :=
  .next (s.ringCtrl who ring State.opRingPause)

def execSeRingAbort (who : Initiator) (ring : Nat) (s : State) : Host.Outcome State Fault Refusal :=
  .next (s.ringCtrl who ring State.opRingAbort)

/-- A pausing ring has completed its requests: its head is the first descriptor that has not retired. -/
def execRingPaused (ring : Nat) (s : State) : Host.Outcome State Fault Refusal :=
  let r := s.ring ring
  if r.pausing && !s.ringStalled ring then
    .next ((s.setRing ring { r with pausing := false, inFlight := [], issue := s.ringHead ring }).setRingSt ring
      rgPaused)
  else .next s

end Sys2Proof.Machine
end

