-- ==== Sys2Proof/Machine/Gate.lean ====
section
/-! DEFINITION. The confirm gate's rows: fills, confirmable buffers, confirmation of groups, and resolutions from
outside (R193, R194, R199, R203 to R205, R208). -/

namespace Sys2Proof.Machine

/-! ### The end of a fill (R199) -/

/-- A writer whose write waited for a fill that failed stops. -/
def State.stopWriter (s : State) (w : Nat) : State :=
  if w < 64 then (s.teStop w E.cgFill).testIfDue w
  else if w < 128 then s.ringStop (w - 64) E.cgFill.code else s

/-- A fill met an uncorrectable error: the granule is FAILED, the writes that wait are dropped, and their writers and
the owner's job stop. -/
def State.fillFails (s : State) (d e : Nat) (o : OpenGranule) (src : Nat) : State :=
  let j := s.tvt F.cgTvtEntry_owner d e
  let s := s.countPoison src granBytes
  let s := s.raiseRec { recOf (E.cgFill.s3If (s.jobGrave j)) d 0x06 o.buf with
                        vi := some (s.bufVi d o.buf), job := some j, addr := some (s.poisonAt src granBytes),
                        detail := gateDetail o.buf e j }
  let s := { s with opens := storePut s.opens (openKey d e) { o with filling := false, stalled := [] } }
  let s := s.setGranState d o.buf e gFailed
  let s := (o.stalled.map Prod.fst).eraseDups.foldl State.stopWriter s
  s.stopJob j jsFaulted E.cgFill.code

/-- The world bit of a waiting writer. -/
def State.writerSecure (s : State) (w : Nat) : Bool :=
  if w < 64 then s.secureAccess (.engine w) else s.secureAccess (.ring (w - 64))

/-- A fill is done: the other slot holds the confirmed content, or zero, and the writes that waited land in it. -/
def State.fillDone (s : State) (d e : Nat) (o : OpenGranule) (src : Nat) : State :=
  let dst := s.slotAddr d o.buf o.g (1 - s.tvt F.cgTvtEntry_confirmed_slot d e)
  let s := if s.fon F.cgBufCtrl_fill d o.buf 0 then s.store dst (List.replicate granBytes 0)
    else (s.correctSoft src granBytes).store dst (s.bytesAt src granBytes)
  let s := o.stalled.foldl (fun s w =>
    if w.2.2.isEmpty then s
    else (s.store (dst + w.2.1) w.2.2).tagLines (s.writerSecure w.1) (dst + w.2.1) w.2.2.length) s
  { s with opens := storePut s.opens (openKey d e) { o with filling := false, stalled := [] } }

/-- The gate's fill of a granule entry ends; the hits are the faults of the confirmed slot's words since their last
use. -/
def execGranuleFillDone (die entry : Nat) (hits : List Hit) (s : State) : Host.Outcome State Fault Refusal :=
  match storeFind s.opens (openKey die entry) with
  | none => .next s
  | some o =>
    if !o.filling || s.logicFrozen die then .next s
    else
      let src := s.slotAddr die o.buf o.g (s.tvt F.cgTvtEntry_confirmed_slot die entry)
      let s := s.strike (hits.filter (fun h => src ≤ h.addr && h.addr < src + granBytes))
      if !s.fon F.cgBufCtrl_fill die o.buf 0 && s.poisoned src granBytes then .next (s.fillFails die entry o src)
      else .next (s.fillDone die entry o src)

/-! ### Confirmable buffers (R193, R194) -/

/-- The starts of the 64 KiB pieces of a range of n granules. -/
def granStarts (a n : Nat) : List Nat := (List.range n).map (fun i => a + i * granBytes)

/-- Whether a range of granules lies in an instance's reach. -/
def State.granulesReach (s : State) (vi a n : Nat) : Bool :=
  s.inExtent vi a (n * granBytes) || (granStarts a n).all (s.ownsGranule vi)

/-- Whether a range of granules lies in the memory of gate d. -/
def State.gateMemory (s : State) (d a n : Nat) : Bool :=
  (granStarts a n).all (fun x => match placeOf x with
    | .scratchpad k _ => k == d
    | .lpddr => s.interleaved || (stackOf false x).1 / 2 == d
    | _ => false)

/-- The gate whose memory holds an address; under INTERLEAVED_4K an LPDDR6 buffer's gate is named. -/
def State.gateOf (s : State) (a named : Nat) : Nat :=
  match placeOf a with
  | .scratchpad k _ => k
  | .lpddr => if s.interleaved then named else (stackOf false a).1 / 2
  | _ => 4

/-- Whether two ranges of n and k bytes share a byte. -/
def overlap (a n b k : Nat) : Bool := 0 < n && 0 < k && a < b + k && b < a + n

/-- Whether a range overlaps the public or shadow range of a registered buffer. -/
def State.takenRange (s : State) (a n : Nat) : Bool :=
  allBuffers.any (fun p => s.bufValid p.1 p.2
    && (overlap a n (s.bufBase p.1 p.2) (s.bufGranules p.1 p.2 * granBytes)
      || overlap a n (s.bufShadow p.1 p.2) (s.bufGranules p.1 p.2 * granBytes)))

/-- Whether the ranges of a registration break R193. -/
def State.badRange (s : State) (vi d pub shadow n : Nat) : Bool :=
  let len := n * granBytes
  !(1 ≤ n && n ≤ 8192 && pub % granBytes == 0 && shadow % granBytes == 0)
    || !((granStarts pub n ++ granStarts shadow n).all (fun a => s.belowMark a == s.belowMark pub))
    || !(s.granulesReach vi pub n && s.granulesReach vi shadow n)
    || !(d < 4 && s.gateMemory d pub n && s.gateMemory d shadow n)
    || (granStarts pub n ++ granStarts shadow n).any s.isMoving
    || s.takenRange pub len || s.takenRange shadow len || overlap pub len shadow len

/-- The first free run of n version-table entries of a gate. -/
def State.freeTvtRun (s : State) (d n : Nat) : Option Nat :=
  let used := ((List.range 256).filter (s.bufValid d)).map (fun b => (s.bufFirst d b, s.bufGranules d b))
  let starts := 0 :: used.map (fun u => u.1 + u.2)
  let fits := starts.filter (fun x => x + n ≤ 8192 && used.all (fun u => !overlap x n u.1 u.2))
  fits.min?

/-- Enters a buffer into a gate: slot 0 of every granule is confirmed. -/
def State.enterBuffer (s : State) (d b vi pub shadow n fill span readers first : Nat) : State :=
  let s := s.setReg (fldAddr F.cgBufBase_base d b 0) pub
  let s := s.setReg (fldAddr F.cgBufShadow_shadow d b 0) shadow
  let s := s.setReg (fldAddr F.cgBufStatus_open d b 0) 0
  let s := s.fset F.cgBufCtrl_granules_m1 d b 0 (n - 1)
  let s := s.fset F.cgBufCtrl_fill d b 0 fill
  let s := s.fset F.cgBufCtrl_tok_span d b 0 span
  let s := s.fset F.cgBufCtrl_vi d b 0 vi
  let s := s.fset F.cgBufCtrl_tvt_first d b 0 first
  let s := s.fset F.cgBufReadersN_readers d b 0 readers
  let s := (List.range n).foldl (fun s i =>
    let u := first + i
    ((s.setReg (fldAddr F.cgTvtEntry_state d 0 u) 0).setReg (fldAddr F.cgTvtWriters_ranks d 0 u) 0).setReg
      (fldAddr F.cgTvtLast_tag d 0 u) 0) s
  let s := s.fset F.cgBufCtrl_valid d b 0 1
  s.fset F.cgStatus_tvt_used d 0 0 (s.fget F.cgStatus_tvt_used d 0 0 + n)

/-- CB_REGISTER: public base, shadow base, granules, fill mode, token span, reader mask. The gate of a buffer under
INTERLEAVED_4K and the free buffer entry are the firmware's choice. -/
def execCbRegister (queue die buffer : Nat) (s : State) : Host.Outcome State Fault Refusal :=
  .next (s.sysCommand queue 0x10 (fun s e vi =>
    let pub := cmdArg e 0
    let n := cmdArg e 2
    let d := s.gateOf pub die
    if 1 < cmdArg e 3 ∨ 0xFFFF < cmdArg e 4 then (s, some (stBadRecord, 0))
    else if s.badRange vi d pub (cmdArg e 1) n then (s, some (stBadRange, 0))
    else
      match ((buffer % 256) :: List.range 256).find? (fun b => !s.bufValid d b), s.freeTvtRun d n with
      | some b, some first =>
        (s.enterBuffer d b vi pub (cmdArg e 1) n (cmdArg e 3) (cmdArg e 4) (cmdArg e 5) first,
         some (stOk, b + d * 2 ^ 8))
      | _, _ => (s, some (stNoEntries, 0))))

/-- A buffer that an instance registered, by its id. -/
def State.ownBuffer (s : State) (vi id : Nat) : Option (Nat × Nat) :=
  let d := id / 256
  let b := id % 256
  if d < 4 && s.bufValid d b && s.bufVi d b == vi then some (d, b) else none

/-- Whether a buffer has a granule that is OPEN or MARKED, or a live job that names it. -/
def State.bufferBusy (s : State) (d b : Nat) : Bool :=
  s.opens.any (fun p => p.1 / 8192 == d && p.2.buf == b
    && (s.granState d (p.1 % 8192) == gOpen || s.granState d (p.1 % 8192) == gMarked))
  || (storeKeys s.sched.jobs).any (fun j => s.jobLive j && s.namesBuffer j d b)

/-- Takes a buffer out of its gate after its confirmed content was brought into the public range. -/
def State.leaveBuffer (s : State) (d b : Nat) (copy : Bool) : State :=
  let n := s.bufGranules d b
  let s := if copy then (List.range n).foldl (fun s g =>
      if s.tvt F.cgTvtEntry_confirmed_slot d (s.bufFirst d b + g) = 1 then
        s.copyMarked (s.slotAddr d b g 1) (s.slotAddr d b g 0) granBytes
      else s) s else s
  let s := s.fset F.cgBufCtrl_valid d b 0 0
  s.fset F.cgStatus_tvt_used d 0 0 (s.fget F.cgStatus_tvt_used d 0 0 - n)

/-- CB_RELEASE: buffer id. -/
def execCbRelease (queue : Nat) (s : State) : Host.Outcome State Fault Refusal :=
  .next (s.sysCommand queue 0x11 (fun s e vi =>
    match s.ownBuffer vi (cmdArg e 0) with
    | none => (s, some (stUnknownBuffer, 0))
    | some (d, b) =>
      if s.bufferBusy d b then (s, some (stInUse, 0)) else (s.leaveBuffer d b true, some (stOk, 0))))

/-- The two registers that CB_QUERY returns for a granule: CG_TVT_ENTRY and CG_TVT_LAST. -/
def State.entryWords (s : State) (d b g : Nat) : List Byte :=
  let u := s.bufFirst d b + g
  leBytes (s.reg (fldAddr F.cgTvtEntry_state d 0 u)) 8 ++ leBytes (s.reg (fldAddr F.cgTvtLast_tag d 0 u)) 8

/-- CB_QUERY: buffer id, first granule, number of granules. The entries are the answer; the result counts them. -/
def execCbQuery (queue : Nat) (s : State) : Host.Outcome State Fault Refusal :=
  .next (s.sysCommand queue 0x12 (fun s e vi =>
    match s.ownBuffer vi (cmdArg e 0) with
    | none => (s, some (stUnknownBuffer, 0))
    | some (d, b) =>
      let gs := ((List.range (cmdArg e 2)).map (· + cmdArg e 1)).filter (· < s.bufGranules d b)
      ({ s with resp := { bytes := (gs.map (s.entryWords d b)).flatten } }, some (stOk, gs.length))))

/-- CB_SHARE: buffer id, reader mask. -/
def execCbShare (queue : Nat) (s : State) : Host.Outcome State Fault Refusal :=
  .next (s.sysCommand queue 0x13 (fun s e vi =>
    match s.ownBuffer vi (cmdArg e 0) with
    | none => (s, some (stUnknownBuffer, 0))
    | some (d, b) => (s.fset F.cgBufReadersN_readers d b 0 (cmdArg e 1), some (stOk, 0))))

/-! ### Confirmation (R203, R205) -/

/-- The engines that count for a rank of a job and a frame: its engine now, and those that held it in that frame's
window. -/
def State.rankEngines (s : State) (j r f : Nat) : List Nat :=
  (match s.rankEngine j r with
    | some te => [te]
    | none => []) ++ ((s.job j).windows.filter (fun w => w.2.1 == r && w.2.2 % 65536 == f % 65536)).map Prod.fst

/-- Whether the golden test of frame f has passed on the engine of every rank of a granule's writer set. -/
def State.windowPassed (s : State) (j d e f : Nat) : Bool :=
  (onesBelow (s.tvt F.cgTvtWriters_ranks d e) 64).all (fun r => (s.rankEngines j r f).all (fun te => s.passedFrom te f))

/-- The conditions of R203 on one granule; a squashed member of a chain confirms nothing more (R210), nor does a job that
is over (R218). -/
def State.mayConfirm (s : State) (d e : Nat) (o : OpenGranule) : Bool :=
  let j := s.tvt F.cgTvtEntry_owner d e
  let x := s.job j
  let f := s.tvt F.cgTvtEntry_frame d e
  let strict := bit (s.fget F.cgConfig_strict_classes d 0 0) (s.jobClass j)
  s.granState d e == gMarked && !o.filling && s.jobLive j && !x.squashed && !x.upstreamLost
    && (!x.record.checked || s.windowPassed j d e f)
    && (!(x.record.checked && strict) || s.windowPassed j d e (f + 1))
    && (!(x.record.speculative && s.tvt F.cgTvtEntry_bound d e == 1) || s.prefixTrue j (s.tvt F.cgTvtEntry_token d e))
    && (s.upstream j).all (fun p => !s.jobLive p)

/-- The granules that form a group with a granule (R201): those of its buffer with the same range. -/
def State.groupOf (s : State) (d : Nat) (o : OpenGranule) : List (Nat × OpenGranule) :=
  (s.opens.filter (fun p => p.1 / 8192 == d && p.2.buf == o.buf && p.2.grpFirst == o.grpFirst
    && p.2.grpCount == o.grpCount)).map (fun p => (p.1 % 8192, p.2))

/-- One granule of a group flips (R205). -/
def State.flip (s : State) (d e : Nat) (o : OpenGranule) : State :=
  let j := s.tvt F.cgTvtEntry_owner d e
  let bound := s.tvt F.cgTvtEntry_bound d e
  let s := s.fset F.cgTvtEntry_confirmed_slot d 0 e (1 - s.tvt F.cgTvtEntry_confirmed_slot d e)
  let s := s.fset F.cgTvtEntry_version d 0 e (s.tvt F.cgTvtEntry_version d e + 1)
  let s := s.fset F.cgTvtLast_confirmed_by d 0 e j
  let s := s.fset F.cgTvtLast_tag d 0 e (s.jobTag j)
  let s := s.fset F.cgTvtLast_confirm_us d 0 e s.nowUs
  let s := s.idleGranule d o.buf e
  let s := s.fwrap F.cgCounts_confirmations d 0 0 1
  let s := s.fwrap F.cgBufStatus_flips d o.buf 0 1
  let i := (s.job j).record.buffers.idxOf (some (d, o.buf))
  s.modJob j (fun x =>
    { x with confirmed := x.confirmed + 1
             unboundConfirmed := x.unboundConfirmed + (1 - bound)
             lastConfirmed := ((x.lastConfirmed ++ List.replicate (16 - x.lastConfirmed.length) 0xFFFF)).set i o.g })

/-- The group of a granule entry confirms, once R203 holds for each of its granules. -/
def execGroupConfirm (die entry : Nat) (s : State) : Host.Outcome State Fault Refusal :=
  match storeFind s.opens (openKey die entry) with
  | none => .next s
  | some o =>
    let group := s.groupOf die o
    if o.grpCount != 0 && !s.logicFrozen die && group.all (fun p => s.mayConfirm die p.1 p.2) then
      let j := s.tvt F.cgTvtEntry_owner die entry
      let s := group.foldl (fun s p => s.flip die p.1 p.2) s
      .next ((s.writeProgress j).settle j).shrinkAll
    else .next s

/-! ### Resolutions (R208) -/

/-- Whether a doorbell write of an initiator takes effect on a queue (R229). -/
def State.doorbellOk (s : State) (who : Initiator) (q : Nat) : Bool := s.belongs who (s.qVi q) && s.qState q == 1

/-- The address of a queue's doorbell (R28). -/
def doorbellAddr (q : Nat) : Nat := regBase 4 + 0x800000 + q * 0x80

/-- A doorbell write that is refused (R229). -/
def State.refuseDoorbell (s : State) (who : Initiator) (q off : Nat) : State :=
  { s.raiseRec { recAccess E.schDoorbellRefused 4 0x0C who (s.viOf who) (s.secureAccess who) (doorbellAddr q + off)
      with detail := q } with resp := {} }

/-- A resolve word written to a submission queue's doorbell. -/
def execResolveDoorbell (who : Initiator) (queue : Nat) (value : Word) (s : State) :
    Host.Outcome State Fault Refusal :=
  if !(isSubmission queue && s.doorbellOk who queue) then .next (s.refuseDoorbell who queue 0x40)
  else
    let v := value.toNat
    let j := bits v 0 12
    let first := bits v 16 7
    let n := bits v 24 7 + 1
    if bits v 12 4 = 0 ∧ bits v 23 1 = 0 ∧ v < 2 ^ 32 ∧ s.jobLive j = true ∧ s.jobVi j = s.qVi queue
        ∧ first + n ≤ (s.job j).tokenCount then
      .next { s.resolveTokens j first (fun _ => bit v 31) byDoorbell n with resp := {} }
    else
      .next { s.raiseRec { recAccess E.cgResolveRefused 4 0x0C who (s.viOf who) (s.secureAccess who)
          (doorbellAddr queue + 0x40) with job := some j, detail := gateDetail 0xFFFF 0xFFFF j } with resp := {} }

/-- The resolve deadline of a job, its periods after dispatch: its pending tokens resolve false. -/
def execTokenDeadline (job : Nat) (s : State) : Host.Outcome State Fault Refusal :=
  let x := s.job job
  let open' := ((List.range x.tokenCount).filter (fun i => s.tokenState job i == 1)).length
  if !s.jobLive job || x.record.deadline == 0 || !x.dispatched || open' == 0
      || s.periods < x.dispatchTime + x.record.deadline then .next s
  else
    let s := s.fadd F.cgEvents_deadline_expiries x.tokenHome 0 0 open'
    let s := s.raiseRec { recOf E.cgTokenDeadline x.tokenHome 0x06 0xFFFF with
                          vi := some (s.jobVi job), job := some job, detail := gateDetail 0xFFFF 0xFFFF job }
    .next (s.resolveTokens job 0 (fun _ => false) byStop x.tokenCount)

end Sys2Proof.Machine
end

