-- ==== Sys2Proof/Machine/Scratchpad.lean ====
section
/-! DEFINITION. Partition granules of the scratchpads and their owners, and the patrols of scratchpad and LPDDR6 (R157
to R164, R176, R178). Clusters are numbered 0 to 31 across the package, stacks 0 to 7. -/

namespace Sys2Proof.Machine

/-! ### Writes of owner entries (R158, R159, R163) -/

/-- Whether an initiator may write an owner entry: the die's control cores, and for a secure granule the vault
alone (R158, R159). -/
def State.granuleRights (s : State) (who : Initiator) (die g : Nat) : Bool :=
  if g < s.mark (8 + die) then (match who with | .vault _ _ => true | _ => false)
  else s.controlsDie who die || who == .hardware

/-- An owner entry written by the control cores: a granule that an instance takes so lies outside its guaranteed
allotment, which the VI manager writes itself (R248, R369). -/
def State.giveGranule (s : State) (die g kind vi rt : Nat) : State :=
  let old := s.granOwner die (granReg g)
  let t := (s.setGranule die g kind vi rt).refreshProtected (die * 8 + g / 16)
  if old != some (false, vi) && t.granOwner die (granReg g) == some (false, vi) then
    { t with vis := { t.vis with borrowed := storePut t.vis.borrowed (die * 128 + g) () } }
  else t

/-- A write of SPM_GRANULE of a granule of a cluster. A reserved kind leaves the kind as it is (R10). -/
def execGranuleOwnerWrite (who : Initiator) (cluster granule : Nat) (value : Word) (s : State) :
    Host.Outcome State Fault Refusal :=
  let die := cluster / 8
  let g := cluster % 8 * 16 + granule
  let a := fldAddr F.spmGranuleN_kind die (granReg g) 0
  if !s.granuleRights who die g || s.isMoving (granuleAddr die g) then .next (s.dropWrite who a)
  else
    let kind := bits value.toNat 0 3
    let vi := bits value.toNat 4 6
    let rt := bits value.toNat 10 6
    if 4 < kind then .next ((s.giveGranule die g (s.granKind die (granReg g)) vi rt).dropReg E.regReservedCode who a)
    else .next (s.giveGranule die g kind vi rt).answerOk

/-- The scrub of a granule has ended. -/
def execGranuleScrubDone (cluster granule : Nat) (s : State) : Host.Outcome State Fault Refusal :=
  .next (s.fset F.spmGranuleN_scrubbing (cluster / 8) (granReg (cluster % 8 * 16 + granule)) 0 0)

/-! ### Patrols (R162, R178) -/

/-- An uncorrectable scratchpad word that the patrol found: its syndrome is written, and the granule's model drops
(R162, R190). -/
def State.patrolWord (s : State) (d c w : Nat) : State :=
  let a := w * 8
  let s := s.markPoison a 8
  let s := s.fadd F.spmEcc_uncorrected d c 0 1
  let s := s.fset F.spmEccAddr_addr d c 0 a
  let kind := s.granKind d (spmIndex a)
  let s := s.raiseRec { recOf (E.spmPatrolUncorr.s3If (kind == 2)) d 0x04 c with
                        addr := some a, detail := unitDetail d c 0 }
  if kind = 3 then s.dropModelAt d a else s

/-- A patrol pass over a cluster's scratchpad; the hits are the faults of its words since the pass before. -/
def execSpmPatrol (cluster : Nat) (hits : List Hit) (s : State) : Host.Outcome State Fault Refusal :=
  let d := cluster / 8
  let c := cluster % 8
  if !bit (s.fget F.cfgCapsClusterMap_cluster_usable 4 0 0) cluster then .next s
  else
    let base := spmBase d c
    let s := s.strike (hits.filter (fun h => base ≤ h.addr && h.addr < base + 0x1000000))
    let s := s.correctSoft base 0x1000000
    let bad := (storeKeys s.hardWords).filter (fun w => base / 8 ≤ w && w < base / 8 + 0x200000)
    let s := bad.foldl (fun s w => s.patrolWord d c w) s
    let s := s.fwrap F.spmScrub_passes d c 0 1
    .next (s.fset F.spmScrub_last_pass_ms d c 0 s.nowMs)

/-- An uncorrectable line that the patrol found: the controller sets its poison tag. -/
def State.patrolLine (s : State) (m l : Nat) : State :=
  let s := s.markPoison (l * 64) 64
  let s := s.fadd F.memEcc_uncorrected (m / 2) (m % 2) 0 1
  let s := s.fset F.memEccAddr_addr (m / 2) (m % 2) 0 (l * 64)
  s.raiseRec { recOf E.memEccUncorr (m / 2) 0x07 (m % 2) with
               addr := some (l * 64), detail := unitDetail (m / 2) 0 (m % 2) }

/-- A patrol pass over a stack. -/
def execMemPatrol (stack : Nat) (hits : List Hit) (s : State) : Host.Outcome State Fault Refusal :=
  if !s.fon F.memStatus_usable (stack / 2) (stack % 2) 0 then .next s
  else
    let mine := fun a => placeOf a == .lpddr && (stackOf s.interleaved a).1 == stack
    let s := s.strike (hits.filter (fun h => mine h.addr))
    let s := ((storeKeys s.softLines).filter (fun l => mine (l * 64))).foldl (fun s l => s.correctSoft (l * 64) 64) s
    let bad := (storeKeys s.hardLines).filter (fun l => mine (l * 64))
    let s := bad.foldl (fun s l => s.patrolLine stack l) s
    .next (s.fwrap F.memPatrol_passes (stack / 2) (stack % 2) 0 1)

end Sys2Proof.Machine
end

