-- ==== Sys2Proof/Machine/TensorTile.lean ====
section
/-! DEFINITION. Tile movement and arithmetic of the tensor engines: TLD, TST, TOPEN, MMA, COMB, TCLOSE, DRAIN, VOP and
the interim comparison (R86 to R114, R127 to R136). -/

namespace Sys2Proof.Machine

/-! ### Loads and stores -/

/-- The memory pieces of a TLD: the rows of the handle with their scales, or one piece of the handle's row bytes. -/
def loadPieces (h : Handle) (g : AddrGen) (raw adv : Bool) : List (Nat × Nat) :=
  if raw then [(g.addr, h.rows * h.rowBytes)]
  else (g.rows adv h.rows).map (fun a => (a, h.rowBytes + h.scales))

/-- Reads pieces one after another. -/
def State.fetchAll (s : State) (who : Initiator) : List (Nat × Nat) → State × List Byte
  | [] => (s, [])
  | (a, n) :: t =>
    let r := s.fetchBytes who a n
    let q := r.1.fetchAll who t
    (q.1, r.2 ++ q.2)

/-- Issues a tile load: refused reads fault before anything changes (R126), and the handle is not ready until the load
completes (R129). -/
def execTld (te : Nat) (s : State) : Host.Outcome State Fault Refusal :=
  .next (s.teRun te 0x20 (fun w =>
    let e := s.eng te
    let raw := bit w 23
    let adv := bit w 24
    match e.handle (bits w 16 4) with
    | none => .fault E.handleRange
    | some h =>
      if !e.ready h || 8 ≤ e.loads.length then .stall
      else
        let g := e.gen (bits w 20 3)
        let ps := loadPieces h g raw adv
        match s.firstRefusal (.engine te) false ((ps.map (fun p => requests p.1 p.2)).flatten) with
        | some (c, a) => .stopped (s.teRefused te c a)
        | none =>
          let bad := (ps.filterMap (fun p => s.poisonIn (.engine te) p.1 p.2)).head?
          let r := s.fetchAll (.engine te) ps
          let g' := if adv then g.advance (if raw then 1 else h.rows) else g
          let l : TileLoad := { th := bits w 16 4, handle := h, rows := ps.map Prod.fst, raw, data := r.2,
                                poison := bad }
          .done (r.1.setEng te { e.setGen (bits w 20 3) g' with loads := e.loads ++ [l] })))

/-- A load's bytes put into the operand buffer: raw in one piece, else rows and scales apart (R127, R128). -/
def Engine.landLoad (e : Engine) (l : TileLoad) : Engine :=
  if l.raw then e.putBytes l.handle 0 l.data
  else
    let n := l.handle.rowBytes + l.handle.scales
    (List.range l.handle.rows).foldl (fun e r =>
      e.putRow l.handle r (byteSlice l.data (r * n) l.handle.rowBytes)
        (byteSlice l.data (r * n + l.handle.rowBytes) l.handle.scales)) e

/-- An outstanding load of a handle completes; poison in it stops the job before the handle becomes ready (R161). -/
def execTldComplete (te handle : Nat) (s : State) : Host.Outcome State Fault Refusal :=
  let e := s.eng te
  match e.loads.find? (fun l => l.th == handle) with
  | none => .next s
  | some l =>
    if s.teStat te != tsRunning && s.teStat te != tsWaiting && s.teStat te != tsStopping then .next s
    else
      match l.poison with
      | some a =>
        let c := match placeOf a with
          | .lpddr => E.memEccUncorr
          | _ => E.spmEccUncorr
        .next ((s.reportPoison (.engine te) a 1).teStop te c)
      | none =>
        let e' := { e.landLoad l with loads := e.loads.erase l }
        .next ((s.setEng te e').fset F.teStatus_handle_ready (te / 16) (te % 16) 0 e'.readyMask)

/-- The rows that a TST writes. -/
def Engine.storeRows (e : Engine) (h : Handle) (g : AddrGen) (adv : Bool) : List (Nat × List Byte) :=
  ((g.rows adv h.rows).zip (List.range h.rows)).map (fun p => (p.1, e.rowBytesOf h p.2 ++ e.rowScales h p.2))

/-- Stores a tile; a write into a granule the engine has marked faults (R139). -/
def execTst (te : Nat) (upset : Upset) (s : State) : Host.Outcome State Fault Refusal :=
  .next (s.teRun te 0x21 (fun w =>
    let e := s.eng te
    let adv := bit w 24
    match e.handle (bits w 16 4) with
    | none => .fault E.handleRange
    | some h =>
      if !e.ready h then .stall
      else if upset = .operandUncorrectable then .stopped (s.upsetFails te E.operandEccUncorr false 0)
      else
        let s := s.upsetCorrected te upset
        let g := e.gen (bits w 20 3)
        let ws := e.storeRows h g adv
        match s.teWrites te ws with
        | .done t =>
          let t := t.foldSignature te ws
          .done (t.setEng te ((t.eng te).setGen (bits w 20 3) (if adv then g.advance h.rows else g)))
        | r => r))

/-! ### Tiles -/

/-- Opens a tile (R130, R131). -/
def execTopen (te : Nat) (s : State) : Host.Outcome State Fault Refusal :=
  .next (s.teRun te 0x30 (fun w =>
    let e := s.eng te
    let b := bit w 16
    let keep := bit w 33
    let x := e.bank b
    let st := s.bankState te b
    if st != bkEmpty && st != bkPassed then .fault E.tileState
    else if keep && !(st == bkPassed && x.ended) then .fault E.tileState
    else
      let fresh : Bank := { maxSteps := bits w 17 16, openedAt := s.periods }
      let y : Bank := if keep then
          { fresh with layout := x.layout, family := x.family, entries := x.entries, kPos := x.kPos,
                       nextSeg := 1, ended := true, kept := true }
        else fresh
      .done ((s.setEng te (e.setBank b y)).setBankState te b bkOpen)))

/-- The chunks of a row of an operand: elements and scale exponent of each. -/
def Engine.rowChunks (e : Engine) (h : Handle) (r kOff kLen size : Nat) : List (List Num × Option Int) :=
  (List.range ((kLen + size - 1) / size)).map (fun i =>
    (e.rowElems h r (kOff + i * size) (min size (kLen - i * size)), e.rowScale h r ((kOff + i * size) / 32)))

/-- The chunks of two rows side by side, with the exponent of their common scale; none where either is NaN. -/
def joinChunks (as bs : List (List Num × Option Int)) : List (List Num × List Num × Option Int) :=
  (as.zip bs).map (fun p => (p.1.1, p.2.1, match p.1.2, p.2.2 with
    | some x, some y => some (x + y)
    | _, _ => none))

/-- The entries of an MMA: every row of A against every row of B (R90 to R92). -/
def Engine.mmaEntries (e : Engine) (f : Family) (ha hb : Handle) (row m kOff kLen : Nat) (entries : Store Nat) :
    Store Nat :=
  let bs := (List.range hb.rows).map (fun c => (c, e.rowChunks hb c kOff kLen f.chunk))
  (List.range m).foldl (fun en i =>
    let as := e.rowChunks ha (row + i) kOff kLen f.chunk
    bs.foldl (fun en p =>
      let k := (row + i) * 128 + p.1
      storePut en k (foldChunks f (storeGet 0 en k) (joinChunks as p.2))) en) entries

/-- The value bits and the residue of an entry that is not FINITE are open (R87): each takes free bits. -/
def State.freeEntries (s : State) (l : Layout) (entries : Store Nat) : State × Store Nat :=
  match l with
  | .int80 => (s, entries)
  | _ => entries.foldl (fun acc p =>
      if entryState l p.2 = esFinite then (acc.1, storePut acc.2 p.1 p.2)
      else
        let v := acc.1.fresh 81
        let r := v.2.fresh 8
        let body := if l = .ext then v.1 * 2 ^ 15 else v.1 % 2 ^ 32 * 2 ^ 64
        (r.2, storePut acc.2 p.1 (body + stateBits (entryState l p.2) + r.1 % 255))) (s, [])

/-- The steps of an MMA on an array of a width (R83, R133): a slice holds as many 8-bit elements as the array has rows. -/
def mmaSteps (dim : Nat) (f : Family) (fa fb kLen m : Nat) (preloaded : Bool) : Nat :=
  let slice := if f = .bf16 then dim / 2 else if fmtBits fa = 4 ∧ fmtBits fb = 4 then 2 * dim else dim
  (kLen + slice - 1) / slice * max m 32 + (if preloaded then 0 else 32)

/-- Why an MMA faults, if it does (R86, R97, R130 to R133). DESIGN CHOICE: an MX MMA whose k_len is no multiple of 32
(R89), for which no fault is named where last is set, faults with SHORT_CONTINUE in both cases. -/
def mmaFault (dim : Nat) (x : Bank) (st : Nat) (ha hb : Handle) (row m kOff kLen : Nat) (last preloaded : Bool) :
    Option ErrCode :=
  if st != bkOpen then some E.tileState
  else
    match pairFamily ha.fmt hb.fmt with
    | none => some E.formatPair
    | some f =>
      if (match x.family with | none => false | some g => g != f) then some E.formatPair
      else if x.short then some E.shortContinue
      else if x.ended || x.combed || x.kept then some E.tileState
      else if (kLen % f.chunk != 0 && !last) || (f.isMx && kLen % 32 != 0) then some E.shortContinue
      else if dim < row + m || ha.rows < row + m || ha.perRow < kOff + kLen || hb.perRow < kOff + kLen
          || (if f = .bf16 then dim / 2 else dim) < hb.rows then some E.handleRange
      else if (match x.range with | none => false | some r => r != (row, m)) then some E.tileState
      else if x.maxSteps < x.steps + mmaSteps dim f ha.fmt hb.fmt kLen m preloaded then some E.tileSteps
      else none

/-- Upsets that an MMA or a COMB detects in its own steps. -/
def Upset.inArray : Upset → Bool
  | .operandUncorrectable => true
  | .accumUncorrectable => true
  | .combine => true
  | .stateParity => true
  | _ => false

/-- Matrix multiply-accumulate into an open tile. -/
def execMma (te : Nat) (upset : Upset) (s : State) : Host.Outcome State Fault Refusal :=
  .next (s.teRun te 0x31 (fun w =>
    let e := s.eng te
    let b := bit w 16
    let row := bits w 25 7
    let m := bits w 32 7 + 1
    let kLen := bits w 39 13
    let last := bit w 52
    let kOff := bits w 64 12
    match e.handle (bits w 17 4), e.handle (bits w 21 4) with
    | some ha, some hb =>
      if !(e.ready ha && e.ready hb) then .stall
      else
        let x := e.bank b
        match mmaFault (arrayDim te) x (s.bankState te b) ha hb row m kOff kLen last e.mmaDone, pairFamily ha.fmt hb.fmt with
        | some c, _ => .fault c
        | none, none => .fault E.formatPair
        | none, some f =>
          if upset.inArray then .stopped (s.upsetFails te (upset.failure.getD E.residueCombine) b 0)
          else
            let s := s.upsetCorrected te upset
            let n := mmaSteps (arrayDim te) f ha.fmt hb.fmt kLen m e.mmaDone
            let r := s.freeEntries f.layout (e.mmaEntries f ha hb row m kOff kLen x.entries)
            let y : Bank := { x with layout := some f.layout, family := some f, steps := x.steps + n,
                                     range := some (row, m), kPos := x.kPos + kLen,
                                     short := kLen % f.chunk != 0, ended := last,
                                     nextSeg := if last then 1 else x.nextSeg, entries := r.2 }
            .done ((r.1.setEng te { e.setBank b y with mmaDone := true }).countSteps te n)
    | _, _ => .fault E.handleRange))

/-- The layout that a handle's format gives entry images (R135). -/
def imageLayout (f : Nat) : Layout :=
  if f = 4 ∨ f = 5 ∨ f = 9 then .int80 else if f = 6 then .fp32 else .ext

/-- Why a COMB faults, if it does (R130 to R132, R135). -/
def combFault (dim : Nat) (x : Bank) (st : Nat) (h : Handle) (row m seg : Nat) : Option ErrCode :=
  if st != bkOpen then some E.tileState
  else if x.segsDone || seg != x.nextSeg then some E.combineOrder
  else if (match x.layout with | none => false | some l => l != imageLayout h.fmt) then some E.formatPair
  else if dim < row + m || h.rows * h.rowBytes < m * dim * 12 + 4 then some E.handleRange
  else if (match x.range with | none => false | some r => r != (row, m)) then some E.tileState
  else if x.maxSteps < x.steps + m then some E.tileSteps
  else none

/-- A failing check of a tile (R109, R153): the entry found first, its code, the residues, and how many further entries
fail. -/
structure EntryFault where
  entry : Nat
  code : ErrCode
  predicted : Nat
  found : Nat
  others : Nat

/-- Whether an entry fails its state parity, or is FINITE with a residue that differs from that of its value (R87,
R98, R104). -/
def entryBad (l : Layout) (n : Nat) : Bool :=
  !entryParity l n || (entryState l n == esFinite && n % 256 != entryResidue l n)

/-- The failing check of numbered entries, with the code that a residue difference has. -/
def checkEntries (l : Layout) (residueCode : ErrCode) (es : List (Nat × Nat)) : Option EntryFault :=
  match es.filter (fun p => entryBad l p.2) with
  | [] => none
  | (i, n) :: t =>
    if entryParity l n then some ⟨i, residueCode, n % 256, entryResidue l n, t.length⟩
    else some ⟨i, E.stateParity, 0, 0, t.length⟩

/-- A check failure found on an entry of a bank. -/
def State.entryFails (s : State) (te : Nat) (b : Bool) (f : EntryFault) : State :=
  let s := s.noteResidue te f.code b f.entry f.predicted f.found
  ((s.settleWrites te).setBankState te b bkFailed).checkFailure f.code te
    (checkDetail te b f.entry f.predicted f.found f.others)

/-- Combines a reduction segment from entry images (R96, R98, R135). -/
def execComb (te : Nat) (upset : Upset) (s : State) : Host.Outcome State Fault Refusal :=
  .next (s.teRun te 0x32 (fun w =>
    let e := s.eng te
    let b := bit w 16
    let row := bits w 21 7
    let m := bits w 28 7 + 1
    let seg := bits w 35 6
    match e.handle (bits w 17 4) with
    | none => .fault E.handleRange
    | some h =>
      if !e.ready h then .stall
      else
        let x := e.bank b
        match combFault (arrayDim te) x (s.bankState te b) h row m seg with
        | some c => .fault c
        | none =>
          let l := imageLayout h.fmt
          let dim := arrayDim te
          let body := e.hBytes h 0 (m * dim * 12)
          if crc32c body != leNat (e.hBytes h (m * dim * 12) 4) then
            .stopped (((s.settleWrites te).setBankState te b bkFailed).checkStops E.entryCrc te te)
          else
            let images := (List.range (m * dim)).map (fun i => ((row + i / dim) * 128 + i % dim, leAt body (i * 12) 12))
            let s := s.fwrap F.teCheckCounts_imports (te / 16) (te % 16) 0 images.length
            match checkEntries l E.residueImport images with
            | some f => .stopped (s.entryFails te b { f with others := f.others + upset.inArray.toNat })
            | none =>
              if upset.inArray then .stopped (s.upsetFails te (upset.failure.getD E.residueCombine) b 0)
              else
                let s := s.upsetCorrected te upset
                let en := images.foldl (fun en p => storePut en p.1
                  (if seg = 0 then p.2 else entryAdd l (storeGet 0 en p.1) (entryNum l p.2))) x.entries
                let r := s.freeEntries l en
                let y : Bank := { x with layout := some l, steps := x.steps + m, range := some (row, m),
                                         nextSeg := seg + 1, combed := true, segsDone := bit w 41, entries := r.2 }
                .done ((r.1.setEng te (e.setBank b y)).countSteps te m)))

/-- The failing check of a bank's entries (R87, R104); an entry that is not listed is zero and passes. -/
def Bank.mismatch (x : Bank) (residueCode : ErrCode) : Option EntryFault :=
  checkEntries (x.layout.getD .ext) residueCode x.entries

/-- Upsets that a comparison of residues reveals. -/
def Upset.atCompare : Upset → Bool
  | .residue => true
  | .stateParity => true
  | .accumUncorrectable => true
  | _ => false

/-- The comparison of R104 on one bank: the state after a failure, or none where every entry passes. -/
def State.compareBank (s : State) (te : Nat) (b : Bool) (upset : Upset) : Option State :=
  match ((s.eng te).bank b).mismatch E.residueTile with
  | some f => some (s.entryFails te b { f with others := f.others + upset.atCompare.toNat })
  | none => if upset.atCompare then some (s.upsetFails te (upset.failure.getD E.residueTile) b 0) else none

/-- Closes a tile and compares residues (R104, R130). -/
def execTclose (te : Nat) (upset : Upset) (s : State) : Host.Outcome State Fault Refusal :=
  .next (s.teRun te 0x33 (fun w =>
    let b := bit w 16
    if s.bankState te b != bkOpen then .fault E.tileState
    else
      let s := (s.upsetCorrected te upset).fadd F.teCheckCounts_tiles_checked (te / 16) (te % 16) 0 1
      match s.compareBank te b upset with
      | some t => .stopped t
      | none => .done (s.setBankState te b bkPassed)))

/-- The comparison of R104 on every open bank, first A and then B (R105, R132). -/
def State.compareOpen (s : State) (te : Nat) (upset : Upset) : Option State :=
  let one := fun (b : Bool) => if s.bankState te b = bkOpen then s.compareBank te b upset else none
  match one false with
  | some t => some t
  | none => one true

/-- A tile that is still open after 1 880 periods triggers a comparison of every open bank; the count starts again
(R132). -/
def execTileInterimCheck (te : Nat) (upset : Upset) (s : State) : Host.Outcome State Fault Refusal :=
  let st := s.teStat te
  let opened := fun (b : Bool) => s.bankState te b == bkOpen
  let due := fun (b : Bool) =>
    opened b && (if b then (s.eng te).bankB else (s.eng te).bankA).openedAt + 1880 ≤ s.periods
  if (st != tsRunning && st != tsWaiting) || !(due false || due true) then .next s
  else
    let s := (s.upsetCorrected te upset).fwrap F.teCheckCounts_interim (te / 16) (te % 16) 0 1
    match s.compareOpen te upset with
    | some t => .next t
    | none =>
      let e := s.eng te
      let again := fun (x : Bank) => { x with openedAt := s.periods }
      let e := if opened false then { e with bankA := again e.bankA } else e
      let e := if opened true then { e with bankB := again e.bankB } else e
      .next (s.setEng te e)

/-! ### Drains (R99, R100, R134) -/

def f32Code (c : Nat) : Num := decodeFloat fmtFP32 c

/-- A function of R111; a NaN stays NaN. -/
def f32Apply (func : Nat) (v : Num) : Num :=
  match v with
  | .nan => .nan
  | v => f32Fn func v

/-- The activations of R134. -/
def activation (act : Nat) (v : Num) : Num :=
  match act with
  | 1 => match v with
    | .nan => .nan
    | v => if Num.zero.below v then v else Num.zero
  | 2 =>
    let u := f32Mul (f32Mul v v) v
    let u := f32Fma u (f32Code 0x3D372713) v
    let u := f32Mul u (f32Code 0x3F4C422A)
    f32Mul (f32Mul (f32Add (f32Apply 0x0A u) Num.one) v) (f32Code 0x3F000000)
  | 3 => f32Mul v (f32Apply 0x0B v)
  | 4 => f32Apply 0x0B v
  | 5 => f32Apply 0x0A v
  | _ => v

/-- The binary32 values of a column handle. -/
def Engine.columns (e : Engine) (dim : Nat) (h : Handle) : List Num :=
  (List.range dim).map (fun c => f32Code (leNat (e.hBytes h (4 * c) 4)))

/-- A value on its way out of the bank: rounded to binary32, scaled, biased, activated (R134). -/
def drainValue (direct : Bool) (act : Nat) (v scale bias : Num) : Num :=
  if direct then v else activation act (f32Fma (roundF32 v) scale bias)

/-- The rows of values that a drain writes; transposed, each bank column is a row. -/
def drainGrid (dim : Nat) (x : Bank) (row m : Nat) (transpose : Bool) (val : Nat → Num → Num) : List (List Num) :=
  let l := x.layout.getD .ext
  let at' := fun (r c : Nat) => val c (entryNum l (storeGet 0 x.entries (r * 128 + c)))
  if transpose then (List.range dim).map (fun c => (List.range m).map (fun i => at' (row + i) c))
  else (List.range m).map (fun i => (List.range dim).map (fun c => at' (row + i) c))

/-- Blocks of 32. -/
def blocks32 {α : Type} : Nat → List α → List (List α)
  | 0, _ => []
  | n + 1, l => if l.isEmpty then [] else l.take 32 :: blocks32 n (l.drop 32)

/-- A row of values in a format: element bytes, scale bytes, conversion events (R99, R100). -/
def encodeRow (f : Nat) (saturate : Bool) (vs : List Num) : List Byte × List Byte × Nat :=
  if fmtIsMx f then
    let bs := (blocks32 (vs.length / 32 + 1) vs).map (mxBlock f saturate)
    (packRow f (bs.map (fun b => b.2.1)).flatten, bs.map (fun b => BitVec.ofNat 8 b.1), (bs.map (fun b => b.2.2)).sum)
  else
    let cs := vs.map (encodeElem f saturate)
    (packRow f (cs.map Prod.fst), [], (cs.map Prod.snd).sum)

/-- The bytes of a raw drain: entry images in index order and their CRC-32C. -/
def rawImages (dim : Nat) (x : Bank) (row m : Nat) : List Byte :=
  let body := ((List.range (m * dim)).map (fun i =>
    entryImage (storeGet 0 x.entries ((row + i / dim) * 128 + i % dim)))).flatten
  body ++ leBytes (crc32c body) 4

/-- Whether a drain's rows fit a handle. -/
def rowsFit (h : Handle) (rs : List (List Byte × List Byte × Nat)) : Bool :=
  rs.length ≤ h.rows && rs.all (fun r => r.1.length ≤ h.rowBytes && r.2.1.length ≤ h.scales)

/-- The bank after rows were drained: EMPTY once every row of the tile's range is (R130). -/
def State.drained (s : State) (te : Nat) (b : Bool) (row m : Nat) : State :=
  let e := s.eng te
  let x := e.bank b
  let ds := x.drained ++ (List.range m).map (· + row)
  let all := match x.range with
    | none => true
    | some r => (List.range r.2).all (fun i => ds.contains (r.1 + i))
  if all then (s.setEng te (e.setBank b {})).setBankState te b bkEmpty
  else s.setEng te (e.setBank b { x with drained := ds })

/-- The handles that a DRAIN reads or writes. -/
def drainHandles (w : Nat) : List Nat :=
  (if bits w 31 2 = 2 then [bits w 33 4] else []) ++ (if bit w 37 then [bits w 38 4] else [])
    ++ (if bit w 21 then [] else [bits w 17 4])

/-- Drains bank rows with scale, bias, activation and conversion, to a handle or to memory. -/
def execDrain (te : Nat) (upset : Upset) (s : State) : Host.Outcome State Fault Refusal :=
  .next (s.teRun te 0x34 (fun w =>
    let e := s.eng te
    let b := bit w 16
    let raw := bit w 29
    let row := bits w 46 7
    let m := bits w 53 7 + 1
    let x := e.bank b
    let hs := (drainHandles w).map e.handle
    let dst := e.handle (bits w 17 4)
    let an := bits w 22 3
    let g := e.gen an
    if hs.any Option.isNone then .fault E.handleRange
    else if hs.any (fun h => match h with | none => false | some h => !e.ready h) then .stall
    else if s.bankState te b != bkPassed then .fault E.tileState
    else if arrayDim te < row + m then .fault E.handleRange
    else if (drainHandles (setBit w 21 true)).any (fun t => match e.handle t with
        | none => false
        | some h => h.rows * h.rowBytes < 4 * arrayDim te) then .fault E.handleRange
    else if upset = .lanes ∨ upset = .accumUncorrectable ∨ upset = .operandUncorrectable then
      .stopped (s.upsetFails te (upset.failure.getD E.drainLanes) b 0)
    else
      let s := s.upsetCorrected te upset
      let col := fun (used : Bool) (th : Nat) (d : Num) =>
        match e.handle th with
        | none => List.replicate (arrayDim te) d
        | some h => if used then e.columns (arrayDim te) h else List.replicate (arrayDim te) d
      let src := bits w 31 2
      let scale := col (src == 2) (bits w 33 4) (if src = 1 then f32Code (bits w 64 32) else Num.one)
      let bias := col (bit w 37) (bits w 38 4) Num.zero
      let direct := src == 0 && !bit w 37 && bits w 42 4 == 0
      let grid := drainGrid (arrayDim te) x row m (bit w 61) (fun c v =>
        drainValue direct (bits w 42 4) v (scale[c]?.getD Num.one) (bias[c]?.getD Num.zero))
      let rs := if raw then [(rawImages (arrayDim te) x row m, [], 0)] else grid.map (encodeRow (bits w 25 4) (bit w 30))
      let finish := fun (t : State) =>
        (t.fadd F.teConvEvents_events (te / 16) (te % 16) 0 (rs.map (fun r => r.2.2)).sum).drained te b row m
      if bit w 21 then
        let ws := ((g.rows true rs.length).zip rs).map (fun p => (p.1, p.2.1 ++ p.2.2.1))
        match s.teWrites te ws with
        | .done t =>
          let t := if bit w 60 then t.foldSignature te ws else t
          .done (finish (t.setEng te ((t.eng te).setGen an (g.advance rs.length))))
        | r => r
      else
        match dst with
        | none => .fault E.handleRange
        | some h =>
          if raw then
            if h.rows * h.rowBytes < m * arrayDim te * 12 + 4 then .fault E.handleRange
            else .done (finish (s.setEng te (e.putBytes h 0 (rawImages (arrayDim te) x row m))))
          else if !rowsFit h rs then .fault E.handleRange
          else
            let e' := (rs.zip (List.range rs.length)).foldl (fun e p => e.putRow h p.2 p.1.1 p.1.2.1) e
            .done (finish (s.setEng te e'))))

/-! ### Vector dispatch (R110 to R114, R136) -/

/-- Functions that read a second source. -/
def vopBinary (func : Nat) : Bool := func ≤ 5 || func == 0x12 || func == 0x13

/-- One result of an elementwise function. -/
def vopElem (func : Nat) (a b d : Num) : Num :=
  match func with
  | 0x00 => f32Add a b
  | 0x01 => f32Sub a b
  | 0x02 => f32Mul a b
  | 0x03 => f32Fma a b d
  | 0x04 => f32Max a b
  | 0x05 => f32Min a b
  | 0x0C => a
  | 0x12 => f32Sub a b
  | 0x13 => f32Mul a b
  | _ => f32Apply func a

/-- All values of a handle as binary32, row after row. -/
def Engine.lanes (e : Engine) (h : Handle) : List Num :=
  (((List.range h.rows).map (e.rowValues h)).flatten).map roundF32

/-- The results of a vector operation, in the order of the destination's elements. -/
def Engine.vopResults (e : Engine) (func : Nat) (hd h1 : Handle) (src2 : List Num) (one2 : Bool) : List Num :=
  let n := hd.rows * hd.perRow
  if func = 0x10 then (List.range n).map (fun r => treeSum ((e.rowValues h1 r).map roundF32))
  else if func = 0x11 then (List.range n).map (fun r =>
    match (e.rowValues h1 r).map roundF32 with
    | [] => Num.zero
    | v :: vs => vs.foldl f32Max v)
  else
    let a := e.lanes h1
    let d := e.lanes hd
    (List.range n).map (fun i =>
      let j := if one2 then 0 else if func = 0x12 ∨ func = 0x13 then i / max 1 hd.perRow else i
      vopElem func (a[i]?.getD Num.zero) (src2[j]?.getD Num.zero) (d[i]?.getD Num.zero))

/-- Whether the sources hold every element that the operation reads. -/
def vopInRange (func : Nat) (hd h1 : Handle) (h2 : Option Handle) : Bool :=
  let n := hd.rows * hd.perRow
  (if func = 0x10 ∨ func = 0x11 then n ≤ h1.rows else n ≤ h1.rows * h1.perRow)
    && (match h2 with
      | none => true
      | some h => if func = 0x12 ∨ func = 0x13 then hd.rows ≤ h.rows * h.perRow else n ≤ h.rows * h.perRow)

/-- Results cut into the rows of a destination. -/
def rowsOf (perRow : Nat) (l : List Num) : Nat → List (List Num)
  | 0 => []
  | n + 1 => l.take perRow :: rowsOf perRow (l.drop perRow) n

/-- Dispatches a vector operation; a checked job's two copies are compared before the write (R113, R114). -/
def execVop (te : Nat) (upset : Upset) (s : State) : Host.Outcome State Fault Refusal :=
  .next (s.teRun te 0x40 (fun w =>
    let e := s.eng te
    let func := bits w 34 6
    let scalar := bit w 28
    let two := vopBinary func && !scalar
    match e.handle (bits w 16 4), e.handle (bits w 20 4) with
    | some hd, some h1 =>
      let h2 := if two then e.handle (bits w 24 4) else none
      if two && h2.isNone then .fault E.handleRange
      else if s.vectorOut te || !(e.ready hd && e.ready h1) || (match h2 with | none => false | some h => !e.ready h)
        then .stall
      else if !vopInRange func hd h1 h2 then .fault E.handleRange
      else if upset = .operandUncorrectable then .stopped (s.upsetFails te E.operandEccUncorr false 0)
      else if upset = .twin && s.fon F.teJob_checked (te / 16) (te % 16) 0 then
        let t := ((s.settleWrites te).setGft te { s.gftOf te with unitOut := true }).countUnits
        .stopped (t.checkFailure E.twinIssue te te)
      else
        let s := s.upsetCorrected te upset
        let src2 := match h2 with
          | some h => e.lanes h
          | none => [f32Code (e.reg (bits w 29 5) % 2 ^ 32)]
        let vs := e.vopResults func hd h1 src2 scalar
        let rs := (rowsOf hd.perRow vs hd.rows).map (encodeRow hd.fmt false)
        let e' := (rs.zip (List.range rs.length)).foldl (fun e p => e.putRow hd p.2 p.1.1 p.1.2.1) e
        .done ((s.setEng te e').fadd F.teConvEvents_events (te / 16) (te % 16) 0 (rs.map (fun r => r.2.2)).sum)
    | _, _ => .fault E.handleRange))

end Sys2Proof.Machine
end

