-- ==== Sys2Proof/Machine/TensorStop.lean ====
section
/-! DEFINITION. How a tensor engine starts and stops: start, HALT, pre-emption and its image, resumption, abort, and
a write refused at its target (R119, R120, R126, R142 to R145, R148, R232, R245). -/

namespace Sys2Proof.Machine

/-! ### Start -/

/-- The base of a model of an instance, zero where it holds no granules (R184). -/
def State.modelBase (s : State) (vi id : Nat) : Nat :=
  match storeFind s.cache.models (vi * 64 + id) with
  | none => 0
  | some m => match m.base with
    | none => 0
    | some g => granuleAddr m.die g

/-- The scalar registers that a rank receives at dispatch (R232). -/
def State.startScalars (s : State) (j : Nat) : List Nat :=
  let x := (s.job j).record
  let privs := (List.range 4).map (fun i => match x.privates[i]? with
    | none => 0
    | some p => p.base)
  let models := (List.range 4).map (fun i => match x.models[i]? with
    | none => 0
    | some id => s.modelBase (s.jobVi j) id)
  (List.range 4).map (fun i => x.args[i]?.getD 0) ++ List.replicate 20 0 ++ privs ++ models

/-- The states in which an engine accepts a start or a resume. -/
def State.teAtRest (s : State) (te : Nat) : Bool := s.teFree te

/-- Loads the instruction buffer from TE_PROG; a refused or poisoned read stops the engine. -/
def State.loadProgram (s : State) (te : Nat) (go : State → List Nat → State) : State :=
  let a := s.fget F.teProg_prog_addr (te / 16) (te % 16) 0
  let n := s.fget F.teProg_length_m1 (te / 16) (te % 16) 0 + 1
  match s.firstRefusal (.engine te) false (requests a (n * 16)) with
  | some (c, x) => s.teRefused te c x
  | none =>
    match s.poisonIn (.engine te) a (n * 16) with
    | some x => (s.reportPoison (.engine te) x 16).teStop te E.address
    | none =>
      let r := s.fetchBytes (.engine te) a (n * 16)
      go r.1 ((List.range n).map (fun i => leAt r.2 (i * 16) 16))

/-- Starts an engine from instruction 0 (R148). -/
def State.opTeStart (s : State) (te : Nat) : State :=
  s.loadProgram te (fun s p =>
    let scalars := match s.teJobOf te with
      | none => []
      | some j => s.startScalars j
    let s := s.setReg (fldAddr F.teSig_signature (te / 16) (te % 16) 0) 0
    (s.setEng te (engineAtStart scalars p)).teBegin te)

/-- TE_CTRL start: dropped on an engine that is not usable (R256). -/
def execTeStart (who : Initiator) (te : Nat) (s : State) : Host.Outcome State Fault Refusal :=
  match s.teCtrlRefused who te with
  | some t => .next t
  | none =>
    if !s.engineUsable te then .next (s.dropReg E.schRtProtected who (fldPlace F.teCtrl_start (te / 16) (te % 16)))
    else if s.teAtRest te then .next (s.opTeStart te) else .next s

/-! ### HALT (R142) -/

/-- Whether every rank of a job has halted. -/
def State.allHalted (s : State) (j : Nat) : Bool :=
  (List.range (s.job j).ranks.length).all (fun r => (s.job j).stopped.contains r)

/-- A rank of a job halted: with the last one the job awaits its settlement. -/
def State.rankHalted (s : State) (te j : Nat) : State :=
  let r := s.teRank te
  let s := (s.rankStopped j r).postEvent (te / 16) 2 j r
  let s := if s.jobState j = jsRunning ∧ s.allHalted j then (s.setJobState j jsSettling).releaseEngines j else s
  s.settle j

/-- The end of the engine's part of its job. -/
def execHalt (te : Nat) (s : State) : Host.Outcome State Fault Refusal :=
  .next (s.teRun te 0x0A (fun _ => s.teSync te (fun _ => true) (fun s =>
    let t := s.setTeStat te tsDone
    match t.teJobOf te with
    | none => .stopped t
    | some j => .stopped ((t.rankHalted te j).shrinkAll.testIfDue te))))

/-! ### Pre-emption (R120, R143, R245) -/

/-- A preempt request; an engine that does not run ignores it (R145). -/
def State.opTePreempt (s : State) (te : Nat) : State :=
  if s.teStat te = tsRunning ∨ s.teStat te = tsWaiting then s.setTeStat te tsStopping else s

def execTePreempt (who : Initiator) (te : Nat) (s : State) : Host.Outcome State Fault Refusal :=
  match s.teCtrlRefused who te with
  | some t => .next t
  | none => .next (s.opTePreempt te)

/-- The 16 384 entry images of a bank. -/
def Bank.image (x : Bank) : List Byte :=
  ((List.range 16384).map (fun i => entryImage (storeGet 0 x.entries i))).flatten

/-- The sizes of the parts of the saved image (R120). -/
def imgBankA : Nat := 0x80000
def imgBankB : Nat := 0xB0000
def imgControl : Nat := 0xE0000
def imgCrc : Nat := 0xE03FC

/-- The saved image: operand buffers, banks, the control block's bytes, CRC-32C. -/
def Engine.image (e : Engine) (control : List Byte) : List Byte :=
  let body := (List.range 0x80000).map (fun i => storeGet 0 e.opbuf i) ++ e.bankA.image ++ e.bankB.image ++ control
  body ++ leBytes (crc32c body) 4

/-- The bytes that the control block takes: their arrangement is private to the device, so each is open. -/
def State.controlBytes (s : State) : List Byte × State :=
  ((List.range 1020).map (fun i => BitVec.ofNat 8 (Config.freeValue (s.freeCtr + i))),
    { s with freeCtr := s.freeCtr + 1020 })

/-- The bytes of a saved image. -/
def imgBytes : Nat := imgCrc + 4

/-- The check of the save or restore of an engine's image (R157): SAVE granules of its instance, or LPDDR6 of its
world. -/
def State.slotRefused (s : State) (te a : Nat) (write : Bool) : Option ErrCode :=
  let who : Initiator := .engine te
  let z := a + imgBytes - 1
  if s.worldRefuses (s.secureAccess who) a imgBytes then some E.secWorld
  else if s.isMoving a || s.isMoving z then some E.secMoving
  else if s.goldenRefuses who write a imgBytes then some E.gftArea
  else if !s.mapAllows who write a || !s.mapAllows who write z then some E.addressRefused
  else
    match placeOf a with
    | .scratchpad d _ =>
      let save := fun (x : Nat) => s.fget F.spmGranuleN_kind d (spmIndex x) 0 == 4
        && s.fget F.spmGranuleN_vi d (spmIndex x) 0 == s.engineVi te
      if save a && save z then none else some E.spmPartition
    | .lpddr => none
    | _ => some E.addressRefused

/-- Writes an engine's image to its save slot. -/
def State.writeImage (s : State) (te : Nat) : State :=
  let a := s.fget F.teSaveBase_save_addr (te / 16) (te % 16) 0
  let e := s.eng te
  let s := (s.countLines (.engine te) a imgBytes).takeTokens (.engine te) a imgBytes
  let c := s.controlBytes
  let x : SavedControl := { engine := { e with opbuf := [], program := [] }, pc := s.tePc te,
                            signature := s.fget F.teSig_signature (te / 16) (te % 16) 0,
                            bankStates := s.bankState te false + s.bankState te true * 4, bytes := c.1 }
  let t := (c.2.store a (e.image c.1)).tagLines (c.2.secureAccess (.engine te)) a imgBytes
  { t with saves := storePut t.saves a x }

/-- Every rank of a job that was running is saved: the job is PREEMPTED and its engines are free (R245 step 5). -/
def State.jobSaved (s : State) (j : Nat) : State :=
  if s.allStopped j && !(s.job j).saved.isEmpty then
    let s := s.modJob j (fun x => { x with arrivals := [], preemptions := x.preemptions + 1 })
    let s := s.fadd F.schEvents_preemptions 4 0 0 1
    (s.setJobState j jsPreempted).releaseEngines j
  else s

/-- An uncorrectable read of a bank or an operand buffer while the image is written fails as one elsewhere (R84,
R107). -/
def Upset.inImage : Upset → Bool
  | .operandUncorrectable => true
  | .accumUncorrectable => true
  | _ => false

/-- The engine has finished its writes, compares its open banks (R105), writes its image and enters SAVED; a job that
ended meanwhile has its saves discarded (R250). -/
def State.saveEngine (s : State) (te : Nat) (upset : Upset) : State :=
  match (s.upsetCorrected te upset).compareOpen te upset with
  | some t => t
  | none =>
    let s := s.upsetCorrected te upset
    if upset.inImage then
      s.upsetFails te (upset.failure.getD E.accumEccUncorr) (s.bankState te true = bkOpen && s.bankState te false ≠ bkOpen) 0
    else
    let slot := s.fget F.teSaveBase_save_addr (te / 16) (te % 16) 0
    match s.teJobOf te with
    | some j =>
      if s.jobLive j then
        match s.slotRefused te slot true with
        | some c => s.teRefused te c slot
        | none =>
          let r := s.teRank te
          let s := (s.writeImage te).setTeStat te tsSaved
          let s := s.modJob j (fun x =>
            { x with saved := if x.saved.contains r then x.saved else x.saved ++ [r]
                     slots := storePut x.slots r slot })
          (((s.postEvent (te / 16) 4 j r).jobSaved j).shrinkAll.testIfDue te)
      else (((s.setTeStat te tsIdle).rankStopped j (s.teRank te)).settle j).testIfDue te
    | none =>
      match s.slotRefused te slot true with
      | some c => s.teRefused te c slot
      | none => ((s.writeImage te).setTeStat te tsSaved).testIfDue te

/-- A pre-empted engine completes its writes and saves itself: a refused write stops it, and one that waits for a fill
holds the save (R143). -/
def execEngineSaved (te : Nat) (upset : Upset) (s : State) : Host.Outcome State Fault Refusal :=
  if s.teStat te != tsStopping || s.teStalled te then .next s
  else
    let r := s.landWrites te (fun _ => true)
    .next (if r.2 then r.1.teAddressStop te else if r.1.teStalled te then r.1 else r.1.saveEngine te upset)

/-! ### Resumption (R144, R246) -/

/-- The entries that a bank's images hold. -/
def entriesFrom (bs : List Byte) : Nat → Nat → Store Nat
  | _, 0 => []
  | i, n + 1 =>
    let v := leNat (bs.take 12)
    let t := entriesFrom (bs.drop 12) (i + 1) n
    if v = 0 then t else (i, v) :: t

/-- The operand buffers that an image holds. -/
def opbufFrom (bs : List Byte) : Nat → Nat → Store Byte
  | _, 0 => []
  | i, n + 1 =>
    let t := opbufFrom (bs.drop 1) (i + 1) n
    match bs with
    | [] => t
    | b :: _ => if b = 0 then t else (i, b) :: t

/-- The control part that an image stands for: the saved one where its bytes are as they were saved; the content of
an altered one is open within the job (R120): registers, predicates, flags and pc take free values. -/
def State.controlOf (s : State) (a : Nat) (bytes : List Byte) (len : Nat) : SavedControl × State :=
  match storeFind s.saves a with
  | some x => if x.bytes = bytes then (x, s) else
      let f := fun i => Config.freeValue (s.freeCtr + i)
      ({ engine := { s := (List.range 32).map (fun i => BitVec.ofNat 64 (f i)), preds := f 32 % 256,
                     flags := f 33 % 65536 },
         pc := f 34 % max 1 len, signature := f 35 % 2 ^ 64, bankStates := 0, bytes },
       { s with freeCtr := s.freeCtr + 36 })
  | none =>
    let f := fun i => Config.freeValue (s.freeCtr + i)
    ({ engine := { s := (List.range 32).map (fun i => BitVec.ofNat 64 (f i)), preds := f 32 % 256,
                   flags := f 33 % 65536 },
       pc := f 34 % max 1 len, signature := f 35 % 2 ^ 64, bankStates := 0, bytes },
     { s with freeCtr := s.freeCtr + 36 })

/-- The memory pieces of a load. -/
def TileLoad.pieces (l : TileLoad) : List (Nat × Nat) :=
  let n := if l.raw then l.handle.rows * l.handle.rowBytes else l.handle.rowBytes + l.handle.scales
  l.rows.map (fun a => (a, n))

/-- Issues a cancelled load again: its bytes are read anew. -/
def State.reload (s : State) (te : Nat) (l : TileLoad) : State × TileLoad :=
  let ps := l.pieces
  let bad := (ps.filterMap (fun p => s.poisonIn (.engine te) p.1 p.2)).head?
  let r := s.fetchAll (.engine te) ps
  (r.1, { l with data := r.2, poison := bad })

def State.reloadAll (s : State) (te : Nat) : List TileLoad → State × List TileLoad
  | [] => (s, [])
  | l :: t =>
    let r := s.reload te l
    let q := r.1.reloadAll te t
    (q.1, r.2 :: q.2)

/-- The FINITE entries of a bank of 16 384, each of which a resumption checks (R144, R153). -/
def Bank.finite (x : Bank) : Nat :=
  16384 - (x.entries.filter (fun p => entryState (x.layout.getD .ext) p.2 != esFinite)).length

/-- A load that the resumption issues again is refused: the refusal stops the engine (R126); else the loads are out. -/
def State.resumeLoads (s : State) (te : Nat) (e : Engine) (signature pc : Nat) : State :=
  match s.firstRefusal (.engine te) false
      (((e.loads.map TileLoad.pieces).flatten.map (fun p => requests p.1 p.2)).flatten) with
  | some (c, a) => s.teRefused te c a
  | none =>
    let r := s.reloadAll te e.loads
    let s := r.1.setEng te { e with loads := r.2 }
    (s.fset F.teSig_signature (te / 16) (te % 16) 0 signature).tePlace te pc e.loops

/-- Loads image and program, checks both, and continues. -/
def State.opTeResume (s : State) (te : Nat) (upset : Upset) : State :=
  let a := s.fget F.teSaveBase_save_addr (te / 16) (te % 16) 0
  match s.slotRefused te a false with
  | some c => s.teRefused te c a
  | none =>
  let s := ((s.correctSoft a imgBytes).countLines (.engine te) a imgBytes).takeTokens (.engine te) a imgBytes
  let img := s.bytesAt a imgBytes
  if s.poisoned a imgBytes then (s.reportPoison (.engine te) a imgBytes).checkStops E.entryCrc te te
  else if crc32c (img.take imgCrc) != leAt img imgCrc 4 then s.checkStops E.entryCrc te te
  else
    s.loadProgram te (fun s p =>
      let c := s.controlOf a (byteSlice img imgControl 1020) p.length
      let s := c.2
      let e := c.1.engine
      let fill := fun (x : Bank) (off : Nat) =>
        { x with entries := entriesFrom (byteSlice img off 0x30000) 0 16384, openedAt := s.periods }
      let e := { e with bankA := fill e.bankA imgBankA, bankB := fill e.bankB imgBankB,
                        opbuf := opbufFrom (img.take 0x80000) 0 0x80000, program := p, mmaDone := false }
      let s := s.fwrap F.teCheckCounts_imports (te / 16) (te % 16) 0 (e.bankA.finite + e.bankB.finite)
      let s := s.teBegin te
      let s := (s.setBankState te false (c.1.bankStates % 4)).setBankState te true (c.1.bankStates / 4)
      match e.bankA.mismatch E.residueImport, e.bankB.mismatch E.residueImport with
      | some f, _ => s.entryFails te false f
      | none, some f => s.entryFails te true f
      | none, none =>
        if upset = .residue ∨ upset = .stateParity then
          s.upsetFails te (if upset = .residue then E.residueImport else E.stateParity) false 0
        else s.resumeLoads te e c.1.signature c.1.pc)

def execTeResume (who : Initiator) (te : Nat) (upset : Upset) (s : State) : Host.Outcome State Fault Refusal :=
  match s.teCtrlRefused who te with
  | some t => .next t
  | none =>
    if !s.engineUsable te then .next (s.dropReg E.schRtProtected who (fldPlace F.teCtrl_start (te / 16) (te % 16)))
    else if s.teAtRest te then .next (s.opTeResume te upset) else .next s

/-! ### Abort (R145) -/

/-- Stops an engine without saving: open tiles FAILED, other bank contents gone, IDLE. -/
def State.abortEngine (s : State) (te : Nat) : State :=
  let one := fun (s : State) (b : Bool) =>
    s.setBankState te b (if s.bankState te b = bkOpen then bkFailed else bkEmpty)
  let s := s.settleWrites te
  let e := { s.eng te with bankA := {}, bankB := {}, loads := [] }
  let s := ((one (one s false) true).setEng te e).setTeStat te tsIdle
  s.fset F.teStatus_handle_ready (te / 16) (te % 16) 0 e.readyMask

/-- An abort of an engine that works for a job ends the job ABORTED; the abort wins over a pre-emption. -/
def State.opTeAbort (s : State) (te : Nat) : State :=
  let st := s.teStat te
  if st = tsRunning ∨ st = tsWaiting ∨ st = tsStopping ∨ st = tsSaved then
    let s := s.abortEngine te
    match s.teJobOf te with
    | none => s
    | some j => ((((s.rankStopped j (s.teRank te)).stopJob j jsAborted 0).settle j).shrinkAll.testIfDue te)
  else s

def execTeAbort (who : Initiator) (te : Nat) (s : State) : Host.Outcome State Fault Refusal :=
  match s.teCtrlRefused who te with
  | some t => .next t
  | none => .next (s.opTeAbort te)

/-! ### A write refused at its target (R126) -/

/-- The refusal of an outstanding write reaches the engine: the write changes nothing, and the engine stops at its next
boundary with ADDRESS. -/
def execWriteRefusedAtTarget (te addr : Nat) (s : State) : Host.Outcome State Fault Refusal :=
  let st := s.teStat te
  if st != tsRunning && st != tsWaiting && st != tsStopping then .next s
  else
    match s.dropOutstanding te addr with
    | none => .next s
    | some t =>
      let c := match t.checkAccess (.engine te) true addr 1 with
        | .refuse c => c
        | .pass => E.addressRefused
      .next ((t.teWriteRefusal te c addr).teAddressStop te)

end Sys2Proof.Machine
end

