-- ==== Sys2Proof/Machine/Sched.lean ====
section
/-! DEFINITION. The scheduler: doorbells, job records, admission, dispatch, pre-emption, spills and refills, and the
control of engines across dies (R226 to R256). -/

namespace Sys2Proof.Machine

/-! ### Doorbells (R229) -/

/-- The size of the entries' index space that a queue holds: a tail may lie at most that far beyond the head. -/
def State.tailFits (s : State) (q v : Nat) : Bool := (v + 65536 - s.qHead q) % 65536 ≤ s.qSize q

/-- A tail written to a queue's doorbell. -/
def execDoorbellTail (who : Initiator) (queue value : Nat) (s : State) : Host.Outcome State Fault Refusal :=
  if !s.headQueue queue && s.doorbellOk who queue && s.tailFits queue (value % 65536) then
    .next (s.fset F.schQptr_tail 4 0 queue value).answerOk
  else .next (s.refuseDoorbell who queue 0)

/-- A head written to a completion queue's doorbell: records that waited for room are written. -/
def execCompletionHeadDoorbell (who : Initiator) (queue value : Nat) (s : State) :
    Host.Outcome State Fault Refusal :=
  let v := value % 65536
  if s.headQueue queue && s.doorbellOk who queue && (v + 65536 - s.qHead queue) % 65536 ≤ s.qUsed queue then
    let s := s.fset F.schQptr_head 4 0 queue v
    .next (s.drainHeld queue (s.cq queue).held.length).answerOk
  else .next (s.refuseDoorbell who queue 0)

/-- The coalescing time of a completion queue's oldest record is over (R376). -/
def execMsiCoalesceTimeout (queue : Nat) (s : State) : Host.Outcome State Fault Refusal :=
  let vi := s.qVi queue
  let us := s.fget (if s.fon F.viState_over_budget 4 0 vi then F.viCoalesce_ob_us else F.viCoalesce_time_us) 4 0
    (committed vi)
  if (s.cq queue).unsignalled = 0 ∨ s.fon F.schQcfg_msi_enable 4 0 queue = false
      ∨ s.periods * 10 < (s.cq queue).oldest * 10 + us * 384 then .next s
  else .next (s.sendCqMsi queue)

/-! ### Job records (R231, R233) -/

def recAttrs (e : List Byte) : Nat := leAt e 4 1
def recClass (e : List Byte) : Nat := bits (recAttrs e) 0 2
def recRanks (e : List Byte) : Nat := bits (leAt e 5 1) 0 6 + 1
def recCtx (e : List Byte) : Nat := leAt e 2 2

/-- The named buffers of a record, the 16 entries in order. -/
def recBuffers (e : List Byte) : List (Option (Nat × Nat)) :=
  (List.range 16).map (fun i =>
    let w := leAt e (0x38 + 2 * i) 2
    if bit w 15 then some (bits w 8 3, bits w 0 8) else none)

/-- The private regions of a record that are used. -/
def recPrivates (e : List Byte) : List PrivateRegion :=
  (List.range 4).map (fun i =>
    let w := leAt e (0x60 + 16 * i) 8
    { base := leAt e (0x58 + 16 * i) 8, bytes := bits w 0 32, die := bits w 32 3, alloc := bit w 40 })

/-- Whether a private region's entry is well formed (R231, R232). -/
def privateOk (e : List Byte) (i : Nat) : Bool :=
  let b := leAt e (0x58 + 16 * i) 8
  let w := leAt e (0x60 + 16 * i) 8
  let n := bits w 0 32
  b < 2 ^ 48 && bits w 35 5 == 0 && bits w 41 23 == 0 && bits w 32 3 < 4
    && (if bit w 40 then b == 0 && n % 0x100000 == 0 && 1 ≤ n / 0x100000 && n / 0x100000 ≤ 16 else n != 0 || b == 0)

/-- The check BAD_RECORD of R233: reserved fields zero, values in range, addresses aligned. -/
def recordOk (e : List Byte) : Bool :=
  let spec := bit (recAttrs e) 3
  bits (recCtx e) 12 4 == 0 && bits (recAttrs e) 6 2 == 0 && bits (leAt e 5 1) 6 2 == 0
    && (if spec then 1 ≤ leAt e 6 1 && leAt e 6 1 ≤ 128 else leAt e 6 1 == 0)
    && leAt e 7 1 < 64
    && bits (leAt e 8 8) 0 4 == 0 && bits (leAt e 8 8) 60 4 == 0
    && leAt e 0x10 8 % 64 == 0 && leAt e 0x10 8 < 2 ^ 48
    && bits (leAt e 0x1A 1) 4 4 == 0 && leAt e 0x1B 1 == 0
    && (List.range 4).all (fun i => leAt e (0x20 + i) 1 < 64 || leAt e (0x20 + i) 1 == 0xFF)
    && (List.range 4).all (fun i => leAt e (0x24 + 2 * i) 2 < 4096 || leAt e (0x24 + 2 * i) 2 == 0xFFFF)
    && leAt e 0x2E 2 == 0 && leAt e 0x34 4 == 0
    && (List.range 16).all (fun i => bits (leAt e (0x38 + 2 * i) 2) 11 4 == 0 && bits (leAt e (0x38 + 2 * i) 2) 8 3 < 4)
    && (List.range 4).all (privateOk e)
    && leAt e 0xB8 72 == 0

/-- What a record leaves with its job context. -/
def State.jobRecordOf (s : State) (e : List Byte) : JobRecord :=
  let rt := recClass e == 0
  let producers := (List.range 4).map (fun i => leAt e (0x24 + 2 * i) 2)
  let chained := (producers.filter (fun p => p != 0xFFFF && s.jobLive p)).any (fun p => (s.job p).record.speculative)
  let spec := bit (recAttrs e) 3 || chained
  { checked := bit (recAttrs e) 2 || (rt && (s.rtPart (leAt e 7 1)).allChecked),
    speculative := spec,
    pairClusters := bit (recAttrs e) 4, singleDie := bit (recAttrs e) 5,
    tokens := if spec then max 1 (leAt e 6 1) else 0,
    partition := leAt e 7 1, prog := bits (leAt e 8 8) 0 48, progLenM1 := bits (leAt e 8 8) 48 12,
    progress := leAt e 0x10 8, cq := leAt e 0x18 2, dieMask := leAt e 0x1A 1, deadline := leAt e 0x1C 4,
    models := (List.range 4).map (fun i => leAt e (0x20 + i) 1), producers,
    targetFrame := leAt e 0x2C 2, estSteps := leAt e 0x30 4, buffers := recBuffers e, privates := recPrivates e,
    args := (List.range 4).map (fun i => leAt e (0x98 + 8 * i) 8) }

/-- Whether a context number lies in an instance's range and is free. -/
def State.ctxFree (s : State) (vi j : Nat) : Bool :=
  let first := s.fget F.viCtx_ctx_first 4 0 (committed vi) * 16
  first ≤ j && j < first + s.fget F.viCtx_ctx_blocks 4 0 (committed vi) * 16 && (s.job? j).isNone

/-- Whether an address lies in an instance's own granules of the kinds INSTANCE and CACHE. -/
def State.ownKind (s : State) (vi a : Nat) : Bool :=
  match placeOf a with
  | .scratchpad d _ =>
    let k := s.fget F.spmGranuleN_kind d (spmIndex a) 0
    (k == 1 || k == 3) && s.fget F.spmGranuleN_vi d (spmIndex a) 0 == vi
  | _ => false

/-- Whether a named range of scratchpad or LPDDR6 lies in an instance's own granules of the kinds INSTANCE and CACHE
or in its extents (R212). -/
def State.ownMemory (s : State) (vi a n : Nat) : Bool :=
  s.inExtent vi a n || (0 < n && allGranules (s.ownKind vi) a n)

/-- The check NOT_PERMITTED of R233. -/
def State.recPermitted (s : State) (q vi : Nat) (e : List Byte) : Bool :=
  let cls := recClass e
  let r := s.jobRecordOf e
  s.fget F.schQcfg_class_max 4 0 q ≤ cls && s.fget F.viOwner_class_max 4 0 (committed vi) ≤ cls
    && (cls != 0 || (s.fon F.schQcfg_rt_bound 4 0 q && s.fget F.schQcfg_rt_partition 4 0 q == r.partition
      && !r.speculative))
    && s.inReadReach vi r.prog ((r.progLenM1 + 1) * 16) && s.inReach vi r.progress 64
    && r.privates.all (fun p => p.alloc || p.bytes == 0 || (s.inReach vi p.base p.bytes
      && (!r.speculative || s.ownMemory vi p.base p.bytes)))
    && r.buffers.all (fun b => match b with
      | none => true
      | some (d, k) => s.bufValid d k && s.bufVi d k == vi
        && (!r.speculative || (s.ownMemory vi (s.bufBase d k) (s.bufGranules d k * granBytes)
          && s.ownMemory vi (s.bufShadow d k) (s.bufGranules d k * granBytes))))
    && r.producers.all (fun p => p == 0xFFFF || !s.jobLive p || s.jobVi p == vi)

/-- The usable engines of a die. -/
def State.usableOnDie (s : State) (d : Nat) : Nat :=
  popcount (bits (s.fget F.cfgCapsEngineMap_engine_usable 4 0 0) (16 * d) 16) 16

/-- Whether the usable engines of the dies of a mask suffice for so many ranks, on one die where that is asked. -/
def State.enoughEngines (s : State) (mask ranks : Nat) (single : Bool) : Bool :=
  let ds := onesBelow mask 4
  if single then ds.any (fun d => ranks ≤ s.usableOnDie d) else ranks ≤ (ds.map s.usableOnDie).sum

/-- The jobs upstream in the chain that a record forms, by context and number: its producers that are live at its fetch,
and what is upstream of those (R209). -/
def State.upstreamOf (s : State) (e : List Byte) : List (Nat × Nat) :=
  let ps := (s.jobRecordOf e).producers.filter (fun p => p != 0xFFFF && s.jobLive p)
  ((ps.map (fun p => (p, (s.job p).serial)) ++ (ps.map (fun p => (s.job p).upstream)).flatten).filter (fun p =>
    s.jobLive p.1 && (s.job p.1).serial == p.2)).eraseDups

/-- The members of a chain that a record would form, itself among them, are at most 8 (R209). -/
def State.chainFits (s : State) (e : List Byte) : Bool := (s.upstreamOf e).length ≤ 7

/-- The models of a record that name no registration (R191). -/
def State.modelsKnown (s : State) (vi : Nat) (e : List Byte) : Bool :=
  (s.jobRecordOf e).models.all (fun id => id == 0xFF || (s.namedModel vi id).isSome)

def State.modelsPinned (s : State) (vi : Nat) (e : List Byte) : Bool :=
  (s.jobRecordOf e).models.all (fun id => id == 0xFF || (match s.namedModel vi id with
    | none => false
    | some m => m.pinned))

/-! ### RT admission (R238, R241) -/

/-- The steps per engine and frame against which a partition admits now. -/
def State.rtBudget (s : State) (p : Nat) : Nat :=
  let b := s.fget F.schRtCfg_budget_steps 4 p 0
  if s.fon F.schRtUse_admit_corner 4 p 0 then
    min b (s.fget F.schRtCfg_window 4 p 0 * 75 / 4 - s.fget F.gftTest_test_steps 4 0 0)
  else b

/-- The answers of R238 to an RT job. -/
inductive RtAnswer where
  | accept | wait | late | noBudget
deriving DecidableEq, Repr

def State.rtAnswer (s : State) (p target est ranks : Nat) : RtAnswer :=
  let ahead := (target + 65536 - s.frame % 65536) % 65536
  if 32768 ≤ ahead then .late
  else if 0 < ahead then .wait
  else if !(s.rtPart p).windowOpen then .late
  else if s.fget F.schRtUse_used 4 p 0 + est * ranks ≤ s.rtBudget p * s.fget F.schRtUse_usable 4 p 0 then .accept
  else .noBudget

/-- An admitted job's steps and count. -/
def State.rtAdmit (s : State) (p est ranks : Nat) : State :=
  let s := s.fset F.schRtUse_used 4 p 0 (s.fget F.schRtUse_used 4 p 0 + est * ranks)
  let s := s.fadd F.schRtCounts_admitted 4 p 0 1
  s.setRtPart p { s.rtPart p with admitted := (s.rtPart p).admitted + 1 }

/-- An RT job is admitted; at fixed pace where its partition is FIXED and admit_corner is clear (R423). -/
def State.markAdmitted (s : State) (j : Nat) : State :=
  s.modJob j (fun x =>
    { x with admitted := true
             fixedPace := s.fget F.schRtCfg_condition 4 x.record.partition 0 == 0
               && !s.fon F.schRtUse_admit_corner 4 x.record.partition 0 })

/-- A refusal of an RT job counted at its partition. -/
def State.rtRefused (s : State) (p : Nat) (a : RtAnswer) : State :=
  match a with
  | .late => s.fadd F.schRtCounts_late 4 p 0 1
  | .noBudget => s.fadd F.schRtCounts_no_budget 4 p 0 1
  | _ => s

/-! ### Fetch (R229, R230, R233) -/

/-- The status with which a record is refused; OK where it is accepted. -/
def State.recordStatus (s : State) (q vi : Nat) (e : List Byte) : Nat :=
  let r := s.jobRecordOf e
  let cls := recClass e
  if !recordOk e || !s.chainFits e then stBadRecord
  else if !s.ctxFree vi (recCtx e) then stCtxBusy
  else if !s.recPermitted q vi e then stNotPermitted
  else if !s.enoughEngines r.dieMask (recRanks e) r.singleDie
      || (cls != 0 && s.fget F.viEngines_engine_max 4 0 (committed vi) < recRanks e) then stNoEngines
  else if cls == 0 && s.rtAnswer r.partition r.targetFrame r.estSteps (recRanks e) == .noBudget then stRtNoBudget
  else if cls == 0 && s.rtAnswer r.partition r.targetFrame r.estSteps (recRanks e) == .late then stRtLate
  else if !s.cqValid vi r.cq then stCqInvalid
  else if !s.modelsKnown vi e then stUnknownModel
  else if cls == 0 && !s.modelsPinned vi e then stModelNotPinned
  else stOk

/-- A refused record completes at once, with state QUEUED and its status. -/
def State.refuseRecord (s : State) (vi : Nat) (e : List Byte) (status : Nat) : State :=
  let s := s.fadd F.schEvents_refusals 4 0 0 1
  let p := leAt e 7 1
  let s := if status = stRtLate then s.rtRefused p .late
    else if status = stRtNoBudget then s.rtRefused p .noBudget else s
  if s.cqValid vi (leAt e 0x18 2) then
    s.releaseCompletion (leAt e 0x18 2)
      { job := none, bytes := completionBytes (leAt e 0 2) (recCtx e) jsQueued vi status 0 0 0 0 0 0 0 0 0 0 0 }
  else s

/-- An accepted record takes its job context, waits in a ready list, and its absent models are wanted. -/
def State.acceptRecord (s : State) (q vi : Nat) (e : List Byte) : State :=
  let j := recCtx e
  let r := s.jobRecordOf e
  let cls := recClass e
  let s := s.setReg (fldAddr F.schJctx_state 4 0 j)
    (jsQueued + vi * 2 ^ 4 + cls * 2 ^ 10 + q * 2 ^ 16 + leAt e 0 2 * 2 ^ 32 + (recRanks e - 1) * 2 ^ 48)
  let x : Job := { record := r, serial := s.sched.nextSerial, upstream := s.upstreamOf e }
  let s := { s with sched := { s.sched with jobs := storePut s.sched.jobs j x, nextSerial := s.sched.nextSerial + 1 } }
  let s := s.fset F.schStatus_ctx_used 4 0 0 (s.fget F.schStatus_ctx_used 4 0 0 + 1)
  let s := s.fset F.viUse_jobs_live 4 0 vi (s.fget F.viUse_jobs_live 4 0 vi + 1)
  let waits := cls == 0 && s.rtAnswer r.partition r.targetFrame r.estSteps (recRanks e) == .wait
  let s := if cls == 0 && !waits then
      (s.rtAdmit r.partition r.estSteps (recRanks e)).markAdmitted j
    else s
  let s := if waits then { s with sched := { s.sched with nextFrame := s.sched.nextFrame ++ [j] } }
    else { s with sched := { s.sched with ready := s.sched.ready ++ [j] } }.countReady
  let s := s.postEvent ((onesBelow r.dieMask 4)[0]?.getD 0) 1 j 0
  let s := (r.models.filter (· != 0xFF)).foldl (fun s id => s.demandModel vi id cls) s
  s.writeProgress j

/-- Whether a system queue's command code has a row of its own. -/
def knownCode (code : Nat) : Bool :=
  (1 ≤ code && code ≤ 6) || (0x10 ≤ code && code ≤ 0x13) || code == 0x20 || code == 0x21

/-- The scheduler fetches and checks the entry at the head of a submission queue. On a system queue it answers an
entry whose command code no row carries. -/
def execJobRecordFetch (queue : Nat) (s : State) : Host.Outcome State Fault Refusal :=
  if isSystem queue then
    .next (s.withEntry queue 256 (fun _ e =>
      if knownCode (leAt e 0 1) then s else s.sysCommand queue (leAt e 0 1) (fun s _ _ => (s, some (stBadRecord, 0)))))
  else if !isSubmission queue then .next s
  else .next (s.withEntry queue 256 (fun s e =>
    let vi := s.qVi queue
    let status := s.recordStatus queue vi e
    let s := s.fset F.schQptr_head 4 0 queue (s.qHead queue + 1)
    if status = stOk then s.acceptRecord queue vi e else s.refuseRecord vi e status))

/-! ### Dispatch (R207, R232, R242, R247) -/

/-- Whether a job holds an engine by its rank map. -/
def State.engineHeld (s : State) (te : Nat) : Bool :=
  (storeKeys s.sched.jobs).any (fun j => bit (s.fget F.schJranks_engines 4 0 j) te)

/-- Whether an engine can take a rank of a job now: usable, in service, not parked, and it holds no job; an RT job's
engine has passed its test of the frame (R296), and a shared engine whose test is due runs it first. -/
def State.placeable (s : State) (j te : Nat) : Bool :=
  s.engineUsable te && s.gftState te == gfIn && !s.parked te && s.teFree te && !s.engineHeld te
    && bit (s.job j).record.dieMask (te / 16) && !(s.gftOf te).due && !s.blockHeld (te / 2)
    && (if s.jobClass j == 0 then
          bit (s.fget F.schRtEngines_engines 4 (s.job j).record.partition 0) te && !s.untested te
        else s.firmwareActs (te / 16) && s.sharedEngine te && bit (s.fget F.viEngines_die_mask 4 0 (committed (s.jobVi j))) (te / 16))

/-- The ranks that an instance's non-RT jobs hold. -/
def State.ranksHeld (s : State) (vi : Nat) : Nat :=
  ((storeKeys s.sched.jobs).map (fun j =>
    if s.jobVi j = vi ∧ s.jobClass j ≠ 0 then popcount (s.fget F.schJranks_engines 4 0 j) 64 else 0)).sum

/-- Whether a choice of engines, each for a rank, fits a job (R242, R377), and the scheduler is not frozen (R41). -/
def State.choiceFits (s : State) (j : Nat) (ranks : List (Nat × Nat)) : Bool :=
  let x := (s.job j).record
  !s.logicFrozen 4 && ranks.all (fun r => s.placeable j r.2) && (ranks.map Prod.snd).eraseDups.length == ranks.length
    && (!x.singleDie || ranks.all (fun r => ranks.all (fun q => r.2 / 16 == q.2 / 16)))
    && (!x.pairClusters || ranks.all (fun r => ranks.all (fun q => r.1 / 2 != q.1 / 2 || r.2 / 2 == q.2 / 2)))
    && (s.jobClass j == 0 || (s.fwAttached && !s.driverLost (s.jobVi j)
      && s.ranksHeld (s.jobVi j) + ranks.length ≤ s.fget F.viEngines_engine_max 4 0 (committed (s.jobVi j))))

/-! ### Save slots (R245, R298) -/

/-- The save slots of the live jobs: those named when their ranks started. -/
def State.slotsTaken (s : State) : List Nat :=
  ((storeKeys s.sched.jobs).map (fun j => if s.jobLive j then (s.job j).slots.map Prod.snd else [])).flatten

/-- Whether n bytes meet no save slot of a list. -/
def slotClear (taken : List Nat) (a n : Nat) : Bool := taken.all (fun u => !overlap a n u imgBytes)

/-- The SAVE granules of an instance in an engine's own cluster that hold no slot of a list. -/
def State.saveGranules (s : State) (vi te : Nat) (taken : List Nat) : List Nat :=
  let d := te / 16
  (((List.range 16).map (· + te % 16 / 2 * 16)).filter (fun g =>
    s.granKind d (granReg g) == 4 && s.granVi d (granReg g) == vi)).map (granuleAddr d)
    |>.filter (fun a => slotClear taken a 0x100000)

/-- Whether a rank's image may go to a slot: in a SAVE granule of the instance in the engine's own cluster if one is free,
and otherwise in its LPDDR6 on the stacks of the engine's die. -/
def State.slotFits (s : State) (vi te : Nat) (taken : List Nat) (a : Nat) : Bool :=
  let own := s.saveGranules vi te taken
  a % 0x1000 == 0 && slotClear taken a imgBytes
    && (if own.isEmpty then placeOf a == .lpddr && s.inExtent vi a imgBytes
          && (s.interleaved || (stackOf false a).1 / 2 == te / 16)
        else own.any (fun g => g ≤ a && a + imgBytes ≤ g + 0x100000))

/-- Whether the slots that the firmware chose fit the engines, one after the other. -/
def State.slotsFit (s : State) (vi : Nat) (taken : List Nat) : List Nat → List Nat → Bool
  | [], [] => true
  | te :: tes, a :: as => s.slotFits vi te taken a && s.slotsFit vi (a :: taken) tes as
  | _, _ => false

/-- Admitted RT jobs of a partition dispatch in admission order (R238). -/
def State.rtTurn (s : State) (j : Nat) : Bool :=
  s.jobClass j != 0 || ((s.job j).admitted
    && (s.sched.ready.filter (fun k => s.jobClass k == 0
      && (s.job k).record.partition == (s.job j).record.partition)).head? == some j)

/-- The first free run of n granules of an instance in one cluster of a die. -/
def State.freeRun (s : State) (vi die n : Nat) : Option Nat :=
  (List.range 128).find? (fun g => g % 16 + n ≤ 16 && (List.range n).all (fun i => s.granFree vi die (g + i)))

/-- Whether an instance may take n more granules of a die, borrowed ones (R368). -/
def State.mayBorrow (s : State) (vi die n : Nat) : Bool :=
  s.guaranteed vi die + (s.heldGranules vi die true).length + n ≤ s.spmMax (committed vi) die

/-- The models that room for a job's region may take, by instance × 64 + id: unpinned and unused ones of its instance;
and where the job is not speculative those of other instances, loaded at a lower class, that lie in borrowed granules
alone (R247, R248). -/
def State.takeable (s : State) (j die : Nat) : List (Nat × Model) :=
  let vi := s.jobVi j
  s.cache.models.filter (fun p => p.2.die == die && p.2.state == .resident && !p.2.pinned
    && !s.modelInUse (p.1 / 64) (p.1 % 64)
    && (p.1 / 64 == vi || (!(s.job j).record.speculative && s.jobClass j < p.2.loadClass
      && (List.range 128).all (fun g => !p.2.covers die g || s.granBorrowed die g)
      && s.mayBorrow vi die (modelPairs p.2.length * 2))))

/-- A model is dropped for a job: the granules of another instance's pass to the job's, as borrowed ones. -/
def State.takeModel (s : State) (j key : Nat) : State :=
  let vi := s.jobVi j
  match storeFind s.cache.models key with
  | none => s
  | some m =>
    let t := (s.dropModel (key / 64) (key % 64)).fadd F.schEvents2_cache_drops 4 0 0 1
    if key / 64 = vi then t
    else ((List.range 128).filter (m.covers m.die)).foldl (fun s g => s.giveGranule m.die g 1 vi 0) t

/-- Room for n granules of an alloc region of a job: free granules, else models are dropped in ascending order of value
(R247). -/
def State.regionRoom (s : State) (j die n : Nat) : Nat → Option (State × Nat)
  | 0 => none
  | fuel + 1 =>
    match s.freeRun (s.jobVi j) die n with
    | some g => some (s, g)
    | none =>
      match s.leastValue (s.takeable j die) with
      | none => none
      | some key => (s.takeModel j key).regionRoom j die n fuel

/-- The private regions of a job with those that ask for scratchpad placed; none where one finds no room. -/
def State.placeRegions (s : State) (vi : Nat) (j : Nat) : List PrivateRegion → Option (State × List PrivateRegion)
  | [] => some (s, [])
  | p :: t =>
    if !p.alloc then (s.placeRegions vi j t).map (fun r => (r.1, p :: r.2))
    else
      match s.regionRoom j p.die (p.bytes / 0x100000) 66 with
      | none => none
      | some (s, g) =>
        let s := (List.range (p.bytes / 0x100000)).foldl (fun s i =>
          s.setGranule p.die (g + i) 1 vi (s.fget F.spmGranuleN_rt_partition p.die (granReg (g + i)) 0)) s
        let q := { p with base := granuleAddr p.die g }
        let s := s.modJob j (fun x => { x with record := { x.record with
          privates := x.record.privates ++ [q] } })
        (s.placeRegions vi j t).map (fun r => (r.1, q :: r.2))

/-- Places the regions of a job; its record names them by their bases then. -/
def State.allocRegions (s : State) (j : Nat) : Option State :=
  let ps := (s.job j).record.privates
  let bare := s.modJob j (fun x => { x with record := { x.record with privates := [] } })
  (bare.placeRegions (s.jobVi j) j ps).map (fun r =>
    r.1.modJob j (fun x => { x with record := { x.record with privates := r.2 } }))

/-- The first free run of n tokens of a gate. -/
def State.freeTokens (s : State) (d n : Nat) : Option Nat :=
  let used := (s.sched.jobs.filter (fun p => p.2.tokenHome == d && 0 < p.2.tokenCount)).map
    (fun p => (p.2.tokenBase, p.2.tokenCount))
  ((0 :: used.map (fun u => u.1 + u.2)).filter (fun x =>
    x + n ≤ 16384 && used.all (fun u => !overlap x n u.1 u.2))).min?

/-- A job's tokens in its home gate, all pending (R207); none where the table has no room. -/
def State.allocTokens (s : State) (j home : Nat) : Option State :=
  let n := (s.job j).record.tokens
  if n = 0 then some (s.modJob j (fun x => { x with tokenHome := home }))
  else
    match s.freeTokens home n with
    | none => none
    | some b =>
      let s := (List.range n).foldl (fun s i =>
        s.setReg (fldAddr F.cgToken_state home 0 (b + i)) (1 + j * 2 ^ 4 + i * 2 ^ 16)) s
      let s := s.fset F.cgStatus_tokens_used home 0 0 (s.fget F.cgStatus_tokens_used home 0 0 + n)
      some (s.modJob j (fun x => { x with tokenHome := home, tokenBase := b, tokenCount := n }))

/-- An engine's job registers for a rank of a job (R150, R151). -/
def State.bindRank (s : State) (j te r : Nat) : State :=
  let x := (s.job j).record
  let s := s.setReg (fldAddr F.teJob_job_ctx (te / 16) (te % 16) 0)
    (j + s.jobVi j * 2 ^ 12 + s.jobClass j * 2 ^ 18 + x.checked.toNat * 2 ^ 20 + x.speculative.toNat * 2 ^ 21 + r * 2 ^ 22)
  let s := s.setReg (fldAddr F.teProg_prog_addr (te / 16) (te % 16) 0) (x.prog + x.progLenM1 * 2 ^ 48)
  s.noteWindow j te r

/-- The ranks of a job that have not halted. -/
def State.ranksToResume (s : State) (j : Nat) : List Nat :=
  (List.range (s.job j).ranks.length).filter (fun r => !(s.job j).stopped.contains r)

/-- The rank map of a job as its context shows it: the engines of the ranks that have not halted. -/
def State.mapRanks (s : State) (j : Nat) : State :=
  let tes := (s.job j).ranks
  let held := (s.ranksToResume j).filterMap (fun r => tes[r]?)
  let s := s.fset F.schJranks_engines 4 0 j (maskOf held)
  let vi := s.jobVi j
  let s := s.fset F.viUse_engines_held 4 0 vi (s.fget F.viUse_engines_held 4 0 vi + held.length)
  s.fset F.schJctx_herd 4 0 j (tes.any (fun te => te / 16 != (tes[0]?.getD 0) / 16)).toNat

/-- Whether every model a job names is RESIDENT (R184). -/
def State.modelsReady (s : State) (j : Nat) : Bool :=
  (s.job j).record.models.all (fun id => id == 0xFF || (match s.model? (s.jobVi j) id with
    | none => false
    | some m => m.state == .resident))

/-- A job starts on its engines: all ranks together. A non-RT job's save slots are written to TE_SAVE_BASE first
(R298). -/
def State.startRanks (s : State) (j : Nat) (tes slots : List Nat) : State :=
  let named := (List.range slots.length).zip slots
  let s := (s.modJob j (fun x =>
    { x with ranks := tes, slots := named, dispatched := true, dispatchTime := s.periods })).mapRanks j
  let s := named.foldl (fun s p =>
    let te := tes[p.1]?.getD 0
    s.fset F.teSaveBase_save_addr (te / 16) (te % 16) 0 p.2) s
  let s := (s.unready j).setJobState j jsRunning
  let first := (s.job j).record.models.filter (· != 0xFF)
  let s := match first.head? with
    | none => s
    | some m => s.cacheDispatch (s.jobVi j) m
  let s := (List.range tes.length).foldl (fun s r => s.bindRank j (tes[r]?.getD 0) r) s
  tes.foldl State.opTeStart s

/-- A job is placed on engines, one for each rank in order, with a save slot for each unless it is RT. A job whose models
are absent has them loaded first; one that finds no scratchpad or no tokens waits; one for whose ranks the usable engines
no longer suffice completes with NO_ENGINES (R250). -/
def execJobDispatch (job : Nat) (tes slots : List Nat) (s : State) : Host.Outcome State Fault Refusal :=
  let x := (s.job job).record
  let n := s.jobRanksM1 job + 1
  if !s.jobLive job || s.jobState job != jsQueued || !s.sched.ready.contains job then .next s
  else if !s.enoughEngines x.dieMask n x.singleDie then .next (s.refuseWaiting job stNoEngines)
  else if !s.modelsReady job then
    .next ((x.models.filter (· != 0xFF)).foldl (fun s id => s.demandModel (s.jobVi job) id (s.jobClass job)) s)
  else if tes.length != n || !s.choiceFits job ((List.range n).zip tes) || !s.rtTurn job
      || !(if s.jobClass job == 0 then slots.isEmpty else s.slotsFit (s.jobVi job) s.slotsTaken tes slots) then .next s
  else
    match s.allocRegions job with
    | none => .next (s.fadd F.schEvents2_space_waits 4 0 0 1)
    | some t =>
      match t.allocTokens job ((tes[0]?.getD 0) / 16) with
      | none => .next s
      | some t => .next (t.startRanks job tes slots)

/-! ### Pre-emption, spill and refill (R244 to R249) -/

/-- Whether an address is a granule of one of a job's alloc regions. -/
def State.inAllocRegion (s : State) (j a : Nat) : Bool :=
  a % 0x100000 == 0 && (s.job j).record.privates.any (fun p => p.alloc && p.base ≤ a && a < p.base + p.bytes)

/-- The die granule number of a scratchpad address. -/
def dieGranule (a : Nat) : Nat := (a - 0x4000000000) % 0x10000000 / 0x100000
def dieOfSpm (a : Nat) : Nat := (a - 0x4000000000) / 0x10000000

/-- Whether a granule is borrowed by its instance (R248, R368). -/
def State.borrowedAt (s : State) (a : Nat) : Bool := s.granBorrowed (dieOfSpm a) (dieGranule a)

/-- Whether a granule of a victim may be spilled for a needing job (R248): in an alloc region, and of the same instance
unless it is borrowed and the needing job is not speculative. -/
def State.spillable (s : State) (job needer a : Nat) : Bool :=
  s.inAllocRegion job a && !(s.job job).spilled.any (fun x => x.addr == a)
    && (s.jobVi needer == s.jobVi job || (s.borrowedAt a && !(s.job needer).record.speculative))

/-- What a victim must spill for n granules from a die granule on: none where that place cannot be had (R247). -/
def State.windowSpill (s : State) (job needer die n g : Nat) : Option (List Nat) :=
  let free := fun x => s.granFree (s.jobVi needer) die x || (s.takeable needer die).any (fun p => p.2.covers die x)
  let gs := (List.range n).map (· + g)
  let must := (gs.filter (fun x => !free x)).map (granuleAddr die)
  if g % 16 + n ≤ 16 && must.all (s.spillable job needer) then some must else none

/-- The windows of a needing job's alloc region on its die, each with what a victim must spill there. -/
def State.windows (s : State) (job needer : Nat) (p : PrivateRegion) : List (List Nat) :=
  (List.range 128).filterMap (s.windowSpill job needer p.die (p.bytes / 0x100000))

/-- The granules that a victim must spill for a needing job's alloc regions: for each region those of its cheapest window.
A region for which no window can be had counts as 129, more than a die holds. -/
def State.spillCost (s : State) (job needer : Nat) : Nat :=
  (((s.job needer).record.privates.filter (fun p => p.alloc)).map (fun p =>
    (((s.windows job needer p).map List.length).min?).getD 129)).sum

/-! The choice of a victim (R236, R244) -/

/-- Whether a needing job may pre-empt a running one, and would get an engine that it can use. -/
def State.mayPreempt (s : State) (needing job : Nat) : Bool :=
  s.jobLive job && s.jobState job == jsRunning && s.jobClass needing < s.jobClass job
    && (!(s.job needing).record.speculative || s.jobVi needing == s.jobVi job)
    && (s.job job).ranks.any (fun te => bit (s.job needing).record.dieMask (te / 16) && s.engineUsable te
      && bit (s.fget F.viEngines_die_mask 4 0 (committed (s.jobVi needing))) (te / 16))

/-- Whether a candidate comes before another as a victim: the lower class, then fewer granules to spill, then the later
dispatch, then the lower rank-0 engine. -/
def State.victimBefore (s : State) (needing a b : Nat) : Bool :=
  let ca := s.spillCost a needing
  let cb := s.spillCost b needing
  let key := fun j => (s.job j).ranks[0]?.getD 64
  if s.jobClass a ≠ s.jobClass b then s.jobClass b < s.jobClass a
  else if ca ≠ cb then ca < cb
  else if (s.job a).dispatchTime ≠ (s.job b).dispatchTime then (s.job b).dispatchTime < (s.job a).dispatchTime
  else key a < key b

/-- Whether a job needs engines: it waits in a ready list, or it is pre-empted. -/
def State.needsEngines (s : State) (j : Nat) : Bool :=
  s.jobLive j && s.jobClass j != 0
    && ((s.jobState j == jsQueued && s.sched.ready.contains j) || s.jobState j == jsPreempted)

/-- The firmware pre-empts a job for a needing one: the first of the candidates, every rank, and every ring. An RT job is
never pre-empted. -/
def execJobPreempt (job needing : Nat) (s : State) : Host.Outcome State Fault Refusal :=
  if s.needsEngines needing && s.mayPreempt needing job
      && (s.job job).ranks.all (fun te => s.firmwareStarts (te / 16))
      && (storeKeys s.sched.jobs).all (fun k => k == job || !s.mayPreempt needing k || !s.victimBefore needing k job) then
    .next (s.requestPreempt job)
  else .next s

/-- Whether the granules are what a victim must spill for a region of the needing job, in a window that needs the least
(R247). -/
def State.spillFits (s : State) (job needer : Nat) (granules : List Nat) : Bool :=
  (s.job needer).record.privates.any (fun p =>
    let ws := s.windows job needer p
    p.alloc && ws.any (fun w => w.all granules.contains && granules.all w.contains && granules.length == w.length
      && ws.all (fun v => w.length ≤ v.length)))

/-- One granule is spilled with COPY descriptors of a stream engine of its die: copied, then scrubbed. -/
def State.spillGranule (s : State) (j se a copy : Nat) : State :=
  let s := (s.copyMarked a copy 0x100000).scrub a 0x100000
  let s := (s.countLines .hardware copy 0x100000).fwrap F.seBytes_lines (dieOfSpm a) se 0 0x4000
  let s := s.fadd F.schEvents_spilled 4 0 0 1
  s.modJob j (fun x => { x with spilled := x.spilled ++ [⟨a, copy⟩] })

/-- Granules of a victim's alloc regions are spilled for a needing job, as many as it needs at the place that needs the
fewest, each to the place that the firmware chose in the victim's LPDDR6. A borrowed granule of another instance passes to
the needing job's, within its ceiling. An instance that shrinks with shrink_now spills for itself (R378): the needing job
is the victim then. -/
def execSpillDone (job needer se : Nat) (granules copies : List Nat) (s : State) : Host.Outcome State Fault Refusal :=
  let shrinks := needer == job && storeFind s.vis.shrinking (s.jobVi job) == some 1
  let passes := s.jobVi needer != s.jobVi job
  let ok := s.jobLive job && s.jobState job == jsPreempted && s.jobLive needer
    && granules.all (fun a => s.firmwareFinishes (dieOfSpm a)) && granules.length == copies.length && granules.all (s.spillable job needer)
    && (shrinks || (s.jobClass needer < s.jobClass job && s.spillFits job needer granules))
    && (!passes || granules.all (fun a => s.mayBorrow (s.jobVi needer) (dieOfSpm a) granules.length))
    && copies.all (fun c => placeOf c == .lpddr && s.inExtent (s.jobVi job) c 0x100000)
  if ok then
    let t := (granules.zip copies).foldl (fun s p => s.spillGranule job (se % 4) p.1 p.2) s
    let t := if passes then
        granules.foldl (fun s a => s.giveGranule (dieOfSpm a) (dieGranule a) 1 (s.jobVi needer) 0) t else t
    .next t.shrinkAll
  else .next s

/-- The new rank map: each rank to resume takes the engine chosen for it. -/
def remap (old : List Nat) : List Nat → List Nat → List Nat
  | [], _ => old
  | _, [] => old
  | r :: rs, te :: tes => remap (old.set r te) rs tes

/-- Every rank loads its image and continues; the rings run again from their heads (R144, R172, R246). -/
def State.resumeRanks (s : State) (j : Nat) : State :=
  let rs := s.ranksToResume j
  let s := s.setJobState j jsRunning
  let s := rs.foldl (fun s r =>
    match s.rankEngine j r with
    | none => s
    | some te =>
      let slot := storeGet 0 (s.job j).slots r
      (s.bindRank j te r).fset F.teSaveBase_save_addr (te / 16) (te % 16) 0 slot) s
  let s := s.modJob j (fun x => { x with saved := [] })
  let s := (s.allRingsOf j).foldl (fun s n => if s.ringSt n = rgPaused then s.opRingStart n else s) s
  rs.foldl (fun s r =>
    match s.rankEngine j r with
    | none => s
    | some te => if s.jobLive j then s.opTeResume te .clean else s) s

/-- Whether a spilled granule can be refilled: it is the instance's, and no live job holds it. -/
def State.refillable (s : State) (vi a : Nat) : Bool :=
  s.allotted vi (dieOfSpm a) (dieGranule a) && (s.regionHolder (dieOfSpm a) (dieGranule a)).isNone
    && !s.cache.models.any (fun p => p.2.covers (dieOfSpm a) (dieGranule a))

/-- A pre-empted job resumes on engines, one for each of its ranks that has not halted, in their order; with spilled
granules, their refill comes first. -/
def execJobResume (job : Nat) (tes : List Nat) (s : State) : Host.Outcome State Fault Refusal :=
  let rs := s.ranksToResume job
  if !s.jobLive job || s.jobState job != jsPreempted || s.fget F.schJranks_engines 4 0 job != 0
      || tes.length != rs.length || !s.choiceFits job (rs.zip tes)
      || !(s.job job).spilled.all (fun x => s.refillable (s.jobVi job) x.addr) then .next s
  else
    let map := remap (s.job job).ranks rs tes
    let s := (s.modJob job (fun x => { x with ranks := map })).mapRanks job
    if (s.job job).spilled.isEmpty then .next (s.resumeRanks job) else .next s

/-- The spilled granules of a job that resumes are restored; `same` tells whether the copies passed their end-to-end
check. Then its ranks load their images. -/
def execRefillDone (job : Nat) (same : Bool) (s : State) : Host.Outcome State Fault Refusal :=
  let sp := (s.job job).spilled
  if !s.jobLive job || s.jobState job != jsPreempted || sp.isEmpty || s.fget F.schJranks_engines 4 0 job == 0
      || !(s.job job).ranks.all (fun te => s.firmwareFinishes (te / 16)) then .next s
  else if !same || sp.any (fun x => s.poisoned x.copy 0x100000) then
    let c := E.schRefill.s3If (s.job job).record.checked
    let s := s.raiseRec { recOf c 4 0x0C 0xFFFF with vi := some (s.jobVi job), job := some job,
                                                     detail := s.fget F.schJctx_queue 4 0 job + job * 2 ^ 16 }
    .next (s.stopJob job jsFaulted c.code)
  else
    let s := sp.foldl (fun s x =>
      let d := dieOfSpm x.addr
      let g := granReg (dieGranule x.addr)
      (s.fset F.spmGranuleN_kind d g 0 1).copyMarked x.copy x.addr 0x100000) s
    .next ((s.modJob job (fun x => { x with spilled := [] })).resumeRanks job)

/-! ### Budget end (R239) -/

/-- An RT job that has not halted is aborted at the end of its partition's budget. -/
def State.overrun (s : State) (j : Nat) : State :=
  let p := (s.job j).record.partition
  let tes := s.ranksToResume j
  let s := s.raiseRec { recOf E.schOverrun 4 0x0C 0xFFFF with
                        vi := some (s.jobVi j), job := some j,
                        detail := s.fget F.schJctx_queue 4 0 j + j * 2 ^ 16 + p * 2 ^ 32 }
  let s := s.fadd F.schEvents_overruns 4 0 0 1
  let s := s.fadd F.schRtCounts_overruns 4 p 0 1
  let s := tes.foldl (fun s r => match s.rankEngine j r with
    | none => s
    | some te => (s.abortEngine te).rankStopped j r) s
  let s := s.stopJob j jsOverrun E.schOverrun.code
  let s := tes.foldl (fun s r => match s.rankEngine j r with
    | none => s
    | some te => s.testIfDue te) s
  s.doubtPartition p rsRtOverrun

/-- The window of an RT partition ends. -/
def execRtBudgetEnd (partition : Nat) (s : State) : Host.Outcome State Fault Refusal :=
  if !(s.rtPart partition).windowOpen || !s.afterStart (s.fget F.schRtCfg_window 4 partition 0) then .next s
  else
    let s := s.setRtPart partition { s.rtPart partition with windowOpen := false }
    let js := (storeKeys s.sched.jobs).filter (fun j => s.jobLive j && s.jobClass j == 0
      && (s.job j).record.partition == partition && (s.job j).admitted && s.jobState j != jsSettling)
    .next (js.foldl State.overrun s)

/-! ### Acts across dies and die events (R255, R256) -/

/-- A write of SCH_XDIE: it reaches the engine of the rank, unless an RT partition holds that engine. -/
def State.xdie (s : State) (who : Initiator) (die job rank : Nat) (act : State → Nat → State) : State :=
  let a := fldAddr F.schXdie_kind die 0 0
  if !(s.controlsDie who die || who == .hardware) then s.dropWrite who a
  else
    match s.rankEngine job rank with
    | none => s.answerOk
    | some te =>
      if s.testing te then s.dropReg E.gftEngineBusy who a
      else if bit (s.fget F.schRtLock_engines (te / 16) 0 0) (te % 16) then s.dropReg E.schRtProtected who a
      else (act s te).answerOk

def execXdiePreempt (who : Initiator) (die job rank : Nat) (s : State) : Host.Outcome State Fault Refusal :=
  .next (s.xdie who die job rank State.opTePreempt)

def execXdieResume (who : Initiator) (die job rank : Nat) (s : State) : Host.Outcome State Fault Refusal :=
  .next (s.xdie who die job rank (fun s te =>
    if s.engineUsable te && s.teAtRest te then s.opTeResume te .clean else s))

def execXdieAbort (who : Initiator) (die job rank : Nat) (s : State) : Host.Outcome State Fault Refusal :=
  .next (s.xdie who die job rank State.opTeAbort)

/-- The job's rings on the die of the rank's engine pause. -/
def execXdiePauseRings (who : Initiator) (die job rank : Nat) (s : State) : Host.Outcome State Fault Refusal :=
  .next (s.xdie who die job rank (fun s te => (s.ringsOf job (te / 16)).foldl State.opRingPause s))

/-- A read of SCH_EVENT takes the oldest event of the die's mailbox. -/
def execSchEventRead (who : Initiator) (die : Nat) (s : State) : Host.Outcome State Fault Refusal :=
  if !who.reachesRegisters then .next (s.refuse E.addressRefused who (fldAddr F.schEvent_kind die 0 0))
  else
    match storeGet [] s.sched.dieEvents die with
    | [] => .next (s.answer 0)
    | w :: t =>
      let s := { s with sched := { s.sched with dieEvents := storePut s.sched.dieEvents die t } }
      .next ((s.fset F.schEventPending_count die 0 0 t.length).answer w)

end Sys2Proof.Machine
end

