-- ==== Sys2Proof/Machine/Golden.lean ====
section
/-! DEFINITION. Frames, golden tests, decisions, the chamois fallback and the status frames: the rows of chapter 10. -/

namespace Sys2Proof.Machine

/-! ### The start of a frame (R287, R290, R296, R314) -/

/-- Whether the safety record of an image gives frames. -/
def State.framed (s : State) : Bool := s.boot.loaded && s.fget F.gftCfg_frame_period 4 0 0 != 0

/-- The state that the device safe state gives an output in every frame (R305). -/
def State.safeLive (s : State) (o : Nat) : Nat :=
  if !s.fon F.safStatus_safe_state 4 0 0 then outValid
  else if !s.safety.fallbackOff && s.hasFallback o && s.fallbackState != 1 then outDegraded
  else outInvalid

/-- The live states at the start of a frame. -/
def State.resetLives (s : State) : State :=
  (List.range s.outputs).foldl (fun s o => s.putLive o (s.safeLive o)) s

/-- A new frame at a partition: nothing used, its window open, the counts of the frame before kept for its decision. -/
def State.partitionFrame (s : State) (p : Nat) : State :=
  let x := s.rtPart p
  (s.setRtPart p { x with windowOpen := true, lastAdmitted := x.admitted, lastFinished := x.finished,
                          admitted := 0, finished := 0 }).fset F.schRtUse_used 4 p 0 0

/-- An RT job that waited for its frame is examined at the frame's start (R238). -/
def State.examineWaiting (s : State) (j : Nat) : State :=
  let x := (s.job j).record
  let ranks := s.jobRanksM1 j + 1
  match s.rtAnswer x.partition x.targetFrame x.estSteps ranks with
  | .wait => s
  | .accept =>
    let s := (s.rtAdmit x.partition x.estSteps ranks).markAdmitted j
    { s with sched := { s.sched with nextFrame := s.sched.nextFrame.filter (· != j), ready := s.sched.ready ++ [j] } }
  | .late => (s.rtRefused x.partition .late).refuseWaiting j stRtLate
  | .noBudget => (s.rtRefused x.partition .noBudget).refuseWaiting j stRtNoBudget

/-- Whether the fallback can become AVAILABLE again at a frame's start (R315). -/
def State.fallbackPossible (s : State) : Bool :=
  !s.safety.chuPaceLost && !s.safety.fallbackOff && s.safety.chuUsable != 0

/-- The fallback's books at the start of frame f. -/
def State.fallbackFrame (s : State) (f : Nat) : State :=
  let y := s.safety
  let s := { s with safety := { y with
    lanes := y.lanes.map (fun l => { l with sample := none, written := none, data := [] })
    fbClosed := false, fbEnded := false, fbLate := false, fbFault := false, fbAvailable := false, fbAnyInput := false, fbFrame := f
    fbStart := s.deviceTime, lateFb := y.fbAvailable, chuPassed := 0 } }
  let s := if s.fallbackState = 2 then s else s.testChamois s.safety.chuUsable
  if s.fallbackState = 1 ∧ s.fallbackPossible then s.setFallback 0 else s

/-- The engines that RT partitions hold, rising. -/
def State.partitionEngines (s : State) : List Nat := (List.range 64).filter (fun te => !s.sharedEngine te)

/-- The engines that no partition holds, rising. -/
def State.sharedEngines (s : State) : List Nat := (List.range 64).filter s.sharedEngine

/-- The start of the frame that starts next: a period after the one that runs; without one, the last moment of
frame_phase + f × frame_period that has come (R290). -/
def State.nextStart (s : State) : Nat :=
  let phase := s.fget F.gftCfg_frame_phase 4 0 0
  let period := s.fget F.gftCfg_frame_period 4 0 0
  if s.safety.frameRun then s.safety.frameStart + period else phase + (s.periods - phase) / period * period

/-- The frame that starts next: that of R290 at first, then the next one. -/
def State.nextFrameNumber (s : State) : Nat :=
  if s.safety.frameRun then (s.frame + 1) % 2 ^ 32
  else (s.periods - s.fget F.gftCfg_frame_phase 4 0 0) / s.fget F.gftCfg_frame_period 4 0 0 % 2 ^ 32

/-- The frame before stays open for its decision, with the live states it had. -/
def State.keepLate (s : State) : State :=
  { s with safety := { s.safety with
      late := if s.safety.frameRun && !s.safety.curDecided then
          some (s.frame, (List.range s.outputs).map s.live) else s.safety.late
      lateStart := if s.safety.frameRun && !s.safety.curDecided then s.safety.frameStart else s.safety.lateStart
      curDecided := false, frameRun := true } }

/-- A frame starts, when the time counter has reached its start. -/
def execFrameStart (s : State) : Host.Outcome State Fault Refusal :=
  if !s.framed || s.periods < s.nextStart then .next s
  else
    let f := s.nextFrameNumber
    let t := s.nextStart
    let s := s.newEvent.keepLate
    let s := { s with safety := { s.safety with frameStart := t } }
    let s := s.fset F.schFrame_frame 4 0 0 f
    let s := s.fset F.schFrame_frame_start_us 4 0 0 (t * 5 / 192)
    let s := s.fset F.safFrame_current_frame 4 0 0 f
    let s := s.fset F.gftStatus_frame 4 0 0 f
    let s := (s.fallbackFrame f).countPending
    let s := s.resetLives.gatewayFrame.refreshReason
    let s := (List.range 64).foldl State.partitionFrame s
    let s := (s.sched.nextFrame.foldl State.examineWaiting s).countReady
    let s := s.sharedEngines.foldl (fun s te => s.setGft te { s.gftOf te with due := false }) s
    let s := s.testEngines s.partitionEngines
    .next s.ippFrameStart

/-! ### Golden tests of a frame (R294 to R303, R319) -/

def execGtOpen (s : State) : Host.Outcome State Fault Refusal :=
  if !s.framed || !s.afterStart (s.fget F.gftWindow_gt_open 4 0 0) then .next s else .next (s.testEngines s.sharedEngines)

/-- A job on a shared engine is pre-empted for the engine's test: its whole herd, with its rings (step 5 of R299). -/
def State.forceTest (s : State) (te : Nat) : State :=
  if s.teFree te || s.testing te then s
  else
    let s := match s.teJobOf te with
      | some j => s.requestPreempt j
      | none => s.opTePreempt te
    let s := s.fadd F.gftCounts_forced 4 0 0 1
    let s := s.fwrap F.gftEng_forced 4 0 te 1
    s.raiseSide { recOf E.gftForced 4 0x09 te with detail := te + s.frame * 2 ^ 16 }

/-- The forced point, 6 144 periods before the confirm point (R290, R299). -/
def execGtForcedPoint (s : State) : Host.Outcome State Fault Refusal :=
  if !s.framed || !s.afterStart (s.fget F.gftWindow_confirm_offset 4 0 0 - 6144) then .next s
  else
    let left := s.sharedEngines.filter (fun te =>
      s.engineUsable te && s.untested te && s.gftState te == gfIn && !s.parked te)
    .next (left.foldl State.forceTest (s.testEngines left))

/-- The outcome of the program that a test ran on an engine: passed, or the cause of its failure. -/
def State.testOutcome (s : State) (te : Nat) : Option Nat :=
  let steps := (s.fget F.teSteps_steps (te / 16) (te % 16) 0 + 2 ^ F.teSteps_steps.w - (s.gftOf te).startSteps)
    % 2 ^ F.teSteps_steps.w
  if s.gftState te = gfQuarantine ∨ (s.gftOf te).areaFault ∨ s.teStat te ≠ tsDone
      ∨ s.fget F.gftTest_test_steps 4 0 0 < steps then some causeFault
  else if s.fget F.teSig_signature (te / 16) (te % 16) 0 ≠ s.safety.expected[te]?.getD 0 then some causeSignature
  else none

/-- Whether a test has come to its end: the engine no longer runs, or its steps passed test_steps. -/
def State.testEnded (s : State) (te : Nat) : Bool :=
  let steps := (s.fget F.teSteps_steps (te / 16) (te % 16) 0 + 2 ^ F.teSteps_steps.w - (s.gftOf te).startSteps)
    % 2 ^ F.teSteps_steps.w
  !(s.teStat te == tsRunning || s.teStat te == tsWaiting) || s.fget F.gftTest_test_steps 4 0 0 < steps

/-- A test of an engine held out by MARGIN_LOST: the state of the engine stays MARGIN_HOLD, and the test is no test
of a frame. -/
def State.marginTest (s : State) (te : Nat) : State :=
  let w := s.fget F.gftEng_window 4 0 te
  ((s.startTest te).fset F.gftEng_state 4 0 te gfMargin).fset F.gftEng_window 4 0 te w

/-- An engine returns to service: its window number is the current frame, and its retest counts as the frame's test
(R316 step 7, R320). -/
def State.returnEngine (s : State) (te : Nat) : State :=
  let s := s.fset F.gftEng_state 4 0 te gfIn
  let s := (s.setTeStat te tsIdle).setEng te {}
  let s := s.fset F.gftEng_window 4 0 te s.frame
  let s := s.setGft te { s.gftOf te with retest := false, marginPasses := 0, unitOut := false }
  let s := (s.notePass te).raiseRec (recOf E.engineReturned 4 0x09 te)
  ((s.setUsable te true).countUnits).rtEngineBack te

/-- The end of a test of an engine in MARGIN_HOLD: two passed tests return it, a failure is an event (R319). -/
def State.marginEnd (s : State) (te : Nat) (outcome : Option Nat) (found : Nat) : State :=
  let s := s.endTest te
  match outcome with
  | some c => ((s.noteFailure te c found).setGft te { s.gftOf te with marginPasses := 0 }).quarantine te
  | none =>
    if (s.gftOf te).marginPasses = 0 then
      (s.setGft te { s.gftOf te with marginPasses := 1 }).marginTest te
    else s.returnEngine te

def execGoldenTestEnd (te : Nat) (s : State) : Host.Outcome State Fault Refusal :=
  if !s.testing te || !s.testEnded te then .next s
  else
    let found := s.fget F.teSig_signature (te / 16) (te % 16) 0
    let outcome := s.testOutcome te
    let s := s.newEvent
    if s.gftState te = gfMargin then .next (s.marginEnd te outcome found)
    else
      match outcome with
      | none => .next ((s.endTest te).notePass te)
      | some c => .next ((s.endTest te).goldenFailure te c found)

/-- A test that has not ended by the confirm point: a job that still holds the engine stops (R302). -/
def State.missTest (s : State) (te : Nat) : State :=
  let found := s.fget F.teSig_signature (te / 16) (te % 16) 0
  let s := if s.testing te then s.endTest te
    else if s.teFree te then s else s.newEvent.teStop te E.gftMissed
  s.goldenFailure te causeMissed found

def execConfirmPoint (s : State) : Host.Outcome State Fault Refusal :=
  if !s.framed || !s.afterStart (s.fget F.gftWindow_confirm_offset 4 0 0) then .next s
  else
    let missed := (List.range 64).filter (fun te =>
      s.engineUsable te && s.untested te && (s.gftState te == gfIn || s.gftState te == gfTesting) && !s.parked te)
    .next (missed.foldl State.missTest s)

/-! ### Decisions (R287, R320) -/

/-- Whether every RT job admitted to the partition of an output for a frame has reached DONE. -/
def State.allDone (s : State) (o : Nat) (late : Bool) : Bool :=
  let x := s.rtPart (s.outIndex o)
  s.outKind o != 1 || (if late then x.lastAdmitted == x.lastFinished else x.admitted == x.finished)

/-- A decided state of an output, with the counts of frames that were not VALID. -/
def State.decide (s : State) (o st : Nat) : State :=
  let s := s.fset F.safOut_decided_state 4 0 o st
  let s := if st = outDegraded then s.fadd F.safCounts_degraded_frames 4 0 0 1
    else if st = outInvalid then s.fadd F.safCounts_invalid_frames 4 0 0 1 else s
  if st = outValid then s else s.fwrap F.safOut_bad_frames 4 0 o 1

/-- The decision rules on an output of the current frame: jobs that are not DONE are a doubt, and DEGRADED needs the
fallback output of the frame. -/
def State.decideLive (s : State) (o : Nat) : State :=
  let s := if s.allDone o false then s else s.doubt o rsRtOverrun
  let s := if s.live o = outDegraded ∧ s.safety.fbAvailable = false then
      (s.worsen o outInvalid rsFallbackLost).fset F.safOut_last_reason 4 0 o rsFallbackLost else s
  s.decide o (s.live o)

/-- The decided state of an output of the frame that is late. -/
def State.lateState (s : State) (o st : Nat) : Nat :=
  let st := if st = outValid ∧ s.allDone o true = false then
      (if s.hasFallback o && s.safety.lateFb then outDegraded else outInvalid) else st
  if st = outDegraded ∧ s.safety.lateFb = false then outInvalid else st

def State.decideLate (s : State) (f : Nat) (lives : List Nat) : State :=
  let s := { s with safety := { s.safety with late := none } }
  let s := (List.range s.outputs).foldl (fun s o =>
    let old := lives[o]?.getD outNone
    let st := s.lateState o old
    let s := if st = old then s
      else s.raiseSide { recOf (if st = outDegraded then E.outputDegraded else E.outputInvalid) 4 0x08 o with
                         detail := o + (if old = outValid then rsRtOverrun else rsFallbackLost) * 2 ^ 16 }
    s.decide o st) s
  s.fset F.safFrame_decided_frame 4 0 0 f

def execDecisionPoint (s : State) : Host.Outcome State Fault Refusal :=
  if !s.safety.frameRun then .next s
  else
    let s := s.newEvent
    let off := s.fget F.safCfg_decision_offset 4 0 0
    match s.safety.late with
    | some (f, lives) => if s.periods < s.safety.lateStart + off then .next s else .next (s.decideLate f lives)
    | none =>
      if s.safety.curDecided || !s.afterStart off then .next s
      else
        let s := (List.range s.outputs).foldl State.decideLive s
        let s := { s with safety := { s.safety with curDecided := true } }
        .next (s.fset F.safFrame_decided_frame 4 0 0 s.frame).refreshReason

/-! ### The chamois fallback (R313 to R317) -/

/-- The bytes of the slot data of a fallback lane. -/
def laneBytes (l : FallbackLane) : Nat := slotBytes l.params l.fmt

/-- A lane's slot in the layout of R266: its header. The stream is that of the lane's camera on its O-die. -/
def laneHeader (l : FallbackLane) : List Byte :=
  slotHeader { stream := some (l.lane / 16 * 48 + l.lane % 16)
               stage := .complete (l.written.getD 0) l.capture l.seq l.data.length (crc32c l.data) }

/-- Bytes written into the fallback batch in the chamois SRAM (R313). -/
def State.batchWrite (s : State) (off : Nat) (bs : List Byte) : State :=
  let a := 0x4040000000 + Config.fallbackBatch.1 + off
  if placeOf a = .chamois ∧ placeOf (a + bs.length - 1) = .chamois then s.store a bs else s

/-- The slot of a lane as it stands is written: its header and its data. -/
def State.writeLane (s : State) (i : Nat) (l : FallbackLane) : State :=
  let at' := 0x1000 + ((s.safety.lanes.take i).map (fun x => slotRoom (laneBytes x))).sum
  (s.batchWrite (64 + 32 * i) (laneHeader l)).batchWrite at' l.data

/-- The header of the fallback batch of a frame (R266). The group number of a batch that no group holds is open. -/
def State.writeBatchHeader (s : State) : State :=
  let n := fun (st : Nat) => (s.safety.lanes.filter (fun l => (l.written.getD 2) % 4 == st)).length
  let g := s.fresh 8
  g.2.batchWrite 0 (leBytes s.safety.fbFrame 4 ++ leBytes g.1 1 ++ leBytes s.safety.lanes.length 1 ++ leBytes (n 0) 1
    ++ leBytes (n 1) 1 ++ leBytes (n 2) 1 ++ leBytes 0 3 ++ leBytes s.safety.fbStart 12 ++ leBytes 0 40)

/-- A slot of the fallback batch that no sample filled holds the grey slot (R269, R313). -/
def missLane (l : FallbackLane) : FallbackLane :=
  match l.written with
  | some _ => l
  | none => { l with written := some (2 + 4 + 0xFFFF * 2 ^ 16), capture := 0, data := greySlot l.params [] l.fmt false }

/-- Whether the status word of a lane tells that its slot holds a sample. -/
def laneFilled (l : FallbackLane) : Bool :=
  match l.written with
  | some w => w % 4 != 2
  | none => false

/-- The fallback preparation path finishes the sample of a lane and writes its slot. -/
def execFallbackSlotComplete (slot : Nat) (s : State) : Host.Outcome State Fault Refusal :=
  match s.safety.lanes[slot]? with
  | none => .next s
  | some l =>
    match l.sample, l.written, s.safety.fbClosed with
    | some (capture, data, lost), none, false =>
      let p := l.params
      let total := if parImage p then parBlocks p else parElems p
      let bad := damagedOf lost total
      let src := Config.sourceBlock 0 p data
      let out := if parImage p then imageSlot p [] l.fmt false (concealed p src bad l.refs)
        else plainSlot p l.fmt false (some data) bad
      let grey := parImage p && bad.any (fun k => (storeFind l.refs k).isNone)
      let status := (if bad.isEmpty then 0 else 1) + grey.toNat * 4 + damageField bad.length total * 2 ^ 16
      let refs := if parImage p then refreshed p src bad l.refs else l.refs
      let l := { l with written := some status, capture, data := out, refs, seq := l.seq + 1 }
      .next ({ s with safety := { s.safety with lanes := s.safety.lanes.set slot l } }.writeLane slot l)
    | _, _, _ => .next s

/-- The batch closes: what is not written is MISSING, the chamois tests are compared, and the network runs on the batch
on the lowest engine that passed. A test that has not ended by then is missed. -/
def execFallbackClose (s : State) : Host.Outcome State Fault Refusal :=
  if !s.afterStart s.safety.fbCloseAt || s.safety.fbClosed || s.fallbackState == 2 then .next s
  else
    let s := s.newEvent
    let lanes := s.safety.lanes.map missLane
    let missing := !(s.safety.lanes.all laneFilled)
    let ok := s.chamoisPassed s.safety.chuUsable
    let bad := (onesBelow s.safety.chuUsable 2).filter (fun k => !ok.contains k)
    let s := (List.range lanes.length).foldl (fun s i =>
      match s.safety.lanes[i]?, lanes[i]? with
      | some x, some l => if x.written.isNone then s.writeLane i l else s
      | _, _ => s) s
    let s := { s with safety := { s.safety with
      lanes, fbClosed := true, fbAnyInput := lanes.any laneFilled, chuPassed := maskOf ok
      fbFault := !bad.isEmpty, fbEngine := ok.headD 0, chuTestPassed := s.safety.chuTestPassed || !ok.isEmpty } }
    let s := s.writeBatchHeader
    let s := if missing then s.fadd F.chuCounts_missing_inputs 4 0 0 1 else s
    let s := bad.foldl (fun s k => (s.fadd F.chuCounts_test_failures 4 0 0 1).chamoisOut k) s
    .next (if ok.isEmpty then s else s.startChamois s.safety.fbEngine s.chamoisPrograms.1)

/-- The fallback block that the network left in the chamois SRAM (R312). -/
def State.fallbackBlock (s : State) : List Byte :=
  s.bytesAt (0x4040000000 + Config.fallbackBlock % (2 ^ 24 - 2047)) 2048

/-- The run of the fallback network has ended: its engine halted, or stopped for a check failure or a fault (R314). -/
def execFallbackRunEnd (s : State) : Host.Outcome State Fault Refusal :=
  let k := s.safety.fbEngine
  let st := s.teStat (chamoisTe + k)
  if !s.safety.fbClosed || s.safety.fbEnded || st == tsRunning || st == tsWaiting then .next s
  else
    let s := { s with safety := { s.safety with fbEnded := true } }
    let good := st == tsDone && !s.safety.fbFault && s.safety.chuPassed != 0 && s.safety.fbAnyInput
      && s.fallbackPossible
    if good then
      let s := { s with safety := { s.safety with fbAvailable := true, fbBytes := s.fallbackBlock } }
      let s := s.fset F.chuFrame_last_frame 4 0 0 s.safety.fbFrame
      let steps := s.fget F.teSteps_steps 8 k 0 - (s.gftOf (64 + k)).startSteps
      .next ((s.fset F.chuFrame_run_steps 4 0 0 steps).setFallback 0)
    else .next { s with safety := { s.safety with fbFault := true } }

def execFallbackDeadline (s : State) : Host.Outcome State Fault Refusal :=
  if !s.afterStart (s.fget F.safCfg_fallback_deadline 4 0 0) || s.fallbackState == 2 || s.safety.fbAvailable
      || s.safety.fbLate then .next s
  else
    let s := s.raiseRec { recOf E.fallbackUnavailable 4 0x11 0xFFFF with detail := s.safety.fbFrame }
    let s := { s with safety := { s.safety with fbEnded := true, fbLate := true } }
    .next ((s.fadd F.chuCounts_unavailable 4 0 0 1).setFallback 1)

/-! ### Retests (R316 to R318) -/

/-- The retests of a chamois engine end. -/
def State.chamoisRetest (s : State) (k : Nat) (passed : Bool) : State :=
  let x := s.gftOf (64 + k)
  if !x.retest then s
  else
    let s := (s.setGft (64 + k) { x with retest := false }).newEvent
    if passed then
      (s.setChamois (setBit s.safety.chuUsable k true)).raiseSide (recOf E.engineReturned 4 0x11 (64 + k))
    else
      { s with safety := { s.safety with chuRetired := setBit s.safety.chuRetired k true } }.raiseSide
        (recOf E.engineRetired 4 0x11 (64 + k))

/-- The two golden tests and the extended self-test of a quarantined engine end: whether all passed, and whether the
part of the vector unit did. -/
def execEngineRetestEnd (te : Nat) (passed unitPassed : Bool) (s : State) : Host.Outcome State Fault Refusal :=
  if 64 ≤ te then (if te < 66 then .next (s.chamoisRetest (te - 64) passed) else .next s)
  else if s.gftState te ≠ gfQuarantine ∨ (s.gftOf te).retest = false then .next s
  else
    let s := s.newEvent
    let s := if s.testing te then s.endTest te else s
    if passed then .next (s.returnEngine te)
    else
      let x := s.gftOf te
      let s := s.setGft te { x with retest := false, unitOut := x.unitOut && !unitPassed }
      let s := s.fset F.gftLastFail_engine 4 0 0 te
      let s := s.fset F.gftLastFail_cause 4 0 0 causeExtended
      let s := if x.unitOut && unitPassed then s.countUnits else s
      .next ((s.fset F.gftLastFail_frame 4 0 0 s.frame).retire te)

/-! ### Status frames (R307 to R309) and the safe state (R305) -/

/-- Sixteen bytes with two bits per output; outputs that are not declared read 3. -/
def State.outputBits (s : State) (f : Nat → Nat) : List Byte :=
  leBytes ((List.range 64).foldl (fun n o => setBits n (2 * o) 2 (if o < s.outputs then f o else outNone)) 0) 16

/-- The 2 148 bytes of a status frame on a channel. -/
def State.statusFrame (s : State) (channel : Nat) : List Byte :=
  let d := 6 + channel
  let flags := s.fget F.safStatus_time_valid 4 0 0 + 2 * s.fget F.safStatus_safe_state 4 0 0
    + 4 * (s.fallbackState == 0).toNat + 8 * (bit s.safety.retroNew channel).toNat + 16 * s.paceLost.toNat
  let body := leBytes 0x4353 2 ++ leBytes 1 1 ++ leBytes channel 1 ++ leBytes (s.fget F.sscStatus_seq d 0 0 + 1) 4
    ++ leBytes s.deviceTime 12 ++ leBytes flags 1 ++ leBytes (s.fget F.cfgBootStatus_phase 4 0 0) 1
    ++ leBytes (if s.safety.starting && s.safety.deviceReason == 0 then rsStarting else s.reasonNow) 2
    ++ leBytes (s.fget F.safFrame_current_frame 4 0 0) 4 ++ leBytes s.safety.unitTag 2
    ++ leBytes (s.fget F.cfgCapsCounts_engines 4 0 0) 1 ++ leBytes (s.fget F.chuStatus_engines 4 0 0) 1
    ++ s.outputBits s.live ++ leBytes (s.fget F.safFrame_decided_frame 4 0 0) 4 ++ leBytes s.safety.retroCount 4
    ++ s.outputBits s.decided ++ leBytes (s.fget F.safRetro_retro_first 4 0 0) 4
    ++ leBytes (s.fget F.safRetro_retro_last 4 0 0) 4 ++ leBytes (s.fget F.safRetroMask_mask 4 0 0) 8
    ++ leBytes s.fallbackState 1 ++ leBytes 0 1 ++ leBytes s.safety.fbBytes.length 2
    ++ leBytes (s.fget F.chuFrame_last_frame 4 0 0) 4 ++ byteSlice s.safety.fbBytes 0 2048
  body ++ leBytes (crc32c body) 4

/-- Whether a status frame of a channel is due: since its last one the time counter has passed a multiple of 19 200, on
ssc1 9 600 periods later (R307). A stopped time counter gives no such moment: the frames are relaxation-timed then (R54).
-/
def State.frameDue (s : State) (channel : Nat) : Bool :=
  let d := 6 + channel
  let slot := fun (t : Nat) => (t + 19200 - 9600 * channel) / 19200
  s.fget F.sscStatus_seq d 0 0 == 0 || s.fon F.sscStatus_relaxation_timed d 0 0
    || slot (s.fget F.sscLast_sent d 0 0) < slot s.periods

def execStatusFrame (channel : Nat) (s : State) : Host.Outcome State Fault Refusal :=
  if 2 ≤ channel || !s.fon F.sscStatus_active (6 + channel) 0 0 || !s.frameDue channel then .next s
  else
    let d := 6 + channel
    let s := s.send (.status channel (s.statusFrame channel))
    let s := s.fwrap F.sscStatus_seq d 0 0 1
    let s := s.fset F.sscLast_sent d 0 0 s.periods
    let s := { s with safety := { s.safety with retroNew := setBit s.safety.retroNew channel false } }
    .next (if channel = 0 then s.fset F.safStatus_last_seq 4 0 0 (s.fget F.sscStatus_seq d 0 0) else s)

/-- SAF_CTRL request_safe: written by a sentinel core or one of the steward's initiators. -/
def execRequestSafe (who : Initiator) (s : State) : Host.Outcome State Fault Refusal :=
  let allowed := match who with
    | .sentinel _ => true
    | .hardware => true
    | w => w.isSteward
  if allowed then .next ((s.newEvent.enterSafe rsSoftware true).answerOk)
  else .next (s.dropWrite who (fldPlace F.safCtrl_request_safe 4 0))

end Sys2Proof.Machine
end

