-- ==== Sys2Proof/Machine/Raster.lean ====
section
/-! DEFINITION. The drawing of the general class and of the telltale pipeline: the tile buffer, the scoreboard, early
depth, the tiles of a render pass, and the rendering of a telltale region (R445 to R453, R462). -/

namespace Sys2Proof.Machine

/-! ### Retirement (R452, R453) -/

/-- Whether a depth passes a depth function against the stored one. -/
def DepthFn.passes (f : DepthFn) (z stored : Nat) : Bool :=
  match f with
  | .never => false
  | .less => z < stored
  | .equal => z == stored
  | .lequal => z ≤ stored
  | .greater => stored < z
  | .notequal => z != stored
  | .gequal => stored ≤ z
  | .always => true

/-- A pixel of the tile buffer: colour in the render target's own format, depth and stencil (R451). -/
structure TilePixel where
  colour : Nat
  depth : Nat
  stencil : Nat
deriving DecidableEq, Repr

/-- Bytes of a pixel of a render target. -/
def RenderPass.pixelBytes (p : RenderPass) : Nat := fmtBytes p.fmt

/-- The colour that the write of a fragment leaves: what blending gives in the target's format, or the fragment's. -/
def RenderPass.blended (p : RenderPass) (src dst : Nat) : Nat :=
  (match p.blend with
   | none => src
   | some mode => Config.blendPixel mode p.fmt src dst) % 2 ^ (8 * p.pixelBytes)

/-- The retirement of a fragment at its pixel: depth test, stencil test, blending and the write, in that order; one that
its shader discards does nothing. -/
def RenderPass.retire (p : RenderPass) (x : TilePixel) (f : Fragment) : TilePixel :=
  let z := f.depth % 2 ^ 24
  if (p.shaderDiscards && f.discarded) || !p.depthFn.passes z x.depth then x
  else
    let st := Config.stencilTest p.stencil x.stencil
    let x := { x with stencil := st.2 % 256 }
    if !st.1 then x
    else { x with colour := p.blended f.colour x.colour, depth := if p.depthWrite then z else x.depth }

/-- Whether the test before shading is used (R453). -/
def RenderPass.earlyDepth (p : RenderPass) : Bool :=
  p.blend.isNone && p.depthFixed && !p.shaderDepth && !p.shaderDiscards
    && (p.depthFn == .less || p.depthFn == .lequal || p.depthFn == .greater || p.depthFn == .gequal)

/-! ### The scoreboard (R452) -/

/-- A fragment that waits at the scoreboard: its number in submission order, whether it is shaded, and whether early depth
dropped it. -/
structure Waiting where
  number : Nat
  frag : Fragment
  ready : Bool := false
  dropped : Bool := false
deriving DecidableEq, Repr

/-- The scoreboard of a pixel: what retirement has written, and the fragments not yet retired in submission order. -/
structure Scoreboard where
  pixel : TilePixel
  waiting : List Waiting
deriving DecidableEq, Repr

/-- Retires the earliest fragments of a pixel while they are shaded or dropped. -/
def RenderPass.drain (p : RenderPass) (x : TilePixel) : List Waiting → Scoreboard
  | [] => ⟨x, []⟩
  | w :: t =>
    if w.dropped then p.drain x t
    else if w.ready then p.drain (p.retire x w.frag) t
    else ⟨x, w :: t⟩

/-- A fragment of the pixel goes to a shader core, or comes back shaded. Before it is shaded, early depth drops it where
it fails against what is written now. -/
def RenderPass.score (p : RenderPass) (b : Scoreboard) (e : ShadeEvent) : Scoreboard :=
  match e with
  | .starts n => { b with waiting := b.waiting.map (fun w =>
      if w.number = n ∧ w.ready = false ∧ p.earlyDepth = true ∧ p.depthFn.passes (w.frag.depth % 2 ^ 24) b.pixel.depth = false
      then { w with dropped := true } else w) }
  | .ends n => p.drain b.pixel (b.waiting.map (fun w => if w.number = n then { w with ready := true } else w))

/-- A pixel once every fragment has retired: those that no event names come last. -/
def RenderPass.settlePixel (p : RenderPass) (x : TilePixel) (frags : List (Nat × Fragment)) (events : List ShadeEvent) :
    TilePixel :=
  let b := events.foldl p.score ⟨x, frags.map (fun f => { number := f.1, frag := f.2 })⟩
  (p.drain b.pixel (b.waiting.map (fun w => { w with ready := true }))).pixel

/-! ### Contexts, lists and pool (R448, R449) -/

def State.gfxCtx (s : State) (c : Nat) : GfxContext := storeGet {} s.display.contexts c

def State.setGfxCtx (s : State) (c : Nat) (x : GfxContext) : State :=
  { s with display := { s.display with contexts := storePut s.display.contexts c x } }

/-- The 64 KiB chunks of the overflow pool that a context may hold: its pool_max, and what the others leave; none for the
compositor. -/
def State.poolAllowance (s : State) (c : Nat) : Nat :=
  let others := ((List.range 16).filter (· != c)).map (fun k => (s.gfxCtx k).chunks)
  if c = 0 then 0
  else min (16 * s.fget F.gfxCtx_pool_max 5 0 c) (16 * s.fget F.gfxPool_mib 5 0 0 - others.sum)

/-- The fragments of a pass in submission order with their numbers. -/
def GfxContext.fragments (x : GfxContext) : List (Nat × Fragment) := x.bins.flatten.zipIdx.map (fun p => (p.2, p.1))

/-- Tiles in a row of a pass's target, and in all of it. -/
def RenderPass.tilesWide (p : RenderPass) : Nat := (p.width + 31) / 32
def RenderPass.tiles (p : RenderPass) : Nat := p.tilesWide * ((p.height + 31) / 32)

/-- The tile of a pixel. -/
def RenderPass.tileOf (p : RenderPass) (x y : Nat) : Nat := x / 32 + y / 32 * p.tilesWide

/-- The pixels of a tile's row k: the first, and their number. -/
def RenderPass.rowOf (p : RenderPass) (tile : Nat) : Nat × Nat :=
  let x := tile % p.tilesWide * 32
  (x, min 32 (p.width - x))

/-- A context begins a pass with the primitives that it bins; their lists take chunks of the pool within its allowance. -/
def State.beginPass (s : State) (c : Nat) (d : Draw) : State :=
  s.setGfxCtx c { s.gfxCtx c with pass := some d.pass, bins := d.prims, stored := []
                                  chunks := min d.chunks (s.poolAllowance c) }

/-! ### Tiles (R447, R450, R451) -/

/-- The depth word of a pixel in memory. PRESUMED: depth in bits 23 to 0, stencil in bits 31 to 24. -/
def TilePixel.word (x : TilePixel) : Nat := x.depth % 2 ^ 24 + x.stencil % 256 * 2 ^ 24

/-- Bytes that a context's load gives; a load that is refused or meets poison leaves them open. -/
def State.tileLoad (s : State) (c a n : Nat) : State × List Byte :=
  let r := s.fetchAs (.graphics c) a n
  match r.2 with
  | some bs => (r.1, bs)
  | none => r.1.freeBytes n

/-- The pixels of a row of a tile before its fragments: the pass's clear values, or the stored colour and depth where the
pass loads them or has stored the tile before. -/
def State.loadRow (s : State) (c : Nat) (p : RenderPass) (stored : Bool) (x y n : Nat) : State × List TilePixel :=
  match p.clear, stored with
  | some v, false => (s, List.replicate n ⟨v.1 % 2 ^ (8 * p.pixelBytes), v.2 % 2 ^ 24, v.2 / 2 ^ 24 % 256⟩)
  | _, _ =>
    let k := p.pixelBytes
    let a := s.tileLoad c (p.colourAt + y * p.colourStride + x * k) (n * k)
    let b := a.1.tileLoad c (p.depthAt + y * p.depthStride + x * 4) (n * 4)
    (b.1, (List.range n).map (fun i => ⟨leAt a.2 (i * k) k, leAt b.2 (i * 4) 3, leAt b.2 (i * 4 + 3) 1⟩))

/-- Shades one row of a tile and stores its colour and depth. -/
def State.shadeRow (s : State) (c : Nat) (p : RenderPass) (stored : Bool) (frags : List (Nat × Fragment))
    (events : List ShadeEvent) (x n y : Nat) : State :=
  let r := s.loadRow c p stored x y n
  let row := r.2.zipIdx.map (fun q =>
    p.settlePixel q.1 (frags.filter (fun f => f.2.x == x + q.2 && f.2.y == y)) events)
  let s := (r.1.storeAs (.graphics c) (p.colourAt + y * p.colourStride + x * p.pixelBytes)
    (row.map (fun q => leBytes q.colour p.pixelBytes)).flatten).1
  (s.storeAs (.graphics c) (p.depthAt + y * p.depthStride + x * 4) (row.map (fun q => leBytes q.word 4)).flatten).1

/-- A core finishes a tile of a context: every fragment in it is shaded and retired, and the tile is stored. -/
def State.shadeTile (s : State) (c : Nat) (events : List ShadeEvent) (tile : Nat) : State :=
  let x := s.gfxCtx c
  match x.pass with
  | none => s
  | some p =>
    if p.tiles ≤ tile then s
    else
      let frags := x.fragments.filter (fun f => p.tileOf f.2.x f.2.y == tile)
      let y := tile / p.tilesWide * 32
      let s := ((List.range (min 32 (p.height - y))).map (· + y)).foldl
        (fun s k => s.shadeRow c p (x.stored.contains tile) frags events (p.rowOf tile).1 (p.rowOf tile).2 k) s
      s.setGfxCtx c { x with
        bins := x.bins.map (fun b => b.filter (fun f => p.tileOf f.x f.y != tile))
        stored := if x.stored.contains tile then x.stored else x.stored ++ [tile] }

/-- The tiles of a context's pass that have something to store: all of them the first time, then those with fragments. -/
def GfxContext.due (x : GfxContext) : List Nat :=
  match x.pass with
  | none => []
  | some p => (List.range p.tiles).filter (fun t =>
      !x.stored.contains t || x.bins.flatten.any (fun f => p.tileOf f.x f.y == t))

/-- Everything binned so far is rasterised, shaded and stored, and the lists and pool chunks are free. -/
def State.storePass (s : State) (c : Nat) (events : List ShadeEvent) : State :=
  let s := (s.gfxCtx c).due.foldl (State.shadeTile · c events) s
  s.setGfxCtx c { s.gfxCtx c with bins := [], chunks := 0 }

/-- A pass ends: its last tiles are stored. -/
def State.finishPass (s : State) (c : Nat) (events : List ShadeEvent) : State :=
  let s := s.storePass c events
  s.setGfxCtx c { s.gfxCtx c with pass := none, stored := [] }

/-! ### Telltale regions (R462) -/

/-- A pixel of the telltale plane, ARGB8888. -/
def State.planeAt (s : State) (x y : Nat) : Nat := storeGet 0 s.display.plane (x + y * s.display.ttW)

/-- One triangle at a pixel: colour and depth before and after it. -/
def ttDraw (x y : Nat) (v : Nat × Nat) (tri : List Byte) : Nat × Nat :=
  let vertices := (List.range 6).map (fun i => leAt tri (2 * i) 2)
  let colour := leAt tri 12 4
  let z := leAt tri 16 2
  let test := bit (leAt tri 18 1) 0
  if !Config.covers vertices x y || (test && v.2 ≤ z) then v
  else (if bit (leAt tri 18 1) 1 then Config.sourceOver colour v.1 % 2 ^ 32 else colour, if test then z else v.2)

/-- A pixel of a rendered region: cleared, then the triangles of its list in order. -/
def ttPixel (draw : List Byte) (x y : Nat) : Nat :=
  (((List.range (leAt draw 0 4)).map (fun i => byteSlice draw (4 + 20 * i) 20)).foldl (ttDraw x y) (0, 0xFFFF)).1

/-- The pixels of a region in raster order, in plane coordinates. -/
def TtRegion.pixels (r : TtRegion) : List (Nat × Nat) :=
  ((List.range r.h).map (fun j => (List.range r.w).map (fun i => (r.x + i, r.y + j)))).flatten

/-- What an xor mask by number does to a value: the faults of a rendering or of a scan. -/
def struck (faults : List (Nat × Nat)) (i v : Nat) : Nat :=
  (faults.filter (fun f => f.1 == i)).foldl (fun v f => Nat.xor v (f.2 % 2 ^ 32)) v

/-- A region is rendered in a state; a fault of the pipeline leaves wrong pixels. -/
def State.renderRegion (s : State) (r : TtRegion) (faults : List (Nat × Nat)) : State :=
  let draw := r.draws[r.target]?.getD []
  let plane := r.pixels.zipIdx.foldl (fun m q =>
    let v := struck faults q.2 (ttPixel draw q.1.1 q.1.2)
    let i := q.1.1 + q.1.2 * s.display.ttW
    if v = 0 then storeDrop m i else storePut m i v) s.display.plane
  { s with display := { s.display with plane } }

/-- The CRC-32C over a region of the plane in raster order, with faults on the way (R464). The scan of a pixel whose alpha
is 255 bypasses the output transform, so that a fault-free scan gives the plane's bytes. -/
def State.regionCrc (s : State) (r : TtRegion) (faults : List (Nat × Nat)) : Nat :=
  crc32c (r.pixels.zipIdx.map (fun q => leBytes (struck faults q.2 (s.planeAt q.1.1 q.1.2)) 4)).flatten

end Sys2Proof.Machine
end

