-- ==== Sys2Proof/Machine/Graphics.lean ====
section
/-! DEFINITION. Graphics contexts, display pipes, telltales and the media codec: the rows of chapter 16. -/

namespace Sys2Proof.Machine

/-! ### Contexts (R446, R447, R450, R454) -/

/-- The states of GFX_CTX. -/
def gcIdle : Nat := 0
def gcRunning : Nat := 1
def gcPreempted : Nat := 2
def gcFaulted : Nat := 3

def State.gfxState (s : State) (c : Nat) : Nat := s.fget F.gfxCtx_state 5 0 c
def State.setGfxState (s : State) (c st : Nat) : State := s.fset F.gfxCtx_state 5 0 c st

/-- Whether an initiator may write the GFX_, DSP_ and MED_ blocks. -/
def gfxRight (who : Initiator) : Bool := who.isSteward || who == .hardware

/-- A bit of GFX_CTX_CTRL. -/
def State.gfxCtrl (s : State) (who : Initiator) (op : State → State) : State :=
  if gfxRight who then (op s).answerOk else s.dropWrite who (fldPlace F.gfxCtxCtrl_preempt 5 0)

/-- The rank of a context's priority, 0 for the compositor, which comes before every other (R446). -/
def State.gfxRank (s : State) (c : Nat) : Nat := if c = 0 then 0 else 1 + s.fget F.gfxCtx_priority 5 0 c

/-- Whether hardware pre-empts a context: one of a higher priority runs, or the compositor. -/
def State.gfxYields (s : State) (c : Nat) : Bool :=
  (List.range 16).any (fun k => s.gfxState k == gcRunning && s.gfxRank k < s.gfxRank c)

/-- A context gives up its cores at tile boundaries: the tiles that they shade are finished and stored. -/
def State.opGfxPreempt (s : State) (c : Nat) (tiles : List Nat) (events : List ShadeEvent) : State :=
  if s.gfxState c = gcRunning then
    (tiles.foldl (State.shadeTile · c events) (s.setGfxState c gcPreempted)).fadd F.gfxCounts_preemptions 5 0 0 1
  else s

/-- A context is aborted: its lists and pool chunks are free. -/
def State.opGfxAbort (s : State) (c : Nat) : State := (s.setGfxState c gcIdle).setGfxCtx c {}

/-- A context runs, or runs again; one whose pass is stored to its end begins the next one. -/
def State.opGfxResume (s : State) (c : Nat) (draw : Option Draw) : State :=
  if s.gfxState c = gcPreempted ∨ s.gfxState c = gcIdle then
    let s := (s.setGfxState c gcRunning).setGfxCtx c { s.gfxCtx c with since := s.periods }
    match draw with
    | none => s
    | some d => if (s.gfxCtx c).due.isEmpty then s.beginPass c d else s
  else s

/-- GFX_CTX_CTRL preempt, or the hardware's pre-emption by a context of higher priority (R446, R447). -/
def execGfxPreempt (who : Initiator) (ctx : Nat) (tiles : List Nat) (events : List ShadeEvent) (s : State) :
    Host.Outcome State Fault Refusal :=
  if who == .hardware && !s.gfxYields ctx then .next s
  else .next (s.gfxCtrl who (fun s => s.opGfxPreempt ctx tiles events))

def execGfxAbort (who : Initiator) (ctx : Nat) (s : State) : Host.Outcome State Fault Refusal :=
  .next (s.gfxCtrl who (fun s => s.opGfxAbort ctx))

def execGfxResume (who : Initiator) (ctx : Nat) (draw : Option Draw) (s : State) : Host.Outcome State Fault Refusal :=
  .next (s.gfxCtrl who (fun s => s.opGfxResume ctx draw))

/-- The record of a graphics context. -/
def State.gfxRec (s : State) (c : ErrCode) (ctx : Nat) : ErrRec :=
  { recOf c 5 0x13 ctx with vi := some (s.fget F.gfxCtx_vi 5 0 ctx), detail := ctx }

/-- A tile has shaded for 500 µs, and the context has run that long: the tile is aborted and nothing of it is stored. -/
def execGfxTileTimeout (ctx : Nat) (s : State) : Host.Outcome State Fault Refusal :=
  if 16 ≤ ctx || s.gfxState ctx != gcRunning || s.periods < (s.gfxCtx ctx).since + 19200 || s.logicFrozen 5 then .next s
  else
    let s := s.fadd F.gfxCounts_tile_timeouts 5 0 0 1
    .next ((s.setGfxState ctx gcFaulted).raiseRec (s.gfxRec E.gfxTileTimeout ctx))

/-- A context's lists and its pool allowance are full in the middle of a pass: what is binned so far is shaded and stored,
and the remaining primitives are binned (R450). -/
def execGfxFlush (ctx : Nat) (events : List ShadeEvent) (rest : List (List Fragment)) (s : State) :
    Host.Outcome State Fault Refusal :=
  if 16 ≤ ctx || s.gfxState ctx != gcRunning || (s.gfxCtx ctx).pass.isNone || s.logicFrozen 5
      || (s.gfxCtx ctx).chunks < s.poolAllowance ctx then .next s
  else
    let s := (s.fadd F.gfxCounts_flushes 5 0 0 1).raiseRec (s.gfxRec E.gfxFlush ctx)
    let s := s.storePass ctx events
    .next (s.setGfxCtx ctx { s.gfxCtx ctx with bins := rest })

/-- The contexts of an instance are aborted by its reset (R466). -/
def State.gfxResetVi (s : State) (vi : Nat) : State :=
  (List.range 16).foldl (fun s c =>
    if s.fget F.gfxCtx_vi 5 0 c = vi ∧ s.gfxState c ≠ gcIdle then s.opGfxAbort c else s) s

/-! ### Pipes (R455 to R461) -/

def State.pipe (s : State) (p : Nat) : DspPipe := storeGet {} s.display.pipes p

def State.setPipe (s : State) (p : Nat) (x : DspPipe) : State :=
  { s with display := { s.display with pipes := storePut s.display.pipes p x } }

def State.dsp (s : State) (f : Fld) (p : Nat) : Nat := s.fget f 5 p 0

/-- A pipe that is enabled, on an island that is not frozen (R41). -/
def State.pipeOn (s : State) (p : Nat) : Bool := p < 6 && s.dsp F.dspCfg_enable p == 1 && !s.logicFrozen 5

/-- Bits of a pixel in an output format (R455). -/
def outBits (fmt : Nat) : Nat := [24, 30, 36][fmt]?.getD 36

/-- Active pixels per second of a pipe with the images of DSP_TIMING and DSP_TIMING2 (R455). -/
def pixelRate (t t2 : Nat) : Nat :=
  F.dspTiming_active_w.of t * F.dspTiming_active_h.of t * 38400000 / F.dspTiming2_refresh_period.of t2

/-- Whether the images of DSP_CFG, DSP_TIMING, DSP_TIMING2 and DSP_TIMING3 keep the bounds of R455 and R456: active
width × output bits in the time of a line against 30.0 Gb/s for each lane, the active size and pixel rate, and the lines
against the refresh period. -/
def timingFits (cfg t t2 t3 : Nat) : Bool :=
  let w := F.dspTiming_active_w.of t
  let h := F.dspTiming_active_h.of t
  let q8 := F.dspTiming3_line_period_q8.of t3
  let refresh := F.dspTiming2_refresh_period.of t2
  w * outBits (F.dspCfg_out_fmt.of cfg) * 38400000 * 256
      ≤ (1 + F.dspCfg_two_lanes.of cfg) * 30000000000 * q8
    && w * h * 38400000 ≤ 1000000000 * refresh && w ≤ 3840 && h ≤ 2160
    && F.dspTiming_total_lines.of t * q8 ≤ refresh * 256

/-- Whether a pipe's configuration keeps the bounds of R455, R456 and R459, and the pixel rates of all six pipes their
sum. -/
def State.timingOk (s : State) (p : Nat) : Bool :=
  timingFits (s.reg (fldAddr F.dspCfg_enable 5 p 0)) (s.reg (fldAddr F.dspTiming_active_w 5 p 0))
      (s.reg (fldAddr F.dspTiming2_refresh_period 5 p 0)) (s.reg (fldAddr F.dspTiming3_comp_lead 5 p 0))
    && 768 ≤ s.dsp F.dspTiming2_latch_lead p
    && ((List.range 6).filter (fun q => q == p || s.pipeOn q)).foldl (fun m q =>
        m + pixelRate (s.reg (fldAddr F.dspTiming_active_w 5 q 0)) (s.reg (fldAddr F.dspTiming2_refresh_period 5 q 0))) 0
      ≤ 4240000000

/-- Whether a transmit lane of an O-die sends while it is enabled: lane 1 of a pipe configured for one lane stays dark
(R21). -/
def State.laneSends (s : State) (die lane : Nat) : Bool :=
  lane % 2 == 0 || s.dsp F.dspCfg_two_lanes ((die - 6) * 3 + (lane - 16) / 2) == 1

/-- An enabled transmit lane is SENDING where its pipe's configuration uses it, and any other is DARK. One that starts
sends IDLE and ALIGN first (R523). -/
def State.setSending (s : State) (die lane : Nat) : State :=
  let on := s.fon F.ulkLane_enable die 0 lane && s.laneSends die lane
  let k := die * 32 + lane
  let sending := if !on then storeDrop s.net.sending k
    else if s.fget F.ulkLane_state die 0 lane = 4 then s.net.sending
    else storePut s.net.sending k s.periods
  { s with net := { s.net with sending } }.fset F.ulkLane_state die 0 lane (if on then 4 else 0)

/-- The transmit lanes of a pipe follow its configuration. -/
def State.sendLanes (s : State) (p : Nat) : State :=
  [0, 1].foldl (fun s l => s.setSending (6 + p / 3) (16 + 2 * (p % 3) + l)) s

/-- DSP_CFG was written. Where its enable bit is set, a timing that does not fit leaves the pipe disabled with
BAD_TIMING. -/
def State.checkTiming (s : State) (p : Nat) : State :=
  let t := if s.dsp F.dspCfg_enable p = 0 then s
    else if s.timingOk p then s.fset F.dspCfg_status 5 p 0 0
    else (s.fset F.dspCfg_enable 5 p 0 0).fset F.dspCfg_status 5 p 0 1
  t.sendLanes p

/-- The last frame of a pipe whose start lies at most `lead` periods ahead, where there is one (R456). -/
def State.frameAhead (s : State) (p lead : Nat) : Option Nat :=
  let phase := s.dsp F.dspTiming2_phase p
  if s.periods + lead < phase then none else some ((s.periods + lead - phase) / s.dsp F.dspTiming2_refresh_period p)

/-- comp_lead before the start of a pipe's frame, the compositor starts its composition: what it drew before is stored to
its end, and the new pass is binned (R454). -/
def execCompositionStart (pipe : Nat) (draw : Option Draw) (events : List ShadeEvent) (s : State) :
    Host.Outcome State Fault Refusal :=
  match s.frameAhead pipe (s.dsp F.dspTiming3_comp_lead pipe) with
  | none => .next s
  | some n =>
    if !s.pipeOn pipe || n < (s.pipe pipe).composed then .next s
    else
      let s := (s.setPipe pipe { s.pipe pipe with composed := n + 1 }).setGfxState 0 gcRunning
      let s := s.finishPass 0 events
      let s := s.setGfxCtx 0 { s.gfxCtx 0 with since := s.periods }
      match draw with
      | none => .next s
      | some d => .next (s.beginPass 0 d)


/-- The bytes of a row of a layer, and the distance of its rows. -/
def rowBytes (cfg : Nat) : Nat := F.dspLayer_w.of cfg * fmtBytes (F.dspLayer_fmt.of cfg)
def rowStride (base : Nat) : Nat := F.dspLayerBase_stride.of base * 64

/-- The source range of a layer: its rows, and half as many again of chroma in NV12 and P010. -/
def layerSpan (cfg base : Nat) : Nat :=
  let h := F.dspLayer_h.of cfg
  let f := F.dspLayer_fmt.of cfg
  (if f = 2 ∨ f = 3 then h + (h + 1) / 2 else h) * rowStride base

/-- The confirmable granules of a range: gate and entry of each. -/
def State.granulesOf (s : State) (a n : Nat) : List (Nat × Nat) :=
  (granPieces a n).filterMap (fun p => (s.publicAt p.1).map (fun b =>
    (b.1, s.bufFirst b.1 b.2 + (p.1 - s.bufBase b.1 b.2) / granBytes)))

/-- The versions of the confirmable granules of a range. -/
def State.versionsOf (s : State) (a n : Nat) : List Nat :=
  (s.granulesOf a n).map (fun g => s.tvt F.cgTvtEntry_version g.1 g.2)

/-- Whether a pending flip qualifies at a latch (R460). -/
def State.flipQualifies (s : State) (cfg stride : Nat) (f : Nat × Bool × List Nat) : Bool :=
  let gs := s.granulesOf f.1 (layerSpan cfg stride)
  !f.2.1 || (gs.all (fun g => s.granState g.1 g.2 == gIdle)
    && (List.range gs.length).all (fun i =>
      match gs[i]? with
      | none => true
      | some g => f.2.2[i]? != some (s.tvt F.cgTvtEntry_version g.1 g.2)))

/-- Applies the flips of a pipe that qualify; the layers that flipped. -/
def State.applyFlips (s : State) (p : Nat) : State × List Nat :=
  (s.pipe p).flips.foldl (fun (r : State × List Nat) f =>
    let cfg := r.1.reg (fldAddr F.dspLayer_enable 5 p f.1)
    let base := r.1.reg (fldAddr F.dspLayerBase_base 5 p f.1)
    if r.1.flipQualifies cfg base f.2 then
      let s := r.1.fset F.dspLayerBase_base 5 p f.1 f.2.1
      let x := s.pipe p
      let s := s.setPipe p { x with flips := storeDrop x.flips f.1 }
      (s.fset F.dspFlip_pending 5 p f.1 0, r.2 ++ [f.1])
    else r) (s, [])

/-- Whether the outputs of every telltale group that has a region are VALID. -/
def State.telltaleValid (s : State) : Bool :=
  (List.range s.outputs).all (fun o => s.outKind o != 2
    || !s.display.regions.any (fun r => r.group == s.outIndex o) || s.live o == outValid)

/-- The valid bits that a pipe's layers have now (R458). -/
def State.layerValid (s : State) (p : Nat) (layers : List (Nat × Nat)) : Nat :=
  if s.fon F.safStatus_safe_state 4 0 0 then 0
  else
    let ls := (List.range 7).filter (fun l => match layers[l]? with
      | none => false
      | some c => F.dspLayer_enable.of c.1 == 1
          && (F.dspLayer_bound.of c.1 == 0 || s.live (F.dspLayer_safety_output.of c.1) == outValid))
    maskOf (ls ++ if s.dsp F.dspCfg_tt_here p = 1 ∧ s.telltaleValid then [7] else [])

/-- The layers present in a frame. -/
def State.layersPresent (s : State) (p : Nat) (layers : List (Nat × Nat)) : Nat :=
  maskOf ((List.range 7).filter (fun l => match layers[l]? with
    | none => false
    | some c => F.dspLayer_enable.of c.1 == 1) ++ if s.dsp F.dspCfg_tt_here p = 1 then [7] else [])

/-- The registers that show the frame of a pipe. -/
def State.showFrame (s : State) (p : Nat) : State :=
  let f := (s.pipe p).scan
  ((s.fset F.dspStatus_frame 5 p 0 f.number).fset F.dspStatus_flags 5 p 0 f.flags).fset F.dspStatus_layer_valid 5 p 0
    f.valid

/-- A record of a pipe. -/
def State.dspRec (c : ErrCode) (p layer : Nat) : ErrRec := { recOf c 5 0x14 p with detail := p + layer * 2 ^ 8 }

/-- The latch of frame `number`: flips that qualify apply, the layer settings are taken, the versions are read, and a
layer with per_frame that did not flip makes the frame stale. -/
def State.latchFrame (s : State) (pipe number : Nat) : State :=
    let r := s.applyFlips pipe
    let s := r.1
    let layers := (List.range 7).map (fun l =>
      (s.reg (fldAddr F.dspLayer_enable 5 pipe l), s.reg (fldAddr F.dspLayerBase_base 5 pipe l)))
    let old := (List.range 7).filter (fun l => match layers[l]? with
      | none => false
      | some c => F.dspLayer_enable.of c.1 == 1 && F.dspLayer_per_frame.of c.1 == 1 && !r.2.contains l)
    let s := match old with
      | [] => s
      | l :: _ => (s.fadd F.dspCounts_stale 5 pipe 0 1).raiseRec (State.dspRec E.dspStale pipe l)
    let versions := (List.range 7).foldl (fun m l => match layers[l]? with
      | none => m
      | some c => if F.dspLayer_enable.of c.1 = 1 then
          storePut m l (s.versionsOf (F.dspLayerBase_base.of c.2) (layerSpan c.1 c.2)) else m) []
    let x := s.pipe pipe
    let flags := (if old.isEmpty then 0 else 1) + 8 * s.fget F.safStatus_safe_state 4 0 0
    s.setPipe pipe { x with
      next := number + 1
      latched := some {
        number, flags, valid := s.layerValid pipe layers, layers, versions
        latchTime := s.deviceTime, safetyFrame := s.fget F.schFrame_frame 4 0 0 } }

/-- The latch of a frame, latch_lead before its start, once (R456, R457). -/
def execDisplayLatch (pipe : Nat) (s : State) : Host.Outcome State Fault Refusal :=
  match s.frameAhead pipe (s.dsp F.dspTiming2_latch_lead pipe) with
  | none => .next s
  | some n => if !s.pipeOn pipe || n < (s.pipe pipe).next then .next s else .next (s.latchFrame pipe n)

/-- The 32 bytes of the metadata of the frame that starts (R458). -/
def State.metadata (s : State) (p : Nat) : List Byte :=
  let f := (s.pipe p).scan
  leBytes f.number 4 ++ leBytes f.flags 1 ++ leBytes f.valid 1 ++ leBytes (s.layersPresent p f.layers) 1 ++ leBytes 0 1
    ++ leBytes f.latchTime 12 ++ leBytes f.safetyFrame 4 ++ leBytes (s.fget F.gfxTtBad_bad 5 0 0) 8

/-- A packet of the Ulham link (R522): header, payload and the CRC-32C over both. -/
def ulhamPacket (type flags picture line : Nat) (payload : List Byte) : List Byte :=
  let m := leBytes type 1 ++ leBytes flags 1 ++ leBytes picture 2 ++ leBytes line 2 ++ leBytes payload.length 2 ++ payload
  m ++ leBytes (crc32c m) 4

/-- Whether a pipe's first transmit lane sends packets: it is SENDING and past the 100 µs of IDLE and ALIGN (R523). -/
def State.pipeSends (s : State) (p : Nat) : Bool :=
  let die := 6 + p / 3
  let lane := 16 + 2 * (p % 3)
  s.fget F.ulkLane_state die 0 lane == 4 && (storeFind s.net.sending (die * 32 + lane)).all (fun t => t + 3840 ≤ s.periods)

/-- A pipe sends a packet on its transmit lanes; one whose lane is not enabled sends nothing (R523, R529). -/
def State.sendUlham (s : State) (p type flags line : Nat) (payload : List Byte) : State :=
  if s.pipeSends p then
    s.send (.ulham p (ulhamPacket type flags (s.pipe p).scan.number line payload))
  else s

/-- The SOP of a frame: size, output format and the metadata block. -/
def State.sendSop (s : State) (p : Nat) : State :=
  s.sendUlham p 1 0 0 (leBytes (s.dsp F.dspTiming_active_w p) 2 ++ leBytes (s.dsp F.dspTiming_active_h p) 2
    ++ leBytes (s.dsp F.dspCfg_out_fmt p) 1 ++ leBytes 0 3 ++ s.metadata p)

/-- Bytes of a line as a pipe sends it. -/
def State.lineBytes (s : State) (p : Nat) : Nat :=
  (s.dsp F.dspTiming_active_w p * outBits (s.dsp F.dspCfg_out_fmt p) + 7) / 8

/-- The LINE packets of a line, in segments of at most 4 096 bytes. -/
def State.sendLine (s : State) (p line : Nat) (pixels : List Byte) : State :=
  let n := (pixels.length + 4095) / 4096
  (List.range n).foldl (fun s i =>
    s.sendUlham p 2 (i + if i + 1 = n then 16 else 0) line ((pixels.drop (i * 4096)).take 4096)) s

/-- The source rows of a line: those of the enabled layers that it crosses, in NV12 and P010 with their row of chroma; the
layer, the address and the length of each. -/
def State.lineRows (s : State) (p line : Nat) : List (Nat × Nat × Nat) :=
  let f := (s.pipe p).scan
  ((List.range 7).map (fun l => match f.layers[l]? with
    | none => []
    | some c =>
      let y := F.dspLayer_y.of c.1
      let h := F.dspLayer_h.of c.1
      if F.dspLayer_enable.of c.1 = 1 ∧ y ≤ line ∧ line < y + h then
        let rows := if F.dspLayer_fmt.of c.1 = 2 ∨ F.dspLayer_fmt.of c.1 = 3 then [line - y, h + (line - y) / 2]
          else [line - y]
        rows.map (fun r => (l, F.dspLayerBase_base.of c.2 + r * rowStride c.2, rowBytes c.1))
      else [])).flatten

/-- Whether a row of a layer differs in version from the latch's snapshot (R459). -/
def State.rowTorn (s : State) (p : Nat) (row : Nat × Nat × Nat) : Bool :=
  let f := (s.pipe p).scan
  match f.layers[row.1]? with
  | none => false
  | some c =>
    let base := F.dspLayerBase_base.of c.2
    let all := s.granulesOf base (layerSpan c.1 c.2)
    (s.granulesOf row.2.1 row.2.2).any (fun g =>
      match (List.range all.length).find? (fun i => all[i]? == some g) with
      | none => false
      | some i => (storeGet [] f.versions row.1)[i]? != some (s.tvt F.cgTvtEntry_version g.1 g.2))

/-- The rows read for the compositor's instance, one after the other: a row that is refused or meets poison reads as
zeros (R24, R161). DEDUCED: a pipe's context is the compositor's, context 0. -/
def State.readRows (s : State) (rows : List (Nat × Nat × Nat)) : State × List (List Byte) :=
  rows.foldl (fun acc r =>
    let q := acc.1.fetchAs (.graphics 0) r.2.1 r.2.2
    (q.1, acc.2 ++ [q.2.getD (List.replicate r.2.2 0)])) (s, [])

/-- What the pixels of a line depend on beside its source rows: the pipe's settings, the line, the layers' settings, and
the telltale layer's position. -/
def State.lineInputs (s : State) (p line : Nat) : List Nat :=
  [s.reg (fldAddr F.dspCfg_enable 5 p 0), s.reg (fldAddr F.dspTiming_active_w 5 p 0), line, s.display.ttX]
    ++ (s.pipe p).scan.layers.map Prod.fst

/-- The row of the telltale plane that a line of tt_pipe crosses. -/
def State.planeRow (s : State) (p line : Nat) : List (List Byte) :=
  if s.dsp F.dspCfg_tt_here p = 1 ∧ s.display.ttY ≤ line ∧ line < s.display.ttY + s.display.ttH then
    [((List.range s.display.ttW).map (fun x => leBytes (s.planeAt x (line - s.display.ttY)) 4)).flatten]
  else []

/-- The pixels of a line that is ready: of the line's length, and otherwise left open. -/
def State.linePixels (s : State) (p line : Nat) (rows : List (List Byte)) : List Byte :=
  let m := Config.blendLine (s.lineInputs p line) (rows ++ s.planeRow p line)
  (List.range (s.lineBytes p)).map (fun i => m[i]?.getD 0)

/-- A flag of the frame that is scanned. -/
def State.flagFrame (s : State) (p n : Nat) : State :=
  let x := s.pipe p
  s.setPipe p { x with scan := { x.scan with flags := setBit x.scan.flags n true } }

/-- A line is not ready, or one of its rows is of another version: flag, count and record. -/
def State.judgeLine (s : State) (p : Nat) (ready : Bool) (rows : List (Nat × Nat × Nat)) : State :=
  if !ready then
    ((s.flagFrame p 2).fadd F.dspCounts_underflow 5 p 0 1).raiseRec (State.dspRec E.dspUnderflow p 0)
  else
    match rows.find? (s.rowTorn p) with
    | none => s
    | some r =>
      if bit (s.pipe p).scan.flags 1 then s
      else ((s.flagFrame p 1).fadd F.dspCounts_torn 5 p 0 1).raiseRec (State.dspRec E.dspTorn p r.1)

/-- The moment at which a line of a frame starts (R456). -/
def State.lineStart (s : State) (p frame line : Nat) : Nat :=
  s.dsp F.dspTiming2_phase p + frame * s.dsp F.dspTiming2_refresh_period p
    + (line * s.dsp F.dspTiming3_line_period_q8 p + 128) / 256

/-- A line starts, at its time: the first one of a frame after its SOP, the last one before its EOP; a line that is not
ready goes out black. -/
def execDisplayLine (pipe line : Nat) (ready : Bool) (s : State) : Host.Outcome State Fault Refusal :=
  let x := s.pipe pipe
  let frame := if line = 0 then x.latched.getD x.scan else x.scan
  if !s.pipeOn pipe || s.dsp F.dspTiming_active_h pipe ≤ line || s.periods < s.lineStart pipe frame.number line then
    .next s
  else
    let s := if line = 0 then s.setPipe pipe { x with scan := x.latched.getD x.scan, latched := none } else s
    let rows := s.lineRows pipe line
    let r := if ready then s.readRows rows else (s, [])
    let s := r.1.judgeLine pipe ready rows
    let s := if line = 0 then s.sendSop pipe else s
    let s := s.sendLine pipe line
      (if ready then s.linePixels pipe line r.2 else List.replicate (s.lineBytes pipe) 0)
    let last := line + 1 = s.dsp F.dspTiming_active_h pipe
    let s := s.setPipe pipe { s.pipe pipe with nextLine := if last then 0 else line + 1 }
    if last then .next ((s.sendUlham pipe 3 0 line []).showFrame pipe) else .next s

/-- A frame whose valid bits and safe_state flag follow a change that does not wait for the latch (R458). -/
def State.frameNow (s : State) (p : Nat) (f : DspFrame) : DspFrame :=
  { f with
    valid := Nat.land f.valid (s.layerValid p f.layers)
    flags := if s.fon F.safStatus_safe_state 4 0 0 then setBit f.flags 3 true else f.flags }

/-- A valid bit that clears, and an entry into the safe state, are carried at once in a STATUS packet about the frame in
progress; a frame that was latched and has not started starts with them. -/
def execDisplayStatusPacket (pipe : Nat) (s : State) : Host.Outcome State Fault Refusal :=
  let x := s.pipe pipe
  let f := s.frameNow pipe x.scan
  if !s.pipeOn pipe then .next s
  else
    let s := s.setPipe pipe { x with scan := f, latched := x.latched.map (s.frameNow pipe) }
    if f == x.scan then .next s
    else
      .next ((s.sendUlham pipe 4 0 x.nextLine (leBytes f.number 4 ++ leBytes f.flags 1 ++ leBytes f.valid 1
        ++ leBytes 0 2)).showFrame pipe)

/-- DSP_FLIP go: the new base of the selected layer is staged. The compositor presents what it has stored to its end
(R454). -/
def execDisplayFlip (who : Initiator) (pipe : Nat) (value : Word) (s : State) : Host.Outcome State Fault Refusal :=
  let v := value.toNat
  if !(gfxRight who || who == .graphics 0) then .next (s.dropWrite who (fldPlace F.dspFlip_go 5 pipe))
  else
    let s := if who == .graphics 0 && (s.gfxCtx 0).pass.isSome then (s.finishPass 0 []).setGfxState 0 gcIdle else s
    let layer := s.dsp F.dspLayerSel_layer pipe
    let base := F.dspFlip_next_base.of v
    let cfg := s.reg (fldAddr F.dspLayer_enable 5 pipe layer)
    let stride := s.reg (fldAddr F.dspLayerBase_base 5 pipe layer)
    let x := s.pipe pipe
    let flip := (base, F.dspFlip_on_confirm.of v == 1, s.versionsOf base (layerSpan cfg stride))
    let s := s.setReg (fldAddr F.dspFlip_go 5 pipe layer) (base + F.dspFlip_on_confirm.of v * 2 ^ 49)
    .next ((s.setPipe pipe { x with flips := storePut x.flips layer flip }).fset F.dspFlip_pending 5 pipe layer 1).answerOk

/-! ### Telltales (R462 to R464) -/

def State.setRegion (s : State) (n : Nat) (r : TtRegion) : State :=
  { s with display := { s.display with regions := s.display.regions.set n r } }

/-- A record of a telltale region. -/
def State.ttRec (c : ErrCode) (n : Nat) : ErrRec := { recOf c 5 0x13 n with detail := n }

def execTelltaleStateWrite (who : Initiator) (region value : Nat) (s : State) : Host.Outcome State Fault Refusal :=
  let a := fldPlace F.gfxTtStateN_state 5 region
  match s.display.regions[region]? with
  | none => .next (s.dropWrite who a)
  | some r =>
    let allowed := match who with
      | .sentinel _ => true
      | .hardware => true
      | w => w.isSteward && r.qmWritable
    if !allowed then .next (s.dropWrite who a)
    else if r.crcs.length ≤ value then .next (s.raiseRec (State.ttRec E.ttBadState region)).answerOk
    else
      let s := s.setRegion region { r with written := some s.periods }
      .next (s.setReg a (value % 16)).answerOk

/-- Whether tt_pipe has just scanned the last row of a region. -/
def State.scannedRegion (s : State) (r : TtRegion) : Bool :=
  let h := s.dsp F.dspTiming_active_h s.display.ttPipe
  (s.pipe s.display.ttPipe).nextLine == (s.display.ttY + r.y + r.h) % h

/-- The apply point of a region, the end of the scan of its last row: a write at least 200 µs old is rendered; the
region's checks use its state from the next frame on. -/
def execTelltaleApply (region : Nat) (s : State) : Host.Outcome State Fault Refusal :=
  match s.display.regions[region]? with
  | none => .next s
  | some r =>
    match r.written with
    | none => .next s
    | some t =>
      if r.rendering || s.periods < t + 7680 || !s.scannedRegion r || s.logicFrozen 5 then .next s
      else .next (s.setRegion region { r with
        rendering := true, written := none, target := s.fget F.gfxTtStateN_state 5 region 0 })

/-- The rendering of a region ends; `wrong` holds the pixels, by their number in raster order, that a fault of the
pipeline got wrong, with the bits that differ. -/
def execTelltaleRenderDone (region : Nat) (wrong : List (Nat × Nat)) (s : State) :
    Host.Outcome State Fault Refusal :=
  match s.display.regions[region]? with
  | none => .next s
  | some r =>
    if !r.rendering || s.logicFrozen 5 then .next s
    else
      let s := (s.renderRegion r wrong).setRegion region { r with rendering := false, checked := r.target }
      .next (if r.written = none then s.fset F.gfxTtStateN_applied 5 region 0 1 else s)

/-- The two checks of a region in a telltale frame: of the plane, where a word may be uncorrectable, and of the scan, with
the faults on its way (R464). -/
def execTelltaleCheck (region : Nat) (badWord : Bool) (wrong : List (Nat × Nat)) (s : State) :
    Host.Outcome State Fault Refusal :=
  match s.display.regions[region]? with
  | none => .next s
  | some r =>
    let s := if region + 1 = s.display.regions.length then s.fwrap F.gfxTtStatus_frames_checked 5 0 0 1 else s
    let expected := r.crcs[r.checked]?.getD 0
    let bad := s.fget F.gfxTtBad_bad 5 0 0
    if badWord = false ∧ s.regionCrc r [] = expected ∧ s.regionCrc r wrong = expected then .next (s.fset F.gfxTtBad_bad 5 0 0 (setBit bad region false))
    else
      let s := s.fset F.gfxTtBad_bad 5 0 0 (setBit bad region true)
      let s := s.fadd F.gfxTtStatus_mismatches 5 0 0 1
      let s := if s.display.ttPipe < 6 then s.fadd F.dspCounts_tt_mismatch 5 s.display.ttPipe 0 1 else s
      let s := s.raiseRec (State.ttRec E.ttCrcMismatch region)
      let s := s.setRegion region (if r.rendering then r else { r with rendering := true, target := r.checked })
      .next (s.doubtKind 2 r.group rsTelltale)

/-! ### The media codec (R465, R470) -/

/-- The states of MED_SESSION. -/
def msClosed : Nat := 0
def msRunning : Nat := 1
def msSuspended : Nat := 2

def State.medState (s : State) (n : Nat) : Nat := s.fget F.medSession_state 5 0 n

/-- The number of open sessions. -/
def State.countSessions (s : State) : State :=
  s.fset F.medStatus_sessions_open 5 0 0 ((List.range 8).filter (fun n => s.medState n != msClosed)).length

/-- MED_SESSION open: the session takes its instance and profile. A codec that is parked or held leaves it
SUSPENDED. -/
def execMediaSessionOpen (who : Initiator) (session : Nat) (value : Word) (s : State) :
    Host.Outcome State Fault Refusal :=
  let v := value.toNat
  if !gfxRight who then .next (s.dropWrite who (fldPlace F.medSession_open 5 0))
  else if 8 ≤ session then .next s.answerOk
  else
    let off := s.fon F.medStatus_parked 5 0 0 || s.fon F.medStatus_held 5 0 0
    let s := s.fset F.medSession_vi 5 0 session (F.medSession_vi.of v)
    let s := s.fset F.medSession_main10 5 0 session (F.medSession_main10.of v)
    if s.medState session ≠ msClosed then .next s.answerOk
    else .next ((s.fset F.medSession_state 5 0 session (if off then msSuspended else msRunning)).countSessions).answerOk

def execMediaSessionClose (who : Initiator) (session : Nat) (s : State) : Host.Outcome State Fault Refusal :=
  if !gfxRight who then .next (s.dropWrite who (fldPlace F.medSession_close 5 0))
  else if 8 ≤ session then .next s.answerOk
  else .next ((s.fset F.medSession_state 5 0 session msClosed).countSessions).answerOk

/-- The codec stops: the picture in progress of each running session is abandoned. -/
def State.suspendCodec (s : State) : State :=
  (List.range 8).foldl (fun s n =>
    if s.medState n = msRunning then s.fset F.medSession_state 5 0 n msSuspended else s) s

/-- The codec runs again, where it is neither parked nor held: each suspended session resumes with a record. -/
def State.resumeCodec (s : State) : State :=
  if s.fon F.medStatus_parked 5 0 0 || s.fon F.medStatus_held 5 0 0 then s
  else
    (List.range 8).foldl (fun s n =>
      if s.medState n = msSuspended then
        (s.fset F.medSession_state 5 0 n msRunning).raiseSide { recOf E.medSuspended 5 0x15 n with detail := n }
      else s) s

end Sys2Proof.Machine
end

