-- ==== Sys2Proof/Machine/PowerOps.lean ====
section
/-! DEFINITION. Islands and their levels, parking, the loss of fixed pace, and the hold of a die whose governor is STOPPED
(R38, R43, R44, R50, R422, R423, R428, R436). -/

namespace Sys2Proof.Machine

/-! ### Islands (R422) -/

/-- The islands of a die with a level lever. -/
def leverIslands (d : Nat) : List Nat := (List.range 10).filter (fun i => (islandRange d i).isSome)

def State.isl (s : State) (f : Fld) (d i : Nat) : Nat := s.fget f d 0 i
def State.setIsl (s : State) (f : Fld) (d i v : Nat) : State := s.fset f d 0 i v

/-- Whether an island belongs to the protected set (R423). -/
def State.islandProtected (s : State) (d i : Nat) : Bool :=
  if d < 4 ∧ i < 8 then s.clusterProtected (d * 8 + i) else (islandRange d i).isNone && !(d == 5 && i == 9)

/-- The level in mV × 10 and temperature of the columns of R38, and the pace in 0.01 G steps/s. -/
def paceTable : List (Int × List (Int × Int)) :=
  [(50, [(-40, 72), (25, 82), (85, 90), (110, 93), (130, 94)]),
   (55, [(-40, 95), (25, 105), (85, 112), (110, 114), (130, 115)]),
   (65, [(-40, 140), (25, 148), (85, 152), (110, 152), (130, 151)]),
   (70, [(-40, 166), (25, 170), (85, 172), (110, 170), (130, 168)]),
   (75, [(-40, 195), (25, 193), (85, 190), (110, 186), (130, 182)]),
   (80, [(-40, 216), (25, 212), (85, 206), (110, 201), (130, 196)]),
   (85, [(-40, 234), (25, 228), (85, 220), (110, 214), (130, 208)])]

/-- Linear interpolation in a table of points, flat beyond its ends; values times 1 000. -/
def interpolate (x : Int) : List (Int × Int) → Int
  | [] => 0
  | [(_, y)] => y
  | (x0, y0) :: (x1, y1) :: t =>
    if x ≤ x0 then y0
    else if x ≤ x1 then y0 + (y1 - y0) * (x - x0) / (x1 - x0)
    else interpolate x ((x1, y1) :: t)

/-- The natural pace promised at a level and temperature, in units of 10 000 steps/s; none outside −40 °C to 130 °C
(R38). -/
def naturalPace (level : Nat) (temp : Int) : Option Nat :=
  if temp < -40 ∨ 130 < temp then none
  else some (interpolate level (paceTable.map (fun r =>
    (r.1, interpolate temp (r.2.map (fun p => (p.1, p.2 * 1000))))))).toNat

/-- The tokens per 3 oscillator periods that a pace in units of 0.01 G steps/s takes, and the 25 % floor (R426). -/
def paceTokens (monitor : Nat) : Nat := monitor * 25 / 32
def paceFloor (monitor : Nat) : Nat := max 1 (min 125 ((monitor * 25 + 127) / 128))

/-- The pace limit of an island: the lowest that anything asks for; 0 for none. -/
def State.refreshLimit (s : State) (d i : Nat) : State :=
  let k := d * 16 + i
  let n := match storeFind s.power.capLimit k, storeFind s.power.herdLimit k with
    | some a, some b => min a b
    | some a, none => a
    | none, some b => b
    | none, none => 0
  s.setIsl F.pwrIsl_pace_limit d i n

def State.setCapLimit (s : State) (d i : Nat) (n : Option Nat) : State :=
  let k := d * 16 + i
  ({ s with power := { s.power with capLimit := match n with
      | none => storeDrop s.power.capLimit k
      | some n => storePut s.power.capLimit k n } }).refreshLimit d i

/-! ### Levels (R43, R44, R50, R51) -/

def absDiff (a b : Nat) : Nat := (a - b) + (b - a)

/-- A temperature code in °C. -/
def celsius (code : Nat) : Int := signed code 8

/-- Fixed pace ends on every fixed-pace island of the package together (R44), and FIXED partitions admit against the
corner pace from then on (R241). DESIGN CHOICE: an accepted request of R45 that has not yet taken effect is dropped. -/
def State.losePace (s : State) (d i : Nat) : State :=
  let s := (List.range 32).foldl (fun s c => s.setIsl F.pwrIsl_fixed (c / 8) (c % 8) 0) s
  let s := (List.range 4).foldl (fun s d => s.fset F.pwrStatus_fixed_pace_lost d 0 0 1) s
  let s := (List.range 64).foldl (fun s p =>
    if s.fget F.schRtCfg_condition 4 p 0 = 0 then s.fset F.schRtUse_admit_corner 4 p 0 1 else s) s
  let s := { s with power := { s.power with tokens := s.power.tokens.filter (fun p => p.1 == 32), fixPending := [] } }
  let s := (List.range 4).foldl (fun s d => s.fset F.pwrFixedReq_busy d 0 0 0) s
  (s.raiseSide { recOf E.fixedPaceLost d 0x01 i with
    detail := d + i * 2 ^ 8 + s.isl F.pwrIsl_monitor d i * 2 ^ 16 }).refreshReason

/-- Whether two islands of a die share a crossing. -/
def neighbours (d i j : Nat) : Bool :=
  i != j && i < islandCount d && j < islandCount d && Config.adjacent d (min i j) (max i j)

/-- Whether a fabric link joins two dies (R12). -/
def linked (d k : Nat) : Bool := (List.range 4).any (fun p => fabPeer d p == k)

/-- The die at the other end of the link that an island borders. -/
def crossingOf (d i : Nat) : Option Nat :=
  if i < islandCount d then (Config.crossing d i).filter (fun k => k < 8 && linked d k) else none

/-- The islands of die d that border its link to die k. -/
def borderIslands (d k : Nat) : List Nat := (List.range 10).filter (fun i => crossingOf d i == some k)

/-- Whether the governor of die `dst` grants a level to the governor of die `src`: the levels of its islands at the link,
now and pending, and what it has reserved itself stay within 300 mV of it (R51). -/
def State.grants (s : State) (src dst v : Nat) : Bool :=
  (borderIslands dst src).all (fun i =>
      absDiff (s.isl F.pwrIsl_setpoint dst i) v ≤ 30 && absDiff (s.isl F.pwrIsl_target dst i) v ≤ 30)
    && (match storeFind s.power.reservations (dst * 8 + src) with
      | none => true
      | some w => absDiff w v ≤ 30)

/-- Whether an island may take a level on the far side's account: it borders no link, or the level is reserved, or the
far side grants it now. -/
def State.reserved (s : State) (d i v : Nat) : Bool :=
  match crossingOf d i with
  | none => true
  | some k => storeFind s.power.reservations (d * 8 + k) == some v || s.grants d k v

def State.governorStopped (s : State) (d : Nat) : Bool := s.fget F.tsqState_state 4 0 (64 + d) == 5
def State.governorFaulted (s : State) (d : Nat) : Bool := s.fget F.tsqState_state 4 0 (64 + d) == 4

/-- Whether a raise of an island is refused: its governor restarts or is STOPPED (R436), or the island is throttled
(R434). -/
def State.raiseRefused (s : State) (d i : Nat) : Bool :=
  s.governorFaulted d || s.governorStopped d || s.power.throttled.contains (d * 16 + i)

/-- Whether an island is in the hold of MARGIN_LOST: frozen, or with an engine that has not passed its tests (R41). -/
def State.inMarginHold (s : State) (d i : Nat) : Bool :=
  s.power.frozen.contains (d * 16 + i)
    || (d < 4 && i < 8 && (List.range 2).any (fun e => s.gftState (d * 16 + 2 * i + e) == gfMargin))

/-- The lowest and the highest level of an island: its range, and 20 mV more while a droop raise is in force (R38,
R432); a fixed island has the one level it stands at. -/
def State.levelBounds (s : State) (d i : Nat) : Nat × Nat :=
  match islandRange d i with
  | none => (s.isl F.pwrIsl_target d i, s.isl F.pwrIsl_target d i)
  | some (lo, hi) => (lo, if (storeFind s.power.raised (d * 16 + i)).isSome then hi + 2 else hi)

/-- The levels of a die's islands. -/
def State.levels (s : State) (d : Nat) : List Nat := (List.range 10).map (s.isl F.pwrIsl_target d)

/-- One round in which the neighbours of islands that move go with them: down to 200 mV above them at most, or up to
200 mV below them at most. -/
def follow (d i : Nat) (down : Bool) (ls : List Nat) : List Nat :=
  (List.range 10).map (fun j =>
    let x := ls[j]?.getD 0
    if j = i then x
    else ((List.range 10).filter (neighbours d j)).foldl (fun x k =>
      let y := ls[k]?.getD 0
      if down then min x (y + 20) else max x (y - 20)) x)

/-- The levels of a die with island i at level v, and its neighbours moved together with it where they must be (R50). -/
def State.levelPlan (s : State) (d i v : Nat) : List Nat :=
  let down := v < s.isl F.pwrIsl_target d i
  (List.range 9).foldl (fun ls _ => follow d i down ls) ((s.levels d).set i v)

/-- Whether an island may take a level: within its bounds, not in the hold of MARGIN_LOST, a raise not refused. -/
def State.mayTake (s : State) (d i v : Nat) : Bool :=
  (s.levelBounds d i).1 ≤ v && v ≤ (s.levelBounds d i).2 && !s.inMarginHold d i
    && (v ≤ s.isl F.pwrIsl_target d i || !s.raiseRefused d i)

/-- Whether an island may go with a neighbour: only an unprotected one does (R423), and none below fixed pace (R44). -/
def State.mayFollow (s : State) (d i v : Nat) : Bool :=
  s.mayTake d i v && !s.islandProtected d i && (s.isl F.pwrIsl_fixed d i == 0 || 78 ≤ v)

/-- Whether a die may take a list of levels for the sake of island i: no on-die crossing goes beyond 200 mV, or further
beyond it, and every link grants its level (R48, R50, R51). Set points ramp at one rate, so that the difference of two of
them lies at every instant of a ramp between that of their set points and that of their levels. -/
def State.planOk (s : State) (d i : Nat) (ls : List Nat) : Bool :=
  (List.range 10).all (fun j =>
    let v := ls[j]?.getD 0
    let t := s.isl F.pwrIsl_target d j
    ((List.range 10).filter (neighbours d j)).all (fun k =>
        absDiff v (ls[k]?.getD 0) ≤ max 20 (absDiff t (s.isl F.pwrIsl_target d k)))
      && (v == t || (s.reserved d j v && (j == i || s.mayFollow d j v))))

/-- Whether an island of a die can take a level now. -/
def State.canTake (s : State) (d i v : Nat) : Bool := s.mayTake d i v && s.planOk d i (s.levelPlan d i v)

/-- The level to which an island returns: the one it has when something first lowers it, without a droop raise. -/
def State.keepNormal (s : State) (d i : Nat) : State :=
  let k := d * 16 + i
  let t := s.isl F.pwrIsl_target d i
  if (storeFind s.power.normal k).isSome then s
  else
    let n := match storeFind s.power.raised k with
      | none => t
      | some (_, before) => min t before
    { s with power := { s.power with normal := storePut s.power.normal k n } }

/-- One island takes a level: a level below 0.78 V of a fixed-pace island ends fixed pace first (R44), and the
reservation of a link is used up by the change (R51). -/
def State.takeLevel (s : State) (d i v : Nat) : State :=
  let s := if s.isl F.pwrIsl_fixed d i = 1 ∧ v < 78 then s.losePace d i else s
  let s := match crossingOf d i with
    | none => s
    | some k => { s with power := { s.power with reservations := storeDrop s.power.reservations (d * 8 + k) } }
  s.setIsl F.pwrIsl_target d i v

/-- A neighbour goes with an island to a level of the plan; one that goes down keeps the level to which it returns. -/
def State.followLevel (s : State) (d i j v : Nat) : State :=
  let t := s.isl F.pwrIsl_target d j
  if v = t then s
  else if j ≠ i ∧ v < t then (s.keepNormal d j).takeLevel d j v
  else s.takeLevel d j v

/-- A governor asks for a level of an island: refused and counted where a crossing, on the die or across a link, would
break its limit though its neighbours move with it. -/
def State.requestLevel (s : State) (d i v : Nat) : State :=
  if v = s.isl F.pwrIsl_target d i ∨ s.mayTake d i v = false then s
  else
    let ls := s.levelPlan d i v
    if !s.planOk d i ls then s.fadd F.pwrEvents_level_refusals d 0 0 1
    else (List.range 10).foldl (fun s j => s.followLevel d i j (ls[j]?.getD 0)) s

/-- An island is lowered by steps of 10 mV, to its lowest level at most; the level it had is kept for the way back. -/
def State.lowerIsland (s : State) (d i step lowest : Nat) : State :=
  match islandRange d i with
  | none => s
  | some (lo, _) =>
    let t := s.isl F.pwrIsl_target d i
    let v := max (max lo lowest) (t - step)
    if t ≤ v then s else (s.keepNormal d i).requestLevel d i v

/-! ### Parking (R401, R428) -/

/-- The blocks that park: engines by te number, shader islands 1 to 7 and the codec of G as 80 + island. -/
def parkable (k : Nat) : Bool := k < 64 || (81 ≤ k && k ≤ 87) || k == 89

def State.unitParked (s : State) (k : Nat) : Bool := bit (s.fget F.pwrParked_parked (k / 16) 0 0) (k % 16)

/-- What G's own registers show of a block that parks: the codec's bit, or the six cores of a shader island (R468,
R470). -/
def State.showParked (s : State) (k : Nat) (v : Bool) : State :=
  if k = 89 then s.fset F.medStatus_parked 5 0 0 v.toNat
  else if 81 ≤ k ∧ k ≤ 87 then
    s.fset F.gfxStatus_cores_on 5 0 0 (setBits (s.fget F.gfxStatus_cores_on 5 0 0) ((k - 80) * 6) 6 (if v then 0 else 63))
  else s

def State.setParked (s : State) (k : Nat) (v : Bool) : State :=
  (s.fset F.pwrParked_parked (k / 16) 0 0 (setBit (s.fget F.pwrParked_parked (k / 16) 0 0) (k % 16) v)).showParked k v

/-- A park request of a held block waits, or no longer does; the codec's status says so (R401, R470). -/
def State.setHeldPending (s : State) (k : Nat) (v : Bool) : State :=
  let m := s.fget F.pwrParked_held_pending (k / 16) 0 0
  let s := s.fset F.pwrParked_held_pending (k / 16) 0 0 (setBit m (k % 16) v)
  if k = 89 then s.fset F.medStatus_power_status 5 0 0 v.toNat else s

/-- The block of R397 to which a parkable block belongs, where it can be held. -/
def holdBlock (k : Nat) : Option Nat := if k < 64 then some (k / 2) else if k = 89 then some 48 else none

def State.unitHeld (s : State) (k : Nat) : Bool :=
  match holdBlock k with
  | none => false
  | some b => s.blockHeld b

/-- Whether a parkable block is protected (R423). -/
def State.unitProtected (s : State) (k : Nat) : Bool := k < 64 && s.clusterProtected (k / 2)

/-- A park that goes ahead: an engine's job is pre-empted with its rings, and the engine is gated once it has stopped;
a G island stops at once, the codec with its sessions SUSPENDED. -/
def State.startPark (s : State) (k : Nat) : State :=
  if s.unitParked k || s.power.parking.contains k then s
  else if k < 64 then
    let s := { s with power := { s.power with parking := s.power.parking ++ [k] } }
    if s.testing k then s
    else
      match s.teJobOf k with
      | some j => if s.jobLive j then s.requestPreempt j else s
      | none => s.opTePreempt k
  else
    let s := if k = 89 then s.suspendCodec else s
    (s.setParked k true).fadd F.pwrEvents_parks (k / 16) 0 0 1

/-- A notice to the vault about a held block (R401, R403, R418). -/
def State.secNotice (s : State) (block kind deadline : Nat) : State :=
  let s := s.fset F.secNotice_block 4 0 0 block
  let s := s.fset F.secNotice_kind 4 0 0 kind
  s.fset F.secNotice_deadline_us 4 0 0 deadline

/-- A normal-world request to stop a held block waits for the release of the hold. -/
def State.parkHeld (s : State) (k : Nat) : State :=
  let b := (holdBlock k).getD 0
  let m := s.fget F.pwrParked_held_pending (k / 16) 0 0
  if bit m (k % 16) then s
  else
    let s := s.setHeldPending k true
    (s.secNotice b (if b = 48 then 2 else 1) 0).raiseSide { recOf E.secHeld 4 0x0A 0xFFFF with detail := b }

/-! ### The emergency bit (R437) and a STOPPED governor (R436) -/

/-- The emergency bit of every die. -/
def State.refreshEmergency (s : State) : State :=
  let on := s.power.emergency.isSome || s.fon F.pwrCap_unreachable 4 0 0 || (List.range 8).any s.governorStopped
  (List.range 8).foldl (fun s d => s.fset F.pwrStatus_emergency d 0 0 on.toNat) s

/-- The unprotected blocks of a die that park. -/
def State.parkCandidates (s : State) (d : Nat) : List Nat :=
  ((List.range 16).map (· + d * 16)).filter (fun k => parkable k && !s.unitProtected k)

/-- A block is parked by a governor; a held one counts as unavailable, and its request waits. -/
def State.governorPark (s : State) (k : Nat) : State :=
  if s.unitHeld k then s.parkHeld k
  else if s.unitParked k || s.power.parking.contains k then s
  else
    let s := s.startPark k
    { s with power := { s.power with capParked := s.power.capParked ++ [k] } }

/-- The lowest level at which an island stays within 300 mV of what lies across its link, now and pending (R48). -/
def State.farLowest (s : State) (d i : Nat) : Nat :=
  match crossingOf d i with
  | none => 0
  | some k => (borderIslands k d).foldl (fun n j =>
      max n (max (s.isl F.pwrIsl_setpoint k j) (s.isl F.pwrIsl_target k j) - 30)) 0

/-- The lowest level at which an island stays within 200 mV of neighbours whose level does not change. -/
def State.nearLowest (s : State) (d i : Nat) : Nat :=
  ((List.range 10).filter (fun j => neighbours d i j && s.inMarginHold d j)).foldl (fun n j =>
    max n (s.isl F.pwrIsl_target d j - 20)) 0

/-- The hardware lowers an island to a level without its governor, as far as its crossings allow; the level that it had is
kept for the way back. -/
def State.holdLevel (s : State) (d i v : Nat) : State :=
  let v := max v (max (s.farLowest d i) (s.nearLowest d i))
  if s.isl F.pwrIsl_target d i ≤ v ∨ s.inMarginHold d i = true then s else (s.keepNormal d i).takeLevel d i v

/-- The levels at which a die without its governor stands: unprotected compute and shader islands at their lowest level,
protected ones at 0.75 V at most, so that no crossing of the die goes beyond 200 mV. -/
def State.holdLevels (s : State) (d : Nat) : State :=
  (leverIslands d).foldl (fun s i =>
    if d = 4 then s
    else s.holdLevel d i (if s.islandProtected d i then 75 else ((islandRange d i).getD (55, 55)).1)) s

/-- A governor left STOPPED holds its die: its levels, the pace floor on unprotected compute and shader islands, and their
blocks parked. Its stage is the last one, from which a restart works back. -/
def State.governorHold (s : State) (d : Nat) : State :=
  let s := s.holdLevels d
  let s := (leverIslands d).foldl (fun s i =>
    if d = 4 || s.islandProtected d i then s
    else s.setCapLimit d i (some (paceFloor (s.isl F.pwrIsl_monitor d i)))) s
  let s := ((s.parkCandidates d).filter (· != 89)).foldl State.governorPark s
  let s := { s with power := { s.power with stage := storePut s.power.stage d 5 } }
  let s := s.fset F.pwrStatus_state d 0 0 8
  (s.refreshEmergency).raiseSide { recOf E.govHold d 0x01 0xFFFF with detail := d }

end Sys2Proof.Machine
end

