-- ==== Sys2Proof/Machine/TahrOps.lean ====
section
/-! DEFINITION. A tahr sequencer: its sites, memory, ports, arithmetic, faults and restarts (R340 to R356). -/

namespace Sys2Proof.Machine

/-! ### Sites (R340) -/

/-- The sites of the sequencers. -/
inductive Site where
  | gateway | input | governor | stream
deriving DecidableEq, Repr

/-- The site of a sequencer, 0 to 87. -/
def siteOf (seq : Nat) : Site :=
  if seq < 32 then .gateway else if seq < 64 then .input else if seq < 72 then .governor else .stream

/-- The die that holds a sequencer. -/
def seqDie (seq : Nat) : Nat :=
  match siteOf seq with
  | .gateway => 6
  | .input => 6 + (seq - 32) / 16
  | .governor => seq - 64
  | .stream => (seq - 72) / 4

/-- The input ports of a site, and its output ports. -/
def inPorts : Site → List Nat
  | .gateway => [0]
  | .input => [0, 2]
  | .governor => [1]
  | .stream => []
def outPorts : Site → List Nat
  | .gateway => [1]
  | .input => [1]
  | .governor => [0]
  | .stream => [0]

/-- The site events of a site. -/
def siteEvents : Site → List Nat
  | .governor => [10, 11]
  | _ => [10]

/-- The states of TSQ_STATE. -/
def sqIdle : Nat := 0
def sqWaiting : Nat := 1
def sqRunning : Nat := 2
def sqStalled : Nat := 3
def sqFaulted : Nat := 4
def sqStopped : Nat := 5
def sqSwapping : Nat := 6

def State.sqState (s : State) (seq : Nat) : Nat := s.fget F.tsqState_state 4 0 seq
def State.setSqState (s : State) (seq st : Nat) : State := s.fset F.tsqState_state 4 0 seq st

/-- A sequencer's state becomes STOPPED; the gateway shows its stopped sequencers in GW_STATUS, and a governor's die is
held (R436). -/
def State.stopSeq (s : State) (seq : Nat) : State :=
  let s := s.setSqState seq sqStopped
  if 64 ≤ seq ∧ seq < 72 then s.governorHold (seq - 64) else
  if seq < 32 then s.fset F.gwStatus_stopped 6 0 0 (setBit (s.fget F.gwStatus_stopped 6 0 0) seq true) else s

/-! ### Registers and flags -/

def TahrSeq.reg (x : TahrSeq) (i : Nat) : Nat := x.g[i]?.getD 0
def TahrSeq.put (x : TahrSeq) (i v : Nat) : TahrSeq := { x with g := x.g.set i (v % 2 ^ 32) }

/-- The signed value of a 32-bit register. -/
def s32 (n : Nat) : Int := signed n 32

/-- A saturated signed 32-bit value, and whether it was clamped (R347). -/
def sat32 (v : Int) : Nat × Bool :=
  if v < -2147483648 then (0x80000000, true)
  else if 2147483647 < v then (0x7FFFFFFF, true) else (unsigned v 32, false)

/-- Puts a value that saturates. -/
def TahrSeq.putSat (x : TahrSeq) (i : Nat) (v : Int) : TahrSeq :=
  { x.put i (sat32 v).1 with sat := x.sat || (sat32 v).2 }

/-! ### Start and restart (R342, R356, R358 to R360) -/

/-- The data memory that a start loads: the program's initial data, with the table variants in force. -/
def State.tahrData (s : State) (seq : Nat) (p : TahrProgram) (variants : List Nat) : Store Byte :=
  (List.range p.tables.length).foldl (fun m t =>
    let v := variants[t]?.getD 0
    match p.tables[t]?, s.tahr.variants.find? (fun w => w.1 == seq && w.2.1 == t && w.2.2.1 == v) with
    | some tab, some w => if v = 0 then m else putOp m tab.1 w.2.2.2
    | _, _ => m) (putOp [] 0 p.data)

/-- The initial state of R342 with a program loaded; messages in input ports and the variants stay. -/
def State.tahrStart (s : State) (seq : Nat) (p : TahrProgram) : State :=
  let x := s.tahrSeq seq
  let s := s.setTahrSeq seq
    { g := List.replicate 16 0, code := p.code, data := s.tahrData seq p x.variants, ports := x.ports,
      waiting := x.waiting, variants := x.variants, faultTime := x.faultTime, ring := x.ring }
  (s.fset F.tsqState_pc 4 0 seq p.entry).setSqState seq sqRunning

/-- A restart from the program store. -/
def State.tahrRestart (s : State) (seq : Nat) : State :=
  match storeFind s.tahr.programs seq with
  | none => s
  | some p =>
    let s := s.tahrStart seq p
    if seq < 32 then s.fset F.gwStatus_stopped 6 0 0 (setBit (s.fget F.gwStatus_stopped 6 0 0) seq false) else s

/-! ### Faults (R356, R357) -/

/-- Whether an INPUT sequencer drives a stream of an rt group. -/
def State.drivesRt (s : State) (seq : Nat) : Bool :=
  let o := (seq - 32) / 16
  ((List.range 48).map (· + o * 48)).any (fun n =>
    let c := s.scfgReg n
    F.ippScfg_enable.of c == 1 && F.ippScfg_sequencer.of c == (seq - 32) % 16 && F.ippScfg_in_group.of c == 1
      && s.fget F.ippGrpCfg_rt (6 + o) (F.ippScfg_group.of c) 0 == 1)

/-- The severity of a sequencer's fault. -/
def State.tahrSev (s : State) (seq : Nat) (c : ErrCode) : Nat :=
  match siteOf seq with
  | .gateway => 3
  | .governor => 3
  | .input => if s.drivesRt seq then 3 else c.sev
  | .stream => match (s.tahrSeq seq).ring with
    | none => c.sev
    | some n => if s.jobGrave (s.ringJob n) then 3 else c.sev

/-- A swap that is asked for or under way ends with a status (R359, R361). -/
def State.endSwap (s : State) (seq status : Nat) : State :=
  let x := s.tahrSeq seq
  match x.swap with
  | none => s
  | some _ =>
    let s := s.setTahrSeq seq { x with swap := none }
    (s.fset F.tsqSwap_busy 4 0 0 0).fset F.tsqSwap_status 4 0 0 status

/-- A sequencer faults before its instruction changes any state; what follows depends on its site. -/
def State.tahrFault (s : State) (seq : Nat) (c : ErrCode) (addr : Nat) : State :=
  let x := s.tahrSeq seq
  let again := match x.faultTime with
    | none => false
    | some t => s.periods < t + 38400000
  let pc := s.fget F.tsqState_pc 4 0 seq
  let s := s.raiseRec { code := c.code, sev := s.tahrSev seq c, die := seqDie seq, block := 0x0D, unit := seq,
                        detail := seq + pc * 2 ^ 8 + addr * 2 ^ 24 }
  let s := s.fset F.tsqState_last_fault 4 0 seq c.code
  let s := (s.fwrap F.tsqState_faults 4 0 seq 1).setSqState seq sqFaulted
  let s := s.setTahrSeq seq { x with faultTime := some s.periods, started := none, notice := none }
  let s := s.endSwap seq 2
  match siteOf seq with
  | .gateway =>
    let s := if again then s.stopSeq seq else s
    (s.setsOf seq).foldl State.routeFailure s
  | .governor => if again then s.stopSeq seq else s
  | .input => s.stopSeq seq
  | .stream =>
    let s := (s.setSqState seq sqIdle).setTahrSeq seq { s.tahrSeq seq with ring := none }
    match x.ring with
    | none => s
    | some n => (s.setRing n { s.ring n with program := none }).ringStop n c.code

/-! ### Memory (R343) -/

/-- Whether a program may read, or write, a byte of its address space. -/
def tahrMay (site : Site) (write : Bool) (a : Nat) : Bool :=
  a < 0x2000
  || (match site with
    | .gateway => (0x8800 ≤ a && a < 0x9000)
        || (!write && ((0x8000 ≤ a && a < 0x8800) || (0x9000 ≤ a && a < 0x9100)))
    | .stream => (0x8000 ≤ a && a < 0x8048) || (!write && 0xC000 ≤ a && a < 0x10000)
    | _ => 0x8000 ≤ a && a < 0x10000)

/-- Whether every byte of [a, a + n) may be accessed. -/
def tahrRange (site : Site) (write : Bool) (a n : Nat) : Bool :=
  (List.range n).all (fun i => tahrMay site write (a + i))

/-- A byte of a sequencer's address space outside the job window. What no rule gives (the payload window past the
payload, the windows of vendor programs) is a free value. -/
def State.tahrByte (s : State) (seq : Nat) (a : Nat) : State × Byte :=
  let x := s.tahrSeq seq
  let free := ((s.fresh 8).2, BitVec.ofNat 8 (s.fresh 8).1)
  if a < 0x2000 then (s, storeGet 0 x.data a)
  else
    match siteOf seq with
    | .gateway =>
      if 0x8800 ≤ a ∧ a < 0x9000 then (s, storeGet 0 x.buffer (a - 0x8800))
      else
        match x.notice with
        | none => free
        | some n =>
          if 0x9000 ≤ a then (s, (s.noticeWindow n)[a - 0x9000]?.getD 0)
          else match n.payload[a - 0x8000]? with
            | some b => (s, b)
            | none => free
    | .stream => (s, storeGet 0 x.buffer (a - 0x8000))
    | _ => free

/-- Bytes [a, a + n) outside the job window. -/
def State.tahrCells (s : State) (seq a : Nat) : Nat → State × List Byte
  | 0 => (s, [])
  | n + 1 =>
    let r := s.tahrByte seq a
    let q := r.1.tahrCells seq (a + 1) n
    (q.1, r.2 :: q.2)

/-- Bytes [a, a + n) of a sequencer's address space; none where a read through the job window is refused. -/
def State.tahrBytes (s : State) (seq a n : Nat) : State × Option (List Byte) :=
  match siteOf seq, (s.tahrSeq seq).ring with
  | .stream, some r =>
    if a < 0xC000 then ((s.tahrCells seq a n).1, some (s.tahrCells seq a n).2)
    else
      match s.ringRead r ((s.tahrSeq seq).jobBase + (a - 0xC000)) n with
      | (t, .ok bs) => (t, some bs)
      | (t, .error _) => (t, none)
  | _, _ => ((s.tahrCells seq a n).1, some (s.tahrCells seq a n).2)

/-- Bytes written; a store to 0x8044 of a STREAM sequencer makes the job-window base take effect. -/
def State.tahrWrite (s : State) (seq a : Nat) (bs : List Byte) : State :=
  let x := s.tahrSeq seq
  if a < 0x2000 then s.setTahrSeq seq { x with data := putOp x.data a bs }
  else
    match siteOf seq with
    | .gateway => s.setTahrSeq seq { x with buffer := putOp x.buffer (a - 0x8800) bs }
    | .stream =>
      let buffer := putOp x.buffer (a - 0x8000) bs
      let base := leNat ((List.range 8).map (fun i => storeGet 0 buffer (0x40 + i)))
      s.setTahrSeq seq { x with buffer, jobBase := if a = 0x8044 then base else x.jobBase }
    | _ => s

/-! ### Bit fields (R349) -/

/-- The bit of a field of n bits at bit number pos, counted from its least significant bit: the bit's number in the
frame. -/
def fieldBit (msb : Bool) (pos n i : Nat) : Nat :=
  if msb then
    let q := 8 * (pos / 8) + 7 - pos % 8 + (n - 1 - i)
    8 * (q / 8) + 7 - q % 8
  else pos + i

/-- The frame bytes that a field touches: the first, and their number. -/
def fieldSpan (msb : Bool) (pos n : Nat) : Nat × Nat :=
  let a := fieldBit msb pos n 0 / 8
  let b := fieldBit msb pos n (n - 1) / 8
  (min a b, max a b - min a b + 1)

/-- Reads a field from a frame whose bytes start at frame byte `first`. -/
def readField (msb sign : Bool) (pos n first : Nat) (bs : List Byte) : Nat :=
  let v := (List.range n).foldl (fun v i =>
    let k := fieldBit msb pos n i
    setBit v i (bit ((bs[k / 8 - first]?.getD 0).toNat) (k % 8))) 0
  if sign && bit v (n - 1) then v + (2 ^ 32 - 2 ^ n) else v

/-- Writes a field into a frame whose bytes start at frame byte `first`. -/
def writeField (msb : Bool) (pos n first v : Nat) (bs : List Byte) : List Byte :=
  (List.range n).foldl (fun bs i =>
    let k := fieldBit msb pos n i
    modifyAt bs (k / 8 - first) (fun x => BitVec.ofNat 8 (setBit x.toNat (k % 8) (bit v i)))) bs

/-! ### Arithmetic (R346 to R351) -/

/-- The functions of ALU but ADDS, SUBS, MULQ and ABSS, which saturate. -/
def tahrAlu (fn a b : Nat) : Nat :=
  match fn with
  | 0 => a + b
  | 1 => a + 2 ^ 32 - b
  | 2 => Nat.land a b
  | 3 => Nat.lor a b
  | 4 => Nat.xor a b
  | 5 => a * 2 ^ (b % 32)
  | 6 => a / 2 ^ (b % 32)
  | 7 => unsigned (s32 a / (2 ^ (b % 32) : Nat)) 32
  | 8 => a * b
  | 9 => unsigned (s32 a * s32 b / (2 ^ 32 : Nat)) 32
  | 10 => if s32 a ≤ s32 b then a else b
  | _ => if s32 a ≤ s32 b then b else a

/-- ALU on a sequencer. -/
def TahrSeq.alu (x : TahrSeq) (rd fn a b : Nat) : TahrSeq :=
  match fn with
  | 12 => x.putSat rd (s32 a + s32 b)
  | 13 => x.putSat rd (s32 a - s32 b)
  | 14 => x.putSat rd ((s32 a * s32 b + 32768) / 65536)
  | 15 => x.putSat rd (if s32 a < 0 then -s32 a else s32 a)
  | _ => x.put rd (tahrAlu fn a b)

/-- RSCL on a value with the four words of a descriptor (R348). -/
def TahrSeq.rescale (x : TahrSeq) (rd a shift : Nat) (d : List Byte) : TahrSeq :=
  let p := s32 a * s32 (leAt d 0 4)
  let p := if 0 < shift then (p + (2 ^ (shift - 1) : Nat)) / (2 ^ shift : Nat) else p
  let v := p + s32 (leAt d 4 4)
  let lo := s32 (leAt d 8 4)
  let hi := s32 (leAt d 12 4)
  let low := if v < lo then lo else v
  let w := if hi < low then hi else low
  { x.put rd (unsigned w 32) with clamp := x.clamp || decide (v < lo) || decide (hi < low) }

/-- The polynomials of R351. -/
def tahrCrcSpec (mode state : Nat) : CrcSpec :=
  match mode with
  | 0 => ⟨8, 0x1D, state % 2 ^ 8, false, 0⟩
  | 1 => ⟨16, 0x1021, state % 2 ^ 16, false, 0⟩
  | 2 => ⟨32, 0x1EDC6F41, reflectBits state 32, true, 0⟩
  | _ => ⟨32, 0x04C11DB7, reflectBits state 32, true, 0⟩

/-- Whether a branch condition holds. -/
def tahrCond (cond a b : Nat) : Bool :=
  match cond with
  | 0 => a == b
  | 1 => a != b
  | 2 => decide (s32 a < s32 b)
  | 3 => decide (s32 b ≤ s32 a)
  | 4 => a < b
  | 5 => b ≤ a
  | 6 => a == 0
  | 7 => a != 0
  | _ => true

/-! ### Encodings (R344 to R346) -/

/-- Whether the reserved fields of an instruction are zero, and its function, condition and mode codes known. -/
def tahrLegal (w : Nat) : Bool :=
  let zero := fun lo n => bits w lo n == 0
  match bits w 26 6 with
  | 0x00 => zero 0 26
  | 0x01 => zero 4 10
  | 0x02 => true
  | 0x03 => true
  | 0x04 => true
  | 0x05 => true
  | 0x06 => bits w 5 2 != 3 && zero 7 11
  | 0x07 => true
  | 0x08 => true
  | 0x09 => true
  | 0x0A => true
  | 0x0B => true
  | 0x0C => true
  | 0x0D => true
  | 0x0E => true
  | 0x10 => zero 0 7
  | 0x11 => zero 0 7
  | 0x12 => zero 0 7
  | 0x13 => zero 0 7
  | 0x14 => zero 0 7
  | 0x15 => zero 4 10
  | 0x16 => zero 4 10
  | 0x17 => zero 4 10
  | 0x18 => zero 11 3 && zero 0 9
  | 0x20 => bits w 22 4 ≤ 8 && (bits w 22 4 < 6 || zero 14 4) && (bits w 22 4 != 8 || zero 18 4)
  | 0x21 => true
  | 0x22 => zero 4 10
  | 0x28 => zero 0 19
  | 0x29 => zero 0 19
  | 0x2A => zero 16 3
  | 0x2B => zero 0 22
  | 0x2C => zero 4 10
  | 0x2D => zero 4 10
  | 0x3F => zero 0 26
  | _ => false

/-! ### One instruction -/

/-- What an instruction does: it faults with a code and an address, stalls, or is done with the next pc. -/
inductive TahrResult where
  | fault (c : ErrCode) (addr : Nat)
  | faultIn (s : State) (c : ErrCode) (addr : Nat)
  | stall (s : State)
  | done (s : State) (pc : Nat)
  | rest (s : State) (state : Nat) (pc : Nat)

/-- Whether a sequencer is suspended: its ring is paused, or pauses (R360). -/
def State.tahrSuspended (s : State) (seq : Nat) : Bool :=
  match siteOf seq, (s.tahrSeq seq).ring with
  | .stream, none => true
  | .stream, some n => s.ringSt n == 3 || (s.ring n).pausing
  | _, _ => false

/-- Runs one instruction of a sequencer where its opcode is the row's: a word that is no instruction belongs to the
row of NOP. An ECC error strikes the fetch; a lockstep difference leaves nothing of the step (R355); a frozen island
completes none (R41). -/
def State.tahrRun (s : State) (seq op : Nat) (upset : TahrUpset)
    (effect : State → TahrSeq → Nat → Nat → TahrResult) : State :=
  let x := s.tahrSeq seq
  let st := s.sqState seq
  let pc := s.fget F.tsqState_pc 4 0 seq
  if !(st == sqRunning || st == sqStalled || (st == sqWaiting && op == 0x2A)) || x.code.isEmpty
      || s.tahrSuspended seq || s.logicFrozen (seqDie seq) then s
  else
    match x.code[pc]? with
    | none => if op = 0 then s.newEvent.tahrFault seq E.tsqPc pc else s
    | some w =>
      if (bits w 26 6 != op || !tahrLegal w) && !(op == 0 && !tahrLegal w) then s
      else if upset = .eccUncorrectable then s.newEvent.tahrFault seq E.tsqEccUncorr pc
      else
        let s := if upset = .eccCorrected then
            (s.fadd F.tsqCounts_ecc_corrected 4 0 seq 1).raiseSide
              { recOf E.tsqEccCorr (seqDie seq) 0x0D seq with detail := seq + pc * 2 ^ 8 } else s
        if !tahrLegal w then s.newEvent.tahrFault seq E.tsqIllegal pc
        else if upset = .lockstep ∧ seq < 32 then s.newEvent.tahrFault seq E.tsqLockstep pc
        else
          match effect s x w pc with
          | .fault c a => s.newEvent.tahrFault seq c a
          | .faultIn t c a => t.tahrFault seq c a
          | .stall t => t.setSqState seq sqStalled
          | .done t p => (t.fset F.tsqState_pc 4 0 seq p).setSqState seq sqRunning
          | .rest t st p => (t.fset F.tsqState_pc 4 0 seq p).setSqState seq st

/-- The next instruction in order. -/
def tahrNext (pc : Nat) : Nat := (pc + 1) % 4096

/-- An instruction that changes the sequencer's own state only. -/
def State.tahrStep (s : State) (seq op : Nat) (upset : TahrUpset) (f : TahrSeq → Nat → Nat → TahrSeq) : State :=
  s.tahrRun seq op upset (fun s x w pc => .done (s.setTahrSeq seq (f x w pc)) (tahrNext pc))

/-- The fields of an instruction. -/
def wRd (w : Nat) : Nat := bits w 22 4
def wRa (w : Nat) : Nat := bits w 18 4
def wRb (w : Nat) : Nat := bits w 14 4
def wImm18 (w : Nat) : Nat := unsigned (signed (bits w 0 18) 18) 32
def wImm22 (w : Nat) : Nat := unsigned (signed (bits w 0 22) 22) 32

/-- An instruction that reads n bytes of memory at an address aligned to `align`. -/
def tahrLoad (s : State) (seq : Nat) (x : TahrSeq) (pc a n align : Nat) (f : TahrSeq → List Byte → TahrSeq) :
    TahrResult :=
  if a % align ≠ 0 ∨ 0x10000 < a + n ∨ tahrRange (siteOf seq) false a n = false then .fault E.tsqAddress a
  else
    match s.tahrBytes seq a n with
    | (t, none) => .faultIn t E.tsqAddress a
    | (t, some bs) => .done (t.setTahrSeq seq (f x bs)) (tahrNext pc)

/-- An instruction that writes bytes at an address aligned to their number. -/
def tahrStore (s : State) (seq pc a : Nat) (bs : List Byte) : TahrResult :=
  if a % bs.length ≠ 0 ∨ 0x10000 < a + bs.length ∨ tahrRange (siteOf seq) true a bs.length = false then
    .fault E.tsqAddress a
  else .done (s.tahrWrite seq a bs) (tahrNext pc)

/-- A jump or branch to a target (R346). -/
def tahrJump (s : State) (x : TahrSeq) (target : Int) : TahrResult :=
  if target < 0 ∨ (x.code.length : Int) ≤ target then .fault E.tsqPc (unsigned target 12)
  else .done s target.toNat

end Sys2Proof.Machine
end

