-- ==== Sys2Proof/Machine/Tahr.lean ====
section
/-! DEFINITION. The instructions and events of the tahr sequencers: the rows of chapter 12. -/

namespace Sys2Proof.Machine

/-! ### Registers and arithmetic (R345 to R349) -/

def execTahrNop (seq : Nat) (upset : TahrUpset) (s : State) : Host.Outcome State Fault Refusal :=
  .next (s.tahrStep seq 0x00 upset (fun x _ _ => x))

def execTahrAlu (seq : Nat) (upset : TahrUpset) (s : State) : Host.Outcome State Fault Refusal :=
  .next (s.tahrStep seq 0x01 upset (fun x w _ => x.alu (wRd w) (bits w 0 4) (x.reg (wRa w)) (x.reg (wRb w))))

def execTahrAddi (seq : Nat) (upset : TahrUpset) (s : State) : Host.Outcome State Fault Refusal :=
  .next (s.tahrStep seq 0x02 upset (fun x w _ => x.put (wRd w) (x.reg (wRa w) + wImm18 w)))

def execTahrAndi (seq : Nat) (upset : TahrUpset) (s : State) : Host.Outcome State Fault Refusal :=
  .next (s.tahrStep seq 0x03 upset (fun x w _ => x.put (wRd w) (Nat.land (x.reg (wRa w)) (wImm18 w))))

def execTahrOri (seq : Nat) (upset : TahrUpset) (s : State) : Host.Outcome State Fault Refusal :=
  .next (s.tahrStep seq 0x04 upset (fun x w _ => x.put (wRd w) (Nat.lor (x.reg (wRa w)) (wImm18 w))))

def execTahrXori (seq : Nat) (upset : TahrUpset) (s : State) : Host.Outcome State Fault Refusal :=
  .next (s.tahrStep seq 0x05 upset (fun x w _ => x.put (wRd w) (Nat.xor (x.reg (wRa w)) (wImm18 w))))

/-- SHI: the kind of shift stands in imm18[6:5] by the order of SHL, SHR and SRA. -/
def execTahrShi (seq : Nat) (upset : TahrUpset) (s : State) : Host.Outcome State Fault Refusal :=
  .next (s.tahrStep seq 0x06 upset (fun x w _ => x.put (wRd w) (tahrAlu (5 + bits w 5 2) (x.reg (wRa w)) (bits w 0 5))))

def execTahrMovi (seq : Nat) (upset : TahrUpset) (s : State) : Host.Outcome State Fault Refusal :=
  .next (s.tahrStep seq 0x07 upset (fun x w _ => x.put (wRd w) (wImm22 w)))

def execTahrLui (seq : Nat) (upset : TahrUpset) (s : State) : Host.Outcome State Fault Refusal :=
  .next (s.tahrStep seq 0x08 upset (fun x w _ => x.put (wRd w) (bits w 0 22 * 1024)))

/-- BEXT: register ra is a 32-bit frame, LSB-first. -/
def execTahrBext (seq : Nat) (upset : TahrUpset) (s : State) : Host.Outcome State Fault Refusal :=
  .next (s.tahrRun seq 0x10 upset (fun s x w pc =>
    let pos := bits w 13 5
    let n := bits w 8 5 + 1
    if 32 < pos + n then .fault E.tsqField 0
    else
      let v := readField false (bit w 7) pos n 0 (leBytes (x.reg (wRa w)) 4)
      .done (s.setTahrSeq seq (x.put (wRd w) v)) (tahrNext pc)))

/-- BINS: the low bits of rd go into a field of register ra, which takes the result. -/
def execTahrBins (seq : Nat) (upset : TahrUpset) (s : State) : Host.Outcome State Fault Refusal :=
  .next (s.tahrRun seq 0x11 upset (fun s x w pc =>
    let pos := bits w 13 5
    let n := bits w 8 5 + 1
    if 32 < pos + n then .fault E.tsqField 0
    else
      let v := leNat (writeField false pos n 0 (x.reg (wRd w)) (leBytes (x.reg (wRa w)) 4))
      .done (s.setTahrSeq seq (x.put (wRa w) v)) (tahrNext pc)))

def execTahrTime (seq : Nat) (upset : TahrUpset) (s : State) : Host.Outcome State Fault Refusal :=
  .next (s.tahrStep seq 0x2B upset (fun x w _ => x.put (wRd w) s.periods))

def execTahrTmr (seq : Nat) (upset : TahrUpset) (s : State) : Host.Outcome State Fault Refusal :=
  .next (s.tahrStep seq 0x2C upset (fun x w _ => { x with timer := x.reg (wRa w), timerFrom := s.periods }))

def execTahrGetf (seq : Nat) (upset : TahrUpset) (s : State) : Host.Outcome State Fault Refusal :=
  .next (s.tahrStep seq 0x2D upset (fun x w _ =>
    { x.put (wRd w) (x.sat.toNat + 2 * x.clamp.toNat + 4 * x.miss.toNat) with
      sat := false, clamp := false, miss := false }))

def execTahrCrc (seq : Nat) (upset : TahrUpset) (s : State) : Host.Outcome State Fault Refusal :=
  .next (s.tahrStep seq 0x17 upset (fun x w _ =>
    x.put (wRd w) (crcOf (tahrCrcSpec (bits w 2 2) (x.reg (wRd w))) (leBytes (x.reg (wRa w)) (bits w 0 2 + 1)))))

/-! ### Memory (R343, R348 to R351) -/

/-- LD, LDH and LDB: n bytes, zero-extended. -/
def State.tahrLoadOp (s : State) (seq op n : Nat) (upset : TahrUpset) : State :=
  s.tahrRun seq op upset (fun s x w pc =>
    tahrLoad s seq x pc ((x.reg (wRa w) + wImm18 w) % 2 ^ 32) n n (fun x bs => x.put (wRd w) (leNat bs)))

def execTahrLd (seq : Nat) (upset : TahrUpset) (s : State) : Host.Outcome State Fault Refusal :=
  .next (s.tahrLoadOp seq 0x09 4 upset)

def execTahrLdh (seq : Nat) (upset : TahrUpset) (s : State) : Host.Outcome State Fault Refusal :=
  .next (s.tahrLoadOp seq 0x0A 2 upset)

def execTahrLdb (seq : Nat) (upset : TahrUpset) (s : State) : Host.Outcome State Fault Refusal :=
  .next (s.tahrLoadOp seq 0x0B 1 upset)

/-- ST, STH and STB: the low n bytes of rd. -/
def State.tahrStoreOp (s : State) (seq op n : Nat) (upset : TahrUpset) : State :=
  s.tahrRun seq op upset (fun s x w pc =>
    tahrStore s seq pc ((x.reg (wRa w) + wImm18 w) % 2 ^ 32) (leBytes (x.reg (wRd w)) n))

def execTahrSt (seq : Nat) (upset : TahrUpset) (s : State) : Host.Outcome State Fault Refusal :=
  .next (s.tahrStoreOp seq 0x0C 4 upset)

def execTahrSth (seq : Nat) (upset : TahrUpset) (s : State) : Host.Outcome State Fault Refusal :=
  .next (s.tahrStoreOp seq 0x0D 2 upset)

def execTahrStb (seq : Nat) (upset : TahrUpset) (s : State) : Host.Outcome State Fault Refusal :=
  .next (s.tahrStoreOp seq 0x0E 1 upset)

/-- BEXTM: the field at bit rb of the frame at data address ra. -/
def execTahrBextm (seq : Nat) (upset : TahrUpset) (s : State) : Host.Outcome State Fault Refusal :=
  .next (s.tahrRun seq 0x12 upset (fun s x w pc =>
    let n := bits w 9 5 + 1
    let pos := x.reg (wRb w)
    let sp := fieldSpan (bit w 8) pos n
    tahrLoad s seq x pc (x.reg (wRa w) + sp.1) sp.2 1 (fun x bs =>
      x.put (wRd w) (readField (bit w 8) (bit w 7) pos n sp.1 bs))))

/-- BINSM: the low bits of rd go into the field at bit rb of the frame at data address ra. -/
def execTahrBinsm (seq : Nat) (upset : TahrUpset) (s : State) : Host.Outcome State Fault Refusal :=
  .next (s.tahrRun seq 0x13 upset (fun s x w pc =>
    let n := bits w 9 5 + 1
    let pos := x.reg (wRb w)
    let sp := fieldSpan (bit w 8) pos n
    let a := x.reg (wRa w) + sp.1
    if 0x10000 < a + sp.2 ∨ tahrRange (siteOf seq) true a sp.2 = false then .fault E.tsqAddress a
    else
      match s.tahrBytes seq a sp.2 with
      | (t, none) => .faultIn t E.tsqAddress a
      | (t, some bs) => .done (t.tahrWrite seq a (writeField (bit w 8) pos n sp.1 (x.reg (wRd w)) bs)) (tahrNext pc)))

def execTahrRscl (seq : Nat) (upset : TahrUpset) (s : State) : Host.Outcome State Fault Refusal :=
  .next (s.tahrRun seq 0x14 upset (fun s x w pc =>
    tahrLoad s seq x pc (x.reg (wRb w)) 16 4 (fun x bs => x.rescale (wRd w) (x.reg (wRa w)) (bits w 9 5) bs)))

/-- TLX: an entry by its index; a width code that no rule names gives a free value. -/
def execTahrTlx (seq : Nat) (upset : TahrUpset) (s : State) : Host.Outcome State Fault Refusal :=
  .next (s.tahrRun seq 0x15 upset (fun s x w pc =>
    let t := x.reg (wRb w)
    if t % 4 ≠ 0 ∨ 0x10000 < t + 8 ∨ tahrRange (siteOf seq) false t 8 = false then .fault E.tsqAddress t
    else
      match s.tahrBytes seq t 8 with
      | (q, none) => .faultIn q E.tsqAddress t
      | (q, some bs) =>
        let i := x.reg (wRa w)
        let width := bits (leAt bs 0 4) 16 2
        if leAt bs 0 2 ≤ i then
          .done (q.setTahrSeq seq { x.put (wRd w) (leAt bs 4 4) with miss := true }) (tahrNext pc)
        else if width = 3 then
          let r := q.fresh 32
          .done (r.2.setTahrSeq seq (x.put (wRd w) r.1)) (tahrNext pc)
        else tahrLoad q seq x pc (t + 8 + i * 2 ^ width) (2 ^ width) 1 (fun x bs => x.put (wRd w) (leNat bs))))

/-- A binary search for a key among count pairs at an address: the state after its reads, and the value found; none
outside where an address may not be read. -/
def State.keyedSearch (s : State) (seq a key lo hi : Nat) : Nat → State × Option (Option Nat)
  | 0 => (s, some none)
  | fuel + 1 =>
    if hi ≤ lo then (s, some none)
    else
      let mid := (lo + hi) / 2
      let p := a + 8 * mid
      if 0x10000 < p + 8 ∨ tahrRange (siteOf seq) false p 8 = false then (s, none)
      else
        match s.tahrBytes seq p 8 with
        | (t, none) => (t, none)
        | (t, some bs) =>
          let k := leAt bs 0 4
          if k = key then (t, some (some (leAt bs 4 4)))
          else if k < key then t.keyedSearch seq a key (mid + 1) hi fuel
          else t.keyedSearch seq a key lo mid fuel

def execTahrTlk (seq : Nat) (upset : TahrUpset) (s : State) : Host.Outcome State Fault Refusal :=
  .next (s.tahrRun seq 0x16 upset (fun s x w pc =>
    let t := x.reg (wRb w)
    if t % 4 ≠ 0 ∨ 0x10000 < t + 8 ∨ tahrRange (siteOf seq) false t 8 = false then .fault E.tsqAddress t
    else
      match s.tahrBytes seq t 8 with
      | (q, none) => .faultIn q E.tsqAddress t
      | (q, some bs) =>
        match q.keyedSearch seq (t + 8) (x.reg (wRa w)) 0 (leAt bs 0 2) 17 with
        | (q, none) => .faultIn q E.tsqAddress t
        | (q, some (some v)) => .done (q.setTahrSeq seq (x.put (wRd w) v)) (tahrNext pc)
        | (q, some none) =>
          .done (q.setTahrSeq seq { x.put (wRd w) (leAt bs 4 4) with miss := true }) (tahrNext pc)))

def execTahrCrcm (seq : Nat) (upset : TahrUpset) (s : State) : Host.Outcome State Fault Refusal :=
  .next (s.tahrRun seq 0x18 upset (fun s x w pc =>
    let n := x.reg (wRb w)
    if 2048 < n then
      let r := s.fresh 32
      .done (r.2.setTahrSeq seq (x.put (wRd w) r.1)) (tahrNext pc)
    else tahrLoad s seq x pc (x.reg (wRa w)) n 1 (fun x bs =>
      x.put (wRd w) (crcOf (tahrCrcSpec (bits w 9 2) (x.reg (wRd w))) bs))))

/-! ### Control (R346) -/

def execTahrBr (seq : Nat) (upset : TahrUpset) (s : State) : Host.Outcome State Fault Refusal :=
  .next (s.tahrRun seq 0x20 upset (fun s x w pc =>
    if tahrCond (wRd w) (x.reg (wRa w)) (x.reg (wRb w)) then tahrJump s x (pc + signed (bits w 0 14) 14)
    else .done s (tahrNext pc)))

def execTahrJal (seq : Nat) (upset : TahrUpset) (s : State) : Host.Outcome State Fault Refusal :=
  .next (s.tahrRun seq 0x21 upset (fun s x w pc =>
    tahrJump (s.setTahrSeq seq (x.put (wRd w) (pc + 1))) x (pc + signed (bits w 0 22) 22)))

def execTahrJr (seq : Nat) (upset : TahrUpset) (s : State) : Host.Outcome State Fault Refusal :=
  .next (s.tahrRun seq 0x22 upset (fun s x w pc =>
    tahrJump (s.setTahrSeq seq (x.put (wRd w) (pc + 1))) x (x.reg (wRa w) % 4096)))

/-! ### Ports, events and activations (R352 to R354) -/

/-- The port of an instruction. -/
def wPort (w : Nat) : Nat := bits w 19 3

/-- RECV: on mp0 of a gateway sequencer the windows take the notice that it reads. -/
def execTahrRecv (seq : Nat) (upset : TahrUpset) (s : State) : Host.Outcome State Fault Refusal :=
  .next (s.tahrRun seq 0x28 upset (fun s x w pc =>
    let p := wPort w
    if !(inPorts (siteOf seq)).contains p then .fault E.tsqPort p
    else if seq < 32 then
      match x.waiting with
      | [] => .stall s
      | n :: rest =>
        .done (s.setTahrSeq seq { x.put (wRd w) n.word with notice := some n, own := true, waiting := rest })
          (tahrNext pc)
    else
      match storeGet [] x.ports p with
      | [] => .stall s
      | v :: rest => .done (s.setTahrSeq seq { x.put (wRd w) v with ports := storePut x.ports p rest }) (tahrNext pc)))

/-- Submits the staged descriptor of a STREAM sequencer at its ring's tail, checked like a write of software (R171): a
stall where the ring has no free entry, and TSQ_ADDRESS where the write is refused. -/
def State.submitStaged (s : State) (seq n pc : Nat) : TahrResult :=
  let used := (s.ringTail n + 4096 - s.ringHead n) % 4096
  let a := s.descAddr n (s.ringTail n)
  if min 4095 (2 ^ s.fget F.seRingBase_size_log2 (n / 16) (ringReg n) 0) ≤ used then .stall s
  else
    match s.ringWrite n a ((List.range 64).map (fun i => storeGet 0 (s.tahrSeq seq).buffer i)) with
    | (t, some _) => .faultIn t E.tsqAddress a
    | (t, none) => .done (t.fset F.seRingTail_tail (n / 16) (ringReg n) 0 (ringNext (s.ringTail n))) (tahrNext pc)

/-- SEND: the egress stage, the ring, or the site's hardware takes the word at once. -/
def execTahrSend (seq : Nat) (upset : TahrUpset) (s : State) : Host.Outcome State Fault Refusal :=
  .next (s.tahrRun seq 0x29 upset (fun s x w pc =>
    let p := wPort w
    let v := x.reg (wRd w)
    if !(outPorts (siteOf seq)).contains p then .fault E.tsqPort p
    else
      match siteOf seq with
      | .gateway =>
        let m := (List.range (bits v 16 12)).map (fun i => storeGet 0 x.buffer i)
        let ingress := if x.own then x.notice.map Notice.time else none
        .done (s.egress seq (bits v 0 14) m ingress) (tahrNext pc)
      | .stream =>
        match x.ring with
        | none => .stall s
        | some n => s.submitStaged seq n pc
      | _ => .done (s.send (.notice (0xC00 + seq * 8 + p) v)) (tahrNext pc)))

/-- The pending event bits of a sequencer: levels of its input ports, and edges. -/
def TahrSeq.pendingBits (x : TahrSeq) (seq : Nat) : Nat :=
  let levels := (inPorts (siteOf seq)).filter (fun p =>
    if seq < 32 then !x.waiting.isEmpty else !(storeGet [] x.ports p).isEmpty)
  maskOf levels + x.events / 256 * 256

/-- The end of an activation: its length enters the longest. -/
def State.endActivation (s : State) (seq : Nat) : State :=
  let x := s.tahrSeq seq
  match x.started with
  | none => s
  | some t =>
    let s := s.setTahrSeq seq { x with started := none, own := false }
    s.fset F.tsqCounts_max_periods 4 0 seq
      (max (s.fget F.tsqCounts_max_periods 4 0 seq) (min (s.periods - t) 65535))

/-- WAIT: a swap that is asked for starts its copy, a stop takes effect, and bits that the mask selects are returned
once one is set. -/
def execTahrWait (seq : Nat) (upset : TahrUpset) (s : State) : Host.Outcome State Fault Refusal :=
  .next (s.tahrRun seq 0x2A upset (fun s _ w pc =>
    let s := s.endActivation seq
    let x := s.tahrSeq seq
    if x.stopping then .rest (s.setTahrSeq seq { x with stopping := false }) sqStopped pc
    else if x.swap.isSome then .rest s sqSwapping pc
    else
      let got := Nat.land (x.pendingBits seq) (bits w 0 16)
      if got = 0 then .rest s sqWaiting pc
      else
        let x := { x.put (wRd w) got with
          events := Nat.land x.events (0xFFFF - Nat.land got 0xFF00), started := some s.periods }
        .done ((s.setTahrSeq seq x).fwrap F.tsqCounts_activations 4 0 seq 1) (tahrNext pc)))

def execTahrHalt (seq : Nat) (upset : TahrUpset) (s : State) : Host.Outcome State Fault Refusal :=
  .next (s.tahrRun seq 0x3F upset (fun s _ _ pc => .rest (s.endActivation seq) sqIdle (tahrNext pc)))

/-- The periodic timer expires, once its period has passed since it was set or expired. -/
def execTahrTimer (seq : Nat) (s : State) : Host.Outcome State Fault Refusal :=
  let x := s.tahrSeq seq
  if x.timer = 0 ∨ s.periods < x.timerFrom + x.timer then .next s
  else .next (s.setTahrSeq seq { x with events := setBit x.events 8 true, timerFrom := x.timerFrom + x.timer })

/-- A message reaches an input port (event 0 to 7), or a site event arises (10 to 15). A port FIFO holds 16 words; the
notices of a gateway come through its ingress. -/
def execTahrEvent (seq event : Nat) (message : List Nat) (s : State) : Host.Outcome State Fault Refusal :=
  let x := s.tahrSeq seq
  if 88 ≤ seq then .next s
  else if (siteEvents (siteOf seq)).contains event then
    .next (s.setTahrSeq seq { x with events := setBit x.events event true })
  else if (inPorts (siteOf seq)).contains event && 32 ≤ seq
      && (storeGet [] x.ports event).length + message.length ≤ 16 then
    .next (s.setTahrSeq seq { x with
      ports := storePut x.ports event (storeGet [] x.ports event ++ message.map (· % 2 ^ 32)) })
  else .next s

/-- The activation limit of a site in periods (R340). -/
def activationLimit : Site → Option Nat
  | .gateway => some 512
  | .input => some 1920
  | .governor => some 64
  | .stream => none

/-- An activation reaches its site's limit (R354). -/
def execTahrActivationLimit (seq : Nat) (s : State) : Host.Outcome State Fault Refusal :=
  let st := s.sqState seq
  match (s.tahrSeq seq).started, activationLimit (siteOf seq) with
  | some t, some lim =>
    if t + lim ≤ s.periods && (st == sqRunning || st == sqStalled) then
      .next (s.newEvent.tahrFault seq E.tsqActivation (s.fget F.tsqState_pc 4 0 seq))
    else .next s
  | _, _ => .next s

/-! ### Restarts, stops, swaps and bindings (R356, R359, R360, R363) -/

/-- The automatic restart after a fault. -/
def execTahrRestart (seq : Nat) (s : State) : Host.Outcome State Fault Refusal :=
  if s.sqState seq == sqFaulted && (siteOf seq == .gateway || siteOf seq == .governor) && seq < 88 then
    .next (s.tahrRestart seq)
  else .next s

/-- Whether an initiator may write TSQ_CTRL and TSQ_SWAP. -/
def tsqRight (who : Initiator) : Bool :=
  match who with
  | .sentinel _ => true
  | .hardware => true
  | w => w.isSteward

def execTsqRestart (who : Initiator) (seq : Nat) (s : State) : Host.Outcome State Fault Refusal :=
  let a := fldPlace F.tsqCtrl_restart 4 0
  if !tsqRight who || 72 ≤ seq || !(s.sqState seq == sqFaulted || s.sqState seq == sqStopped) then
    .next (s.dropWrite who a)
  else .next (s.tahrRestart seq).answerOk

def execTsqStop (who : Initiator) (seq : Nat) (s : State) : Host.Outcome State Fault Refusal :=
  let a := fldPlace F.tsqCtrl_stop 4 0
  if !tsqRight who || seq < 32 || 64 ≤ seq then .next (s.dropWrite who a)
  else .next (s.setTahrSeq seq { s.tahrSeq seq with stopping := true }).answerOk

/-- Whether the image declares a table and a variant of it for a gateway sequencer. -/
def State.swapDeclared (s : State) (seq table variant : Nat) : Bool :=
  match storeFind s.tahr.programs seq with
  | none => false
  | some p => seq < 32 && table < p.tables.length && (variant == 0
      || s.tahr.variants.any (fun v => v.1 == seq && v.2.1 == table && v.2.2.1 == variant))

def execTableSwap (who : Initiator) (seq table variant : Nat) (s : State) : Host.Outcome State Fault Refusal :=
  let a := fldPlace F.tsqSwap_go 4 0
  if !tsqRight who || s.fon F.tsqSwap_busy 4 0 0 then .next (s.dropWrite who a)
  else
    let s := s.setReg a (seq % 128 + table % 8 * 2 ^ 8 + variant % 256 * 2 ^ 11)
    if !s.swapDeclared seq table variant then
      .next ((s.fset F.tsqSwap_status 4 0 0 1).raiseRec
        { recOf E.tsqSwapRefused 4 0x0D seq with detail := seq + table * 2 ^ 8 + variant * 2 ^ 16 }).answerOk
    else
      let s := (s.fset F.tsqSwap_busy 4 0 0 1).setTahrSeq seq { s.tahrSeq seq with swap := some (table, variant) }
      .next (if s.sqState seq = sqWaiting then s.setSqState seq sqSwapping else s).answerOk

/-- The copy of a swap ends: the table holds the variant, and e9 is set. -/
def execTableSwapDone (seq : Nat) (s : State) : Host.Outcome State Fault Refusal :=
  let x := s.tahrSeq seq
  match x.swap, storeFind s.tahr.programs seq with
  | some (t, v), some p =>
    if s.sqState seq ≠ sqSwapping then .next s
    else
      let tab := p.tables[t]?.getD (0, 0, 0)
      let bytes := if v = 0 then byteSlice p.data tab.1 tab.2.1
        else match s.tahr.variants.find? (fun y => y.1 == seq && y.2.1 == t && y.2.2.1 == v) with
          | none => []
          | some y => y.2.2.2
      let variants := (List.range p.tables.length).map (fun i => if i = t then v else x.variants[i]?.getD 0)
      let s := s.setTahrSeq seq { x with data := putOp x.data tab.1 bytes, variants, events := setBit x.events 9 true }
      .next ((s.endSwap seq 0).setSqState seq sqWaiting)
  | _, _ => .next s

/-- The ring that a value of TSQ_SE_BIND names. -/
def bindRing (v : Nat) : Nat := bits v 2 2 * 16 + bits v 0 2 * 4 + bits v 13 2

/-- A control core binds a ring to a program of the store. -/
def execSeBind (who : Initiator) (value : Word) (s : State) : Host.Outcome State Fault Refusal :=
  let v := value.toNat
  let a := fldPlace F.tsqSeBind_se 4 0
  let n := bindRing v
  let seq := 72 + n / 4
  let program := bits v 4 8
  let control := match who with
    | .control _ => true
    | .hardware => true
    | _ => false
  if !control then .next (s.dropWrite who a)
  else
    let busy := match (s.tahrSeq seq).ring with
      | none => false
      | some r => r != n
    match storeFind s.tahr.programs (256 + program), busy with
    | some p, false =>
      let s := s.setTahrSeq seq { ring := some n }
      let s := s.setRing n { s.ring n with program := some program }
      .next ((s.tahrStart seq p).fset F.tsqState_program 4 0 seq program).answerOk
    | _, _ => .next (s.dropReg E.tsqBindRefused who a)

/-- A control core ends the program of a ring: its sequencer stops at its next instruction, and a staged descriptor is
discarded. -/
def execSeUnbind (who : Initiator) (value : Word) (s : State) : Host.Outcome State Fault Refusal :=
  let n := bindRing value.toNat
  let seq := 72 + n / 4
  let control := match who with
    | .control _ => true
    | .hardware => true
    | _ => false
  if !control then .next (s.dropWrite who (fldPlace F.tsqSeBind_se 4 0))
  else if (s.tahrSeq seq).ring = some n then
    let s := (s.setTahrSeq seq {}).setRing n { s.ring n with program := none }
    .next (s.setSqState seq sqIdle).answerOk
  else .next s.answerOk

end Sys2Proof.Machine
end

