-- ==== Sys2Proof/Machine/Power.lean ====
section
/-! DEFINITION. Pace, droop, crossings, the cap, parking, wakes and heat: the rows of chapters 2 and 15. -/

namespace Sys2Proof.Machine

/-! ### Pace monitors (R38, R44, R47) -/

/-- The natural steps that a monitor counts in 2 µs at 1.66 and at 1.05 G steps/s. -/
def fixedLow : Nat := 3320
def chamoisLow : Nat := 2100

/-- A monitor delivers its count of a period: clusters 0 to 31, and the chamois unit as 32. -/
def execPaceMonitorPeriod (cluster steps : Nat) (s : State) : Host.Outcome State Fault Refusal :=
  if cluster < 32 then
    let s := s.setIsl F.pwrIsl_monitor (cluster / 8) (cluster % 8) (min (steps / 20) 2047)
    let p := s.power
    let low := steps < fixedLow
    .next { s with power := { p with
      low := storePut p.low cluster (if low then storeGet 0 p.low cluster + 1 else 0)
      good := storePut p.good cluster (if low then 0 else min 50 (storeGet 0 p.good cluster + 1)) } }
  else if cluster = 32 then
    let s := s.fset F.chuStatus_pace 4 0 0 (min (steps / 20) 255)
    let y := s.safety
    let low := steps < chamoisLow
    .next { s with safety := { y with chuLow := if low then y.chuLow + 1 else 0
                                      chuGood := if low then 0 else min 50 (y.chuGood + 1) } }
  else .next s

/-- The fifth low reading in a row of a fixed-pace island. -/
def execFixedPaceLost (s : State) : Host.Outcome State Fault Refusal :=
  match (List.range 32).find? (fun c =>
      s.isl F.pwrIsl_fixed (c / 8) (c % 8) == 1 && 5 ≤ storeGet 0 s.power.low c) with
  | none => .next s
  | some c => .next (s.losePace (c / 8) (c % 8))

/-- Who may write PWR_CAP, PWR_FIXED_REQ and PWR_PARK of a die. -/
def powerRight (who : Initiator) (d : Nat) : Bool := who.isSteward || who == .governor d || who == .tahr (64 + d) || who == .hardware

/-- Whether an island can be held at 0.78 V or above in the present cap and thermal state: no emergency, a cap that is
met, no level of its die lowered by the cap or by heat, and the level at hand. -/
def State.canHold (s : State) (d i : Nat) : Bool :=
  s.power.emergency.isNone && !s.fon F.pwrCap_unreachable 4 0 0 && !s.power.throttled.any (fun k => k / 16 == d)
    && storeGet 0 s.power.stage d < 2 && !s.inMarginHold d i
    && (78 ≤ s.isl F.pwrIsl_target d i || (storeGet 0 s.power.stage d == 0 && s.canTake d i 78))

/-- A request to enter fixed pace again (R45): where it is accepted the levels are asked for at once, and the clusters
wait for their generator. DESIGN CHOICE: a request that meets neither condition is answered LEVEL. -/
def execFixedPaceRequest (who : Initiator) (die : Nat) (value : Word) (s : State) :
    Host.Outcome State Fault Refusal :=
  let v := value.toNat
  let cs := F.pwrFixedReq_clusters.of v
  let named := onesBelow cs 8
  if !powerRight who die then .next (s.dropWrite who (fldPlace F.pwrFixedReq_clusters die 0))
  else
    let s := s.fset F.pwrFixedReq_clusters die 0 0 cs
    if !bit v 8 then .next s.answerOk
    else
      let status := if 4 ≤ die then 3
        else if !named.all (s.canHold die) then 1
        else if !named.all (fun c => 50 ≤ storeGet 0 s.power.good (die * 8 + c)) then 2
        else 0
      let s := (s.fset F.pwrFixedReq_status die 0 0 status).answerOk
      if status ≠ 0 then .next s
      else
        let s := named.foldl (fun s c => if 78 ≤ s.isl F.pwrIsl_target die c then s else s.requestLevel die c 78) s
        let s := { s with power := { s.power with
          fixPending := s.power.fixPending ++ named.map (· + die * 8) } }
        let s := s.fset F.pwrFixedReq_busy die 0 0 (!s.power.fixPending.isEmpty).toNat
        let s := (List.range 8).foldl (fun s d => s.fset F.pwrStatus_fixed_pace_lost d 0 0 0) s
        .next s.refreshReason

/-- A cluster that waits for fixed pace at a release of its generator: it enters once its set point stands at 0.78 V or
above, and admission against the corner pace ends (R241); one whose level was lowered meanwhile does not enter. -/
def State.enterFixed (s : State) (d i : Nat) : State :=
  let c := d * 8 + i
  if !s.power.fixPending.contains c then s
  else
    let level := 78 ≤ s.isl F.pwrIsl_target d i
    if level && s.isl F.pwrIsl_setpoint d i < 78 then s
    else
      let s := { s with power := { s.power with fixPending := s.power.fixPending.filter (· != c) } }
      if level then
        (List.range 64).foldl (fun s p => s.fset F.schRtUse_admit_corner 4 p 0 0) (s.setIsl F.pwrIsl_fixed d i 1)
      else s

/-- The tokens that a release gives an island: 125 at fixed pace, the rate of a pace limit below it, none to an island
at natural pace without a limit (R42, R426). -/
def State.tokenRate (s : State) (d i : Nat) : Nat :=
  let n := s.isl F.pwrIsl_pace_limit d i
  if s.isl F.pwrIsl_fixed d i = 1 then (if n = 0 then 125 else min n 125) else n

/-- An island's tokens after a release, of which it has used so many since the last one: 250 at most, the rest is
counted as slip. -/
def State.refill (s : State) (d i used : Nat) : State :=
  let n := s.tokenRate d i
  if n = 0 then s
  else
    let have' := storeGet 0 s.power.tokens (d * 8 + i) - used + n
    let s := { s with power := { s.power with tokens := storePut s.power.tokens (d * 8 + i) (min have' 250) } }
    s.fadd F.pwrIslSlip_slip d 0 i (have' - 250)

/-- A token generator releases to all its islands: that of a compute die every 3 oscillator periods (R42), that of the
chamois unit, as 4, 625 tokens every 24 (R47). A request of R45 that was accepted takes effect. -/
def execPaceTokenRelease (generator : Nat) (used : List Nat) (s : State) : Host.Outcome State Fault Refusal :=
  let gap := if generator = 4 then 24 else 3
  if 4 < generator || (match storeFind s.power.released generator with
      | none => false
      | some t => s.periods < t + gap) then .next s
  else
    let s := { s with power := { s.power with released := storePut s.power.released generator s.periods } }
    if generator = 4 then
      .next { s with power := { s.power with
        tokens := storePut s.power.tokens 32 (storeGet 0 s.power.tokens 32 - used[0]?.getD 0 + 625) } }
    else
      let s := (List.range 8).foldl (fun s i => s.enterFixed generator i) s
      let s := s.fset F.pwrFixedReq_busy generator 0 0 (s.power.fixPending.any (fun c => c / 8 == generator)).toNat
      .next ((List.range 8).foldl (fun s i => s.refill generator i (used[i]?.getD 0)) s)

/-- The chamois monitor has read low five times in a row: the fallback is UNAVAILABLE from here (R47, R315). -/
def execChamoisPaceLost (s : State) : Host.Outcome State Fault Refusal :=
  if s.safety.chuLow < 5 ∨ s.safety.chuPaceLost = true then .next s
  else
    let s := { s with safety := { s.safety with chuPaceLost := true, chuTestPassed := false } }
    .next (if s.fallbackState = 0 then s.setFallback 1 else s)

/-- 50 good readings and a passed chamois test make the fallback available again (R315). -/
def execFallbackRestored (s : State) : Host.Outcome State Fault Refusal :=
  if s.safety.chuPaceLost && 50 ≤ s.safety.chuGood && s.safety.chuTestPassed then
    let s := { s with safety := { s.safety with chuPaceLost := false } }
    .next (if s.fallbackState = 1 ∧ s.fallbackPossible = true then s.setFallback 0 else s)
  else .next s

/-! ### Droop (R40, R41, R432) -/

/-- An INFORM crossing: counted; the die's wakes pause; the eighth within 1 ms raises the set point for 10 ms. -/
def execDroopInform (die island : Nat) (s : State) : Host.Outcome State Fault Refusal :=
  let k := die * 16 + island
  let s := (s.fadd F.pwrEvents_inform die 0 0 1).seqEvent (64 + die) 11
  let ts := (storeGet [] s.power.informs k).filter (fun t => s.periods < t + 38400) ++ [s.periods]
  let s := { s with power := { s.power with paused := storePut s.power.paused die (s.periods + 77)
                                            informs := storePut s.power.informs k ts } }
  let before := s.isl F.pwrIsl_target die island
  let raised := { s with power := { s.power with informs := storeDrop s.power.informs k
                                                 raised := storePut s.power.raised k (s.periods + 384000, before) } }
  if ts.length < 8 || (islandRange die island).isNone || storeGet 0 s.power.stage die != 0
      || (storeFind s.power.raised k).isSome || !raised.canTake die island (before + 2) then .next s
  else .next (raised.requestLevel die island (before + 2))

/-- The end of a raise: the level before it, where nothing lowered the island meanwhile. -/
def execDroopRaiseEnd (die island : Nat) (s : State) : Host.Outcome State Fault Refusal :=
  let k := die * 16 + island
  match storeFind s.power.raised k with
  | none => .next s
  | some (t, before) =>
    if s.periods < t then .next s
    else
      let v := min before (s.isl F.pwrIsl_target die island)
      let s := { s with power := { s.power with raised := storeDrop s.power.raised k } }.requestLevel die island v
      .next (s.setIsl F.pwrIsl_setpoint die island (min (s.isl F.pwrIsl_setpoint die island)
        (max before (s.isl F.pwrIsl_target die island))))

/-- The granules that engines of a cluster have written: by the ranks that they held in any window (R213). -/
def State.clusterWrote (s : State) (c : Nat) : List (Nat × Nat × OpenGranule) :=
  ((storeKeys s.sched.jobs).map (fun j =>
    let ranks := ((s.job j).windows.filter (fun w => w.1 / 2 == c)).map (fun w => w.2.1)
    (s.ownedBy j).filter (fun t =>
      (s.granState t.1 t.2.1 == gOpen || s.granState t.1 t.2.1 == gMarked)
        && ranks.any (bit (s.tvt F.cgTvtWriters_ranks t.1 t.2.1))))).flatten

/-- An engine of a frozen island leaves service until its island is reset and it has passed two tests (R41, R319). -/
def State.marginEngine (s : State) (te : Nat) : State :=
  let st := s.gftState te
  let s := if s.testing te then s.endTest te else if s.teFree te then s else s.teStop te E.marginLost
  let s := (s.partitionsOf te).foldl (fun s p => s.doubtPartition p rsMarginLost) s
  if st = gfQuarantine ∨ st = gfRetired ∨ st = gfAbsent then s
  else
    let lost := s.engineUsable te
    let s := s.setUsable te false
    let s := if lost then s.rtEngineLost te else s
    let s := (s.fset F.gftEng_state 4 0 te gfMargin).setTeStat te tsOut
    s.setGft te { s.gftOf te with marginPasses := 0 }

/-- The granules that an island touched since their last confirmation: those that engines of a cluster wrote (R213), and
for a die's logic island, which holds the gate, all of its gate. -/
def State.islandTouched (s : State) (d i : Nat) : List (Nat × Nat × OpenGranule) :=
  if 4 ≤ d then []
  else if i < 8 then s.clusterWrote (d * 8 + i)
  else if i = 8 then
    ((storeKeys s.sched.jobs).map (fun j => (s.ownedBy j).filter (fun t => t.1 == d
      && (s.granState t.1 t.2.1 == gOpen || s.granState t.1 t.2.1 == gMarked)))).flatten
  else []

/-- An island's supply fell below 0.50 V: it is frozen, what it touched is discarded, and it stays out of service until it
has been reset. -/
def execMarginLost (die island : Nat) (s : State) : Host.Outcome State Fault Refusal :=
  let s := s.newEvent.raiseRec { recOf E.marginLost die 0x01 island with
    detail := die + island * 2 ^ 8 + s.isl F.pwrIsl_setpoint die island * 2 ^ 16 }
  let k := die * 16 + island
  let s := { s with power := { s.power with
    frozen := if s.power.frozen.contains k then s.power.frozen else s.power.frozen ++ [k] } }
  let s := if die < 4 then (s.failAndReport die (s.islandTouched die island)).settleAll else s
  if 4 ≤ die ∨ 8 ≤ island then .next s
  else .next (s.marginEngine (die * 16 + 2 * island) |>.marginEngine (die * 16 + 2 * island + 1))

/-- A frozen compute island is reset, and the tests of its engines begin. DESIGN CHOICE: the hardware resets it at the
next governor period; every other island is reset by the restart of its supply's domain. -/
def State.resetFrozen (s : State) : State :=
  (s.power.frozen.filter (fun k => k < 64 && k % 16 < 8)).foldl (fun s k =>
    let s := { s with power := { s.power with frozen := s.power.frozen.filter (· != k) } }
    [0, 1].foldl (fun s e =>
      let te := k / 16 * 16 + 2 * (k % 16) + e
      if s.gftState te = gfMargin ∧ s.testing te = false then s.marginTest te else s) s) s

/-! ### Crossings (R48, R51, R52) -/

/-- One governor's request for a level across a link. DESIGN CHOICE: a granted level takes the place of the pending
reservation, and a refusal leaves that as it is. -/
def State.reserve (s : State) (src dst v : Nat) : State :=
  if s.grants src dst v then
    { s with power := { s.power with reservations := storePut s.power.reservations (src * 8 + dst) v } }
  else s.fadd F.pwrEvents_level_refusals src 0 0 1

/-- The governor at the other end of a link answers a request for a level; `back` holds the level that it asks for
across the same link at the same moment. The lower node number comes first. -/
def execLevelReservation (src dst mv : Nat) (back : List Nat) (s : State) : Host.Outcome State Fault Refusal :=
  if !linked src dst then .next s
  else
    match back.head? with
    | none => .next (s.reserve src dst (mv / 10))
    | some w =>
      if src < dst then .next ((s.reserve src dst (mv / 10)).reserve dst src (w / 10))
      else .next ((s.reserve dst src (w / 10)).reserve src dst (mv / 10))

/-- The limit in K of the temperature difference across the crossing of two islands, given as die × 16 + island: 40 on
one die, 50 across a link; none where they share no crossing (R48). -/
def crossingLimit (a b : Nat) : Option Nat :=
  if a / 16 = b / 16 then (if neighbours (a / 16) (a % 16) (b % 16) then some 40 else none)
  else if crossingOf (a / 16) (a % 16) = some (b / 16) ∧ crossingOf (b / 16) (b % 16) = some (a / 16) then some 50
  else none

/-- An island's temperature as its sensor reads. -/
def State.islTemp (s : State) (k : Nat) : Int := celsius (s.isl F.pwrIsl_temp_c (k / 16) (k % 16))

/-- The temperature difference across a crossing, in K. -/
def State.tempDiff (s : State) (a b : Nat) : Nat := (s.islTemp a - s.islTemp b).natAbs

/-- The hottest of some islands. -/
def State.hottest (s : State) (k : Nat) (ks : List Nat) : Nat :=
  ks.foldl (fun h k => if s.islTemp h < s.islTemp k then k else h) k

/-- Whether a die's governor works. -/
def State.governorRuns (s : State) (d : Nat) : Bool := !s.governorStopped d && !s.governorFaulted d

/-- The governor of the hotter die lowers its hottest island at a crossing by 10 mV (R52). -/
def State.coolCrossing (s : State) (a b : Nat) : State :=
  let h := s.hottest a [b]
  let d := h / 16
  let at' := if a / 16 = b / 16 then [a, b] else (borderIslands d ((a + b - h) / 16)).map (· + d * 16)
  let k := s.hottest h at'
  if s.governorRuns d then s.lowerIsland d (k % 16) 1 0 else s

/-- The difference across the crossing of two islands exceeds its limit: recorded once, until it is within the limit
again. -/
def execCrossingTemp (die island other otherIsland : Nat) (s : State) : Host.Outcome State Fault Refusal :=
  let a := die * 16 + island
  let b := other * 16 + otherIsland
  match crossingLimit a b with
  | none => .next s
  | some limit =>
    if s.tempDiff a b ≤ limit || s.power.hot.contains (a, b) || s.power.hot.contains (b, a) then .next s
    else
      let h := s.hottest a [b]
      let s := s.raiseRec { recOf E.crossingTemp (h / 16) 0x01 (h % 16) with
        detail := h / 16 + h % 16 * 2 ^ 8 + s.tempDiff a b * 2 ^ 16 }
      .next ({ s with power := { s.power with hot := s.power.hot ++ [(a, b)] } }.coolCrossing a b)

/-- The crossings that are beyond their limit in a governor period: cooled until they are within it. -/
def State.crossingStep (s : State) : State :=
  s.power.hot.foldl (fun s p =>
    if s.tempDiff p.1 p.2 ≤ (crossingLimit p.1 p.2).getD 0 then
      { s with power := { s.power with hot := s.power.hot.filter (· != p) } }
    else s.coolCrossing p.1 p.2) s

/-! ### Estimation and energy (R424, R439) -/

/-- The energy in pJ that counter i of a die adds in a period. -/
def State.counterPj (s : State) (counters : List Nat) (d i : Nat) : Nat :=
  counters[d * 64 + i]?.getD 0 * Config.powerWeight s.boot.calibDigest d i

def State.leakPj (s : State) (d i : Nat) : Nat :=
  Config.leak d i (s.isl F.pwrIsl_setpoint d i) (s.isl F.pwrIsl_temp_c d i)

/-- An island's energy of a period in pJ. -/
def State.islandPj (s : State) (counters : List Nat) (d i : Nat) : Nat :=
  (((List.range 64).filter (fun c => Config.counterIsland d c == i)).map (s.counterPj counters d)).sum + s.leakPj d i

/-- A die's energy of a period in pJ: one period of 2 µs turns 2 000 pJ into 1 mW. -/
def State.diePj (s : State) (counters : List Nat) (d : Nat) : Nat :=
  ((List.range 64).map (s.counterPj counters d)).sum + ((List.range 16).map (s.leakPj d)).sum

/-- The energy of a die's islands on a cap lever, the codec among them. -/
def State.leverPj (s : State) (counters : List Nat) (d : Nat) : Nat :=
  ((leverIslands d ++ (if d = 5 then [9] else [])).map (s.islandPj counters d)).sum

/-- The job that holds an engine and works on it. -/
def State.energyJob (s : State) (te : Nat) : Option Nat :=
  if s.testing te then none
  else (storeKeys s.sched.jobs).find? (fun j => bit (s.fget F.schJranks_engines 4 0 j) te)

/-- The job on whose account a counter of a compute die counts. -/
def State.counterJob (s : State) (d i : Nat) : Option Nat :=
  let u := Config.counterUnit d i
  if 4 ≤ d then none
  else if u < 16 then s.energyJob (d * 16 + u)
  else if u < 32 then
    let n := d * 16 + (u - 16)
    if s.ringSt n = rgIdle ∨ (s.job? (s.ringJob n)).isNone then none else some (s.ringJob n)
  else none

/-- Energy credited to a job or to the die's account, by dynamic or static kind. -/
def State.credit (s : State) (d : Nat) (j : Option Nat) (active : Bool) (pj : Nat) : State :=
  match j with
  | some j => s.modJob j (fun x =>
      if active then { x with energyActive := x.energyActive + pj } else { x with energyStatic := x.energyStatic + pj })
  | none => { s with power := { s.power with spare := storePut s.power.spare d (storeGet 0 s.power.spare d + pj) } }

/-- The accounts of a die for one period. -/
def State.accountDie (s : State) (counters : List Nat) (d : Nat) : State :=
  let s := (List.range 64).foldl (fun s i => s.credit d (s.counterJob d i) true (s.counterPj counters d i)) s
  let s := (List.range 16).foldl (fun s i =>
    let pj := s.leakPj d i
    if d < 4 ∧ i < 8 then
      (List.range 2).foldl (fun s e => s.credit d (s.energyJob (d * 16 + 2 * i + e)) false (pj / 2)) s
    else s.credit d none false pj) s
  s.setReg (fldAddr F.pwrEnergy_unattributed_uj d 0 0) (storeGet 0 s.power.spare d / 1000000)

/-- Every job's LPDDR6 lines of the period at their weight. -/
def State.accountLines (s : State) : State :=
  (storeKeys s.sched.jobs).foldl (fun s j =>
    s.modJob j (fun x => { x with energyActive := x.energyActive + x.lines * Config.lineWeight s.boot.calibDigest, lines := 0 })) s

/-! ### Cap stages (R425, R426, R429, R430) -/

/-- The highest class of the work on a cluster: 0 idle, 1 BULK, 2 NORMAL, 3 HIGH, 4 RT. -/
def State.clusterPriority (s : State) (c : Nat) : Nat :=
  ((List.range 2).map (fun e => match s.energyJob (2 * c + e) with
    | none => 0
    | some j => 4 - s.jobClass j)).foldl max 0

/-- The priority of the work on an island. -/
def State.islPriority (s : State) (d i : Nat) : Nat := if d < 4 then s.clusterPriority (d * 8 + i) else 0

/-- Whether a protected island is held at 0.78 V: it runs an RT job admitted at fixed pace (R423). -/
def State.heldLevel (s : State) (d i : Nat) : Nat :=
  if d < 4 && (List.range 2).any (fun e => match s.energyJob (d * 16 + 2 * i + e) with
      | none => false
      | some j => s.jobClass j == 0 && (s.job j).fixedPace) then 78 else 0

/-- The islands of a die that the cap can lower still, in three ranks: unprotected, fixed pace, protected compute. -/
def State.lowerable (s : State) (d : Nat) : List (List Nat) :=
  let above := (leverIslands d).filter (fun i =>
    max ((islandRange d i).getD (0, 0)).1 (if s.islandProtected d i then s.heldLevel d i else 0)
      < s.isl F.pwrIsl_target d i && !s.inMarginHold d i)
  let fixed := fun i => s.isl F.pwrIsl_fixed d i == 1
  [above.filter (fun i => !s.islandProtected d i && !fixed i), above.filter fixed,
   above.filter (fun i => s.islandProtected d i && !fixed i)]

/-- One step of stage 2 on a die: of the first rank that has any, the islands with the lowest work class go down, the
higher ones sooner, by at most 50 mV in a period. -/
def State.lowerStep (s : State) (d : Nat) (is : List Nat) : State :=
  let least := (is.map (s.islPriority d)).foldl min 4
  let group := is.filter (fun i => s.islPriority d i == least)
  let to' := (group.map (s.isl F.pwrIsl_target d)).foldl max 0 - 5
  group.foldl (fun s i =>
    s.lowerIsland d i (s.isl F.pwrIsl_target d i - to') (if s.islandProtected d i then s.heldLevel d i else 0)) s

/-- The unprotected islands of a die on a lever. -/
def State.openIslands (s : State) (d : Nat) : List Nat := (leverIslands d).filter (fun i => !s.islandProtected d i)

/-- The limit of an island now, as a rate of tokens. -/
def State.rateNow (s : State) (d i : Nat) : Nat :=
  (storeFind s.power.capLimit (d * 16 + i)).getD (min 125 (paceTokens (s.isl F.pwrIsl_monitor d i)))

def State.floorOf (s : State) (d i : Nat) : Nat := paceFloor (s.isl F.pwrIsl_monitor d i)

/-- The work class that an engine holds: 0 idle, 1 BULK, 2 NORMAL, 3 HIGH. -/
def State.unitPriority (s : State) (k : Nat) : Nat :=
  if k < 64 then (match s.energyJob k with
    | none => 0
    | some j => 4 - s.jobClass j)
  else 0

/-- The block of a die that stage 4 parks next: idle ones first, then by class. A held one was passed over. -/
def State.nextPark (s : State) (d : Nat) : Option Nat :=
  let ks := (s.parkCandidates d).filter (fun k =>
    !s.unitParked k && !s.power.parking.contains k
      && !bit (s.fget F.pwrParked_held_pending (k / 16) 0 0) (k % 16)
      && (64 ≤ k || s.engineUsable k))
  [0, 1, 2, 3].findSome? (fun c => ks.find? (fun k => s.unitPriority k == c))

def State.setStage (s : State) (d n : Nat) : State :=
  { s with power := { s.power with stage := storePut s.power.stage d n } }

/-- One period of capping a die whose estimate exceeds its budget: the first lever that is not exhausted. -/
def State.capStep (s : State) (d est budget : Nat) : State :=
  let open' := s.openIslands d
  if open'.any (fun i => (storeFind s.power.capLimit (d * 16 + i)).isNone) then
    (open'.foldl (fun s i => s.setCapLimit d i (some (max 1 (s.rateNow d i * budget / est)))) s).setStage d 1
  else
    match (s.lowerable d).find? (fun l => !l.isEmpty) with
    | some l =>
      let s := s.lowerStep d l
      let s := open'.foldl (fun s i => s.setCapLimit d i (some (min 125 (max (s.rateNow d i)
        (paceTokens (s.isl F.pwrIsl_monitor d i) * budget / est))))) s
      s.setStage d 2
    | none =>
      if open'.any (fun i => s.floorOf d i < s.rateNow d i) then
        (open'.foldl (fun s i => s.setCapLimit d i (some (min (s.rateNow d i) (s.floorOf d i)))) s).setStage d 3
      else
        match s.nextPark d with
        | some k => (s.governorPark k).setStage d 4
        | none => s.setStage d 5

/-- A wake asks for its charge: for the work that needs it most. -/
def State.queueWake (s : State) (k : Nat) : State :=
  if s.power.wakes.any (fun w => w.1 == k) then s
  else
    let cls := (s.sched.ready.map s.jobClass).foldl min 3
    let s := { s with power := { s.power with wakes := s.power.wakes ++ [(k, cls)] } }
    s.fset F.pwrSlew_queued 4 0 0 (min s.power.wakes.length 255)

/-- Whether an island is below its normal level with nothing that still asks for that: no throttling, no herd, no hot
crossing; one with a droop raise waits for its end. -/
def State.lowered (s : State) (d i : Nat) : Bool :=
  (storeFind s.power.normal (d * 16 + i)).isSome && !s.power.throttled.contains (d * 16 + i)
    && (storeFind s.power.raised (d * 16 + i)).isNone
    && !s.power.hot.any (fun p => p.1 == d * 16 + i || p.2 == d * 16 + i)
    && (storeFind s.power.herdLimit (d * 16 + i)).isNone

/-- One period of a die whose estimate is below 95 % of its budget: the stages are undone in reverse order. -/
def State.relaxStep (s : State) (d : Nat) : State :=
  let open' := s.openIslands d
  match (s.power.capParked.filter (fun k => k / 16 == d)).getLast? with
  | some k =>
    let s := { s with power := { s.power with capParked := s.power.capParked.filter (· != k) } }
    if s.unitParked k then s.queueWake k
    else { s with power := { s.power with parking := s.power.parking.filter (· != k) } }
  | none =>
    match open'.find? (fun i => s.rateNow d i ≤ s.floorOf d i && (storeFind s.power.capLimit (d * 16 + i)).isSome) with
    | some _ => (open'.foldl (fun s i => s.setCapLimit d i (some (min 125 (paceTokens (s.isl F.pwrIsl_monitor d i))))) s).setStage d 2
    | none =>
      match (leverIslands d).find? (s.lowered d) with
      | some i =>
        let k := d * 16 + i
        let n := storeGet 0 s.power.normal k
        let s := s.requestLevel d i (min n (s.isl F.pwrIsl_target d i + 1))
        if n ≤ s.isl F.pwrIsl_target d i then
          { s with power := { s.power with normal := storeDrop s.power.normal k } } else s
      | none => (open'.foldl (fun s i => s.setCapLimit d i none) s).setStage d 0

/-- The share of the package budget that a die gets, in mW (R425). -/
def State.share (s : State) (counters : List Nat) (d : Nat) : Nat :=
  let cap := s.fget F.pwrCap_cap_w 4 0 0 * 1000
  let fixed := ((List.range 8).map (fun k => s.diePj counters k - s.leverPj counters k)).sum / 2000
  let before := fun k => storeGet 0 s.power.lever k
  let all := ((List.range 8).map before).sum
  if all = 0 then (cap - fixed) / 8 else (cap - fixed) * before d / all

/-- A die's governor keeps it within its share. -/
def State.capDie (s : State) (counters : List Nat) (d : Nat) : State :=
  let est := s.leverPj counters d / 2000
  let budget := if s.governorRuns 4 then s.share counters d else s.fget F.pwrBudget_budget_mw d 0 0
  let s := s.fset F.pwrBudget_budget_mw d 0 0 (min budget (2 ^ 20 - 1))
  if !s.governorRuns d then s
  else if budget < est then s.capStep d est budget
  else if est * 100 < budget * 95 && s.power.emergency.isNone
      && (storeGet 0 s.power.stage d != 0 || (leverIslands d).any (s.lowered d)) then s.relaxStep d
  else s

/-- CAP_UNREACHABLE and its end (R430), by the governor on S. -/
def State.capReach (s : State) (est : Nat) : State :=
  if !s.governorRuns 4 then s else
  let exceeds := s.fget F.pwrCap_cap_w 4 0 0 * 1000 < est
  let stuck := (List.range 8).all (fun d => (s.openIslands d).isEmpty || storeGet 0 s.power.stage d == 5)
  if s.fon F.pwrCap_unreachable 4 0 0 then
    if exceeds then s.fset F.pwrCap_held_mw 4 0 0 est
    else (s.fset F.pwrCap_unreachable 4 0 0 0).fset F.pwrCap_held_mw 4 0 0 0
  else if exceeds && stuck then
    let s := (s.fset F.pwrCap_unreachable 4 0 0 1).fset F.pwrCap_held_mw 4 0 0 est
    s.raiseSide { recOf E.capUnreachable 4 0x01 0xFFFF with detail := est }
  else s

/-! ### Heat (R434) -/

/-- Throttled islands go down by 10 mV in each period, and at their lowest level the unprotected islands of their die;
one at 107 °C or less is throttled no longer. -/
def State.throttleStep (s : State) : State :=
  s.power.throttled.foldl (fun s k =>
    let d := k / 16
    let i := k % 16
    if celsius (s.isl F.pwrIsl_temp_c d i) ≤ 107 then
      { s with power := { s.power with throttled := s.power.throttled.filter (· != k) } }
    else
      let s := s.fadd F.pwrEvents_throttle_periods d 0 0 1
      match islandRange d i with
      | none => s
      | some (lo, _) =>
        if lo < s.isl F.pwrIsl_target d i then s.lowerIsland d i 1 0
        else
          let rest := (s.openIslands d).filter (fun m => ((islandRange d m).getD (0, 0)).1 < s.isl F.pwrIsl_target d m)
          let least := (rest.map (s.islPriority d)).foldl min 4
          (rest.filter (fun m => s.islPriority d m == least)).foldl (fun s m => s.lowerIsland d m 1 0) s) s

/-- The sensors' readings of a period: those of island i of die d stand at d × 16 + i, that of stack m at 128 + m (R181);
since when every island's is at 112 °C or less, and at 95 °C or less. -/
def State.readTemps (s : State) (temps : List Nat) : State :=
  let s := (List.range 128).foldl (fun s k =>
    match temps[k]? with
    | none => s
    | some t => s.setIsl F.pwrIsl_temp_c (k / 16) (k % 16) t) s
  let s := (List.range 8).foldl (fun s m =>
    match temps[128 + m]? with
    | none => s
    | some t => if s.fon F.memStatus_trained (m / 2) (m % 2) 0 then s.fset F.memStatus_temp_c (m / 2) (m % 2) 0 t else s) s
  let hot := ((temps.take 128).map celsius).foldl max (-128)
  let since := fun (old : Option Nat) (ok : Bool) => if ok then some (old.getD s.periods) else none
  { s with power := { s.power with coolSince := since s.power.coolSince (hot ≤ 112)
                                   tripCool := since s.power.tripCool (hot ≤ 95) } }

/-! ### Herd pacing (R433) -/

/-- The clusters of a job's engines. -/
def State.herdClusters (s : State) (j : Nat) : List Nat := ((s.job j).ranks.map (· / 2)).eraseDups

/-- Whether a die of a herd waits at barriers for more than 5 % of the time while another has a limit in force. -/
def State.herdWaits (s : State) (j : Nat) : Bool :=
  let x := s.job j
  let ds := s.jobDies j
  let span := (x.herdLog.map (fun l => l[0]?.getD 0)).sum
  let waits := fun d => (x.herdLog.map (fun l => l[d + 1]?.getD 0)).sum
  let ranks := fun d => (x.ranks.filter (fun te => te / 16 == d)).length
  let limited := fun d => storeGet 0 s.power.stage d != 0 || s.power.emergency.isSome
    || s.power.throttled.any (fun k => k / 16 == d)
  ds.any (fun d => ranks d * span < 20 * waits d && ds.any (fun e => e != d && limited e))

/-- The slowest sustainable pace of a herd's islands, as tokens. -/
def State.slowest (s : State) (j : Nat) : Nat :=
  max 1 (((s.herdClusters j).map (fun c => paceTokens (s.isl F.pwrIsl_monitor (c / 8) (c % 8)))).foldl min 125)

/-- The lowest level of a cluster island whose natural pace is at least 1.02 times a limit. -/
def State.paceLevel (s : State) (d i n : Nat) : Nat :=
  let t := celsius (s.isl F.pwrIsl_temp_c d i)
  (((List.range 31).map (· + 55)).find? (fun v => match naturalPace v t with
    | none => false
    | some p => n * 12800000 * 102 ≤ p * 10000 * 100)).getD 85

/-- The coordinator's rounds: herds that need pacing get their limit, those whose slowest die sustains 1.05 times it
for 100 µs, or that ended, lose it; then each island has the highest limit of its herds. -/
def State.herdStep (s : State) : State :=
  if !s.governorRuns 4 then s else
  let herd := fun (s : State) j => s.jobLive j && s.jobState j == jsRunning && s.fget F.schJctx_herd 4 0 j == 1
  let s := (storeKeys s.power.herds).foldl (fun s j =>
    match storeFind s.power.herds j with
    | none => s
    | some (n, t) =>
      let good := 105 * n ≤ 100 * s.slowest j
      if !herd s j || (good && t + 3840 ≤ s.periods) then
        { s with power := { s.power with herds := storeDrop s.power.herds j } }
      else if good then s
      else { s with power := { s.power with herds := storePut s.power.herds j (n, s.periods) } }) s
  let s := (storeKeys s.sched.jobs).foldl (fun s j =>
    if s.power.herdPacing && herd s j && (storeFind s.power.herds j).isNone && s.herdWaits j then
      { s with power := { s.power with herds := storePut s.power.herds j (s.slowest j, s.periods) } }.raiseSide
        { recOf E.herdPaced 4 0x01 0xFFFF with job := some j, detail := j }
    else s) s
  let s := (List.range 32).foldl (fun s c =>
    if !s.governorRuns (c / 8) then s else
    let k := c / 8 * 16 + c % 8
    let ns := (s.power.herds.filter (fun h => (s.herdClusters h.1).contains c)).map (fun h => h.2.1)
    let pinned := s.isl F.pwrIsl_fixed (c / 8) (c % 8) == 1
    let n : Nat := if pinned then 0 else ns.foldl max 0
    let m := if n = 0 then storeDrop s.power.herdLimit k else storePut s.power.herdLimit k n
    let s := { s with power := { s.power with herdLimit := m } }
    let s := s.refreshLimit (c / 8) (c % 8)
    if n = 0 then s
    else
      let v : Nat := s.paceLevel (c / 8) (c % 8) n
      if v < s.isl F.pwrIsl_target (c / 8) (c % 8) then
        s.lowerIsland (c / 8) (c % 8) (s.isl F.pwrIsl_target (c / 8) (c % 8) - v) v
      else s) s
  (List.range 4).foldl (fun s d =>
    s.fset F.pwrStatus_herd_paced d 0 0 (s.power.herdLimit.any (fun p => p.1 / 16 == d)).toNat) s

/-! ### A period (R422 to R430) -/

/-- Every set point moves to its level by at most 50 mV; protection and priority are shown as they are. -/
def State.rampStep (s : State) : State :=
  (List.range 8).foldl (fun s d => (leverIslands d).foldl (fun s i =>
    let v := s.isl F.pwrIsl_setpoint d i
    let t := s.isl F.pwrIsl_target d i
    let s := s.setIsl F.pwrIsl_setpoint d i (if v < t then min t (v + 5) else max t (v - 5))
    let s := s.setIsl F.pwrIsl_protected d i (s.islandProtected d i).toNat
    s.setIsl F.pwrIsl_priority d i (s.islPriority d i)) s) s

/-- The state that PWR_STATUS shows for a die. -/
def State.powerState (s : State) (d : Nat) : Nat :=
  if s.governorStopped d then 8
  else if s.governorFaulted d then 7
  else if s.power.emergency.isSome then 6
  else if s.power.throttled.any (fun k => k / 16 == d) then 5
  else if s.fon F.pwrCap_unreachable 4 0 0 then 4
  else
    let n := storeGet 0 s.power.stage d
    if n = 0 then 0 else if n ≤ 2 then 1 else if n = 3 then 2 else 3

/-- The governors' period: readings, estimates, accounts, the cap, heat, herds, levels. -/
def execGovernorPeriod (counters temps : List Nat) (s : State) : Host.Outcome State Fault Refusal :=
  let s := (List.range 8).foldl (fun s d => s.seqEvent (64 + d) 10) (s.readTemps temps)
  if !s.boot.loaded then .next s
  else
    let pj := fun d => s.diePj counters d
    let s := (List.range 8).foldl (fun s d => s.fset F.pwrStatus_est_mw d 0 0 (min (pj d / 2000) (2 ^ 20 - 1))) s
    let est := min (((List.range 8).map pj).sum / 2000) (2 ^ 20 - 1)
    let s := s.fset F.pwrPkg_pkg_est_mw 4 0 0 est
    let s := s.fset F.pwrPkg_peak_mw 4 0 0 (max est (s.fget F.pwrPkg_peak_mw 4 0 0))
    let s := ((List.range 8).foldl (fun s d => s.accountDie counters d) s).accountLines
    let levers := (List.range 8).map (s.leverPj counters)
    let s := (List.range 8).foldl (fun s d => s.capDie counters d) s
    let s := { s with power := { s.power with
      lever := (List.range 8).foldl (fun m d => storePut m d (levers[d]?.getD 0)) s.power.lever } }
    let s := (List.range 8).foldl (fun s d => if s.governorStopped d then s.holdLevels d else s) s
    let s := (s.capReach est).throttleStep.crossingStep.herdStep.rampStep.refreshEmergency.resetFrozen
    .next ((List.range 8).foldl (fun s d => s.fset F.pwrStatus_state d 0 0 (s.powerState d)) s)

/-! ### Requests (R425, R428, R441) -/

def execCapWrite (who : Initiator) (watts : Nat) (s : State) : Host.Outcome State Fault Refusal :=
  let a := fldPlace F.pwrCap_cap_w 4 0
  if !powerRight who 4 then .next (s.dropWrite who a)
  else if watts < 90 ∨ 400 < watts then .next (s.dropReg E.regReservedCode who a)
  else .next (s.fset F.pwrCap_cap_w 4 0 0 watts).answerOk

/-- PWR_PARK written with go: the fields it shows, and the block that it names. -/
def State.parkWrite (s : State) (who : Initiator) (d e op : Nat) (f : State → Nat → State × Nat) : State :=
  if !powerRight who d then s.dropWrite who (fldPlace F.pwrPark_engine d 0)
  else
    let s := s.fset F.pwrPark_engine d 0 0 e
    let s := s.fset F.pwrPark_op d 0 0 op
    let k := d * 16 + e % 16
    let r := if parkable k then f s k else (s, 4)
    (r.1.fset F.pwrPark_status d 0 0 r.2).answerOk

def execPark (who : Initiator) (die engine : Nat) (s : State) : Host.Outcome State Fault Refusal :=
  .next (s.parkWrite who die engine 1 (fun s k =>
    if s.unitParked k || s.power.parking.contains k then (s, 0)
    else if s.unitProtected k then (s, 2)
    else if s.unitHeld k then (s.parkHeld k, 1)
    else
      let s := s.startPark k
      (if k < 64 then s.fset F.pwrPark_busy (k / 16) 0 0 1 else s, 0)))

/-- The engine has stopped: it is power-gated and keeps nothing. -/
def execEngineParked (te : Nat) (s : State) : Host.Outcome State Fault Refusal :=
  if s.power.parking.contains te && s.teFree te && !s.testing te then
    let s := { s with power := { s.power with parking := s.power.parking.filter (· != te) } }
    let s := (s.setParked te true).fadd F.pwrEvents_parks (te / 16) 0 0 1
    let s := s.fset F.pwrPark_busy (te / 16) 0 0 0
    .next ((s.setEng te {}).setTeStat te tsIdle)
  else .next s

def execUnpark (who : Initiator) (die engine : Nat) (s : State) : Host.Outcome State Fault Refusal :=
  .next (s.parkWrite who die engine 2 (fun s k =>
    if s.power.parking.contains k && s.teFree k then
      ({ s with power := { s.power with parking := s.power.parking.filter (· != k) } }, 0)
    else if !s.unitParked k || s.power.emergency.isSome then (s, 4)
    else ({ s with power := { s.power with capParked := s.power.capParked.filter (· != k) } }.queueWake k, 0)))

/-- A request that waits for the release of a hold is withdrawn. -/
def execWithdraw (who : Initiator) (die engine : Nat) (s : State) : Host.Outcome State Fault Refusal :=
  .next (s.parkWrite who die engine 3 (fun s k =>
    let m := s.fget F.pwrParked_held_pending (k / 16) 0 0
    if bit m (k % 16) then (s.setHeldPending k false, 3) else (s, 4)))

/-! ### Wakes (R431) -/

/-- The charge of a wake in 1/192 A: a compute engine 15 A, a shader island or the codec 12 A. -/
def wakeCharge (k : Nat) : Nat := if k < 64 then 2880 else 2304

/-- The level of the slew bucket now: it refills at a_per_us, and holds one charge of 15 A. -/
def State.slewLevel (s : State) : Nat :=
  min 2880 (s.power.bucket.1 + s.fget F.pwrSlew_a_per_us 4 0 0 * 5 * (s.periods - s.power.bucket.2))

/-- The waiting wake that is served next: by class, then in order of request; a die paused by INFORM waits. -/
def State.nextWake (s : State) : Option Nat :=
  let ready := s.power.wakes.filter (fun w => storeGet 0 s.power.paused (w.1 / 16) ≤ s.periods)
  ([0, 1, 2, 3].findSome? (fun c => ready.find? (fun w => w.2 == c))).map Prod.fst

/-- A wake is granted where the bucket holds its charge; an engine runs its golden test before any job. -/
def execWakeGrant (s : State) : Host.Outcome State Fault Refusal :=
  match s.nextWake with
  | none => .next s
  | some k =>
    if !s.governorRuns 4 || !s.governorRuns (k / 16) || s.slewLevel < wakeCharge k then .next s
    else
      let level := s.slewLevel - wakeCharge k
      let s := { s with power := { s.power with bucket := (level, s.periods)
                                                wakes := s.power.wakes.filter (fun w => w.1 != k) } }
      let s := s.fset F.pwrSlew_queued 4 0 0 (min s.power.wakes.length 255)
      let s := (s.fadd F.pwrSlew_grants 4 0 0 1).setParked k false
      if k < 64 then .next ((s.setGft k { s.gftOf k with passedFrame := none, due := true }).testIfDue k)
      else if k = 89 then .next s.resumeCodec else .next s

/-! ### Thermal thresholds (R434, R435) -/

def thermalRec (s : State) (c : ErrCode) (d i : Nat) : ErrRec :=
  { recOf c d 0x01 i with detail := d + i * 2 ^ 8 + s.isl F.pwrIsl_temp_c d i * 2 ^ 16 }

/-- An island reads 110 °C or more. -/
def execThermalThrottle (die island : Nat) (s : State) : Host.Outcome State Fault Refusal :=
  let k := die * 16 + island
  if s.power.throttled.contains k then .next s
  else
    let s := { s with power := { s.power with throttled := s.power.throttled ++ [k] } }
    let s := s.fset F.pwrStatus_state die 0 0 5
    .next ((s.lowerIsland die island 1 0).raiseRec (thermalRec s E.thermalThrottle die island))

/-- The stop that an emergency asks of a block: a held one gets a notice with its deadline (R403). -/
def State.emergencyPark (s : State) (k : Nat) : State :=
  if s.unitHeld k then
    let s := s.setHeldPending k true
    s.secNotice ((holdBlock k).getD 0) 3 ((s.periods + 3840) * 5 / 192 % 2 ^ 32)
  else s.governorPark k

/-- An island reads 120 °C or more: the pace floor and parking on everything unprotected at once. -/
def execThermalEmergency (die island : Nat) (s : State) : Host.Outcome State Fault Refusal :=
  if s.power.emergency.isSome then .next s
  else
    let s := { s with power := { s.power with emergency := some s.periods, coolSince := none } }
    let s := s.raiseRec (thermalRec s E.thermalEmergency die island)
    let s := (List.range 8).foldl (fun s d => (s.openIslands d).foldl (fun s i =>
      let s := s.setCapLimit d i (some (s.floorOf d i))
      if d = 4 then s.lowerIsland d i 100 0 else s) s) s
    let s := ([0, 1, 2, 3, 5].map (fun d => s.parkCandidates d)).flatten.foldl State.emergencyPark s
    let s := (List.range 8).foldl (fun s d => s.setStage d 5) s
    .next ((List.range 8).foldl (fun s d => s.fset F.pwrStatus_state d 0 0 (s.powerState d)) s).refreshEmergency

/-- Every island has read 112 °C or less for 10 ms. -/
def execThermalEmergencyEnd (s : State) : Host.Outcome State Fault Refusal :=
  match s.power.emergency, s.power.coolSince with
  | some _, some t =>
    if s.periods < t + 384000 then .next s
    else
      let s := { s with power := { s.power with emergency := none, coolSince := none } }
      .next ((List.range 8).foldl (fun s d => s.fset F.pwrStatus_state d 0 0 (s.powerState d)) s).refreshEmergency
  | _, _ => .next s

end Sys2Proof.Machine
end

