-- ==== Sys2Proof/Machine/Vi.lean ====
section
/-! DEFINITION. Virtual instances: the commands of VI_CMD, instance reset, quiesce and removal, and the DMA queues
(R364 to R389). -/

namespace Sys2Proof.Machine

/-! ### The configuration of an instance (R368, R387) -/

/-- The instance states of R386. -/
def viFree : Nat := 0
def viActive : Nat := 1
def viQuiescing : Nat := 2
def viQuiesced : Nat := 3
def viResetting : Nat := 4

def State.viSt (s : State) (vi : Nat) : Nat := s.fget F.viState_state 4 0 vi
def State.viReg (s : State) (f : Fld) (unit : Nat) : Nat := s.fget f 4 0 unit

/-- The offsets of the staged configuration registers among the instances of VI_OWNER's register. -/
def viConfig : List Nat := (List.range 9).map (fun k => 0x200118 + 8 * k) ++ (List.range 8).map (fun k => 0x200180 + 8 * k)

/-- The configuration registers of one unit copied to another. -/
def State.copyConfig (s : State) (src dst : Nat) : State :=
  viConfig.foldl (fun s off =>
    s.setReg (regBase 4 + off + dst * bankStride) (s.reg (regBase 4 + off + src * bankStride))) s

/-- The queue ranges of a configuration: first queue and number of queues, by kind in the order of R28. -/
def State.queueRanges (s : State) (unit : Nat) : List (Nat × Nat) :=
  let r := fun (base : Nat) (first blocks : Fld) => (base + 32 * s.viReg first unit, 32 * s.viReg blocks unit)
  [r 0 F.viQueuesA_accel_first F.viQueuesA_accel_blocks, r 16384 F.viQueuesA_cq_first F.viQueuesA_cq_blocks,
   r 32768 F.viQueuesA_dma_first F.viQueuesA_dma_blocks, r 40960 F.viQueuesB_eth_first F.viQueuesB_eth_blocks,
   r 57344 F.viQueuesB_gw_first F.viQueuesB_gw_blocks, r 61440 F.viQueuesB_sys_first F.viQueuesB_sys_blocks]

/-- The ends of the queue kinds (R28). -/
def kindEnds : List Nat := [16384, 32768, 40960, 57344, 61440, 65536]

/-- The queues of an instance's committed configuration. -/
def State.viQueues (s : State) (vi : Nat) : List Nat :=
  ((s.queueRanges (committed vi)).map (fun r => (List.range r.2).map (· + r.1))).flatten

/-- The job contexts of a configuration: first and number. -/
def State.ctxRange (s : State) (unit : Nat) : Nat × Nat :=
  (16 * s.viReg F.viCtx_ctx_first unit, 16 * s.viReg F.viCtx_ctx_blocks unit)

/-- The extents of a configuration that are used: address and bytes. -/
def State.extents (s : State) (unit : Nat) : List (Nat × Nat) :=
  ((List.range 8).map (fun k =>
    (s.fget F.viExtN_base 4 k unit * 0x200000, s.fget F.viExtN_granules 4 k unit * 0x200000))).filter (fun e => e.2 != 0)

/-- The other instances that are not FREE. -/
def State.otherVis (s : State) (vi : Nat) : List Nat :=
  (List.range 64).filter (fun w => w != vi && s.viSt w != viFree)

/-- Whether two lists of ranges overlap, range by range. -/
def rangesMeet (a b : List (Nat × Nat)) : Bool := (a.zip b).any (fun p => overlap p.1.1 p.1.2 p.2.1 p.2.2)

/-- The granules that spm_min asks for beyond those that the instance has on a die. -/
def State.spmWant (s : State) (vi d : Nat) : Nat := s.spmMin vi d - s.guaranteed vi d

/-- The FREE granules of a die, rising. -/
def State.freeGranules (s : State) (d : Nat) : List Nat :=
  (List.range 128).filter (fun g => s.granKind d (granReg g) == 0 && s.mark (8 + d) ≤ g && !s.isMoving (granuleAddr d g)
    && bit (s.fget F.cfgCapsClusterMap_cluster_usable 4 0 0) (d * 8 + g / 16))

/-- NO_RESOURCES: a staged range overlaps another instance or leaves its kind or 1 to 2 047, spm_min is not available or above
spm_max, or engine_max exceeds the usable engines (R368, R369). -/
def State.noResources (s : State) (vi : Nat) : Bool :=
  let qs := s.queueRanges vi
  (s.otherVis vi).any (fun w => rangesMeet qs (s.queueRanges (committed w))
    || rangesMeet [s.ctxRange vi] [s.ctxRange (committed w)])
  || (qs.zip kindEnds).any (fun p => p.2 < p.1.1 + p.1.2)
  || 4096 < (s.ctxRange vi).1 + (s.ctxRange vi).2
  || 2048 < s.viReg F.viCtx_vec_first vi + s.viReg F.viCtx_vec_count vi
  || (s.viReg F.viCtx_vec_first vi == 0 && s.viReg F.viCtx_vec_count vi != 0)
  || (List.range 4).any (fun d => (s.freeGranules d).length < s.spmWant vi d || s.spmMax vi d < s.spmMin vi d)
  || s.fget F.cfgCapsCounts_engines 4 0 0 < s.viReg F.viEngines_engine_max vi

/-- The bandwidth rate of a configuration on a die. -/
def State.bwRate (s : State) (unit d : Nat) : Nat := bits (s.reg (fldAddr F.viBw_rate0 4 0 unit)) (10 * d) 10

/-- The bandwidth that RT partitions reserve on a die: those that own engines or granules of it. -/
def State.rtRate (s : State) (d : Nat) : Nat :=
  (s.sched.parts.map (fun p =>
    if bits (s.fget F.schRtEngines_engines 4 p.1 0) (16 * d) 16 != 0
        || (List.range 128).any (fun g => s.granOwner d (granReg g) == some (true, p.1))
    then p.2.lpddrGbps else 0)).sum

/-- OVERCOMMIT: on some die the rates would exceed 500 GB/s (R374). -/
def State.overcommit (s : State) (vi : Nat) : Bool :=
  (List.range 4).any (fun d =>
    500 < s.bwRate vi d + ((s.otherVis vi).map (fun w => s.bwRate (committed w) d)).sum + s.rtRate d)

/-- BAD_RANGE: an extent overlaps one of another instance, lies outside LPDDR6, reaches below a watermark, or
meets a range under move. -/
def State.badExtent (s : State) (vi : Nat) : Bool :=
  (s.extents vi).any (fun e =>
    (s.otherVis vi).any (fun w => (s.extents (committed w)).any (fun x => overlap e.1 e.2 x.1 x.2))
    || placeOf (e.1 + e.2 - 1) != .lpddr || s.meetsSecure e.1 e.2 || s.meetsMove e.1 e.2)

/-- GUEST_LIMIT: the instance's guest would be the 33rd. -/
def State.guestLimit (s : State) (vi : Nat) : Bool :=
  32 < ((s.otherVis vi).map (fun w => s.viReg F.viOwner_guest (committed w)) ++ [s.viReg F.viOwner_guest vi]).eraseDups.length

/-- The queues of the committed configuration that the staged one gives up. -/
def State.droppedQueues (s : State) (vi : Nat) : List Nat :=
  let staged := s.queueRanges vi
  (s.viQueues vi).filter (fun q => !staged.any (fun r => r.1 ≤ q && q < r.1 + r.2))

/-- CTX_BUSY: a context that the staged configuration gives up is in use. -/
def State.ctxBusy (s : State) (vi : Nat) : Bool :=
  let old := s.ctxRange (committed vi)
  let new := s.ctxRange vi
  (storeKeys s.sched.jobs).any (fun j =>
    old.1 ≤ j && j < old.1 + old.2 && !(new.1 ≤ j && j < new.1 + new.2))

/-- VECTOR_IN_USE: a completion queue uses an identity outside the staged range. -/
def State.vectorInUse (s : State) (vi : Nat) : Bool :=
  let first := s.viReg F.viCtx_vec_first vi
  let count := s.viReg F.viCtx_vec_count vi
  (s.viQueues vi).any (fun q => isCompletion q && s.qState q != 0 && s.fon F.schQcfg_msi_enable 4 0 q
    && !(first ≤ s.fget F.schQcfg_msi_vector 4 0 q && s.fget F.schQcfg_msi_vector 4 0 q < first + count))

/-- The command statuses of R388. -/
def vsBadState : Nat := 0x01
def vsNoResources : Nat := 0x02
def vsOvercommit : Nat := 0x03
def vsQueueBusy : Nat := 0x04
def vsCtxBusy : Nat := 0x05
def vsVectorInUse : Nat := 0x06
def vsNotQuiesced : Nat := 0x07
def vsRtBound : Nat := 0x08
def vsBadRange : Nat := 0x09
def vsGuestLimit : Nat := 0x0A

/-- The first status of R388 whose condition holds; OK (0) where none does. -/
def firstStatus (l : List (Bool × Nat)) : Nat := ((l.find? (fun p => p.1)).map Prod.snd).getD 0

/-! ### Commands (R383, R386) -/

/-- The number of instances that are not FREE, and of guests that hold them (R385). -/
def State.countInstances (s : State) : State :=
  let vs := (List.range 64).filter (fun v => s.viSt v != viFree)
  let s := s.fset F.viStatus_active 4 0 0 vs.length
  s.fset F.viStatus_guests 4 0 0 ((vs.map (fun v => s.viReg F.viOwner_guest (committed v))).eraseDups.length)

def State.setViSt (s : State) (vi st : Nat) : State := (s.fset F.viState_state 4 0 vi st).countInstances

/-- Who may write the VI_ block: the steward, and physical function 0 in ENDPOINT mode (R384). -/
def State.viWriter (s : State) (who : Initiator) : Bool :=
  who.isSteward || who == .hardware || (who == .hostFn 0 && s.hostMode == 2)

/-- A record of the instance manager about an instance. -/
def viRec (c : ErrCode) (vi : Nat) : ErrRec := { recOf c 4 0x0B 0xFFFF with vi := some vi, detail := vi }

/-- A command written with go: a write without the right, or while a command of the instance is busy, is dropped; a
refusal sets its status, writes VI_CMD_REFUSED, and leaves the configuration in force. -/
def State.viCommand (s : State) (who : Initiator) (vi cmd status : Nat) (shrink : Bool) (effect : State → State) :
    State :=
  let a := fldAddr F.viCmd_cmd 4 0 0
  if !s.viWriter who || s.fon F.viCmd_busy 4 0 vi then s.dropWrite who a
  else
    let s := (s.fset F.viCmd_cmd 4 0 vi cmd).fset F.viCmd_shrink_now 4 0 vi shrink.toNat
    let s := s.fset F.viCmd_status 4 0 vi status
    if status = 0 then (effect s).answerOk
    else
      { s with vis := { s.vis with stale := if s.vis.stale.contains vi then s.vis.stale else s.vis.stale ++ [vi] }
        }.raiseRec { viRec E.viCmdRefused vi with initiator := initiatorCode who 0 false } |>.answerOk

/-- Guaranteed granules taken from the FREE ones of each die, the lowest first. -/
def State.takeGuaranteed (s : State) (vi : Nat) : State :=
  (List.range 4).foldl (fun s d =>
    ((s.freeGranules d).take (s.spmMin (committed vi) d - s.guaranteed vi d)).foldl
      (fun s g => s.setGranule d g 1 vi 0) s) s

/-- CREATE (R369). -/
def execViCreate (who : Initiator) (vi : Nat) (s : State) : Host.Outcome State Fault Refusal :=
  let status := firstStatus [(s.viSt vi != viFree, vsBadState), (s.noResources vi, vsNoResources),
    (s.overcommit vi, vsOvercommit), (s.badExtent vi, vsBadRange), (s.guestLimit vi, vsGuestLimit)]
  .next (s.viCommand who vi 1 status false (fun s =>
    let s := s.copyConfig vi (committed vi)
    let s := { s with vis := { s.vis with
      buckets := (List.range 4).foldl (fun m d => storeDrop m (vi * 4 + d)) s.vis.buckets } }
    let s := s.takeGuaranteed vi
    let s := (s.viQueues vi).foldl (fun s q => s.fset F.schQptr_state 4 0 q 0) s
    s.setViSt vi viActive))

/-- The bucket levels of an instance held as they are now. -/
def State.settleBuckets (s : State) (vi : Nat) : State :=
  { s with vis := { s.vis with buckets := (List.range 4).foldl (fun m d =>
      storePut m (vi * 4 + d) (s.bucketLevel vi d, s.periods)) s.vis.buckets } }

/-- The running non-RT jobs of an instance, those of the lowest class first. -/
def State.runningOf (s : State) (vi : Nat) : List Nat :=
  let js := (storeKeys s.sched.jobs).filter (fun j => s.jobVi j == vi && s.jobState j == jsRunning && s.jobLive j)
  ([3, 2, 1].map (fun c => js.filter (fun j => s.jobClass j == c))).flatten

/-- Whether a job keeps its instance over a shrunk limit: ranks off the die mask, engine_max exceeded, or a private
region in granules beyond the ceiling. -/
def State.overShrunk (s : State) (vi j : Nat) : Bool :=
  let unit := committed vi
  (s.job j).ranks.any (fun te => !bit (s.viReg F.viEngines_die_mask unit) (te / 16))
  || s.viReg F.viEngines_engine_max unit < (((s.runningOf vi).filter (fun k =>
      (s.job k).ranks.all (fun te => s.teStat te != tsStopping))).map (fun k => s.jobRanksM1 k + 1)).sum
  || (List.range 4).any (fun d => (s.overLimit vi d).1 && (s.job j).record.privates.any (fun p => p.die == d && p.alloc))

/-- shrink_now: the firmware pre-empts the instance's jobs until the limits hold (R378). -/
def State.shrinkNow (s : State) (vi : Nat) : State :=
  (s.runningOf vi).foldl (fun s j =>
    if s.overShrunk vi j then s.requestPreempt j else s) s

/-- RESIZE (R378). -/
def execViResize (who : Initiator) (vi : Nat) (shrinkNow : Bool) (s : State) : Host.Outcome State Fault Refusal :=
  let status := firstStatus [(s.viSt vi != viActive && s.viSt vi != viQuiesced, vsBadState),
    (s.noResources vi, vsNoResources), (s.overcommit vi, vsOvercommit),
    ((s.droppedQueues vi).any (fun q => s.qState q != 0), vsQueueBusy), (s.ctxBusy vi, vsCtxBusy),
    (s.vectorInUse vi, vsVectorInUse), (s.badExtent vi, vsBadRange), (s.guestLimit vi, vsGuestLimit)]
  .next (s.viCommand who vi 2 status shrinkNow (fun s =>
    let s := (s.settleBuckets vi).copyConfig vi (committed vi)
    let s := s.takeGuaranteed vi
    let s := { s with vis := { s.vis with shrinking := storePut s.vis.shrinking vi shrinkNow.toNat } }
    let s := s.shrinkAll
    (if shrinkNow then s.shrinkNow vi else s).countInstances))

/-! ### Instance reset (R379, R380) -/

/-- Every queue of an instance that is ACTIVE is FROZEN. -/
def State.freezeQueues (s : State) (vi : Nat) : State :=
  (s.viQueues vi).foldl (fun s q => if s.qState q = 1 then s.fset F.schQptr_state 4 0 q 2 else s) s

/-- Whether a queue stays FROZEN because the driver slot of its instance is LOST (R547). -/
def State.heldByDriver (s : State) (vi q : Nat) : Bool :=
  s.driverLost vi && !s.fon F.schQcfg_rt_bound 4 0 q && !(40960 ≤ q && q < 61440)

/-- The FROZEN queues of an instance are ACTIVE again, and held completion records are written. -/
def State.thawQueues (s : State) (vi : Nat) : State :=
  (s.viQueues vi).foldl (fun s q =>
    if s.qState q = 2 && !s.heldByDriver vi q then
      let s := s.fset F.schQptr_state 4 0 q 1
      if isCompletion q then s.drainHeld q (s.cq q).held.length else s
    else s) s

/-- The jobs of an instance, live or with a record that waits. -/
def State.jobsOf (s : State) (vi : Nat) : List Nat := (storeKeys s.sched.jobs).filter (fun j => s.jobVi j == vi)

/-- Every rank of a job is aborted (R145). -/
def State.abortRanks (s : State) (j : Nat) : State :=
  (List.range (s.job j).ranks.length).foldl (fun s r =>
    match s.rankEngine j r with
    | none => s
    | some te =>
      if (s.job j).stopped.contains r || s.teJobOf te != some j then s.rankStopped j r
      else (s.abortEngine te).rankStopped j r) s

/-- Steps 2 to 4 of R379 for jobs and gates: every job of the instance ends, and the records that wait are
discarded. -/
def State.resetJobs (s : State) (vi st : Nat) : State :=
  let s := (s.jobsOf vi).foldl (fun s j =>
    let s := (s.abortRanks j).modJob j (fun x => { x with saved := [], spilled := [] })
    if s.jobLive j then s.stopJob j st 0 else s.settle j) s
  let s := (s.viQueues vi).foldl (fun s q =>
    if isCompletion q then s.setCq q { s.cq q with held := [] } else s) s
  (s.jobsOf vi).foldl State.freeJob s

/-- The buffers of an instance leave their gates without copy (R379, step 4). -/
def State.resetBuffers (s : State) (vi : Nat) : State :=
  allBuffers.foldl (fun s p =>
    if s.bufValid p.1 p.2 && s.bufVi p.1 p.2 == vi then s.leaveBuffer p.1 p.2 false else s) s

/-- The rings of an instance that are not IDLE. -/
def State.viRings (s : State) (vi : Nat) : List Nat :=
  (List.range 64).filter (fun n => s.ringSt n != rgIdle && s.ringVi n == vi)

/-- Step 6: model registrations, pins, counters and the previous model of an instance are cleared. -/
def State.resetModels (s : State) (vi : Nat) : State :=
  { s with cache := { models := s.cache.models.filter (fun p => p.1 / 64 != vi)
                      counters := s.cache.counters.filter (fun p => p.1 / 4096 != vi)
                      previous := storeDrop s.cache.previous vi } }

/-- Steps 1 to 6 of R379: the instance is RESETTING, and what works for it stops. `st` is the state in which its jobs
end, `back` the state to which it returns. -/
def State.opViReset (s : State) (vi st back : Nat) : State :=
  let s := { s with vis := { s.vis with prior := storePut s.vis.prior vi back
                                        resetStart := storePut s.vis.resetStart vi s.periods } }
  let s := (s.setViSt vi viResetting).fset F.viCmd_busy 4 0 vi 1
  let rings := s.viRings vi
  let s := s.freezeQueues vi
  let s := (s.resetJobs vi st).resetBuffers vi
  let s := rings.foldl State.opRingAbort s
  let s := { s with vis := { s.vis with dma := s.vis.dma.filter (fun x => s.qVi x.queue != vi) } }
  ((s.ippResetVi vi).resetModels vi).gfxResetVi vi

/-- The state that an instance returns to after a reset (R380). -/
def State.resetBack (s : State) (vi : Nat) : Nat := if s.viSt vi = viActive then viActive else viQuiesced

/-- Whether an instance's state accepts a reset. -/
def State.mayReset (s : State) (vi : Nat) : Bool := 1 ≤ s.viSt vi && s.viSt vi ≤ 3

/-- RESET, issued through VI_CMD. -/
def execViReset (who : Initiator) (vi : Nat) (s : State) : Host.Outcome State Fault Refusal :=
  let status := firstStatus [(!s.mayReset vi, vsBadState)]
  .next (s.viCommand who vi 3 status false (fun s => s.opViReset vi jsReset (s.resetBack vi)))

/-- A Function Level Reset of virtual function k resets the instance that it exposes; during a reset it joins that
one (R383, R384). -/
def execFunctionLevelReset (function : Nat) (s : State) : Host.Outcome State Fault Refusal :=
  let vi := function - 1
  if function = 0 ∨ 64 < function ∨ s.hostMode ≠ 2 ∨ s.viReg F.viOwner_vf_enable (committed vi) ≠ 1 then .next s
  else if s.mayReset vi then .next (s.opViReset vi jsReset (s.resetBack vi)) else .next s

/-- A guaranteed granule is scrubbed and INSTANCE; a borrowed one is scrubbed and FREE (R379, step 7). -/
def State.resetGranules (s : State) (vi : Nat) : State :=
  (List.range 4).foldl (fun s d =>
    let s := (s.heldGranules vi d true).foldl (fun s g => s.setGranule d g 0 0 0) s
    (s.heldGranules vi d false).foldl (fun s g =>
      let i := granReg g
      let s := s.scrub (granuleAddr d g) 0x100000
      (s.fset F.spmGranuleN_scrubbing d i 0 1).setGranule d g 1 vi (s.fget F.spmGranuleN_rt_partition d i 0)) s) s

/-- Step 9: MSIs and coalescing are cleared, buckets are full, over_budget is cleared. -/
def State.resetQos (s : State) (vi : Nat) : State :=
  let s := (s.viQueues vi).foldl (fun s q =>
    if isCompletion q then s.setCq q { s.cq q with unsignalled := 0, oldest := 0 } else s) s
  let s := s.fset F.viUse_pending_msi 4 0 vi 0
  let s := { s with vis := { s.vis with
    buckets := (List.range 4).foldl (fun m d => storeDrop m (vi * 4 + d)) s.vis.buckets } }
  s.fset F.viState_over_budget 4 0 vi 0

/-- Steps 7 to 10 of R379: the reset is complete. -/
def execViResetDone (vi : Nat) (s : State) : Host.Outcome State Fault Refusal :=
  if s.viSt vi ≠ viResetting then .next s
  else
    let back := storeGet viActive s.vis.prior vi
    let s := (s.resetGranules vi).resetQos vi
    let s := (s.viQueues vi).foldl (fun s q =>
      if s.qState q = 0 then s
      else
        let s := (s.fset F.schQptr_head 4 0 q 0).fset F.schQptr_tail 4 0 q 0
        s.fset F.schQptr_state 4 0 q (if back = viActive && !s.heldByDriver vi q then 1 else 2)) s
    let s := s.setViSt vi back
    let s := (s.fset F.viCmd_busy 4 0 vi 0).fset F.viCmd_status 4 0 vi 0
    let s := s.fwrap F.viState_resets 4 0 vi 1
    let s := { s with vis := { s.vis with prior := storeDrop s.vis.prior vi
                                          resetStart := storeDrop s.vis.resetStart vi } }
    .next (s.raiseRec (viRec E.viResetDone vi))

/-- A reset is not complete 2 ms after its start: the record is written, and the reset goes on (R380). -/
def execViResetLate (vi : Nat) (s : State) : Host.Outcome State Fault Refusal :=
  match storeFind s.vis.resetStart vi with
  | none => .next s
  | some t0 =>
    if s.periods < t0 + 76800 then .next s
    else .next ({ s with vis := { s.vis with resetStart := storeDrop s.vis.resetStart vi } }.raiseRec
      (viRec E.viResetLate vi))

/-! ### Quiesce and removal (R381, R382) -/

/-- QUIESCE: new submissions are refused, accepted work runs to its end. -/
def execViQuiesce (who : Initiator) (vi : Nat) (s : State) : Host.Outcome State Fault Refusal :=
  .next (s.viCommand who vi 4 (firstStatus [(s.viSt vi != viActive, vsBadState)]) false (fun s =>
    (s.freezeQueues vi).setViSt vi viQuiescing))

/-- A quiescing instance has no live job, no DMA descriptor in flight and no held completion record. -/
def execViQuiesced (vi : Nat) (s : State) : Host.Outcome State Fault Refusal :=
  if s.viSt vi = viQuiescing ∧ (s.jobsOf vi).isEmpty = true ∧ s.vis.dma.all (fun x => s.qVi x.queue != vi) = true
      ∧ (s.viQueues vi).all (fun q => (s.cq q).held.isEmpty) = true then .next (s.setViSt vi viQuiesced)
  else .next s

/-- RESUME: the queues are ACTIVE with heads and tails as they were. -/
def execViResume (who : Initiator) (vi : Nat) (s : State) : Host.Outcome State Fault Refusal :=
  .next (s.viCommand who vi 5 (firstStatus [(s.viSt vi != viQuiesced, vsBadState)]) false (fun s =>
    (s.setViSt vi viActive).thawQueues vi))

/-- The SCH_ registers of a queue zeroed: it is DISABLED. -/
def State.clearQueue (s : State) (q : Nat) : State :=
  [F.schQbase_base, F.schQcfg_msi_vector, F.schQptr_head].foldl (fun s f => s.setReg (fldAddr f 4 0 q) 0) s

/-- REMOVE: steps 4 to 7 and 9 of R379, then every resource is released (R382). -/
def execViRemove (who : Initiator) (vi : Nat) (s : State) : Host.Outcome State Fault Refusal :=
  let status := firstStatus [(s.viSt vi != viQuiesced, vsNotQuiesced), (bit s.vis.rtBound vi, vsRtBound)]
  .next (s.viCommand who vi 6 status false (fun s =>
    let rings := s.viRings vi
    let s := rings.foldl State.opRingAbort (s.resetBuffers vi)
    let s := ((s.ippResetVi vi).resetModels vi).resetQos vi
    let s := (List.range 4).foldl (fun s d =>
      (s.heldGranules vi d true ++ s.heldGranules vi d false).foldl (fun s g => s.setGranule d g 0 0 0) s) s
    let s := (s.viQueues vi).foldl State.clearQueue s
    let s := [F.viQueuesA_accel_first, F.viQueuesB_eth_first, F.viCtx_ctx_first, F.viEngines_engine_max,
        F.viSpm_spm_min0, F.viBw_rate0].foldl (fun s f => s.setReg (fldAddr f 4 0 (committed vi)) 0) s
    let s := (List.range 8).foldl (fun s k => s.setReg (fldAddr F.viExtN_base 4 k (committed vi)) 0) s
    let s := s.fset F.viOwner_vf_enable 4 0 (committed vi) 0
    let s := { s with vis := { s.vis with shrinking := storeDrop s.vis.shrinking vi } }
    (s.setViSt vi viFree).raiseRec (viRec E.viRemoved vi)))

/-! ### DMA queues (R371, R372, R482) -/

/-- The statuses of a DMA completion. -/
def dmIommuFault : Nat := 0x30
def dmDeviceFault : Nat := 0x31


/-- A write of a DMA queue on the device's side; false where it fails. -/
def State.dmaWrite (s : State) (who : Initiator) (a : Nat) (bs : List Byte) : State × Bool :=
  match s.checkAccess who true a bs.length with
  | .refuse c => (s.refuseWrite c who a, false)
  | .pass => (((((s.notePosted who a).takeTokens who a bs.length).countLines who a bs.length).placeWrite who a bs).1, true)

/-- A read through the IOMMU: the far side of the host port answers bytes that the spec does not give. -/
def State.iovaRead (s : State) (a n : Nat) : State × Option (List Byte) :=
  if placeOf a = .outbound then s.outRead a n
  else s.fetchAs (.hostFn 0) a n

/-- A write through the IOMMU: one to outbound space leaves through the host port. -/
def State.iovaWrite (s : State) (queue a : Nat) (bs : List Byte) : State × Bool :=
  if placeOf a = .outbound then s.outWrite (.dma (queue - 32768)) a bs else s.dmaWrite (.hostFn 0) a bs

/-- The record of a translation fault of a DMA queue. -/
def dmaFaultRec (vi queue : Nat) : ErrRec :=
  { viRec E.viIommuFault vi with initiator := initiatorCode (.dma (queue - 32768)) vi false, detail := vi + queue * 2 ^ 16 }

/-- Moves the pieces of a transfer up to its first failure: the bytes moved and the status. -/
def State.dmaMove (s : State) (queue : Nat) (out : Bool) (device iova moved : Nat) :
    List (Nat × Nat) → State × Nat × Nat
  | [] => (s, moved, 0)
  | p :: t =>
    let who : Initiator := .dma (queue - 32768)
    let vi := s.qVi queue
    match s.translate (s.viDevice vi) p.1 out with
    | none => (s.iommuFault vi (dmaFaultRec vi queue) p.1 out, moved, dmIommuFault)
    | some a =>
      let local' := device + (p.1 - iova)
      let r := if out then s.fetchAs who local' p.2 else s.iovaRead a p.2
      match r.2 with
      | none => (r.1, moved, dmDeviceFault)
      | some bs =>
        let w := if out then r.1.iovaWrite queue a bs else r.1.dmaWrite who local' bs
        if w.2 then w.1.dmaMove queue out device iova (moved + p.2) t else (w.1, moved, dmDeviceFault)

/-- Whether a DMA entry is well formed. -/
def dmaOk (e : List Byte) : Bool :=
  (leAt e 0 1 == 1 || leAt e 0 1 == 2) && leAt e 1 1 < 2 && leAt e 6 2 == 0 && leAt e 24 4 != 0
    && leAt e 28 8 == 0 && leAt e 36 28 == 0

/-- The descriptor at the head of a DMA queue is fetched and its bytes move. A malformed entry fails without moving
any; one that cannot be read is skipped (R229). -/
def State.dmaFetch (s : State) (queue op : Nat) : State :=
  if !isDma queue then s
  else s.withEntry queue 64 (fun t e =>
    if dmaOk e && leAt e 0 1 != op then s
    else
      let t := t.fset F.schQptr_head 4 0 queue (s.qHead queue + 1)
      let n := leAt e 24 4
      let r := if dmaOk e then
          t.dmaMove queue (op == 1) (leAt e 8 8) (leAt e 16 8) 0 (pieces 0x1000 (leAt e 16 8) n (n / 0x1000 + 2))
        else (t, 0, dmDeviceFault)
      { r.1 with vis := { r.1.vis with dma := r.1.vis.dma ++
        [{ queue, tag := leAt e 2 2, cq := leAt e 4 2, record := bit (leAt e 1 1) 0, moved := r.2.1, status := r.2.2 }] } })

def execDmaToIova (queue : Nat) (s : State) : Host.Outcome State Fault Refusal := .next (s.dmaFetch queue 1)

def execDmaFromIova (queue : Nat) (s : State) : Host.Outcome State Fault Refusal := .next (s.dmaFetch queue 2)

/-- The oldest descriptor of a queue completes after its writes have landed or failed. -/
def execDmaComplete (queue : Nat) (s : State) : Host.Outcome State Fault Refusal :=
  match s.vis.dma.find? (fun x => x.queue == queue) with
  | none => .next s
  | some x =>
    let s := { s with vis := { s.vis with dma := s.vis.dma.erase x } }
    let vi := s.qVi queue
    if x.record && s.cqValid vi x.cq then .next (s.completeCommand x.cq x.tag vi x.status x.moved) else .next s

end Sys2Proof.Machine
end

