-- ==== Sys2Proof/Machine/Worlds.lean ====
section
/-! DEFINITION. Worlds and trust: watermark moves, secure holds, the secure watchdog, vault jobs, attestation and the
lifecycle (R390 to R421). -/

namespace Sys2Proof.Machine

/-! ### Rights -/

/-- Only secure accesses reach the SEC_ block (R391). -/
def secRight : Initiator → Bool
  | .vault _ normal => !normal
  | .hardware => true
  | _ => false

/-- A write to the SEC_ block: refused for a normal-world initiator, else as `f` says. -/
def State.secWrite (s : State) (who : Initiator) (a : Nat) (f : State → State) : State :=
  if secRight who then f s else s.refuse E.secWorld who a

/-- Who may write the loader registers (R77): the steward, the vault, and in RECOVERY the recovery function. -/
def State.loaderRight (s : State) (who : Initiator) : Bool :=
  match who with
  | .vault _ _ => true
  | .recovery => s.fget F.cfgBootStatus_phase 4 0 0 == 6
  | .hardware => true
  | w => w.isSteward

/-! ### Watermarks (R393 to R396) -/

/-- The bytes at which a predicate on addresses holds are zero, without error marks or secure tags: the scrub of a range
that is spread over addresses. -/
def State.scrubWhere (s : State) (p : Nat → Bool) : State :=
  { s with
    mem := s.mem.filter (fun c => !p c.1)
    poisonWords := s.poisonWords.filter (fun c => !p (c.1 * 8))
    softWords := s.softWords.filter (fun c => !p (c.1 * 8))
    hardWords := s.hardWords.filter (fun c => !p (c.1 * 8))
    poisonLines := s.poisonLines.filter (fun c => !p (c.1 * 64))
    softLines := s.softLines.filter (fun c => !p (c.1 * 64))
    hardLines := s.hardLines.filter (fun c => !p (c.1 * 64))
    secureLines := s.secureLines.filter (fun c => !p (c.1 * 64)) }

/-- The scrub of granules [lo, hi) of a watermark target. -/
def State.scrubMarks (s : State) (target lo hi : Nat) : State :=
  s.scrubWhere (fun a => match s.markPlace a with
    | none => false
    | some (t, g) => t == target && lo ≤ g && g < hi)

/-- The largest mark of a target. -/
def markLimit (target : Nat) : Nat := if target < 8 then 8192 else 128

def State.setMark (s : State) (target mark : Nat) : State :=
  if target < 8 then s.fset F.secWmStackN_mark 4 target 0 mark else s.fset F.secWmSpmD_mark 4 (target - 8) 0 mark

/-- Whether [a, a + n) meets granules [lo, hi) of a watermark target. -/
def State.meetsMark (s : State) (a n target lo hi : Nat) : Bool :=
  if target < 8 then placeOf a == .lpddr && s.meetsStack a n target (lo * 0x200000) (hi * 0x200000)
  else
    let b := spmBase (target - 8) 0
    overlap a n (b + lo * 0x100000) ((hi - lo) * 0x100000)

/-- Whether an extent, a registered buffer or a golden area lies in granules [lo, hi) of a target. -/
def State.rangeInUse (s : State) (target lo hi : Nat) : Bool :=
  let hit := fun (a n : Nat) => s.meetsMark a n target lo hi
  (List.range 64).any (fun v => s.viSt v != viFree && (s.extents (committed v)).any (fun e => hit e.1 e.2))
  || allBuffers.any (fun p => s.bufValid p.1 p.2
      && (hit (s.bufBase p.1 p.2) (s.bufGranules p.1 p.2 * granBytes)
        || hit (s.bufShadow p.1 p.2) (s.bufGranules p.1 p.2 * granBytes)))
  || (List.range 4).any (fun d => bit s.boot.goldenWritten d && hit (s.goldenArea d) 0x200000)

/-- Whether a granule of [lo, hi) of a scratchpad target is not FREE. -/
def State.rangeOwned (s : State) (target lo hi : Nat) : Bool :=
  8 ≤ target && (List.range (hi - lo)).any (fun i => s.granKind (target - 8) (granReg (lo + i)) != 0)

/-- The statuses of SEC_WM_CMD: 0 OK, 1 NO_GRANT, 2 IN_USE, 3 BAD_MARK. -/
def State.moveStatus (s : State) (target mark : Nat) : Nat :=
  let old := s.mark target
  if markLimit target < mark then 3
  else if mark = old then 0
  else if mark < old then (if s.rangeOwned target mark old then 2 else 0)
  else if !(s.fon F.cfgWmGrant_valid 4 0 0 && s.fget F.cfgWmGrant_target 4 0 0 == target
      && mark ≤ s.fget F.cfgWmGrant_up_to 4 0 0) then 1
  else if s.rangeInUse target old mark || s.rangeOwned target old mark then 2
  else 0

/-- SEC_WM_CMD go: the range is MOVING from its acceptance on. -/
def execWatermarkMove (who : Initiator) (target mark : Nat) (s : State) : Host.Outcome State Fault Refusal :=
  let a := fldPlace F.secWmCmd_target 4 0
  .next (s.secWrite who a (fun s =>
    if 11 < target then (s.fset F.secWmCmd_new_mark 4 0 0 mark).dropReg E.regReservedCode who a
    else if (storeFind s.moves target).isSome then s.dropWrite who a
    else
      let status := s.moveStatus target mark
      let old := s.mark target
      let s := (s.fset F.secWmCmd_target 4 0 0 target).fset F.secWmCmd_new_mark 4 0 0 mark
      let s := (s.fset F.secWmCmd_status 4 0 0 status).answerOk
      if status ≠ 0 ∨ mark = old then s
      else
        let s := if old < mark then s.fset F.cfgWmGrant_valid 4 0 0 0 else s
        { s with moves := storePut s.moves target (old, mark) }.fset F.secWmCmd_busy 4 0 0 1))

/-- The scrub of a moved range ends: the mark moves. -/
def execWatermarkMoveDone (target : Nat) (s : State) : Host.Outcome State Fault Refusal :=
  match storeFind s.moves target with
  | none => .next s
  | some (old, mark) =>
    let s := (s.scrubMarks target (min old mark) (max old mark)).setMark target mark
    let s := { s with moves := storeDrop s.moves target }
    .next (s.fset F.secWmCmd_busy 4 0 0 (!s.moves.isEmpty).toNat)

/-- CFG_WM_GRANT with grant: the steward publishes a raise. -/
def execWatermarkGrant (who : Initiator) (target upTo : Nat) (s : State) : Host.Outcome State Fault Refusal :=
  let a := fldPlace F.cfgWmGrant_target 4 0
  if !s.loaderRight who then .next (s.dropWrite who a)
  else if 11 < target then .next ((s.fset F.cfgWmGrant_up_to 4 0 0 upTo).dropReg E.regReservedCode who a)
  else
    let s := (s.fset F.cfgWmGrant_target 4 0 0 target).fset F.cfgWmGrant_up_to 4 0 0 upTo
    .next (s.fset F.cfgWmGrant_valid 4 0 0 1).answerOk

/-! ### Secure holds (R397 to R403) -/

/-- Whether an engine holds a rank of a job. -/
def State.rankHere (s : State) (te : Nat) : Bool :=
  (storeKeys s.sched.jobs).any (fun j => bit (s.fget F.schJranks_engines 4 0 j) te)

/-- Whether a granule of a cluster is neither FREE nor below the die's watermark. -/
def State.clusterOwned (s : State) (c : Nat) : Bool :=
  (List.range 16).any (fun i =>
    let g := c % 8 * 16 + i
    s.granKind (c / 8) (granReg g) != 0 && s.mark (8 + c / 8) ≤ g)

/-- Whether a ring is bound to a queue of descriptors. -/
def State.ringBound (s : State) (n : Nat) : Bool :=
  4 ≤ s.fget F.seRingBase_size_log2 (n / 16) (ringReg n) 0 || s.ringSt n != rgIdle

/-- The rings of a block of R397 from 32 on. -/
def blockRings (b : Nat) : List Nat := (List.range 4).map (· + (b - 32) * 4)

/-- The status of a hold: 0 OK, 1 BUSY, 2 RT, 4 REFUSED. -/
def State.holdStatus (s : State) (b : Nat) : Nat :=
  if s.blockHeld b then 0
  else if b < 32 then
    if (List.range 2).any (fun e => bit (s.fget F.schRtLock_engines (b / 8) 0 0) (2 * b % 16 + e)) then 2
    else if s.rankHere (2 * b) || s.rankHere (2 * b + 1) || s.clusterOwned b then 1
    else if !bit (s.fget F.cfgCapsClusterMap_cluster_usable 4 0 0) b then 4
    else 0
  else if b < 48 then (if (blockRings b).any s.ringBound then 1 else 0)
  else if (List.range 8).any (fun n => s.medState n != msClosed) then 1
  else 0

/-- A block's bit of SEC_HOLD_MAP, and what MED_STATUS shows of it. -/
def State.setHeld (s : State) (b : Nat) (v : Bool) : State :=
  let s := s.fset F.secHoldMap_held 4 0 0 (setBit (s.fget F.secHoldMap_held 4 0 0) b v)
  if b = 48 then s.fset F.medStatus_held 5 0 0 v.toNat else s

def State.holdCommand (s : State) (who : Initiator) (b op : Nat) (f : State → State × Nat) : State :=
  let a := fldPlace F.secHoldCmd_block 4 0
  s.secWrite who a (fun s =>
    if 48 < b then s.dropReg E.regReservedCode who a
    else
      let r := f ((s.fset F.secHoldCmd_block 4 0 0 b).fset F.secHoldCmd_op 4 0 0 op)
      (r.1.fset F.secHoldCmd_status 4 0 0 r.2).answerOk)

def execSecureHold (who : Initiator) (block : Nat) (s : State) : Host.Outcome State Fault Refusal :=
  .next (s.holdCommand who block 1 (fun s =>
    let status := s.holdStatus block
    (if status = 0 then s.setHeld block true else s, status)))

/-- The scrub of R402: engines lose buffers, banks and state, stream engines their rings, the codec its sessions. A
golden test that runs on a held engine goes on. -/
def State.scrubBlock (s : State) (b : Nat) : State :=
  if b < 32 then
    (List.range 2).foldl (fun s e =>
      let te := 2 * b + e
      if s.testing te || s.teStat te == tsOut then s
      else
        let s := ((s.abortEngine te).setEng te {}).setTeStat te tsIdle
        let s := s.fset F.teSaveBase_save_addr (te / 16) (te % 16) 0 0
        s.fset F.teFault_valid (te / 16) (te % 16) 0 0) s
  else if b < 48 then
    (blockRings b).foldl (fun s n =>
      let s := { s with rings := storeDrop s.rings n }
      [F.seRingBase_base, F.seRingHead_head, F.seRingTail_tail].foldl
        (fun s f => s.setReg (fldAddr f (n / 16) (ringReg n) 0) 0) s) s
  else ((List.range 8).foldl (fun s n => s.fset F.medSession_state 5 0 n msClosed) s).countSessions

/-- The parkable units of a block of R397. -/
def blockUnits (b : Nat) : List Nat := if b < 32 then [2 * b, 2 * b + 1] else if b = 48 then [89] else []

/-- The normal-world requests that waited for a release go ahead (R401). -/
def State.parkWaiting (s : State) (b : Nat) : State :=
  (blockUnits b).foldl (fun s k =>
    let m := s.fget F.pwrParked_held_pending (k / 16) 0 0
    if bit m (k % 16) then
      (s.setHeldPending k false).startPark k
    else s) s

/-- A hold ends: scrub, and the requests that waited. -/
def State.endHold (s : State) (b : Nat) : State :=
  let s := (s.scrubBlock b).setHeld b false
  let s := if s.fget F.secNotice_block 4 0 0 = b ∧ s.fget F.secNotice_kind 4 0 0 = 3 then s.secNotice 0 0 0 else s
  s.parkWaiting b

def execSecureRelease (who : Initiator) (block : Nat) (s : State) : Host.Outcome State Fault Refusal :=
  .next (s.holdCommand who block 2 (fun s => if s.blockHeld block then (s.endHold block, 0) else (s, 3)))

/-- The secure granules of a cluster are zeroed (R403). -/
def State.zeroSecure (s : State) (c : Nat) : State :=
  (List.range 16).foldl (fun s i =>
    let g := c % 8 * 16 + i
    if g < s.mark (8 + c / 8) then s.scrub (granuleAddr (c / 8) g) 0x100000 else s) s

/-- A block that is still held 100 µs after an emergency that parks it. -/
def State.forceHold (s : State) (b : Nat) : State :=
  let s := if b < 32 then s.zeroSecure b else s
  (s.endHold b).raiseSide { recOf E.secHoldForced 4 0x0A 0xFFFF with detail := b }

/-- Whether a normal-world request to stop a block waits. -/
def State.stopWaits (s : State) (b : Nat) : Bool :=
  (blockUnits b).any (fun k => bit (s.fget F.pwrParked_held_pending (k / 16) 0 0) (k % 16))

def execSecureHoldForced (s : State) : Host.Outcome State Fault Refusal :=
  match s.power.emergency with
  | none => .next s
  | some t =>
    if s.periods < t + 3840 then .next s
    else .next ((((List.range 49).filter (fun b => s.blockHeld b && s.stopWaits b)).foldl State.forceHold s).countSessions)

/-! ### The secure watchdog (R404, R405) -/

/-- A new period with a new challenge. -/
def State.wdogRestart (s : State) : State :=
  let r := s.fresh 16
  let s := r.2.fset F.secWdog_challenge 4 0 0 r.1
  let s := s.fset F.secWdog_remaining_ms 4 0 0 (s.fget F.secWdog_period_ms 4 0 0)
  { s with boot := { s.boot with wdogStart := some s.periods } }

/-- The device enters the safe state, and a whole warm restart follows 20 ms later. -/
def State.wdogExpire (s : State) : State :=
  let s := { s with boot := { s.boot with wdogStart := none } }
  (s.newEvent.raiseRec (recOf E.secWdogExpired 4 0x0A 0xFFFF)).enterSafe rsWatchdog true

/-- The moment of expiry of the period that runs. -/
def State.wdogEnd (s : State) : Option Nat :=
  s.boot.wdogStart.map (fun t => t + s.fget F.secWdog_period_ms 4 0 0 * 38400)

def execWatchdogKick (who : Initiator) (value : Nat) (s : State) : Host.Outcome State Fault Refusal :=
  .next (s.secWrite who (fldPlace F.secWdogKick_kick 4 0) (fun s =>
    if s.boot.wdogStart.isNone then s.answerOk
    else if value % 65536 + s.fget F.secWdog_challenge 4 0 0 = 65535 then s.wdogRestart.answerOk
    else s.wdogExpire.answerOk))

def execWatchdogExpiry (s : State) : Host.Outcome State Fault Refusal :=
  match s.wdogEnd with
  | none => .next s
  | some t => if s.periods < t then .next s else .next s.wdogExpire

/-! ### Vault jobs (R398, R399, R419) -/

/-- A write to the registers that mirror the selected engine: it must belong to a held cluster. -/
def State.secTe (s : State) (who : Initiator) (f : State → Nat → State) : State :=
  let a := fldPlace F.secTeCtrl_as_te_ctrl 4 0
  s.secWrite who a (fun s =>
    let te := s.fget F.secTeSel_engine 4 0 0
    if !s.blockHeld (te / 2) then s.dropWrite who a
    else if s.testing te then s.dropReg E.gftEngineBusy who a
    else (f s te).answerOk)

def execSecTeStart (who : Initiator) (s : State) : Host.Outcome State Fault Refusal :=
  .next (s.secTe who (fun s te => if s.engineUsable te && s.teAtRest te then s.opTeStart te else s))

def execSecTePreempt (who : Initiator) (s : State) : Host.Outcome State Fault Refusal :=
  .next (s.secTe who (fun s te => s.opTePreempt te))

def execSecTeResume (who : Initiator) (s : State) : Host.Outcome State Fault Refusal :=
  .next (s.secTe who (fun s te => if s.engineUsable te && s.teAtRest te then s.opTeResume te .clean else s))

def execSecTeAbort (who : Initiator) (s : State) : Host.Outcome State Fault Refusal :=
  .next (s.secTe who (fun s te => s.opTeAbort te))

/-! ### Attestation (R409 to R413) -/

def lcBlank : Nat := 0
def lcDev : Nat := 1
def lcProd : Nat := 2
def lcRetired : Nat := 3

def State.lifecycle (s : State) : Nat := s.fget F.cfgCapsId_lifecycle 4 0 0

/-- The addresses of the flash regions that this chapter writes (R56). -/
def attRegion : Nat := 0x6000080000
def vaultStore : Nat := 0x6000090000

/-- An index record: magic, sequence, ceiling, CRC-32C (R410). -/
def indexRecord (seq ceiling : Nat) : List Byte :=
  let body := beBytes 0x485A4149 4 ++ leBytes seq 4 ++ leBytes ceiling 8 ++ leBytes 0 12
  body ++ leBytes (crc32c body) 4

/-- Writes the next index record. A record that opens a half follows the erasure of that half. -/
def State.writeIndex (s : State) (seq ceiling : Nat) : State :=
  let place := (seq - 1) % 2048
  let s := if place % 1024 = 0 then s.scrub (attRegion + place * 32) 0x8000 else s
  let s := s.putAt (attRegion + place * 32) (indexRecord seq ceiling)
  { s with flash := { s.flash with attSeq := seq, attCeiling := ceiling } }

/-- Bytes 0 to 183 of an attestation report (R413). -/
def State.reportBody (s : State) (nonce : List Byte) : List Byte :=
  beBytes 0x485A4154 4 ++ leBytes 1 2 ++ leBytes 0 2 ++ leBytes s.flash.unitId 16 ++ leBytes s.lifecycle 1
    ++ leBytes (s.fget F.cfgBootStatus_bank 4 0 0) 1 ++ leBytes (s.fget F.cfgBootStatus_warm_count 4 0 0) 2
    ++ leBytes (s.fget F.cfgBootStatus_image_version 4 0 0) 4 ++ leBytes s.flash.floor 4 ++ leBytes 0 4
    ++ leBytes s.boot.manifestDigest 32 ++ leBytes s.boot.calibDigest 32 ++ leBytes s.boot.firmwareDigest 32
    ++ nonce ++ leBytes s.deviceTime 12 ++ leBytes 0 4

/-- The 5 605 bytes of a signature with an index: the index, then what the key gives. -/
def attSignature (key index : Nat) (body : List Byte) : List Byte :=
  beBytes index 5 ++ (List.range 5600).map (fun i => BitVec.ofNat 8 (Config.attestSign key index body i))

/-- The statuses of R411. -/
def atNoKey : Nat := 0x20
def atBadAddress : Nat := 0x21
def atExhausted : Nat := 0x22
def atBusy : Nat := 0x23

/-- Whether an instance may have the vault write [a, a + n): in its reach, and in no public or shadow range. -/
def State.vaultOutput (s : State) (vi a n : Nat) : Bool :=
  s.inReach vi a n && !s.takenRange a n && !s.worldRefuses false a n && !(s.isMoving a || s.isMoving (a + n - 1))

/-- Whether index 2^40 − 1 was used: the ceiling stands at 2^40, and SEC_ATT, which shows 40 bits, at 0 (R410). -/
def State.indexExhausted (s : State) (next : Nat) : Bool := 2 ^ 40 ≤ s.flash.attCeiling && next % 2 ^ 40 == 0

/-- ATTEST: the report, signed with the next index. -/
def execAttest (queue : Nat) (s : State) : Host.Outcome State Fault Refusal :=
  .next (s.sysCommand queue 0x20 (fun s e vi =>
    let nonceAt := cmdArg e 0
    let out := cmdArg e 1
    let times := (s.boot.attestTimes.filter (fun t => s.periods < t + 38400000)) ++ [s.periods]
    let s := { s with boot := { s.boot with attestTimes := times } }
    let next := s.fget F.secAtt_next 4 0 0
    if s.lifecycle ≠ lcProd then (s, some (atNoKey, 0))
    else if !(s.inReadReach vi nonceAt 32 && out % 64 == 0 && s.vaultOutput vi out 5789) then
      (s, some (atBadAddress, 0))
    else if s.indexExhausted next then (s, some (atExhausted, 0))
    else if 100 < times.length then (s, some (atBusy, 0))
    else
      match s.fetchAs (.service (some vi)) nonceAt 32 with
      | (s, none) => (s, some (atBadAddress, 0))
      | (s, some nonce) =>
        let s := if next = s.flash.attCeiling then s.writeIndex (s.flash.attSeq + 1) (s.flash.attCeiling + 64) else s
        let body := s.reportBody nonce
        let s := s.store out (body ++ attSignature (s.flash.attKey.getD 0) next body)
        (s.setReg (fldAddr F.secAtt_next 4 0 0) (next + 1), some (stOk, 0))))

/-- ATTEST_KEY: the unit's identity and the attestation public key. -/
def execAttestKey (queue : Nat) (s : State) : Host.Outcome State Fault Refusal :=
  .next (s.sysCommand queue 0x21 (fun s e vi =>
    let out := cmdArg e 0
    if s.lifecycle ≠ lcProd then (s, some (atNoKey, 0))
    else if !s.vaultOutput vi out 84 then (s, some (atBadAddress, 0))
    else
      let key := (List.range 68).map (fun i => BitVec.ofNat 8 (Config.attestPublic (s.flash.attKey.getD 0) i))
      (s.store out (leBytes s.flash.unitId 16 ++ key), some (stOk, 0))))

/-! ### The lifecycle (R57, R58, R407, R414, R415) -/

def State.pageSealed (s : State) (p : Nat) : Bool := bit s.flash.sealedPages p

def State.sealPage (s : State) (p : Nat) : State :=
  { s with flash := { s.flash with sealedPages := setBit s.flash.sealedPages p true } }

/-- The digest of the root key in force. -/
def State.rootInForce (s : State) : Nat :=
  if s.lifecycle = lcBlank then Config.vendorRoot
  else if s.pageSealed 1 then s.flash.oemRoot
  else s.flash.devKeyRoot.getD Config.vendorRoot

/-- The status codes of CFG_LIFE_CMD. -/
def lfSig : Nat := 1
def lfUnit : Nat := 2
def lfState : Nat := 3
def lfSequence : Nat := 4
def lfFormat : Nat := 5
def lfFlash : Nat := 6

/-- Whether a request is well formed: fields that a move does not use are zero. -/
def lifeFormatOk (r : List Byte) : Bool :=
  let op := leAt r 6 1
  leAt r 0 4 == leNat (beBytes 0x485A4C43 4) && leAt r 4 2 == 1 && 1 ≤ op && op ≤ 4 && leAt r 28 4 == 0
    && (op == 2 || leAt r 24 4 == 0) && (op == 2 || op == 3 || leAt r 32 32 == 0)

/-- The certificate chain and signature of a request. -/
def State.lifeSigned (s : State) (r : List Byte) : Bool :=
  let signer := byteSlice r 64 68
  let root := byteSlice r 132 68
  Config.shake256 root == s.rootInForce && Config.xmssVerify root signer (byteSlice r 200 2820)
    && Config.xmssVerify signer (byteSlice r 0 64) (byteSlice r 3020 2820)

/-- Whether the current state permits a move. -/
def State.lifePermitted (s : State) (op : Nat) : Bool :=
  if op = 1 then s.lifecycle == lcBlank
  else if op = 2 then s.lifecycle == lcDev && !s.pageSealed 1
  else if op = 3 then s.lifecycle == lcDev
  else s.lifecycle != lcRetired

/-- The status of a request. -/
def State.lifeStatus (s : State) (r : List Byte) : Nat :=
  if !lifeFormatOk r then lfFormat
  else if !s.lifeSigned r then lfSig
  else if leAt r 8 16 ≠ s.flash.unitId then lfUnit
  else if leAt r 7 1 ≠ s.lifecycle ∨ s.lifePermitted (leAt r 6 1) = false then lfState
  else if leAt r 6 1 = 2 ∧ leAt r 24 4 ≤ s.flash.devKeySeq then lfSequence
  else 0

/-- The request that CFG_LIFE_SRC names, which the loader reads; one that cannot be read, or that is not aligned, is
malformed. -/
def State.lifeRequest (s : State) : State × Option (List Byte) :=
  let a := s.fget F.cfgLifeSrc_src 4 0 0
  if a % 64 = 0 then s.fetchAs .loader a 5840 else (s, none)

/-- CFG_LIFE_CMD go with a request for a move: the checks, then the move's actions. A flash program that fails leaves
the status FLASH_FAIL. -/
def State.lifeMove (s : State) (who : Initiator) (op : Nat) (flashOk : Bool) (f : State → List Byte → State) : State :=
  if !s.loaderRight who then s.dropWrite who (fldPlace F.cfgLifeCmd_go 4 0)
  else if s.fon F.cfgLifeCmd_busy 4 0 0 then s.answerOk
  else
    match s.lifeRequest with
    | (t, none) => (t.fset F.cfgLifeCmd_status 4 0 0 lfFormat).answerOk
    | (t, some r) =>
      if lifeFormatOk r && leAt r 6 1 != op then s
      else
        let status := s.lifeStatus r
        let status := if status = 0 ∧ flashOk = false then lfFlash else status
        let t := t.fset F.cfgLifeCmd_status 4 0 0 status
        if status = 0 then (f t r).answerOk else t.answerOk

/-- A move is complete: its record, and the whole warm restart that ends it. -/
def State.lifeDone (s : State) (op : Nat) : State :=
  let s := s.raiseSide { recOf E.secLifecycle 4 0x0A 0xFFFF with detail := op }
  if op = 2 then s else { s with boot := { s.boot with restartTime := some s.periods } }

def execToDev (who : Initiator) (flashOk : Bool) (s : State) : Host.Outcome State Fault Refusal :=
  .next (s.lifeMove who 1 flashOk (fun s _ => (s.sealPage 2).lifeDone 1))

def execSetDevRoot (who : Initiator) (flashOk : Bool) (s : State) : Host.Outcome State Fault Refusal :=
  .next (s.lifeMove who 2 flashOk (fun s r =>
    { s with flash := { s.flash with devKeySeq := leAt r 24 4, devKeyRoot := some (leAt r 32 32) } }.lifeDone 2))

/-- TO_PROD up to the generation of the key; a page 1 that is sealed already keeps its digest. -/
def execToProd (who : Initiator) (flashOk : Bool) (s : State) : Host.Outcome State Fault Refusal :=
  .next (s.lifeMove who 3 flashOk (fun s r =>
    let s := { s with boot := { s.boot with debugOff := true } }
    if s.pageSealed 1 ∧ s.flash.oemRoot ≠ leAt r 32 32 then s.fset F.cfgLifeCmd_status 4 0 0 lfFlash
    else
      let s := { s with flash := { s.flash with oemRoot := leAt r 32 32, attKey := none } }.sealPage 1
      { s with boot := { s.boot with keyGenerating := true } }.fset F.cfgLifeCmd_busy 4 0 0 1))

def execAttestKeyGenerated (flashOk : Bool) (s : State) : Host.Outcome State Fault Refusal :=
  if !s.boot.keyGenerating then .next s
  else
    let s := { s with boot := { s.boot with keyGenerating := false } }.fset F.cfgLifeCmd_busy 4 0 0 0
    if !flashOk then .next (s.fset F.cfgLifeCmd_status 4 0 0 lfFlash)
    else
      let r := s.fresh 256
      let s := { r.2 with flash := { r.2.flash with attKey := some r.1 } }
      .next (((s.writeIndex 1 0).sealPage 3).lifeDone 3)

def execToRetired (who : Initiator) (flashOk : Bool) (s : State) : Host.Outcome State Fault Refusal :=
  .next (s.lifeMove who 4 flashOk (fun s _ =>
    let s := (s.scrub vaultStore (0x6001000000 - vaultStore)).scrub 0x6000030000 0x10000
    let s := { s with flash := { s.flash with attKey := none, vaultStoreErased := true, devKeySeq := 0,
                                              devKeyRoot := none } }
    (s.sealPage 4).lifeDone 4))

end Sys2Proof.Machine
end

