-- ==== Sys2Proof/Machine/Errors.lean ====
section
/-! DEFINITION. The error collector: records as bytes, their arrival, the ring and its handling, injected records, and the
health log (R554 to R565). -/

namespace Sys2Proof.Machine

/-! ### The fabric (R12, R15) -/

/-- The port of die d whose link leads to die e. -/
def fabPortTo (d e : Nat) : Option Nat := (List.range 4).find? (fun p => fabPeer d p == e)

/-- Whether the link of a fabric port is up (R15). -/
def State.portUp (s : State) (d p : Nat) : Bool := !s.bridge.linksDown.contains (d * 4 + p)

/-- Whether a die reaches another over links that are up, within a number of hops. -/
def State.fabReaches (s : State) (d e : Nat) : Nat → Bool
  | 0 => d == e
  | n + 1 => d == e || (List.range 4).any (fun p => s.portUp d p && s.fabReaches (fabPeer d p) e n)

/-! ### The ring (R558, R559) -/

/-- The level NONE. -/
def lvNone : Nat := 7

/-- A slot's severity as it is handled: S3 for a record whose CRC is bad (R560). -/
def RingSlot.level (x : RingSlot) : Nat := if x.record.crcBad then 3 else x.record.sev

/-- Records stored and not passed by tail. -/
def State.occupancy (s : State) : Nat := s.err.stored - s.err.tailSeq

/-- The slot of a sequence number, where the ring still holds it. -/
def State.slotSeq (s : State) (q : Nat) : Option RingSlot :=
  match storeFind s.err.ring (q % 256) with
  | none => none
  | some x => if x.record.seq = q then some x else none

/-- The handling level: the severity of the latest record in handling that is not done. -/
def State.level (s : State) : Nat :=
  match s.err.handlingOrder.getLast? with
  | none => lvNone
  | some q => match s.slotSeq q with
    | none => lvNone
    | some x => x.level

/-- ERR_RING and ERR_STATUS as they stand. -/
def State.refreshErr (s : State) : State :=
  let s := (s.fset F.errRing_head 4 0 0 (s.err.stored % 512)).fset F.errRing_tail 4 0 0 (s.err.tailSeq % 512)
  let s := s.fset F.errStatus_occupancy 4 0 0 s.occupancy
  let s := s.fset F.errStatus_handling 4 0 0 (!s.err.handlingOrder.isEmpty).toNat
  s.fset F.errStatus_level 4 0 0 s.level

/-- The counter of a severity. -/
def sevCounter (n : Nat) : Fld :=
  if n = 0 then F.errCountsA_s0 else if n = 1 then F.errCountsA_s1 else if n = 2 then F.errCountsA_s2
  else if n = 3 then F.errCountsA_s3 else F.errCountsB_s4

/-- The steward's interrupt for a stored record. -/
def State.notifyRec (s : State) (r : ErrRec) : State :=
  if s.fon F.errNotify_enable 4 0 0 && s.fget F.errNotify_min_severity 4 0 0 ≤ r.sev then
    s.send (.msi (s.fget F.errNotify_file 4 0 0 * 4096) (s.fget F.errNotify_vector 4 0 0))
  else s

/-- Whether a record goes to the health log (R556). -/
def ErrRec.lasting (r : ErrRec) : Bool := 3 ≤ r.sev || r.code == E.bankFailed.code

/-- A record takes the next sequence number and enters the ring; a follow-on record carries that of its primary in the
last 4 bytes of its detail. -/
def State.storeRec (s : State) (r : ErrRec) : State :=
  let q := s.err.stored
  let primary := storeFind s.err.primaries r.event
  let r := { r with
    seq := q
    noPrimary := r.follow && primary.isNone
    detail := if r.follow then r.detail % 2 ^ 128 + primary.getD 0xFFFFFFFF * 2 ^ 128 else r.detail }
  let e := s.err
  let s := { s with err := { e with
    ring := storePut e.ring (q % 256) { record := r }
    stored := q + 1
    primaries := if r.follow then e.primaries else storePut e.primaries r.event q
    hlogQueue := if r.lasting && !r.crcBad then e.hlogQueue ++ [r] else e.hlogQueue } }
  ((s.fadd (sevCounter r.sev) 4 0 0 1).notifyRec r).refreshErr

/-- The record of an error storm, an event of its own: it names the record that was lost. -/
def State.stormRec (s : State) (lost : ErrRec) : ErrRec :=
  { recOf E.errorStorm 4 0x0F 0xFFFF with
    time := s.deviceTime, event := s.err.nextEvent, detail := lost.code + lost.die * 2 ^ 16 + lost.sev * 2 ^ 24 }

/-- The fatal codes that do not signal the safe-state logic: causes of R305 with a reason of their own (R556). -/
def ownReason (c : Nat) : Bool :=
  c == E.oscFail.code || c == E.hwEscalation.code || c == E.safeState.code || c == E.restartLimit.code

/-- The reaction to a fatal record. -/
def State.fatalRec (s : State) (r : ErrRec) : State :=
  if r.sev = 4 ∧ ownReason r.code = false then
    { s with err := { s.err with current := r.event } }.enterSafe rsS4Fatal true
  else s

/-- An error storm begins: its record takes the last entry where that is free, and it is fatal (R561). -/
def State.beginStorm (s : State) (lost : ErrRec) : State :=
  let r := s.stormRec lost
  let s := { s with err := { s.err with nextEvent := s.err.nextEvent + 1 } }.fset F.errStatus_storm 4 0 0 1
  (if s.occupancy < 256 then s.storeRec r else s.fadd F.errCountsB_lost 4 0 0 1).fatalRec r

/-- A record at the collector (R559). -/
def State.collect (s : State) (r : ErrRec) : State :=
  let n := s.occupancy
  let s :=
    if r.sev ≤ 1 then (if n < 192 then s.storeRec r else s.fadd F.errCountsB_suppressed 4 0 0 1)
    else if r.sev ≤ 3 then
      if n < 255 then s.storeRec r
      else if s.fon F.errStatus_storm 4 0 0 then s.fadd F.errCountsB_lost 4 0 0 1
      else s.beginStorm r
    else if n < 256 then s.storeRec r
    else s.fadd F.errCountsB_lost 4 0 0 1
  s.fatalRec r

/-- The earliest record on its way reaches the collector; one whose source has no path to S is held there, and beyond 16
counted (R557). A corrupt one is stored with a bad crc (R560). -/
def execErrorRecordArrival (corrupt : Bool) (s : State) : Host.Outcome State Fault Refusal :=
  let ready := (storeKeys s.err.held).find? (fun d =>
    !(storeGet [] s.err.held d).isEmpty && s.fabReaches d 4 7)
  match ready with
  | some d =>
    match storeGet [] s.err.held d with
    | [] => .next s
    | r :: rs => .next ({ s with err := { s.err with held := storePut s.err.held d rs } }.collect { r with crcBad := corrupt })
  | none =>
    match s.err.inFlight with
    | [] => .next s
    | r :: rs =>
      let s := { s with err := { s.err with inFlight := rs } }
      if s.fabReaches r.die 4 7 || !s.boot.loaded then .next (s.collect { r with crcBad := corrupt })
      else
        let h := storeGet [] s.err.held r.die
        if h.length < 16 then .next { s with err := { s.err with held := storePut s.err.held r.die (h ++ [r]) } }
        else .next (s.fadd F.fabCounts_held_records r.die 0 0 1)

/-! ### Handling (R558, R560) -/

/-- Whether an initiator is a sentinel core. -/
def isSentinel : Initiator → Bool
  | .sentinel _ => true
  | .hardware => true
  | _ => false

/-- The stored records that are neither done nor in handling, from the tail on. -/
def State.openRecs (s : State) : List RingSlot :=
  ((List.range s.occupancy).filterMap (fun i => s.slotSeq (s.err.tailSeq + i))).filter
    (fun x => !x.done && !x.handling)

/-- The record that ERR_NEXT presents. -/
def State.nextRec (s : State) : Option RingSlot :=
  let floor := if s.level = lvNone then 0 else s.level + 1
  [4, 3, 2, 1, 0].findSome? (fun n => if n < floor then none else s.openRecs.find? (fun x => x.level == n))

/-- The record under which the sentinel firmware handles one that it read with a bad crc: its sequence number alone is
trusted (R560). -/
def State.crcRec (s : State) (q : Nat) : ErrRec := { recOf E.recordCrc 4 0x0F 0xFFFF with time := s.deviceTime, seq := q }

/-- A read of ERR_NEXT: the record is in handling; the value holds index, valid and sequence. -/
def State.readNext (s : State) (who : Initiator) : State :=
  if !isSentinel who then s.refuse E.addressRefused who (fldPlace F.errNext_index 4 0)
  else
    match s.nextRec with
    | none => s.answer 0
    | some x =>
      let q := x.record.seq
      let s := if s.level = lvNone then s else s.fadd F.errCountsB_preemptions 4 0 0 1
      let s := { s with err := { s.err with
        ring := storePut s.err.ring (q % 256) { x with handling := true }
        handlingOrder := s.err.handlingOrder ++ [q]
        hlogQueue := if x.record.crcBad then s.err.hlogQueue ++ [s.crcRec q] else s.err.hlogQueue } }
      s.refreshErr.answer (q % 256 + 256 + q % 2 ^ 32 * 2 ^ 32)

def execErrNextRead (who : Initiator) (s : State) : Host.Outcome State Fault Refusal := .next (s.readNext who)

/-- tail passes every contiguous done record. -/
def State.passTail (s : State) : Nat → State
  | 0 => s
  | fuel + 1 =>
    if s.err.tailSeq < s.err.stored then
      match s.slotSeq s.err.tailSeq with
      | some x => if x.done then ({ s with err := { s.err with tailSeq := s.err.tailSeq + 1 } }).passTail fuel else s
      | none => s
    else s

/-- A write of ERR_DONE: the record of an index is done, where it is in handling. -/
def State.markDone (s : State) (index : Nat) : State :=
  match storeFind s.err.ring (index % 256) with
  | none => s
  | some x =>
    if x.handling && !x.done then
      let q := x.record.seq
      let s := { s with err := { s.err with
        ring := storePut s.err.ring (index % 256) { x with done := true, handling := false }
        handlingOrder := s.err.handlingOrder.filter (· != q) } }
      (s.passTail 256).refreshErr
    else s

def execErrDone (who : Initiator) (index : Nat) (s : State) : Host.Outcome State Fault Refusal :=
  if isSentinel who then .next (s.markDone index).answerOk
  else .next (s.dropWrite who (fldPlace F.errDone_index 4 0))

/-- Records in handling become not-done, as a takeover or a whole warm restart presents them again. -/
def State.unhandle (s : State) : State :=
  { s with err := { s.err with
    ring := s.err.ring.map (fun (p : Nat × RingSlot) => (p.1, { p.2 with handling := false }))
    handlingOrder := [] } }.refreshErr

/-- A write of ERR_INJECT: a record with the code INJECTED. -/
def execErrInject (who : Initiator) (value : Word) (s : State) : Host.Outcome State Fault Refusal :=
  let a := fldPlace F.errInject_code 4 0
  let sev := F.errInject_severity.of value.toNat
  if !isSentinel who then .next (s.dropWrite who a)
  else if 4 < sev then .next (s.dropReg E.regReservedCode who a)
  else if sev = 4 then .next s.answerOk
  else .next (s.raiseRec { recOf E.injected 4 0x0F 0xFFFF with
    sev, injected := true, detail := F.errInject_code.of value.toNat }).answerOk

/-! ### The health log (R563, R565) -/

/-- The entries of the last second. -/
def State.hlogRecent (s : State) : List Nat := s.err.hlogTimes.filter (fun t => s.periods < t + 38400000)

/-- One entry is written; the oldest sector is erased for a new one. -/
def State.hlogWrite (s : State) (r : ErrRec) : State :=
  let n := s.err.hlogPos
  let sector := n / 1023 % 256
  let kept := if n % 1023 = 0 then storeDropRange s.err.hlog (sector * 1024) 1024 else s.err.hlog
  let s := { s with err := { s.err with
    hlog := storePut kept (hlogPlace n) { record := r }
    hlogPos := n + 1
    hlogTimes := s.hlogRecent ++ [s.periods] } }
  (s.fwrap F.errHlog_written 4 0 0 1).fset F.cfgHlogStatus_newest_sector 4 0 0 sector

/-- The next waiting entry is written; beyond 64 in a second it is counted, and the count follows in a record. -/
def execHealthLogWrite (s : State) : Host.Outcome State Fault Refusal :=
  let room := s.hlogRecent.length < 64
  match s.err.hlogQueue with
  | [] =>
    if 0 < s.err.hlogDrops && room then
      let n := s.err.hlogDrops
      .next ({ s with err := { s.err with hlogDrops := 0 } }.raiseSide
        { recOf E.hlogDropped 4 0x0F 0xFFFF with detail := n })
    else .next s
  | r :: rs =>
    let s := { s with err := { s.err with hlogQueue := rs } }
    if room then .next (s.hlogWrite r)
    else .next ({ s with err := { s.err with hlogDrops := s.err.hlogDrops + 1 } }.fadd F.errHlog_dropped 4 0 0 1)

/-- Who may write CFG_HLOG_SEL: as the loader registers, and the recovery function in RETIRED_HOLD too. -/
def State.hlogRight (s : State) (who : Initiator) : Bool :=
  s.loaderRight who || (who == .recovery && s.fget F.cfgBootStatus_phase 4 0 0 == 7)

/-- The registers of CFG_HLOG_DATA hold 64 bytes. -/
def State.hlogShow (s : State) (bs : List Byte) (valid : Bool) : State :=
  let s := (List.range 8).foldl (fun s n => s.fset F.cfgHlogDataN_data 4 n 0 (leAt bs (8 * n) 8)) s
  (s.fset F.cfgHlogStatus_ready 4 0 0 1).fset F.cfgHlogStatus_valid 4 0 0 valid.toNat

/-- A write of CFG_HLOG_SEL. An erased entry shows bytes that the spec does not give, without valid. -/
def execHlogRead (who : Initiator) (value : Nat) (s : State) : Host.Outcome State Fault Refusal :=
  if !s.hlogRight who then .next (s.dropWrite who (fldPlace F.cfgHlogSel_entry 4 0))
  else
    let s := s.fset F.cfgHlogSel_entry 4 0 0 value
    match s.hlogBytes (value % 2 ^ 18) with
    | some (bs, ok) => .next (s.hlogShow bs ok).answerOk
    | none =>
      let r := s.freeBytes 64
      .next (r.1.hlogShow r.2 false).answerOk

end Sys2Proof.Machine
end

