-- ==== Sys2Proof/Machine/Image.lean ====
section
/-! DEFINITION. The configuration image: banks, manifests, record payloads and the rules that the loader checks (R60 to
R69, R237, R280, R291 to R293, R312, R313, R358, R440, R467, R498, R526). -/

namespace Sys2Proof.Machine

/-! ### Banks and manifests (R56, R60, R61) -/

/-- The address of a bank, 0 for A and 1 for B, and its size. -/
def bankBase (b : Nat) : Nat := 0x6010000000 + b * 0x20000000
def bankSize : Nat := 0x20000000

/-- The address of the payload area and its size. -/
def payloadArea : Nat := 0x6050000000
def payloadSize : Nat := 0x30000000

/-- An entry of the record table. -/
structure ImageRec where
  type : Nat
  flags : Nat
  offset : Nat
  length : Nat
  digest : Nat
deriving DecidableEq, Repr

/-- The number of records that the manifest of a bank gives. -/
def State.recCount (s : State) (b : Nat) : Nat := s.numAt (bankBase b + 6) 2

/-- The record table of a bank. -/
def State.recTable (s : State) (b : Nat) : List ImageRec :=
  (List.range (min (s.recCount b) 1024)).map (fun i =>
    let a := bankBase b + 0x40 + 56 * i
    { type := s.numAt a 2, flags := s.numAt (a + 2) 2, offset := s.numAt (a + 8) 8, length := s.numAt (a + 16) 8,
      digest := s.numAt (a + 24) 32 })

/-- The signed part of a manifest: bytes 0 to the end of the record table. -/
def State.manifestBody (s : State) (b : Nat) : List Byte := s.bytesAt (bankBase b) (0x40 + 56 * s.recCount b)

/-- The payload of a record. -/
def State.payload (s : State) (b : Nat) (r : ImageRec) : List Byte := s.bytesAt (bankBase b + r.offset) r.length

/-- The record types of R62. -/
def rtPlatform : Nat := 0x01
def rtPolicy : Nat := 0x02
def rtWorld : Nat := 0x03
def rtVaultFw : Nat := 0x04
def rtSentinelFw : Nat := 0x05
def rtSafety : Nat := 0x06
def rtChamois : Nat := 0x07
def rtFallback : Nat := 0x08
def rtTahr : Nat := 0x09
def rtRoutes : Nat := 0x0A
def rtNet : Nat := 0x0B
def rtPartition : Nat := 0x0C
def rtGolden : Nat := 0x0D
def rtInputs : Nat := 0x0E
def rtDisplay : Nat := 0x0F
def rtSteward : Nat := 0x10

def ImageRec.critical (r : ImageRec) : Bool := bit r.flags 0
def ImageRec.vendor (r : ImageRec) : Bool := bit r.flags 1
def ImageRec.secure (r : ImageRec) : Bool := bit r.flags 2

/-- The failure codes of R82. -/
def bfSig : Nat := 0x01
def bfCert : Nat := 0x02
def bfDigest : Nat := 0x03
def bfRollback : Nat := 0x04
def bfFormat : Nat := 0x05
def bfRecord : Nat := 0x06
def bfLifecycle : Nat := 0x07
def bfUnit : Nat := 0x08
def bfTrial : Nat := 0x09
def bfUnreadable : Nat := 0x0A
def bfRefused : Nat := 0x20
def bfSource : Nat := 0x21
def bfWrite : Nat := 0x22

/-- Whether a manifest is well formed. -/
def State.manifestFormat (s : State) (b : Nat) : Bool :=
  let base := bankBase b
  s.numAt base 4 == leNat (beBytes 0x485A4349 4) && s.numAt (base + 4) 2 == 1
    && 1 ≤ s.recCount b && s.recCount b ≤ 1024 && s.numAt (base + 0x0C) 4 ≤ s.numAt (base + 8) 4
    && s.numAt (base + 0x11) 15 == 0 && s.numAt (base + 0x30) 16 == 0
    && (List.range (s.recCount b)).all (fun i => s.numAt (base + 0x40 + 56 * i + 4) 4 == 0)
    && (s.recTable b).all (fun r => r.flags < 8 && r.offset % 0x10000 == 0 && 0 < r.length
        && r.offset + r.length ≤ bankSize)

/-- The root digest that a manifest's root key must have (R61, R76). -/
def State.manifestRoot (s : State) : Nat := s.rootInForce

/-- Whether a manifest verifies, as a failure code of R82; 0 where it does. -/
def State.verifyManifest (s : State) (b : Nat) : Nat :=
  let base := bankBase b
  let tail := base + 0x40 + 56 * s.recCount b
  let signer := s.bytesAt tail 68
  let root := s.bytesAt (tail + 68) 68
  let binding := s.numAt (base + 0x20) 16
  if !s.manifestFormat b then bfFormat
  else if !(Config.shake256 root == s.manifestRoot && Config.xmssVerify root signer (s.bytesAt (tail + 136) 2820)) then
    bfCert
  else if !Config.xmssVerify signer (s.manifestBody b) (s.bytesAt (tail + 2956) 2820) then bfSig
  else if s.numAt (base + 8) 4 < s.flash.floor then bfRollback
  else if !bit (s.numAt (base + 0x10) 1) s.lifecycle then bfLifecycle
  else if binding ≠ 0 ∧ binding ≠ s.flash.unitId then bfUnit
  else 0

/-- Whether [a, a + n) of the flash holds a line that no longer reads (R82). -/
def State.flashFails (s : State) (a n : Nat) : Bool := touches s.flash.unreadable 64 a n

/-- Whether the manifest of a bank with its keys and signatures holds a line that no longer reads. -/
def State.manifestFails (s : State) (b : Nat) : Bool :=
  s.flashFails (bankBase b) 0x40 || s.flashFails (bankBase b) (0x40 + 56 * s.recCount b + 5776)

/-- Whether a payload holds a line that no longer reads. -/
def State.payloadFails (s : State) (b : Nat) (r : ImageRec) : Bool := s.flashFails (bankBase b + r.offset) r.length

/-- Whether a payload matches its digest. -/
def State.digestOk (s : State) (b : Nat) (r : ImageRec) : Bool := Config.shake256 (s.payload b r) == r.digest

/-! ### The rules of a record (R66) -/

/-- Whether an image of a register sets no reserved bit and no reserved code. -/
def regImageOk (die off v : Nat) : Bool :=
  match findDesc die off with
  | none => false
  | some d =>
    d.fields.all (fun f => f.codes.isEmpty || f.codes.any (fun c => c.1 ≤ bits v f.lo f.w && bits v f.lo f.w ≤ c.2))
      && d.fields.foldl (fun n f => setBits n f.lo f.w 0) v == 0

/-- Whether n entries of k bytes from an offset lie in a payload. -/
def fits (p : List Byte) (off n k : Nat) : Bool := off + n * k ≤ p.length

/-- The entries of k bytes from an offset on. -/
def entries (p : List Byte) (off n k : Nat) : List (List Byte) :=
  (List.range n).map (fun i => byteSlice p (off + i * k) k)

/-- A payload without the vendor signature that ends it. -/
def ImageRec.body (r : ImageRec) (p : List Byte) : List Byte := if r.vendor then p.take (p.length - 2820) else p

def platformOk (p : List Byte) : Bool := leAt p 0 1 < 2 && leAt p 1 1 < 3 && leAt p 2 1 < 2 && leAt p 3 5 == 0

def policyOk (p : List Byte) : Bool :=
  90 ≤ leAt p 0 2 && leAt p 0 2 ≤ 400 && 5 ≤ leAt p 2 1 && leAt p 2 1 ≤ 100 && leAt p 3 1 < 2 && leAt p 8 8 == 0

def worldOk (p : List Byte) : Bool :=
  (List.range 8).all (fun i => leAt p (4 * i) 4 ≤ 8192) && (List.range 4).all (fun i => leAt p (32 + 2 * i) 2 ≤ 128)
    && 10 ≤ leAt p 40 2 && leAt p 40 2 ≤ 1000 && leAt p 42 6 == 0

/-- SAFETY (R291). -/
def safetyOk (p : List Byte) : Bool :=
  let period := leAt p 0 4
  let open' := leAt p 8 4
  let confirm := leAt p 12 4
  let n := leAt p 18 1
  318720 ≤ period && period ≤ 1920000 && leAt p 4 4 < period && open' < period && open' + 6144 ≤ confirm
    && confirm ≤ open' + 192000 && confirm < period && leAt p 16 1 < 16 && leAt p 17 1 < 2 && n ≤ 64
    && leAt p 19 1 == 0 && leAt p 22 2 == 0 && leAt p 24 4 < 2 * period && leAt p 28 4 < leAt p 24 4
    && fits p 32 n 16
    && (entries p 32 n 16).all (fun e => 1 ≤ leAt e 0 1 && leAt e 0 1 ≤ 3 && leAt e 1 1 < 64
        && (leAt e 2 1 == 0xFF || (leAt e 2 1 < 16 && leAt e 0 1 == 1)) && leAt e 3 13 == 0)

/-- CHAMOIS_NET (R312), against the SAFETY and FALLBACK_INPUTS payloads: both runs end before the deadline at
1.0 G steps/s, which is 26.04 steps in a period. -/
def chamoisOk (p safety inputs : List Byte) : Bool :=
  leAt p 4 4 ≤ 40000 && p.length ≤ 0x1000000 && 96 ≤ p.length
    && (leAt p 0 4 + leAt p 4 4) * 24 ≤ (leAt safety 28 4 - leAt inputs 0 4) * 625
    && (List.range 16).all (fun i => leAt p (32 + 4 * i) 2 + leAt p (34 + 4 * i) 2 ≤ 2048)

/-- FALLBACK_INPUTS (R17, R313). -/
def fallbackOk (p : List Byte) : Bool :=
  let n := leAt p 4 1
  leAt p 5 3 == 0 && fits p 8 n 136
    && (entries p 8 n 136).all (fun e => (leAt e 0 1 < 4 || (16 ≤ leAt e 0 1 && leAt e 0 1 < 20))
        && (leAt e 1 1 == 1 || leAt e 1 1 == 6) && leAt e 2 6 == 0 && leAt e (8 + 21) 1 == 0)

/-- The sequencer, or 256 + n for STREAM program n, of a TAHR_PROGRAM payload; none where its site, index and die do
not fit (R358). -/
def tahrKey (p : List Byte) : Option Nat :=
  let i := leAt p 1 1
  let d := leAt p 2 1
  match leAt p 0 1 with
  | 0 => if i < 32 ∧ d = 6 then some i else none
  | 1 => if i < 16 ∧ (d = 6 ∨ d = 7) then some (32 + (d - 6) * 16 + i) else none
  | 2 => if i = 0 ∧ d < 8 then some (64 + d) else none
  | 3 => if d = 0xFF then some (256 + i) else none
  | _ => none

/-- The tables of a TAHR_PROGRAM payload. -/
def tahrTables (p : List Byte) : List (Nat × Nat × Nat) :=
  (List.range (leAt p 10 1)).map (fun i => (leAt p (16 + 8 * i) 2, leAt p (18 + 8 * i) 2, leAt p (20 + 8 * i) 2))

def tahrOk (r : ImageRec) (p : List Byte) : Bool :=
  let p := r.body p
  let words := leAt p 6 2
  let ts := tahrTables p
  (tahrKey p).isSome && leAt p 3 1 == 0 && leAt p 11 5 == 0 && 1 ≤ words && words ≤ 4096 && leAt p 4 2 < words
    && leAt p 8 2 ≤ 8192 && leAt p 10 1 ≤ 8 && (leAt p 0 1 == 0 || leAt p 10 1 == 0)
    && (leAt p 0 1 == 0 || leAt p 0 1 == 3 || r.vendor) && 80 + 4 * words + leAt p 8 2 ≤ p.length
    && ts.all (fun t => t.2.1 ≤ 4096 && t.1 + t.2.1 ≤ 8192 && t.2.2 < 64)
    && (List.range ts.length).all (fun i => (List.range i).all (fun k =>
        match ts[i]?, ts[k]? with
        | some x, some y => !overlap x.1 x.2.1 y.1 y.2.1
        | _, _ => true))
    && (leAt p 0 1 == 0 || leAt p 0 1 == 2) == r.critical

/-- GW_ROUTE_SET (R498). -/
def routesOk (p : List Byte) : Bool :=
  let n := leAt p 4 2
  let v := leAt p 6 1
  leAt p 0 1 < 64 && leAt p 1 1 < 2 && (1 ≤ leAt p 2 2 && leAt p 2 2 ≤ 1000) && leAt p 7 9 == 0
    && fits p 16 n 128 && fits p (16 + 128 * n) v 16
    && (entries p 16 n 128).all (fun e => leAt e 0 2 < 16384 && leAt e 2 6 == 0
        && regImageOk 6 F.gwCtx_enable.off (leAt e 8 8) && regImageOk 6 F.gwCtxKey_identifier.off (leAt e 16 8)
        && regImageOk 6 F.gwCtxEgress_flag_mode.off (leAt e 24 8))
    && (entries p (16 + 128 * n) v 16).all (fun e => leAt e 0 1 < 32 && leAt e 1 1 < 8 && 1 ≤ leAt e 2 1
        && leAt e 4 4 + leAt e 8 4 ≤ p.length)

/-- NET (R526): port, flow and domain entries; gate lists follow one another. -/
def netFlows (p : List Byte) : Nat := 8 + 16 * leAt p 0 1
def netLists (p : List Byte) : Nat := netFlows p + 32 * leAt p 1 2

/-- The gate lists of a NET payload, n of them from an offset on, with the offset behind them. -/
def gateLists (p : List Byte) (off : Nat) : Nat → List (Nat × GateList) × Nat
  | 0 => ([], off)
  | n + 1 =>
    let k := leAt p (off + 1) 1
    let l : GateList := {
      entries := (List.range k).map (fun i => (leAt p (off + 20 + 8 * i) 1, leAt p (off + 24 + 8 * i) 4))
      cycle := leAt p (off + 4) 4
      base := timeOfCode (leAt p (off + 8) 12) }
    let t := gateLists p (off + 20 + 8 * k) n
    ((leAt p off 1, l) :: t.1, t.2)

def netOk (p : List Byte) : Bool :=
  leAt p 0 1 ≤ 16 && leAt p 4 1 ≤ 4 && leAt p 5 3 == 0 && fits p 8 (leAt p 0 1) 16 && fits p (netFlows p) (leAt p 1 2) 32
    && (entries p 8 (leAt p 0 1) 16).all (fun e => leAt e 0 1 < 16 && leAt e 1 7 == 0
        && regImageOk 6 F.netPortCfg_enable.off (leAt e 8 8))
    && (entries p (netFlows p) (leAt p 1 2) 32).all (fun e => leAt e 0 2 < 49152 && leAt e 2 6 == 0
        && regImageOk 6 F.netFlow_enable.off (leAt e 8 8))
    && (gateLists p (netLists p) (leAt p 3 1)).2 + 8 * leAt p 4 1 ≤ p.length

/-- RT_PARTITION (R237), against the SAFETY payload: 1.6 or 0.72 G steps/s is 125/3 or 18.75 steps in a period. -/
def partitionOk (p safety : List Byte) : Bool :=
  let budget := leAt p 72 4
  let window := leAt p 76 4
  p.length == 96 && leAt p 80 1 < 2 && leAt p 81 1 < 64 && leAt p 82 1 < 4 && leAt p 83 1 < 64 && leAt p 88 8 == 0
    && (if leAt p 80 1 = 0 then budget * 3 ≤ window * 125 else budget * 4 ≤ window * 75)
    && window + 6144 ≤ leAt safety 12 4

/-- INPUT_STREAMS (R280). -/
def inputsOk (p : List Byte) : Bool :=
  let n := leAt p 0 1
  let g := leAt p 1 1
  leAt p 2 6 == 0 && fits p 8 g 40 && fits p (8 + 40 * g) n 144
    && (entries p 8 g 40).all (fun e => (leAt e 0 1 == 6 || leAt e 0 1 == 7) && leAt e 1 1 < 16 && leAt e 2 6 == 0
        && regImageOk 6 F.ippGrpBase_base.off (leAt e 8 8) && regImageOk 6 F.ippGrpCfg_slots_m1.off (leAt e 16 8))
    && (entries p (8 + 40 * g) n 144).all (fun e => (leAt e 0 1 == 6 || leAt e 0 1 == 7) && leAt e 1 1 < 48
        && leAt e 2 6 == 0 && regImageOk 6 F.ippScfg_enable.off (leAt e 8 8))

/-- Whether the draw list at an offset of a payload lies in it and sets no flag but the two of R462. -/
def drawListOk (p : List Byte) (off : Nat) : Bool :=
  fits p (off + 4) (leAt p off 4) 20 && (entries p (off + 4) (leAt p off 4) 20).all (fun e => leAt e 18 2 < 4)

/-- The rules of a DISPLAY payload that compare its parts: timings, the telltale layer in the active area of its pipe,
the time that the rows of a region take, and the draw lists (R467). -/
def displayFits (p : List Byte) : Bool :=
  let n := leAt p 0 1
  let k := leAt p 1 1
  let pipes := entries p 32 n 40
  let regions := entries p (32 + 40 * n) k 144
  pipes.all (fun e => regImageOk 5 F.dspTiming2_refresh_period.off (leAt e 24 8)
      && regImageOk 5 F.dspTiming3_comp_lead.off (leAt e 32 8)
      && timingFits (leAt e 8 8) (leAt e 16 8) (leAt e 24 8) (leAt e 32 8))
    && pipes.foldl (fun m e => m + pixelRate (leAt e 16 8) (leAt e 24 8)) 0 ≤ 4240000000
    && (leAt p 2 1 == 0xFF || match pipes.find? (fun e => leAt e 0 1 == leAt p 2 1) with
      | none => false
      | some e =>
        leAt p 4 2 + leAt p 8 2 ≤ F.dspTiming_active_w.of (leAt e 16 8)
          && leAt p 6 2 + leAt p 10 2 ≤ F.dspTiming_active_h.of (leAt e 16 8)
          && regions.all (fun r => leAt r 6 2 * F.dspTiming3_line_period_q8.of (leAt e 32 8) + 15360 * 256
              ≤ F.dspTiming2_refresh_period.of (leAt e 24 8) * 256))
    && p.length ≤ 32 + 40 * n + 144 * k + 0x100000
    && regions.all (fun r => (List.range (leAt r 10 1)).all (fun i => drawListOk p (leAt r (80 + 4 * i) 4)))

/-- DISPLAY (R467). -/
def displayOk (p : List Byte) : Bool :=
  let n := leAt p 0 1
  let k := leAt p 1 1
  n ≤ 6 && k ≤ 64 && (leAt p 2 1 < 6 || leAt p 2 1 == 0xFF) && leAt p 3 1 == 0 && leAt p 12 4 == 0
    && leAt p 8 2 * leAt p 10 2 * 4 ≤ 0x200000 && leAt p 16 8 % 0x10000 == 0 && leAt p 24 2 ≤ 256 && leAt p 26 6 == 0
    && fits p 32 n 40 && fits p (32 + 40 * n) k 144
    && (entries p 32 n 40).all (fun e => leAt e 0 1 < 6 && leAt e 1 7 == 0
        && regImageOk 5 F.dspCfg_enable.off (leAt e 8 8) && regImageOk 5 F.dspTiming_active_w.off (leAt e 16 8))
    && (entries p (32 + 40 * n) k 144).all (fun e => leAt e 8 1 < 8 && leAt e 9 1 < 2 && 1 ≤ leAt e 10 1
        && leAt e 10 1 ≤ 16 && leAt e 11 5 == 0 && leAt e 0 2 + leAt e 4 2 ≤ leAt p 8 2
        && leAt e 2 2 + leAt e 6 2 ≤ leAt p 10 2)
    && (List.range k).all (fun i => (List.range i).all (fun j =>
        let x := byteSlice p (32 + 40 * n + 144 * i) 8
        let y := byteSlice p (32 + 40 * n + 144 * j) 8
        !(overlap (leAt x 0 2) (leAt x 4 2) (leAt y 0 2) (leAt y 4 2)
          && overlap (leAt x 2 2) (leAt x 6 2) (leAt y 2 2) (leAt y 6 2))))
    && displayFits p

/-- STEWARD_BOOT: payload-area offset, length and digest of the boot blob. -/
def stewardOk (p : List Byte) : Bool := p.length == 48 && leAt p 0 8 + leAt p 8 8 ≤ payloadSize

/-- The payload of the one record of a type, empty where there is none. -/
def State.payloadOf (s : State) (b type : Nat) : List Byte :=
  match (s.recTable b).find? (fun r => r.type == type) with
  | none => []
  | some r => r.body (s.payload b r)

/-- The number of records of a type that an image must, and may, hold. DESIGN CHOICE: an image without a record of a
start-critical type of R62 is rejected (the spec says only how often a type may appear). -/
def recLimits (type : Nat) : Option (Nat × Nat) :=
  if type = 0 ∨ 0x10 < type then none
  else if type = rtTahr then some (0, 1024)
  else if type = rtRoutes ∨ type = rtPartition then some (0, 64)
  else if type < rtPartition then some (1, 1)
  else some (0, 1)

/-- Whether a record's flags fit its type (R62, R63). -/
def ImageRec.flagsOk (r : ImageRec) : Bool :=
  (r.type == rtTahr || r.critical == decide (r.type < rtPartition))
    && (r.type != rtVaultFw || r.flags == 7) && (r.type != rtSentinelFw || r.flags == 3)

/-- Whether the vendor signature of a VENDOR_SIGNED payload verifies (R60). -/
def State.vendorOk (s : State) (b : Nat) (r : ImageRec) : Bool :=
  let p := s.payload b r
  !r.vendor || (2820 ≤ p.length
    && Config.xmssVerify Config.vendorKey (p.take (p.length - 2820)) (p.drop (p.length - 2820)))

/-- Whether a record keeps the rules of its payload. -/
def State.recordOk' (s : State) (b : Nat) (r : ImageRec) : Bool :=
  let p := r.body (s.payload b r)
  let safety := s.payloadOf b rtSafety
  r.flagsOk && s.vendorOk b r
    && (if r.type = rtPlatform then platformOk p
      else if r.type = rtPolicy then policyOk p
      else if r.type = rtWorld then worldOk p
      else if r.type = rtSafety then safetyOk p
      else if r.type = rtChamois then chamoisOk p safety (s.payloadOf b rtFallback)
      else if r.type = rtFallback then fallbackOk p
      else if r.type = rtTahr then tahrOk r (s.payload b r)
      else if r.type = rtRoutes then routesOk p
      else if r.type = rtNet then netOk p
      else if r.type = rtPartition then partitionOk p safety
      else if r.type = rtInputs then inputsOk p
      else if r.type = rtDisplay then displayOk p
      else if r.type = rtSteward then stewardOk p
      else true)

/-- Whether no two items of a list are related. -/
def noPair {α : Type} (r : α → α → Bool) : List α → Bool
  | [] => true
  | x :: t => t.all (fun y => !r x y) && noPair r t

/-- Whether a record is start-critical: by its type, a TAHR_PROGRAM by its site, or by its flag (R62, R63). -/
def State.startCritical (s : State) (b : Nat) (r : ImageRec) : Bool :=
  r.critical || (r.type != 0 && r.type < rtPartition && (r.type != rtTahr
    || leAt (s.payload b r) 0 1 == 0 || leAt (s.payload b r) 0 1 == 2))

/-- The start-critical records of a bank. -/
def State.criticals (s : State) (b : Nat) : List ImageRec := (s.recTable b).filter (s.startCritical b)

/-- Whether the number of records of a type lies in its limits. -/
def countFits (rs : List ImageRec) (t : Nat) : Bool :=
  match recLimits t with
  | none => false
  | some (lo, hi) => lo ≤ (rs.filter (fun r => r.type == t)).length && (rs.filter (fun r => r.type == t)).length ≤ hi

/-- The contexts that a GW_ROUTE_SET declares. -/
def routeContexts (p : List Byte) : List Nat := (entries p 16 (leAt p 4 2) 128).map (fun e => leAt e 0 2)

/-- The rules that hold between the start-critical records: counts, payloads that do not overlap, one program for each
sequencer, one set for each context. -/
def State.imageOk (s : State) (b : Nat) : Bool :=
  let rs := s.criticals b
  ((List.range rtPartition).filter (fun t => t != 0)).all (countFits rs)
    && noPair (fun (x y : ImageRec) => overlap x.offset x.length y.offset y.length) rs
    && noPair (fun x y => tahrKey x == tahrKey y)
      ((rs.filter (fun r => r.type == rtTahr)).map (fun r => r.body (s.payload b r)))
    && noPair (fun (x y : Nat) => x == y) (((rs.filter (fun r => r.type == rtRoutes)).map (fun r =>
        routeContexts (r.body (s.payload b r)))).flatten)

/-- The rules between a record that is not start-critical and every other record of the image (R62, R66): the count of
its type, a payload of its own, and for a TAHR_PROGRAM a sequencer or number that no other verified program has. -/
def State.looseOk (s : State) (b : Nat) (r : ImageRec) : Bool :=
  let rs := s.recTable b
  let key := fun (x : ImageRec) => tahrKey (x.body (s.payload b x))
  countFits rs r.type && (rs.filter (fun x => overlap x.offset x.length r.offset r.length)).length == 1
    && (r.type != rtTahr
      || (rs.filter (fun x => x.type == rtTahr && s.digestOk b x && key x == key r)).length == 1)

/-- Whether a record that is not start-critical may be loaded: its payload reads, matches its digest and keeps the
rules of R66 (R68). -/
def State.looseGood (s : State) (b : Nat) (r : ImageRec) : Bool :=
  !s.payloadFails b r && s.digestOk b r && s.recordOk' b r && s.looseOk b r

/-- Whether the start-critical part of a bank is good, as a failure code; 0 where it is (R61, R66, R68, R82). -/
def State.bankFailure (s : State) (b : Nat) : Nat :=
  if s.manifestFails b then bfUnreadable
  else
    let m := s.verifyManifest b
    let cs := s.criticals b
    if m ≠ 0 then m
    else if cs.any (s.payloadFails b) then bfUnreadable
    else if !cs.all (s.digestOk b) then bfDigest
    else if !s.imageOk b || !cs.all (s.recordOk' b) then bfRecord
    else 0

/-! ### The bank-select entries (R67) -/

/-- The entry in force: that with the highest sequence number and a valid CRC. -/
def State.bankEntry (s : State) : Option BankEntry :=
  let ok := fun (e : Option BankEntry) => e.filter (fun e => e.crcOk)
  match ok s.flash.entry0, ok s.flash.entry1 with
  | some a, some b => some (if a.seq < b.seq then b else a)
  | some a, none => some a
  | none, r => r

/-- The codes of a bank's state in CFG_BOOT_CTRL. -/
def BankState.code : BankState → Nat
  | .empty => 0
  | .valid => 1
  | .trial => 2
  | .failed => 3

def BankEntry.state (e : BankEntry) (b : Nat) : BankState := if b = 0 then e.stateA else e.stateB

def BankEntry.setState (e : BankEntry) (b : Nat) (st : BankState) : BankEntry :=
  if b = 0 then { e with stateA := st } else { e with stateB := st }

def BankEntry.preferred (e : BankEntry) : Nat := e.preferB.toNat

/-- The code of a bank's state; EMPTY where no entry is in force. -/
def State.bankCode (s : State) (b : Nat) : Nat :=
  match s.bankEntry with
  | none => 0
  | some e => (e.state b).code

/-- CFG_BOOT_CTRL shows the states of the banks, and CFG_BOOT_STATUS whether the running one is TRIAL (R78, R80). -/
def State.showBanks (s : State) : State :=
  let s := (s.fset F.cfgBootCtrl_bank_a 4 0 0 (s.bankCode 0)).fset F.cfgBootCtrl_bank_b 4 0 0 (s.bankCode 1)
  s.fset F.cfgBootStatus_trial 4 0 0 (s.boot.loaded && s.bankCode s.boot.imageBank == 2).toNat

/-- A new entry, written into the sector that does not hold the entry in force. -/
def State.writeEntry (s : State) (e : BankEntry) : State :=
  let seq := (s.bankEntry.map (fun x => x.seq + 1)).getD 0
  let in0 : Bool := match s.bankEntry, s.flash.entry0 with
    | some x, some y => x == y
    | _, _ => false
  let e := { e with seq, crcOk := true }
  ({ s with flash := if in0 then { s.flash with entry1 := some e } else { s.flash with entry0 := some e } }).showBanks

/-- A bank failed: its entry, last_fail, and the record (R67, R69). The trial attempt of a TRIAL bank is over with it. -/
def State.failBank (s : State) (b code : Nat) : State :=
  let s := match s.bankEntry with
    | none => s
    | some e => s.writeEntry { e.setState b BankState.failed with attempt := e.attempt && e.state b != BankState.trial }
  let s := s.fset F.cfgBootStatus_last_fail 4 0 0 code
  let s := s.fset F.cfgBootStatus_fallback_taken 4 0 0 1
  s.raiseSide { recOf E.bankFailed 4 0x0E 0xFFFF with detail := b + code * 2 ^ 8 }

/-- Tries a bank: a TRIAL bank whose attempt bit is set fails; one whose bit is clear gets it set first. -/
def State.tryBank (s : State) (b : Nat) : State × Bool :=
  match s.bankEntry with
  | none => (s, false)
  | some e =>
    match e.state b with
    | .trial =>
      if e.attempt then (s.failBank b bfTrial, false)
      else
        let s := s.writeEntry { e with attempt := true }
        let n := s.bankFailure b
        if n = 0 then (s, true) else (s.failBank b n, false)
    | .valid =>
      let n := s.bankFailure b
      if n = 0 then (s, true) else (s.failBank b n, false)
    | _ => (s, false)

/-- The bank that the loader chooses; none leads to RECOVERY. -/
def State.chooseBank (s : State) : State × Option Nat :=
  match s.bankEntry with
  | none => (s, none)
  | some e =>
    let p := e.preferred
    let r := s.tryBank p
    if r.2 then (r.1, some p)
    else
      let q := r.1.tryBank (1 - p)
      (q.1, if q.2 then some (1 - p) else none)

end Sys2Proof.Machine
end

