-- ==== Sys2Proof/Machine/Boot.lean ====
section
/-! DEFINITION. The cold start: lifecycle, calibration, the choice of a bank, the records that start the protected track,
memory training, golden areas, compute islands and the remaining records (R56 to R72). -/

namespace Sys2Proof.Machine

/-! ### Steps 1 and 2 (R58, R59, R76) -/

/-- The phases of CFG_BOOT_STATUS. -/
def phSafetyUp : Nat := 2
def phSafetyInService : Nat := 3
def phComputeReady : Nat := 4
def phFullService : Nat := 5
def phRecovery : Nat := 6
def phRetired : Nat := 7

def State.phase (s : State) : Nat := s.fget F.cfgBootStatus_phase 4 0 0
def State.setPhase (s : State) (n : Nat) : State := s.fset F.cfgBootStatus_phase 4 0 0 n

/-- The lifecycle state that the sealed ledger pages give. -/
def FlashState.lifecycle (f : FlashState) : Nat :=
  if bit f.sealedPages 4 then lcRetired else if bit f.sealedPages 3 then lcProd
  else if bit f.sealedPages 2 then lcDev else lcBlank

def isFlash (a : Nat) : Bool := placeOf a == .flash

/-- What is left of the state before a cold start: the flash with its health log, and the model's own books. -/
def State.coldBase (s : State) : State :=
  { sent := s.sent, freeCtr := s.freeCtr, pending := s.pending, flash := s.flash
    mem := s.mem.filter (fun c => isFlash c.1)
    err := { hlog := s.err.hlog, hlogPos := s.err.hlogPos }
    boot := { railsOk := s.boot.railsOk, powered := true } }

/-- Status frames run from the relaxation-timed path with every output invalid and a device-level reason. -/
def State.relaxedFrames (s : State) (reason : Nat) : State :=
  let s := { s with safety := { s.safety with deviceReason := reason } }
  let s := s.fset F.safStatus_reason 4 0 0 reason
  [6, 7].foldl (fun s d => (s.fset F.sscStatus_active d 0 0 1).fset F.sscStatus_relaxation_timed d 0 0 1) s

/-- The host port as an endpoint, whatever the image says (R77). -/
def State.rescuePort (s : State) : State :=
  let s := (s.fset F.cfgCapsIo_host_mode 4 0 0 2).fset F.cfgCapsIo_host_bifurcated 4 0 0 0
  (s.fset F.hpId_mode 7 0 0 2).fset F.hpId_bifurcated 7 0 0 0

/-- RECOVERY (R77). -/
def State.enterRecovery (s : State) : State :=
  let s := { s with boot := { s.boot with loaded := false } }
  (s.showBanks.rescuePort.setPhase phRecovery).relaxedFrames rsNoImage

/-- RETIRED_HOLD (R76, R77). -/
def State.enterRetired (s : State) : State :=
  let s := { s with boot := { s.boot with loaded := false } }
  (s.showBanks.rescuePort.setPhase phRetired).relaxedFrames rsRetired

/-- Whether the calibration page at an address reads, and verifies under the vendor root key: the signature is the end
of the page (R59). -/
def State.calibVerifies (s : State) (a : Nat) : Bool :=
  !s.flashFails a 0x10000
    && Config.xmssVerify Config.vendorKey (s.bytesAt a (0x10000 - 2820)) (s.bytesAt (a + (0x10000 - 2820)) 2820)

/-- The calibration page that verifies, copy 0 before copy 1, by its address. -/
def State.calibCopy (s : State) : Option Nat :=
  if s.calibVerifies 0x6000010000 then some 0x6000010000
  else if s.calibVerifies 0x6000020000 then some 0x6000020000 else none

/-! ### Steps 4 to 8: the start-critical records -/

/-- The TAHR_PROGRAM record of a payload, as the program store keeps it (R358). -/
def tahrProgramOf (p : List Byte) : TahrProgram :=
  let words := leAt p 6 2
  { entry := leAt p 4 2
    code := (List.range words).map (fun i => leAt p (80 + 4 * i) 4)
    data := byteSlice p (80 + 4 * words) (leAt p 8 2)
    tables := tahrTables p }

/-- The payloads of a type, without vendor signatures. -/
def State.payloadsOf (s : State) (b type : Nat) : List (List Byte) :=
  ((s.recTable b).filter (fun r => r.type == type)).map (fun r => r.body (s.payload b r))

/-- A TAHR program enters the program store. -/
def State.storeProgram (s : State) (p : List Byte) : State :=
  match tahrKey p with
  | none => s
  | some k =>
    let s := { s with tahr := { s.tahr with programs := storePut s.tahr.programs k (tahrProgramOf p) } }
    s.fset F.tsqId_store_programs 4 0 0 ((storeKeys s.tahr.programs).filter (fun n => 256 ≤ n)).length

/-- The start-critical programs of a site: 0 the gateway, 2 the governors (R63). -/
def State.startSite (s : State) (b site : Nat) : State :=
  ((s.payloadsOf b rtTahr).filter (fun p => leAt p 0 1 == site)).foldl (fun s p =>
    match tahrKey p with
    | none => s
    | some k => (s.storeProgram p).tahrRestart k) s

/-- The mapping that PLATFORM asks for, which an absent stack turns to LINEAR (R25, R26). -/
def State.mappingFor (s : State) (b : Nat) : Bool :=
  leAt (s.payloadOf b rtPlatform) 0 1 == 1 && (!s.boot.memTrained || s.boot.stackMask == 0xFF)

/-- The mapping in force; a change is one of the capability table. -/
def State.applyMapping (s : State) (b : Nat) : State :=
  s.setCaps F.cfgCapsCounts_interleave_active (s.mappingFor b).toNat capsMapping

/-- A stack's usable bit with the counts that follow it (R30, R31, R33); nothing changes where it has that value. -/
def State.setStack (s : State) (n : Nat) (u : Bool) : State :=
  let m := s.fget F.cfgCapsClusterMap_stack_usable 4 0 0
  if bit m n = u then s
  else
    let m := setBit m n u
    let s := s.fset F.cfgCapsClusterMap_stack_usable 4 0 0 m
    let s := (s.fset F.cfgCapsCounts_stacks 4 0 0 (popcount m 8)).fset F.cfgCapsCounts_lpddr_gib 4 0 0 (16 * popcount m 8)
    s.capsChanged (128 + n)

/-- PLATFORM (R65). -/
def State.applyPlatform (s : State) (b : Nat) : State :=
  let p := s.payloadOf b rtPlatform
  let s := (s.fset F.cfgCapsIo_host_mode 4 0 0 (leAt p 1 1)).fset F.cfgCapsIo_host_bifurcated 4 0 0 (leAt p 2 1)
  let s := (s.fset F.hpId_mode 7 0 0 (leAt p 1 1)).fset F.hpId_bifurcated 7 0 0 (leAt p 2 1)
  s.applyMapping b

/-- An island of a compute die at a level at least. -/
def State.atLeast (s : State) (d i v : Nat) : State :=
  let s := s.setIsl F.pwrIsl_target d i (max v (s.isl F.pwrIsl_target d i))
  s.setIsl F.pwrIsl_setpoint d i (max v (s.isl F.pwrIsl_setpoint d i))

/-- An island that starts in fixed pace stands at 0.78 V or above (R43), and its neighbours within 200 mV of that (R48). -/
def State.fixedLevel (s : State) (d i : Nat) : State :=
  ((List.range 8).filter (neighbours d i)).foldl (fun s j => s.atLeast d j 58) (s.atLeast d i 78)

/-- POWER_POLICY (R440). The compute islands are held parked until their tests (R70). -/
def State.applyPolicy (s : State) (b : Nat) : State :=
  let p := s.payloadOf b rtPolicy
  let s := (s.fset F.pwrCap_cap_w 4 0 0 (leAt p 0 2)).fset F.pwrSlew_a_per_us 4 0 0 (leAt p 2 1)
  let s := { s with power := { s.power with herdPacing := bit (leAt p 3 1) 0 } }
  let s := (List.range 32).foldl (fun s c =>
    if bit (leAt p 4 4) c then (s.setIsl F.pwrIsl_fixed (c / 8) (c % 8) 1).fixedLevel (c / 8) (c % 8)
    else s.setIsl F.pwrIsl_fixed (c / 8) (c % 8) 0) s
  (List.range 4).foldl (fun s d => s.fset F.pwrParked_parked d 0 0 0xFFFF) s

/-- WORLD (R64), with the start of the secure watchdog. -/
def State.applyWorld (s : State) (b : Nat) : State :=
  let p := s.payloadOf b rtWorld
  let s := (List.range 8).foldl (fun s i => s.setMark i (leAt p (4 * i) 4)) s
  let s := (List.range 4).foldl (fun s i => s.setMark (8 + i) (leAt p (32 + 2 * i) 2)) s
  let s := s.fset F.secWdog_period_ms 4 0 0 (leAt p 40 2)
  (s.fset F.secAtt_next 4 0 0 s.flash.attCeiling).wdogRestart

/-- An output of SAFETY: INVALID until a frame proves it. -/
def State.declareOutput (s : State) (o : Nat) (e : List Byte) : State :=
  let s := (s.fset F.safOut_kind 4 0 o (leAt e 0 1)).fset F.safOut_index 4 0 o (leAt e 1 1)
  let s := (s.fset F.safOut_fallback 4 0 o (leAt e 2 1)).fset F.safOut_decided_state 4 0 o outInvalid
  s.putLive o outInvalid

/-- SAFETY (R291); status frames begin on both channels. -/
def State.applySafety (s : State) (b : Nat) : State :=
  let p := s.payloadOf b rtSafety
  let n := leAt p 18 1
  let s := (s.fset F.gftCfg_frame_period 4 0 0 (leAt p 0 4)).fset F.gftCfg_frame_phase 4 0 0 (leAt p 4 4)
  let s := (s.fset F.gftWindow_gt_open 4 0 0 (leAt p 8 4)).fset F.gftWindow_confirm_offset 4 0 0 (leAt p 12 4)
  let s := (List.range 4).foldl (fun s d => s.fset F.cgConfig_strict_classes d 0 0 (leAt p 16 1)) s
  let s := (s.fset F.safCfg_decision_offset 4 0 0 (leAt p 24 4)).fset F.safCfg_fallback_deadline 4 0 0 (leAt p 28 4)
  let s := s.fset F.safId_outputs 4 0 0 n
  let s := { s with safety := { s.safety with unitTag := leAt p 20 2, s4Restart := bit (leAt p 17 1) 0 } }
  let s := (List.range n).foldl (fun s o => s.declareOutput o (byteSlice p (32 + 16 * o) 16)) s
  let s := ((List.range 64).filter (n ≤ ·)).foldl (fun s o =>
    (s.fset F.safOut_live_state 4 0 o outNone).fset F.safOut_decided_state 4 0 o outNone) s
  [6, 7].foldl (fun s d => (s.fset F.sscStatus_active d 0 0 1).fset F.sscStatus_relaxation_timed d 0 0 0) s

/-- A SECURE payload goes to the vault, which holds it in secure memory (R60). -/
def State.streamSecure (s : State) (b : Nat) (r : ImageRec) : State :=
  if r.secure then
    { s with boot := { s.boot with vaultHolds := s.boot.vaultHolds ++ [(r.type, s.payload b r)] } }
  else s

/-- CHAMOIS_NET goes into the chamois SRAM (R70 step 7, R74, R312), and the golden tests of both chamois engines start. -/
def State.loadChamois (s : State) (c : List Byte) : State :=
  let a := chamoisBase c.length
  let s := s.store a c
  let s := { s with safety := { s.safety with
    chuExpected := [leAt c 8 8, leAt c 16 8], chuBase := a, chuBytes := c.length } }
  s.testChamois 3

/-- CHAMOIS_NET and FALLBACK_INPUTS (R312, R313): without a lane the fallback is not configured. -/
def State.applyFallback (s : State) (b : Nat) : State :=
  let c := s.payloadOf b rtChamois
  let p := s.payloadOf b rtFallback
  let n := leAt p 4 1
  let lanes := (entries p 8 n 136).map (fun e =>
    ({ lane := leAt e 0 1, fmt := leAt e 1 1, params := byteSlice e 8 128 } : FallbackLane))
  let s := { s with safety := { s.safety with lanes, fbCloseAt := leAt p 0 4 } }
  let s := if n = 0 then s else s.loadChamois c
  let s := lanes.foldl (fun s l => s.fset F.ulkLane_enable (6 + l.lane / 16) 0 (l.lane % 16) 1) s
  let s := s.fset F.safId_fallback_configured 4 0 0 (n != 0).toNat
  s.setFallback (if n = 0 then 2 else 1)

/-- NET (R526). -/
def State.applyNet (s : State) (b : Nat) : State :=
  let p := s.payloadOf b rtNet
  let s := (entries p 8 (leAt p 0 1) 16).foldl (fun s e =>
    let k := leAt e 0 1
    s.setReg (fldAddr F.netPortCfg_enable (portDie k) 0 (k % 8)) (leAt e 8 8)) s
  let s := (entries p (netFlows p) (leAt p 1 2) 32).foldl (fun s e =>
    let n := leAt e 0 2
    let s := s.setReg (fldAddr F.netFlow_enable 6 0 n) (leAt e 8 8)
    let s := s.setReg (fldAddr F.netFlowKey_flag_check 6 0 n) (leAt e 16 8)
    { s with net := { s.net with keys := storePut s.net.keys n (leAt e 24 8) } }) s
  let g := gateLists p (netLists p) (leAt p 3 1)
  let s := g.1.foldl (fun s l =>
    s.setEthPort l.1 { s.ethPort l.1 with oper := some l.2, index := 0, entryStart := l.2.base }) s
  (List.range (leAt p 4 1)).foldl (fun s i =>
    s.setReg (fldAddr F.timDom_enable 4 0 i) (leAt p (g.2 + 8 * i) 8)) s

/-- One GW_ROUTE_SET (R498): its contexts and variants, bound to the output that names it. -/
def State.applyRoutes (s : State) (p : List Byte) : State :=
  let set := leAt p 0 1
  let n := leAt p 4 2
  let s := (s.fset F.gwSet_latency_check 6 0 set (leAt p 1 1)).fset F.gwSet_latency_us 6 0 set (leAt p 2 2)
  let s := match (List.range s.outputs).find? (fun o => s.outKind o == 3 && s.outIndex o == set) with
    | none => s
    | some o => (s.fset F.gwSet_bound 6 0 set 1).fset F.gwSet_output 6 0 set o
  let s := (entries p 16 n 128).foldl (fun s e =>
    let c := leAt e 0 2
    let s := s.setReg (fldAddr F.gwCtx_enable 6 0 c) (leAt e 8 8)
    let s := s.setReg (fldAddr F.gwCtxKey_identifier 6 0 c) (leAt e 16 8)
    let s := s.setReg (fldAddr F.gwCtxEgress_flag_mode 6 0 c) (leAt e 24 8)
    { s with gateway := { contexts := s.gateway.contexts ++ [c], params := storePut s.gateway.params c (byteSlice e 32 96) } }) s
  let vs := (entries p (16 + 128 * n) (leAt p 6 1) 16).map (fun e =>
    (leAt e 0 1, leAt e 1 1, leAt e 2 1, byteSlice p (leAt e 4 4) (leAt e 8 4)))
  { s with tahr := { s.tahr with variants := s.tahr.variants ++ vs } }

/-- The network, the gateway programs and the route sets: what a logic warm restart loads again (R70 step 8). -/
def State.applyGateway (s : State) (b : Nat) : State :=
  let s := s.applyNet b
  let s := s.startSite b 0
  let s := (List.range 32).foldl (fun s n => s.fset F.tsqState_lockstep 4 0 n 1) s
  let sets := s.payloadsOf b rtRoutes
  (sets.foldl State.applyRoutes s).fset F.gwId_sets 6 0 0 sets.length

/-- The logic side of steps 4 to 8. -/
def State.applyLogic (s : State) (b : Nat) : State := (((s.applyPlatform b).applyPolicy b).startSite b 2).applyGateway b

/-- Every control pair awaits its comparator test (R336). -/
def State.testPairs (s : State) : State :=
  (List.range 6).foldl (fun s p => if s.fget F.safPair_state 4 0 p = 3 then s else s.fset F.safPair_state 4 0 p 1) s

/-- Steps 4 to 8 on a bank that was found good. -/
def State.applyBank (s : State) (b : Nat) : State :=
  let s := { s with boot := { s.boot with
    loaded := true, imageBank := b, imageFloor := s.numAt (bankBase b + 0x0C) 4
    manifestDigest := Config.shake256 (s.manifestBody b), computeDone := false, vaultHolds := [] }
                    safety := { s.safety with starting := true } }
  let s := (s.fset F.cfgBootStatus_image_version 4 0 0 (s.numAt (bankBase b + 8) 4)).fset F.cfgBootStatus_bank 4 0 0 b
  let s := s.fset F.cfgFwInfo_floor 4 0 0 s.flash.fwFloor
  let s := (s.criticals b).foldl (fun s r => s.streamSecure b r) s
  let s := ((s.applyWorld b).applySafety b).applyFallback b
  let s := (s.applyLogic b).testPairs.showBanks
  s.setPhase phSafetyUp

/-! ### Cold start (R18, R70) -/

/-- Step 3 and what follows it: the failure of a bank stays in CFG_BOOT_STATUS. -/
def State.startImage (s : State) : State :=
  let r := s.chooseBank
  match r.2 with
  | none => r.1.enterRecovery
  | some b =>
    let fail := r.1.fget F.cfgBootStatus_last_fail 4 0 0
    let taken := r.1.fget F.cfgBootStatus_fallback_taken 4 0 0
    let s := { r.1 with regs := [], boot := { r.1.boot with loaded := true } }
    let s := s.fset F.cfgCapsId_lifecycle 4 0 0 s.flash.lifecycle
    let s := s.fset F.cfgCapsCounts_interleave_active 4 0 0 (s.mappingFor b).toNat
    let s := (s.fset F.cfgBootStatus_warm 4 0 0 0).applyBank b
    (s.fset F.cfgBootStatus_last_fail 4 0 0 fail).fset F.cfgBootStatus_fallback_taken 4 0 0 taken

/-- Steps 1 to 8 of a cold start. -/
def State.coldStart (s : State) : State :=
  let s := s.coldBase
  let s := s.fset F.cfgCapsId_lifecycle 4 0 0 s.flash.lifecycle
  if s.flash.lifecycle = lcRetired then s.enterRetired
  else
    match s.calibCopy with
    | none => s.enterRecovery
    | some a =>
      let s := { s with boot := { s.boot with calibDigest := Config.shake256 (s.bytesAt a 0x10000) } }
      s.startImage

/-- Power-good: every rail has been in tolerance for 2 ms. cold tells whether every rail stood below 0.2 V for 10 ms
before, which a cold start needs (R18, R19). -/
def execPowerGood (cold : Bool) (s : State) : Host.Outcome State Fault Refusal :=
  if s.boot.railsOk = 0x3F ∧ s.boot.powered = false ∧ cold = true then .next s.coldStart else .next s

/-! ### Step 9 -/

/-- Whether a sentinel pair is admitted. -/
def State.sentinelUp (s : State) : Bool :=
  s.fget F.safPair_state 4 0 4 == 0 || s.fget F.safPair_state 4 0 5 == 0 || s.fget F.safPair_state 4 0 5 == 4

/-- The safe state ends. -/
def State.leaveSafe (s : State) : State :=
  let s := { s with safety := { s.safety with deviceReason := 0, fallbackOff := false } }
  (s.fset F.safStatus_safe_state 4 0 0 0).refreshReason

/-- The phase after step 9: the main track may have come to the end of step 12, or to the firmware, before it. -/
def State.phaseAfter9 (s : State) : Nat :=
  if !s.boot.computeDone then phSafetyInService
  else if s.fon F.schCtrl_fw_attached 4 0 0 then phFullService else phComputeReady

/-- The chamois engines whose self-test and golden test passed at step 7 are in service (R70); one that is retired stays
out across warm restarts (R317). -/
def State.chamoisReady (s : State) (selfTests : Nat) : State :=
  let ok := (s.chamoisPassed 3).filter (fun k => bit selfTests k && !bit s.safety.chuRetired k)
  s.setChamois (maskOf ok)

/-- Gateway, safety island and fallback are declared in service; a safe state that a whole warm restart ends is over. A
device that stopped stays so (R19, R54). `selfTests` tells which chamois engines passed their self-test. -/
def execSafetyInService (selfTests : Nat) (s : State) : Host.Outcome State Fault Refusal :=
  if s.phase ≠ phSafetyUp ∨ s.sentinelUp = false ∨ s.boot.stopped = true then .next s
  else
    let s := { s with safety := { s.safety with starting := false } }
    let s := if s.fallbackState = 2 then s else s.chamoisReady selfTests
    let s := (s.setPhase s.phaseAfter9).fset F.cfgBootTimes_safety_us 4 0 0 s.nowUs
    let s := if s.fon F.safStatus_safe_state 4 0 0 then s.leaveSafe else s.refreshReason
    .next (if s.fallbackState = 1 ∧ s.fallbackPossible then s.setFallback 0 else s)

/-! ### Steps 10 and 11 -/

/-- A stack as its training left it: the controller's status, and zero for the temperature of an untrained one
(R181). -/
def State.trainStack (s : State) (n : Nat) (u : Bool) : State :=
  let s := (s.fset F.memStatus_trained (n / 2) (n % 2) 0 u.toNat).fset F.memStatus_usable (n / 2) (n % 2) 0 u.toNat
  if u then s else s.fset F.memStatus_temp_c (n / 2) (n % 2) 0 0

/-- The LPDDR6 controllers trained the stacks of a mask; an absent stack forces LINEAR (R26). -/
def execLpddr6Training (present : Nat) (s : State) : Host.Outcome State Fault Refusal :=
  if s.boot.memTrained || s.boot.stopped || !(s.boot.loaded || s.phase == phRecovery) then .next s
  else
    let m := present % 256
    let s := { s with boot := { s.boot with memTrained := true, stackMask := m } }
    let s := (List.range 8).foldl (fun s n => s.trainStack n (bit m n)) s
    if s.boot.loaded then
      .next (((List.range 8).foldl (fun s n => s.setStack n (bit m n)) s).applyMapping s.boot.imageBank)
    else .next s

/-- A record that is not start-critical failed: its function stays unstarted, and the bank fails at the next cold start
(R68). -/
def State.recordUnloaded (s : State) (r : ImageRec) : State :=
  let b := s.boot.imageBank
  let s := { s with boot := { s.boot with bankFailedLate := true } }
  let s := match s.bankEntry with
    | none => s
    | some e => s.writeEntry (e.setState b .failed)
  s.raiseSide { recOf E.recordUnloaded 4 0x0E 0xFFFF with detail := r.type + b * 2 ^ 16 }

/-- The golden areas of a payload. -/
def goldenBases (p : List Byte) : List Nat := (List.range 4).map (fun d => leAt p (16 + 8 * d) 8)

/-- Whether the golden areas lie where R293 wants them, under the mapping and watermarks in force. -/
def State.goldenPlaced (s : State) (p : List Byte) : Bool :=
  let bases := goldenBases p
  leAt p 0 4 ≤ 76000 && leAt p 8 4 ≤ 262144 && leAt p 12 4 == 0
    && (List.range 4).all (fun d =>
      let a := bases[d]?.getD 0
      a % 0x200000 == 0 && a + 0x200000 ≤ 0x2000000000
        && (if s.interleaved then
            (List.range 8).all (fun n => s.mark n * 0x200000 ≤ (stackOf true (a + n * 0x1000)).2)
          else a / 2 ^ 34 == 2 * d && s.mark (2 * d) * 0x200000 ≤ a % 2 ^ 34 && s.stackUp (2 * d)))
    && noPair (fun (x y : Nat) => overlap x 0x200000 y 0x200000) bases

/-- The loader writes the golden areas from GOLDEN_SIGNATURES (R292, R293). -/
def execGoldenAreaWrite (s : State) : Host.Outcome State Fault Refusal :=
  let b := s.boot.imageBank
  if !s.boot.loaded || !s.boot.memTrained || s.boot.goldenWritten != 0 then .next s
  else
    match (s.recTable b).find? (fun r => r.type == rtGolden) with
    | none => .next s
    | some r =>
      let p := s.payload b r
      if s.payloadFails b r || !s.digestOk b r || !s.looseOk b r || !s.goldenPlaced p then .next (s.recordUnloaded r)
      else
        let n := (leAt p 4 4 + 1) * 16
        let prog := byteSlice p 560 n
        let inputs := byteSlice p (560 + n) (leAt p 8 4)
        let s := (goldenBases p).foldl (fun s a => (s.store a prog).store (a + 0x10000) inputs) s
        let s := { s with boot := { s.boot with goldenWritten := 0xF }
                          safety := { s.safety with
                            goldenBase := goldenBases p, goldenProgLen := leAt p 4 4
                            expected := (List.range 64).map (fun te => leAt p (48 + 8 * te) 8) } }
        .next (s.fset F.gftTest_test_steps 4 0 0 (leAt p 0 4))

/-- An engine's island failed its test at the start (R71): the engine, and with it the cluster's vector unit, is not
usable. -/
def State.startFails (s : State) (te : Nat) : State :=
  let s := ((s.setUsable te false).fset F.gftEng_state 4 0 te gfAbsent).setTeStat te tsOut
  (s.setGft te { s.gftOf te with unitOut := true }).countUnits

/-- Step 11: the compute islands of a mask passed their extended self-test and golden test; the others, and all where no
golden area is written, are not usable. An island that an earlier restart found bad stays so. -/
def execComputeIslandTest (passed : Nat) (s : State) : Host.Outcome State Fault Refusal :=
  if !s.boot.loaded || s.boot.islandsTested || !s.boot.memTrained then .next s
  else
    let s := { s with boot := { s.boot with islandsTested := true } }
    .next ((List.range 32).foldl (fun s c =>
      let good := bit passed c && s.boot.goldenWritten == 0xF
      if good then
        [2 * c, 2 * c + 1].foldl (fun s te => if s.engineUsable te then s.setParked te false else s) s
      else
        let was := s.engineUsable (2 * c) || s.engineUsable (2 * c + 1)
        let s := [2 * c, 2 * c + 1].foldl (fun s te => if s.engineUsable te then s.startFails te else s) s
        if was then s.raiseSide { recOf E.islandStartFail (c / 8) 0x0E 0xFFFF with detail := c } else s) s)

/-! ### Step 12: the remaining records -/

/-- The instance of an RT partition (R370), with its configuration in force and as staged. -/
def State.loadInstance (s : State) (vi : Nat) : State :=
  let s := [committed vi, vi].foldl (fun s u =>
    let s := (s.fset F.viQueuesA_accel_first 4 0 u (511 - vi)).fset F.viQueuesA_accel_blocks 4 0 u 1
    let s := (s.fset F.viQueuesA_cq_first 4 0 u (511 - vi)).fset F.viQueuesA_cq_blocks 4 0 u 1
    (s.fset F.viCtx_ctx_first 4 0 u (255 - vi)).fset F.viCtx_ctx_blocks 4 0 u 1) s
  let s := { s with vis := { s.vis with rtBound := setBit s.vis.rtBound vi true } }
  s.setViSt vi viActive

/-- The RT granules that an instance gets on a die count towards its spm_min, and its spm_max with it (R387). -/
def State.loadSpm (s : State) (vi d n : Nat) : State :=
  [committed vi, vi].foldl (fun s u =>
    let a := fldAddr F.viSpm_spm_min0 4 0 u
    s.setReg a (setBits (setBits (s.reg a) (16 * d) 8 (s.spmMin u d + n)) (16 * d + 8) 8 (s.spmMax u d + n))) s

/-- RT_PARTITION (R237, R370). -/
def State.loadPartition (s : State) (p : List Byte) : State :=
  let id := leAt p 83 1
  let vi := leAt p 81 1
  let engines := leAt p 0 8
  let s := if bit s.vis.rtBound vi then s else s.loadInstance vi
  let s := s.setRtPart id { vi, allChecked := bit (leAt p 82 1) 1, lpddrGbps := leAt p 84 4 }
  let s := (List.range 512).foldl (fun s i =>
    if bit (leAt p (8 + i / 128 * 16) 16) (i % 128) then s.setGranule (i / 128) (i % 128) 2 vi id else s) s
  let s := (List.range 4).foldl (fun s d => s.loadSpm vi d (popcount (leAt p (8 + 16 * d) 16) 128)) s
  let s := s.fset F.schRtEngines_engines 4 id 0 engines
  let s := (s.fset F.schRtCfg_budget_steps 4 id 0 (leAt p 72 4)).fset F.schRtCfg_window 4 id 0 (leAt p 76 4)
  let s := s.fset F.schRtCfg_condition 4 id 0 (leAt p 80 1)
  let s := s.fset F.schRtCfg_spare_from_shared 4 id 0 (bit (leAt p 82 1) 0).toNat
  let s := (onesBelow engines 64).foldl (fun s te => s.lockRt te true) s
  let s := s.fset F.schRtUse_usable 4 id 0 (s.rtUsable id)
  let q := 32 * (511 - vi) + id % 32
  let s := s.fset F.schQcfg_rt_bound 4 0 q 1
  (s.fset F.schQcfg_rt_partition 4 0 q id).fset F.schId_active_partitions 4 0 0
    (s.fget F.schId_active_partitions 4 0 0 + 1)

/-- INPUT_STREAMS (R280): remap_table of a parameter block is an offset within the payload. -/
def State.loadInputs (s : State) (p : List Byte) : State :=
  let g := leAt p 1 1
  let s := (entries p 8 g 40).foldl (fun s e =>
    let d := leAt e 0 1
    let n := leAt e 1 1
    let s := (s.setReg (fldAddr F.ippGrpBase_base d n 0) (leAt e 8 8)).setReg (fldAddr F.ippGrpCfg_enable d n 0) (leAt e 16 8)
    (s.setReg (fldAddr F.ippGrpTiming_period d n 0) (leAt e 24 8)).setReg
      (fldAddr F.ippGrpTiming2_close_offset d n 0) (leAt e 32 8)) s
  (entries p (8 + 40 * g) (leAt p 0 1) 144).foldl (fun s e =>
    let d := leAt e 0 1
    let k := leAt e 1 1
    let params := byteSlice e 16 128
    let n := (d - 6) * 48 + k
    let s := s.setReg (fldAddr F.ippScfg_enable d 0 k) (leAt e 8 8)
    let s := s.setIppStream n { s.ippStream n with
      next := some (params, byteSlice p (leAt params 104 8) (remapBytes params)) }
    let s := s.fset F.ippSstat_state d 0 k (bit (leAt e 8 8) 0).toNat
    if k < 16 then s.fset F.ulkLane_enable d 0 k 1 else s) s

/-- DISPLAY (R467). -/
def State.loadDisplay (s : State) (p : List Byte) : State :=
  let n := leAt p 0 1
  let k := leAt p 1 1
  let s := (s.fset F.gfxPool_base 5 0 0 (leAt p 16 8)).fset F.gfxPool_mib 5 0 0 (leAt p 24 2)
  let s := (entries p 32 n 40).foldl (fun s e =>
    let i := leAt e 0 1
    let s := (s.setReg (fldAddr F.dspCfg_enable 5 i 0) (leAt e 8 8)).setReg (fldAddr F.dspTiming_active_w 5 i 0) (leAt e 16 8)
    let s := (s.setReg (fldAddr F.dspTiming2_refresh_period 5 i 0) (leAt e 24 8)).setReg
      (fldAddr F.dspTiming3_comp_lead 5 i 0) (leAt e 32 8)
    let s := (s.fset F.dspCfg_tt_here 5 i 0 (Decidable.decide (i = leAt p 2 1)).toNat).fset F.dspCfg_status 5 i 0 0
    let s := s.checkTiming i
    if s.pipeOn i then
      (List.range (1 + s.dsp F.dspCfg_two_lanes i)).foldl (fun s l =>
        let lane := 16 + 2 * (i % 3) + l
        (s.fset F.ulkLane_enable (6 + i / 3) 0 lane 1).fset F.ulkLane_state (6 + i / 3) 0 lane 4) s
    else s) s
  let regions := (entries p (32 + 40 * n) k 144).map (fun e =>
    let states := leAt e 10 1
    ({ x := leAt e 0 2, y := leAt e 2 2, w := leAt e 4 2, h := leAt e 6 2
       group := leAt e 8 1, qmWritable := bit (leAt e 9 1) 0
       crcs := (List.range states).map (fun i => leAt e (16 + 4 * i) 4)
       draws := (List.range states).map (fun i => byteSlice p (leAt e (80 + 4 * i) 4) (4 + 20 * leAt p (leAt e (80 + 4 * i) 4) 4)) } : TtRegion))
  { s with display := { s.display with regions, ttPipe := leAt p 2 1, ttX := leAt p 4 2, ttY := leAt p 6 2
                                       ttW := leAt p 8 2, ttH := leAt p 10 2 } }

/-- The boot blob of the steward, whose digest is checked before it runs (R70 step 13). -/
def State.loadSteward (s : State) (p : List Byte) : State × Bool :=
  let ok := Config.shake256 (s.bytesAt (payloadArea + leAt p 0 8) (leAt p 8 8)) == leAt p 16 32
  (if ok then { s with boot := { s.boot with stewardBooted := true } } else s, ok)

/-- One record that is not start-critical, and was not loaded before. -/
def State.loadRecord (s : State) (r : ImageRec) : State :=
  let b := s.boot.imageBank
  let p := r.body (s.payload b r)
  if s.startCritical b r || r.type == rtGolden then s
  else if !s.looseGood b r then s.recordUnloaded r
  else
  let s := s.streamSecure b r
  if r.type = rtPartition then s.loadPartition p
  else if r.type = rtInputs then s.loadInputs p
  else if r.type = rtDisplay then s.loadDisplay p
  else if r.type = rtSteward then
    let t := s.loadSteward p
    if t.2 then t.1 else s.recordUnloaded r
  else if r.type = rtTahr then
    let s := s.storeProgram p
    match tahrKey p with
    | none => s
    | some k => if k < 64 then s.tahrRestart k else s
  else s

/-- Step 12: the remaining records are loaded, and the phase is COMPUTE_READY. The step waits for step 4 alone; where it
ends before step 9, the phase follows then (R70). -/
def execComputeReady (s : State) : Host.Outcome State Fault Refusal :=
  if (s.phase ≠ phSafetyUp ∧ s.phase ≠ phSafetyInService) ∨ s.boot.computeDone = true ∨ s.boot.stopped = true then .next s
  else
    let b := s.boot.imageBank
    let s := (s.recTable b).foldl (fun s r => if s.startCritical b r then s else s.loadRecord r) s
    let s := { s with boot := { s.boot with computeDone := true } }.fset F.cfgBootTimes_compute_us 4 0 0 s.nowUs
    .next (if s.phase = phSafetyInService then s.setPhase phComputeReady else s)

end Sys2Proof.Machine
end

