-- ==== Sys2Proof/Machine/Handoff.lean ====
section
/-! DEFINITION. The shared memory of the redundant pairs, and the hand-off of the control firmware: hand-off point and
record (R326, R535, R538 to R540). -/

namespace Sys2Proof.Machine

/-! ### Shared memory (R326, R535) -/

def State.pair (s : State) (p : Nat) : PairState := storeGet {} s.pairs p
def State.setPair (s : State) (p : Nat) (x : PairState) : State := { s with pairs := storePut s.pairs p x }

/-- The size of a pair's shared memory. -/
def sramBytes (p : Nat) : Nat := if p < 4 then 0x100000 else 0x80000

/-- A shared memory after stores: the bytes of each mask. -/
def putStores (size : Nat) (m : Store Nat) (ws : List (Nat × Nat × Nat)) : Store Nat :=
  ws.foldl (fun m w => (List.range 8).foldl (fun m i =>
    if bit w.2.1 i && w.1 + i < size then storePut m (w.1 + i) (w.2.2 / 2 ^ (8 * i) % 256) else m) m) m

/-- A shared memory with bytes written from an offset on. -/
def putSram (m : Store Nat) : Nat → List Byte → Store Nat
  | _, [] => m
  | off, b :: t => putSram (storePut m off b.toNat) (off + 1) t

/-- The bytes of a pair's shared memory from an offset on. -/
def State.sramAt (s : State) (p off n : Nat) : List Byte :=
  (List.range n).map (fun i => BitVec.ofNat 8 (storeGet 0 (s.pair p).sram (off + i)))

/-- Both halves of a pair start anew: no checkpoint and no message is held, and the shared memory keeps its contents. -/
def State.restartPair (s : State) (p : Nat) : State :=
  s.setPair p { s.pair p with ahead := [], lastAt := s.periods, lastCount := 0 }

/-- Bytes are copied into the shared memory of a pair. -/
def State.copySram (s : State) (p off : Nat) (bs : List Byte) : State :=
  s.setPair p { s.pair p with sram := putSram (s.pair p).sram off bs }

/-- Where a code slot and the hand-off record lie in a control SRAM. -/
def codeSlot (slot : Nat) : Nat := slot * 0x50000
def hofAt : Nat := 0xF0000

/-- Code is copied into a slot of pairs. -/
def State.copyCode (s : State) (ps : List Nat) (slot : Nat) (code : List Byte) : State :=
  ps.foldl (fun s p => s.copySram p (codeSlot slot) code) s

/-! ### The record (R540) -/

def hofOperations : Nat := 0x0002
def hofCommands : Nat := 0x0004

/-- The section table: each section's type, place, length and CRC. -/
def hofTable : Nat → List (Nat × List Byte) → List Byte
  | _, [] => []
  | off, (ty, d) :: t =>
    leBytes ty 2 ++ leBytes 0 2 ++ leBytes off 4 ++ leBytes d.length 4 ++ leBytes (crc32c d) 4 ++ hofTable (off + d.length) t

/-- The record that the firmware of an image writes on a die. -/
def State.hofRecord (s : State) (img : FwImage) (die : Nat) (secs : List (Nat × List Byte)) : List Byte :=
  let body := beBytes 0x485A484F 4 ++ leBytes img.hofWrite 2 ++ leBytes die 1 ++ leBytes 0 1 ++ leBytes img.version 4
    ++ leBytes (s.fw.handoffSeq % 2 ^ 32) 4 ++ leBytes s.deviceTime 12 ++ leBytes secs.length 2 ++ leBytes 0 2
    ++ hofTable (32 + 16 * secs.length) secs ++ (secs.map Prod.snd).flatten
  body ++ leBytes (crc32c body) 4

/-- The sections that a record's table names: type, place, length, CRC. -/
def hofSections (head : List Byte) : List (Nat × Nat × Nat × Nat) :=
  (List.range (leAt head 28 2)).map (fun i =>
    (leAt head (32 + 16 * i) 2, leAt head (32 + 16 * i + 4) 4, leAt head (32 + 16 * i + 8) 4, leAt head (32 + 16 * i + 12) 4))

/-- Where the CRC of a record stands: after the table and every section. -/
def hofEnd (secs : List (Nat × Nat × Nat × Nat)) : Nat :=
  secs.foldl (fun n x => max n (x.2.1 + x.2.2.1)) (32 + 16 * secs.length)

/-- Whether an importer refuses a record: a CRC fails, or an unknown type has bit 15 set. -/
def hofRefused (bs : List Byte) (secs : List (Nat × Nat × Nat × Nat)) : Bool :=
  leAt bs (hofEnd secs) 4 != crc32c (bs.take (hofEnd secs))
    || secs.any (fun x => crc32c (byteSlice bs x.2.1 x.2.2.1) != x.2.2.2 || bit x.1 15)

/-- Whether the importer of a die refuses the record in its control SRAM. One that does not end within its 64 KiB has no
CRC that could pass. -/
def State.refusesRecord (s : State) (die : Nat) : Bool :=
  let head := s.sramAt die hofAt (32 + 16 * 64)
  let secs := hofSections head
  64 < leAt head 28 2 || 0x10000 < hofEnd secs + 4 || hofRefused (s.sramAt die hofAt (hofEnd secs + 4)) secs

/-! ### The hand-off point (R539) -/

/-- The operations of a die that hardware completes alone and that have not completed: steps 2 to 5 of a pre-emption, ring
pauses, and the copies of loads and refills. -/
def State.operationsOn (s : State) (die : Nat) : Bool :=
  (List.range 16).any (fun i => s.fget F.teStatus_state die i 0 == 3)
    || s.rings.any (fun p => p.1 / 16 == die && p.2.pausing)
    || s.cache.models.any (fun p => p.2.die == die && (p.2.state == .loading || p.2.state == .prefetching))
    || s.sched.jobs.any (fun p => s.jobState p.1 == jsPreempted && s.fget F.schJranks_engines 4 0 p.1 != 0
        && p.2.ranks.any (fun te => te / 16 == die))

/-- The system-queue commands that were accepted for a die and are not completed: those that wait for a load. -/
def State.commandsOn (s : State) (die : Nat) : Bool := s.cache.models.any (fun p => p.2.die == die && !p.2.waiters.isEmpty)

/-- Whether a die's firmware is at its hand-off point with a record of these sections. -/
def State.atHandoffPoint (s : State) (die : Nat) (secs : List (Nat × List Byte)) : Bool :=
  (!s.operationsOn die || secs.any (fun x => x.1 == hofOperations))
    && (!s.commandsOn die || secs.any (fun x => x.1 == hofCommands))

end Sys2Proof.Machine
end

