-- ==== Sys2Proof/Machine/Firmware.lean ====
section
/-! DEFINITION. Control firmware and host drivers: images, loading, live update, and the slots that the loader watches
(R531 to R553). -/

namespace Sys2Proof.Machine

/-! ### Images (R533, R534) -/

/-- The statuses of CFG_FW_CMD. -/
def fsNone : Nat := 0x00
def fsSig : Nat := 0x01
def fsDigest : Nat := 0x02
def fsRollback : Nat := 0x03
def fsImage : Nat := 0x04
def fsFormat : Nat := 0x05
def fsHandoff : Nat := 0x06
def fsRefused : Nat := 0x07
def fsExpired : Nat := 0x08
def fsFailed : Nat := 0x09
def fsSource : Nat := 0x0A

/-- The states of CFG_FW_STATUS. -/
def fwNone : Nat := 0
def fwRunning : Nat := 1
def fwStaged : Nat := 2
def fwWaiting : Nat := 3
def fwHanding : Nat := 4
def fwRolling : Nat := 5

def State.fwSt (s : State) : Nat := s.fget F.cfgFwStatus_state 4 0 0
def State.setFwSt (s : State) (st : Nat) : State := s.fset F.cfgFwStatus_state 4 0 0 st

/-- Whether the header of an image is well formed. -/
def fwHeaderOk (h : List Byte) : Bool :=
  leAt h 0 4 == leNat (beBytes 0x485A4657 4) && leAt h 4 2 == 1 && 4 ≤ leAt h 0x14 4 && leAt h 0x14 4 ≤ 327680
    && leAt h 0x14 4 % 4 == 0 && leAt h 0x18 8 == 0 && leAt h 0x16D0 0x930 == 0

/-- The verification of R534 on an image at an address, which the loader reads: what the reads leave, a status, and the
image. -/
def State.fwVerify (s : State) (src : Nat) : State × Nat × FwImage :=
  match s.fetchAs .loader src 0x2000 with
  | (s, none) => (s, fsSource, ⟨0, 0, 0, 0, 0, []⟩)
  | (s, some h) =>
    let img : FwImage := { version := leAt h 0x0C 4, hofWrite := leAt h 6 2, hofReadMin := leAt h 8 2
                           hofReadMax := leAt h 10 2, digest := leAt h 0x20 32 }
    let signer := byteSlice h 0x40 68
    let root := byteSlice h 0x84 68
    if src % 0x1000 ≠ 0 ∨ fwHeaderOk h = false then (s, fsFormat, img)
    else
      match s.fetchAs .loader (src + 0x2000) (leAt h 0x14 4) with
      | (s, none) => (s, fsSource, img)
      | (s, some code) =>
        let status :=
          if !(Config.shake256 root == s.rootInForce && Config.xmssVerify root signer (byteSlice h 0xC8 2820)
              && Config.xmssVerify signer (byteSlice h 0 0x40) (byteSlice h 0xBCC 2820)) then fsSig
          else if Config.shake256 code ≠ img.digest then fsDigest
          else if img.version < s.flash.fwFloor then fsRollback
          else if s.fget F.cfgBootStatus_image_version 4 0 0 < leAt h 0x10 4 then fsImage
          else fsNone
        (s, status, { img with code })

/-- The compute dies whose control pair is admitted. -/
def State.admittedDies (s : State) : List Nat := (List.range 4).filter (fun d => s.fget F.safPair_state 4 0 d == 0)

/-- A command of CFG_FW_CMD: its effect and its status. -/
def State.fwCommand (s : State) (who : Initiator) (op : Nat) (f : State → State × Nat) : State :=
  if !s.loaderRight who then s.dropWrite who (fldPlace F.cfgFwCmd_op 4 0)
  else
    let r := f (s.fset F.cfgFwCmd_op 4 0 0 op)
    (r.1.fset F.cfgFwCmd_status 4 0 0 r.2).answerOk

def State.fwBusy (s : State) (b : Bool) : State := s.fset F.cfgFwCmd_busy 4 0 0 b.toNat

/-- A record of chapter 19. -/
def fwRec (c : ErrCode) (detail : Nat) : ErrRec := { recOf c 4 0x0E 0xFFFF with detail }

/-! ### Loading at start (R536, R537) -/

def execFwLoad (who : Initiator) (s : State) : Host.Outcome State Fault Refusal :=
  .next (s.fwCommand who 1 (fun s =>
    if s.fwSt ≠ fwNone ∨ s.fw.loading.isSome then (s, fsRefused)
    else
      let r := s.fwVerify (s.fget F.cfgFwSrc_src 4 0 0)
      let s := r.1
      if r.2.1 ≠ fsNone then (s.raiseRec (fwRec E.fwLoadFail r.2.2.version), r.2.1)
      else
        let s := s.copyCode s.admittedDies 0 r.2.2.code
        let s := s.admittedDies.foldl State.restartPair s
        ({ s with fw := { s.fw with loading := some r.2.2, ready := [] } }.fwBusy true, fsNone)))

/-- The image that runs from now on: its version and the digest of the attestation report. -/
def State.runImage (s : State) (img : FwImage) : State :=
  let s := { s with boot := { s.boot with firmwareDigest := img.digest } }
  (s.fset F.cfgFwStatus_running_version 4 0 0 img.version).setFwSt fwRunning

/-- A die reports ready. -/
def State.dieReady (s : State) (die : Nat) : State :=
  if s.fw.ready.contains die then s else { s with fw := { s.fw with ready := s.fw.ready ++ [die] } }

/-! Host-driver slots, as far as the firmware acts for them (R545 to R549) -/

/-- The states of CFG_FW_DRV. -/
def drDetached : Nat := 0
def drAttached : Nat := 1
def drLost : Nat := 2
def drTornDown : Nat := 3

def State.drvState (s : State) (slot : Nat) : Nat := s.fget F.cfgFwDrv_state 4 0 slot

/-- The instances of a slot. -/
def State.slotVis (s : State) (slot : Nat) : List Nat := onesBelow (s.fget F.cfgFwDrvMask_instances 4 0 slot) 64

/-- The firmware acts for a slot: the queues of the instances of a LOST one freeze (R547), and those of an ATTACHED one are
ACTIVE again, with held records released (R549). It acts once it is attached. -/
def State.serveSlot (s : State) (slot : Nat) : State :=
  if !s.fwAttached then s
  else if s.drvState slot = drLost then
    (s.slotVis slot).foldl (fun s vi =>
      (s.viQueues vi).foldl (fun s q =>
        if s.qState q = 1 && s.heldByDriver vi q then s.fset F.schQptr_state 4 0 q 2 else s) s) s
  else if s.drvState slot = drAttached then
    (s.slotVis slot).foldl (fun s vi => if s.viSt vi = viActive then s.thawQueues vi else s) s
  else s

/-- Firmware dispatches from now on, and takes up what waited for it; the first time after a start the phase is
FULL_SERVICE. -/
def State.attachFirmware (s : State) : State :=
  let s := s.fset F.schCtrl_fw_attached 4 0 0 1
  let s := if s.phase = phComputeReady then s.setPhase phFullService else s
  ((s.serveSlot 0).serveSlot 1).repinAll

/-- A die's firmware has reconciled after a load; with the last one fw_attached is set. -/
def execFwLoaded (die : Nat) (s : State) : Host.Outcome State Fault Refusal :=
  match s.fw.loading with
  | none => .next s
  | some img =>
    if s.admittedDies.contains die then
      let s := s.dieReady die
      if s.admittedDies.all s.fw.ready.contains then
        let s := { s with fw := { s.fw with running := some img, slot := 0, loading := none, ready := [], down := [] } }
        .next (((s.runImage img).attachFirmware.fwBusy false).raiseRec (fwRec E.fwLoaded img.version))
      else .next s
    else .next s

/-- The kept copy is reloaded into a pair that passed its test again. During a hand-off the loader waits. -/
def execFwReloaded (pair : Nat) (s : State) : Host.Outcome State Fault Refusal :=
  match s.fw.running with
  | none => .next s
  | some img =>
    if s.fw.down.contains pair && s.admittedDies.contains pair && s.fw.start.isNone then
      let s := s.copyCode [pair] s.fw.slot img.code
      .next (({ s with fw := { s.fw with down := s.fw.down.filter (· != pair) } }.repinAll).raiseRec
        (fwRec E.fwReloaded (pair + img.version * 2 ^ 16)))
    else .next s

/-! ### Live update (R538 to R544) -/

def execFwStage (who : Initiator) (s : State) : Host.Outcome State Fault Refusal :=
  .next (s.fwCommand who 2 (fun s =>
    match s.fw.running with
    | none => (s, fsRefused)
    | some old =>
      if s.fwSt ≠ fwRunning ∧ s.fwSt ≠ fwStaged then (s, fsRefused)
      else
        let r := s.fwVerify (s.fget F.cfgFwSrc_src 4 0 0)
        let s := r.1
        let img := r.2.2
        let status := if r.2.1 ≠ fsNone then r.2.1
          else if old.hofWrite < img.hofReadMin ∨ img.hofReadMax < old.hofWrite then fsHandoff else fsNone
        if status ≠ fsNone then (s.raiseRec (fwRec E.fwLoadFail img.version), status)
        else
          let s := s.copyCode s.admittedDies (1 - s.fw.slot) img.code
          (({ s with fw := { s.fw with staged := some img } }.setFwSt fwStaged).fset F.cfgFwInfo_staged_version 4 0 0
            img.version, fsNone)))

/-- A staged image is discarded. -/
def State.dropStaged (s : State) : State :=
  ({ s with fw := { s.fw with staged := none } }.setFwSt fwRunning).fset F.cfgFwInfo_staged_version 4 0 0 0

def execFwCancel (who : Initiator) (s : State) : Host.Outcome State Fault Refusal :=
  .next (s.fwCommand who 4 (fun s => if s.fwSt = fwStaged then (s.dropStaged, fsNone) else (s, fsRefused)))

/-- The emergency bit of R437. -/
def State.emergencyBit (s : State) : Bool := s.fon F.pwrStatus_emergency 4 0 0

/-- Step 1 of R541. -/
def State.startHandoff (s : State) : State :=
  let s := { s with fw := { s.fw with start := some s.periods, waitStart := none, ready := [], points := [] } }
  (s.fset F.schCtrl_fw_attached 4 0 0 0).setFwSt fwHanding

def execFwActivate (who : Initiator) (s : State) : Host.Outcome State Fault Refusal :=
  .next (s.fwCommand who 3 (fun s =>
    if s.fwSt ≠ fwStaged then (s, fsRefused)
    else if s.emergencyBit then
      (({ s with fw := { s.fw with waitStart := some s.periods } }.setFwSt fwWaiting).fwBusy true, fsNone)
    else (s.startHandoff.fwBusy true, fsNone)))

/-- The hand-off of a waiting activation begins. -/
def execHandoffStart (s : State) : Host.Outcome State Fault Refusal :=
  if s.fwSt = fwWaiting ∧ s.emergencyBit = false then .next s.startHandoff else .next s

/-- No hand-off is in progress any more. -/
def State.endHandoff (s : State) : State :=
  { s with fw := { s.fw with start := none, ready := [], points := [] } }

/-- The bounds of R541 on steps 2, 4 and 5, from t0 on. -/
def pointBound : Nat := 76800
def readyBound : Nat := 184320
def pauseBound : Nat := 192000

/-- Step 5 of R541: the new firmware runs on every die, in the slot that was free. -/
def State.finishHandoff (s : State) (img : FwImage) (t0 : Nat) : State :=
  let s := s.dropStaged.endHandoff
  let s := { s with fw := { s.fw with running := some img, slot := 1 - s.fw.slot, handoffSeq := s.fw.handoffSeq + 1 } }
  let s := (s.runImage img).fwrap F.cfgFwStatus_handoffs 4 0 0 1
  let s := s.fset F.cfgFwStatus_last_pause_us 4 0 0 (min ((s.periods - t0) * 5 / 192) 65535)
  ((s.attachFirmware).fwBusy false).raiseRec (fwRec E.fwHandoff img.version)

/-- A roll-back is over: the old firmware runs again on every die. -/
def State.finishRollBack (s : State) : State :=
  let cause := s.fw.cause
  let s := (s.dropStaged.endHandoff.attachFirmware).fwBusy false
  (s.fset F.cfgFwCmd_status 4 0 0 fsFailed).raiseSide (fwRec E.fwRollback cause)

/-- A roll-back ends once every die's old firmware reports ready. -/
def State.rollBackReady (s : State) : State :=
  if s.fwSt = fwRolling ∧ s.runningDies.all s.fw.ready.contains = true then s.finishRollBack else s

/-- A hand-off fails: the loader restarts each pair at the entry of its old slot. -/
def State.fwRollBack (s : State) (cause : Nat) : State :=
  if s.fwSt ≠ fwHanding then s
  else
    let s := { s with fw := { s.fw with ready := [], cause } }
    (s.runningDies.foldl State.restartPair (s.setFwSt fwRolling)).rollBackReady

/-- The pair of a compute die miscompared: no firmware runs on the die, and a hand-off fails (R337, R542). -/
def State.fwPairLost (s : State) (p : Nat) : State :=
  let s := { s with fw := { s.fw with down := if s.fw.down.contains p then s.fw.down else s.fw.down ++ [p] } }
  (s.fwRollBack p).rollBackReady

/-- A step of a hand-off passed its bound on a die (R542). -/
def execFwRollback (die : Nat) (s : State) : Host.Outcome State Fault Refusal :=
  match s.fw.start with
  | none => .next s
  | some t0 =>
    if (t0 + pointBound < s.periods && s.runningDies.contains die && !s.fw.points.contains die)
        || (t0 + readyBound < s.periods && s.runningDies.contains die && !s.fw.ready.contains die)
        || t0 + pauseBound < s.periods then .next (s.fwRollBack die)
    else .next s

/-- The old firmware of a die reaches its hand-off point, writes its record and stops; with the last one the pairs restart
at the entry of the staged slot (steps 2 and 3 of R541). -/
def State.reachPoint (s : State) (img : FwImage) (t0 die : Nat) (secs : List (Nat × List Byte)) : State :=
  let bs := s.hofRecord img die secs
  if s.fw.points.contains die || secs.isEmpty || 64 < secs.length || 0x10000 < bs.length || !s.atHandoffPoint die secs then s
  else if t0 + pointBound < s.periods then s.fwRollBack die
  else
    let s := s.copySram die hofAt bs
    let s := { s with fw := { s.fw with points := s.fw.points ++ [die] } }
    if s.fwRestarted then s.runningDies.foldl State.restartPair s else s

/-- The new firmware of a die has checked and imported its record, and reports ready (steps 4 and 5 of R541). -/
def State.reportReady (s : State) (img : FwImage) (t0 die : Nat) : State :=
  if !s.fwRestarted then s
  else if t0 + readyBound < s.periods || s.refusesRecord die then s.fwRollBack die
  else
    let s := s.dieReady die
    if s.runningDies.all s.fw.ready.contains then s.finishHandoff img t0 else s

/-- A die's firmware moves a hand-off on: the old one stops with a record of these sections, or the one that restarted, of
the staged slot or in a roll-back of the old one, reports ready. -/
def execFwHandoff (die : Nat) (sections : Option (List (Nat × List Byte))) (s : State) : Host.Outcome State Fault Refusal :=
  if !s.runningDies.contains die then .next s
  else if s.fwSt = fwRolling then
    .next (match sections with
      | none => (s.dieReady die).rollBackReady
      | some _ => s)
  else
    match s.fw.staged, s.fw.running, s.fw.start with
    | some img, some old, some t0 =>
      if s.fwSt ≠ fwHanding then .next s
      else .next (match sections with
        | some secs => s.reachPoint old t0 die secs
        | none => s.reportReady img t0 die)
    | _, _, _ => .next s

/-- Sixty seconds of the time counter. -/
def sixtySeconds : Nat := 38400000 * 60

def execFwActivationExpired (s : State) : Host.Outcome State Fault Refusal :=
  match s.fw.waitStart with
  | none => .next s
  | some t =>
    if s.fwSt ≠ fwWaiting ∨ s.periods < t + sixtySeconds ∨ s.emergencyBit = false then .next s
    else
      let s := { s with fw := { s.fw with waitStart := none } }
      let s := ((s.setFwSt fwStaged).fwBusy false).fset F.cfgFwCmd_status 4 0 0 fsExpired
      .next (s.raiseRec (fwRec E.fwActivationExpired (s.fget F.cfgFwInfo_staged_version 4 0 0)))

def execFwCommit (who : Initiator) (s : State) : Host.Outcome State Fault Refusal :=
  .next (s.fwCommand who 5 (fun s =>
    match s.fw.running with
    | none => (s, fsRefused)
    | some img =>
      if s.fwSt = fwHanding ∨ s.fwSt = fwRolling ∨ img.version < s.flash.fwFloor then (s, fsRefused)
      else ({ s with flash := { s.flash with fwFloor := img.version } }.fset F.cfgFwInfo_floor 4 0 0 img.version, fsNone)))

/-! ### Host drivers (R545 to R550) -/

/-- Whether an initiator is a slot's own (R545). -/
def State.slotRight (s : State) (who : Initiator) (slot : Nat) : Bool :=
  if slot = 0 then who.isSteward else if slot = 1 then who == .hostFn 0 && s.hostMode == 2 else false

/-- A slot becomes LOST: the queues of its instances freeze (R547). -/
def State.loseDriver (s : State) (slot : Nat) : State :=
  let s := s.fset F.cfgFwDrv_state 4 0 slot drLost
  let s := { s with fw := { s.fw with lostTime := storePut s.fw.lostTime slot s.periods } }
  (s.raiseRec (fwRec E.fwDriverLost slot)).serveSlot slot

def execDriverHeartbeat (who : Initiator) (slot : Nat) (s : State) : Host.Outcome State Fault Refusal :=
  if !s.slotRight who slot then .next (s.dropWrite who (fldPlace F.cfgFwHb_beat 4 0))
  else if s.drvState slot ≠ drAttached then .next s.answerOk
  else
    let s := { s with fw := { s.fw with beats := if s.fw.beats.contains slot then s.fw.beats else s.fw.beats ++ [slot] } }
    .next (s.fset F.cfgFwDrv_misses 4 0 slot 0).answerOk

/-- A window of 384 000 periods of an ATTACHED slot ends, and the next begins. -/
def execHeartbeatWindow (slot : Nat) (s : State) : Host.Outcome State Fault Refusal :=
  let t0 := storeGet 0 s.fw.window slot
  if 2 ≤ slot || s.drvState slot != drAttached || s.periods < t0 + 384000 then .next s
  else
  let s := { s with fw := { s.fw with window := storePut s.fw.window slot (t0 + 384000) } }
  if s.fw.beats.contains slot then
    .next { s with fw := { s.fw with beats := s.fw.beats.filter (· != slot) } }
  else
    let n := s.fget F.cfgFwDrv_misses 4 0 slot + 1
    let s := s.fset F.cfgFwDrv_misses 4 0 slot n
    .next (if 5 ≤ n then s.loseDriver slot else s)

/-- An attach write: a LOST slot has its queues and held records released (R549). -/
def execDriverAttach (who : Initiator) (slot : Nat) (s : State) : Host.Outcome State Fault Refusal :=
  if !s.slotRight who slot then .next (s.dropWrite who (fldPlace F.cfgFwDrv_state 4 0))
  else
    let st := s.drvState slot
    let t := (s.fset F.cfgFwDrv_state 4 0 slot drAttached).fset F.cfgFwDrv_misses 4 0 slot 0
    let t := { t with fw := { t.fw with lostTime := storeDrop t.fw.lostTime slot, beats := t.fw.beats.filter (· != slot)
                                        window := storePut t.fw.window slot t.periods } }
    if st = drAttached then .next s.answerOk
    else if st = drLost then .next ((t.raiseRec (fwRec E.fwDriverAttached slot)).serveSlot slot).answerOk
    else .next t.answerOk

def execDriverDetach (who : Initiator) (slot : Nat) (s : State) : Host.Outcome State Fault Refusal :=
  if !s.slotRight who slot then .next (s.dropWrite who (fldPlace F.cfgFwDrv_state 4 0))
  else if s.drvState slot = drAttached then .next (s.loseDriver slot).answerOk
  else .next s.answerOk

/-- The slot stayed LOST for teardown_s: its instances are reset with jobs ABORTED and end QUIESCED. -/
def execFwTeardown (slot : Nat) (s : State) : Host.Outcome State Fault Refusal :=
  match storeFind s.fw.lostTime slot with
  | none => .next s
  | some t =>
    if s.drvState slot ≠ drLost ∨ s.periods < t + s.fget F.cfgFwDrv_teardown_s 4 0 slot * 38400000 then .next s
    else
      let s := (s.slotVis slot).foldl (fun s vi =>
        if s.mayReset vi then s.opViReset vi jsAborted viQuiesced
        else if s.viSt vi = viResetting then { s with vis := { s.vis with prior := storePut s.vis.prior vi viQuiesced } }
        else s) s
      let s := { s with fw := { s.fw with lostTime := storeDrop s.fw.lostTime slot } }
      .next ((s.fset F.cfgFwDrv_state 4 0 slot drTornDown).raiseRec (fwRec E.fwTeardown slot))

/-- Firmware, staged image and driver slots are gone with a restart (R551); the number of hand-offs since cold start
stands. -/
def State.dropFirmware (s : State) (handoffSeq : Nat) : State :=
  let s := { s with fw := { handoffSeq }, boot := { s.boot with firmwareDigest := 0 } }
  let s := { s with regs := s.regs.filter (fun p =>
      !(regBase 4 + 0x380140 ≤ p.1 % bankStride && p.1 % bankStride < regBase 4 + 0x380178)) }
  s.fset F.cfgFwInfo_staged_version 4 0 0 0

end Sys2Proof.Machine
end

