-- ==== Sys2Proof/Machine/Pairs.lean ====
section
/-! DEFINITION. Redundant control pairs: checkpoints, miscompares, comparator tests, takeover and escalation (R326 to
R339, R562). -/

namespace Sys2Proof.Machine

/-- The states of SAF_PAIR. -/
def prAdmitted : Nat := 0
def prTesting : Nat := 1
def prReset : Nat := 2
def prRetired : Nat := 3
def prStandby : Nat := 4

def State.pairSt (s : State) (p : Nat) : Nat := s.fget F.safPair_state 4 0 p
def State.setPairSt (s : State) (p st : Nat) : State := s.fset F.safPair_state 4 0 p st
def State.pairActive (s : State) (p : Nat) : Bool := s.fon F.safPair_active 4 0 p
def State.setPairActive (s : State) (p : Nat) (b : Bool) : State := s.fset F.safPair_active 4 0 p b.toNat

/-! ### Signatures (R328) -/

/-- The bytes of the record that an event folds into a signature. -/
def PairEvent.bytes : PairEvent → List Byte
  | .store a m d => leBytes 1 1 ++ leBytes a 6 ++ leBytes m 1 ++ leBytes d 8
  | .message a bs => leBytes 2 1 ++ leBytes a 6 ++ leBytes bs.length 2 ++ bs
  | .read a => leBytes 3 1 ++ leBytes a 6

/-- The 64-bit signature of a half at a checkpoint: the records since the one before, from zero, then the checkpoint's
own. -/
def PairRun.signature (r : PairRun) : Nat :=
  crc64 0 ((r.events.map PairEvent.bytes).flatten ++ (leBytes 4 1 ++ leBytes r.count 8 ++ leBytes r.pc 8 ++ leBytes r.regs 4))

/-- The stores of a run to shared memory. -/
def PairRun.stores (r : PairRun) : List (Nat × Nat × Nat) :=
  r.events.filterMap (fun e => match e with
    | .store a m d => some (a, m, d)
    | _ => none)

/-- The outbound message of a run. -/
def PairRun.message (r : PairRun) : Option (Nat × List Byte) :=
  r.events.findSome? (fun e => match e with
    | .message a bs => some (a, bs)
    | _ => none)


/-- The messages in a pair's outbound buffer, the oldest first (R329). -/
def State.outbox (s : State) (p : Nat) : List (Nat × List Byte) := (s.pair p).ahead.filterMap (fun g => g.message)


/-- Whether a pair runs: it is admitted or standby. -/
def State.pairUp (s : State) (p : Nat) : Bool := s.pairSt p == prAdmitted || s.pairSt p == prStandby

/-- The other sentinel pair. -/
def otherPair (p : Nat) : Nat := 9 - p

/-- A pair is retired until the next cold start (R335). -/
def State.retirePair (s : State) (p : Nat) : State :=
  ((s.setPairSt p prRetired).setPairActive p false).raiseFollow
    { recOf E.pairRetired 4 0x08 p with detail := p + (s.pair p).lastCount % 2 ^ 64 * 2 ^ 16 }

/-- Whether a miscompare of a pair escalates (R334): the active pair with a record in handling, or no other pair. -/
def State.pairEscalates (s : State) (p : Nat) : Bool :=
  (p == 4 || p == 5) && ((s.pairActive p && !s.err.handlingOrder.isEmpty) || !s.pairUp (otherPair p))

/-- Hardware escalation (R562): the record names the pair and the sequence in handling. -/
def State.escalate (s : State) (p : Nat) : State :=
  let seq := s.err.handlingOrder.getLast?.getD 0xFFFFFFFF
  let s := s.raiseFollow { recOf E.hwEscalation 4 0x0F p with detail := p + seq * 2 ^ 16 }
  (s.fset F.errStatus_escalated 4 0 0 1).enterSafe rsEscalation false

/-- The standby pair takes over, and the records that the failed pair had in handling are presented again (R336). -/
def State.takeOver (s : State) (p : Nat) : State :=
  let q := otherPair p
  let s := ((s.setPairActive p false).setPairActive q true).setPairSt q prAdmitted
  let s := s.fadd F.safPairCounts_takeovers 4 0 0 1
  (s.raiseFollow { recOf E.pairTakeover 4 0x08 q with detail := p }).unhandle

/-- The miscompares of a pair within 10 minutes, this one with them. -/
def State.pairEvents (s : State) (p : Nat) : List Nat :=
  (storeGet [] s.safety.pairTimes p).filter (fun t => s.periods < t + tenMinutes) ++ [s.periods]

/-- What a miscompare means for a pair (R334): compute pairs lose their firmware, sentinel pairs their turn. -/
def State.pairFails (s : State) (p : Nat) : State :=
  if p < 4 then s.fwPairLost p
  else if s.pairActive p then s.takeOver p
  else s

/-- A miscompare of a pair that runs, at a retired-instruction count: the held messages are discarded, both halves reset,
a record, and a retest or retirement. -/
def State.miscompare (s : State) (p : Nat) (c : ErrCode) (count : Nat) : State :=
  if 6 ≤ p || !s.pairUp p then s
  else
    let escal := s.pairEscalates p
    let es := s.pairEvents p
    let s := s.raiseRec
      { recOf c 4 0x08 p with sev := if escal then 4 else 3, detail := p + count % 2 ^ 64 * 2 ^ 16 }
    let s := s.fadd F.safPair_miscompares 4 0 p 1
    let s := s.fset F.safPair_last_us 4 0 p s.nowUs
    let s := { s with safety := { s.safety with pairTimes := storePut s.safety.pairTimes p es } }
    let s := if escal then s.escalate p else s.pairFails p
    (if 2 ≤ es.length then s.retirePair p else s.setPairSt p prTesting).restartPair p

/-- Whether a run ends where the leader takes a checkpoint (R330): at the issue of a message, 6 144 periods or 2^20 retired
instructions after the previous one, whichever comes first. -/
def State.checkpointDue (s : State) (p : Nat) (r : PairRun) : Bool :=
  let x := s.pair p
  let last := r.events.getLast?.any (fun e => match e with | .message _ _ => true | _ => false)
  (r.events.dropLast.all (fun e => match e with | .message _ _ => false | _ => true))
    && (last || x.lastAt + 6144 ≤ s.periods || x.lastCount + 2 ^ 20 ≤ r.count)

/-- The leader takes a checkpoint: its stores are in the shared memory, and its message is held. With 64 messages held it
stalls before another one (R329). -/
def State.leaderAt (s : State) (p : Nat) (r : PairRun) : State :=
  let x := s.pair p
  if !s.checkpointDue p r || (r.message.isSome && 64 ≤ (s.outbox p).length) then s
  else s.setPair p { x with
    ahead := x.ahead ++ [⟨r.signature, r.count, r.stores, r.message⟩], lastAt := s.periods, lastCount := r.count
    sram := putStores (sramBytes p) x.sram r.stores }

/-- A passed comparison: the checkpoint is gone, and the active sentinel pair's stores are in the standby pair's memory
(R336). -/
def State.checkpointPasses (s : State) (p : Nat) (g : PairSegment) : State :=
  let x := s.pair p
  let s := s.setPair p { x with ahead := x.ahead.drop 1 }
  if 4 ≤ p ∧ s.pairActive p = true then
    let y := s.pair (otherPair p)
    s.setPair (otherPair p) { y with sram := putStores (sramBytes p) y.sram g.stores }
  else s

/-- A forwarded address differs from the follower's own, at a retired-instruction count (R327). -/
def execPairAddressMiscompare (pair count : Nat) (s : State) : Host.Outcome State Fault Refusal :=
  .next (s.miscompare pair E.pairMiscompare count)

/-- A pair passed its comparator test. A sentinel pair becomes standby where the other is active, and pair B where pair A
is still tested. -/
def State.admitPair (s : State) (p : Nat) : State :=
  if p < 4 then s.setPairSt p prAdmitted
  else if s.pairActive (otherPair p) || (p == 5 && s.pairSt 4 == prTesting) then s.setPairSt p prStandby
  else (s.setPairSt p prAdmitted).setPairActive p true

/-- A pair failed its comparator test: it is retired; the other sentinel pair becomes active where none is. With both out
at the start the phase stays and frames come from the relaxation-timed path. -/
def State.failPair (s : State) (p : Nat) : State :=
  let s := (s.raiseRec { recOf E.pairTestFail 4 0x08 p with detail := p }).retirePair p
  if p < 4 then s
  else
    let q := otherPair p
    if s.pairSt q = prStandby then (s.setPairSt q prAdmitted).setPairActive q true
    else if s.pairSt q = prRetired ∧ s.safety.starting = true then s.relaxedFrames rsEscalation
    else s

def execPairComparatorTest (pair : Nat) (passed : Bool) (s : State) : Host.Outcome State Fault Refusal :=
  if 6 ≤ pair || !(s.pairSt pair == prTesting || s.pairSt pair == prReset) then .next s
  else if passed then .next ((s.admitPair pair).restartPair pair)
  else .next (s.failPair pair)

/-- A fault in the shared memory of a pair (R332). -/
def State.pairSramHit (s : State) (p : Nat) (fatal : Bool) : State :=
  if 6 ≤ p then s
  else if fatal then s.miscompare p E.pairSramUncorr (s.pair p).lastCount
  else (s.fadd F.safPairCounts_sram_corrected 4 0 0 1).raiseSide
    { recOf E.pairSramCorr 4 0x08 p with detail := p + (s.pair p).lastCount % 2 ^ 64 * 2 ^ 16 }

end Sys2Proof.Machine
end

