-- ==== Sys2Proof/Machine/Network.lean ====
section
/-! DEFINITION. Optical Ethernet, network time and the Ulham lanes: the rows of chapter 18 (R510 to R530). -/

namespace Sys2Proof.Machine

/-- Whether an initiator may write what the steward may write in NET_, TIM_ and ULK_. -/
def netRight (who : Initiator) : Bool := who.isSteward || who == .hardware

/-! ### Links and gate lists (R510, R516) -/

def State.portUpEth (s : State) (p : Nat) : Bool := s.fon F.netPortCounts_link_up (portDie p) 0 (p % 8)

/-- Where a list stands: the current entry and its start. Before the base time no entry runs, and every gate is open. -/
def GateList.position (l : GateList) (now : Nat) : Nat × Nat :=
  if now < l.base ∨ l.cycle = 0 then (l.entries.length, l.base)
  else
    let start := l.base + (now - l.base) / (l.cycle * 65536) * (l.cycle * 65536)
    let r := l.entries.foldl (fun (r : Nat × Nat × Bool) e =>
      if r.2.2 then r
      else if now < r.2.1 + e.2 * 65536 then (r.1, r.2.1, true)
      else (r.1 + 1, r.2.1 + e.2 * 65536, false)) (0, start, false)
    if r.2.2 then (r.1, r.2.1) else (l.entries.length - 1, (l.entries.map (fun e => e.2 * 65536)).dropLast.sum + start)

/-- A port's operational list stands where device time says, once a restart that waits has come. -/
def State.syncGates (s : State) (p : Nat) : State :=
  let x := s.ethPort p
  match x.oper with
  | none => s
  | some l =>
    if s.timeParts < x.restart then s
    else
      let r := l.position s.timeParts
      s.setEthPort p { x with index := r.1, entryStart := r.2 }

/-- The first cycle boundary of a list that is not before a moment. -/
def GateList.boundary (l : GateList) (now : Nat) : Nat :=
  let c := l.cycle * 65536
  if now ≤ l.base then l.base else l.base + (now - l.base + c - 1) / c * c

/-- A list that runs when device time steps restarts its cycle at the first boundary after the step (R525). -/
def State.stepGates (s : State) (p : Nat) : State :=
  let x := s.ethPort p
  match x.oper with
  | none => s
  | some l =>
    if x.index < l.entries.length then s.setEthPort p { x with restart := l.boundary s.timeParts } else s

def execEthLinkUp (port : Nat) (s : State) : Host.Outcome State Fault Refusal :=
  if 16 ≤ port then .next s
  else .next ((s.fset F.netPortCounts_link_up (portDie port) 0 (port % 8) 1).runPort port)

def execEthLinkDown (port : Nat) (s : State) : Host.Outcome State Fault Refusal :=
  if 16 ≤ port then .next s else .next (s.fset F.netPortCounts_link_up (portDie port) 0 (port % 8) 0)

/-- A gate entry's interval is over: the next one is in force, and what may leave leaves. -/
def execGclEntryExpiry (port : Nat) (s : State) : Host.Outcome State Fault Refusal := .next ((s.syncGates port).runPort port)

/-- Device time reached a launch time: what may leave leaves. -/
def execLaunchTime (port : Nat) (s : State) : Host.Outcome State Fault Refusal := .next (s.runPort port)

/-- A list in the record's layout, at an address that is read for the steward: port, count, cycle, base time and entries.
-/
def State.readGateList (s : State) (src : Nat) : State × Option GateList :=
  match s.fetchAs (.service none) src 20 with
  | (s, none) => (s, none)
  | (s, some h) =>
    match (if leAt h 1 1 = 0 then (s, some []) else s.fetchAs (.service none) (src + 20) (8 * leAt h 1 1)) with
    | (s, none) => (s, none)
    | (s, some es) =>
      (s, match (gateLists (h ++ es) 0 1).1 with
      | [] => none
      | (_, g) :: _ => if g.cycle ≠ 0 ∧ g.entries.all (fun e => 8 ≤ e.2 && e.2 ≤ 2 ^ 32 - 8) = true then some g else none)

/-- NET_GCL go: the steward stages a replacement. -/
def execGclStage (who : Initiator) (port src : Nat) (s : State) : Host.Outcome State Fault Refusal :=
  let d := portDie port
  if !netRight who || 16 ≤ port then .next (s.dropWrite who (fldPlace F.netGcl_admin_src d 0))
  else
    let s := (s.fset F.netGcl_admin_src d 0 (port % 8) src).answerOk
    match s.readGateList src with
    | (s, none) => .next s
    | (s, some l) =>
      .next ((s.setEthPort port { s.ethPort port with admin := some l }).fset F.netGcl_pending d 0 (port % 8) 1)

/-- The configuration-change time of a staged list has come: it is operational. -/
def execGclConfigChange (port : Nat) (s : State) : Host.Outcome State Fault Refusal :=
  let x := s.ethPort port
  match x.admin with
  | none => .next s
  | some l =>
    if s.timeParts < l.base then .next s
    else
      let s := s.setEthPort port { x with oper := some l, admin := none, restart := 0 }
      let s := s.fset F.netGcl_pending (portDie port) 0 (port % 8) 0
      .next ((s.syncGates port).runPort port)

/-! ### Frames (R512 to R515) -/

/-- The enabled flow context whose key a frame hits. -/
def State.flowOf (s : State) (port : Nat) (frame : List Byte) : Option Nat :=
  let k := Config.frameKey port frame
  (s.net.keys.find? (fun p => p.2 == k && s.flow F.netFlow_enable p.1 == 1 && s.flow F.netFlow_kind p.1 != 0)).map Prod.fst

/-- A frame enters a receive queue: the bytes go to the buffer of the next entry, and the entry is written, for the
queue's instance. A frame that finds no entry, or whose buffer or entry is refused, is dropped. -/
def State.receiveEntry (s : State) (flow q : Nat) (frame : List Byte) : State :=
  if s.qState q ≠ 1 ∨ s.fget F.netQcfg_dir 6 0 (q - 40960) ≠ 1 ∨ s.qSize q ≤ s.qUsed q then s
  else
    let i := s.qTail q
    let a := s.qEntry q i 64
    let who : Initiator := .service (some (s.qVi q))
    match s.readEntryAt q i 64 with
    | (s, none) => s
    | (s, some e) =>
      let n := min frame.length (leAt e 28 4)
      let w := if n = 0 then (s, true) else s.storeAs who (leAt e 8 8) (frame.take n)
      if !w.2 then w.1
      else
        let phase := (i / s.qSize q + 1) % 2
        let w := w.1.storeAs who a (leBytes flow 2 ++ leBytes frame.length 2
          ++ leBytes (phase + 2 * (Decidable.decide (n < frame.length)).toNat) 1 ++ leBytes 0 3)
        if !w.2 then w.1
        else
          let s := (w.1.storeAs who (a + 16) (leBytes s.deviceTime 12)).1
          (s.fset F.schQptr_tail 4 0 q (i + 1)).signalCq q

/-- A frame arrives at a port and goes to the consumer of its flow context, else as the static table says. Messages of a
frame for the gateway and samples of one for an input stream are commands of their own. -/
def execEthFrameReceive (port : Nat) (frame : List Byte) (s : State) : Host.Outcome State Fault Refusal :=
  if 16 ≤ port || !s.portUpEth port || !s.fon F.netPortCfg_enable (portDie port) 0 (port % 8)
      || s.logicFrozen (portDie port)
      || frame.length < 64 || 9216 < frame.length then .next s
  else
    match s.flowOf port frame with
    | none =>
      let r := Config.staticRoute port frame
      if r.1 < 24 then .next (s.enqueueFrame r.1 { tc := r.2 % 8, flow := none, bytes := frame })
      else .next (s.fadd F.netPortCounts_unknown (portDie port) 0 (port % 8) 1)
    | some n =>
      let kind := s.flow F.netFlow_kind n
      if kind = 1 then .next (s.receiveEntry n (40960 + s.flow F.netFlow_target n) frame)
      else if kind = 4 then
        .next (s.enqueueFrame (s.flow F.netFlow_port n) { tc := s.flow F.netFlow_tc n, flow := some n, bytes := frame })
      else .next (s.send (.ethernet (if kind = 2 then 16 else 17 + s.flow F.netFlow_target n / 48 % 2) frame))

/-- Bits [2:0] of the nanosecond field of a launch time are ignored. -/
def launchCode (c : Nat) : Nat := setBits c 16 3 0

/-- The entry at the head of an Ethernet transmit queue is taken; its frame is read for the queue's instance. -/
def State.transmitEntry (s : State) (q : Nat) (e : List Byte) : State :=
  let i := s.qHead q
  let n := leAt e 0 2
  let len := leAt e 2 2
  let a := leAt e 8 8
  let want := bit (leAt e 4 1) 1
  let s := s.fset F.schQptr_head 4 0 q (i + 1)
  let entry := some (q, i, want)
  if s.flow F.netFlow_enable n ≠ 1 ∨ s.flow F.netFlow_kind n ≠ 4 ∨ len < 60 ∨ 9216 < len
      ∨ s.flow F.netFlow_max_len n < len then s.finishEntry entry 4
  else
    let who : Initiator := .service (some (s.qVi q))
    let vs := s.versionsOf a len
    if s.checkAccess who false a len == .pass && !vs.all (fun v => some v == vs.head?) then
      let p := s.flow F.netFlow_port n
      let s := if p < 16 then s.fadd F.netPortCounts_torn (portDie p) 0 (p % 8) 1 else s
      (s.raiseRec { recOf E.netTorn 6 0x16 (p % 16) with vi := some (s.qVi q), addr := some a, detail := q }).finishEntry
        entry 3
    else
      match s.fetchAs who a len with
      | (s, none) => s.finishEntry entry 4
      | (s, some bs) =>
        s.enqueueFrame (s.flow F.netFlow_port n) {
          tc := s.flow F.netFlow_tc n, flow := some n, bytes := bs
          launch := timeOfCode (launchCode (leAt e 16 12)), entry }

/-- Whether a queue is one of the Ethernet queues. -/
def isEthernet (q : Nat) : Bool := 40960 ≤ q && q < 57344

def execEthTransmit (queue : Nat) (s : State) : Host.Outcome State Fault Refusal :=
  if !isEthernet queue || s.fget F.netQcfg_dir 6 0 (queue - 40960) != 0 then .next s
  else .next (s.withEntry queue 64 (fun s e => s.transmitEntry queue e))

/-! ### Device time (R518 to R520) -/

/-- The states of a domain. -/
def tdOff : Nat := 0
def tdListening : Nat := 1
def tdLocked : Nat := 2
def tdLost : Nat := 3

def State.domState (s : State) (d : Nat) : Nat := s.fget F.timDom_state 4 0 d
def State.setDomState (s : State) (d st : Nat) : State := s.fset F.timDom_state 4 0 d st

/-- TIM_RATE's signed rate in parts per 10^12, and a new one. -/
def State.rateOf (s : State) : Int := signed (s.fget F.timRate_rate 4 0 0) 40
def State.setRate (s : State) (r : Int) : State := s.fset F.timRate_rate 4 0 0 (unsigned r 40)

/-- A number held within a bound. -/
def clampTo (lo hi v : Int) : Int := max lo (min hi v)

/-- Whether a domain drives the rate. -/
def State.drives (s : State) (d : Nat) : Bool :=
  s.fon F.timRate_synchronised 4 0 0 && s.fget F.timRate_driving 4 0 0 == d

/-- A domain drives from now on. -/
def State.setDriver (s : State) (d : Nat) : State :=
  (s.fset F.timRate_driving 4 0 0 d).fset F.timRate_synchronised 4 0 0 1

/-- The first lock after a cold start: device time steps once by the offset in ns, and what waits is judged anew. -/
def State.firstLock (s : State) (d : Nat) (offset : Int) : State :=
  let fine := ((s.devFine : Int) + offset * 65536 * 3000000000000).toNat
  let s := { s with devFine := fine, net := { s.net with anyLock := true } }
  let s := (s.setDriver d).fset F.timRate_stepped 4 0 0 1
  let s := s.raiseRec { recOf E.timStep 4 0x10 0xFFFF with detail := d }
  (List.range 16).foldl (fun s p => ((s.stepGates p).syncGates p).runPort p) s

/-- A domain takes over: its rate stays near the rate in force until its offset is small. -/
def State.switchTo (s : State) (d : Nat) : State :=
  let s := { s with net := { s.net with limitBase := some s.rateOf } }
  (s.setDriver d).raiseRec { recOf E.timSwitch 4 0x10 0xFFFF with detail := d }

/-- A domain locks: the first ever steps device time; a later one drives only where none does. -/
def State.lockDomain (s : State) (d : Nat) (offset : Int) : State :=
  let s := s.setDomState d tdLocked
  if !s.net.anyLock then s.firstLock d offset
  else if s.fon F.timRate_synchronised 4 0 0 then s
  else s.switchTo d

/-- A domain is LOST; where it drove, the LOCKED domain of the lowest priority value takes over. -/
def State.loseDomain (s : State) (d : Nat) : State :=
  let drove := s.drives d
  let s := s.setDomState d tdLost
  let s := { s with net := { s.net with good := storeDrop s.net.good d } }
  if !drove then s
  else
    let prio := fun (k : Nat) => s.fget F.timDom_priority 4 0 k
    let locked := (List.range 4).filter (fun k => s.domState k == tdLocked)
    match locked.find? (fun k => locked.all (fun j => prio k < prio j || (prio k == prio j && k ≤ j))) with
    | none => s.fset F.timRate_synchronised 4 0 0 0
    | some k => s.switchTo k

/-- The servo of the driving domain changes the rate within ±500 ppm, and after a switch within ±10 ppm of the rate in
force until the offset is within ±100 ns. -/
def State.steer' (s : State) (offset servo : Int) : State :=
  let s := if -100 ≤ offset ∧ offset ≤ 100 then { s with net := { s.net with limitBase := none } } else s
  let r := match s.net.limitBase with
    | none => servo
    | some b => clampTo (b - 10000000) (b + 10000000) servo
  s.setRate (clampTo (-500000000) 500000000 r)

/-- A Sync of a domain: the grandmaster, the estimated offset in ns (domain time less device time) and rate in ppb, and
the rate that the servo asks for in parts per 10^12. -/
def execPtpSync (domain gm : Nat) (offset rate servo : Int) (s : State) : Host.Outcome State Fault Refusal :=
  if 4 ≤ domain || !s.fon F.timDom_enable 4 0 domain then .next s
  else
    let changed := match storeFind s.net.gms domain with
      | none => false
      | some g => g != gm
    let s := { s with net := { s.net with gms := storePut s.net.gms domain gm } }
    let s := s.fset F.timDomEst_offset_ns 4 0 domain (unsigned offset 32)
    let s := s.fset F.timDomEst_rate_ppb 4 0 domain (unsigned rate 32)
    if changed && (s.domState domain == tdListening || s.domState domain == tdLocked) then .next (s.loseDomain domain)
    else
      let s := if s.domState domain = tdLocked then s else s.setDomState domain tdListening
      let near := -1000 ≤ offset ∧ offset ≤ 1000
      let n := if near then storeGet 0 s.net.good domain + 1 else 0
      let s := { s with net := { s.net with good := storePut s.net.good domain (min n 8) } }
      let s := if s.domState domain = tdListening ∧ 8 ≤ n then s.lockDomain domain offset else s
      .next (if s.drives domain then s.steer' offset servo else s)

/-- Three Sync intervals of a domain passed without one. -/
def execSyncReceiptTimeout (domain : Nat) (s : State) : Host.Outcome State Fault Refusal :=
  if domain < 4 ∧ (s.domState domain = tdListening ∨ s.domState domain = tdLocked) then .next (s.loseDomain domain)
  else .next s

/-- A read of TIM_NOW_A latches TIM_NOW_B. -/
def State.readTime (s : State) (who : Initiator) : State :=
  if !who.reachesRegisters then s.refuse E.addressRefused who (fldPlace F.timNowA_low 4 0)
  else
    let t := s.deviceTime
    (s.fset F.timNowB_high 4 0 0 (t / 2 ^ 64)).answer (t % 2 ^ 64)

def execTimeRead (who : Initiator) (s : State) : Host.Outcome State Fault Refusal := .next (s.readTime who)

/-! ### Ulham lanes (R521 to R524) -/

def ulDark : Nat := 0
def ulLocking : Nat := 1
def ulAligning : Nat := 2
def ulUp : Nat := 3
def ulSending : Nat := 4

def State.laneState (s : State) (die lane : Nat) : Nat := s.fget F.ulkLane_state die 0 lane
def State.setLaneState (s : State) (die lane st : Nat) : State := s.fset F.ulkLane_state die 0 lane st
def laneKey (die lane : Nat) : Nat := (die - 6) * 16 + lane
def State.ulkLane (s : State) (die lane : Nat) : UlkLane := storeGet {} s.net.lanes (laneKey die lane)
def State.setUlkLane (s : State) (die lane : Nat) (x : UlkLane) : State :=
  { s with net := { s.net with lanes := storePut s.net.lanes (laneKey die lane) x } }

/-- A camera lane of an O-die, and one of its transmit lanes. -/
def isCamLane (die lane : Nat) : Bool := (die == 6 || die == 7) && lane < 16
def isSendLane (die lane : Nat) : Bool := (die == 6 || die == 7) && 16 ≤ lane && lane < 22

/-- The stream of a camera lane is ACTIVE while the lane is UP, else DOWN. -/
def State.laneStream (s : State) (die lane st : Nat) : State :=
  if s.fget F.ippSstat_state die 0 lane = 0 then s else s.fset F.ippSstat_state die 0 lane st

/-- ULK_LANE enable. -/
def execUlkLaneEnable (who : Initiator) (die lane : Nat) (enable : Bool) (s : State) : Host.Outcome State Fault Refusal :=
  if !netRight who || !(isCamLane die lane || isSendLane die lane) then
    .next (s.dropWrite who (fldPlace F.ulkLane_enable die 0))
  else
    let was := s.fon F.ulkLane_enable die 0 lane
    let s := (s.fset F.ulkLane_enable die 0 lane enable.toNat).answerOk
    if was = enable then .next s
    else if isSendLane die lane then .next (s.setSending die lane)
    else .next ((s.setUlkLane die lane {}).setLaneState die lane ulDark)

/-- An enabled camera lane moves from one state to the next. -/
def State.laneMoves (s : State) (die lane from' next : Nat) : State :=
  if isCamLane die lane && s.fon F.ulkLane_enable die 0 lane && s.laneState die lane == from'
      && !s.islandFrozen die 1 then
    let s := s.setLaneState die lane next
    if next = ulUp then s.laneStream die lane 1 else s
  else s

def execUlkLightDetected (die lane : Nat) (s : State) : Host.Outcome State Fault Refusal :=
  .next (s.laneMoves die lane ulDark ulLocking)

def execUlkLocked (die lane : Nat) (s : State) : Host.Outcome State Fault Refusal :=
  .next (s.laneMoves die lane ulLocking ulAligning)

def execUlkAligned (die lane : Nat) (s : State) : Host.Outcome State Fault Refusal :=
  .next (s.laneMoves die lane ulAligning ulUp)

/-- A ULK_CRC record, at most one in 10 ms for a lane. -/
def State.noteUlkCrc (s : State) (die lane : Nat) : State :=
  let x := s.ulkLane die lane
  let quiet := match x.crcTime with
    | none => false
    | some t => s.periods < t + 384000
  if quiet then s
  else (s.setUlkLane die lane { x with crcTime := some s.periods }).raiseSide
    { recOf E.ulkCrc die 0x17 lane with detail := laneKey die lane }

/-- A packet whose CRC fails is counted. -/
def State.badPacket (s : State) (die lane : Nat) : State :=
  (s.fadd F.ulkLaneCounts_crc die 0 lane 1).noteUlkCrc die lane

/-- Lines are lost. -/
def State.loseLines (s : State) (die lane : Nat) (lines : List Nat) : State :=
  if lines.isEmpty then s
  else
    let x := s.ulkLane die lane
    ((s.setUlkLane die lane { x with lost := x.lost ++ lines }).fadd F.ulkLaneCounts_lost_lines die 0 lane
      lines.length).noteUlkCrc die lane

/-- The blocks of the block rows that lost lines damage (R273). -/
def UlkLane.damage (x : UlkLane) : List Nat :=
  let n := (x.width + 15) / 16
  ((x.lost.map (fun l => (List.range n).map (fun i => l / 16 * n + i))).flatten).eraseDups

/-- The open picture of a lane closes: the lines that are missing are lost, and its sample goes to the lane's stream. -/
def State.closePicture (s : State) (die lane : Nat) : Host.Outcome State Fault Refusal :=
  let x := s.ulkLane die lane
  if !x.isOpen then .next s
  else
    let s := s.loseLines die lane ((List.range x.height).filter (x.nextLine ≤ ·))
    let x := s.ulkLane die lane
    let data := ((List.range x.height).map (fun l => storeGet [] x.lines l)).flatten
    let s := (s.setUlkLane die lane { crcTime := x.crcTime }).fwrap F.ulkLaneCounts_pictures die 0 lane 1
    s.ingestSample ((die - 6) * 48 + lane) x.capture x.damage data

/-- What follows the closing of a picture, where that answers a next state. -/
def thenDo (r : Host.Outcome State Fault Refusal) (f : State → Host.Outcome State Fault Refusal) :
    Host.Outcome State Fault Refusal :=
  match r with
  | .next s => f s
  | .fault x => .fault x
  | .refused x => .refused x

/-- Lock is lost: the lines that remain of an open picture are lost. -/
def execUlkLockLost (die lane : Nat) (s : State) : Host.Outcome State Fault Refusal :=
  if !(isCamLane die lane && s.laneState die lane == ulUp) then .next s
  else
    let s := s.fadd F.ulkLaneCounts_lock_losses die 0 lane 1
    let s := (s.setLaneState die lane ulLocking).raiseRec { recOf E.ulkLockLost die 0x17 lane with detail := laneKey die lane }
    thenDo (s.closePicture die lane) (fun s => .next (s.laneStream die lane 2))

/-- Whether a packet of a lane that is UP has a good CRC-32C. -/
def packetGood (body : List Byte) : Bool :=
  16 ≤ body.length + 4 && leAt body 6 2 + 12 == body.length
    && leAt body (body.length - 4) 4 == crc32c (body.take (body.length - 4))

/-- Whether a lane takes packets: it is UP, and the safety slice that holds it is not frozen (R41, R422). -/
def State.laneTakes (s : State) (die lane : Nat) : Bool :=
  isCamLane die lane && s.laneState die lane == ulUp && !s.islandFrozen die 1

/-- A start of picture: an open one closes. After a bad one packets are discarded until the next. -/
def execUlkSop (die lane : Nat) (body : List Byte) (s : State) : Host.Outcome State Fault Refusal :=
  if !s.laneTakes die lane then .next s
  else
    let t := s.deviceTime
    thenDo (s.closePicture die lane) (fun s =>
      if !packetGood body then .next (s.badPacket die lane)
      else
        let x := s.ulkLane die lane
        .next (s.setUlkLane die lane { crcTime := x.crcTime, isOpen := true, capture := t
                                       width := leAt body 8 2, height := leAt body 10 2, format := leAt body 12 1 }))

/-- A line, or a segment of one; a gap in the numbers loses the lines between. -/
def execUlkLine (die lane : Nat) (body : List Byte) (s : State) : Host.Outcome State Fault Refusal :=
  let x := s.ulkLane die lane
  if !(s.laneTakes die lane && x.isOpen) then .next s
  else if !packetGood body then .next (s.badPacket die lane)
  else
    let l := leAt body 4 2
    let seg := leAt body 1 1 % 16
    let last := bit (leAt body 1 1) 4
    if x.height ≤ l ∨ l < x.nextLine then .next s
    else
      let s := s.loseLines die lane ((List.range (l - x.nextLine)).map (· + x.nextLine))
      let x := s.ulkLane die lane
      let had := if seg = 0 then [] else storeGet [] x.lines l
      let lines := storePut x.lines l (had ++ (body.drop 8).take (leAt body 6 2))
      let s := s.setUlkLane die lane { x with lines, nextLine := if last then l + 1 else l }
      if last = true ∧ l + 1 = x.height then s.closePicture die lane else .next s

/-- The end of a picture. -/
def execUlkEop (die lane : Nat) (body : List Byte) (s : State) : Host.Outcome State Fault Refusal :=
  if !(s.laneTakes die lane && (s.ulkLane die lane).isOpen) then .next s
  else if !packetGood body then .next (s.badPacket die lane)
  else s.closePicture die lane

end Sys2Proof.Machine
end

