-- ==== Sys2Proof/Machine/Gateway.lean ====
section
/-! DEFINITION. The events and commands of the signal gateway: messages that arrive in frames, entries of IN queues and
the enable of a route context (R490 to R499). -/

namespace Sys2Proof.Machine

/-- A message of a frame or a queue arrives at the gateway. -/
def execGwIngressMessage (isQueue : Bool) (flow bus format identifier sdt vcid flags af : Nat) (payload : List Byte)
    (s : State) : Host.Outcome State Fault Refusal :=
  if 2048 < payload.length ∨ (format = 4 ∧ payload.length = 0) ∨ s.logicFrozen 6 = true then .next s
  else
    let xl := format == 2
    .next (s.ingress isQueue flow { ctx := 0, identifier, format, flags, bus, time := s.deviceTime
                                    af := if xl then af else 0, sdt := if xl then sdt else 0
                                    vcid := if xl then vcid else 0, payload })

/-- Whether a context is an enabled INGRESS context whose source is gateway queue n. -/
def State.sourcedFrom (s : State) (ctx n : Nat) : Bool :=
  s.gw F.gwCtx_kind ctx == 1 && s.gw F.gwCtx_enable ctx == 1 && s.gw F.gwCtx_queue ctx == 1
    && s.gw F.gwCtx_flow ctx == n

/-- An IN entry's message. -/
def State.inNotice (s : State) (ctx : Nat) (payload : List Byte) : Notice :=
  { ctx, identifier := s.gw F.gwCtxKey_identifier ctx, format := s.gw F.gwCtx_format ctx, flags := 0
    bus := s.gw F.gwCtx_bus ctx, time := s.deviceTime, sdt := s.gw F.gwCtxKey_sdt ctx
    vcid := s.gw F.gwCtxKey_vcid ctx, payload }

/-- An IN entry that is dropped and counted. -/
def State.dropIn (s : State) : State := s.fadd F.gwEvents_ingress_drops 6 0 0 1

/-- The gateway reads the next entry of an IN queue. An indirect payload is read for the queue's instance, and steered; an
entry whose payload is refused or reads as poison is dropped. -/
def execGwInEntry (queue : Nat) (s : State) : Host.Outcome State Fault Refusal :=
  let n := queue - 57344
  if queue < 57344 || 61440 ≤ queue || s.fget F.gwQcfg_dir 6 0 n != 0 then .next s
  else
    .next (s.withEntry queue 128 (fun t e =>
      let ctx := leAt e 0 2
      let len := leAt e 2 2
      let t := t.fset F.schQptr_head 4 0 queue (s.qHead queue + 1)
      if !t.sourcedFrom ctx n then t.dropIn
      else if !bit (leAt e 4 1) 0 then
        if 96 < len then t.dropIn else t.postNotice ctx (t.inNotice ctx (byteSlice e 32 len))
      else if 2048 < len then t.dropIn
      else if len = 0 then t.postNotice ctx (t.inNotice ctx [])
      else
        match t.fetchAs (.service (some (t.qVi queue))) (leAt e 8 8) len with
        | (t, none) => t.dropIn
        | (t, some bs) => t.postNotice ctx (t.inNotice ctx bs)))

/-- The enable of a route context whose toggle is set; a change sets e10 on every sequencer that serves the context's
set (R499). -/
def execGwContextEnable (who : Initiator) (context : Nat) (enable : Bool) (s : State) :
    Host.Outcome State Fault Refusal :=
  if !tsqRight who || s.gw F.gwCtx_toggle context != 1 then
    .next (s.dropWrite who (fldPlace F.gwCtx_enable 6 0))
  else if s.gw F.gwCtx_enable context = enable.toNat then .next s.answerOk
  else
    let s := s.fset F.gwCtx_enable 6 0 context enable.toNat
    let set := s.gw F.gwCtx_set context
    let serving := (List.range 32).filter (fun n => (s.setsOf n).contains set)
    .next (serving.foldl (fun s n =>
      let x := s.tahrSeq n
      s.setTahrSeq n { x with events := setBit x.events 10 true }) s).answerOk

end Sys2Proof.Machine
end

