-- ==== Sys2Proof/Machine/Restart.lean ====
section
/-! DEFINITION. Rail losses, thermal trips and warm restarts, and the commands of the loader over the image banks (R19,
R74, R75, R80 to R82, R306, R403, R435). -/

namespace Sys2Proof.Machine

/-! ### Rails (R16, R19) -/

/-- A rail's bit among those in tolerance. -/
def Rail.index : Rail → Nat
  | .vinLogic => 0
  | .vinSafe => 1
  | .vmemCore => 2
  | .vmemIo => 3
  | .vmemAux => 4
  | .vopt => 5

/-- Whether a register is that of a camera lane of the safety slices: cam0 to cam3 and cam16 to cam19 (R16). -/
def sliceLaneReg (addr : Nat) : Bool :=
  match regPlace (addr % bankStride) with
  | none => false
  | some (d, off) =>
    6 ≤ d && (off == F.ulkLane_enable.off || off == F.ulkLaneCounts_pictures.off) && addr / bankStride < 4

/-- Whether a register lies in a block that VIN_SAFE feeds, or is one of a fabric port, or of a chamois engine. -/
def safeReg (addr : Nat) : Bool :=
  (regBase 8 ≤ addr % bankStride && addr % bankStride < regBase 9) ||
  match regPlace (addr % bankStride) with
  | none => false
  | some (d, off) =>
    let b := regBlock d off
    b == 0x00 || b == 0x1B || sliceLaneReg addr || (d == 4 && (b == 0x08 || b == 0x0A || b == 0x0E || b == 0x0F || b == 0x10 || b == 0x11))

/-- Whether a byte outlives the loss of the logic: flash and chamois SRAM. -/
def safeByte (a : Nat) : Bool := isFlash a || placeOf a == .chamois

/-- The engines that are out until the next cold start, with their states. -/
def State.lastingOut (s : State) : List (Nat × Nat) :=
  (List.range 64).filterMap (fun te =>
    if s.gftState te = gfRetired ∨ s.gftState te = gfAbsent then some (te, s.gftState te) else none)

/-- What golden tests keep of an engine over a restart: its events, and of an engine that stays out its vector unit's
absence (R318). -/
def keepGft (out : List (Nat × Nat)) (te : Nat) (x : GftEngine) : GftEngine :=
  { events := x.events, unitOut := x.unitOut && out.any (fun o => o.1 == te) }

/-- The engines after a restart: those that are out stay out, the others await their test. Before the image is
loaded there is no capability table to follow. -/
def State.restoreOut (s : State) (out : List (Nat × Nat)) : State :=
  let s := out.foldl (fun s (o : Nat × Nat) => (s.fset F.gftEng_state 4 0 o.1 o.2).setTeStat o.1 tsOut) s
  if s.boot.loaded then
    ((List.range 64).foldl (fun s te => s.setUsable te (!(out.any (fun o => o.1 == te)))) s).countUnits
  else s

/-- Everything that VIN_LOGIC feeds has lost its state: dies C0 to C3 and G, S island 6, and the O-dies outside the
safety slice. Memory is untrained, and firmware is gone. -/
def State.loseLogic (s : State) : State :=
  let out := s.lastingOut
  let clean : State := {}
  let s := { s with
    regs := s.regs.filter (fun p => safeReg p.1), mem := s.mem.filter (fun c => safeByte c.1)
    poisonWords := [], poisonLines := [], softWords := [], softLines := [], hardWords := [], hardLines := []
    secureLines := [], opens := [], sched := {}, rings := [], cache := {}, moves := [], vis := {}
    engines := s.engines.filter (fun p => chamoisTe ≤ p.1)
    signals := [], saves := [], ipp := {}, tahr := {}, gateway := {}, display := {}
    pairs := s.pairs.filter (fun p => 4 ≤ p.1)
    bridge := { s.bridge with locks := [], held := [], backoffs := [] }
    gft := s.gft.map (fun (p : Nat × GftEngine) => (p.1, keepGft out p.1 p.2))
    net := { s.net with ports := [], keys := [], lanes := s.net.lanes.filter (fun p => p.1 % 16 < 4) }
    power := { clean.power with
      trips := s.power.trips, tripped := s.power.tripped, tripCool := s.power.tripCool
      tokens := s.power.tokens.filter (fun p => p.1 == 32), released := s.power.released.filter (fun p => p.1 == 4)
      frozen := s.power.frozen.filter (fun k => 96 ≤ k && k % 16 == 1) }
    boot := { s.boot with
      memTrained := false, stackMask := 0, goldenWritten := 0, islandsTested := false, computeDone := false, stewardBooted := false } }
  (s.dropFirmware s.fw.handoffSeq).restoreOut out

/-- LPDDR6 has lost its supply: its content and its training are gone (R16, R75). -/
def State.loseMemory (s : State) : State :=
  let s := { s with
    mem := s.mem.filter (fun c => placeOf c.1 != .lpddr)
    poisonLines := [], softLines := [], hardLines := [], secureLines := []
    boot := { s.boot with memTrained := false, stackMask := 0, goldenWritten := 0 } }
  (List.range 8).foldl (fun s n => s.fset F.memStatus_trained (n / 2) (n % 2) 0 0) s

/-- The optical drivers and receivers outside the safety slices have lost their supply (R16): every Ethernet port, Ulham
lane and host-port link that they carry is dark. -/
def State.loseOptics (s : State) : State :=
  let s := (List.range 16).foldl (fun s k => s.fset F.netPortCounts_link_up (portDie k) 0 (k % 8) 0) s
  let s := [6, 7].foldl (fun s d => (List.range 22).foldl (fun s l =>
    if l < 4 then s else s.fset F.ulkLane_state d 0 l 0) s) s
  let s := [0, 1].foldl (fun s l => s.fset F.hpLinkN_dl_up 7 l 0 0) s
  { s with net := { s.net with lanes := s.net.lanes.filter (fun p => p.1 % 16 < 4) } }

/-- The device stops (R19, R54): nothing runs on but the status frames of a device whose VIN_SAFE stands, until a cold
start. -/
def State.stopDevice (s : State) : State :=
  let s := s.loseLogic
  { s with boot := { s.boot with stopped := true, restartTime := none, wdogStart := none, keyGenerating := false }
           net := { s.net with lanes := [] }
           safety := { s.safety with lanes := [] } }

/-- The oscillator failed (R54): the device stops as it does without VIN_SAFE, but no supply is lost, and memory keeps what
it holds. -/
def State.haltDevice (s : State) : State :=
  { s.stopDevice with
    mem := s.mem, poisonWords := s.poisonWords, poisonLines := s.poisonLines, softWords := s.softWords
    softLines := s.softLines, hardWords := s.hardWords, hardLines := s.hardLines, secureLines := s.secureLines }

/-- The oscillator deviates from the relaxation reference, or gives no edge. -/
def execOscFail (s : State) : Host.Outcome State Fault Refusal :=
  let s := s.newEvent.raiseRec (recOf E.oscFail 4 0x08 0xFFFF)
  let s := s.fset F.safStatus_time_valid 4 0 0 0
  .next (s.enterSafe rsTimeInvalid false).haltDevice

/-- The holds of a die that lost its supply end with a notice to the vault (R403). -/
def State.dropHolds (s : State) : State :=
  ((List.range 49).filter s.blockHeld).foldl (fun s b => (s.setHeld b false).secNotice b 3 0) s

/-- A rail leaves tolerance: the safe state; VIN_SAFE stops the device until a cold start. -/
def execRailLoss (rail : Rail) (s : State) : Host.Outcome State Fault Refusal :=
  if !(s.boot.powered && bit s.boot.railsOk rail.index) then .next s
  else
    let ok := setBit s.boot.railsOk rail.index false
    let s := { s.newEvent with boot := { s.boot with railsOk := ok, powered := ok != 0 } }
    if rail = .vinSafe then .next (s.enterSafe rsRailLoss false).stopDevice
    else
      let s := { s with boot := { s.boot with railLost := true } }.enterSafe rsRailLoss true
      .next (if rail = .vinLogic then s.dropHolds.loseLogic
        else if rail = .vopt then s.loseOptics else s.loseMemory)

def execRailRestored (rail : Rail) (s : State) : Host.Outcome State Fault Refusal :=
  if bit s.boot.railsOk rail.index then .next s
  else .next { s with boot := { s.boot with railsOk := setBit s.boot.railsOk rail.index true, railBack := s.periods } }

/-- A warm restart is counted. -/
def State.countWarm (s : State) : State :=
  (s.fset F.cfgBootStatus_warm 4 0 0 1).fadd F.cfgBootStatus_warm_count 4 0 0 1

/-- Two milliseconds after the last rail returned, the logic restarts; the VIN_SAFE functions went on (R74). A start that was
under way goes on to its step 9 (R73); the safe state ends where the rail loss was its cause. DESIGN CHOICE: safety_us
keeps the time of the step 9 that stands. -/
def execLogicWarmRestart (s : State) : Host.Outcome State Fault Refusal :=
  if s.boot.railsOk ≠ 0x3F ∨ s.boot.stopped = true ∨ s.boot.loaded = false ∨ s.boot.railLost = false
      ∨ s.periods < s.boot.railBack + 76800 then .next s
  else
    let s := s.dropHolds.loseLogic
    let s := { s with boot := { s.boot with railLost := false } }
    let s := (List.range 4).foldl (fun s p => if s.pairSt p = prRetired then s else s.setPairSt p prTesting) s
    let s := (s.applyLogic s.boot.imageBank).countWarm
    let p := s.payloadOf s.boot.imageBank rtSafety
    let s := (s.fset F.gftCfg_frame_period 4 0 0 (leAt p 0 4)).fset F.gftCfg_frame_phase 4 0 0 (leAt p 4 4)
    let s := (s.fset F.gftWindow_gt_open 4 0 0 (leAt p 8 4)).fset F.gftWindow_confirm_offset 4 0 0 (leAt p 12 4)
    let s := (List.range 4).foldl (fun s d => s.fset F.cgConfig_strict_classes d 0 0 (leAt p 16 1)) s
    if s.safety.starting then .next (s.setPhase phSafetyUp)
    else if s.safety.deviceReason = rsRailLoss then .next (s.setPhase phSafetyInService).leaveSafe
    else .next (s.setPhase phSafetyInService)

/-! ### Whole warm restart (R74, R75, R306, R562) -/

/-- Escalation copies every S2 to S4 record that is not done into the health log (R562). -/
def State.copyRecords (s : State) : State :=
  let rs := ((List.range s.occupancy).filterMap (fun i => s.slotSeq (s.err.tailSeq + i))).filter
    (fun x => !x.done && 2 ≤ x.record.sev)
  { s with err := { s.err with hlogQueue := s.err.hlogQueue ++ (rs.map RingSlot.record).filter (fun r =>
      !s.err.hlogQueue.contains r) } }

/-- The restarts of the last 60 s. -/
def State.recentRestarts (s : State) : List Nat := s.safety.restartTimes.filter (fun t => s.periods < t + sixtySeconds)

/-- Whether a register outlives a whole warm restart: fabric ports, error records, time, the status channels, the pairs,
and of the others those that say so: the capability table, the start's status, the stacks and the safe state. -/
def lastingReg (addr : Nat) : Bool :=
  match regPlace (addr % bankStride) with
  | none => false
  | some (d, off) =>
    let b := regBlock d off
    b == 0x00 || b == 0x07 || b == 0x1B || (d == 4 && (b == 0x0F || b == 0x10
      || (0x100200 ≤ off && off < 0x100218)
      || (0x380000 ≤ off && off < 0x380110) || off == F.safStatus_safe_state.off || off == F.safRestarts_recent.off))

/-- What is left of the state at the restart point of a whole warm restart. -/
def State.warmBase (s : State) : State :=
  let clean : State := {}
  let out := s.lastingOut
  let t := { clean with
    regs := s.regs.filter (fun p => lastingReg p.1), mem := s.mem.filter (fun c => isFlash c.1)
    resp := s.resp, sent := s.sent, freeCtr := s.freeCtr, pending := s.pending, periods := s.periods, devFine := s.devFine
    bridge := { s.bridge with locks := [], held := [], backoffs := [] }
    err := s.err, flash := s.flash, boot := { s.boot with
      goldenWritten := 0, islandsTested := false, stewardBooted := false, wdogStart := none, restartTime := none
      bankFailedLate := s.boot.bankFailedLate }
    gft := s.gft.map (fun (p : Nat × GftEngine) => (p.1, keepGft out p.1 p.2))
    power := { clean.power with trips := s.power.trips }
    net := { clean.net with anyLock := s.net.anyLock, limitBase := s.net.limitBase }
    safety := { clean.safety with deviceReason := s.safety.deviceReason, restartTimes := s.recentRestarts ++ [s.periods]
                                  pairTimes := s.safety.pairTimes, chuRetired := s.safety.chuRetired } }
  (t.dropFirmware s.fw.handoffSeq).restoreOut out

/-- The whole device restarts from the bank it runs, once its restart point has come; a fourth restart within 60 s is
withheld. Step 1 fixes the lifecycle state first (R58, R415): a unit that was retired goes to RETIRED_HOLD. DEDUCED: a
bank that no longer verifies fails as at a cold start (R69), and leads to RECOVERY, because the restart does not change
the bank. -/
def execWholeWarmRestart (s : State) : Host.Outcome State Fault Refusal :=
  match s.boot.restartTime with
  | none => .next s
  | some t =>
    if s.periods < t ∨ s.boot.stopped = true ∨ s.safety.stays = true ∨ s.boot.loaded = false then .next s
    else if 3 ≤ s.recentRestarts.length then
      let s := { s.newEvent with safety := { s.safety with stays := true, deviceReason := rsRestartLimit }
                                 boot := { s.boot with restartTime := none } }
      let s := s.raiseRec (recOf E.restartLimit 4 0x08 0xFFFF)
      .next ((s.fset F.safStatus_safe_state 4 0 0 1).fset F.safStatus_reason 4 0 0 rsRestartLimit)
    else
      let s := if s.safety.deviceReason = rsEscalation then s.copyRecords else s
      let b := s.boot.imageBank
      let s := (s.warmBase.unhandle).countWarm
      let s := s.fset F.safRestarts_recent 4 0 0 s.safety.restartTimes.length
      let s := s.fset F.errStatus_escalated 4 0 0 0
      let s := s.setCaps F.cfgCapsId_lifecycle s.flash.lifecycle capsLifecycle
      if s.flash.lifecycle = lcRetired then .next s.enterRetired
      else if s.bankFailure b ≠ 0 then .next (s.failBank b (s.bankFailure b)).enterRecovery
      else .next (s.applyBank b)

/-! ### Thermal trips (R435) -/

/-- The 130 °C comparator of a die: the safe state, and every regulator that VIN_LOGIC feeds is off after the scrub of
R403. A second trip within 10 minutes needs a cold start. -/
def execThermalTrip (die : Nat) (s : State) : Host.Outcome State Fault Refusal :=
  if s.power.tripped then .next s
  else
    let s := s.newEvent.raiseRec { recOf E.thermalTrip 4 0x01 0xFFFF with die, detail := die }
    let s := s.enterSafe rsThermalTrip false
    let s := { s with power := { s.power with
      tripped := true, tripCool := none
      trips := s.power.trips.filter (fun t => s.periods < t + tenMinutes) ++ [s.periods] } }
    .next (((List.range 49).filter s.blockHeld).foldl State.forceHold s).loseLogic

/-- Every sensor has read 95 °C or less for 1 s: a whole warm restart follows. -/
def execTripRecovery (s : State) : Host.Outcome State Fault Refusal :=
  match s.power.tripCool with
  | none => .next s
  | some t =>
    if s.power.tripped = false ∨ s.periods < t + 38400000 ∨ 2 ≤ s.power.trips.length then .next s
    else .next { s with power := { s.power with tripped := false, tripCool := none }
                        boot := { s.boot with restartTime := some s.periods } }

/-! ### CFG_BOOT_CTRL and CFG_FLASH_CMD (R80 to R82) -/

/-- A refused command of CFG_BOOT_CTRL. -/
def State.bootRefused (s : State) : State := (s.fset F.cfgBootStatus_last_fail 4 0 0 bfRefused).answerOk

def State.bootCtrl (s : State) (who : Initiator) (f : State → State) : State :=
  if s.loaderRight who then f s else s.dropWrite who (fldPlace F.cfgBootCtrl_commit 4 0)

/-- A TRIAL bank becomes VALID, and the floor rises. -/
def execBootCommit (who : Initiator) (s : State) : Host.Outcome State Fault Refusal :=
  .next (s.bootCtrl who (fun s =>
    let b := s.boot.imageBank
    match s.bankEntry with
    | none => s.bootRefused
    | some e =>
      if e.state b ≠ .trial ∨ s.boot.loaded = false ∨ s.boot.bankFailedLate = true then s.bootRefused
      else
        let s := s.writeEntry { e.setState b .valid with attempt := false }
        let s := { s with flash := { s.flash with floor := max s.flash.floor s.boot.imageFloor } }
        (s.fset F.cfgBootStatus_trial 4 0 0 0).answerOk))

/-- The other bank becomes the preferred TRIAL bank. -/
def execBootSwitch (who : Initiator) (s : State) : Host.Outcome State Fault Refusal :=
  .next (s.bootCtrl who (fun s =>
    let b := 1 - s.boot.imageBank
    match s.bankEntry with
    | none => s.bootRefused
    | some e =>
      if e.state b = .empty ∨ e.state b = .failed ∨ s.boot.loaded = false then s.bootRefused
      else (s.writeEntry { e.setState b .trial with attempt := false, preferB := b == 1 }).answerOk))

/-- A whole warm restart is requested; in RETIRED_HOLD and in RECOVERY there is nothing that it could restart. -/
def execBootRestart (who : Initiator) (s : State) : Host.Outcome State Fault Refusal :=
  .next (s.bootCtrl who (fun s =>
    { s with boot := { s.boot with restartTime := some s.periods } }.answerOk))

/-- The bank that a target names: INACTIVE is the bank that does not run, in RECOVERY the one that is not preferred. -/
def State.targetBank (s : State) (target : Nat) : Nat :=
  if target = 1 then 0 else if target = 2 then 1
  else if s.boot.loaded then 1 - s.boot.imageBank
  else match s.bankEntry with
    | none => 1
    | some e => 1 - e.preferred

/-- The entry in force, or that of a flash without one. -/
def State.entryOr (s : State) : BankEntry :=
  s.bankEntry.getD { seq := 0, preferB := false, stateA := .empty, stateB := .empty, attempt := false }

/-- CFG_FLASH_CMD go: the target is EMPTY, and no longer preferred, before it is erased. -/
def execFlashProgram (who : Initiator) (value : Word) (s : State) : Host.Outcome State Fault Refusal :=
  let a := fldPlace F.cfgFlashCmd_target 4 0
  let v := value.toNat
  let target := F.cfgFlashCmd_target.of v
  let sectors := F.cfgFlashCmd_sectors.of v
  if !s.loaderRight who then .next (s.dropWrite who a)
  else if s.fon F.cfgFlashCmd_busy 4 0 0 then .next s.answerOk
  else if target = 3 ∨ sectors = 0 ∨ 8192 < sectors then
    let s := if target = 3 then s else s.fset F.cfgFlashCmd_target 4 0 0 target
    let s := if sectors = 0 ∨ 8192 < sectors then s else s.fset F.cfgFlashCmd_sectors 4 0 0 sectors
    .next (s.dropReg E.regReservedCode who a)
  else
    let s := (s.fset F.cfgFlashCmd_target 4 0 0 target).fset F.cfgFlashCmd_sectors 4 0 0 sectors
    let b := s.targetBank target
    if (target ≠ 0 ∧ s.phase ≠ phRecovery) ∨ (s.boot.loaded = true ∧ s.boot.imageBank = b) then
      .next (s.fset F.cfgFlashCmd_status 4 0 0 bfRefused).answerOk
    else
      let e := s.entryOr
      let e := { e.setState b .empty with
        preferB := if e.preferred = b then b == 0 else e.preferB, attempt := e.attempt && e.state b != .trial }
      let s := s.writeEntry e
      let s := { s with boot := { s.boot with
        programSource := s.reg (fldPlace F.cfgFlashSrc_src 4 0) % 2 ^ 48, programSectors := sectors, programTarget := b } }
      .next ((s.fset F.cfgFlashCmd_status 4 0 0 0).fset F.cfgFlashCmd_busy 4 0 0 1).answerOk

/-- The target bank erased, and the bytes that the loader reads of the source; none where the source is not 64 KiB-aligned
or a read fails. -/
def State.programBytes (s : State) : State × Option (List Byte) :=
  let t := (s.fset F.cfgFlashCmd_busy 4 0 0 0).scrub (bankBase s.boot.programTarget) bankSize
  if s.boot.programSource % 0x10000 = 0 then t.fetchAs .loader s.boot.programSource (s.boot.programSectors * 0x10000)
  else (t, none)

/-- Programming and read-back end: the bank is TRIAL, or a status tells what failed; the erased bank then holds nothing
(R82). DESIGN CHOICE: an entry's one trial-attempt bit is that of every TRIAL bank; the entry that marks the new bank
TRIAL clears it. -/
def execFlashProgramDone (written : Bool) (s : State) : Host.Outcome State Fault Refusal :=
  if !s.fon F.cfgFlashCmd_busy 4 0 0 then .next s
  else
    let b := s.boot.programTarget
    match s.programBytes with
    | (s, none) => .next (s.fset F.cfgFlashCmd_status 4 0 0 bfSource)
    | (s, some bs) =>
      if !written then .next (s.fset F.cfgFlashCmd_status 4 0 0 bfWrite)
      else
        let s := s.putAt (bankBase b) bs
        .next (s.writeEntry { s.entryOr.setState b .trial with attempt := false })

end Sys2Proof.Machine
end

