-- ==== Sys2Proof/Machine/Registers.lean ====
section
/-! DEFINITION. Reads and writes of registers: width and alignment, write rights, reserved codes, the field types, the
selectors, and the registers whose write is a row of its own (R4 to R10, R27, R567, R568). -/

namespace Sys2Proof.Machine

/-! ### Fields (R4, R6, R10) -/

/-- The bits of a register that an access of a size at an offset reaches. -/
def accessMask (off size : Nat) : Nat := if size = 8 then 2 ^ 64 - 1 else if off % 8 = 4 then (2 ^ 32 - 1) * 2 ^ 32 else 2 ^ 32 - 1

/-- A written value at its place in the register. -/
def accessValue (off size v : Nat) : Nat := if size = 8 then v % 2 ^ 64 else v % 2 ^ 32 * 2 ^ (off % 8 * 8)

/-- The bits of the new value where the mask is set, else those of the old one. -/
def mergeBits (old new mask : Nat) : Nat := Nat.lor (Nat.land new mask) (Nat.land old (2 ^ 64 - 1 - mask))

/-- Whether a code is one that a field may take: no list permits every code. -/
def codeAllowed (codes : List (Nat × Nat)) (c : Nat) : Bool := codes.isEmpty || codes.any (fun r => r.1 ≤ c && c ≤ r.2)

/-- The register after a write of one field, and whether the write carried a reserved code: a field of which the write
reaches a bit takes the combined code, or stays where that code is reserved (R4, R10). -/
def putField (old v mask : Nat) (acc : Nat × Bool) (f : FieldDesc) : Nat × Bool :=
  let o := bits old f.lo f.w
  let w := bits (Nat.land v mask) f.lo f.w
  match f.ty with
  | .rw =>
    let c := bits (mergeBits old v mask) f.lo f.w
    if bits mask f.lo f.w = 0 || codeAllowed f.codes c then (setBits acc.1 f.lo f.w c, acc.2) else (acc.1, true)
  | .w1c => (setBits acc.1 f.lo f.w (o - Nat.land o w), acc.2)
  | .w1s => (setBits acc.1 f.lo f.w (Nat.lor o w), acc.2)
  | _ => acc

/-- The register after a write, and whether the write carried a reserved code. -/
def writeFields (fields : List FieldDesc) (old v mask : Nat) : Nat × Bool :=
  fields.foldl (putField old v mask) (old, false)

/-- What a read of a register returns: WO fields read as zero. -/
def readFields (fields : List FieldDesc) (v : Nat) : Nat :=
  fields.foldl (fun n f => if f.ty == .wo then n else setBits n f.lo f.w (bits v f.lo f.w)) 0

/-- The register after a read: the RC bits that were read are cleared. -/
def clearFields (fields : List FieldDesc) (v mask : Nat) : Nat :=
  fields.foldl (fun n f =>
    if f.ty == .rc then setBits n f.lo f.w (bits (Nat.land v (2 ^ 64 - 1 - mask)) f.lo f.w) else n) v

/-- A written value without the bits that start a command. -/
def withoutCommands (fields : List FieldDesc) (v : Nat) : Nat :=
  fields.foldl (fun n f => if f.ty == .w1s then setBits n f.lo f.w 0 else n) v

/-! ### The place of an access -/

/-- A register that an access names: its die and row, its instance, the unit that its selector points at, and its
address in the register store. -/
structure RegSite where
  die : Nat
  desc : RegDesc
  i : Nat
  j : Nat
  unit : Nat
  addr : Nat
deriving DecidableEq, Repr

/-- The unit that a row's selector points at. -/
def State.selected (s : State) (die i : Nat) (d : RegDesc) : Nat :=
  match d.sel with
  | none => 0
  | some x => s.reg (regBase die + x.off + i * d.stride) % 2 ^ x.w

/-- The register at an address. -/
def State.site (s : State) (addr : Nat) : Option RegSite :=
  match regPlace addr with
  | none => none
  | some (die, off) =>
    let base := off / 8 * 8
    match findDesc die base with
    | none => none
    | some d =>
      match descIndex d base with
      | none => none
      | some (i, j) =>
        let unit := s.selected die i d
        some { die, desc := d, i, j, unit, addr := regBase die + base + unit * bankStride }

/-- Whether an address names a register that exists on S only, on another die: it reads as zero (R442). -/
def onlyOnS (addr : Nat) : Bool :=
  match regPlace addr with
  | none => false
  | some (die, off) => die != 4 && 0x10018 ≤ off && off < 0x10030

/-- The doorbell that an address names: queue and offset within its 128 bytes (R28). -/
def doorbellAt (addr : Nat) : Option (Nat × Nat) :=
  if doorbellAddr 0 ≤ addr ∧ addr < doorbellAddr 65536 then
    some ((addr - doorbellAddr 0) / 0x80, (addr - doorbellAddr 0) % 0x80)
  else none

/-- The ring window of ERR_ (R564). -/
def ringWindowAt (addr : Nat) : Option (Nat × Nat) :=
  let a := regBase 4 + 0x3C4000
  if a ≤ addr ∧ addr < a + 0x4000 then some ((addr - a) / 0x40, (addr - a) % 0x40) else none

/-! ### Write rights (R568) -/

/-- Whether an initiator may write a register. -/
def State.mayWrite (s : State) (who : Initiator) (x : RegSite) : Bool :=
  who == .hardware || (match x.desc.wr with
    | .nobody => false
    | .governor => who == .governor x.die || who == .tahr (64 + x.die)
    | .governorOrSteward => powerRight who x.die
    | .dieControl => s.controlsDie who x.die
    | .dieControlOrVault => s.controlsDie who x.die || who.isVault
    | .anyControl => (match who with
      | .control _ => true
      | _ => false)
    | .steward => who.isSteward
    | .sentinel => isSentinel who
    | .stewardOrSentinel => tsqRight who
    | .vault => secRight who
    | .loaderRegs => s.loaderRight who
    | .hlogSel => s.hlogRight who
    | .viWriter => s.viWriter who
    | .fwSlot => s.slotRight who 0 || s.slotRight who 1
    | .fwDrv => s.loaderRight who || s.slotRight who x.unit
    | .telltale => isSentinel who || who.isSteward
    | .pflogTail => s.viWriter who || s.belongs who x.unit
    | .ippRel => who.isSteward || s.belongs who (s.fget F.ippGrpCfg_vi x.die x.i 0))

/-- The fields of a register that an initiator may write: an instance that the log's selector names may write its tail
alone (R508). -/
def State.openFields (s : State) (who : Initiator) (x : RegSite) : List FieldDesc :=
  if x.desc.wr == .pflogTail && !(who == .hardware || s.viWriter who) then
    x.desc.fields.filter (fun f => f.lo == F.hpPflogPtr_tail.lo)
  else x.desc.fields

/-! ### Writes that a block refuses in its present state -/

/-- The code with which a control core's write of TE_JOB, TE_PROG or TE_SAVE_BASE is dropped (R256, R398, and the state
rule of the TE_ block). -/
def State.teWriteRefused (s : State) (te off : Nat) : Option ErrCode :=
  if s.blockHeld (te / 2) then some E.secHeldWrite
  else if off = 0x100018 ∧ bit (s.fget F.schRtLock_engines (te / 16) 0 0) (te % 16) = true then some E.schRtProtected
  else if !s.teAtRest te then some E.regWriteDropped
  else none

/-- Whether a buffer of a gate has a granule that is OPEN or MARKED. -/
def State.bufBusy (s : State) (d b : Nat) : Bool :=
  s.fget F.cgBufStatus_open d b 0 != 0 || s.fget F.cgBufStatus_marked d b 0 != 0

/-- Whether a group's buffers lie in its instance's reach and outside every confirmable buffer, and its windows suit an
rt group (R265, R277). -/
def State.groupFits (s : State) (die g : Nat) : Bool :=
  let f := fun (x : Fld) => s.fget x die g 0
  let stride := f F.ippGrpCfg_stride
  let bufs := (List.range (f F.ippGrpCfg_depth_m1 + 1)).map (fun k => f F.ippGrpBase_base + k * stride)
  (f F.ippGrpCfg_rt == 0
    || (f F.ippGrpCfg_window_src == 0 && f F.ippGrpTiming2_close_offset < f F.ippGrpTiming2_consume_offset))
  && bufs.all (fun a => s.inReach (f F.ippGrpCfg_vi) a stride
    && allBuffers.all (fun p => !(s.bufValid p.1 p.2
      && (overlap a stride (s.bufBase p.1 p.2) (s.bufGranules p.1 p.2 * granBytes)
        || overlap a stride (s.bufShadow p.1 p.2) (s.bufGranules p.1 p.2 * granBytes)))))

/-- Whether a change of bits lo to lo + w is asked for. -/
def changes (old new lo w : Nat) : Bool := bits old lo w != bits new lo w

/-- The code with which a permitted write of a register is dropped as its block stands; none where it takes effect. -/
def State.writeBlocked (s : State) (x : RegSite) (old new : Nat) : Option ErrCode :=
  let off := x.desc.off
  let drop := fun (b : Bool) => if b then some E.regWriteDropped else none
  if x.die < 4 then
    if off = 0x100018 || off = 0x100020 || off = 0x100028 then s.teWriteRefused (x.die * 16 + x.i) off
    else if off = 0x300000 then
      let st := s.fget F.seRingHead_state x.die (x.i * 0x800 + x.j) 0
      drop (st != 0 && st != 3)
    else if off = 0x381000 then drop (s.bufValid x.die x.i && changes old new 0 48)
    else if off = 0x381008 then drop (s.bufValid x.die x.i && changes old new 0 48)
    else if off = 0x381010 then
      drop (s.bufValid x.die x.i && (changes old new 0 13 || changes old new 32 6
        || (s.bufBusy x.die x.i && (changes old new 13 1 || changes old new 16 16))))
    else none
  else if x.die = 4 then
    if off = 0x280108 then drop (s.fget F.schQptr_state 4 0 x.unit == 1)
    else if off = 0x200400 then
      drop (bit new 22 && (List.range 64).any (fun n => n != x.i && s.fon F.viRidMapN_valid 4 n 0
        && s.fget F.viRidMapN_rid 4 n 0 == bits new 0 16))
    else if off = 0x380170 then
      let st := s.fget F.cfgFwDrv_state 4 0 x.unit
      drop ((st != 0 && st != 3) || Nat.land new (s.fget F.cfgFwDrvMask_instances 4 0 (1 - x.unit)) != 0)
    else none
  else if x.die = 5 then
    drop ((off = 0x201000 || off = 0x201008 || off = 0x201010 || off = 0x201018) && s.fon F.dspCfg_enable 5 x.i 0)
  else
    if off = 0x281000 || off = 0x281010 || off = 0x281018 then drop (s.fon F.ippGrpCfg_enable x.die x.i 0)
    else if off = 0x100208 then drop (s.fget F.netFlow_toggle 6 0 x.unit != 1)
    else none

/-- What follows a write that took effect. -/
def State.afterWrite (s : State) (x : RegSite) : State :=
  let off := x.desc.off
  if x.die = 5 ∧ off = 0x201000 then s.checkTiming x.i
  else if x.die = 4 ∧ off = 0x200100 then
    let vi := s.fget F.viSel_vi 4 0 0
    if s.vis.stale.contains vi then
      { s.copyConfig (committed vi) vi with vis := { s.vis with stale := s.vis.stale.filter (· != vi) } }
    else s
  else if x.die = 4 ∧ off = 0x400108 then
    let d := x.unit
    if s.fon F.timDom_enable 4 0 d then (if s.domState d = 0 then s.setDomState d 1 else s) else s.setDomState d 0
  else if 6 ≤ x.die ∧ off = 0x281008 then
    if s.fon F.ippGrpCfg_enable x.die x.i 0 && !s.groupFits x.die x.i then s.fset F.ippGrpCfg_enable x.die x.i 0 0 else s
  else s

/-! ### Plain writes -/

/-- The record of a write that carried a reserved code (R10). -/
def State.noteReserved (s : State) (who : Initiator) (addr : Nat) (b : Bool) : State :=
  if b then s.dropReg E.regReservedCode who addr else s

/-- A write of the fields of a register by an initiator that may write it. -/
def State.plainWrite (s : State) (who : Initiator) (x : RegSite) (v mask : Nat) : State :=
  let a := x.addr % bankStride
  if !s.mayWrite who x then s.dropWrite who a
  else
    let old := s.reg x.addr
    let r := writeFields (s.openFields who x) old v mask
    match s.writeBlocked x old r.1 with
    | some c => s.dropReg c who a
    | none => ((s.setReg x.addr r.1).afterWrite x).answerOk.noteReserved who a r.2

/-! ### Writes that are rows of their own -/

/-- The state after a row that a register write brings about; no such row faults. -/
def State.ran (s : State) (r : Host.Outcome State Fault Refusal) : State :=
  match r with
  | .next t => t
  | _ => s

/-- A row run where a bit of the written value asks for it. -/
def State.onBit (s : State) (v i : Nat) (row : State → Host.Outcome State Fault Refusal) : State :=
  if bit v i then s.ran (row s) else s

/-- The own registers of the loader and of S: CFG_, SAF_, SEC_, VI_, TSQ_ and ERR_. go is the written value, v the
register's value with it. -/
def State.ownWriteS (s : State) (who : Initiator) (x : RegSite) (go v mask : Nat) : State :=
  let plain := s.plainWrite who x go mask
  let word := BitVec.ofNat 64 v
  let off := x.desc.off
  if off = 0x380110 then
    if Nat.land go 7 = 0 then plain
    else ((s.onBit go 0 (execBootCommit who)).onBit go 1 (execBootSwitch who)).onBit go 2 (execBootRestart who)
  else if off = 0x380120 then if bit go 24 then s.ran (execFlashProgram who word s) else plain
  else if off = 0x380128 then if bit go 30 then s.ran (execWatermarkGrant who (bits v 0 4) (bits v 16 14) s) else plain
  else if off = 0x380138 then
    if !bit go 0 then plain
    else
      let op := match s.lifeRequest.2 with
        | none => 1
        | some r => leAt r 6 1
      s.ran (if op = 2 then execSetDevRoot who true s else if op = 3 then execToProd who true s
        else if op = 4 then execToRetired who true s else execToDev who true s)
  else if off = 0x380148 then
    if !bit go 3 then plain
    else
      let op := bits v 0 3
      if op = 1 then s.ran (execFwLoad who s) else if op = 2 then s.ran (execFwStage who s)
      else if op = 3 then s.ran (execFwActivate who s) else if op = 4 then s.ran (execFwCancel who s)
      else if op = 5 then s.ran (execFwCommit who s) else s.dropReg E.regReservedCode who x.addr
  else if off = 0x380158 then s.ran (execDriverHeartbeat who (bits v 32 1) s)
  else if off = 0x380168 then
    let s := if changes (s.reg x.addr) v 8 10 || Nat.land go 12 = 0 then plain else s
    (s.onBit go 2 (execDriverAttach who x.unit)).onBit go 3 (execDriverDetach who x.unit)
  else if off = 0x380180 then s.ran (execHlogRead who (bits v 0 18) s)
  else if off = 0x100010 then if bit go 0 then s.ran (execRequestSafe who s) else plain
  else if off = 0x300118 then
    if Nat.land go 3 = 0 then plain
    else (s.onBit go 0 (execTsqRestart who x.unit)).onBit go 1 (execTsqStop who x.unit)
  else if off = 0x300120 then
    if bit go 19 then s.ran (execTableSwap who (bits v 0 7) (bits v 8 3) (bits v 11 8) s) else plain
  else if off = 0x300128 then s.ran (if bit v 12 then execSeBind who word s else execSeUnbind who word s)
  else if off = 0x200110 then
    if !bit go 8 then plain
    else
      let cmd := bits v 0 4
      let vi := x.unit
      if cmd = 1 then s.ran (execViCreate who vi s) else if cmd = 2 then s.ran (execViResize who vi (bit v 4) s)
      else if cmd = 3 then s.ran (execViReset who vi s) else if cmd = 4 then s.ran (execViQuiesce who vi s)
      else if cmd = 5 then s.ran (execViResume who vi s) else if cmd = 6 then s.ran (execViRemove who vi s)
      else s.dropReg E.regReservedCode who x.addr
  else if off = 0x180080 then if bit go 30 then s.ran (execWatermarkMove who (bits v 0 4) (bits v 16 14) s) else plain
  else if off = 0x180100 then
    if !bit go 8 then plain
    else if bits v 6 2 = 1 then s.ran (execSecureHold who (bits v 0 6) s)
    else if bits v 6 2 = 2 then s.ran (execSecureRelease who (bits v 0 6) s)
    else s.dropReg E.regReservedCode who x.addr
  else if off = 0x180208 then s.ran (execWatchdogKick who (bits v 0 16) s)
  else if off = 0x180408 then
    (((s.onBit go 0 (execSecTeStart who)).onBit go 1 (execSecTePreempt who)).onBit go 2 (execSecTeResume who)).onBit go 3
      (execSecTeAbort who)
  else if off = 0x10018 then
    if changes (s.reg x.addr) v 0 9 then s.ran (execCapWrite who (bits v 0 9) s) else plain
  else if off = 0x3C0020 then s.ran (execErrDone who (bits v 0 8) s)
  else if off = 0x3C0040 then s.ran (execErrInject who word s)
  else plain

/-- The own registers of a compute die: TE_CTRL, SPM_GRANULE, the rings and SCH_XDIE. -/
def State.ownWriteC (s : State) (who : Initiator) (x : RegSite) (go v mask : Nat) : State :=
  let off := x.desc.off
  let te := x.die * 16 + x.i
  let ring := x.die * 16 + x.i * 4 + x.j
  if off = 0x100008 then
    if Nat.land go 15 = 0 then s.plainWrite who x go mask
    else
      (((s.onBit go 0 (execTeStart who te)).onBit go 1 (execTePreempt who te)).onBit go 2
        (fun s => execTeResume who te .clean s)).onBit go 3 (execTeAbort who te)
  else if off = 0x200000 then s.ran (execGranuleOwnerWrite who (x.die * 8 + x.i) x.j (BitVec.ofNat 64 v) s)
  else if off = 0x300008 then s.ran (execSeRingTailWrite who ring (bits v 0 12) s)
  else if off = 0x300018 then
    if Nat.land go 7 = 0 then s.plainWrite who x go mask
    else ((s.onBit go 0 (execSeRingStart who ring)).onBit go 1 (execSeRingPause who ring)).onBit go 2
      (execSeRingAbort who ring)
  else if off = 0x20020 then
    let kind := bits v 0 4
    let job := bits v 4 12
    let rank := bits v 16 6
    if kind = 1 then s.ran (execXdiePreempt who x.die job rank s) else if kind = 2 then s.ran (execXdieResume who x.die job rank s)
    else if kind = 3 then s.ran (execXdieAbort who x.die job rank s)
    else if kind = 4 then s.ran (execXdiePauseRings who x.die job rank s)
    else if !s.mayWrite who x then s.dropWrite who x.addr
    else s.dropReg E.regReservedCode who x.addr
  else s.plainWrite who x go mask

/-- The own registers of G: GFX_CTX_CTRL, GFX_TT_STATE, DSP_FLIP and MED_SESSION. -/
def State.ownWriteG (s : State) (who : Initiator) (x : RegSite) (go v mask : Nat) : State :=
  let off := x.desc.off
  let plain := s.plainWrite who x go mask
  if off = 0x100110 then
    if Nat.land go 7 = 0 then plain
    else ((s.onBit go 0 (execGfxPreempt who x.unit [] [])).onBit go 1 (execGfxAbort who x.unit)).onBit go 2
      (execGfxResume who x.unit none)
  else if off = 0x100400 then s.ran (execTelltaleStateWrite who x.i (bits v 0 4) s)
  else if off = 0x201040 then if bit go 48 then s.ran (execDisplayFlip who x.i (BitVec.ofNat 64 v) s) else plain
  else if off = 0x300108 then
    let s := if bit go 10 then s.ran (execMediaSessionOpen who x.unit (BitVec.ofNat 64 v) s) else if bit go 11 then s else plain
    s.onBit go 11 (execMediaSessionClose who x.unit)
  else plain

/-- The own registers of the O-dies: IPP_SPARAM, IPP_SSTAT, IPP_GRP_REL, GW_CTX and NET_GCL. -/
def State.ownWriteO (s : State) (who : Initiator) (x : RegSite) (go v mask : Nat) : State :=
  let off := x.desc.off
  let plain := s.plainWrite who x go mask
  let stream := (x.die - 6) * 48 + x.unit
  if off = 0x280110 then if bit go 48 then s.ran (execParameterLoad who stream (bits v 0 48) s) else plain
  else if off = 0x280118 then if bit go 2 then s.ran (execStreamReset who stream s) else plain
  else if off = 0x281030 then s.ran (execGroupRelease who ((x.die - 6) * 16 + x.i) (bits v 0 4) s)
  else if off = 0x300108 then s.ran (execGwContextEnable who x.unit (bit v 0) s)
  else if off = 0x100118 then
    if bit go 48 then s.ran (execGclStage who ((x.die - 6) * 8 + x.unit) (bits v 0 48) s) else plain
  else plain

/-- The registers whose row acts on any write of their lower half, which holds all that the row reads: a write of the
upper half alone brings nothing about. -/
def wholeInLow : List Nat := [0x10030, 0x200000, 0x300008, 0x20020, 0x100400, 0x281030, 0x300108, 0x3C0020, 0x3C0040,
  0x380180, 0x180208, 0x300128]

/-- Whether a write of a register with command bits carries a reserved code. -/
def State.reservedCommand (s : State) (x : RegSite) (go mask : Nat) : Bool :=
  x.desc.fields.any (fun f => f.ty == .w1s) && (writeFields x.desc.fields (s.reg x.addr) go mask).2

/-- A write of a register whose effect is a row of its own. DESIGN CHOICE: a write that carries a reserved code changes
its other fields (R10) and starts no command. -/
def State.ownWrite (s : State) (who : Initiator) (x : RegSite) (go mask : Nat) : State :=
  let v := mergeBits (s.reg x.addr) go mask
  if !bit mask 0 && wholeInLow.contains x.desc.off then s.plainWrite who x go mask
  else if s.reservedCommand x go mask then s.plainWrite who x (withoutCommands x.desc.fields go) mask
  else if x.desc.off = 0x10030 then s.ran (execFixedPaceRequest who x.die (BitVec.ofNat 64 v) s)
  else if x.desc.off = 0x10038 then
    if !bit go 6 then s.plainWrite who x go mask
    else
      let op := bits v 4 2
      let e := bits v 0 4
      if op = 1 then s.ran (execPark who x.die e s) else if op = 2 then s.ran (execUnpark who x.die e s)
      else if op = 3 then s.ran (execWithdraw who x.die e s) else s.dropReg E.regReservedCode who x.addr
  else if x.die < 4 then s.ownWriteC who x go v mask
  else if x.die = 4 then s.ownWriteS who x go v mask
  else if x.die = 5 then s.ownWriteG who x go v mask
  else s.ownWriteO who x go v mask

/-! ### The vault's registers of an engine (R419) -/

/-- The register of the selected engine that a SEC_TE_ register mirrors: the row's offset on the engine's die. -/
def mirrorOff (off : Nat) : Option Nat :=
  if off = 0x180410 then some 0x100010 else if off = 0x180418 then some 0x100018
  else if off = 0x180420 then some 0x100020 else if off = 0x180428 then some 0x100028 else none

/-- The address of the register that a SEC_TE_ register mirrors. -/
def State.mirrorAddr (s : State) (off : Nat) : Nat :=
  let te := s.fget F.secTeSel_engine 4 0 0
  regBase (te / 16) + off + te % 16 * 0x10000

/-- A write of SEC_TE_JOB, SEC_TE_PROG or SEC_TE_SAVE_BASE: the engine must belong to a held cluster and be at rest. -/
def State.mirrorWrite (s : State) (who : Initiator) (x : RegSite) (off v mask : Nat) : State :=
  let te := s.fget F.secTeSel_engine 4 0 0
  if !s.blockHeld (te / 2) || !s.teAtRest te then s.dropWrite who x.addr
  else
    let a := s.mirrorAddr off
    (s.setReg a (writeFields x.desc.fields (s.reg a) v mask).1).answerOk

/-! ### Register accesses -/

/-- Whether an access has a width and an alignment that register space supports (R4). -/
def widthOk (addr size : Nat) : Bool := (size == 4 && addr % 4 == 0) || (size == 8 && addr % 8 == 0)

/-- A write to a doorbell (R28, R228). The upper half of a doorbell and of a resolve word holds reserved bits alone, so a
32-bit write of it changes nothing (R4). -/
def State.doorbellWrite (s : State) (who : Initiator) (q off v : Nat) : State :=
  if off = 0 then
    s.ran (if s.headQueue q then execCompletionHeadDoorbell who q (bits v 0 16) s else execDoorbellTail who q (bits v 0 16) s)
  else if off = 0x40 && q < 16384 then s.ran (execResolveDoorbell who q (BitVec.ofNat 64 v) s)
  else if off = 4 || (off = 0x44 && q < 16384) then
    if s.doorbellOk who q then s.answerOk else s.refuseDoorbell who q off
  else s.refuse E.addressRefused who (doorbellAddr q + off)

/-- Whether the world rule refuses an access to the SEC_ block. -/
def secBlocked (who : Initiator) (addr : Nat) : Bool :=
  regBase 4 + 0x180000 ≤ addr && addr < regBase 4 + 0x190000 && !secRight who

/-- A write of size bytes to register space. -/
def State.regWrite (s : State) (who : Initiator) (addr size v : Nat) : State :=
  if !reachesRegister who addr then s.refuse E.addressRefused who addr
  else if secBlocked who addr then s.refuse E.secWorld who addr
  else if !widthOk addr size then s.dropReg E.regNarrow who addr
  else
    match doorbellAt addr with
    | some (q, off) => s.doorbellWrite who q off v
    | none =>
      if inIommu addr then
        if who.isSteward || who == .hardware then
          let a := addr / 8 * 8
          (s.setReg a (mergeBits (s.reg a) (accessValue addr size v) (accessMask addr size))).answerOk
        else s.dropWrite who addr
      else if (ringWindowAt addr).isSome then s.dropWrite who addr
      else if onlyOnS addr then
        if powerRight who (regSource addr).1 then s.answerOk else s.dropWrite who addr
      else
        match s.site addr with
        | none => s.refuse E.addressRefused who addr
        | some x =>
          let go := accessValue addr size v
          let mask := accessMask addr size
          match (if x.die = 4 then mirrorOff x.desc.off else none) with
          | some off => s.mirrorWrite who x off go mask
          | none => if x.desc.kind == .own then s.ownWrite who x go mask else s.plainWrite who x go mask

/-- The part of a 64-bit value that an access of a size at an offset returns. -/
def accessPart (off size v : Nat) : Nat := if size = 8 then v else v / 2 ^ (off % 8 * 8) % 2 ^ 32

/-- The half of an answer that a 32-bit read takes. -/
def State.takePart (s : State) (off size : Nat) : State :=
  { s with resp := { s.resp with value := accessPart off size s.resp.value } }

/-- A read of a register of RC fields whose read takes an item. A 32-bit read clears the bits of its half only (R4): the
other half of the item stays in the register for a 32-bit read of that half. DEDUCED: every other read takes the next
item. -/
def State.takeItem (s : State) (addr size : Nat) (take : State → State) : State :=
  let a := addr / 8 * 8
  let t := take { s with halves := storeDrop s.halves a }
  let half := addr % 8 / 4
  let left := storeGet (0, 2) s.halves a
  if t.resp.error then { t with halves := s.halves }
  else if size = 8 then t
  else if left.2 = half then { s with halves := storeDrop s.halves a }.answer (accessPart addr 4 left.1)
  else ({ t with halves := storePut t.halves a (t.resp.value, 1 - half) }).takePart addr 4

/-- The milliseconds that the vault watchdog has left (R418). -/
def State.wdogLeft (s : State) : Nat :=
  match s.boot.wdogStart with
  | none => s.fget F.secWdog_period_ms 4 0 0
  | some t => s.fget F.secWdog_period_ms 4 0 0 - (s.periods - t) / 38400

/-- HP_FENCE of the reading stream (R482): all_ok, the failures since the previous fence, the first one's number. -/
def PostStream.fence (x : PostStream) : Nat :=
  (x.failed == 0).toNat + min x.failed 65535 * 2 ^ 16 + (x.first.getD 0) % 2 ^ 32 * 2 ^ 32

/-- A read of HP_FENCE clears what it returned. -/
def State.readFence (s : State) (who : Initiator) (addr size : Nat) : State :=
  let x := s.stream who
  let low := size == 8 || addr % 8 == 0
  let high := size == 8 || addr % 8 == 4
  let y := { x with failed := if low then 0 else x.failed, first := if high then none else x.first }
  (s.setStream who y).answer (accessPart addr size x.fence)

/-- A read of a register whose value the hardware makes at the read; none for the rest. -/
def State.liveRead (s : State) (who : Initiator) (x : RegSite) (addr size : Nat) : Option State :=
  let off := x.desc.off
  if x.die = 4 then
    if off = 0x400000 then some ((s.readTime who).takePart addr size)
    else if off = 0x400010 then some (s.answer (accessPart addr size (s.periods % 2 ^ 64)))
    else if off = 0x3C0018 then some (s.takeItem addr size (fun s => s.readNext who))
    else if off = 0x180200 then
      let s := s.fset F.secWdog_remaining_ms 4 0 0 s.wdogLeft
      some (s.answer (accessPart addr size (s.reg x.addr)))
    else none
  else if x.die < 4 then
    if off = 0x20008 then some (s.takeItem addr size (fun s => s.ran (execSchEventRead who x.die s))) else none
  else if x.die = 7 ∧ off = 0x380080 then some (s.readFence who addr size)
  else if 6 ≤ x.die ∧ off = 0x281028 then
    some (s.takeItem addr size (fun s => s.ran (execGroupAcquire who ((x.die - 6) * 16 + x.i) s)))
  else none

/-- Whether a word of a die granule holds poison (R163). -/
def State.granulePoisoned (s : State) (die g : Nat) : Bool :=
  touches s.poisonWords 8 (spmBase die 0 + g * 0x100000) 0x100000

/-- The requests of a stream engine that are in flight: writes of its rings that wait for a fill of the gate, in requests
of at most 256 bytes (R174). -/
def State.seOutstanding (s : State) (die se : Nat) : Nat :=
  min 256 ((s.opens.map (fun p => (p.2.stalled.filter (fun w => 64 ≤ w.1 && (w.1 - 64) / 4 == die * 4 + se)).map
    (fun w => (requests w.2.1 w.2.2.length).length))).flatten.sum)

/-- What three kinds of register show at a read: FAB_PORT whether its link is up, SPM_GRANULE whether its granule lies below
the die's watermark and whether it holds poison (R159, R163), SE_STATUS the requests in flight (R174). -/
def State.showNow (s : State) (x : RegSite) : State :=
  if x.desc.off = 0x8 ∧ s.boot.loaded then s.fset F.fabPortN_up x.die x.i 0 (s.portUp x.die x.i).toNat
  else if x.die < 4 ∧ x.desc.off = 0x200000 then
    let g := x.i * 16 + x.j
    s.setReg x.addr (setBits (setBits (s.reg x.addr) 16 1 (if g < s.mark (8 + x.die) then 1 else 0)) 18 1
      (s.granulePoisoned x.die g).toNat)
  else if x.die < 4 ∧ x.desc.off = 0x300080 then s.fset F.seStatus_outstanding x.die x.i 0 (s.seOutstanding x.die x.i)
  else s

/-- A read of size bytes of register space. -/
def State.regRead (s : State) (who : Initiator) (addr size : Nat) : State :=
  if !reachesRegister who addr then s.refuse E.addressRefused who addr
  else if secBlocked who addr then s.refuse E.secWorld who addr
  else if !widthOk addr size then s.answer 0
  else
    match doorbellAt addr with
    | some (q, off) =>
      if off = 0 || off = 4 || ((off = 0x40 || off = 0x44) && q < 16384) then s.answer 0
      else s.refuse E.addressRefused who addr
    | none =>
      if inIommu addr then s.answer (accessPart addr size (s.reg (addr / 8 * 8)))
      else if onlyOnS addr then s.answer 0
      else
        match ringWindowAt addr with
        | some (i, off) =>
          let bytes := match storeFind s.err.ring i with
            | none => []
            | some y => y.record.bytes
          s.answer (leAt bytes off size)
        | none =>
          match s.site addr with
          | none => s.refuse E.addressRefused who addr
          | some x =>
            match s.liveRead who x addr size with
            | some t => t
            | none =>
              let a := match (if x.die = 4 then mirrorOff x.desc.off else none) with
                | some off => s.mirrorAddr off
                | none => x.addr
              let v := (s.showNow x).reg a
              let s := s.setReg a (clearFields x.desc.fields v (accessMask addr size))
              s.answer (accessPart addr size (readFields x.desc.fields v))

/-! ### The rows -/

/-- A write to a register. -/
def execRegisterWrite (who : Initiator) (addr size : Nat) (value : Word) (s : State) :
    Host.Outcome State Fault Refusal :=
  if s.hears who addr then .next (s.regWrite who addr size value.toNat) else .next s

/-- A read of a register, which clears its RC fields. -/
def execRcRead (who : Initiator) (addr size : Nat) (s : State) : Host.Outcome State Fault Refusal :=
  if s.hears who addr then .next (s.regRead who addr size) else .next s

/-- A write to a selector register: the registers that follow show the selected unit. -/
def execSelLoad (who : Initiator) (addr size : Nat) (value : Word) (s : State) : Host.Outcome State Fault Refusal :=
  match s.site addr with
  | some x =>
    if x.desc.kind == .selector && s.hears who addr then .next (s.regWrite who addr size value.toNat) else .next s
  | none => .next s

end Sys2Proof.Machine
end

