-- ==== Sys2Proof/Machine/Bridges.lean ====
section
/-! DEFINITION. Read and write requests on the fabric, and the host port bridge: inbound and outbound requests, posted
writes, emulated atomics, locked sequences, and the links of fabric and host port (R12 to R15, R23, R375, R472 to R488). -/

namespace Sys2Proof.Machine

/-! ### The fabric (R12 to R15) -/

/-- The links of the shortest path between two dies, each as the pair of dies it joins: through the lower-numbered
intermediate die where two are shortest (R13). -/
def fabPath (d e : Nat) : List (Nat × Nat) :=
  if d = e then []
  else if (fabPortTo d e).isSome then [(d, e)]
  else
    match (List.range 8).find? (fun k => (fabPortTo d k).isSome && (fabPortTo k e).isSome) with
    | none => []
    | some k => [(d, k), (k, e)]

/-- Whether the shortest path of R13 between two dies is up. -/
def State.pathUp (s : State) (d e : Nat) : Bool :=
  (d = e || !(fabPath d e).isEmpty) && (fabPath d e).all (fun l =>
    match fabPortTo l.1 l.2 with
    | some p => s.portUp l.1 p
    | none => false)

/-- A request enters the fabric: one that goes around a link that is down is counted; none where no path is left. -/
def State.route (s : State) (d e : Nat) : Option State :=
  if s.pathUp d e then some s
  else if s.fabReaches d e 3 then some (s.fadd F.fabCounts_rerouted d 0 0 1)
  else none

/-- A flit's replay at a port of a die: a successful one is recorded, a failed one counted. -/
def execFabReplay (die port : Nat) (ok : Bool) (s : State) : Host.Outcome State Fault Refusal :=
  if 8 ≤ die || 4 ≤ port || !s.portUp die port then .next s
  else
    let s := s.fadd F.fabPortN_replays die port 0 1
    let k := die * 4 + port
    if ok then
      .next ({ s with bridge := { s.bridge with replays := storeDrop s.bridge.replays k } }.raiseRec
        { recOf E.fabReplay die 0x00 port with detail := port })
    else .next { s with bridge := { s.bridge with replays := storePut s.bridge.replays k (storeGet 0 s.bridge.replays k + 1) } }

/-- Whether a request of an initiator to an address goes over the link between two dies. -/
def State.goesOver (s : State) (a b : Nat) (who : Initiator) (addr : Nat) : Bool :=
  let p := fabPath who.die (s.dieOf addr)
  p.contains (a, b) || p.contains (b, a)

/-- A request caught on a failing link completes with an error response to its initiator: a tile load faults its engine
(R146), a posted write fails (R480), and another request is answered so (R24). -/
def State.catchRequest (s : State) (a b : Nat) (c : Caught) : State :=
  match c with
  | .load te th =>
    match (s.eng te).loads.find? (fun l => l.th == th && l.rows.any (s.goesOver a b (.engine te))) with
    | none => s
    | some l =>
      if s.teStat te = tsRunning ∨ s.teStat te = tsWaiting ∨ s.teStat te = tsStopping then
        (s.setEng te { s.eng te with loads := (s.eng te).loads.erase l }).teFault te E.address
      else s
  | .posted who addr =>
    if s.posts who addr && s.goesOver a b who addr then
      let s := match who with
        | .engine te => (s.dropOutstanding te addr).getD s
        | _ => s
      s.postFail who addr (s.refusalRec E.fabLinkDown who addr)
    else s
  | .request who addr => if s.goesOver a b who addr then s.refuse E.fabLinkDown who addr else s

/-- After 16 consecutive failed replays the link is down at both of its ends, and the requests caught on it fail. -/
def execFabLinkDown (die port : Nat) (caught : List Caught) (s : State) : Host.Outcome State Fault Refusal :=
  if 8 ≤ die || 4 ≤ port || !s.portUp die port || storeGet 0 s.bridge.replays (die * 4 + port) < 16 then .next s
  else
    let peer := fabPeer die port
    let ends := [die * 4 + port] ++ ((fabPortTo peer die).map (peer * 4 + ·)).toList
    let s := { s with bridge := { s.bridge with linksDown := s.bridge.linksDown ++ ends } }
    let s := s.raiseRec { recOf E.fabLinkDown die 0x00 port with detail := port + peer * 2 ^ 8 }
    .next (caught.foldl (fun s c => s.catchRequest die peer c) s)

/-! ### Over budget (R375, R376) -/

/-- 100 µs after the last wait at an empty bucket, an instance is over budget no longer; MSIs that count_max now asks
for go out. -/
def execOverBudgetEnd (vi : Nat) (s : State) : Host.Outcome State Fault Refusal :=
  if !s.fon F.viState_over_budget 4 0 vi || s.periods < storeGet 0 s.vis.obWaits vi + 3840 then .next s
  else
    let s := s.fset F.viState_over_budget 4 0 vi 0
    let due := (s.viQueues vi).filter (fun q => isCompletion q && s.fon F.schQcfg_msi_enable 4 0 q
      && (s.cq q).unsignalled != 0 && s.fget F.viCoalesce_count_max 4 0 (committed vi) ≤ (s.cq q).unsignalled)
    .next (due.foldl State.sendCqMsi s)

/-! ### Requests on the fabric -/

/-- Whether a locked sequence of another link claims a line of [a, a + n) (R485). -/
def State.claimed (s : State) (a n : Nat) (link : Option Nat) : Bool :=
  s.bridge.locks.any (fun k => a / 64 ≤ k.line && k.line ≤ (a + n - 1) / 64 && some k.link != link)

/-- Something waits behind a claim. -/
def State.hold (s : State) (w : HeldWork) : State :=
  { s with bridge := { s.bridge with held := s.bridge.held ++ [w] } }

/-- A sequence waits for the lock table or behind a line's holder (R484). -/
def State.holdSeq (s : State) (w : HeldWork) : State := (s.hold w).fadd F.hpLock_waits 7 0 0 1

/-- A read that passed the claims: at the bridge, in register space, or in memory. -/
def State.readAt (s : State) (who : Initiator) (a n : Nat) : State :=
  if placeOf a = .registers then s.regRead who a n
  else
    match s.checkAccess who false a n with
    | .refuse c => s.refuse c who a
    | .pass =>
      if placeOf a = .outbound then
        let r := s.outRead a n
        match r.2 with
        | none => r.1.refuse E.addressRefused who a
        | some bs => { r.1 with resp := { value := leNat bs, bytes := bs } }
      else (s.takeTokens who a n).readMem who a n

/-- A write that passed the claims. -/
def State.writeAt (s : State) (who : Initiator) (a : Nat) (bs : List Byte) : State :=
  if placeOf a = .registers then s.regWrite who a bs.length (leNat bs)
  else
    match s.checkAccess who true a bs.length with
    | .refuse c => s.refuseWrite c who a
    | .pass =>
      if placeOf a = .outbound then (s.outWrite who a bs).1.answerOk
      else (s.takeTokens who a bs.length).writeMem who a bs

/-- A request of an initiator: it waits behind a claim, is completed with an error response where the fabric reaches its
target no more, and else reaches it. -/
def State.accessAt (s : State) (who : Initiator) (acc : Access) : State :=
  let r : Nat × Nat := match acc with
    | .read a n => (a, n)
    | .write a bs => (a, bs.length)
  if r.2 = 0 then s
  else if s.claimed r.1 r.2 none then s.hold (.access who acc)
  else
    match s.route who.die (s.dieOf r.1) with
    | none => s.refuse E.addressRefused who r.1
    | some t =>
      match acc with
      | .read a n => t.readAt who a n
      | .write a bs => t.writeAt who a bs

/-- Storage faults on the way: those of a pair's shared memory are named by an address from 2^48 on, one pair every
2^20. -/
def State.strikeAll (s : State) (hits : List Hit) : State :=
  hits.foldl (fun s h => if h.addr < 2 ^ 48 then s.strike [h] else s.pairSramHit ((h.addr - 2 ^ 48) / 2 ^ 20) h.fatal) s

/-- Whether a read is of outbound space and its completion comes poisoned, which a fatal fault at its address stands for
(R473). -/
def poisonedCompletion (acc : Access) (hits : List Hit) : Bool :=
  match acc with
  | .read a n => placeOf a == .outbound && hits.any (fun h => h.fatal && a ≤ h.addr && h.addr < a + n)
  | .write _ _ => false

/-- A read or write request reaches its target. -/
def execMemoryAccess (who : Initiator) (acc : Access) (hits : List Hit) (s : State) :
    Host.Outcome State Fault Refusal :=
  let addr := match acc with
    | .read a _ => a
    | .write a _ => a
  let s := s.strikeAll hits
  if !s.hears who addr then .next s
  else
    let t := s.accessAt who acc
    if poisonedCompletion acc hits && !t.resp.error then .next (t.refuse E.addressRefused who addr) else .next t

/-- A posted write of a stream fails at its far side with the code of the refusal. -/
def execPostedWriteFail (who : Initiator) (addr code : Nat) (s : State) : Host.Outcome State Fault Refusal :=
  if s.posts who addr then
    let sev := if code = E.secWorld.code then 3 else 2
    let s := match who with
      | .engine te => (s.dropOutstanding te addr).getD s
      | _ => s
    .next (s.postFail who addr (s.refusalRec ⟨code, sev⟩ who addr))
  else .next s

/-! ### Inbound requests (R77, R366, R384, R477) -/

/-- Where an inbound request goes. -/
inductive HostTarget where
  | at (who : Initiator) (addr : Nat)
  | unused
  | fault (who : Initiator)
deriving DecidableEq, Repr

/-- The address of an offset in the extents of an instance, in extent order. -/
def extentAt : List (Nat × Nat) → Nat → Option Nat
  | [], _ => none
  | e :: t, off => if off < e.2 then some (e.1 + off) else extentAt t (off - e.2)

/-- An access of a virtual function: BAR 0 holds the instance's doorbell pages, BAR 2 the first 4 GiB of its extents. -/
def State.vfTarget (s : State) (k : Nat) (req : HostRequest) : HostTarget :=
  let who : Initiator := .hostFn k
  let vi := k - 1
  if !s.fon F.viOwner_vf_enable 4 0 (committed vi) then .fault who
  else if req.bar = 0 ∧ req.addr < 0x800000 then
    match (s.viQueues vi)[req.addr / 128]? with
    | some q => .at who (doorbellAddr q + req.addr % 128)
    | none => .unused
  else if req.bar = 2 ∧ req.addr < 2 ^ 32 then
    match extentAt (s.extents (committed vi)) req.addr with
    | some a => .at who a
    | none => .fault who
  else .fault who

/-- The target of an inbound request, by phase and mode. -/
def State.hostTarget (s : State) (req : HostRequest) : HostTarget :=
  if s.phase = 6 ∨ s.phase = 7 then
    if req.function ≠ 0 then .fault .recovery
    else if req.bar = 0 ∧ req.addr < 0x40000 then .at .recovery (regBase 4 + 0x380000 + req.addr)
    else if req.bar = 2 ∧ s.phase = 6 ∧ req.addr < 2 ^ 30 then .at .recovery req.addr
    else .fault .recovery
  else if s.hostMode = 1 then
    match s.translate req.rid req.addr req.write with
    | some a => .at (.requester req.rid) a
    | none => .fault (.requester req.rid)
  else if req.function = 0 then
    if req.bar = 0 ∧ req.addr < 0x80000 then .at (.hostFn 0) (regBase 4 + 0x200000 + req.addr) else .fault (.hostFn 0)
  else s.vfTarget req.function req

/-- Whether the port takes requests on a link. -/
def State.hostListens (s : State) (link : Nat) : Bool :=
  (s.hostMode != 0 || s.phase == 6 || s.phase == 7) && link < 2 && s.fon F.hpLinkN_dl_up 7 link 0

/-- A refused inbound request: counted; a posted write's function sends ERR_NONFATAL (R477). -/
def State.inboundRefused (s : State) (write : Bool) : State :=
  let s := s.fadd F.hpEvents_inbound_refused 7 0 0 1
  if write then s.send (.host 3 0 []) else s

/-- A request whose address finds no target: its record, and for a posted write the failure of R480. -/
def State.hostFault (s : State) (c : ErrCode) (who : Initiator) (addr : Nat) (write : Bool) : State :=
  let r := { s.refusalRec c who addr with die := 7, block := 0x1A }
  let s := if write then s.postFail who addr r else (s.raiseRec r).answerError
  s.inboundRefused write

/-- A request that hostTarget finds no target for: in ROOT mode a translation fault, queued and counted for its
instance (R366, R372). -/
def State.hostMisses (s : State) (who : Initiator) (req : HostRequest) (write : Bool) : State :=
  if s.hostMode = 1 ∧ s.phase ≠ 6 ∧ s.phase ≠ 7 then
    let s := s.queueFault req.rid req.addr req.write
    let s := match s.viOf who with
      | none => s
      | some vi => s.fadd F.viCounts_iommu_faults 4 0 vi 1
    s.hostFault E.viIommuFault who req.addr write
  else s.hostFault E.addressRefused who req.addr write

/-- An inbound request at its target. -/
def State.requestAt (s : State) (req : HostRequest) : State :=
  let n := if req.write then req.data.length else req.len
  match s.hostTarget req with
  | .unused => s.answer 0
  | .fault who => s.hostMisses who req req.write
  | .at who a =>
    if req.op = 2 then s.hostFault E.addressRefused who a true
    else if n = 0 then s.answerOk
    else if s.claimed a n (some req.link) then s.hold (.request req)
    else
      match s.route 7 (s.dieOf a) with
      | none => s.hostFault E.addressRefused who a req.write
      | some s =>
        let t := if req.write then s.writeAt who a req.data else s.readAt who a n
        let refused := t.resp.error || (req.write && (t.stream who).failed != (s.stream who).failed)
        if refused then t.inboundRefused req.write else t

/-- A request arrives at the host port. INTx messages are dropped and counted (R473). -/
def execHostInboundRequest (req : HostRequest) (s : State) : Host.Outcome State Fault Refusal :=
  if !s.hostListens req.link then .next s
  else if req.op = 1 then .next (s.fadd F.hpEvents_intx_dropped 7 0 0 1)
  else .next (s.requestAt req)

/-! ### Emulated atomics (R484 to R486) -/

/-- The value that an AtomicOp or an AMO of n bytes leaves: of AtomicOps 0 FetchAdd, 1 Swap, 2 CAS. -/
def atomicNew (op n : Nat) (old operand second : Nat) : Nat :=
  if op = 0 then (old + operand) % 2 ^ (8 * n)
  else if op = 1 then operand
  else if old = operand then second else old

/-- Refusal of an AtomicOp: it completes with Completer Abort. -/
def State.abortAtomic (s : State) : State := (s.fadd F.hpEvents_inbound_refused 7 0 0 1).answerError

/-- An inbound AtomicOp at its target: read, compute and write while the line's claim is held. -/
def State.atomicAt (s : State) (req : HostRequest) : State :=
  let n := if req.op = 2 then req.data.length / 2 else req.data.length
  match s.hostTarget req with
  | .unused => s.abortAtomic
  | .fault who => s.hostMisses who req false
  | .at who a =>
    let known := req.op ≤ 2 && (n == 4 || n == 8 || (n == 16 && req.op == 2)) && a % n == 0
    let memory := match placeOf a with
      | .lpddr => true
      | .scratchpad _ _ => true
      | _ => false
    if !known || !memory then (s.refuse E.addressRefused who a).abortAtomic
    else if s.claimed a n none || 64 ≤ s.bridge.locks.length then s.holdSeq (.atomic req)
    else
      match s.checkAccess who true a n with
      | .refuse c => (s.refuse c who a).abortAtomic
      | .pass =>
        let t := ((s.correctSoft a n).takeTokens who a n).countLines who a n
        if t.poisoned a n then (t.reportPoison who a n).abortAtomic
        else
          let old := t.bytesAt a n
          let new := atomicNew req.op n (leNat old) (leNat (req.data.take n)) (leNat (req.data.drop n))
          { (t.placeWrite who a (leBytes new n)).1 with resp := { value := leNat old, bytes := old } }

/-- A comparison of two values of n bytes as signed numbers. -/
def signedLe (a b n : Nat) : Bool := signed a (8 * n) ≤ signed b (8 * n)

/-- The value that a RISC-V AMO of n bytes leaves: 0 swap, 1 add, 2 xor, 3 and, 4 or, 5 min, 6 max, 7 minu, 8 maxu. -/
def amoNew (op n old v : Nat) : Nat :=
  if op = 0 then v
  else if op = 1 then (old + v) % 2 ^ (8 * n)
  else if op = 2 then Nat.xor old v
  else if op = 3 then Nat.land old v
  else if op = 4 then Nat.lor old v
  else if op = 5 then (if signedLe old v n then old else v)
  else if op = 6 then (if signedLe old v n then v else old)
  else if op = 7 then min old v
  else max old v

/-- An AMO of a core on outbound space: native where that is set and the link's partner completes AtomicOps, or a read and a write with an entry held in between. Op 9 is a
load-reserved, which holds no reservation, and op 10 a store-conditional, which fails (R486). -/
def State.amoAt (s : State) (who : Initiator) (a op n v : Nat) : State :=
  let v := v % 2 ^ (8 * n)
  match s.checkAccess who true a n with
  | .refuse c => s.refuse c who a
  | .pass =>
    if op = 10 then s.answer 1
    else if 64 ≤ s.bridge.locks.length then s.holdSeq (.amo who a op n v)
    else
      let native := s.fon F.hpCfg_atomic_native 7 0 0 && op < 2 && s.bridge.atomics.contains (s.outLink a)
      match s.outRead a n with
      | (t, none) => t.refuse E.addressRefused who a
      | (t, some bs) =>
        if op = 9 then { t with resp := { value := leNat bs, bytes := bs } }
        else
          let out : Sent := if native then .host 2 (s.busAddr a) (leBytes op 1 ++ leBytes v n)
            else .host 0 (s.busAddr a) (leBytes (amoNew op n (leNat bs) v) n)
          let base := if native then { t with sent := s.sent } else t
          { base.send out with resp := { value := leNat bs, bytes := bs } }

/-! ### Locked sequences (R484, R485, R487) -/

/-- HP_LOCK shows the entries held. -/
def State.showLocks (s : State) : State := s.fset F.hpLock_used 7 0 0 s.bridge.locks.length

/-- A locked read: the first of a link's sequence takes the line's claim; later ones read. -/
def State.lockedAt (s : State) (req : HostRequest) : State :=
  match s.hostTarget req with
  | .at _ a =>
    let first := !s.bridge.locks.any (fun k => k.link == req.link)
    if first && (s.claimed a (max req.len 1) none || 64 ≤ s.bridge.locks.length) then s.holdSeq (.locked req)
    else
      let t := s.requestAt { req with write := false, op := 0 }
      if first && !t.resp.error then
        let k : LineLock := { line := a / 64, link := req.link, start := t.periods }
        State.showLocks { t with bridge := { t.bridge with locks := t.bridge.locks ++ [k] } }
      else t
  | _ => s.requestAt { req with write := false, op := 0 }

/-- What waited goes on. -/
def State.runHeld (s : State) (w : HeldWork) : State :=
  match w with
  | .access who acc => s.accessAt who acc
  | .request req => s.requestAt req
  | .atomic req => s.atomicAt req
  | .locked req => s.lockedAt req
  | .amo who a op n v => s.amoAt who a op n v

/-- Locks end, and what waited goes on in arrival order. -/
def State.endLocks (s : State) (f : LineLock → Bool) : State :=
  let ws := s.bridge.held
  let s := { s with bridge := { s.bridge with locks := s.bridge.locks.filter (fun k => !f k), held := [] } }.showLocks
  ws.foldl State.runHeld s

/-- A locked read arrives (MRdLk). -/
def execInboundLockedRead (req : HostRequest) (s : State) : Host.Outcome State Fault Refusal :=
  if s.hostListens req.link then .next (s.lockedAt req) else .next s

/-- The Unlock message of a link releases its claim. -/
def execUnlock (link : Nat) (s : State) : Host.Outcome State Fault Refusal :=
  if s.bridge.locks.any (fun k => k.link == link) then .next (s.endLocks (fun k => k.link == link)) else .next s

/-- A claim that its target has held for 8 µs is released, and its sequence fails. -/
def execBrLockTimeout (line : Nat) (s : State) : Host.Outcome State Fault Refusal :=
  match s.bridge.locks.find? (fun k => k.line == line && k.start + 308 ≤ s.periods) with
  | none => .next s
  | some k =>
    let s := s.fadd F.hpLock_timeouts 7 0 0 1
    let s := (s.raiseRec { recOf E.brLockTimeout 7 0x1A k.link with addr := some (line * 64), detail := k.link }).answerError
    .next (s.endLocks (fun x => x == k))

/-! ### When two sides start towards each other (R488) -/

/-- A back-off of a sequence: counted, recorded at most once in 10 ms; after the sixteenth the sequence fails. -/
def State.backOff (s : State) (seq n : Nat) (w : HeldWork) : State :=
  let s := s.fadd F.hpLock_backoffs 7 0 0 1
  let due := match s.bridge.lastRecord with
    | none => true
    | some t => t + 384000 ≤ s.periods
  let s := if due then
      { s with bridge := { s.bridge with lastRecord := some s.periods } }.raiseSide
        { recOf E.brBackoff 7 0x1A 0xFFFF with detail := seq }
    else s
  if 16 ≤ n then
    ({ s with bridge := { s.bridge with backoffs := storeDrop s.bridge.backoffs seq } }.raiseRec
      { recOf E.brClaimFail 7 0x1A 0xFFFF with detail := seq }).answerError
  else { s with bridge := { s.bridge with backoffs := storePut s.bridge.backoffs seq (w, n, s.periods) } }

/-- A sequence begins. Where its claim is refused because the two sides start towards each other, the lower side (the
port in ROOT mode) waits, and the higher one backs off. -/
def State.startSeq (s : State) (w : HeldWork) (refused : Bool) : State :=
  if refused then
    if s.hostMode = 1 then (s.fadd F.hpLock_waits 7 0 0 1).runHeld w
    else
      let seq := s.bridge.nextBackoff
      let t : State := { s with bridge := { s.bridge with nextBackoff := seq + 1 } }
      t.backOff seq 1 w
  else s.runHeld w

/-- An inbound AtomicOp arrives. -/
def execInboundAtomic (req : HostRequest) (refused : Bool) (s : State) : Host.Outcome State Fault Refusal :=
  if s.hostListens req.link then .next (s.startSeq (.atomic req) refused) else .next s

/-- A core's AMO on outbound space. -/
def execOutboundAmo (who : Initiator) (addr op size : Nat) (value : Word) (refused : Bool) (s : State) :
    Host.Outcome State Fault Refusal :=
  let core := match who with
    | .core _ _ => true
    | _ => false
  if !core || placeOf addr != .outbound || 10 < op then .next s
  else if !(size == 4 || size == 8) || addr % size != 0 then .next (s.refuse E.addressRefused who addr)
  else .next (s.startSeq (.amo who addr op size value.toNat) refused)

/-- After its back-off, of at least 20 periods, a sequence tries its claims again. -/
def execClaimBackoffRetry (seq : Nat) (refused : Bool) (s : State) : Host.Outcome State Fault Refusal :=
  match storeFind s.bridge.backoffs seq with
  | none => .next s
  | some (w, n, t0) =>
    if s.periods < t0 + 20 then .next s
    else if refused then .next (s.backOff seq (n + 1) w)
    else
      let t : State := { s with bridge := { s.bridge with backoffs := storeDrop s.bridge.backoffs seq } }
      .next (t.runHeld w)

/-! ### Links and fences (R472, R478, R482) -/

/-- A link of the host port trains to L0: link B exists in a bifurcated ROOT port alone; in RECOVERY and RETIRED_HOLD
the port is an endpoint of four lanes on link A (R77). -/
def execHostLinkUp (link speed width : Nat) (atomics : Bool) (s : State) : Host.Outcome State Fault Refusal :=
  let rescue := s.phase = 6 ∨ s.phase = 7
  let split := s.fget F.hpId_bifurcated 7 0 0 = 1 ∧ s.hostMode = 1
  let lanes : Nat := if rescue ∨ split then 4 else 8
  if (s.hostMode = 0 ∧ ¬ rescue) ∨ ¬ (link = 0 ∨ (link = 1 ∧ split ∧ ¬ rescue)) then .next s
  else if speed = 0 ∨ (s.fget F.hpCfg_max_speed 7 0 0 < speed ∧ ¬ rescue) ∨ 5 < speed
      ∨ ¬ (width = 1 ∨ width = 2 ∨ width = 4 ∨ width = 8) ∨ lanes < width then .next s
  else
    let s := { s with bridge := { s.bridge with
      atomics := s.bridge.atomics.filter (· != link) ++ (if atomics then [link] else []) } }
    let s := s.fset F.hpLinkN_ltssm 7 link 0 3
    let s := (s.fset F.hpLinkN_speed 7 link 0 speed).fset F.hpLinkN_width 7 link 0 width
    .next ((s.fset F.hpLinkN_dl_up 7 link 0 1).fset F.hpLinkN_presence 7 link 0 1)

/-- Whether something that waits is an outbound request. -/
def HeldWork.outbound : HeldWork → Bool
  | .amo _ _ _ _ _ => true
  | _ => false

/-- What was outstanding on a link that goes down: a posted write that the partner has not acknowledged fails (R480), and
another outbound request completes with an error response (R24). -/
def State.loseOutbound (s : State) (link : Nat) (c : Caught) : State :=
  match c with
  | .posted who addr =>
    if placeOf addr = .outbound ∧ s.outLink addr = link then
      s.postFail who addr (s.refusalRec E.addressRefused who addr)
    else s
  | .request who addr =>
    if placeOf addr = .outbound ∧ s.outLink addr = link then s.refuse E.addressRefused who addr else s
  | .load _ _ => s

/-- A link goes down: outbound requests that are outstanding or wait fail (R478). -/
def execHpLinkDown (link : Nat) (lost : List Caught) (s : State) : Host.Outcome State Fault Refusal :=
  if 2 ≤ link || !s.fon F.hpLinkN_dl_up 7 link 0 then .next s
  else
    let s := (s.fset F.hpLinkN_dl_up 7 link 0 0).fset F.hpLinkN_ltssm 7 link 0 0
    let s := s.fadd F.hpLinkN_down_events 7 link 0 1
    let s := s.raiseRec { recOf E.hpLinkDown 7 0x1A link with detail := link }
    let s := lost.foldl (fun s c => s.loseOutbound link c) s
    let waits := s.bridge.held.any HeldWork.outbound || s.bridge.backoffs.any (fun p => p.2.1.outbound)
    let s := { s with bridge := { s.bridge with
      held := s.bridge.held.filter (fun w => !w.outbound)
      backoffs := s.bridge.backoffs.filter (fun p => !p.2.1.outbound) } }
    .next (if waits then s.answerError else s)

/-- A 64-bit read of HP_FENCE: the fate of the stream's posted writes since its previous fence. -/
def execHpFenceRead (who : Initiator) (s : State) : Host.Outcome State Fault Refusal :=
  .next (s.regRead who (fldPlace F.hpFence_all_ok 7 0) 8)

end Sys2Proof.Machine
end

