-- ==== Sys2Proof/Machine/PairRuns.lean ====
section
/-! DEFINITION. The checkpoints of redundant pairs: what the leader sends out is held until the comparison of the first
checkpoint that follows it has passed, and takes effect then (R329 to R331, R334). -/

namespace Sys2Proof.Machine

/-- The initiator that a pair's messages come from. -/
def pairInitiator (p : Nat) : Initiator := if p < 4 then .control p else .sentinel p

/-- A released message reaches its target: a write of its payload. -/
def State.releaseMessage (s : State) (p : Nat) (m : Nat × List Byte) : State :=
  let who := pairInitiator p
  if s.hears who m.1 then s.accessAt who (.write m.1 m.2) else s

/-- The follower arrives at the leader's oldest checkpoint: the two signatures are compared. With equal ones the held
message is released; with unequal ones every held message is discarded. -/
def State.followerAt (s : State) (p : Nat) (r : PairRun) : State :=
  match (s.pair p).ahead with
  | [] => s
  | g :: _ =>
    if g.signature = r.signature then
      let s := s.checkpointPasses p g
      match g.message with
      | none => s
      | some m => s.releaseMessage p m
    else s.miscompare p E.pairMiscompare g.count

/-- A pair takes a checkpoint and the comparator compares the two signatures: what the leader retired up to its next
checkpoint, where it comes to one, and what the follower retired up to the checkpoint at which it arrives, where it
arrives at one. -/
def execPairCheckpoint (pair : Nat) (leader follower : Option PairRun) (s : State) :
    Host.Outcome State Fault Refusal :=
  if 6 ≤ pair || !s.pairUp pair then .next s
  else
    let s := match leader with
      | none => s
      | some r => s.leaderAt pair r
    .next (match follower with
      | none => s
      | some r => s.followerAt pair r)

end Sys2Proof.Machine
end

