-- ==== Sys2Proof/Machine/TensorScalar.lean ====
section
/-! DEFINITION. The scalar, control, addressing, handle and check instructions of the tensor engines (R122 to R127,
R141, R571). -/

namespace Sys2Proof.Machine

/-! ### Operations of the field tables (R123) -/

/-- The alu operations on 64-bit words. -/
def aluOp (code : Nat) (a b : Word) : Word :=
  match code with
  | 0x0 => a + b
  | 0x1 => a - b
  | 0x2 => a * b
  | 0x3 => a &&& b
  | 0x4 => a ||| b
  | 0x5 => a ^^^ b
  | 0x6 => a <<< (b.toNat % 64)
  | 0x7 => a >>> (b.toNat % 64)
  | 0x8 => a.sshiftRight (b.toNat % 64)
  | 0x9 => if a.slt b then a else b
  | 0xA => if a.slt b then b else a
  | 0xB => if a.ult b then a else b
  | 0xC => if a.ult b then b else a
  | _ => b

/-- The comparisons. -/
def cmpOp (code : Nat) (a b : Word) : Bool :=
  match code with
  | 0x0 => a == b
  | 0x1 => a != b
  | 0x2 => a.slt b
  | 0x3 => !a.slt b
  | 0x4 => a.ult b
  | _ => !a.ult b

/-- Predicate logic. -/
def psetOp (code : Nat) (a b : Bool) : Bool :=
  match code with
  | 0 => a && b
  | 1 => a || b
  | 2 => a != b
  | _ => a && !b

/-- The second operand of SOP and SCMP: the immediate, or s[sb]. -/
def Engine.operandB (e : Engine) (w : Nat) : Word :=
  if bit w 31 then BitVec.ofNat 64 (bits w 64 64) else BitVec.ofNat 64 (e.reg (bits w 26 5))

/-- The address of SLD and SST: s[sa] + imm. -/
def Engine.scalarAddr (e : Engine) (w : Nat) : Nat := (e.reg (bits w 21 5) + bits w 64 64) % 2 ^ 64

/-! ### Scalars and predicates -/

def execNop (te : Nat) (s : State) : Host.Outcome State Fault Refusal :=
  .next (s.teRun te 0x00 (fun _ => .done s))

/-- sd = sa op (sb or imm). -/
def execSop (te : Nat) (s : State) : Host.Outcome State Fault Refusal :=
  .next (s.teRun te 0x01 (fun w =>
    let e := s.eng te
    let v := aluOp (bits w 32 4) (BitVec.ofNat 64 (e.reg (bits w 21 5))) (e.operandB w)
    .done (s.setEng te (e.setReg (bits w 16 5) v.toNat))))

/-- pd = sa cmp (sb or imm). -/
def execScmp (te : Nat) (s : State) : Host.Outcome State Fault Refusal :=
  .next (s.teRun te 0x02 (fun w =>
    let e := s.eng te
    let v := cmpOp (bits w 32 4) (BitVec.ofNat 64 (e.reg (bits w 21 5))) (e.operandB w)
    .done (s.setEng te { e with preds := setBit e.preds (bits w 16 3) v })))

/-- Loads 64 bits; a misaligned address faults without an access (R146). -/
def execSld (te : Nat) (s : State) : Host.Outcome State Fault Refusal :=
  .next (s.teRun te 0x03 (fun w =>
    let e := s.eng te
    let a := e.scalarAddr w
    if a % 8 != 0 then .fault E.address
    else
      match s.firstRefusal (.engine te) false [(a, 8)] with
      | some (c, x) => .stopped (s.teRefused te c x)
      | none =>
        match s.poisonIn (.engine te) a 8 with
        | some x => .stopped ((s.reportPoison (.engine te) x 8).teStop te E.address)
        | none =>
          let r := s.fetchBytes (.engine te) a 8
          .done (r.1.setEng te (e.setReg (bits w 16 5) (leNat r.2)))))

/-- Stores a scalar. -/
def execSst (te : Nat) (s : State) : Host.Outcome State Fault Refusal :=
  .next (s.teRun te 0x04 (fun w =>
    let e := s.eng te
    let a := e.scalarAddr w
    if a % 8 != 0 then .fault E.address
    else s.teWrites te [(a, leBytes (e.reg (bits w 16 5)) 8)]))

/-- pd = pa op pb. -/
def execPset (te : Nat) (s : State) : Host.Outcome State Fault Refusal :=
  .next (s.teRun te 0x05 (fun w =>
    let e := s.eng te
    let v := psetOp (bits w 25 2) (bit e.preds (bits w 19 3)) (bit e.preds (bits w 22 3))
    .done (s.setEng te { e with preds := setBit e.preds (bits w 16 3) v })))

/-! ### Control -/

/-- Branch, direct or through s[sa], with an optional link. -/
def execBr (te : Nat) (s : State) : Host.Outcome State Fault Refusal :=
  .next (s.teRun te 0x08 (fun w =>
    let e := s.eng te
    let target := if bit w 27 then e.reg (bits w 21 5) % 4096 else bits w 64 12
    if e.program.length ≤ target then .fault E.pcRange
    else
      let e' := if bit w 26 then e.setReg (bits w 16 5) (s.tePc te + 1) else e
      .jump (s.setEng te e') target (loopJump target e.loops)))

/-- A zero-overhead loop (R124): a count of zero skips the body. -/
def execLoop (te : Nat) (s : State) : Host.Outcome State Fault Refusal :=
  .next (s.teRun te 0x09 (fun w =>
    let e := s.eng te
    let pc := s.tePc te
    let last := bits w 64 12
    let n := if bit w 31 then bits w 96 32 else e.reg (bits w 21 5)
    if bits w 16 2 != e.loops.length then .fault E.loopDepth
    else if last ≤ pc || e.program.length ≤ last then .fault E.pcRange
    else if n = 0 then .jump s (last + 1) (loopJump (last + 1) e.loops)
    else .jump s (pc + 1) ((pc + 1, last, n) :: e.loops)))

/-- An opcode that is not in the map faults (R146). -/
def execIllegalOpcode (te : Nat) (s : State) : Host.Outcome State Fault Refusal :=
  if (s.teStat te != tsRunning && s.teStat te != tsWaiting) || s.teStalled te then .next s
  else
    match (s.eng te).program[s.tePc te]? with
    | none => .next s
    | some w => .next (if (opFields w).isNone then s.teFault te E.illegalOpcode else s)

/-! ### Generators and handles -/

/-- Sets part of a generator from the word or from s[sa]; the indices return to zero (R125, R126). -/
def execAgset (te : Nat) (s : State) : Host.Outcome State Fault Refusal :=
  .next (s.teRun te 0x10 (fun w =>
    let e := s.eng te
    let v := if bit w 31 then e.reg (bits w 21 5) else bits w 64 64
    let part := bits w 19 2
    let g := e.gen (bits w 16 3)
    if part = 0 then
      .done (s.setEng te (e.setGen (bits w 16 3) { g with base := bits v 0 48, idx := [0, 0, 0] }))
    else if bits v 32 24 = 0 then .fault E.reservedEncoding
    else
      .done (s.setEng te (e.setGen (bits w 16 3)
        { g with strides := g.strides.set (part - 1) (bits v 0 32)
                 counts := g.counts.set (part - 1) (bits v 32 24)
                 idx := [0, 0, 0] }))))

def execAgadv (te : Nat) (s : State) : Host.Outcome State Fault Refusal :=
  .next (s.teRun te 0x11 (fun w =>
    let e := s.eng te
    .done (s.setEng te (e.setGen (bits w 16 3) ((e.gen (bits w 16 3)).advance (bits w 32 16))))))

/-- Defines a tile handle (R127). -/
def execThset (te : Nat) (s : State) : Host.Outcome State Fault Refusal :=
  .next (s.teRun te 0x18 (fun w =>
    let e := s.eng te
    let h : Handle := { slot := bits w 20 5, slots := bits w 25 4 + 1, fmt := bits w 29 4,
                        rows := bits w 33 8 + 1, rowBytes := bits w 41 16 }
    if 32 < h.slot + h.slots || h.slots * 16384 < h.size then .fault E.handleRange
    else .done (s.setEng te { e with handles := e.handles.set (bits w 16 4) (some h) })))

/-- Exchanges two handles; their outstanding loads go with them. -/
def execThswap (te : Nat) (s : State) : Host.Outcome State Fault Refusal :=
  .next (s.teRun te 0x19 (fun w =>
    let e := s.eng te
    let a := bits w 16 4
    let b := bits w 20 4
    match e.handle a, e.handle b with
    | some x, some y =>
      .done (s.setEng te
        { e with
          handles := (e.handles.set a (some y)).set b (some x)
          loads := e.loads.map (fun l =>
            { l with th := if l.th = a then b else if l.th = b then a else l.th }) })
    | _, _ => .fault E.handleRange))

/-! ### Check state -/

/-- The values of R571. -/
def State.checkState (s : State) (te sel : Nat) : Nat :=
  match sel with
  | 0 => s.bankState te false + s.bankState te true * 4
  | 1 => s.fget F.teSig_signature (te / 16) (te % 16) 0
  | 2 => s.fget F.teConvEvents_events (te / 16) (te % 16) 0
  | 3 => s.fget F.teSteps_steps (te / 16) (te % 16) 0
  | 4 => s.teRank te
  | _ => s.reg (fldAddr F.teResidueLast_code (te / 16) (te % 16) 0)

def execChkrd (te : Nat) (s : State) : Host.Outcome State Fault Refusal :=
  .next (s.teRun te 0x70 (fun w =>
    .done (s.setEng te ((s.eng te).setReg (bits w 16 5) (s.checkState te (bits w 21 3))))))

/-- Signature control: CLEAR, ON, OFF (R137, R141). -/
def execSig (te : Nat) (s : State) : Host.Outcome State Fault Refusal :=
  .next (s.teRun te 0x71 (fun w =>
    let mode := bits w 16 2
    if mode = 0 then .done (s.fset F.teSig_signature (te / 16) (te % 16) 0 0)
    else .done (s.setEng te { s.eng te with sigOn := mode == 1 })))

end Sys2Proof.Machine
end

