-- ==== Sys2Proof/Machine/Dispatch.lean ====
section
/-! DEFINITION. The effect of a command on everything but the queue: one arm per constructor of Instr, each a
direct call of that command's meaning. -/

namespace Sys2Proof.Machine

/-- The effect of a command. -/
def exec (i : Instr) (s : State) : Host.Outcome State Fault Refusal :=
  match i with
  | .registerWrite who addr size value => Sys2Proof.Machine.execRegisterWrite who addr size value s
  | .rcRead who addr size => Sys2Proof.Machine.execRcRead who addr size s
  | .selLoad who addr size value => Sys2Proof.Machine.execSelLoad who addr size value s
  | .memoryAccess who acc hits => Sys2Proof.Machine.execMemoryAccess who acc hits s
  | .granuleFillDone die entry hits => Sys2Proof.Machine.execGranuleFillDone die entry hits s
  | .overBudgetEnd vi => Sys2Proof.Machine.execOverBudgetEnd vi s
  | .fabReplay die port ok => Sys2Proof.Machine.execFabReplay die port ok s
  | .fabLinkDown die port caught => Sys2Proof.Machine.execFabLinkDown die port caught s
  | .postedWriteFail who addr code => Sys2Proof.Machine.execPostedWriteFail who addr code s
  | .powerGood cold => Sys2Proof.Machine.execPowerGood cold s
  | .safetyInService selfTests => Sys2Proof.Machine.execSafetyInService selfTests s
  | .lpddr6Training present => Sys2Proof.Machine.execLpddr6Training present s
  | .goldenAreaWrite => Sys2Proof.Machine.execGoldenAreaWrite s
  | .computeIslandTest passed => Sys2Proof.Machine.execComputeIslandTest passed s
  | .computeReady => Sys2Proof.Machine.execComputeReady s
  | .railLoss rail => Sys2Proof.Machine.execRailLoss rail s
  | .railRestored rail => Sys2Proof.Machine.execRailRestored rail s
  | .logicWarmRestart => Sys2Proof.Machine.execLogicWarmRestart s
  | .wholeWarmRestart => Sys2Proof.Machine.execWholeWarmRestart s
  | .bootCommit who => Sys2Proof.Machine.execBootCommit who s
  | .bootSwitch who => Sys2Proof.Machine.execBootSwitch who s
  | .bootRestart who => Sys2Proof.Machine.execBootRestart who s
  | .flashProgram who value => Sys2Proof.Machine.execFlashProgram who value s
  | .flashProgramDone written => Sys2Proof.Machine.execFlashProgramDone written s
  | .paceMonitorPeriod cluster steps => Sys2Proof.Machine.execPaceMonitorPeriod cluster steps s
  | .fixedPaceLost => Sys2Proof.Machine.execFixedPaceLost s
  | .fixedPaceRequest who die value => Sys2Proof.Machine.execFixedPaceRequest who die value s
  | .paceTokenRelease generator used => Sys2Proof.Machine.execPaceTokenRelease generator used s
  | .droopInform die island => Sys2Proof.Machine.execDroopInform die island s
  | .droopRaiseEnd die island => Sys2Proof.Machine.execDroopRaiseEnd die island s
  | .marginLost die island => Sys2Proof.Machine.execMarginLost die island s
  | .levelReservation src dst mv back => Sys2Proof.Machine.execLevelReservation src dst mv back s
  | .crossingTemp die island other otherIsland => Sys2Proof.Machine.execCrossingTemp die island other otherIsland s
  | .oscFail => Sys2Proof.Machine.execOscFail s
  | .chamoisPaceLost => Sys2Proof.Machine.execChamoisPaceLost s
  | .fallbackRestored => Sys2Proof.Machine.execFallbackRestored s
  | .nop te => Sys2Proof.Machine.execNop te s
  | .sop te => Sys2Proof.Machine.execSop te s
  | .scmp te => Sys2Proof.Machine.execScmp te s
  | .sld te => Sys2Proof.Machine.execSld te s
  | .sst te => Sys2Proof.Machine.execSst te s
  | .pset te => Sys2Proof.Machine.execPset te s
  | .br te => Sys2Proof.Machine.execBr te s
  | .loop te => Sys2Proof.Machine.execLoop te s
  | .halt te => Sys2Proof.Machine.execHalt te s
  | .agset te => Sys2Proof.Machine.execAgset te s
  | .agadv te => Sys2Proof.Machine.execAgadv te s
  | .thset te => Sys2Proof.Machine.execThset te s
  | .thswap te => Sys2Proof.Machine.execThswap te s
  | .tld te => Sys2Proof.Machine.execTld te s
  | .tldComplete te handle => Sys2Proof.Machine.execTldComplete te handle s
  | .tst te upset => Sys2Proof.Machine.execTst te upset s
  | .topen te => Sys2Proof.Machine.execTopen te s
  | .mma te upset => Sys2Proof.Machine.execMma te upset s
  | .comb te upset => Sys2Proof.Machine.execComb te upset s
  | .tclose te upset => Sys2Proof.Machine.execTclose te upset s
  | .drain te upset => Sys2Proof.Machine.execDrain te upset s
  | .vop te upset => Sys2Proof.Machine.execVop te upset s
  | .wait te => Sys2Proof.Machine.execWait te s
  | .waitTimeout te => Sys2Proof.Machine.execWaitTimeout te s
  | .signal te => Sys2Proof.Machine.execSignal te s
  | .eventFlagArrival te flag => Sys2Proof.Machine.execEventFlagArrival te flag s
  | .bar te => Sys2Proof.Machine.execBar te s
  | .barrierRelease job barrier => Sys2Proof.Machine.execBarrierRelease job barrier s
  | .barrierTimeout te => Sys2Proof.Machine.execBarrierTimeout te s
  | .fence te => Sys2Proof.Machine.execFence te s
  | .cmark te => Sys2Proof.Machine.execCmark te s
  | .rie te upset => Sys2Proof.Machine.execRie te upset s
  | .chkrd te => Sys2Proof.Machine.execChkrd te s
  | .sig te => Sys2Proof.Machine.execSig te s
  | .illegalOpcode te => Sys2Proof.Machine.execIllegalOpcode te s
  | .writeRefusedAtTarget te addr => Sys2Proof.Machine.execWriteRefusedAtTarget te addr s
  | .tileInterimCheck te upset => Sys2Proof.Machine.execTileInterimCheck te upset s
  | .teStart who te => Sys2Proof.Machine.execTeStart who te s
  | .tePreempt who te => Sys2Proof.Machine.execTePreempt who te s
  | .engineSaved te upset => Sys2Proof.Machine.execEngineSaved te upset s
  | .teResume who te upset => Sys2Proof.Machine.execTeResume who te upset s
  | .teAbort who te => Sys2Proof.Machine.execTeAbort who te s
  | .granuleOwnerWrite who cluster granule value => Sys2Proof.Machine.execGranuleOwnerWrite who cluster granule value s
  | .granuleScrubDone cluster granule => Sys2Proof.Machine.execGranuleScrubDone cluster granule s
  | .spmPatrol cluster hits => Sys2Proof.Machine.execSpmPatrol cluster hits s
  | .memPatrol stack hits => Sys2Proof.Machine.execMemPatrol stack hits s
  | .seRingTailWrite who ring tail => Sys2Proof.Machine.execSeRingTailWrite who ring tail s
  | .seRingStart who ring => Sys2Proof.Machine.execSeRingStart who ring s
  | .seRingPause who ring => Sys2Proof.Machine.execSeRingPause who ring s
  | .ringPaused ring => Sys2Proof.Machine.execRingPaused ring s
  | .seRingAbort who ring => Sys2Proof.Machine.execSeRingAbort who ring s
  | .seCopy ring => Sys2Proof.Machine.execSeCopy ring s
  | .seFill ring => Sys2Proof.Machine.execSeFill ring s
  | .seWait ring => Sys2Proof.Machine.execSeWait ring s
  | .seSignal ring => Sys2Proof.Machine.execSeSignal ring s
  | .seFence ring => Sys2Proof.Machine.execSeFence ring s
  | .ringFlagSet ring flag => Sys2Proof.Machine.execRingFlagSet ring flag s
  | .descriptorRetire ring same => Sys2Proof.Machine.execDescriptorRetire ring same s
  | .mcRegister queue => Sys2Proof.Machine.execMcRegister queue s
  | .mcPin queue => Sys2Proof.Machine.execMcPin queue s
  | .mcUnpin queue => Sys2Proof.Machine.execMcUnpin queue s
  | .mcRelease queue => Sys2Proof.Machine.execMcRelease queue s
  | .mcPrefetch queue => Sys2Proof.Machine.execMcPrefetch queue s
  | .mcQuery queue => Sys2Proof.Machine.execMcQuery queue s
  | .modelLoadDone vi id se same => Sys2Proof.Machine.execModelLoadDone vi id se same s
  | .cbRegister queue die buffer => Sys2Proof.Machine.execCbRegister queue die buffer s
  | .cbRelease queue => Sys2Proof.Machine.execCbRelease queue s
  | .cbQuery queue => Sys2Proof.Machine.execCbQuery queue s
  | .cbShare queue => Sys2Proof.Machine.execCbShare queue s
  | .groupConfirm die entry => Sys2Proof.Machine.execGroupConfirm die entry s
  | .resolveDoorbell who queue value => Sys2Proof.Machine.execResolveDoorbell who queue value s
  | .tokenDeadline job => Sys2Proof.Machine.execTokenDeadline job s
  | .doorbellTail who queue value => Sys2Proof.Machine.execDoorbellTail who queue value s
  | .completionHeadDoorbell who queue value => Sys2Proof.Machine.execCompletionHeadDoorbell who queue value s
  | .jobRecordFetch queue => Sys2Proof.Machine.execJobRecordFetch queue s
  | .msiCoalesceTimeout queue => Sys2Proof.Machine.execMsiCoalesceTimeout queue s
  | .jobDispatch job tes slots => Sys2Proof.Machine.execJobDispatch job tes slots s
  | .jobPreempt job needing => Sys2Proof.Machine.execJobPreempt job needing s
  | .spillDone job needer se granules copies => Sys2Proof.Machine.execSpillDone job needer se granules copies s
  | .jobResume job tes => Sys2Proof.Machine.execJobResume job tes s
  | .refillDone job same => Sys2Proof.Machine.execRefillDone job same s
  | .rtBudgetEnd partition => Sys2Proof.Machine.execRtBudgetEnd partition s
  | .xdiePreempt who die job rank => Sys2Proof.Machine.execXdiePreempt who die job rank s
  | .xdieResume who die job rank => Sys2Proof.Machine.execXdieResume who die job rank s
  | .xdieAbort who die job rank => Sys2Proof.Machine.execXdieAbort who die job rank s
  | .xdiePauseRings who die job rank => Sys2Proof.Machine.execXdiePauseRings who die job rank s
  | .schEventRead who die => Sys2Proof.Machine.execSchEventRead who die s
  | .sampleIngest stream capture damage data => Sys2Proof.Machine.execSampleIngest stream capture damage data s
  | .slotComplete stream lost refsLost => Sys2Proof.Machine.execSlotComplete stream lost refsLost s
  | .decodeAbort stream undecoded => Sys2Proof.Machine.execDecodeAbort stream undecoded s
  | .windowOpen group => Sys2Proof.Machine.execWindowOpen group s
  | .windowClose group => Sys2Proof.Machine.execWindowClose group s
  | .rtConsumeDeadline group => Sys2Proof.Machine.execRtConsumeDeadline group s
  | .groupAcquire who group => Sys2Proof.Machine.execGroupAcquire who group s
  | .groupRelease who group index => Sys2Proof.Machine.execGroupRelease who group index s
  | .parameterLoad who stream src => Sys2Proof.Machine.execParameterLoad who stream src s
  | .streamReset who stream => Sys2Proof.Machine.execStreamReset who stream s
  | .fallbackClose => Sys2Proof.Machine.execFallbackClose s
  | .frameStart => Sys2Proof.Machine.execFrameStart s
  | .gtOpen => Sys2Proof.Machine.execGtOpen s
  | .gtForcedPoint => Sys2Proof.Machine.execGtForcedPoint s
  | .goldenTestEnd te => Sys2Proof.Machine.execGoldenTestEnd te s
  | .confirmPoint => Sys2Proof.Machine.execConfirmPoint s
  | .decisionPoint => Sys2Proof.Machine.execDecisionPoint s
  | .fallbackRunEnd => Sys2Proof.Machine.execFallbackRunEnd s
  | .fallbackDeadline => Sys2Proof.Machine.execFallbackDeadline s
  | .engineRetestEnd te passed unitPassed => Sys2Proof.Machine.execEngineRetestEnd te passed unitPassed s
  | .statusFrame channel => Sys2Proof.Machine.execStatusFrame channel s
  | .requestSafe who => Sys2Proof.Machine.execRequestSafe who s
  | .pairCheckpoint pair leader follower => Sys2Proof.Machine.execPairCheckpoint pair leader follower s
  | .pairComparatorTest pair passed => Sys2Proof.Machine.execPairComparatorTest pair passed s
  | .tahrNop seq upset => Sys2Proof.Machine.execTahrNop seq upset s
  | .tahrAlu seq upset => Sys2Proof.Machine.execTahrAlu seq upset s
  | .tahrAddi seq upset => Sys2Proof.Machine.execTahrAddi seq upset s
  | .tahrAndi seq upset => Sys2Proof.Machine.execTahrAndi seq upset s
  | .tahrOri seq upset => Sys2Proof.Machine.execTahrOri seq upset s
  | .tahrXori seq upset => Sys2Proof.Machine.execTahrXori seq upset s
  | .tahrShi seq upset => Sys2Proof.Machine.execTahrShi seq upset s
  | .tahrMovi seq upset => Sys2Proof.Machine.execTahrMovi seq upset s
  | .tahrLui seq upset => Sys2Proof.Machine.execTahrLui seq upset s
  | .tahrLd seq upset => Sys2Proof.Machine.execTahrLd seq upset s
  | .tahrLdh seq upset => Sys2Proof.Machine.execTahrLdh seq upset s
  | .tahrLdb seq upset => Sys2Proof.Machine.execTahrLdb seq upset s
  | .tahrSt seq upset => Sys2Proof.Machine.execTahrSt seq upset s
  | .tahrSth seq upset => Sys2Proof.Machine.execTahrSth seq upset s
  | .tahrStb seq upset => Sys2Proof.Machine.execTahrStb seq upset s
  | .tahrBext seq upset => Sys2Proof.Machine.execTahrBext seq upset s
  | .tahrBins seq upset => Sys2Proof.Machine.execTahrBins seq upset s
  | .tahrBextm seq upset => Sys2Proof.Machine.execTahrBextm seq upset s
  | .tahrBinsm seq upset => Sys2Proof.Machine.execTahrBinsm seq upset s
  | .tahrRscl seq upset => Sys2Proof.Machine.execTahrRscl seq upset s
  | .tahrTlx seq upset => Sys2Proof.Machine.execTahrTlx seq upset s
  | .tahrTlk seq upset => Sys2Proof.Machine.execTahrTlk seq upset s
  | .tahrCrc seq upset => Sys2Proof.Machine.execTahrCrc seq upset s
  | .tahrCrcm seq upset => Sys2Proof.Machine.execTahrCrcm seq upset s
  | .tahrBr seq upset => Sys2Proof.Machine.execTahrBr seq upset s
  | .tahrJal seq upset => Sys2Proof.Machine.execTahrJal seq upset s
  | .tahrJr seq upset => Sys2Proof.Machine.execTahrJr seq upset s
  | .tahrRecv seq upset => Sys2Proof.Machine.execTahrRecv seq upset s
  | .tahrSend seq upset => Sys2Proof.Machine.execTahrSend seq upset s
  | .tahrWait seq upset => Sys2Proof.Machine.execTahrWait seq upset s
  | .tahrTime seq upset => Sys2Proof.Machine.execTahrTime seq upset s
  | .tahrTmr seq upset => Sys2Proof.Machine.execTahrTmr seq upset s
  | .tahrGetf seq upset => Sys2Proof.Machine.execTahrGetf seq upset s
  | .tahrHalt seq upset => Sys2Proof.Machine.execTahrHalt seq upset s
  | .tahrTimer seq => Sys2Proof.Machine.execTahrTimer seq s
  | .tahrEvent seq event message => Sys2Proof.Machine.execTahrEvent seq event message s
  | .tahrActivationLimit seq => Sys2Proof.Machine.execTahrActivationLimit seq s
  | .tahrRestart seq => Sys2Proof.Machine.execTahrRestart seq s
  | .tsqRestart who seq => Sys2Proof.Machine.execTsqRestart who seq s
  | .tsqStop who seq => Sys2Proof.Machine.execTsqStop who seq s
  | .tableSwap who seq table variant => Sys2Proof.Machine.execTableSwap who seq table variant s
  | .tableSwapDone seq => Sys2Proof.Machine.execTableSwapDone seq s
  | .seBind who value => Sys2Proof.Machine.execSeBind who value s
  | .seUnbind who value => Sys2Proof.Machine.execSeUnbind who value s
  | .viCreate who vi => Sys2Proof.Machine.execViCreate who vi s
  | .viResize who vi shrinkNow => Sys2Proof.Machine.execViResize who vi shrinkNow s
  | .viReset who vi => Sys2Proof.Machine.execViReset who vi s
  | .viResetDone vi => Sys2Proof.Machine.execViResetDone vi s
  | .viResetLate vi => Sys2Proof.Machine.execViResetLate vi s
  | .viQuiesce who vi => Sys2Proof.Machine.execViQuiesce who vi s
  | .viQuiesced vi => Sys2Proof.Machine.execViQuiesced vi s
  | .viResume who vi => Sys2Proof.Machine.execViResume who vi s
  | .viRemove who vi => Sys2Proof.Machine.execViRemove who vi s
  | .functionLevelReset function => Sys2Proof.Machine.execFunctionLevelReset function s
  | .dmaToIova queue => Sys2Proof.Machine.execDmaToIova queue s
  | .dmaFromIova queue => Sys2Proof.Machine.execDmaFromIova queue s
  | .dmaComplete queue => Sys2Proof.Machine.execDmaComplete queue s
  | .watermarkMove who target mark => Sys2Proof.Machine.execWatermarkMove who target mark s
  | .watermarkMoveDone target => Sys2Proof.Machine.execWatermarkMoveDone target s
  | .watermarkGrant who target upTo => Sys2Proof.Machine.execWatermarkGrant who target upTo s
  | .secureHold who block => Sys2Proof.Machine.execSecureHold who block s
  | .secureRelease who block => Sys2Proof.Machine.execSecureRelease who block s
  | .secureHoldForced => Sys2Proof.Machine.execSecureHoldForced s
  | .watchdogKick who value => Sys2Proof.Machine.execWatchdogKick who value s
  | .watchdogExpiry => Sys2Proof.Machine.execWatchdogExpiry s
  | .secTeStart who => Sys2Proof.Machine.execSecTeStart who s
  | .secTePreempt who => Sys2Proof.Machine.execSecTePreempt who s
  | .secTeResume who => Sys2Proof.Machine.execSecTeResume who s
  | .secTeAbort who => Sys2Proof.Machine.execSecTeAbort who s
  | .attest queue => Sys2Proof.Machine.execAttest queue s
  | .attestKey queue => Sys2Proof.Machine.execAttestKey queue s
  | .toDev who flashOk => Sys2Proof.Machine.execToDev who flashOk s
  | .setDevRoot who flashOk => Sys2Proof.Machine.execSetDevRoot who flashOk s
  | .toProd who flashOk => Sys2Proof.Machine.execToProd who flashOk s
  | .attestKeyGenerated flashOk => Sys2Proof.Machine.execAttestKeyGenerated flashOk s
  | .toRetired who flashOk => Sys2Proof.Machine.execToRetired who flashOk s
  | .governorPeriod counters temps => Sys2Proof.Machine.execGovernorPeriod counters temps s
  | .capWrite who watts => Sys2Proof.Machine.execCapWrite who watts s
  | .park who die engine => Sys2Proof.Machine.execPark who die engine s
  | .engineParked te => Sys2Proof.Machine.execEngineParked te s
  | .unpark who die engine => Sys2Proof.Machine.execUnpark who die engine s
  | .withdraw who die engine => Sys2Proof.Machine.execWithdraw who die engine s
  | .wakeGrant => Sys2Proof.Machine.execWakeGrant s
  | .thermalThrottle die island => Sys2Proof.Machine.execThermalThrottle die island s
  | .thermalEmergency die island => Sys2Proof.Machine.execThermalEmergency die island s
  | .thermalEmergencyEnd => Sys2Proof.Machine.execThermalEmergencyEnd s
  | .thermalTrip die => Sys2Proof.Machine.execThermalTrip die s
  | .tripRecovery => Sys2Proof.Machine.execTripRecovery s
  | .gfxPreempt who ctx tiles events => Sys2Proof.Machine.execGfxPreempt who ctx tiles events s
  | .gfxAbort who ctx => Sys2Proof.Machine.execGfxAbort who ctx s
  | .gfxResume who ctx draw => Sys2Proof.Machine.execGfxResume who ctx draw s
  | .gfxTileTimeout ctx => Sys2Proof.Machine.execGfxTileTimeout ctx s
  | .gfxFlush ctx events rest => Sys2Proof.Machine.execGfxFlush ctx events rest s
  | .compositionStart pipe draw events => Sys2Proof.Machine.execCompositionStart pipe draw events s
  | .displayLatch pipe => Sys2Proof.Machine.execDisplayLatch pipe s
  | .displayLine pipe line ready => Sys2Proof.Machine.execDisplayLine pipe line ready s
  | .displayStatusPacket pipe => Sys2Proof.Machine.execDisplayStatusPacket pipe s
  | .displayFlip who pipe value => Sys2Proof.Machine.execDisplayFlip who pipe value s
  | .telltaleStateWrite who region value => Sys2Proof.Machine.execTelltaleStateWrite who region value s
  | .telltaleApply region => Sys2Proof.Machine.execTelltaleApply region s
  | .telltaleRenderDone region wrong => Sys2Proof.Machine.execTelltaleRenderDone region wrong s
  | .telltaleCheck region badWord wrong => Sys2Proof.Machine.execTelltaleCheck region badWord wrong s
  | .mediaSessionOpen who session value => Sys2Proof.Machine.execMediaSessionOpen who session value s
  | .mediaSessionClose who session => Sys2Proof.Machine.execMediaSessionClose who session s
  | .hostInboundRequest req => Sys2Proof.Machine.execHostInboundRequest req s
  | .hpLinkDown link lost => Sys2Proof.Machine.execHpLinkDown link lost s
  | .hpFenceRead who => Sys2Proof.Machine.execHpFenceRead who s
  | .inboundAtomic req refused => Sys2Proof.Machine.execInboundAtomic req refused s
  | .brLockTimeout line => Sys2Proof.Machine.execBrLockTimeout line s
  | .inboundLockedRead req => Sys2Proof.Machine.execInboundLockedRead req s
  | .unlock link => Sys2Proof.Machine.execUnlock link s
  | .outboundAmo who addr op size value refused => Sys2Proof.Machine.execOutboundAmo who addr op size value refused s
  | .claimBackoffRetry seq refused => Sys2Proof.Machine.execClaimBackoffRetry seq refused s
  | .gwIngressMessage isQueue flow bus format identifier sdt vcid flags af payload => Sys2Proof.Machine.execGwIngressMessage isQueue flow bus format identifier sdt vcid flags af payload s
  | .gwInEntry queue => Sys2Proof.Machine.execGwInEntry queue s
  | .gwContextEnable who context enable => Sys2Proof.Machine.execGwContextEnable who context enable s
  | .ethFrameReceive port frame => Sys2Proof.Machine.execEthFrameReceive port frame s
  | .ethTransmit queue => Sys2Proof.Machine.execEthTransmit queue s
  | .launchTime port => Sys2Proof.Machine.execLaunchTime port s
  | .gclEntryExpiry port => Sys2Proof.Machine.execGclEntryExpiry port s
  | .gclStage who port src => Sys2Proof.Machine.execGclStage who port src s
  | .gclConfigChange port => Sys2Proof.Machine.execGclConfigChange port s
  | .ptpSync domain gm offset rate servo => Sys2Proof.Machine.execPtpSync domain gm offset rate servo s
  | .syncReceiptTimeout domain => Sys2Proof.Machine.execSyncReceiptTimeout domain s
  | .timeRead who => Sys2Proof.Machine.execTimeRead who s
  | .ulkLaneEnable who die lane enable => Sys2Proof.Machine.execUlkLaneEnable who die lane enable s
  | .ulkLightDetected die lane => Sys2Proof.Machine.execUlkLightDetected die lane s
  | .ulkLocked die lane => Sys2Proof.Machine.execUlkLocked die lane s
  | .ulkAligned die lane => Sys2Proof.Machine.execUlkAligned die lane s
  | .ulkLockLost die lane => Sys2Proof.Machine.execUlkLockLost die lane s
  | .ulkSop die lane body => Sys2Proof.Machine.execUlkSop die lane body s
  | .ulkLine die lane body => Sys2Proof.Machine.execUlkLine die lane body s
  | .ulkEop die lane body => Sys2Proof.Machine.execUlkEop die lane body s
  | .fwLoad who => Sys2Proof.Machine.execFwLoad who s
  | .fwLoaded die => Sys2Proof.Machine.execFwLoaded die s
  | .fwStage who => Sys2Proof.Machine.execFwStage who s
  | .fwActivate who => Sys2Proof.Machine.execFwActivate who s
  | .handoffStart => Sys2Proof.Machine.execHandoffStart s
  | .fwHandoff die sections => Sys2Proof.Machine.execFwHandoff die sections s
  | .fwRollback die => Sys2Proof.Machine.execFwRollback die s
  | .fwActivationExpired => Sys2Proof.Machine.execFwActivationExpired s
  | .fwCancel who => Sys2Proof.Machine.execFwCancel who s
  | .fwCommit who => Sys2Proof.Machine.execFwCommit who s
  | .fwReloaded pair => Sys2Proof.Machine.execFwReloaded pair s
  | .driverHeartbeat who slot => Sys2Proof.Machine.execDriverHeartbeat who slot s
  | .heartbeatWindow slot => Sys2Proof.Machine.execHeartbeatWindow slot s
  | .driverAttach who slot => Sys2Proof.Machine.execDriverAttach who slot s
  | .driverDetach who slot => Sys2Proof.Machine.execDriverDetach who slot s
  | .fwTeardown slot => Sys2Proof.Machine.execFwTeardown slot s
  | .errorRecordArrival corrupt => Sys2Proof.Machine.execErrorRecordArrival corrupt s
  | .errNextRead who => Sys2Proof.Machine.execErrNextRead who s
  | .errDone who index => Sys2Proof.Machine.execErrDone who index s
  | .errInject who value => Sys2Proof.Machine.execErrInject who value s
  | .healthLogWrite => Sys2Proof.Machine.execHealthLogWrite s
  | .hlogRead who value => Sys2Proof.Machine.execHlogRead who value s
  | .pairAddressMiscompare pair count => Sys2Proof.Machine.execPairAddressMiscompare pair count s
  | .hostLinkUp link speed width atomics => Sys2Proof.Machine.execHostLinkUp link speed width atomics s
  | .ethLinkUp port => Sys2Proof.Machine.execEthLinkUp port s
  | .ethLinkDown port => Sys2Proof.Machine.execEthLinkDown port s
  | .fallbackSlotComplete slot => Sys2Proof.Machine.execFallbackSlotComplete slot s

end Sys2Proof.Machine
end

