-- ==== Sys2Proof/Machine/Step.lean ====
section
/-! DEFINITION. One step of the block: the command at the front of the queue, or one period of the 38.4 MHz oscillator. -/

namespace Sys2Proof.Machine

/-- Whether the waiting commands are none. -/
def State.idle (s : State) : Bool := s.pending.isEmpty

/-- One step: the command at the front of the queue takes effect and leaves the queue; with none waiting, the time
counter and device time advance by one oscillator period (R53, R518). -/
def step (s : State) : Host.Outcome State Fault Refusal :=
  match s.pending with
  | [] => .next s.tick
  | c :: rest => exec c { s with pending := rest }

/-- The state with a command put at the front of its queue. -/
def State.withCommand (s : State) (c : Instr) : State := { s with pending := c :: s.pending }

/-- The state with the command that a word spells at the front of its queue; unchanged where it spells none. -/
def State.withFetchWord (s : State) (nbits w : Nat) : State :=
  match decodeTableWord nbits w with
  | none => s
  | some c => s.withCommand c

end Sys2Proof.Machine
end

