-- ==== Sys2Proof/Safety.lean ====
section
/-! DEFINITION. What counts as a sound state and a safe step, in the terms that the statements use. -/

namespace Sys2Proof.Machine

/-- Whether the memory and the register store are in their canonical forms. -/
abbrev State.canonical (s : State) : Prop := Memory.wf s.mem = true ∧ storeRises s.regs = true

/-- Whether an outcome is a next state. -/
def proceeds (r : Host.Outcome State Fault Refusal) : Prop := ∃ t, r = .next t

/-- Whether an outcome is a next state that has a property. -/
def nextWith (r : Host.Outcome State Fault Refusal) (P : State → Prop) : Prop := ∃ t, r = .next t ∧ P t

/-- Whether every byte of the physical address space reads the same in two states. -/
def sameBytes (s t : State) : Prop := ∀ a, t.byteAt a = s.byteAt a

/-- Whether every register outside a list of addresses reads the same in two states. -/
def sameRegsBut (as : List Nat) (s t : State) : Prop := ∀ a, a ∉ as → t.reg a = s.reg a

/-- The codes of the records that one state has on their way and an earlier one had not. -/
def newCodes (s t : State) : List Nat := (t.err.inFlight.drop s.err.inFlight.length).map ErrRec.code

/-! ### An instruction of a tensor engine -/

/-- Whether an engine runs and its next instruction word is w, which carries an opcode, is well formed and passes its
guard (R121, R146). -/
def State.runsWord (s : State) (te op w : Nat) : Bool :=
  (te < 64 || te == 128 || te == 129) && (s.teStat te == tsRunning || s.teStat te == tsWaiting) && !s.teStalled te
    && (s.eng te).program[s.tePc te]? == some w && bits w 0 8 == op
    && (opFields w).any (reservedClear w) && guardCode w && fieldsInRange te w && guardHolds w (s.eng te).preds

/-- The pc and the loops that follow an engine's instruction in sequence. -/
def State.nextPlace (s : State) (te : Nat) : Nat × List (Nat × Nat × Nat) := loopNext (s.tePc te) (s.eng te).loops

/-- Whether the instruction that follows in sequence lies in the program. -/
def State.followed (s : State) (te : Nat) : Bool := (s.nextPlace te).1 < (s.eng te).program.length

/-- An instruction of an engine completed in sequence with its effect on the engine alone: the engine is the one given
but for its loops, it runs at the next pc, every other engine is as it was, and no register changed but TE_STATUS. -/
def teStep (te : Nat) (e : Engine) (s t : State) : Prop :=
  t.eng te = { e with loops := (s.nextPlace te).2 } ∧ t.tePc te = (s.nextPlace te).1 % 4096 ∧ t.teStat te = tsRunning
    ∧ (∀ n, n ≠ te → t.eng n = s.eng n) ∧ sameRegsBut [fldAddr F.teStatus_state (te / 16) (te % 16) 0] s t
    ∧ t = { s with regs := t.regs, engines := t.engines }

/-! ### A ring of a stream engine -/

/-- Whether a ring may issue its next descriptor, and that descriptor reads as d, is well formed and has an operation
code (R166 to R168). -/
def State.ringIssues (s : State) (n op : Nat) (d : List Byte) : Bool :=
  let a := s.descAddr n (s.ring n).issue
  let u := s.fetchBytes (.ring n) a 64
  (s.ringSt n == rgRunning || s.ringSt n == rgWaiting) && !(s.ring n).pausing && (s.ring n).issue != s.ringTail n
    && s.checkAccess (.ring n) false a 64 == .pass && (s.poisonIn (.ring n) a 64).isNone && u.2 == d
    && descOk (u.1.job (u.1.ringJob n)).ranks.length d && descOp d == op

/-- The state in which the ring's next descriptor has been read. -/
def State.ringRead64 (s : State) (n : Nat) : State := (s.fetchBytes (.ring n) (s.descAddr n (s.ring n).issue) 64).1

/-- A ring's books after it issued descriptor d with a CRC. -/
def State.issuedBooks (s : State) (n : Nat) (d : List Byte) (crc : Nat) : RingState :=
  { s.ring n with inFlight := (s.ring n).inFlight ++ [⟨(s.ring n).issue, d, crc⟩], issue := ringNext (s.ring n).issue }

/-! ### A command of a system queue -/

/-- Whether firmware runs, and the entry at the head of a system queue of an instance can be read, is e, and carries a
command code (R229, R230, R532). -/
def State.sysEntry (s : State) (q code vi : Nat) (e : List Byte) : Bool :=
  isSystem q && (List.range 4).all s.firmwareStarts && s.queueReady q && (s.readEntryAt q (s.qHead q) 256).2 == some e
    && leAt e 0 1 == code && s.qVi q == vi

/-- The state in which the entry of n bytes at the head of a queue has been read: the read is counted, and corrects what it
can. -/
def State.entryRead (s : State) (q n : Nat) : State := (s.readEntryAt q (s.qHead q) n).1

/-- Whether a number names a completion queue of an instance that takes a record at once (R233, R235). -/
def State.cqOpen (s : State) (vi cq : Nat) : Bool := s.cqValid vi cq && !s.cqBlocked cq && (s.cq cq).held.isEmpty

/-- The address of the next record of a completion queue. -/
def State.cqNext (s : State) (cq : Nat) : Nat := s.qEntry cq (s.qTail cq) 64

/-- The command in entry e was completed: its record stands at the tail of its completion queue, with its tag, the
command flag, its status and its result, and the tail has moved on (R230, R234). -/
abbrev answered (s t : State) (e : List Byte) (status result : Nat) : Prop :=
  let cq := leAt e 4 2
  let a := s.cqNext cq
  t.qTail cq = (s.qTail cq + 1) % 65536 ∧ t.numAt a 2 = leAt e 2 2 ∧ t.numAt (a + 6) 1 = status
    ∧ bit (t.numAt (a + 7) 1) 1 = true ∧ t.numAt (a + 56) 8 = result

/-- Every byte outside the next record of a completion queue reads as before. -/
def sameButRecord (s t : State) (cq : Nat) : Prop := ∀ a, a < s.cqNext cq ∨ s.cqNext cq + 64 ≤ a → t.byteAt a = s.byteAt a

/-! ### Dispatch and resumption -/

/-- The ranks of a job resume on their engines one after the other. -/
def State.resumeAll (s : State) (j : Nat) (rs : List Nat) : State :=
  rs.foldl (fun v r =>
    match v.rankEngine j r with
    | none => v
    | some te => if v.jobLive j then v.opTeResume te .clean else v) s

/-- A job is RUNNING on engines rank by rank, and the job registers of each name it and its rank. -/
def boundTo (s : State) (j : Nat) (tes : List Nat) : Prop :=
  s.jobState j = jsRunning ∧ (s.job j).ranks = tes
    ∧ ∀ r < tes.length, ∀ te, tes[r]? = some te → s.fget F.teJob_job_ctx (te / 16) (te % 16) 0 = j
      ∧ s.fget F.teJob_rank (te / 16) (te % 16) 0 = r

/-! ### Instances -/

/-- Whether nothing works for an instance but its queues: no job, no registered buffer, no ring that is not IDLE, no
input group and no graphics context. -/
def State.viQuiet (s : State) (vi : Nat) : Bool :=
  (s.jobsOf vi).isEmpty && allBuffers.all (fun p => !(s.bufValid p.1 p.2 && s.bufVi p.1 p.2 == vi)) && (s.viRings vi).isEmpty
    && (List.range 32).all (fun g =>
      !(s.grpFld F.ippGrpCfg_vi g == vi && s.fon F.ippGrpCfg_enable (grpDie g) (g % 16) 0))
    && (List.range 16).all (fun c => !(s.fget F.gfxCtx_vi 5 0 c == vi && s.gfxState c != gcIdle))

/-- Whether a queue of an instance is ACTIVE again after its instance: it was FROZEN, and no lost driver holds it. -/
def State.thaws (s : State) (vi q : Nat) : Bool := s.qState q == 2 && !s.heldByDriver vi q

/-- Whether two units' configurations of instances are the same (R368). -/
def sameConfig (s t : State) (src dst : Nat) : Prop :=
  ∀ off ∈ viConfig, t.reg (regBase 4 + off + dst * bankStride) = s.reg (regBase 4 + off + src * bankStride)

/-- The DMA queue's next entry can be read, is e, and is well formed with an operation code (R371). -/
def State.dmaEntry (s : State) (queue op : Nat) (e : List Byte) : Bool :=
  isDma queue && s.queueReady queue && (s.readEntryAt queue (s.qHead queue) 64).2 == some e && dmaOk e
    && leAt e 0 1 == op

/-- A state with a descriptor more in flight. -/
def State.inFlightDma (s : State) (queue : Nat) (e : List Byte) (moved status : Nat) : State :=
  { s with vis := { s.vis with dma := s.vis.dma ++
    [{ queue, tag := leAt e 2 2, cq := leAt e 4 2, record := bit (leAt e 1 1) 0, moved, status }] } }

/-! ### Worlds -/

/-- Whether an initiator may have the selected engine act for the vault: it is te, of a held cluster, and not in a golden
test (R398). -/
def State.vaultEngine (s : State) (who : Initiator) (te : Nat) : Bool :=
  secRight who && s.fget F.secTeSel_engine 4 0 0 == te && s.blockHeld (te / 2) && !s.testing te

/-- Whether an address lies in granules [lo, hi) of a watermark target. -/
def State.inMarks (s : State) (target lo hi a : Nat) : Bool :=
  (s.markPlace a).any (fun p => p.1 == target && lo ≤ p.2 && p.2 < hi)

/-- A lifecycle request r for a move by an initiator that may write CFG_LIFE_CMD, while none is under way (R414). -/
def State.lifeAsks (s : State) (who : Initiator) (op : Nat) (r : List Byte) : Bool :=
  s.loaderRight who && !s.fon F.cfgLifeCmd_busy 4 0 0 && s.lifeRequest.2 == some r && leAt r 6 1 == op

/-- The status of the last lifecycle request. -/
def State.lifeAnswer (s : State) : Nat := s.fget F.cfgLifeCmd_status 4 0 0

/-! ### Registers and the bridge -/

/-- Whether an access of a size at an address reaches x, a register of register space that neither a doorbell nor a
window nor a mirror stands in front of (R4, R23, R391). -/
def State.reachesReg (s : State) (who : Initiator) (addr size : Nat) (x : RegSite) : Bool :=
  who.reachesRegisters && !secBlocked who addr && widthOk addr size && (doorbellAt addr).isNone && !inIommu addr
    && !onlyOnS addr && (ringWindowAt addr).isNone && s.site addr == some x
    && (x.die != 4 || (mirrorOff x.desc.off).isNone)

/-- The registers whose write the block follows up at once: DSP_CFG, VI_SEL, TIM_DOM and IPP_GRP_CFG. -/
def followedUp (x : RegSite) : Bool := [0x201000, 0x200100, 0x400108, 0x281008].contains x.desc.off

/-- The register after a write of its fields, and whether a code was reserved (R6, R10). -/
def State.written (s : State) (x : RegSite) (addr size : Nat) (value : Word) : Nat × Bool :=
  writeFields x.desc.fields (s.reg x.addr) (accessValue addr size value.toNat) (accessMask addr size)

/-- Whether a request of an initiator for [a, a + n) of memory is let through: it waits behind no claim, the direct path
is up, every check passes, no storage fault waits there, and no granule of a gate's buffer is meant (R24, R161). -/
def State.memoryOpen (s : State) (who : Initiator) (write : Bool) (a n : Nat) : Bool :=
  n != 0 && !s.claimed a n none && s.pathUp who.die (s.dieOf a) && s.checkAccess who write a n == .pass
    && (placeOf a == .lpddr || (match placeOf a with | .scratchpad _ _ => true | _ => false))
    && s.softWords.isEmpty && s.softLines.isEmpty && (granPieces a n).all (fun p => (s.publicAt p.1).isNone)
    && !(granPieces a n).any (fun p => s.poisoned p.1 p.2)

/-- The port takes a request on its link, and it names address a for an initiator (R77, R366, R384, R477). -/
def State.hostNames (s : State) (req : HostRequest) (who : Initiator) (a : Nat) : Bool :=
  s.hostListens req.link && s.hostTarget req == .at who a

/-- An inbound AtomicOp of n bytes that its target takes (R484, R485). -/
def State.atomicOpen (s : State) (req : HostRequest) (who : Initiator) (a n : Nat) : Bool :=
  s.hostNames req who a && (n == 4 || n == 8 || n == 16 && req.op == 2) && a % n == 0
    && s.memoryOpen who true a n && s.bridge.locks.length < 64

/-! ### Batches of the input pipelines -/

/-- Whether the pipelines' writes of n bytes at an address for a group are let through (R279). -/
def State.ippAllows (s : State) (g a n : Nat) : Bool :=
  s.checkAccess (.service (some (F.ippGrpCfg_vi.of (s.ippGroup g).cfg))) true a n == .pass

/-- A batch that a group's window is filling, in a buffer of its own, whose headers may be written and which its
consumers still want (R270, R277). -/
def State.batchOpen (s : State) (g : Nat) (b : Batch) : Bool :=
  let x := s.ippGroup g
  let a := s.batchAddr g b.buf
  !b.done && b.buf < x.bufs.length && s.ippAllows g a 64
    && (List.range b.slots.length).all (fun i => s.ippAllows g (a + 64 + 32 * i) 32)
    && !(F.ippGrpCfg_rt.of x.cfg == 1 && lateBatch x.passed b.window)

/-- The batch of a group's buffer became PREPARED (R270). -/
def batchPrepared (s t : State) (g : Nat) (b : Batch) : Prop :=
  (t.ippGroup g).bufs[b.buf]? = some (.prepared b.window) ∧ (t.ippGroup g).order = (s.ippGroup g).order ++ [b.buf]
    ∧ t.numAt (s.batchAddr g b.buf) 4 = b.window % 2 ^ 32

/-! ### An instruction of a tahr sequencer -/

/-- The pc of a sequencer. -/
def State.sqPc (s : State) (seq : Nat) : Nat := s.fget F.tsqState_pc 4 0 seq

/-- Whether a sequencer runs and its next word is w, a legal instruction of an opcode (R342 to R346). -/
def State.tahrRuns (s : State) (seq op w : Nat) : Bool :=
  (s.sqState seq == sqRunning || s.sqState seq == sqStalled || (s.sqState seq == sqWaiting && op == 0x2A))
    && !s.tahrSuspended seq && !s.logicFrozen (seqDie seq) && (s.tahrSeq seq).code[s.sqPc seq]? == some w
    && bits w 26 6 == op && tahrLegal w

/-- An instruction of a sequencer completed in order with its effect on the sequencer alone: it is x, it runs at the next
pc, every other sequencer is as it was, and no register changed but TSQ_STATE. -/
def tahrDone (seq : Nat) (x : TahrSeq) (s t : State) : Prop :=
  t.tahrSeq seq = x ∧ t.sqPc seq = tahrNext (s.sqPc seq) ∧ t.sqState seq = sqRunning
    ∧ (∀ n, n ≠ seq → t.tahrSeq n = s.tahrSeq n) ∧ sameRegsBut [fldAddr F.tsqState_state 4 0 seq] s t
    ∧ t = { s with regs := t.regs, tahr := t.tahr }

/-- Bytes [a, a + n) of a sequencer's data memory. -/
def TahrSeq.dataAt (x : TahrSeq) (a n : Nat) : List Byte := (List.range n).map (fun i => storeGet 0 x.data (a + i))

/-- Key and value i of a keyed table at an address of data memory (R350). -/
def TahrSeq.pairAt (x : TahrSeq) (t i : Nat) : Nat × Nat :=
  (leNat (x.dataAt (t + 8 + 8 * i) 4), leNat (x.dataAt (t + 12 + 8 * i) 4))

end Sys2Proof.Machine
end

