-- ==== Sys2Proof/Certificates/Slice0/Obligations.lean ====
section
/-! DEFINITION. The statements about the model: what each command does, what it leaves, and the invariants of a step. -/

open Sys2Proof Sys2Proof.Machine

/-- Completion of the commands of the start. A power-good on a cold device runs steps 1 to 8: RETIRED_HOLD where the
ledger says RETIRED, RECOVERY where no calibration page or no bank verifies, else SAFETY_UP. Then each step of the
start, where its own preconditions hold, has its effect: the phase, the times, the trained stacks with the
capability table, the golden areas (or, where their record fails, the bank marked failed), the engines that stay
usable after the island tests. For each of powerGood, safetyInService, lpddr6Training, goldenAreaWrite,
computeIslandTest, computeReady, it concludes that exec answers a next state. -/
def Obligations.ColdStartReachesAPhase : Prop :=
  (∀ (s : State),
    s.boot.railsOk = 0x3F →
    s.boot.powered = false →
    ∃ t, exec (.powerGood true) s = .next t ∧
      t.boot.powered = true ∧
      (if s.flash.lifecycle = lcRetired then t.phase = phRetired
        else if s.calibCopy = none then t.phase = phRecovery
        else t.phase = phRecovery ∨ t.phase = phSafetyUp)) ∧
  (∀ (s : State) (selfTests : Nat),
    s.phase = phSafetyUp →
    s.sentinelUp = true →
    s.boot.stopped = false →
    ∃ t, exec (.safetyInService selfTests) s = .next t ∧
      t = { s with regs := t.regs, err := t.err, safety := t.safety } ∧
      t.phase = s.phaseAfter9 ∧
      t.safety.starting = false ∧
      t.fget F.safStatus_safe_state 4 0 0 = 0 ∧
      t.fget F.cfgBootTimes_safety_us 4 0 0 = s.nowUs % 2 ^ 32) ∧
  (∀ (s : State) (present : Nat),
    s.boot.memTrained = false →
    s.boot.stopped = false →
    (s.boot.loaded = true ∨ s.phase = phRecovery) →
    ∃ t, exec (.lpddr6Training present) s = .next t ∧
      t = { s with regs := t.regs, err := t.err, boot := { s.boot with memTrained := true, stackMask := present % 256 } } ∧
      (s.boot.loaded = true → t.fget F.cfgCapsClusterMap_stack_usable 4 0 0 = present % 256 ∧
        t.fget F.cfgCapsCounts_stacks 4 0 0 = popcount present 8 ∧
        t.fget F.cfgCapsCounts_lpddr_gib 4 0 0 = 16 * popcount present 8) ∧
      (∀ n < 8, t.fget F.memStatus_trained (n / 2) (n % 2) 0 = (bit present n).toNat)) ∧
  (∀ (s : State),
    s.boot.loaded = true →
    s.boot.memTrained = true →
    s.boot.goldenWritten = 0 →
    ∃ t, exec (.goldenAreaWrite) s = .next t ∧
      (match (s.recTable s.boot.imageBank).find? (fun r => r.type == rtGolden) with
        | none => t = s
        | some r =>
        if s.payloadFails s.boot.imageBank r = false ∧ s.digestOk s.boot.imageBank r = true ∧
        s.looseOk s.boot.imageBank r = true ∧ s.goldenPlaced (s.payload s.boot.imageBank r) = true then
        t.boot.goldenWritten = 0xF ∧ t.safety.goldenBase = goldenBases (s.payload s.boot.imageBank r) ∧
        t.safety.goldenProgLen = leAt (s.payload s.boot.imageBank r) 4 4
        else t.boot.goldenWritten = 0 ∧ t.boot.bankFailedLate = true ∧ t.mem = s.mem)) ∧
  (∀ (s : State) (passed : Nat),
    s.boot.loaded = true →
    s.boot.islandsTested = false →
    s.boot.memTrained = true →
    ∃ t, exec (.computeIslandTest passed) s = .next t ∧
      t.boot.islandsTested = true ∧
      (∀ te < 64, t.engineUsable te = (s.engineUsable te && bit passed (te / 2) && s.boot.goldenWritten == 0xF)) ∧
      t.mem = s.mem) ∧
  (∀ (s : State),
    s.phase = phSafetyInService →
    s.boot.islandsTested = true →
    ∃ t, exec (.computeReady) s = .next t ∧
      t.phase = phComputeReady ∧
      t.fget F.cfgBootTimes_compute_us 4 0 0 = t.nowUs % 2 ^ 32)

/-- Completion of the commands of rails, trips and restarts. The loss of a rail enters the safe state for its reason,
and the loss of VIN_LOGIC or a thermal trip loses every byte and every engine, ring and granule that the logic held;
VIN_SAFE stops the device. A rail that returns changes nothing but its bit. A logic warm restart ends the safe state
in SAFETY_IN_SERVICE; a whole warm restart leads to SAFETY_UP or RECOVERY, and a fourth one within 60 s is withheld;
the end of a trip asks for a whole warm restart at once. For each of railLoss, railRestored, logicWarmRestart,
wholeWarmRestart, thermalTrip, tripRecovery, it concludes that exec answers a next state. -/
def Obligations.RailsAndRestartsComplete : Prop :=
  (∀ (s : State) (rail : Rail),
    s.canonical →
    s.boot.powered = true →
    bit s.boot.railsOk rail.index = true →
    ∃ t, exec (.railLoss rail) s = .next t ∧
      t.boot.railsOk = setBit s.boot.railsOk rail.index false ∧
      t.safety.deviceReason = rsRailLoss ∧
      t.fget F.safStatus_safe_state 4 0 0 = 1 ∧
      t.boot.stopped = (rail == .vinSafe || s.boot.stopped) ∧
      (if rail = .vinLogic then t.boot.memTrained = false ∧ t.engines = [] ∧ t.rings = [] ∧ t.opens = [] else t.mem = s.mem) ∧
      (∀ a, rail = .vinLogic ∧ safeByte a = false → t.byteAt a = 0) ∧
      (∀ a, safeByte a = true → t.byteAt a = s.byteAt a)) ∧
  (∀ (s : State) (rail : Rail),
    ∃ t, exec (.railRestored rail) s = .next t ∧
      (t = if bit s.boot.railsOk rail.index then s else
        { s with boot := { s.boot with railsOk := setBit s.boot.railsOk rail.index true, railBack := s.periods } })) ∧
  (∀ (s : State),
    s.boot.railsOk = 0x3F →
    s.boot.stopped = false →
    s.boot.loaded = true →
    s.boot.railLost = true →
    s.boot.railBack + 76800 ≤ s.periods →
    ∃ t, exec (.logicWarmRestart) s = .next t ∧
      (t.phase = (if s.safety.starting then phSafetyUp else phSafetyInService)) ∧
      (s.safety.starting = false ∧ s.safety.deviceReason = rsRailLoss → t.safety.deviceReason = 0 ∧
        t.safety.fallbackOff = false ∧ t.fget F.safStatus_safe_state 4 0 0 = 0) ∧
      t.boot.railLost = false) ∧
  (∀ (s : State) (r : Nat),
    s.boot.restartTime = some r →
    r ≤ s.periods →
    s.boot.stopped = false →
    s.safety.stays = false →
    s.boot.loaded = true →
    s.recentRestarts.length < 3 →
    ∃ t, exec (.wholeWarmRestart) s = .next t ∧
      (if s.flash.lifecycle = lcRetired then t.phase = phRetired else t.phase = phSafetyUp ∨ t.phase = phRecovery)) ∧
  (∀ (s : State) (r : Nat),
    s.boot.restartTime = some r →
    r ≤ s.periods →
    s.boot.stopped = false →
    s.safety.stays = false →
    s.boot.loaded = true →
    3 ≤ s.recentRestarts.length →
    ∃ t, exec (.wholeWarmRestart) s = .next t ∧
      t = { s with regs := t.regs, err := t.err, safety := { s.safety with stays := true, deviceReason := rsRestartLimit }, boot := { s.boot with restartTime := none } } ∧
      t.fget F.safStatus_reason 4 0 0 = rsRestartLimit ∧
      t.fget F.safStatus_safe_state 4 0 0 = 1) ∧
  (∀ (s : State) (die : Nat),
    s.canonical →
    s.power.tripped = false →
    ∃ t, exec (.thermalTrip die) s = .next t ∧
      t.power.tripped = true ∧
      t.boot.memTrained = false ∧
      (t.engines = [] ∧ t.rings = [] ∧ t.opens = []) ∧
      (∀ a, safeByte a = false → t.byteAt a = 0)) ∧
  (∀ (s : State) (c : Nat),
    s.power.tripCool = some c →
    s.power.tripped = true →
    c + 38400000 ≤ s.periods →
    s.power.trips.length < 2 →
    ∃ t, exec (.tripRecovery) s = .next t ∧
      t = { s with power := { s.power with tripped := false, tripCool := none }, boot := { s.boot with restartTime := some s.periods } })

/-- Completion and frame of the loader's bank commands. BOOT_COMMIT makes the running TRIAL bank VALID and raises the
floor; BOOT_SWITCH makes the other bank the preferred TRIAL bank; BOOT_RESTART asks for a whole warm restart now;
FLASH_PROGRAM empties its target bank, keeps the source and shows busy; FLASH_PROGRAM_DONE writes the source's bytes
to the bank, which becomes TRIAL. Nothing else of the state changes, and no byte outside the bank. For each of
bootCommit, bootSwitch, bootRestart, flashProgram, flashProgramDone, it concludes that exec answers a next state. -/
def Obligations.BankCommandsComplete : Prop :=
  (∀ (s : State) (who : Initiator) (e : BankEntry),
    s.loaderRight who = true →
    s.bankEntry = some e →
    e.state s.boot.imageBank = .trial →
    s.boot.loaded = true →
    s.boot.bankFailedLate = false →
    ∃ t, exec (.bootCommit who) s = .next t ∧
      t = { s with regs := t.regs, flash := t.flash, resp := {} } ∧
      (t.bankEntry.map (fun x => x.state s.boot.imageBank) = some .valid) ∧
      (t.bankEntry.map (fun x => x.attempt) = some false) ∧
      t.flash.floor = max s.flash.floor s.boot.imageFloor ∧
      t.fget F.cfgBootStatus_trial 4 0 0 = 0) ∧
  (∀ (s : State) (who : Initiator) (e : BankEntry),
    s.loaderRight who = true →
    s.bankEntry = some e →
    (e.state (1 - s.boot.imageBank) = .valid ∨ e.state (1 - s.boot.imageBank) = .trial) →
    s.boot.loaded = true →
    ∃ t, exec (.bootSwitch who) s = .next t ∧
      t = { s with regs := t.regs, flash := t.flash, resp := {} } ∧
      (t.bankEntry.map (fun x => x.state (1 - s.boot.imageBank)) = some .trial) ∧
      (t.bankEntry.map (fun x => x.preferred) = some (if s.boot.imageBank = 0 then 1 else 0))) ∧
  (∀ (s : State) (who : Initiator),
    s.loaderRight who = true →
    ∃ t, exec (.bootRestart who) s = .next t ∧
      t = { s with boot := { s.boot with restartTime := some s.periods }, resp := {} }) ∧
  (∀ (s : State) (who : Initiator) (value : Word),
    s.loaderRight who = true →
    s.fon F.cfgFlashCmd_busy 4 0 0 = false →
    F.cfgFlashCmd_target.of value.toNat ≠ 3 →
    (1 ≤ F.cfgFlashCmd_sectors.of value.toNat ∧ F.cfgFlashCmd_sectors.of value.toNat ≤ 8192) →
    (F.cfgFlashCmd_target.of value.toNat = 0 ∨ s.phase = phRecovery) →
    (s.boot.loaded = false ∨ s.boot.imageBank ≠ s.targetBank (F.cfgFlashCmd_target.of value.toNat)) →
    ∃ t, exec (.flashProgram who value) s = .next t ∧
      t = { s with regs := t.regs, flash := t.flash, boot := t.boot, resp := {} } ∧
      t.fget F.cfgFlashCmd_busy 4 0 0 = 1 ∧
      t.fget F.cfgFlashCmd_status 4 0 0 = 0 ∧
      t.boot.programSectors = F.cfgFlashCmd_sectors.of value.toNat ∧
      t.boot.programTarget = s.targetBank (F.cfgFlashCmd_target.of value.toNat) ∧
      t.boot.programSource = s.reg (fldPlace F.cfgFlashSrc_src 4 0) % 2 ^ 48 ∧
      (t.bankEntry.map (fun x => x.state t.boot.programTarget) = some .empty)) ∧
  (∀ (s : State),
    s.canonical →
    s.fon F.cfgFlashCmd_busy 4 0 0 = true →
    ∃ t, exec (.flashProgramDone true) s = .next t ∧
      t.fget F.cfgFlashCmd_busy 4 0 0 = 0 ∧
      (match (s.programBytes).2 with
        | none => t.fget F.cfgFlashCmd_status 4 0 0 = bfSource ∧
        (∀ a, bankBase s.boot.programTarget ≤ a ∧ a < bankBase s.boot.programTarget + bankSize → t.byteAt a = 0)
        | some bs => t.bankEntry.map (fun x => x.state s.boot.programTarget) = some .trial ∧
        (∀ i (h : i < bs.length), t.byteAt (bankBase s.boot.programTarget + i) = bs[i])) ∧
      (∀ a, a < bankBase s.boot.programTarget ∨ bankBase s.boot.programTarget + bankSize ≤ a → t.byteAt a = s.byteAt a)) ∧
  (∀ (s : State),
    s.canonical →
    s.fon F.cfgFlashCmd_busy 4 0 0 = true →
    ∃ t, exec (.flashProgramDone false) s = .next t ∧
      t.fget F.cfgFlashCmd_busy 4 0 0 = 0 ∧
      (t.fget F.cfgFlashCmd_status 4 0 0 = (if (s.programBytes).2.isSome then bfWrite else bfSource)) ∧
      (∀ a, bankBase s.boot.programTarget ≤ a ∧ a < bankBase s.boot.programTarget + bankSize → t.byteAt a = 0) ∧
      (∀ a, a < bankBase s.boot.programTarget ∨ bankBase s.boot.programTarget + bankSize ≤ a → t.byteAt a = s.byteAt a))

/-- Completion and frame of the pace commands. A monitor period stores the reading and steps the counts of low and good
readings of that cluster alone; a fifth low reading of a fixed-pace island ends fixed pace on every cluster; an
accepted request queues its clusters and clears the loss; a token release, 3 periods after the last one of its die,
refills an island to 250 tokens at most and counts the slip, and lets a pending request of an island at 0.78 V or
above take effect; that of the chamois unit gives 625 tokens every 24 periods; the chamois pace is lost and restored
with the fallback. For each of paceMonitorPeriod, fixedPaceLost, fixedPaceRequest, paceTokenRelease,
chamoisPaceLost, fallbackRestored, it concludes that exec answers a next state. -/
def Obligations.PaceCommandsComplete : Prop :=
  (∀ (s : State) (cluster : Nat) (steps : Nat),
    cluster < 32 →
    ∃ t, exec (.paceMonitorPeriod cluster steps) s = .next t ∧
      t = { s with regs := t.regs, power := t.power } ∧
      t.isl F.pwrIsl_monitor (cluster / 8) (cluster % 8) = min (steps / 20) 2047 ∧
      (storeGet 0 t.power.low cluster = if steps < 3320 then storeGet 0 s.power.low cluster + 1 else 0) ∧
      (storeGet 0 t.power.good cluster = if steps < 3320 then 0 else min 50 (storeGet 0 s.power.good cluster + 1)) ∧
      sameRegsBut [fldAddr F.pwrIsl_monitor (cluster / 8) 0 (cluster % 8)] s t) ∧
  (∀ (s : State) (steps : Nat),
    ∃ t, exec (.paceMonitorPeriod 32 steps) s = .next t ∧
      t = { s with regs := t.regs, safety := t.safety } ∧
      (t.safety.chuLow = if steps < 2100 then s.safety.chuLow + 1 else 0) ∧
      (t.safety.chuGood = if steps < 2100 then 0 else min 50 (s.safety.chuGood + 1)) ∧
      sameRegsBut [fldAddr F.chuStatus_pace 4 0 0] s t) ∧
  (∀ (s : State) (cluster : Nat),
    cluster < 32 →
    s.isl F.pwrIsl_fixed (cluster / 8) (cluster % 8) = 1 →
    5 ≤ storeGet 0 s.power.low cluster →
    ∃ t, exec (.fixedPaceLost) s = .next t ∧
      t = { s with regs := t.regs, power := t.power, err := t.err } ∧
      (∀ c < 32, t.isl F.pwrIsl_fixed (c / 8) (c % 8) = 0) ∧
      (∀ d < 4, t.fget F.pwrStatus_fixed_pace_lost d 0 0 = 1) ∧
      (t.power.tokens = [] ∧ t.power.fixPending = []) ∧
      newCodes s t = [E.fixedPaceLost.code]) ∧
  (∀ (s : State) (who : Initiator) (die : Nat) (value : Word),
    powerRight who die = true →
    die < 4 →
    bit value.toNat 8 = true →
    (onesBelow (F.pwrFixedReq_clusters.of value.toNat) 8).all (s.canHold die) = true →
    ((onesBelow (F.pwrFixedReq_clusters.of value.toNat) 8).all (fun c => 50 ≤ storeGet 0 s.power.good (die * 8 + c)) = true) →
    ∃ t, exec (.fixedPaceRequest who die value) s = .next t ∧
      t = { s with regs := t.regs, power := t.power, resp := {} } ∧
      t.fget F.pwrFixedReq_status die 0 0 = 0 ∧
      t.power.fixPending = s.power.fixPending ++ (onesBelow (F.pwrFixedReq_clusters.of value.toNat) 8).map (· + die * 8) ∧
      (∀ d < 8, t.fget F.pwrStatus_fixed_pace_lost d 0 0 = 0)) ∧
  (∀ (s : State) (die : Nat) (i : Nat) (used : List Nat),
    die < 4 →
    i < 8 →
    ((storeFind s.power.released die).all (fun r => r + 3 ≤ s.periods) = true) →
    ((List.range 8).all (fun j => !s.power.fixPending.contains (die * 8 + j)) = true) →
    s.isl F.pwrIsl_fixed die i = 1 →
    s.isl F.pwrIsl_pace_limit die i = 0 →
    ∃ t, exec (.paceTokenRelease die used) s = .next t ∧
      t = { s with regs := t.regs, power := { s.power with released := storePut s.power.released die s.periods, tokens := t.power.tokens } } ∧
      storeGet 0 t.power.tokens (die * 8 + i) = min (storeGet 0 s.power.tokens (die * 8 + i) - used[i]?.getD 0 + 125) 250 ∧
      t.fget F.pwrIslSlip_slip die 0 i = satAdd (s.fget F.pwrIslSlip_slip die 0 i)
        (storeGet 0 s.power.tokens (die * 8 + i) - used[i]?.getD 0 + 125 - 250) F.pwrIslSlip_slip.w ∧
      sameRegsBut (fldAddr F.pwrFixedReq_busy die 0 0 :: (List.range 8).map (fldAddr F.pwrIslSlip_slip die 0)) s t) ∧
  (∀ (s : State) (die : Nat) (i : Nat) (used : List Nat),
    die < 4 →
    i < 8 →
    ((storeFind s.power.released die).all (fun r => r + 3 ≤ s.periods) = true) →
    s.power.fixPending.contains (die * 8 + i) = true →
    (78 ≤ s.isl F.pwrIsl_target die i ∧ 78 ≤ s.isl F.pwrIsl_setpoint die i) →
    s.isl F.pwrIsl_pace_limit die i = 0 →
    ∃ t, exec (.paceTokenRelease die used) s = .next t ∧
      t = { s with regs := t.regs, power := t.power } ∧
      t.isl F.pwrIsl_fixed die i = 1 ∧
      t.power.fixPending.contains (die * 8 + i) = false ∧
      storeGet 0 t.power.tokens (die * 8 + i) = min (storeGet 0 s.power.tokens (die * 8 + i) - used[i]?.getD 0 + 125) 250) ∧
  (∀ (s : State) (used : List Nat),
    ((storeFind s.power.released 4).all (fun r => r + 24 ≤ s.periods) = true) →
    ∃ t, exec (.paceTokenRelease 4 used) s = .next t ∧
      t = { s with power := { s.power with released := storePut s.power.released 4 s.periods, tokens := storePut s.power.tokens 32 (storeGet 0 s.power.tokens 32 - used[0]?.getD 0 + 625) } }) ∧
  (∀ (s : State),
    5 ≤ s.safety.chuLow →
    s.safety.chuPaceLost = false →
    ∃ t, exec (.chamoisPaceLost) s = .next t ∧
      t = { s with regs := t.regs, safety := { s.safety with chuPaceLost := true, chuTestPassed := false } } ∧
      (t.fallbackState = if s.fallbackState = 0 then 1 else s.fallbackState) ∧
      sameRegsBut [fldAddr F.safStatus_fallback 4 0 0, fldAddr F.chuStatus_fallback 4 0 0] s t) ∧
  (∀ (s : State),
    s.safety.chuPaceLost = true →
    50 ≤ s.safety.chuGood →
    s.safety.chuTestPassed = true →
    ∃ t, exec (.fallbackRestored) s = .next t ∧
      t = { s with regs := t.regs, safety := { s.safety with chuPaceLost := false } } ∧
      (t.fallbackState = s.fallbackState ∨ s.fallbackState = 1 ∧ t.fallbackState = 0) ∧
      sameRegsBut [fldAddr F.safStatus_fallback 4 0 0, fldAddr F.chuStatus_fallback 4 0 0] s t)

/-- Completion of the commands of droop, margin, crossings and the oscillator. An INFORM crossing is counted and pauses
the wakes of its die for 2 µs; the end of a raise takes the 20 mV back, within the island's range, where the
crossings and reservations allow it; a lost margin freezes its island and takes both engines of it out of service; a
reservation is granted within 300 mV and else refused and counted, and of two at one moment the one of the lower
node number comes first; a hot crossing writes its record; the loss of the oscillator stops the device in the safe
state with device time invalid. For each of droopInform, droopRaiseEnd, marginLost, levelReservation, crossingTemp,
oscFail, it concludes that exec answers a next state. -/
def Obligations.DroopAndMarginCommandsComplete : Prop :=
  (∀ (s : State) (die : Nat) (island : Nat),
    die < 8 →
    island < 10 →
    ∃ t, exec (.droopInform die island) s = .next t ∧
      t = { s with regs := t.regs, power := t.power, err := t.err, tahr := t.tahr } ∧
      bit (t.tahrSeq (64 + die)).events 11 = true ∧
      t.fget F.pwrEvents_inform die 0 0 = satAdd (s.fget F.pwrEvents_inform die 0 0) 1 F.pwrEvents_inform.w ∧
      storeGet 0 t.power.paused die = s.periods + 77) ∧
  (∀ (s : State) (die : Nat) (island : Nat) (e : Nat) (before : Nat),
    die < 8 →
    island < 10 →
    storeFind s.power.raised (die * 16 + island) = some (e, before) →
    e ≤ s.periods →
    ∃ t, exec (.droopRaiseEnd die island) s = .next t ∧
      t = { s with regs := t.regs, power := t.power, err := t.err } ∧
      t.power.raised = storeDrop s.power.raised (die * 16 + island) ∧
      (t.isl F.pwrIsl_target die island =
        if ({ s with power := { s.power with raised := storeDrop s.power.raised (die * 16 + island) } }).canTake die island
        (min before (s.isl F.pwrIsl_target die island)) = true then min before (s.isl F.pwrIsl_target die island)
        else s.isl F.pwrIsl_target die island)) ∧
  (∀ (s : State) (die : Nat) (island : Nat),
    die < 4 →
    island < 8 →
    (s.gftState (die * 16 + 2 * island) < 2 ∨ s.gftState (die * 16 + 2 * island) = gfMargin) →
    (s.gftState (die * 16 + 2 * island + 1) < 2 ∨ s.gftState (die * 16 + 2 * island + 1) = gfMargin) →
    ∃ t, exec (.marginLost die island) s = .next t ∧
      t.power.frozen.contains (die * 16 + island) = true ∧
      t.engineUsable (die * 16 + 2 * island) = false ∧
      t.engineUsable (die * 16 + 2 * island + 1) = false) ∧
  (∀ (s : State) (src : Nat) (dst : Nat) (mv : Nat),
    linked src dst = true →
    s.grants src dst (mv / 10) = true →
    ∃ t, exec (.levelReservation src dst mv []) s = .next t ∧
      t = { s with power := { s.power with reservations := storePut s.power.reservations (src * 8 + dst) (mv / 10) } }) ∧
  (∀ (s : State) (src : Nat) (dst : Nat) (mv : Nat),
    src < 8 →
    linked src dst = true →
    s.grants src dst (mv / 10) = false →
    ∃ t, exec (.levelReservation src dst mv []) s = .next t ∧
      t = { s with regs := t.regs } ∧
      t.fget F.pwrEvents_level_refusals src 0 0 = satAdd (s.fget F.pwrEvents_level_refusals src 0 0) 1 F.pwrEvents_level_refusals.w ∧
      sameRegsBut [fldAddr F.pwrEvents_level_refusals src 0 0] s t) ∧
  (∀ (s : State) (src : Nat) (dst : Nat) (mv : Nat) (w : Nat),
    src < dst →
    dst < 8 →
    linked src dst = true →
    s.grants src dst (mv / 10) = true →
    30 < absDiff (mv / 10) (w / 10) →
    ∃ t, exec (.levelReservation src dst mv [w]) s = .next t ∧
      t = { s with regs := t.regs, power := { s.power with reservations := storePut s.power.reservations (src * 8 + dst) (mv / 10) } } ∧
      t.fget F.pwrEvents_level_refusals dst 0 0 = satAdd (s.fget F.pwrEvents_level_refusals dst 0 0) 1 F.pwrEvents_level_refusals.w) ∧
  (∀ (s : State) (die : Nat) (island : Nat) (other : Nat) (otherIsland : Nat),
    s.power.hot.contains (die * 16 + island, other * 16 + otherIsland) = false →
    s.power.hot.contains (other * 16 + otherIsland, die * 16 + island) = false →
    ∃ t, exec (.crossingTemp die island other otherIsland) s = .next t ∧
      t = { s with regs := t.regs, power := t.power, err := t.err } ∧
      (∀ limit, crossingLimit (die * 16 + island) (other * 16 + otherIsland) = some limit →
        (limit < s.tempDiff (die * 16 + island) (other * 16 + otherIsland) →
        (newCodes s t).head? = some E.crossingTemp.code ∧
        t.power.hot = s.power.hot ++ [(die * 16 + island, other * 16 + otherIsland)]) ∧
        (s.tempDiff (die * 16 + island) (other * 16 + otherIsland) ≤ limit → t = s)) ∧
      (crossingLimit (die * 16 + island) (other * 16 + otherIsland) = none → t = s)) ∧
  (∀ (s : State),
    ∃ t, exec (.oscFail) s = .next t ∧
      t.boot.stopped = true ∧
      t.boot.restartTime = none ∧
      t.fget F.safStatus_time_valid 4 0 0 = 0 ∧
      t.fget F.safStatus_safe_state 4 0 0 = 1 ∧
      t.safety.deviceReason = rsTimeInvalid ∧
      (newCodes s t).head? = some E.oscFail.code ∧
      t.mem = s.mem)

/-- Completion of the commands of the cap, parking, wakes and heat. A cap between 90 W and 400 W is taken; a governor
period leaves every PWR_STATUS at the state of its die; a park of an unprotected, unheld engine is begun with status
0, an engine that has stopped is gated with nothing kept; an unpark of a parked engine queues its wake; a withdrawal
takes back a request that waits for a hold; a granted wake takes its charge and unparks its block; an island at 110
°C is throttled and its die shows it; an emergency is noted with its moment and shown on every die; its end clears
it and shows each die's state again. For each of governorPeriod, capWrite, park, engineParked, unpark, withdraw,
wakeGrant, thermalThrottle, thermalEmergency, thermalEmergencyEnd, it concludes that exec answers a next state. -/
def Obligations.CapParkAndThermalCommandsComplete : Prop :=
  (∀ (s : State) (counters : List Nat) (temps : List Nat),
    s.boot.loaded = true →
    ∃ t, exec (.governorPeriod counters temps) s = .next t ∧
      (∀ d < 8, t.fget F.pwrStatus_state d 0 0 = t.powerState d)) ∧
  (∀ (s : State) (who : Initiator) (watts : Nat),
    powerRight who 4 = true →
    (90 ≤ watts ∧ watts ≤ 400) →
    ∃ t, exec (.capWrite who watts) s = .next t ∧
      t = { s with regs := t.regs, resp := {} } ∧
      t.fget F.pwrCap_cap_w 4 0 0 = watts ∧
      sameRegsBut [fldAddr F.pwrCap_cap_w 4 0 0] s t) ∧
  (∀ (s : State) (who : Initiator) (die : Nat) (engine : Nat),
    die < 4 →
    engine < 16 →
    powerRight who die = true →
    s.unitParked (die * 16 + engine) = false →
    s.power.parking.contains (die * 16 + engine) = false →
    s.unitProtected (die * 16 + engine) = false →
    s.unitHeld (die * 16 + engine) = false →
    ∃ t, exec (.park who die engine) s = .next t ∧
      t.fget F.pwrPark_status die 0 0 = 0 ∧
      t.fget F.pwrPark_busy die 0 0 = 1) ∧
  (∀ (s : State) (who : Initiator) (die : Nat) (engine : Nat),
    die < 4 →
    engine < 16 →
    powerRight who die = true →
    s.unitParked (die * 16 + engine) = false →
    s.power.parking.contains (die * 16 + engine) = false →
    s.unitProtected (die * 16 + engine) = false →
    s.unitHeld (die * 16 + engine) = false →
    s.testing (die * 16 + engine) = true →
    ∃ t, exec (.park who die engine) s = .next t ∧
      t = { s with regs := t.regs, resp := {}, power := { s.power with parking := s.power.parking ++ [die * 16 + engine] } } ∧
      sameRegsBut [fldAddr F.pwrPark_status die 0 0] s t) ∧
  (∀ (s : State) (te : Nat),
    te < 64 →
    s.power.parking.contains te = true →
    s.teFree te = true →
    s.testing te = false →
    ∃ t, exec (.engineParked te) s = .next t ∧
      t = { s with regs := t.regs, engines := t.engines, power := { s.power with parking := s.power.parking.filter (· != te) } } ∧
      t.unitParked te = true ∧
      t.eng te = {} ∧
      t.teStat te = tsIdle ∧
      t.fget F.pwrPark_busy (te / 16) 0 0 = 0) ∧
  (∀ (s : State) (who : Initiator) (die : Nat) (engine : Nat),
    die < 4 →
    engine < 16 →
    powerRight who die = true →
    s.unitParked (die * 16 + engine) = true →
    s.power.parking.contains (die * 16 + engine) = false →
    s.power.emergency = none →
    ∃ t, exec (.unpark who die engine) s = .next t ∧
      t = { s with regs := t.regs, resp := {}, power := t.power } ∧
      t.fget F.pwrPark_status die 0 0 = 0 ∧
      (t.power.wakes.any (fun w => w.1 == die * 16 + engine) = true) ∧
      t.power.capParked.contains (die * 16 + engine) = false) ∧
  (∀ (s : State) (who : Initiator) (die : Nat) (engine : Nat),
    die < 4 →
    engine < 16 →
    powerRight who die = true →
    bit (s.fget F.pwrParked_held_pending die 0 0) engine = true →
    ∃ t, exec (.withdraw who die engine) s = .next t ∧
      t = { s with regs := t.regs, resp := {} } ∧
      t.fget F.pwrPark_status die 0 0 = 3 ∧
      bit (t.fget F.pwrParked_held_pending die 0 0) engine = false ∧
      sameRegsBut [fldAddr F.pwrPark_status die 0 0, fldAddr F.pwrParked_held_pending die 0 0] s t) ∧
  (∀ (s : State) (k : Nat),
    k < 90 →
    s.nextWake = some k →
    s.governorRuns 4 = true →
    s.governorRuns (k / 16) = true →
    wakeCharge k ≤ s.slewLevel →
    ∃ t, exec (.wakeGrant) s = .next t ∧
      t.power.bucket = (s.slewLevel - wakeCharge k, s.periods) ∧
      (t.power.wakes = s.power.wakes.filter (fun w => w.1 != k)) ∧
      t.unitParked k = false ∧
      t.mem = s.mem) ∧
  (∀ (s : State) (die : Nat) (island : Nat),
    die < 8 →
    island < 16 →
    s.power.throttled.contains (die * 16 + island) = false →
    ∃ t, exec (.thermalThrottle die island) s = .next t ∧
      t = { s with regs := t.regs, power := t.power, err := t.err } ∧
      t.power.throttled = s.power.throttled ++ [die * 16 + island] ∧
      t.fget F.pwrStatus_state die 0 0 = 5 ∧
      (newCodes s t).getLast? = some E.thermalThrottle.code) ∧
  (∀ (s : State) (die : Nat) (island : Nat),
    die < 8 →
    s.power.emergency = none →
    ∃ t, exec (.thermalEmergency die island) s = .next t ∧
      t.power.emergency = some s.periods ∧
      (∀ d < 8, t.fget F.pwrStatus_emergency d 0 0 = 1)) ∧
  (∀ (s : State) (a : Nat) (b : Nat),
    s.power.emergency = some a →
    s.power.coolSince = some b →
    b + 384000 ≤ s.periods →
    ∃ t, exec (.thermalEmergencyEnd) s = .next t ∧
      t = { s with regs := t.regs, power := { s.power with emergency := none, coolSince := none } } ∧
      (∀ d < 8, t.fget F.pwrStatus_state d 0 0 = t.powerState d))

/-- Result, frame and completion of NOP, SOP, SCMP, PSET, CHKRD and SIG on a well-formed word that its guard lets run,
with the next instruction in the program: the engine holds the result, the pc and the loops follow R124, every other
item of the engine, every other engine, memory and every register but TE_STATUS (and the signature, for SIG with
CLEAR) are unchanged. For each of nop, sop, scmp, pset, chkrd, sig, it concludes that exec answers a next state. -/
def Obligations.ScalarInstructionsComplete : Prop :=
  (∀ (s : State) (te : Nat) (w : Nat),
    s.runsWord te 0x00 w = true →
    s.followed te = true →
    ∃ t, exec (.nop te) s = .next t ∧
      teStep te (s.eng te) s t) ∧
  (∀ (s : State) (te : Nat) (w : Nat),
    s.runsWord te 0x01 w = true →
    s.followed te = true →
    ∃ t, exec (.sop te) s = .next t ∧
      teStep te ((s.eng te).setReg (bits w 16 5) (aluOp (bits w 32 4) (BitVec.ofNat 64 ((s.eng te).reg (bits w 21 5)))
        ((s.eng te).operandB w)).toNat) s t) ∧
  (∀ (s : State) (te : Nat) (w : Nat),
    s.runsWord te 0x02 w = true →
    s.followed te = true →
    ∃ t, exec (.scmp te) s = .next t ∧
      teStep te { s.eng te with preds := setBit (s.eng te).preds (bits w 16 3) (cmpOp (bits w 32 4) (BitVec.ofNat 64 ((s.eng te).reg (bits w 21 5))) ((s.eng te).operandB w)) } s t) ∧
  (∀ (s : State) (te : Nat) (w : Nat),
    s.runsWord te 0x05 w = true →
    s.followed te = true →
    ∃ t, exec (.pset te) s = .next t ∧
      teStep te { s.eng te with preds := setBit (s.eng te).preds (bits w 16 3) (psetOp (bits w 25 2) (bit (s.eng te).preds (bits w 19 3)) (bit (s.eng te).preds (bits w 22 3))) } s t) ∧
  (∀ (s : State) (te : Nat) (w : Nat),
    s.runsWord te 0x70 w = true →
    s.followed te = true →
    ∃ t, exec (.chkrd te) s = .next t ∧
      teStep te ((s.eng te).setReg (bits w 16 5) (s.checkState te (bits w 21 3))) s t) ∧
  (∀ (s : State) (te : Nat) (w : Nat),
    s.runsWord te 0x71 w = true →
    s.followed te = true →
    bits w 16 2 ≠ 0 →
    ∃ t, exec (.sig te) s = .next t ∧
      teStep te { s.eng te with sigOn := bits w 16 2 == 1 } s t) ∧
  (∀ (s : State) (te : Nat) (w : Nat),
    s.runsWord te 0x71 w = true →
    s.followed te = true →
    bits w 16 2 = 0 →
    ∃ t, exec (.sig te) s = .next t ∧
      t = { s with regs := t.regs, engines := t.engines } ∧
      t.fget F.teSig_signature (te / 16) (te % 16) 0 = 0 ∧
      t.tePc te = (s.nextPlace te).1 % 4096 ∧
      t.eng te = { s.eng te with loops := (s.nextPlace te).2 })

/-- What the alu and comparison codes compute, in numbers instead of bit vectors: sums, differences and products modulo
2^64, shifts by the low six bits of the amount, signed and unsigned minimum and maximum, and the six comparisons. -/
def Obligations.AluOperations : Prop :=
  ∀ a b : Word,
    (aluOp 0x0 a b).toNat = (a.toNat + b.toNat) % 2 ^ 64 ∧
    (aluOp 0x1 a b).toNat = (a.toNat + (2 ^ 64 - b.toNat)) % 2 ^ 64 ∧
    (aluOp 0x2 a b).toNat = a.toNat * b.toNat % 2 ^ 64 ∧
    (∀ i, i < 64 → (aluOp 0x3 a b).getLsbD i = (a.getLsbD i && b.getLsbD i)) ∧
    (∀ i, i < 64 → (aluOp 0x4 a b).getLsbD i = (a.getLsbD i || b.getLsbD i)) ∧
    (∀ i, i < 64 → (aluOp 0x5 a b).getLsbD i = (a.getLsbD i != b.getLsbD i)) ∧
    (aluOp 0x6 a b).toNat = a.toNat * 2 ^ (b.toNat % 64) % 2 ^ 64 ∧
    (aluOp 0x7 a b).toNat = a.toNat / 2 ^ (b.toNat % 64) ∧
    (aluOp 0x8 a b).toInt = a.toInt / 2 ^ (b.toNat % 64) ∧
    (aluOp 0x9 a b).toInt = min a.toInt b.toInt ∧ (aluOp 0xA a b).toInt = max a.toInt b.toInt ∧
    (aluOp 0xB a b).toNat = min a.toNat b.toNat ∧ (aluOp 0xC a b).toNat = max a.toNat b.toNat ∧ aluOp 0xD a b = b ∧
    (cmpOp 0 a b = true ↔ a = b) ∧ (cmpOp 1 a b = true ↔ a ≠ b) ∧ (cmpOp 2 a b = true ↔ a.toInt < b.toInt) ∧
    (cmpOp 3 a b = true ↔ b.toInt ≤ a.toInt) ∧ (cmpOp 4 a b = true ↔ a.toNat < b.toNat) ∧
    (cmpOp 5 a b = true ↔ b.toNat ≤ a.toNat)

/-- Result, frame and completion of BR, LOOP, AGSET, AGADV, THSET, THSWAP and HALT. A branch goes to its target with the
loops around it left, and links where it is asked to; a loop of count n enters its body, a loop of count zero skips
it; a generator takes its parts with indices zero or advances; a handle is defined or exchanged with its outstanding
loads; HALT ends the engine's part of its job with TE_STATUS DONE. An illegal opcode leaves the engine FAULTED with
its code. For each of br, loop, agset, agadv, thset, thswap, halt, illegalOpcode, it concludes that exec answers a
next state. -/
def Obligations.ControlInstructionsComplete : Prop :=
  (∀ (s : State) (te : Nat) (w : Nat),
    s.runsWord te 0x08 w = true →
    ((if bit w 27 then (s.eng te).reg (bits w 21 5) % 4096 else bits w 64 12) < (s.eng te).program.length) →
    ∃ t, exec (.br te) s = .next t ∧
      t = { s with regs := t.regs, engines := t.engines } ∧
      (t.tePc te = if bit w 27 then (s.eng te).reg (bits w 21 5) % 4096 else bits w 64 12) ∧
      (t.eng te = { (if bit w 26 then (s.eng te).setReg (bits w 16 5) (s.tePc te + 1) else s.eng te) with loops := loopJump (t.tePc te) (s.eng te).loops }) ∧
      t.teStat te = tsRunning ∧
      sameRegsBut [fldAddr F.teStatus_state (te / 16) (te % 16) 0] s t) ∧
  (∀ (s : State) (te : Nat) (w : Nat),
    s.runsWord te 0x09 w = true →
    bits w 16 2 = (s.eng te).loops.length →
    (s.tePc te < bits w 64 12 ∧ bits w 64 12 < (s.eng te).program.length) →
    ((if bit w 31 then bits w 96 32 else (s.eng te).reg (bits w 21 5)) ≠ 0) →
    ∃ t, exec (.loop te) s = .next t ∧
      t = { s with regs := t.regs, engines := t.engines } ∧
      t.tePc te = s.tePc te + 1 ∧
      (t.eng te = { s.eng te with loops := (s.tePc te + 1, bits w 64 12, if bit w 31 then bits w 96 32 else (s.eng te).reg (bits w 21 5)) :: (s.eng te).loops }) ∧
      t.teStat te = tsRunning ∧
      sameRegsBut [fldAddr F.teStatus_state (te / 16) (te % 16) 0] s t) ∧
  (∀ (s : State) (te : Nat) (w : Nat),
    s.runsWord te 0x09 w = true →
    bits w 16 2 = (s.eng te).loops.length →
    (s.tePc te < bits w 64 12 ∧ bits w 64 12 + 1 < (s.eng te).program.length) →
    bits w 64 12 < 4095 →
    ((if bit w 31 then bits w 96 32 else (s.eng te).reg (bits w 21 5)) = 0) →
    ∃ t, exec (.loop te) s = .next t ∧
      t = { s with regs := t.regs, engines := t.engines } ∧
      t.tePc te = bits w 64 12 + 1 ∧
      t.eng te = { s.eng te with loops := loopJump (bits w 64 12 + 1) (s.eng te).loops } ∧
      sameRegsBut [fldAddr F.teStatus_state (te / 16) (te % 16) 0] s t) ∧
  (∀ (s : State) (te : Nat) (w : Nat),
    s.runsWord te 0x10 w = true →
    s.followed te = true →
    bits w 19 2 = 0 →
    ∃ t, exec (.agset te) s = .next t ∧
      (teStep te ((s.eng te).setGen (bits w 16 3) { (s.eng te).gen (bits w 16 3) with base := bits (if bit w 31 then (s.eng te).reg (bits w 21 5) else bits w 64 64) 0 48, idx := [0, 0, 0] }) s t)) ∧
  (∀ (s : State) (te : Nat) (w : Nat) (v : Nat),
    s.runsWord te 0x10 w = true →
    s.followed te = true →
    bits w 19 2 ≠ 0 →
    (v = if bit w 31 then (s.eng te).reg (bits w 21 5) else bits w 64 64) →
    bits v 32 24 ≠ 0 →
    ∃ t, exec (.agset te) s = .next t ∧
      teStep te ((s.eng te).setGen (bits w 16 3) { (s.eng te).gen (bits w 16 3) with strides := ((s.eng te).gen (bits w 16 3)).strides.set (bits w 19 2 - 1) (bits v 0 32), counts := ((s.eng te).gen (bits w 16 3)).counts.set (bits w 19 2 - 1) (bits v 32 24), idx := [0, 0, 0] }) s t) ∧
  (∀ (s : State) (te : Nat) (w : Nat),
    s.runsWord te 0x11 w = true →
    s.followed te = true →
    ∃ t, exec (.agadv te) s = .next t ∧
      teStep te ((s.eng te).setGen (bits w 16 3) (((s.eng te).gen (bits w 16 3)).advance (bits w 32 16))) s t) ∧
  (∀ (s : State) (te : Nat) (w : Nat) (h : Handle),
    s.runsWord te 0x18 w = true →
    s.followed te = true →
    h = { slot := bits w 20 5, slots := bits w 25 4 + 1, fmt := bits w 29 4, rows := bits w 33 8 + 1, rowBytes := bits w 41 16 } →
    h.slot + h.slots ≤ 32 →
    h.size ≤ h.slots * 16384 →
    ∃ t, exec (.thset te) s = .next t ∧
      teStep te { s.eng te with handles := (s.eng te).handles.set (bits w 16 4) (some h) } s t) ∧
  (∀ (s : State) (te : Nat) (w : Nat) (x : Handle) (y : Handle),
    s.runsWord te 0x19 w = true →
    s.followed te = true →
    (s.eng te).handle (bits w 16 4) = some x →
    (s.eng te).handle (bits w 20 4) = some y →
    ∃ t, exec (.thswap te) s = .next t ∧
      (teStep te { s.eng te with handles := ((s.eng te).handles.set (bits w 16 4) (some y)).set (bits w 20 4) (some x), loads := (s.eng te).loads.map (fun l => { l with th := if l.th = bits w 16 4 then bits w 20 4 else if l.th = bits w 20 4 then bits w 16 4 else l.th }) } s t)) ∧
  (∀ (s : State) (te : Nat) (w : Nat),
    s.runsWord te 0x0A w = true →
    s.teJobOf te = none →
    (s.eng te).writes = [] →
    ∃ t, exec (.halt te) s = .next t ∧
      t = { s with regs := t.regs } ∧
      t.teStat te = tsDone ∧
      sameRegsBut [fldAddr F.teStatus_state (te / 16) (te % 16) 0] s t) ∧
  (∀ (s : State) (te : Nat) (w : Nat),
    te < 64 →
    s.teStat te = tsRunning →
    s.teStalled te = false →
    (s.eng te).program[s.tePc te]? = some w →
    opFields w = none →
    s.teJobOf te = none →
    (s.gftOf te).due = false →
    ∃ t, exec (.illegalOpcode te) s = .next t ∧
      t = { s with regs := t.regs, err := t.err } ∧
      t.teStat te = tsFaulted ∧
      t.fget F.teFault_code (te / 16) (te % 16) 0 = E.illegalOpcode.code ∧
      t.fget F.teFault_pc (te / 16) (te % 16) 0 = s.tePc te ∧
      newCodes s t = [E.illegalOpcode.code])

/-- Result, frame and completion of the engine's accesses that the checks of chapter 1 let pass, outside the public
ranges of registered buffers. SLD reads eight bytes into its register and changes no memory; SST's eight bytes and
TST's rows, each at the address of its generator, are outstanding writes of the engine, which change no memory until
an instruction waits for them (FENCE lands them: the statement of the synchronising instructions); TLD issues a load
of its rows, changes no memory, and its handle is not ready until TLD_COMPLETE puts the bytes into the operand
buffer; For each of sld, sst, tld, tldComplete, tst, it concludes that exec answers a next state. -/
def Obligations.EngineMemoryInstructionsComplete : Prop :=
  (∀ (s : State) (te : Nat) (w : Nat) (a : Nat),
    s.runsWord te 0x03 w = true →
    s.followed te = true →
    a = (s.eng te).scalarAddr w →
    a % 8 = 0 →
    s.firstRefusal (.engine te) false [(a, 8)] = none →
    s.poisonIn (.engine te) a 8 = none →
    s.publicAt a = none →
    ∃ t, exec (.sld te) s = .next t ∧
      t.eng te = { (s.eng te).setReg (bits w 16 5) (leNat (s.ownView (.engine te) a (s.bytesAt a 8))) with loops := (s.nextPlace te).2 } ∧
      t.tePc te = (s.nextPlace te).1 % 4096 ∧
      t.mem = s.mem) ∧
  (∀ (s : State) (te : Nat) (w : Nat) (a : Nat),
    s.runsWord te 0x04 w = true →
    s.followed te = true →
    a = (s.eng te).scalarAddr w →
    a % 8 = 0 →
    s.firstRefusal (.engine te) true [(a, 8)] = none →
    s.publicAt a = none →
    ∃ t, exec (.sst te) s = .next t ∧
      t.eng te = { s.eng te with loops := (s.nextPlace te).2, writes := (s.eng te).writes ++ writeRequests [(a, leBytes ((s.eng te).reg (bits w 16 5)) 8)] } ∧
      t.tePc te = (s.nextPlace te).1 % 4096 ∧
      t.mem = s.mem) ∧
  (∀ (s : State) (te : Nat) (w : Nat) (hd : Handle) (ps : List (Nat × Nat)),
    s.runsWord te 0x20 w = true →
    s.followed te = true →
    (s.eng te).handle (bits w 16 4) = some hd →
    (s.eng te).ready hd = true →
    (s.eng te).loads.length < 8 →
    ps = loadPieces hd ((s.eng te).gen (bits w 20 3)) (bit w 23) (bit w 24) →
    (s.firstRefusal (.engine te) false ((ps.map (fun p => requests p.1 p.2)).flatten) = none) →
    ∃ t, exec (.tld te) s = .next t ∧
      (t.eng te).loads.dropLast = (s.eng te).loads ∧
      ((t.eng te).loads.getLast?.map (fun l => (l.th, l.handle, l.rows)) = some (bits w 16 4, hd, ps.map Prod.fst)) ∧
      ((t.eng te).gen (bits w 20 3) = (if bit w 24 then ((s.eng te).gen (bits w 20 3)).advance (if bit w 23 then 1 else hd.rows)
        else (s.eng te).gen (bits w 20 3)) ∨ (s.eng te).ags.length ≤ bits w 20 3) ∧
      t.tePc te = (s.nextPlace te).1 % 4096 ∧
      t.mem = s.mem) ∧
  (∀ (s : State) (te : Nat) (th : Nat) (l : TileLoad),
    te < 64 →
    ((s.eng te).loads.find? (fun x => x.th == th) = some l) →
    l.poison = none →
    (s.teStat te = tsRunning ∨ s.teStat te = tsWaiting ∨ s.teStat te = tsStopping) →
    ∃ t, exec (.tldComplete te th) s = .next t ∧
      t = { s with regs := t.regs, engines := t.engines } ∧
      t.eng te = { (s.eng te).landLoad l with loads := (s.eng te).loads.erase l } ∧
      t.fget F.teStatus_handle_ready (te / 16) (te % 16) 0 = (t.eng te).readyMask % 2 ^ F.teStatus_handle_ready.w ∧
      sameRegsBut [fldAddr F.teStatus_state (te / 16) (te % 16) 0] s t) ∧
  (∀ (s : State) (te : Nat) (w : Nat) (hd : Handle) (ws : List (Nat × List Byte)),
    s.runsWord te 0x21 w = true →
    s.followed te = true →
    (s.eng te).handle (bits w 16 4) = some hd →
    (s.eng te).ready hd = true →
    ws = (s.eng te).storeRows hd ((s.eng te).gen (bits w 20 3)) (bit w 24) →
    (s.firstRefusal (.engine te) true ((writeRequests ws).map (fun r => (r.1, r.2.length))) = none) →
    ((writeRequests ws).all (fun r => (s.publicAt r.1).isNone) = true) →
    ∃ t, exec (.tst te .clean) s = .next t ∧
      (t.eng te).writes = (s.eng te).writes ++ writeRequests ws ∧
      t.mem = s.mem ∧
      t.tePc te = (s.nextPlace te).1 % 4096)

/-- Result and completion of the tile instructions on well-formed words with ready handles and no fault of R146. TOPEN
opens an EMPTY or PASSED bank with its step limit (with KEEP it keeps the entries of an ended tile); MMA adds its
steps, its row range and, for integers, exactly the products of its rows; COMB takes its segment; TCLOSE passes an
open tile whose residues agree, and counts it; the interim check counts itself and starts the 1 880 periods of every
open bank again. Memory is unchanged. For each of topen, mma, comb, tclose, tileInterimCheck, it concludes that exec
answers a next state. -/
def Obligations.TileInstructionsComplete : Prop :=
  (∀ (s : State) (te : Nat) (w : Nat),
    s.runsWord te 0x30 w = true →
    s.followed te = true →
    (s.bankState te (bit w 16) = bkEmpty ∨ s.bankState te (bit w 16) = bkPassed) →
    bit w 33 = false →
    ∃ t, exec (.topen te) s = .next t ∧
      t = { s with regs := t.regs, engines := t.engines } ∧
      t.eng te = { (s.eng te).setBank (bit w 16) { maxSteps := bits w 17 16, openedAt := s.periods } with loops := (s.nextPlace te).2 } ∧
      t.bankState te (bit w 16) = bkOpen ∧
      t.bankState te (!bit w 16) = s.bankState te (!bit w 16) ∧
      t.tePc te = (s.nextPlace te).1 % 4096) ∧
  (∀ (s : State) (te : Nat) (w : Nat) (x : Bank),
    s.runsWord te 0x30 w = true →
    s.followed te = true →
    x = (s.eng te).bank (bit w 16) →
    s.bankState te (bit w 16) = bkPassed →
    x.ended = true →
    bit w 33 = true →
    ∃ t, exec (.topen te) s = .next t ∧
      t = { s with regs := t.regs, engines := t.engines } ∧
      t.eng te = { (s.eng te).setBank (bit w 16) { maxSteps := bits w 17 16, openedAt := s.periods, layout := x.layout, family := x.family, entries := x.entries, kPos := x.kPos, nextSeg := 1, ended := true, kept := true } with loops := (s.nextPlace te).2 } ∧
      t.bankState te (bit w 16) = bkOpen ∧
      t.tePc te = (s.nextPlace te).1 % 4096) ∧
  (∀ (s : State) (te : Nat) (upset : Upset) (w : Nat) (ha : Handle) (hb : Handle) (f : Family) (n : Nat),
    s.runsWord te 0x31 w = true →
    s.followed te = true →
    ((s.eng te).handle (bits w 17 4) = some ha ∧ (s.eng te).handle (bits w 21 4) = some hb) →
    ((s.eng te).ready ha = true ∧ (s.eng te).ready hb = true) →
    mmaFault (arrayDim te) ((s.eng te).bank (bit w 16)) (s.bankState te (bit w 16)) ha hb (bits w 25 7) (bits w 32 7 + 1) (bits w 64 12) (bits w 39 13) (bit w 52) (s.eng te).mmaDone = none →
    pairFamily ha.fmt hb.fmt = some f →
    upset.inArray = false →
    n = mmaSteps (arrayDim te) f ha.fmt hb.fmt (bits w 39 13) (bits w 32 7 + 1) (s.eng te).mmaDone →
    ∃ t, exec (.mma te upset) s = .next t ∧
      ((t.eng te).bank (bit w 16)).steps = ((s.eng te).bank (bit w 16)).steps + n ∧
      ((t.eng te).bank (bit w 16)).range = some (bits w 25 7, bits w 32 7 + 1) ∧
      (((t.eng te).bank (bit w 16)).family = some f ∧ ((t.eng te).bank (bit w 16)).layout = some f.layout) ∧
      ((t.eng te).bank (bit w 16)).kPos = ((s.eng te).bank (bit w 16)).kPos + bits w 39 13 ∧
      ((t.eng te).bank (bit w 16)).ended = bit w 52 ∧
      (f = .plainInt → ((t.eng te).bank (bit w 16)).entries = (s.eng te).mmaEntries f ha hb (bits w 25 7)
        (bits w 32 7 + 1) (bits w 64 12) (bits w 39 13) ((s.eng te).bank (bit w 16)).entries) ∧
      (t.eng te).bank (!bit w 16) = (s.eng te).bank (!bit w 16) ∧
      ((t.eng te).mmaDone = true ∧ (t.eng te).s = (s.eng te).s ∧ (t.eng te).opbuf = (s.eng te).opbuf) ∧
      t.fget F.teSteps_steps (te / 16) (te % 16) 0 = (s.fget F.teSteps_steps (te / 16) (te % 16) 0 + n) % 2 ^ 64 ∧
      t.tePc te = (s.nextPlace te).1 % 4096 ∧
      t.mem = s.mem) ∧
  (∀ (s : State) (te : Nat) (upset : Upset) (w : Nat) (h : Handle),
    s.runsWord te 0x32 w = true →
    s.followed te = true →
    (s.eng te).handle (bits w 17 4) = some h →
    (s.eng te).ready h = true →
    combFault (arrayDim te) ((s.eng te).bank (bit w 16)) (s.bankState te (bit w 16)) h (bits w 21 7) (bits w 28 7 + 1) (bits w 35 6) = none →
    crc32c ((s.eng te).hBytes h 0 ((bits w 28 7 + 1) * arrayDim te * 12)) = leNat ((s.eng te).hBytes h ((bits w 28 7 + 1) * arrayDim te * 12) 4) →
    (checkEntries (imageLayout h.fmt) E.residueImport ((List.range ((bits w 28 7 + 1) * arrayDim te)).map (fun i =>
        ((bits w 21 7 + i / arrayDim te) * 128 + i % arrayDim te,
        leAt ((s.eng te).hBytes h 0 ((bits w 28 7 + 1) * arrayDim te * 12)) (i * 12) 12))) = none) →
    upset.inArray = false →
    ∃ t, exec (.comb te upset) s = .next t ∧
      ((t.eng te).bank (bit w 16)).steps = ((s.eng te).bank (bit w 16)).steps + (bits w 28 7 + 1) ∧
      ((t.eng te).bank (bit w 16)).nextSeg = bits w 35 6 + 1 ∧
      (((t.eng te).bank (bit w 16)).combed = true ∧ ((t.eng te).bank (bit w 16)).segsDone = bit w 41) ∧
      ((t.eng te).bank (bit w 16)).range = some (bits w 21 7, bits w 28 7 + 1) ∧
      (t.eng te).bank (!bit w 16) = (s.eng te).bank (!bit w 16) ∧
      t.tePc te = (s.nextPlace te).1 % 4096 ∧
      t.mem = s.mem) ∧
  (∀ (s : State) (te : Nat) (upset : Upset) (w : Nat),
    s.runsWord te 0x33 w = true →
    s.followed te = true →
    s.bankState te (bit w 16) = bkOpen →
    ((s.eng te).bank (bit w 16)).mismatch E.residueTile = none →
    upset.atCompare = false →
    ∃ t, exec (.tclose te upset) s = .next t ∧
      t = { s with regs := t.regs, engines := t.engines, err := t.err } ∧
      t.bankState te (bit w 16) = bkPassed ∧
      t.fget F.teCheckCounts_tiles_checked (te / 16) (te % 16) 0 =
        satAdd (s.fget F.teCheckCounts_tiles_checked (te / 16) (te % 16) 0) 1 F.teCheckCounts_tiles_checked.w ∧
      t.eng te = { s.eng te with loops := (s.nextPlace te).2 } ∧
      t.tePc te = (s.nextPlace te).1 % 4096) ∧
  (∀ (s : State) (te : Nat) (b : Bool),
    (te < 64 ∨ te = 128 ∨ te = 129) →
    (s.teStat te = tsRunning ∨ s.teStat te = tsWaiting) →
    (s.bankState te b = bkOpen ∧ ((s.eng te).bank b).openedAt + 1880 ≤ s.periods) →
    ((s.eng te).bankA.mismatch E.residueTile = none ∧ (s.eng te).bankB.mismatch E.residueTile = none) →
    ∃ t, exec (.tileInterimCheck te .clean) s = .next t ∧
      t = { s with regs := t.regs, engines := t.engines } ∧
      t.fget F.teCheckCounts_interim (te / 16) (te % 16) 0 =
        (s.fget F.teCheckCounts_interim (te / 16) (te % 16) 0 + 1) % 2 ^ F.teCheckCounts_interim.w ∧
      ((t.eng te).bank b).openedAt = s.periods ∧
      sameRegsBut [fldAddr F.teCheckCounts_interim (te / 16) (te % 16) 0] s t)

/-- Result and completion of DRAIN and VOP without a fault. A raw drain to a handle puts the entry images and their CRC
into the operand buffer, and a bank whose whole range is drained is EMPTY; a direct drain to memory leaves its
encoded rows, at the generator's addresses, as outstanding writes of the engine, which an instruction that waits for
them lands; a vector operation writes the encoded results into its destination handle and counts its conversion
events. For each of drain, vop, it concludes that exec answers a next state. -/
def Obligations.DrainAndVectorInstructionsComplete : Prop :=
  (∀ (s : State) (te : Nat) (w : Nat) (h : Handle) (x : Bank),
    s.runsWord te 0x34 w = true →
    s.followed te = true →
    (bit w 21 = false ∧ bit w 29 = true ∧ bit w 37 = false ∧ bits w 31 2 ≠ 2) →
    (s.eng te).handle (bits w 17 4) = some h →
    (s.eng te).ready h = true →
    x = (s.eng te).bank (bit w 16) →
    s.bankState te (bit w 16) = bkPassed →
    x.range = some (bits w 46 7, bits w 53 7 + 1) →
    bits w 46 7 + (bits w 53 7 + 1) ≤ arrayDim te →
    (bits w 53 7 + 1) * arrayDim te * 12 + 4 ≤ h.rows * h.rowBytes →
    ∃ t, exec (.drain te .clean) s = .next t ∧
      t = { s with regs := t.regs, engines := t.engines } ∧
      (t.eng te).opbuf = ((s.eng te).putBytes h 0 (rawImages (arrayDim te) x (bits w 46 7) (bits w 53 7 + 1))).opbuf ∧
      t.bankState te (bit w 16) = bkEmpty ∧
      (t.eng te).bank (bit w 16) = {} ∧
      t.tePc te = (s.nextPlace te).1 % 4096) ∧
  (∀ (s : State) (te : Nat) (w : Nat) (x : Bank) (rs : List (List Byte × List Byte × Nat)) (ws : List (Nat × List Byte)),
    s.runsWord te 0x34 w = true →
    s.followed te = true →
    (bit w 21 = true ∧ bit w 29 = false ∧ bit w 37 = false ∧ bits w 31 2 = 0 ∧ bits w 42 4 = 0) →
    x = (s.eng te).bank (bit w 16) →
    s.bankState te (bit w 16) = bkPassed →
    bits w 46 7 + (bits w 53 7 + 1) ≤ arrayDim te →
    (rs = (drainGrid (arrayDim te) x (bits w 46 7) (bits w 53 7 + 1) (bit w 61) (fun _ v => v)).map (encodeRow (bits w 25 4) (bit w 30))) →
    (ws = ((((s.eng te).gen (bits w 22 3)).rows true rs.length).zip rs).map (fun p => (p.1, p.2.1 ++ p.2.2.1))) →
    (s.firstRefusal (.engine te) true ((writeRequests ws).map (fun r => (r.1, r.2.length))) = none) →
    ((writeRequests ws).all (fun r => (s.publicAt r.1).isNone) = true) →
    ∃ t, exec (.drain te .clean) s = .next t ∧
      (t.eng te).writes = (s.eng te).writes ++ writeRequests ws ∧
      t.mem = s.mem ∧
      (t.fget F.teConvEvents_events (te / 16) (te % 16) 0 = satAdd (s.fget F.teConvEvents_events (te / 16) (te % 16) 0)
        (rs.map (fun r => r.2.2)).sum 32) ∧
      t.tePc te = (s.nextPlace te).1 % 4096) ∧
  (∀ (s : State) (te : Nat) (w : Nat) (hd : Handle) (h1 : Handle) (h2 : Handle) (rs : List (List Byte × List Byte × Nat)),
    s.runsWord te 0x40 w = true →
    s.followed te = true →
    (vopBinary (bits w 34 6) = true ∧ bit w 28 = false) →
    ((s.eng te).handle (bits w 16 4) = some hd ∧ (s.eng te).handle (bits w 20 4) = some h1 ∧ (s.eng te).handle (bits w 24 4) = some h2) →
    ((s.eng te).ready hd = true ∧ (s.eng te).ready h1 = true ∧ (s.eng te).ready h2 = true) →
    s.vectorOut te = false →
    vopInRange (bits w 34 6) hd h1 (some h2) = true →
    rs = (rowsOf hd.perRow ((s.eng te).vopResults (bits w 34 6) hd h1 ((s.eng te).lanes h2) false) hd.rows).map (encodeRow hd.fmt false) →
    ∃ t, exec (.vop te .clean) s = .next t ∧
      t = { s with regs := t.regs, engines := t.engines } ∧
      (t.eng te = { (rs.zip (List.range rs.length)).foldl (fun e p => e.putRow hd p.2 p.1.1 p.1.2.1) (s.eng te) with loops := (s.nextPlace te).2 }) ∧
      (t.fget F.teConvEvents_events (te / 16) (te % 16) 0 = satAdd (s.fget F.teConvEvents_events (te / 16) (te % 16) 0)
        (rs.map (fun r => r.2.2)).sum 32) ∧
      t.tePc te = (s.nextPlace te).1 % 4096) ∧
  (∀ (s : State) (te : Nat) (w : Nat) (hd : Handle) (h1 : Handle) (rs : List (List Byte × List Byte × Nat)),
    s.runsWord te 0x40 w = true →
    s.followed te = true →
    (vopBinary (bits w 34 6) && !bit w 28) = false →
    ((s.eng te).handle (bits w 16 4) = some hd ∧ (s.eng te).handle (bits w 20 4) = some h1) →
    ((s.eng te).ready hd = true ∧ (s.eng te).ready h1 = true) →
    s.vectorOut te = false →
    vopInRange (bits w 34 6) hd h1 none = true →
    rs = (rowsOf hd.perRow ((s.eng te).vopResults (bits w 34 6) hd h1 [f32Code ((s.eng te).reg (bits w 29 5) % 2 ^ 32)] (bit w 28)) hd.rows).map (encodeRow hd.fmt false) →
    ∃ t, exec (.vop te .clean) s = .next t ∧
      t = { s with regs := t.regs, engines := t.engines } ∧
      (t.eng te = { (rs.zip (List.range rs.length)).foldl (fun e p => e.putRow hd p.2 p.1.1 p.1.2.1) (s.eng te) with loops := (s.nextPlace te).2 }) ∧
      t.tePc te = (s.nextPlace te).1 % 4096)

/-- Result, frame and completion of the synchronisation of the tensor engines. A WAIT whose flags are met clears them
and sets its predicate, one whose flags are not met leaves the engine WAITING from this period on with nothing else
changed, and once its periods have passed its timeout ends it with the predicate clear; when the engine's
outstanding writes have reached their targets, a SIGNAL sends its flag to a rank of its job, a BAR notes the arrival
and waits, and a FENCE reports the writes since the previous one; the flag sets on arrival; the last arrival lets
every waiting engine go on, and a BAR's timeout faults. An outstanding write that the checks pass lands before the
FENCE ends: its bytes stand at its address, and every other byte of memory reads as before. For each of wait,
waitTimeout, signal, eventFlagArrival, bar, barrierRelease, barrierTimeout, fence, it concludes that exec answers a
next state. -/
def Obligations.SynchronisationInstructionsComplete : Prop :=
  (∀ (s : State) (te : Nat) (w : Nat),
    s.runsWord te 0x50 w = true →
    s.followed te = true →
    (if bit w 32 then Nat.land (s.eng te).flags (bits w 16 16) = bits w 16 16 else Nat.land (s.eng te).flags (bits w 16 16) ≠ 0) →
    ∃ t, exec (.wait te) s = .next t ∧
      teStep te { s.eng te with flags := (s.eng te).flags - Nat.land (s.eng te).flags (bits w 16 16), preds := setBit (s.eng te).preds (bits w 33 3) true } s t) ∧
  (∀ (s : State) (te : Nat) (w : Nat),
    s.runsWord te 0x50 w = true →
    ((if bit w 32 then Nat.land (s.eng te).flags (bits w 16 16) = bits w 16 16 else Nat.land (s.eng te).flags (bits w 16 16) ≠ 0) = False) →
    ∃ t, exec (.wait te) s = .next t ∧
      t = { s with regs := t.regs, engines := t.engines } ∧
      (t.eng te = { s.eng te with waitFrom := if s.teStat te = tsWaiting then (s.eng te).waitFrom else s.periods }) ∧
      t.teStat te = tsWaiting ∧
      t.tePc te = s.tePc te ∧
      sameRegsBut [fldAddr F.teStatus_state (te / 16) (te % 16) 0] s t) ∧
  (∀ (s : State) (te : Nat) (w : Nat),
    s.runsWord te 0x50 w = true →
    s.followed te = true →
    s.teStat te = tsWaiting →
    (bits w 40 24 ≠ 0 ∧ (s.eng te).waitFrom + bits w 40 24 ≤ s.periods) →
    ∃ t, exec (.waitTimeout te) s = .next t ∧
      teStep te { s.eng te with preds := setBit (s.eng te).preds (bits w 33 3) false } s t) ∧
  (∀ (s : State) (te : Nat) (w : Nat) (j : Nat) (target : Nat) (u : State),
    s.runsWord te 0x51 w = true →
    s.followed te = true →
    s.teJobOf te = some j →
    ((if bit w 26 then (s.boundRing (te / 16) (bits w 27 2) j).map (· + 64) else s.rankEngine j (bits w 16 6)) = some target) →
    (s.landWrites te (fun _ => true) = (u, false) ∧ u.teStalled te = false) →
    ∃ t, exec (.signal te) s = .next t ∧
      t = { u with regs := t.regs, engines := t.engines, signals := u.signals ++ [⟨te, target, bits w 22 4⟩] } ∧
      t.eng te = { u.eng te with loops := (u.nextPlace te).2 } ∧
      t.tePc te = (u.nextPlace te).1 % 4096 ∧
      sameRegsBut [fldAddr F.teStatus_state (te / 16) (te % 16) 0] u t) ∧
  (∀ (s : State) (te : Nat) (flag : Nat) (fs : List Flight),
    takeFlight te flag [] s.signals = some fs →
    ∃ t, exec (.eventFlagArrival te flag) s = .next t ∧
      t = { s with signals := fs, engines := t.engines } ∧
      t.eng te = { s.eng te with flags := setBit (s.eng te).flags flag true } ∧
      s.signals.length = fs.length + 1) ∧
  (∀ (s : State) (te : Nat) (w : Nat) (j : Nat) (u : State),
    s.runsWord te 0x52 w = true →
    (s.landWrites te (fun _ => true) = (u, false) ∧ u.teStalled te = false) →
    u.teJobOf te = some j →
    ((storeGet [] (u.job j).arrivals (bits w 16 8)).any (fun a => a / 64 == u.teRank te) = false) →
    ∃ t, exec (.bar te) s = .next t ∧
      t = { u with regs := t.regs, engines := t.engines, sched := t.sched } ∧
      t.teStat te = tsWaiting ∧
      t.tePc te = u.tePc te ∧
      (t.eng te = { u.eng te with waitFrom := if u.teStat te = tsWaiting then (u.eng te).waitFrom else u.periods }) ∧
      storeGet [] (t.job j).arrivals (bits w 16 8) =
        storeGet [] (u.job j).arrivals (bits w 16 8) ++ [u.teRank te * 64 + bits w 24 6] ∧
      sameRegsBut [fldAddr F.teStatus_state (te / 16) (te % 16) 0] u t) ∧
  (∀ (s : State) (job : Nat) (barrier : Nat) (here : List Nat),
    here = storeGet [] (s.job job).arrivals barrier →
    here ≠ [] →
    (here.all (fun a => a % 64 + 1 ≤ here.length) = true) →
    ((here.filterMap (fun a => s.rankEngine job (a / 64))).Nodup) →
    (here.all (fun a => (s.rankEngine job (a / 64)).all (fun te => te < 64 && s.teStat te == tsWaiting && s.followed te)) = true) →
    ∃ t, exec (.barrierRelease job barrier) s = .next t ∧
      (here.all (fun a => (s.rankEngine job (a / 64)).all (fun te => t.teStat te == tsRunning && t.tePc te == (s.nextPlace te).1 % 4096)) = true) ∧
      (t.job job).arrivals = storeDrop (s.job job).arrivals barrier ∧
      t.mem = s.mem) ∧
  (∀ (s : State) (te : Nat) (w : Nat),
    s.runsWord te 0x52 w = true →
    s.teStat te = tsWaiting →
    (bits w 40 24 ≠ 0 ∧ (s.eng te).waitFrom + bits w 40 24 ≤ s.periods) →
    s.teJobOf te = none →
    (s.gftOf te).due = false →
    (s.eng te).writes = [] →
    ∃ t, exec (.barrierTimeout te) s = .next t ∧
      t = { s with regs := t.regs, err := t.err, engines := t.engines } ∧
      t.eng te = s.eng te ∧
      t.teStat te = tsFaulted ∧
      t.fget F.teFault_code (te / 16) (te % 16) 0 = E.barrierTimeout.code ∧
      newCodes s t = [E.barrierTimeout.code]) ∧
  (∀ (s : State) (te : Nat) (w : Nat) (u : State),
    s.runsWord te 0x53 w = true →
    s.followed te = true →
    (s.landWrites te (fun _ => true) = (u, false) ∧ u.teStalled te = false) →
    ∃ t, exec (.fence te) s = .next t ∧
      teStep te { u.eng te with preds := setBit (u.eng te).preds (bits w 16 3) (u.eng te).writesOk, writesOk := true } u t) ∧
  (∀ (s : State) (te : Nat) (w : Nat) (a : Nat) (bs : List Byte),
    s.canonical →
    s.runsWord te 0x53 w = true →
    s.followed te = true →
    (s.eng te).writes = [(a, bs)] →
    s.checkAccess (.engine te) true a bs.length = .pass →
    s.posts (.engine te) a = false →
    (s.publicAt a = none ∨ s.jobOf (.engine te) = none) →
    ∃ t, exec (.fence te) s = .next t ∧
      t.bytesAt a bs.length = bs ∧
      (∀ x, x < a ∨ a + bs.length ≤ x → t.byteAt x = s.byteAt x) ∧
      (t.eng te).writes = [] ∧
      (t.eng te).preds = setBit (s.eng te).preds (bits w 16 3) (s.eng te).writesOk ∧
      t.tePc te = (s.nextPlace te).1 % 4096)

/-- Completion of what a job's engine does at the confirm gate. A store into a granule that passes its checks is
outstanding, and no byte of memory changes yet; when a FENCE waits for a write into an OPEN granule whose fill is
over, it goes to the slot that is not confirmed, and to no other byte of memory; a CMARK with one mark required
leaves an OPEN granule MARKED; RIE counts the leading equal units into its register, sets its predicate, and
resolves each pending token of its range true below that count and false from it on. For each of sst, fence, cmark,
rie, it concludes that exec answers a next state. -/
def Obligations.EngineGateInstructionsComplete : Prop :=
  (∀ (s : State) (te : Nat) (w : Nat) (a : Nat),
    s.runsWord te 0x04 w = true →
    s.followed te = true →
    a = (s.eng te).scalarAddr w →
    a % 8 = 0 →
    s.firstRefusal (.engine te) true [(a, 8)] = none →
    s.meetsMarked te a = false →
    ∃ t, exec (.sst te) s = .next t ∧
      teStep te { s.eng te with writes := (s.eng te).writes ++ [(a, leBytes ((s.eng te).reg (bits w 16 5)) 8)] } s t) ∧
  (∀ (s : State) (te : Nat) (w : Nat) (a : Nat) (bs : List Byte) (j : Nat) (d : Nat) (b : Nat) (g : Nat) (o : OpenGranule) (slot : Nat),
    s.canonical →
    s.runsWord te 0x53 w = true →
    s.followed te = true →
    ((s.eng te).writes = [(a, bs)] ∧ a % 8 = 0 ∧ bs.length = 8) →
    s.checkAccess (.engine te) true a 8 = .pass →
    s.jobOf (.engine te) = some j →
    s.publicAt a = some (d, b) →
    s.bufBase d b % 0x10000 = 0 →
    g = (a - s.bufBase d b) / granBytes →
    s.dropsWrite j d b g = false →
    s.granState d (s.bufFirst d b + g) = gOpen →
    storeFind s.opens (openKey d (s.bufFirst d b + g)) = some o →
    o.filling = false →
    slot = s.slotAddr d b g (1 - s.tvt F.cgTvtEntry_confirmed_slot d (s.bufFirst d b + g)) + (a - s.bufBase d b) % granBytes →
    ∃ t, exec (.fence te) s = .next t ∧
      t.bytesAt slot 8 = bs ∧
      (∀ x, x < slot ∨ slot + 8 ≤ x → t.byteAt x = s.byteAt x) ∧
      t.tePc te = (s.nextPlace te).1 % 4096) ∧
  (∀ (s : State) (te : Nat) (w : Nat) (j : Nat) (d : Nat) (b : Nat) (o : OpenGranule) (e : Nat),
    s.runsWord te 0x60 w = true →
    s.followed te = true →
    (d < 4 ∧ b < 256) →
    s.teJobOf te = some j →
    ((s.job j).record.buffers[bits w 16 8]?).getD none = some (d, b) →
    (bits w 48 16 = 1 ∧ bits w 64 4 = 0) →
    bits w 24 24 < s.bufGranules d b →
    (s.eng te).writes = [] →
    e = s.bufFirst d b + bits w 24 24 →
    s.dropsWrite j d b (bits w 24 24) = false →
    (s.granState d e = gOpen ∧ s.tvt F.cgTvtEntry_owner d e = j ∧ s.tvt F.cgTvtEntry_marks_rcvd d e = 0) →
    storeFind s.opens (openKey d e) = some o →
    (o.grpCount = 0 ∧ o.filling = false) →
    ∃ t, exec (.cmark te) s = .next t ∧
      t = { s with regs := t.regs, engines := t.engines, opens := t.opens } ∧
      t.granState d e = gMarked ∧
      t.tvt F.cgTvtEntry_marks_rcvd d e = 1 ∧
      t.tePc te = (s.nextPlace te).1 % 4096) ∧
  (∀ (s : State) (te : Nat) (w : Nat) (j : Nat) (ha : Handle) (hb : Handle) (n : Nat),
    s.runsWord te 0x61 w = true →
    s.followed te = true →
    s.teJobOf te = some j →
    ((s.eng te).handle (bits w 16 4) = some ha ∧ (s.eng te).handle (bits w 20 4) = some hb) →
    ((s.eng te).ready ha = true ∧ (s.eng te).ready hb = true) →
    (bits w 40 8 * bits w 48 8 ≤ ha.size ∧ bits w 40 8 * bits w 48 8 ≤ hb.size) →
    bits w 24 16 + bits w 40 8 ≤ (s.job j).tokenCount →
    n = leadingEqual (bits w 48 8) ((s.eng te).hBytes ha 0 (bits w 40 8 * bits w 48 8))
        ((s.eng te).hBytes hb 0 (bits w 40 8 * bits w 48 8)) (bits w 40 8) →
    storeKeys s.sched.jobs = [j] →
    ((s.job j).readers = [] ∧ s.jobState j = jsRunning) →
    (s.job j).tokenHome < 4 →
    ∃ t, exec (.rie te .clean) s = .next t ∧
      t.eng te = { (s.eng te).setReg (bits w 64 5) n with preds := setBit (s.eng te).preds (bits w 56 3) (n == bits w 40 8), loops := (s.nextPlace te).2 } ∧
      t.tePc te = (s.nextPlace te).1 % 4096 ∧
      (∀ i < bits w 40 8, t.tokenState j (bits w 24 16 + i) =
        if s.tokenState j (bits w 24 16 + i) = 1 then (if i < n then 2 else 3) else s.tokenState j (bits w 24 16 + i)))

/-- Completion of the commands of TE_CTRL by an initiator that the rules of R256 let in. A start loads the program and
runs from instruction 0 with the signature clear; a pre-emption of a running engine leaves it STOPPING and changes
nothing else; the save writes its image into the save slot alone and leaves the engine SAVED; a resumption from a
good image continues at the saved pc with the saved operand buffers; an abort leaves the engine IDLE with its banks
empty. A write refused at its target faults the engine with ADDRESS. For each of teStart, tePreempt, engineSaved,
teResume, teAbort, writeRefusedAtTarget, it concludes that exec answers a next state. -/
def Obligations.EngineStartsAndStopsComplete : Prop :=
  (∀ (s : State) (who : Initiator) (te : Nat) (a : Nat) (n : Nat),
    te < 64 →
    s.teCtrlRefused who te = none →
    s.engineUsable te = true →
    s.teAtRest te = true →
    (a = s.fget F.teProg_prog_addr (te / 16) (te % 16) 0 ∧ n = s.fget F.teProg_length_m1 (te / 16) (te % 16) 0 + 1) →
    s.firstRefusal (.engine te) false (requests a (n * 16)) = none →
    s.poisonIn (.engine te) a (n * 16) = none →
    ∃ t, exec (.teStart who te) s = .next t ∧
      t.reg (fldAddr F.teStatus_state (te / 16) (te % 16) 0) = tsRunning ∧
      (t.eng te).program.length = n ∧
      ((t.eng te).preds = 0 ∧ (t.eng te).bankA = {} ∧ (t.eng te).bankB = {} ∧ (t.eng te).opbuf = [] ∧ (t.eng te).s.length = 32) ∧
      t.fget F.teSig_signature (te / 16) (te % 16) 0 = 0 ∧
      t.mem = s.mem) ∧
  (∀ (s : State) (who : Initiator) (te : Nat),
    te < 64 →
    s.teCtrlRefused who te = none →
    (s.teStat te = tsRunning ∨ s.teStat te = tsWaiting) →
    ∃ t, exec (.tePreempt who te) s = .next t ∧
      t = { s with regs := t.regs } ∧
      t.teStat te = tsStopping ∧
      sameRegsBut [fldAddr F.teStatus_state (te / 16) (te % 16) 0] s t) ∧
  (∀ (s : State) (te : Nat),
    s.canonical →
    te < 64 →
    s.teStat te = tsStopping →
    s.teStalled te = false →
    (s.eng te).writes = [] →
    ((s.eng te).bankA.mismatch E.residueTile = none ∧ (s.eng te).bankB.mismatch E.residueTile = none) →
    s.teJobOf te = none →
    s.slotRefused te (s.fget F.teSaveBase_save_addr (te / 16) (te % 16) 0) true = none →
    (s.gftOf te).due = false →
    ∃ t, exec (.engineSaved te .clean) s = .next t ∧
      t.teStat te = tsSaved ∧
      ((storeFind t.saves (s.fget F.teSaveBase_save_addr (te / 16) (te % 16) 0)).map (fun x => (x.pc, x.signature)) =
        some (s.tePc te, s.fget F.teSig_signature (te / 16) (te % 16) 0)) ∧
      (∀ a, a < s.fget F.teSaveBase_save_addr (te / 16) (te % 16) 0 ∨ s.fget F.teSaveBase_save_addr (te / 16) (te % 16) 0 + 0xE0400 ≤ a → t.byteAt a = s.byteAt a) ∧
      (∀ i < 0x80000, t.byteAt (s.fget F.teSaveBase_save_addr (te / 16) (te % 16) 0 + i) = storeGet 0 (s.eng te).opbuf i) ∧
      (sameRegsBut (fldAddr F.teStatus_state (te / 16) (te % 16) 0 :: (List.range 8).map (fun m => fldAddr F.memLines_lines (m / 2) (m % 2) 0)) s t)) ∧
  (∀ (s : State) (who : Initiator) (te : Nat) (x : SavedControl),
    te < 64 →
    s.teCtrlRefused who te = none →
    s.engineUsable te = true →
    s.teAtRest te = true →
    storeFind s.saves (s.fget F.teSaveBase_save_addr (te / 16) (te % 16) 0) = some x →
    x.engine.loads = [] →
    ∃ t, exec (.teResume who te .clean) s = .next t ∧
      (∀ a img u, a = s.fget F.teSaveBase_save_addr (te / 16) (te % 16) 0 → img = s.bytesAt a imgBytes →
        s.slotRefused te a false = none →
        u = ((s.correctSoft a imgBytes).countLines (.engine te) a imgBytes).takeTokens (.engine te) a imgBytes →
        u.poisoned a imgBytes = false → crc32c (img.take imgCrc) = leAt img imgCrc 4 →
        byteSlice img imgControl 1020 = x.bytes →
        entriesFrom (byteSlice img imgBankA 0x30000) 0 16384 = [] → entriesFrom (byteSlice img imgBankB 0x30000) 0 16384 = [] →
        u.firstRefusal (.engine te) false (requests (s.fget F.teProg_prog_addr (te / 16) (te % 16) 0)
        ((s.fget F.teProg_length_m1 (te / 16) (te % 16) 0 + 1) * 16)) = none →
        u.poisonIn (.engine te) (s.fget F.teProg_prog_addr (te / 16) (te % 16) 0)
        ((s.fget F.teProg_length_m1 (te / 16) (te % 16) 0 + 1) * 16) = none →
        x.pc < s.fget F.teProg_length_m1 (te / 16) (te % 16) 0 + 1 →
        t.tePc te = x.pc % 4096 ∧ t.teStat te = tsRunning ∧ (t.eng te).s = x.engine.s ∧ (t.eng te).mmaDone = false ∧
        (t.eng te).opbuf = opbufFrom (img.take 0x80000) 0 0x80000 ∧ (t.eng te).loops = x.engine.loops)) ∧
  (∀ (s : State) (who : Initiator) (te : Nat),
    te < 64 →
    s.teCtrlRefused who te = none →
    (1 ≤ s.teStat te ∧ s.teStat te ≤ 4) →
    s.teJobOf te = none →
    (s.eng te).writes = [] →
    ∃ t, exec (.teAbort who te) s = .next t ∧
      t = { s with regs := t.regs, engines := t.engines } ∧
      t.teStat te = tsIdle ∧
      t.eng te = { s.eng te with bankA := {}, bankB := {}, loads := [] } ∧
      t.fget F.teStatus_handle_ready (te / 16) (te % 16) 0 = (t.eng te).readyMask ∧
      (t.bankState te false = (if s.bankState te false = bkOpen then bkFailed else bkEmpty)) ∧
      (t.bankState te true = (if s.bankState te true = bkOpen then bkFailed else bkEmpty)) ∧
      sameRegsBut [fldAddr F.teStatus_state (te / 16) (te % 16) 0] s t) ∧
  (∀ (s : State) (te : Nat) (addr : Nat),
    te < 64 →
    (s.teStat te = tsRunning ∨ s.teStat te = tsWaiting ∨ s.teStat te = tsStopping) →
    takeWrite addr (s.eng te).writes = some [] →
    s.teJobOf te = none →
    (s.gftOf te).due = false →
    s.posts (.engine te) addr = false →
    ∃ t, exec (.writeRefusedAtTarget te addr) s = .next t ∧
      t.teStat te = tsFaulted ∧
      t.fget F.teFault_code (te / 16) (te % 16) 0 = E.address.code ∧
      (newCodes s t).length = 1 ∧
      (t.eng te).writes = [] ∧
      t.mem = s.mem)

/-- Completion of the commands of granule owners and patrols. An owner entry by an initiator with the right holds the
written kind, instance and partition; where the owner changed, every byte of the granule is zero and no other byte
of memory changed; where it did not, memory is unchanged. The end of a scrub clears its bit alone. A patrol pass is
counted, with its time, and changes no byte. For each of granuleOwnerWrite, granuleScrubDone, spmPatrol, memPatrol,
it concludes that exec answers a next state. -/
def Obligations.ScratchpadAndPatrolsComplete : Prop :=
  (∀ (s : State) (who : Initiator) (cluster : Nat) (granule : Nat) (value : Word) (die : Nat) (g : Nat),
    s.canonical →
    (cluster < 32 ∧ granule < 16) →
    (die = cluster / 8 ∧ g = cluster % 8 * 16 + granule) →
    s.granuleRights who die g = true →
    s.isMoving (granuleAddr die g) = false →
    bits value.toNat 0 3 ≤ 4 →
    ∃ t, exec (.granuleOwnerWrite who cluster granule value) s = .next t ∧
      t.granKind die (granReg g) = bits value.toNat 0 3 ∧
      t.granVi die (granReg g) = bits value.toNat 4 6 ∧
      t.fget F.spmGranuleN_rt_partition die (granReg g) 0 = bits value.toNat 10 6 ∧
      (∀ a, a < granuleAddr die g ∨ granuleAddr die g + 0x100000 ≤ a → t.byteAt a = s.byteAt a) ∧
      (if s.granOwner die (granReg g) = granuleOwner (bits value.toNat 0 3) (bits value.toNat 4 6) (bits value.toNat 10 6) then t.mem = s.mem
        else t.fget F.spmGranuleN_scrubbing die (granReg g) 0 = 1 ∧
        ∀ a, granuleAddr die g ≤ a → a < granuleAddr die g + 0x100000 → t.byteAt a = 0)) ∧
  (∀ (s : State) (cluster : Nat) (granule : Nat),
    ∃ t, exec (.granuleScrubDone cluster granule) s = .next t ∧
      t = { s with regs := t.regs } ∧
      t.fget F.spmGranuleN_scrubbing (cluster / 8) (granReg (cluster % 8 * 16 + granule)) 0 = 0 ∧
      sameRegsBut [fldAddr F.spmGranuleN_scrubbing (cluster / 8) (granReg (cluster % 8 * 16 + granule)) 0] s t) ∧
  (∀ (s : State) (cluster : Nat) (hits : List Hit),
    cluster < 32 →
    bit (s.fget F.cfgCapsClusterMap_cluster_usable 4 0 0) cluster = true →
    ∃ t, exec (.spmPatrol cluster hits) s = .next t ∧
      t.fget F.spmScrub_passes (cluster / 8) (cluster % 8) 0 = (s.fget F.spmScrub_passes (cluster / 8) (cluster % 8) 0 + 1) % 2 ^ 32 ∧
      t.fget F.spmScrub_last_pass_ms (cluster / 8) (cluster % 8) 0 = s.nowMs % 2 ^ 32 ∧
      t.mem = s.mem) ∧
  (∀ (s : State) (stack : Nat) (hits : List Hit),
    stack < 8 →
    s.fon F.memStatus_usable (stack / 2) (stack % 2) 0 = true →
    ∃ t, exec (.memPatrol stack hits) s = .next t ∧
      t.fget F.memPatrol_passes (stack / 2) (stack % 2) 0 = (s.fget F.memPatrol_passes (stack / 2) (stack % 2) 0 + 1) % 2 ^ 32 ∧
      t.mem = s.mem)

/-- Result and completion of the descriptors that a ring issues from memory. A COPY whose requests all pass has the CRC
of the bytes it read noted and is in progress; one of a single request puts its source's bytes at its destination
and changes no other byte; a FILL of a single request repeats its pattern; a WAIT consumes its flag, or leaves the
ring WAITING; a SIGNAL sets its engine's flag; a FENCE issues when nothing is in progress, and else leaves the ring
WAITING. A flag that a SIGNAL of an engine carries sets on arrival. The oldest descriptor retires when its CRCs
agree: the head moves past it. Taking a COPY whose source and destination overlap as moving bytes that the spec
leaves open is the model's log entry 83. For each of seCopy, seFill, seWait, seSignal, seFence, ringFlagSet,
descriptorRetire, it concludes that exec answers a next state. -/
def Obligations.RingDescriptorsComplete : Prop :=
  (∀ (s : State) (ring : Nat) (d : List Byte) (v : State) (bs : List Byte),
    s.logicFrozen (ring / 16) = false →
    ring < 64 →
    s.ringIssues ring 1 d = true →
    v = ((s.ringRead64 ring).copyRows ring (leAt d 40 4) (descOverlaps d) [] ((descSrcRows d).zip (descDstRows d))).1 →
    ((s.ringRead64 ring).copyRows ring (leAt d 40 4) (descOverlaps d) [] ((descSrcRows d).zip (descDstRows d))).2.toOption = some bs →
    ∃ t, exec (.seCopy ring) s = .next t ∧
      t = { v with regs := t.regs, rings := t.rings } ∧
      t.ring ring = s.issuedBooks ring d (crc32c bs) ∧
      t.ringSt ring = rgRunning) ∧
  (∀ (s : State) (ring : Nat) (d : List Byte) (src : Nat) (dst : Nat) (len : Nat),
    s.canonical →
    s.logicFrozen (ring / 16) = false →
    ring < 64 →
    s.ringIssues ring 1 d = true →
    (src = leAt d 8 8 ∧ dst = leAt d 16 8 ∧ len = leAt d 40 4) →
    (leAt d 44 2 = 1 ∧ leAt d 46 2 = 1) →
    (src % 256 + len ≤ 256 ∧ dst % 256 + len ≤ 256) →
    descOverlaps d = false →
    (s.publicAt src = none ∧ s.publicAt dst = none) →
    (s.ringRead64 ring).checkAccess (.ring ring) false src len = .pass →
    (s.ringRead64 ring).poisonIn (.ring ring) src len = none →
    ((s.ringRead64 ring).fetchBytes (.ring ring) src len).1.checkAccess (.ring ring) true dst len = .pass →
    ∃ t, exec (.seCopy ring) s = .next t ∧
      (∀ i < len, t.byteAt (dst + i) = s.byteAt (src + i)) ∧
      (∀ a, a < dst ∨ dst + len ≤ a → t.byteAt a = s.byteAt a) ∧
      t.ring ring = s.issuedBooks ring d (crc32c (s.bytesAt src len)) ∧
      t.ringSt ring = rgRunning) ∧
  (∀ (s : State) (ring : Nat) (d : List Byte) (dst : Nat) (len : Nat),
    s.canonical →
    s.logicFrozen (ring / 16) = false →
    ring < 64 →
    s.ringIssues ring 2 d = true →
    (dst = leAt d 16 8 ∧ len = leAt d 40 4) →
    (leAt d 44 2 = 1 ∧ leAt d 46 2 = 1) →
    dst % 256 + len ≤ 256 →
    s.publicAt dst = none →
    (s.ringRead64 ring).checkAccess (.ring ring) true dst len = .pass →
    ∃ t, exec (.seFill ring) s = .next t ∧
      (∀ i < len, t.byteAt (dst + i) = d[52 + i % 4]?.getD 0) ∧
      (∀ a, a < dst ∨ dst + len ≤ a → t.byteAt a = s.byteAt a) ∧
      (t.ring ring).issue = ringNext (s.ring ring).issue ∧
      t.ringSt ring = rgRunning) ∧
  (∀ (s : State) (ring : Nat) (d : List Byte),
    s.logicFrozen (ring / 16) = false →
    ring < 64 →
    s.ringIssues ring 3 d = true →
    bit (s.ring ring).flags (descEvent d) = true →
    ∃ t, exec (.seWait ring) s = .next t ∧
      t.ring ring = { s.issuedBooks ring d (crc32c []) with flags := setBit (s.ring ring).flags (descEvent d) false } ∧
      t.ringSt ring = rgRunning ∧
      t.mem = s.mem) ∧
  (∀ (s : State) (ring : Nat) (d : List Byte),
    s.logicFrozen (ring / 16) = false →
    ring < 64 →
    s.ringIssues ring 3 d = true →
    bit (s.ring ring).flags (descEvent d) = false →
    ∃ t, exec (.seWait ring) s = .next t ∧
      t.ring ring = s.ring ring ∧
      t.ringSt ring = rgWaiting ∧
      t.mem = s.mem) ∧
  (∀ (s : State) (ring : Nat) (d : List Byte) (te : Nat),
    s.logicFrozen (ring / 16) = false →
    ring < 64 →
    s.ringIssues ring 4 d = true →
    s.rankEngine (s.ringJob ring) (descRank d) = some te →
    ∃ t, exec (.seSignal ring) s = .next t ∧
      (t.eng te).flags = setBit (s.eng te).flags (descEvent d) true ∧
      t.ring ring = s.issuedBooks ring d (crc32c []) ∧
      t.ringSt ring = rgRunning ∧
      t.mem = s.mem) ∧
  (∀ (s : State) (ring : Nat) (d : List Byte),
    s.logicFrozen (ring / 16) = false →
    ring < 64 →
    s.ringIssues ring 5 d = true →
    ∃ t, exec (.seFence ring) s = .next t ∧
      (if (s.ring ring).inFlight = [] then t.ring ring = s.issuedBooks ring d (crc32c []) ∧ t.ringSt ring = rgRunning
        else t.ring ring = s.ring ring ∧ t.ringSt ring = rgWaiting) ∧
      t.mem = s.mem) ∧
  (∀ (s : State) (ring : Nat) (flag : Nat) (fs : List Flight),
    takeFlight (64 + ring) flag [] s.signals = some fs →
    ∃ t, exec (.ringFlagSet ring flag) s = .next t ∧
      t = { s with signals := fs, rings := t.rings } ∧
      t.ring ring = { s.ring ring with flags := setBit (s.ring ring).flags flag true }) ∧
  (∀ (s : State) (ring : Nat) (x : Issued) (rest : List Issued),
    s.logicFrozen (ring / 16) = false →
    ring < 64 →
    (s.ring ring).inFlight = x :: rest →
    s.ringStalled ring = false →
    (descMoves x.desc = true → descExpects x.desc = true → x.crc = leAt x.desc 48 4) →
    ∃ t, exec (.descriptorRetire ring true) s = .next t ∧
      (t.ring ring).inFlight = rest ∧
      t.ringHead ring = ringNext x.idx ∧
      t.mem = s.mem ∧
      (∀ te, descSignals x.desc = true → s.rankEngine (s.ringJob ring) (descRank x.desc) = some te →
        (t.eng te).flags = setBit (s.eng te).flags (descEvent x.desc) true)) ∧
  (∀ (s : State) (ring : Nat) (x : Issued) (rest : List Issued),
    s.logicFrozen (ring / 16) = false →
    ring < 64 →
    (s.ring ring).inFlight = x :: rest →
    s.ringStalled ring = false →
    descMoves x.desc = true →
    s.jobLive (s.ringJob ring) = false →
    ∃ t, exec (.descriptorRetire ring false) s = .next t ∧
      t.ringSt ring = rgFaulted ∧
      (t.ring ring).inFlight = [] ∧
      t.fget F.seStatus_last_code (ring / 16) (ring % 16 / 4) 0 = E.seCrc.code ∧
      t.fget F.seStatus_last_ring (ring / 16) (ring % 16 / 4) 0 = ring % 4 ∧
      (newCodes s t) = [E.seCrc.code])

/-- Completion and frame of the commands of a ring's registers, by an initiator that the write rights let in. The tail
index takes its 12 bits and nothing else changes; a start runs an IDLE or PAUSED ring from its head; a pause stops
the issue of a running ring, which becomes PAUSED at its next event with its head at the first descriptor that has
not retired; an abort leaves the ring IDLE with nothing in progress. An initiator without the right changes no
register. For each of seRingTailWrite, seRingStart, seRingPause, ringPaused, seRingAbort, it concludes that exec
answers a next state. -/
def Obligations.RingControlsComplete : Prop :=
  (∀ (s : State) (who : Initiator) (ring : Nat) (tail : Nat),
    s.ringRights who ring = true →
    ∃ t, exec (.seRingTailWrite who ring tail) s = .next t ∧
      t = { s with regs := t.regs, resp := {} } ∧
      t.ringTail ring = tail % 4096 ∧
      sameRegsBut [fldAddr F.seRingTail_tail (ring / 16) (ringReg ring) 0] s t) ∧
  (∀ (s : State) (who : Initiator) (ring : Nat) (tail : Nat),
    s.ringRights who ring = false →
    ∃ t, exec (.seRingTailWrite who ring tail) s = .next t ∧
      t = { s with err := t.err, resp := {} } ∧
      newCodes s t = [E.regWriteDropped.code]) ∧
  (∀ (s : State) (who : Initiator) (ring : Nat),
    ring < 64 →
    s.ringRights who ring = true →
    (s.ringSt ring = rgIdle ∨ s.ringSt ring = rgPaused) →
    ∃ t, exec (.seRingStart who ring) s = .next t ∧
      t = { s with regs := t.regs, rings := t.rings, resp := {} } ∧
      t.ringSt ring = rgRunning ∧
      t.ring ring = { s.ring ring with issue := s.ringHead ring, inFlight := [], pausing := false } ∧
      sameRegsBut [fldAddr F.seRingHead_state (ring / 16) (ringReg ring) 0] s t) ∧
  (∀ (s : State) (who : Initiator) (ring : Nat),
    s.ringRights who ring = true →
    (s.ringSt ring = rgRunning ∨ s.ringSt ring = rgWaiting) →
    ∃ t, exec (.seRingPause who ring) s = .next t ∧
      t = { s with rings := t.rings, resp := {} } ∧
      t.ring ring = { s.ring ring with pausing := true }) ∧
  (∀ (s : State) (ring : Nat),
    ring < 64 →
    (s.ring ring).pausing = true →
    s.ringStalled ring = false →
    ∃ t, exec (.ringPaused ring) s = .next t ∧
      t = { s with regs := t.regs, rings := t.rings } ∧
      t.ringSt ring = rgPaused ∧
      t.ring ring = { s.ring ring with pausing := false, inFlight := [], issue := s.ringHead ring } ∧
      sameRegsBut [fldAddr F.seRingHead_state (ring / 16) (ringReg ring) 0] s t) ∧
  (∀ (s : State) (who : Initiator) (ring : Nat),
    ring < 64 →
    s.ringRights who ring = true →
    ∃ t, exec (.seRingAbort who ring) s = .next t ∧
      t = { s with regs := t.regs, rings := t.rings, resp := {} } ∧
      t.ringSt ring = rgIdle ∧
      t.ring ring = { s.ring ring with issue := s.ringHead ring, inFlight := [], pausing := false } ∧
      sameRegsBut [fldAddr F.seRingHead_state (ring / 16) (ringReg ring) 0] s t)

/-- Result and completion of the commands of the model cache, at the head of an ACTIVE system queue whose completion
queue takes records at once. MC_REGISTER notes a new model; an id in use is answered ID_IN_USE with nothing noted;
MC_PIN pins a resident model, or turns a running prefetch into a load for which the command waits; MC_UNPIN and
MC_QUERY answer at once; MC_RELEASE takes an idle model out and defers one in use; MC_PREFETCH starts a load into
free granules. Memory changes by the completion record alone, or not at all. A load whose COPYs all succeed makes
its model RESIDENT, puts the model's bytes into its granules, and changes no other byte and no other model. For each
of mcRegister, mcPin, mcUnpin, mcRelease, mcPrefetch, mcQuery, modelLoadDone, it concludes that exec answers a next
state. -/
def Obligations.ModelCommandsComplete : Prop :=
  (∀ (s : State) (q : Nat) (e : List Byte) (vi : Nat) (id : Nat),
    s.canonical →
    s.sysEntry q 1 vi e = true →
    s.cqOpen vi (leAt e 4 2) = true →
    id = cmdArg e 0 →
    (id < 64 ∧ cmdArg e 3 < 4) →
    s.model? vi id = none →
    (cmdArg e 2 ≠ 0 ∧ placeOf (cmdArg e 1) = .lpddr) →
    s.inReach vi (cmdArg e 1) (cmdArg e 2) = true →
    modelPairs (cmdArg e 2) ≤ s.allotPairs vi (cmdArg e 3) →
    ∃ t, exec (.mcRegister q) s = .next t ∧
      t.model? vi id = some { source := cmdArg e 1, length := cmdArg e 2, die := cmdArg e 3, crcTable := cmdArg e 4 } ∧
      answered s t e stOk 0 ∧
      t.qHead q = (s.qHead q + 1) % 65536 ∧
      sameButRecord s t (leAt e 4 2)) ∧
  (∀ (s : State) (q : Nat) (e : List Byte) (vi : Nat),
    s.canonical →
    s.sysEntry q 1 vi e = true →
    s.cqOpen vi (leAt e 4 2) = true →
    (cmdArg e 0 < 64 ∧ cmdArg e 3 < 4) →
    (s.model? vi (cmdArg e 0)).isSome = true →
    ∃ t, exec (.mcRegister q) s = .next t ∧
      t.cache = s.cache ∧
      answered s t e stIdInUse 0 ∧
      sameButRecord s t (leAt e 4 2)) ∧
  (∀ (s : State) (q : Nat) (e : List Byte) (vi : Nat) (m : Model),
    s.canonical →
    s.sysEntry q 2 vi e = true →
    s.cqOpen vi (leAt e 4 2) = true →
    s.namedModel vi (cmdArg e 0) = some m →
    s.pinnedPairs vi m.die (cmdArg e 0) ≤ s.allotPairs vi m.die * 3 / 4 →
    m.state = .resident →
    ∃ t, exec (.mcPin q) s = .next t ∧
      t.model? vi (cmdArg e 0) = some { m with pinned := true, pinLost := false } ∧
      answered s t e stOk 0 ∧
      sameButRecord s t (leAt e 4 2)) ∧
  (∀ (s : State) (q : Nat) (e : List Byte) (vi : Nat) (m : Model),
    s.sysEntry q 2 vi e = true →
    s.namedModel vi (cmdArg e 0) = some m →
    s.pinnedPairs vi m.die (cmdArg e 0) ≤ s.allotPairs vi m.die * 3 / 4 →
    m.state = .prefetching →
    ∃ t, exec (.mcPin q) s = .next t ∧
      t.model? vi (cmdArg e 0) = some { m with state := .loading, pinned := true, pinLost := false, waiters := m.waiters ++ [(q, leAt e 2 2, leAt e 4 2)] } ∧
      t = { s.entryRead q 256 with regs := t.regs, cache := t.cache } ∧
      t.qHead q = (s.qHead q + 1) % 65536) ∧
  (∀ (s : State) (q : Nat) (e : List Byte) (vi : Nat) (m : Model),
    s.canonical →
    s.sysEntry q 3 vi e = true →
    s.cqOpen vi (leAt e 4 2) = true →
    s.namedModel vi (cmdArg e 0) = some m →
    ∃ t, exec (.mcUnpin q) s = .next t ∧
      t.model? vi (cmdArg e 0) = some { m with pinned := false, pinLost := false } ∧
      answered s t e stOk 0 ∧
      sameButRecord s t (leAt e 4 2)) ∧
  (∀ (s : State) (q : Nat) (e : List Byte) (vi : Nat) (m : Model),
    s.canonical →
    s.sysEntry q 4 vi e = true →
    s.cqOpen vi (leAt e 4 2) = true →
    s.namedModel vi (cmdArg e 0) = some m →
    m.waiters = [] →
    ∃ t, exec (.mcRelease q) s = .next t ∧
      (if s.modelInUse vi (cmdArg e 0) = true then t.model? vi (cmdArg e 0) = some { m with releasing := true, pinned := false } ∧ answered s t e stInUseDeferred 0
        else t.cache.models = storeDrop s.cache.models (vi * 64 + cmdArg e 0) ∧ answered s t e stOk 0) ∧
      sameButRecord s t (leAt e 4 2)) ∧
  (∀ (s : State) (q : Nat) (e : List Byte) (vi : Nat) (m : Model) (p : Nat),
    s.canonical →
    s.sysEntry q 5 vi e = true →
    s.cqOpen vi (leAt e 4 2) = true →
    s.namedModel vi (cmdArg e 0) = some m →
    m.state = .absent →
    findRun (s.freePairs vi m.die) (modelPairs m.length) 64 = some p →
    ∃ t, exec (.mcPrefetch q) s = .next t ∧
      t.model? vi (cmdArg e 0) = some { m with state := .prefetching, base := some (2 * p), loadClass := 3 } ∧
      answered s t e stOk 0) ∧
  (∀ (s : State) (q : Nat) (e : List Byte) (vi : Nat) (m : Model),
    s.canonical →
    s.sysEntry q 6 vi e = true →
    s.cqOpen vi (leAt e 4 2) = true →
    s.namedModel vi (cmdArg e 0) = some m →
    ∃ t, exec (.mcQuery q) s = .next t ∧
      t.cache = s.cache ∧
      answered s t e stOk (modelCode m) ∧
      sameButRecord s t (leAt e 4 2)) ∧
  (∀ (s : State) (vi : Nat) (id : Nat) (se : Nat) (m : Model) (b : Nat) (u : State),
    s.model? vi id = some m →
    m.base = some b →
    (m.state = .loading ∨ m.state = .prefetching) →
    s.firmwareFinishes m.die = true →
    m.waiters = [] →
    s.loadPieces vi m b (se % 4) true (modelPieces m.length) = (u, true) →
    ∃ t, exec (.modelLoadDone vi id se true) s = .next t ∧
      t.model? vi id = some { m with state := .resident } ∧
      t = { u with cache := t.cache }) ∧
  (∀ (s : State) (vi : Nat) (id : Nat) (se : Nat) (m : Model) (b : Nat),
    s.canonical →
    s.model? vi id = some m →
    m.base = some b →
    (m.state = .loading ∨ m.state = .prefetching) →
    s.firmwareFinishes m.die = true →
    m.waiters = [] →
    m.source + m.length ≤ 0x2000000000 →
    ((granPieces m.source m.length).all (fun p => s.steer .other p.1 == p.1) = true) →
    (s.loadPieces vi m b (se % 4) true (modelPieces m.length)).2 = true →
    ∃ t, exec (.modelLoadDone vi id se true) s = .next t ∧
      t.model? vi id = some { m with state := .resident } ∧
      (∀ i < m.length, t.byteAt (granuleAddr m.die b + i) = s.byteAt (m.source + i)) ∧
      (∀ a, a < granuleAddr m.die b ∨ granuleAddr m.die b + m.length ≤ a → t.byteAt a = s.byteAt a) ∧
      (∀ k, k ≠ vi * 64 + id → storeFind t.cache.models k = storeFind s.cache.models k))

/-- Result and completion of the commands of confirmable buffers, at the head of an ACTIVE system queue whose completion
queue takes records at once. CB_REGISTER enters ranges that keep R193 into the first free entry, at slot 0 of every
granule, and returns the buffer's id; a range that breaks R193 is answered BAD_RANGE with nothing entered;
CB_RELEASE takes an idle buffer out; CB_QUERY returns two registers for each granule asked for; CB_SHARE writes the
reader mask alone. Taking the gate of an interleaved buffer and its free entry from the command's operands is the
model's log entry 67. For each of cbRegister, cbRelease, cbQuery, cbShare, it concludes that exec answers a next
state. -/
def Obligations.BufferCommandsComplete : Prop :=
  (∀ (s : State) (q : Nat) (e : List Byte) (vi : Nat) (d : Nat) (b : Nat) (first : Nat),
    s.canonical →
    s.sysEntry q 0x10 vi e = true →
    s.cqOpen vi (leAt e 4 2) = true →
    d = s.gateOf (cmdArg e 0) 0 →
    (cmdArg e 3 ≤ 1 ∧ cmdArg e 4 ≤ 0xFFFF) →
    s.badRange vi d (cmdArg e 0) (cmdArg e 1) (cmdArg e 2) = false →
    s.interleaved = false →
    (b < 256 ∧ s.bufValid d b = false) →
    s.freeTvtRun d (cmdArg e 2) = some first →
    ∃ t, exec (.cbRegister q 0 b) s = .next t ∧
      t.bufValid d b = true ∧
      (t.bufBase d b = cmdArg e 0 ∧ t.bufShadow d b = cmdArg e 1 ∧ t.bufGranules d b = cmdArg e 2) ∧
      t.bufFirst d b = first ∧
      (∀ g < cmdArg e 2, t.granState d (first + g) = gIdle ∧ t.tvt F.cgTvtEntry_confirmed_slot d (first + g) = 0 ∧ t.tvt F.cgTvtEntry_version d (first + g) = 0) ∧
      answered s t e stOk (b + d * 2 ^ 8) ∧
      sameButRecord s t (leAt e 4 2)) ∧
  (∀ (s : State) (q : Nat) (e : List Byte) (vi : Nat) (die : Nat) (b : Nat),
    s.canonical →
    s.sysEntry q 0x10 vi e = true →
    s.cqOpen vi (leAt e 4 2) = true →
    (cmdArg e 3 ≤ 1 ∧ cmdArg e 4 ≤ 0xFFFF) →
    cmdArg e 0 % granBytes ≠ 0 →
    ∃ t, exec (.cbRegister q die b) s = .next t ∧
      (∀ n d, n < 4 → d < 256 → t.bufValid n d = s.bufValid n d) ∧
      answered s t e stBadRange 0 ∧
      sameButRecord s t (leAt e 4 2)) ∧
  (∀ (s : State) (q : Nat) (e : List Byte) (vi : Nat) (d : Nat) (b : Nat),
    s.canonical →
    s.sysEntry q 0x11 vi e = true →
    s.cqOpen vi (leAt e 4 2) = true →
    s.ownBuffer vi (cmdArg e 0) = some (d, b) →
    s.bufferBusy d b = false →
    (∀ g < s.bufGranules d b, s.tvt F.cgTvtEntry_confirmed_slot d (s.bufFirst d b + g) = 0) →
    ∃ t, exec (.cbRelease q) s = .next t ∧
      t.bufValid d b = false ∧
      answered s t e stOk 0 ∧
      sameButRecord s t (leAt e 4 2)) ∧
  (∀ (s : State) (q : Nat) (e : List Byte) (vi : Nat) (d : Nat) (b : Nat),
    s.canonical →
    s.sysEntry q 0x11 vi e = true →
    s.cqOpen vi (leAt e 4 2) = true →
    s.ownBuffer vi (cmdArg e 0) = some (d, b) →
    s.bufferBusy d b = true →
    ∃ t, exec (.cbRelease q) s = .next t ∧
      t.bufValid d b = true ∧
      answered s t e stInUse 0 ∧
      sameButRecord s t (leAt e 4 2)) ∧
  (∀ (s : State) (q : Nat) (e : List Byte) (vi : Nat) (d : Nat) (b : Nat) (gs : List Nat),
    s.canonical →
    s.sysEntry q 0x12 vi e = true →
    s.cqOpen vi (leAt e 4 2) = true →
    s.ownBuffer vi (cmdArg e 0) = some (d, b) →
    (gs = ((List.range (cmdArg e 2)).map (fun i => i + cmdArg e 1)).filter (fun g => g < s.bufGranules d b)) →
    ∃ t, exec (.cbQuery q) s = .next t ∧
      t.resp.bytes = (gs.map (s.entryWords d b)).flatten ∧
      answered s t e stOk gs.length ∧
      sameButRecord s t (leAt e 4 2)) ∧
  (∀ (s : State) (q : Nat) (e : List Byte) (vi : Nat) (d : Nat) (b : Nat),
    s.canonical →
    s.sysEntry q 0x13 vi e = true →
    s.cqOpen vi (leAt e 4 2) = true →
    s.ownBuffer vi (cmdArg e 0) = some (d, b) →
    ∃ t, exec (.cbShare q) s = .next t ∧
      t.fget F.cgBufReadersN_readers d b 0 = cmdArg e 1 ∧
      t.bufValid d b = true ∧
      answered s t e stOk 0 ∧
      sameButRecord s t (leAt e 4 2))

/-- Result and completion of the gate's events. A fill puts the confirmed content, or zero, into the other slot and into
nothing else, and the granule takes writes from then on; a group whose granules may all confirm flips every slot,
steps every version, and touches no memory but the job's progress record, whatever the granules hold; a resolve word
of the queue's instance gives its pending tokens the outcome; the resolve deadline makes the pending tokens false
and counts them. A group that may not confirm stays as it is. For each of granuleFillDone, groupConfirm,
resolveDoorbell, tokenDeadline, it concludes that exec answers a next state. -/
def Obligations.GateEventsComplete : Prop :=
  (∀ (s : State) (die : Nat) (entry : Nat) (o : OpenGranule) (src : Nat) (dst : Nat),
    s.canonical →
    (die < 4 ∧ entry < 8192) →
    storeFind s.opens (openKey die entry) = some o →
    o.filling = true →
    o.stalled = [] →
    s.fon F.cgBufCtrl_fill die o.buf 0 = false →
    src = s.slotAddr die o.buf o.g (s.tvt F.cgTvtEntry_confirmed_slot die entry) →
    dst = s.slotAddr die o.buf o.g (1 - s.tvt F.cgTvtEntry_confirmed_slot die entry) →
    s.poisoned src granBytes = false →
    overlap src granBytes dst granBytes = false →
    ∃ t, exec (.granuleFillDone die entry []) s = .next t ∧
      (∀ i < granBytes, t.byteAt (dst + i) = s.byteAt (src + i)) ∧
      (∀ a, a < dst ∨ dst + granBytes ≤ a → t.byteAt a = s.byteAt a) ∧
      storeFind t.opens (openKey die entry) = some { o with filling := false }) ∧
  (∀ (s : State) (die : Nat) (entry : Nat) (o : OpenGranule) (dst : Nat),
    s.canonical →
    (die < 4 ∧ entry < 8192) →
    storeFind s.opens (openKey die entry) = some o →
    o.filling = true →
    o.stalled = [] →
    s.fon F.cgBufCtrl_fill die o.buf 0 = true →
    dst = s.slotAddr die o.buf o.g (1 - s.tvt F.cgTvtEntry_confirmed_slot die entry) →
    ∃ t, exec (.granuleFillDone die entry []) s = .next t ∧
      (∀ i < granBytes, t.byteAt (dst + i) = 0) ∧
      (∀ a, a < dst ∨ dst + granBytes ≤ a → t.byteAt a = s.byteAt a) ∧
      storeFind t.opens (openKey die entry) = some { o with filling := false }) ∧
  (∀ (s : State) (die : Nat) (entry : Nat) (o : OpenGranule) (j : Nat),
    s.canonical →
    s.logicFrozen die = false →
    (die < 4 ∧ entry < 8192) →
    storeFind s.opens (openKey die entry) = some o →
    o.grpCount ≠ 0 →
    j = s.tvt F.cgTvtEntry_owner die entry →
    ((s.job? j).isSome = true ∧ s.jobState j = jsRunning) →
    ((s.groupOf die o).all (fun p => s.mayConfirm die p.1 p.2 && s.tvt F.cgTvtEntry_owner die p.1 == j) = true) →
    ((s.groupOf die o).map Prod.fst).Nodup →
    s.vis.shrinking = [] →
    ∃ t, exec (.groupConfirm die entry) s = .next t ∧
      ((s.groupOf die o).all (fun p => t.granState die p.1 == gIdle
        && t.tvt F.cgTvtEntry_confirmed_slot die p.1 == 1 - s.tvt F.cgTvtEntry_confirmed_slot die p.1
        && t.tvt F.cgTvtEntry_version die p.1 == (s.tvt F.cgTvtEntry_version die p.1 + 1) % 65536
        && t.fget F.cgTvtLast_confirmed_by die 0 p.1 == j) = true) ∧
      (t.job j).confirmed = (s.job j).confirmed + (s.groupOf die o).length ∧
      (∀ a, a < (s.job j).record.progress ∨ (s.job j).record.progress + 64 ≤ a → t.byteAt a = s.byteAt a)) ∧
  (∀ (s : State) (die : Nat) (entry : Nat) (o : OpenGranule),
    storeFind s.opens (openKey die entry) = some o →
    ((s.groupOf die o).any (fun p => !s.mayConfirm die p.1 p.2) = true) →
    ∃ t, exec (.groupConfirm die entry) s = .next t ∧
      t = s) ∧
  (∀ (s : State) (who : Initiator) (q : Nat) (value : Word) (j : Nat) (first : Nat) (n : Nat),
    (isSubmission q = true ∧ s.doorbellOk who q = true) →
    (j = bits value.toNat 0 12 ∧ first = bits value.toNat 16 7 ∧ n = bits value.toNat 24 7 + 1) →
    (bits value.toNat 12 4 = 0 ∧ bits value.toNat 23 1 = 0 ∧ value.toNat < 2 ^ 32) →
    (s.jobLive j = true ∧ s.jobVi j = s.qVi q) →
    first + n ≤ (s.job j).tokenCount →
    storeKeys s.sched.jobs = [j] →
    ((s.job j).readers = [] ∧ s.jobState j = jsRunning) →
    (s.job j).tokenHome < 4 →
    ∃ t, exec (.resolveDoorbell who q value) s = .next t ∧
      (∀ i < n, t.tokenState j (first + i) =
        if s.tokenState j (first + i) = 1 then (if bit value.toNat 31 then 2 else 3) else s.tokenState j (first + i)) ∧
      t.mem = s.mem ∧
      t.resp = {}) ∧
  (∀ (s : State) (who : Initiator) (q : Nat) (value : Word),
    (isSubmission q = false ∨ s.doorbellOk who q = false) →
    ∃ t, exec (.resolveDoorbell who q value) s = .next t ∧
      t = { s with err := t.err, resp := {} } ∧
      newCodes s t = [E.schDoorbellRefused.code]) ∧
  (∀ (s : State) (job : Nat),
    s.jobLive job = true →
    ((s.job job).record.deadline ≠ 0 ∧ (s.job job).dispatched = true) →
    ((List.range (s.job job).tokenCount).any (fun i => s.tokenState job i == 1) = true) →
    storeKeys s.sched.jobs = [job] →
    ((s.job job).readers = [] ∧ s.jobState job = jsRunning) →
    (s.job job).tokenHome < 4 →
    (s.job job).dispatchTime + (s.job job).record.deadline ≤ s.periods →
    ∃ t, exec (.tokenDeadline job) s = .next t ∧
      (∀ i < (s.job job).tokenCount, t.tokenState job i = if s.tokenState job i = 1 then 3 else s.tokenState job i) ∧
      (newCodes s t).head? = some E.cgTokenDeadline.code ∧
      t.mem = s.mem)

/-- Result, frame and completion of the commands of queues. A doorbell write by a member of the queue's instance moves
the tail, or the head of a completion queue, and nothing else; one by anybody else, or to a queue that is not
ACTIVE, changes no register and writes a record. The fetch of an accepted job record takes its context, QUEUED, with
the record's fields and a place in a ready list; a refused record is answered with its status and takes no context.
The end of a coalescing time sends the queue's MSI to the address that the IOMMU gives, or as the MSI-X message of
the instance's virtual function. For each of doorbellTail, completionHeadDoorbell, jobRecordFetch,
msiCoalesceTimeout, it concludes that exec answers a next state. -/
def Obligations.QueueCommandsComplete : Prop :=
  (∀ (s : State) (who : Initiator) (q : Nat) (v : Nat),
    s.headQueue q = false →
    s.doorbellOk who q = true →
    s.tailFits q (v % 65536) = true →
    ∃ t, exec (.doorbellTail who q v) s = .next t ∧
      t = { s with regs := t.regs, resp := {} } ∧
      t.qTail q = v % 65536 ∧
      t.qHead q = s.qHead q ∧
      sameRegsBut [fldAddr F.schQptr_tail 4 0 q] s t) ∧
  (∀ (s : State) (who : Initiator) (q : Nat) (v : Nat),
    s.doorbellOk who q = false →
    ∃ t, exec (.doorbellTail who q v) s = .next t ∧
      t = { s with err := t.err, resp := {} } ∧
      newCodes s t = [E.schDoorbellRefused.code]) ∧
  (∀ (s : State) (who : Initiator) (q : Nat) (v : Nat),
    s.headQueue q = true →
    s.doorbellOk who q = true →
    (v % 65536 + 65536 - s.qHead q) % 65536 ≤ s.qUsed q →
    (s.cq q).held = [] →
    ∃ t, exec (.completionHeadDoorbell who q v) s = .next t ∧
      t = { s with regs := t.regs, resp := {} } ∧
      t.qHead q = v % 65536 ∧
      t.qTail q = s.qTail q ∧
      sameRegsBut [fldAddr F.schQptr_tail 4 0 q] s t) ∧
  (∀ (s : State) (q : Nat) (e : List Byte) (vi : Nat) (j : Nat) (u : State),
    s.canonical →
    (isSubmission q = true ∧ s.queueReady q = true) →
    s.readEntryAt q (s.qHead q) 256 = (u, some e) →
    vi = u.qVi q →
    u.recordStatus q vi e = stOk →
    j = recCtx e →
    ∃ t, exec (.jobRecordFetch q) s = .next t ∧
      t.jobState j = jsQueued ∧
      (t.jobVi j = vi ∧ t.jobClass j = recClass e ∧ t.jobTag j = leAt e 0 2 ∧ t.jobRanksM1 j + 1 = recRanks e) ∧
      (t.job j).record = u.jobRecordOf e ∧
      (t.sched.ready.contains j = true ∨ t.sched.nextFrame.contains j = true) ∧
      t.qHead q = (s.qHead q + 1) % 65536 ∧
      t.numAt (leAt e 0x10 8) 1 = jsQueued) ∧
  (∀ (s : State) (q : Nat) (e : List Byte) (vi : Nat) (cq : Nat) (u : State),
    s.canonical →
    (isSubmission q = true ∧ s.queueReady q = true) →
    s.readEntryAt q (s.qHead q) 256 = (u, some e) →
    vi = u.qVi q →
    u.recordStatus q vi e ≠ stOk →
    cq = leAt e 0x18 2 →
    s.cqOpen vi cq = true →
    ∃ t, exec (.jobRecordFetch q) s = .next t ∧
      t.sched.jobs = s.sched.jobs ∧
      t.qHead q = (s.qHead q + 1) % 65536 ∧
      (t.numAt (s.cqNext cq) 2 = leAt e 0 2 ∧ t.numAt (s.cqNext cq + 4) 1 = jsQueued ∧ t.numAt (s.cqNext cq + 6) 1 = u.recordStatus q vi e) ∧
      sameButRecord s t cq) ∧
  (∀ (s : State) (q : Nat) (vi : Nat) (vec : Nat) (us : Nat),
    (s.cq q).unsignalled ≠ 0 →
    (us = s.fget (if s.fon F.viState_over_budget 4 0 (s.qVi q) then F.viCoalesce_ob_us else F.viCoalesce_time_us) 4 0 (64 + s.qVi q)) →
    (s.cq q).oldest * 10 + us * 384 ≤ s.periods * 10 →
    s.fon F.schQcfg_msi_enable 4 0 q = true →
    (vi = s.qVi q ∧ vec = s.fget F.schQcfg_msi_vector 4 0 q) →
    (s.fget F.viCtx_vec_first 4 0 (64 + vi) ≤ vec ∧ vec < s.fget F.viCtx_vec_first 4 0 (64 + vi) + s.fget F.viCtx_vec_count 4 0 (64 + vi)) →
    (s.hostMode ≠ 2 ∨ s.fget F.viOwner_vf_enable 4 0 (64 + vi) ≠ 1) →
    ∃ t, exec (.msiCoalesceTimeout q) s = .next t ∧
      (t.cq q).unsignalled = 0 ∧
      (∀ a, s.translate (s.viDevice vi) (s.fget F.viMsi_file 4 0 (64 + vi) * 4096) true = some a →
        t = { s with regs := t.regs, sched := t.sched, sent := s.sent ++ [.msi a vec] } ∧ sameRegsBut [fldAddr F.viUse_pending_msi 4 0 vi] s t)) ∧
  (∀ (s : State) (q : Nat) (vi : Nat) (vec : Nat) (us : Nat),
    (s.cq q).unsignalled ≠ 0 →
    (us = s.fget (if s.fon F.viState_over_budget 4 0 (s.qVi q) then F.viCoalesce_ob_us else F.viCoalesce_time_us) 4 0 (64 + s.qVi q)) →
    (s.cq q).oldest * 10 + us * 384 ≤ s.periods * 10 →
    s.fon F.schQcfg_msi_enable 4 0 q = true →
    (vi = s.qVi q ∧ vec = s.fget F.schQcfg_msi_vector 4 0 q) →
    (s.fget F.viCtx_vec_first 4 0 (64 + vi) ≤ vec ∧ vec < s.fget F.viCtx_vec_first 4 0 (64 + vi) + s.fget F.viCtx_vec_count 4 0 (64 + vi)) →
    (s.hostMode = 2 ∧ s.fget F.viOwner_vf_enable 4 0 (64 + vi) = 1) →
    ∃ t, exec (.msiCoalesceTimeout q) s = .next t ∧
      t = { s with regs := t.regs, sched := t.sched, sent := s.sent ++ [.host 4 (vi + 1) (leBytes vec 4)] } ∧
      (t.cq q).unsignalled = 0 ∧
      sameRegsBut [fldAddr F.viUse_pending_msi 4 0 vi] s t)

/-- Result and completion of the scheduler's acts on jobs. A ready job that fits its engines and finds room is RUNNING
on them, bound rank by rank, and then every engine starts; a pre-emption sends every running rank to STOPPING and
pauses the rings; a spill copies the granule and leaves it zero; a job without spilled granules resumes on its new
engines, one with them first takes the engines and waits for its refill, which brings the bytes back before the
ranks resume, and a failed refill ends the job; the end of a budget closes the partition's window and aborts its
unfinished job with an SCH_OVERRUN record. The order of the engines as the operand lists them is the model's log
entry 66, and the restart of PAUSED rings at a resumption the model's log entry 69. For each of jobDispatch,
jobPreempt, spillDone, jobResume, refillDone, rtBudgetEnd, it concludes that exec answers a next state. -/
def Obligations.DispatchAndPreemptionComplete : Prop :=
  (∀ (s : State) (job : Nat) (tes : List Nat) (slots : List Nat),
    (s.jobLive job = true ∧ s.jobState job = jsQueued ∧ s.sched.ready.contains job = true) →
    s.enoughEngines (s.job job).record.dieMask (s.jobRanksM1 job + 1) (s.job job).record.singleDie = true →
    s.modelsReady job = true →
    tes.length = s.jobRanksM1 job + 1 →
    (s.choiceFits job ((List.range (s.jobRanksM1 job + 1)).zip tes) = true ∧ s.rtTurn job = true) →
    (if s.jobClass job = 0 then slots = [] else s.slotsFit (s.jobVi job) s.slotsTaken tes slots = true) →
    (((s.allocRegions job).bind (fun u => u.allocTokens job ((tes[0]?.getD 0) / 16))).isSome = true) →
    ∃ t, exec (.jobDispatch job tes slots) s = .next t ∧
      (∃ u : State, t = tes.foldl State.opTeStart u ∧ boundTo u job tes ∧ (u.job job).dispatched = true ∧ (u.job job).dispatchTime = s.periods)) ∧
  (∀ (s : State) (job : Nat) (needing : Nat),
    (s.needsEngines needing = true ∧ s.mayPreempt needing job = true) →
    ((storeKeys s.sched.jobs).all (fun k => k == job || !s.mayPreempt needing k || !s.victimBefore needing k job) = true) →
    ((s.job job).ranks.all (fun te => te < 64 && s.firmwareStarts (te / 16)) = true) →
    ∃ t, exec (.jobPreempt job needing) s = .next t ∧
      t = { s with regs := t.regs, rings := t.rings } ∧
      ((s.job job).ranks.all (fun te => t.teStat te == (if s.teStat te = tsRunning ∨ s.teStat te = tsWaiting then tsStopping else s.teStat te)) = true) ∧
      ((s.allRingsOf job).all (fun n => (t.ring n).pausing || !(s.ringSt n == rgRunning || s.ringSt n == rgWaiting)) = true) ∧
      (sameRegsBut ((s.job job).ranks.map (fun te => fldAddr F.teStatus_state (te / 16) (te % 16) 0)) s t)) ∧
  (∀ (s : State) (job : Nat) (needer : Nat) (se : Nat) (a : Nat) (copy : Nat),
    s.canonical →
    (s.jobLive job = true ∧ s.jobState job = jsPreempted ∧ s.jobLive needer = true) →
    (s.jobClass needer < s.jobClass job ∧ s.spillFits job needer [a] = true ∧ s.firmwareFinishes (dieOfSpm a) = true) →
    s.jobVi needer = s.jobVi job →
    (s.inAllocRegion job a = true ∧ (s.job job).spilled.any (fun x => x.addr == a) = false) →
    (0x4000000000 ≤ a ∧ a + 0x100000 ≤ 0x4040000000) →
    copy + 0x100000 ≤ 0x2000000000 →
    s.inExtent (s.jobVi job) copy 0x100000 = true →
    s.vis.shrinking = [] →
    ∃ t, exec (.spillDone job needer se [a] [copy]) s = .next t ∧
      (∀ i < 0x100000, t.byteAt (copy + i) = s.byteAt (a + i) ∧ t.byteAt (a + i) = 0) ∧
      (∀ x, (x < a ∨ a + 0x100000 ≤ x) ∧ (x < copy ∨ copy + 0x100000 ≤ x) → t.byteAt x = s.byteAt x) ∧
      (t.job job).spilled = (s.job job).spilled ++ [⟨a, copy⟩]) ∧
  (∀ (s : State) (job : Nat) (tes : List Nat),
    (s.jobLive job = true ∧ s.jobState job = jsPreempted ∧ s.fget F.schJranks_engines 4 0 job = 0) →
    tes.length = (s.ranksToResume job).length →
    s.choiceFits job ((s.ranksToResume job).zip tes) = true →
    (s.job job).spilled = [] →
    job < 4096 →
    ∃ t, exec (.jobResume job tes) s = .next t ∧
      (∃ u : State, t = u.resumeAll job (s.ranksToResume job) ∧ u.jobState job = jsRunning ∧ (u.job job).ranks = remap (s.job job).ranks (s.ranksToResume job) tes ∧ (u.job job).saved = [])) ∧
  (∀ (s : State) (job : Nat) (tes : List Nat),
    (s.jobLive job = true ∧ s.jobState job = jsPreempted ∧ s.fget F.schJranks_engines 4 0 job = 0) →
    tes.length = (s.ranksToResume job).length →
    s.choiceFits job ((s.ranksToResume job).zip tes) = true →
    (s.job job).spilled ≠ [] →
    ((s.job job).spilled.all (fun x => s.refillable (s.jobVi job) x.addr) = true) →
    ∃ t, exec (.jobResume job tes) s = .next t ∧
      t = { s with regs := t.regs, sched := t.sched } ∧
      t.jobState job = jsPreempted ∧
      (t.job job).ranks = remap (s.job job).ranks (s.ranksToResume job) tes) ∧
  (∀ (s : State) (job : Nat) (x : SpilledGranule),
    (s.jobLive job = true ∧ s.jobState job = jsPreempted ∧ s.fget F.schJranks_engines 4 0 job ≠ 0) →
    (s.job job).spilled = [x] →
    ((s.job job).ranks.all (fun te => s.firmwareFinishes (te / 16)) = true) →
    s.poisoned x.copy 0x100000 = false →
    (x.copy + 0x100000 ≤ 0x2000000000 ∧ 0x4000000000 ≤ x.addr) →
    (s.job job).record.progress + 64 ≤ 0x2000000000 →
    s.canonical →
    ∃ t, exec (.refillDone job true) s = .next t ∧
      (∃ u : State, t = u.resumeAll job (s.ranksToResume job) ∧ u.jobState job = jsRunning ∧ (u.job job).spilled = [] ∧ ∀ i < 0x100000, u.byteAt (x.addr + i) = s.byteAt (x.copy + i))) ∧
  (∀ (s : State) (job : Nat),
    (s.jobLive job = true ∧ s.jobState job = jsPreempted ∧ s.fget F.schJranks_engines 4 0 job ≠ 0) →
    (s.job job).spilled ≠ [] →
    ((s.job job).ranks.all (fun te => s.firmwareFinishes (te / 16)) = true) →
    storeKeys s.sched.jobs = [job] →
    ∃ t, exec (.refillDone job false) s = .next t ∧
      (newCodes s t).head? = some E.schRefill.code ∧
      t.jobLive job = false) ∧
  (∀ (s : State) (p : Nat),
    (s.rtPart p).windowOpen = true →
    (s.safety.frameRun = true ∧ s.safety.frameStart + s.fget F.schRtCfg_window 4 p 0 ≤ s.periods) →
    (s.sched.jobs.all (fun x => !(s.jobLive x.1 && s.jobClass x.1 == 0 && (s.job x.1).record.partition == p)) = true) →
    ∃ t, exec (.rtBudgetEnd p) s = .next t ∧
      t = { s with sched := t.sched } ∧
      t.rtPart p = { s.rtPart p with windowOpen := false }) ∧
  (∀ (s : State) (p : Nat) (j : Nat),
    (s.rtPart p).windowOpen = true →
    (s.safety.frameRun = true ∧ s.safety.frameStart + s.fget F.schRtCfg_window 4 p 0 ≤ s.periods) →
    (p < 64 ∧ j < 4096) →
    storeKeys s.sched.jobs = [j] →
    (s.jobLive j = true ∧ s.jobClass j = 0 ∧ (s.job j).record.partition = p ∧ (s.job j).admitted = true ∧ s.jobState j ≠ jsSettling) →
    ∃ t, exec (.rtBudgetEnd p) s = .next t ∧
      (newCodes s t).head? = some E.schOverrun.code ∧
      t.fget F.schRtCounts_overruns 4 p 0 = satAdd (s.fget F.schRtCounts_overruns 4 p 0) 1 16 ∧
      t.jobLive j = false)

/-- Result, frame and completion of the acts of one die's control cores on the engines of another, which no RT partition
holds and no golden test runs on: a pre-emption sends a running engine to STOPPING, a resumption does what
TE_CTRL.resume of that engine does, an abort leaves it IDLE with its open tiles FAILED, and the job's rings on its
die pause. A write by anybody else changes no register. A read of SCH_EVENT takes the oldest event of the die's
mailbox. For each of xdiePreempt, xdieResume, xdieAbort, xdiePauseRings, schEventRead, it concludes that exec
answers a next state. -/
def Obligations.CrossDieCommandsComplete : Prop :=
  (∀ (s : State) (who : Initiator) (die : Nat) (job : Nat) (rank : Nat) (te : Nat),
    (s.controlsDie who die = true ∨ who = .hardware) →
    (s.rankEngine job rank = some te ∧ te < 64) →
    (s.testing te = false ∧ bit (s.fget F.schRtLock_engines (te / 16) 0 0) (te % 16) = false) →
    (s.teStat te = tsRunning ∨ s.teStat te = tsWaiting) →
    ∃ t, exec (.xdiePreempt who die job rank) s = .next t ∧
      t = { s with regs := t.regs, resp := {} } ∧
      t.teStat te = tsStopping ∧
      sameRegsBut [fldAddr F.teStatus_state (te / 16) (te % 16) 0] s t) ∧
  (∀ (s : State) (who : Initiator) (die : Nat) (job : Nat) (rank : Nat) (te : Nat),
    (s.controlsDie who die = true ∨ who = .hardware) →
    (s.rankEngine job rank = some te ∧ te < 64) →
    (s.testing te = false ∧ bit (s.fget F.schRtLock_engines (te / 16) 0 0) (te % 16) = false) →
    (s.engineUsable te = true ∧ s.teAtRest te = true) →
    ∃ t, exec (.xdieResume who die job rank) s = .next t ∧
      (∀ u, exec (.teResume .hardware te .clean) s = .next u → t = { u with resp := {} }) ∧
      proceeds (exec (.teResume .hardware te .clean) s)) ∧
  (∀ (s : State) (who : Initiator) (die : Nat) (job : Nat) (rank : Nat) (te : Nat),
    (s.controlsDie who die = true ∨ who = .hardware) →
    (s.rankEngine job rank = some te ∧ te < 64) →
    (s.testing te = false ∧ bit (s.fget F.schRtLock_engines (te / 16) 0 0) (te % 16) = false) →
    (1 ≤ s.teStat te ∧ s.teStat te ≤ 4) →
    ((s.gftOf te).due = false ∧ s.vis.shrinking = []) →
    ∃ t, exec (.xdieAbort who die job rank) s = .next t ∧
      t.teStat te = tsIdle ∧
      (t.bankState te false = (if s.bankState te false = bkOpen then bkFailed else bkEmpty)) ∧
      (t.bankState te true = (if s.bankState te true = bkOpen then bkFailed else bkEmpty)) ∧
      (t.eng te).loads = [] ∧
      t.resp = {}) ∧
  (∀ (s : State) (who : Initiator) (die : Nat) (job : Nat) (rank : Nat) (te : Nat),
    (s.controlsDie who die = true ∨ who = .hardware) →
    (s.rankEngine job rank = some te ∧ te < 64) →
    (s.testing te = false ∧ bit (s.fget F.schRtLock_engines (te / 16) 0 0) (te % 16) = false) →
    ∃ t, exec (.xdiePauseRings who die job rank) s = .next t ∧
      t = { s with rings := t.rings, resp := {} } ∧
      ((s.ringsOf job (te / 16)).all (fun n => (t.ring n).pausing || !(s.ringSt n == rgRunning || s.ringSt n == rgWaiting)) = true)) ∧
  (∀ (s : State) (who : Initiator) (die : Nat) (job : Nat) (rank : Nat),
    (s.controlsDie who die = false ∧ who ≠ .hardware) →
    ∃ t, exec (.xdiePreempt who die job rank) s = .next t ∧
      t = { s with err := t.err, resp := {} } ∧
      newCodes s t = [E.regWriteDropped.code]) ∧
  (∀ (s : State) (who : Initiator) (die : Nat) (w : Nat) (rest : List Nat),
    who.reachesRegisters = true →
    storeGet [] s.sched.dieEvents die = w :: rest →
    ∃ t, exec (.schEventRead who die) s = .next t ∧
      t.resp = { value := w } ∧
      storeGet [] t.sched.dieEvents die = rest ∧
      t.fget F.schEventPending_count die 0 0 = rest.length % 2048 ∧
      sameRegsBut [fldAddr F.schEventPending_count die 0 0] s t)

/-- Result and completion of batch preparation. The opening of a window latches the group's configuration and puts a
batch, with the streams bound to its slots, into a FREE buffer; a sample of an enabled stream whose capture time
lies in a window is staged in its slot, and one that fits no window is counted late; the last slot that completes
makes the batch PREPARED, with a header status of OK where nothing was damaged and CONCEALED otherwise; a decode
abort adds its blocks to the damage and writes a record; the close of a window makes every slot that is not complete
MISSING and the batch PREPARED. That a camera's sample carries device time as its capture time is the model's log
entry 95. For each of windowOpen, sampleIngest, slotComplete, decodeAbort, windowClose, it concludes that exec
answers a next state. -/
def Obligations.WindowsAndSamplesComplete : Prop :=
  (∀ (s : State) (g : Nat) (n : Nat) (depth : Nat),
    s.logicFrozen (grpDie g) = false →
    g < 32 →
    s.fon F.ippGrpCfg_enable (grpDie g) (g % 16) 0 = true →
    s.windowDue g = true →
    (n = s.grpFld F.ippGrpCfg_slots_m1 g + 1 ∧ depth = s.grpFld F.ippGrpCfg_depth_m1 g + 1) →
    ((List.range depth).any (fun i => (s.ippGroup g).bufs[i]?.all (· == .free)) = true) →
    ∃ t, exec (.windowOpen g) s = .next t ∧
      (t.ippGroup g).cfg = s.reg (fldAddr F.ippGrpCfg_enable (grpDie g) (g % 16) 0) ∧
      (t.ippGroup g).batches.dropLast = (s.ippGroup g).batches ∧
      ((t.ippGroup g).batches.getLast?.map (fun b => (b.start, b.slots, b.done)) = some (s.deviceTime, s.slotStreams g n, false)) ∧
      ((t.ippGroup g).batches.getLast?.map (fun b => (t.ippGroup g).bufs[b.buf]?) = some (some .filling)) ∧
      ((t.ippGroup g).batches.getLast?.map (fun b => b.window) = some (if s.grpFld F.ippGrpCfg_window_src g = 0 then s.frame else (s.ippGroup g).count)) ∧
      t.mem = s.mem) ∧
  (∀ (s : State) (n : Nat) (capture : Nat) (damage : List Nat) (data : List Byte) (g : Nat) (slot : Nat) (b : Batch) (q : BatchSlot),
    s.logicFrozen (ippDieOf n) = false →
    (F.ippScfg_enable.of (s.scfg n) = 1 ∧ s.fget F.ippSstat_state (ippDieOf n) 0 (n % 48) = 1) →
    s.slotOf n = some (g, slot) →
    ((s.ippGroup g).batches.find? (fun b => !b.done && s.captureIn g b (if n % 48 < 16 then s.deviceTime else capture)) = some b) →
    b.slots[slot]? = some q →
    (q.stream = some n ∧ q.stage = .waiting) →
    ∃ t, exec (.sampleIngest n capture damage data) s = .next t ∧
      t = { s with ipp := t.ipp, safety := t.safety } ∧
      (t.ippStream n).seq = ((s.ippStream n).seq + 1) % 2 ^ 32 ∧
      ((t.ippGroup g).batches = (s.ippGroup g).batches.map (fun y => if y.buf = b.buf ∧ y.done = false then
        { b with slots := b.slots.set slot { q with stage := .staged { seq := (s.ippStream n).seq, capture := if n % 48 < 16 then s.deviceTime else capture, data, damage, since := s.periods } } } else y))) ∧
  (∀ (s : State) (n : Nat) (capture : Nat) (damage : List Nat) (data : List Byte) (g : Nat) (slot : Nat),
    s.logicFrozen (ippDieOf n) = false →
    n < 96 →
    (F.ippScfg_enable.of (s.scfg n) = 1 ∧ s.fget F.ippSstat_state (ippDieOf n) 0 (n % 48) = 1) →
    s.slotOf n = some (g, slot) →
    ((s.ippGroup g).batches.find? (fun b => !b.done && s.captureIn g b (if n % 48 < 16 then s.deviceTime else capture)) = none) →
    ∃ t, exec (.sampleIngest n capture damage data) s = .next t ∧
      t.fget F.ippSstat_late (ippDieOf n) 0 (n % 48) = satAdd (s.fget F.ippSstat_late (ippDieOf n) 0 (n % 48)) 1 16 ∧
      (t.ippGroup g).batches = (s.ippGroup g).batches ∧
      sameRegsBut [fldAddr F.ippSstat_late (ippDieOf n) 0 (n % 48)] s t) ∧
  (∀ (s : State) (n : Nat) (lost : List Nat) (refsLost : List Nat) (g : Nat) (slot : Nat) (b : Batch) (x : Sample),
    s.canonical →
    (s.logicFrozen (ippDieOf n) = false ∧ s.logicFrozen (grpDie g) = false) →
    s.stagesStopped n = false →
    s.stagedSample n = some (g, slot, b, x) →
    slot < 64 →
    s.batchOpen g b = true →
    ((s.ippGroup g).batches.all (fun y => y.buf != b.buf || y == b) = true) →
    ((List.range b.slots.length).all (fun i => i == slot || b.slots[i]?.any slotDone) = true) →
    ∃ t, exec (.slotComplete n lost refsLost) s = .next t ∧
      batchPrepared s t g b ∧
      (bits (t.numAt (s.batchAddr g b.buf + 64 + 32 * slot) 4) 0 2 =
        if (damagedOf (x.damage ++ lost) (if parImage (s.ippStream n).params then parBlocks (s.ippStream n).params else parElems (s.ippStream n).params)).isEmpty then 0 else 1) ∧
      (bit (t.numAt (s.batchAddr g b.buf + 64 + 32 * slot) 4) 2 = (parImage (s.ippStream n).params &&
        (damagedOf (x.damage ++ lost) (parBlocks (s.ippStream n).params)).any (fun k => refsLost.contains k || (storeFind (s.ippStream n).refs k).isNone))) ∧
      t.numAt (s.batchAddr g b.buf + 64 + 32 * slot + 8) 12 = x.capture % 2 ^ 96) ∧
  (∀ (s : State) (n : Nat) (undecoded : List Nat) (g : Nat) (slot : Nat) (b : Batch) (x : Sample),
    s.logicFrozen (ippDieOf n) = false →
    n < 96 →
    s.stagedSample n = some (g, slot, b, x) →
    (F.ippScfg_decode.of (s.scfg n) ≠ 0 ∧ x.aborted = false) →
    x.since * 10 + 4 * F.ippScfg_budget_us.of (s.scfg n) * 384 ≤ s.periods * 10 →
    ∃ t, exec (.decodeAbort n undecoded) s = .next t ∧
      newCodes s t = [E.ippDecodeAbort.code] ∧
      t.fget F.ippSstat_aborts (ippDieOf n) 0 (n % 48) = satAdd (s.fget F.ippSstat_aborts (ippDieOf n) 0 (n % 48)) 1 16 ∧
      ((t.ippGroup g).batches = (s.ippGroup g).batches.map (fun y => if y.buf = b.buf ∧ y.done = false then
        { b with slots := b.slots.set slot { stream := some n, stage := .staged { x with damage := x.damage ++ undecoded, aborted := true } } } else y)) ∧
      t.mem = s.mem) ∧
  (∀ (s : State) (g : Nat) (b : Batch) (rest : List Batch),
    s.canonical →
    s.logicFrozen (grpDie g) = false →
    (s.ippGroup g).batches = b :: rest →
    s.batchOpen g b = true →
    b.opened + s.grpFld F.ippGrpTiming2_close_offset g ≤ s.periods →
    b.slots.length ≤ 64 →
    (rest.all (fun y => y.buf != b.buf) = true) →
    ∃ t, exec (.windowClose g) s = .next t ∧
      batchPrepared s t g b ∧
      (t.ippGroup g).batches = rest ∧
      (∀ i < b.slots.length, b.slots[i]?.any slotDone = true ∨ bits (t.numAt (s.batchAddr g b.buf + 64 + 32 * i) 4) 0 2 = 2)) ∧
  (∀ (s : State) (g : Nat) (b : Batch) (rest : List Batch),
    s.logicFrozen (grpDie g) = false →
    (s.ippGroup g).batches = b :: rest →
    b.done = true →
    b.opened + s.grpFld F.ippGrpTiming2_close_offset g ≤ s.periods →
    ∃ t, exec (.windowClose g) s = .next t ∧
      t = { s with ipp := t.ipp, tahr := t.tahr } ∧
      ((b.slots.filterMap (fun x => x.stream)).all (fun n => bit (t.tahrSeq (s.stageSeq n)).events 10) = true) ∧
      t.ippGroup g = { s.ippGroup g with batches := rest })

/-- Result and completion of the commands of batch consumers and of the streams' configuration. A read of IPP_GRP_ACQ
hands out the PREPARED buffer that may be acquired, with its window number, and makes it HELD; without one it
answers zero and changes nothing; a release of a HELD buffer frees it, one of any other writes IPP_BAD_RELEASE and
changes no buffer; the consume deadline of an rt group whose batch was not acquired counts it, writes
IPP_RT_MISSING, and puts the partition's outputs in doubt; a parameter load keeps the block for the next window; a
stream reset clears the reference store. Registers that a caller may not write stay as they are. For each of
groupAcquire, groupRelease, rtConsumeDeadline, parameterLoad, streamReset, it concludes that exec answers a next
state. -/
def Obligations.BatchConsumersComplete : Prop :=
  (∀ (s : State) (who : Initiator) (g : Nat) (i : Nat) (w : Nat),
    g < 32 →
    who.reachesRegisters = true →
    s.instanceResets (s.grpFld F.ippGrpCfg_vi g) = false →
    s.acquirable g = some (i, w) →
    i < 16 →
    ∃ t, exec (.groupAcquire who g) s = .next t ∧
      t.resp = { value := i + 2 ^ 4 + w % 2 ^ 32 * 2 ^ 32 } ∧
      (t.ippGroup g).bufs = (s.ippGroup g).bufs.set i (.held w) ∧
      (t.ippGroup g).order = (s.ippGroup g).order.filter (· != i) ∧
      (t.ippGroup g).acquired = some w ∧
      t.mem = s.mem) ∧
  (∀ (s : State) (who : Initiator) (g : Nat),
    who.reachesRegisters = true →
    s.instanceResets (s.grpFld F.ippGrpCfg_vi g) = false →
    s.acquirable g = none →
    ∃ t, exec (.groupAcquire who g) s = .next t ∧
      t = { s with resp := {} }) ∧
  (∀ (s : State) (who : Initiator) (g : Nat) (i : Nat) (w : Nat),
    g < 32 →
    (who.isSteward = true ∨ s.belongs who (s.grpFld F.ippGrpCfg_vi g) = true) →
    s.instanceResets (s.grpFld F.ippGrpCfg_vi g) = false →
    (s.ippGroup g).bufs[i]? = some (.held w) →
    ∃ t, exec (.groupRelease who g i) s = .next t ∧
      t = { s with regs := t.regs, ipp := t.ipp, resp := {} } ∧
      t.ippGroup g = { s.ippGroup g with bufs := (s.ippGroup g).bufs.set i .free } ∧
      sameRegsBut [fldAddr F.ippGrpState_prepared (grpDie g) (g % 16) 0] s t) ∧
  (∀ (s : State) (who : Initiator) (g : Nat) (i : Nat),
    (who.isSteward = true ∨ s.belongs who (s.grpFld F.ippGrpCfg_vi g) = true) →
    s.instanceResets (s.grpFld F.ippGrpCfg_vi g) = false →
    (((s.ippGroup g).bufs[i]?.any (fun b => match b with | .held _ => true | _ => false)) = false) →
    ∃ t, exec (.groupRelease who g i) s = .next t ∧
      t = { s with err := t.err, resp := {} } ∧
      newCodes s t = [E.ippBadRelease.code]) ∧
  (∀ (s : State) (g : Nat),
    g < 32 →
    (F.ippGrpCfg_rt.of (s.ippGroup g).cfg = 1 ∧ s.fon F.ippGrpCfg_enable (grpDie g) (g % 16) 0 = true) →
    (s.safety.frameRun = true ∧ s.safety.frameStart + s.grpFld F.ippGrpTiming2_consume_offset g ≤ s.periods) →
    ((s.ippGroup g).acquired ≠ some s.frame ∧ (s.ippGroup g).order = []) →
    ∃ t, exec (.rtConsumeDeadline g) s = .next t ∧
      (t.ippGroup g).passed = some s.frame ∧
      t.fget F.ippGrpCounts_rt_missing (grpDie g) (g % 16) 0 = satAdd (s.fget F.ippGrpCounts_rt_missing (grpDie g) (g % 16) 0) 1 16 ∧
      (newCodes s t).head? = some E.ippRtMissing.code) ∧
  (∀ (s : State) (g : Nat),
    (F.ippGrpCfg_rt.of (s.ippGroup g).cfg = 1 ∧ s.fon F.ippGrpCfg_enable (grpDie g) (g % 16) 0 = true) →
    (s.safety.frameRun = true ∧ s.safety.frameStart + s.grpFld F.ippGrpTiming2_consume_offset g ≤ s.periods) →
    (s.ippGroup g).acquired = some s.frame →
    ∃ t, exec (.rtConsumeDeadline g) s = .next t ∧
      t = { s with ipp := t.ipp } ∧
      t.ippGroup g = { s.ippGroup g with passed := some s.frame }) ∧
  (∀ (s : State) (who : Initiator) (n : Nat) (src : Nat) (p : List Byte) (u : State),
    who.isSteward = true →
    ({ s.fset F.ippSparam_src (ippDieOf n) 0 (n % 48) src with resp := {} }).fetchAs (.service none) src 128 = (u, some p) →
    remapBytes p = 0 →
    ∃ t, exec (.parameterLoad who n src) s = .next t ∧
      t = { u with ipp := t.ipp } ∧
      t.ippStream n = { s.ippStream n with next := some (p, []) } ∧
      t.fget F.ippSparam_src (ippDieOf n) 0 (n % 48) = src % 2 ^ 48) ∧
  (∀ (s : State) (who : Initiator) (n : Nat) (src : Nat) (p : List Byte) (r : List Byte) (u : State) (v : State),
    who.isSteward = true →
    ({ s.fset F.ippSparam_src (ippDieOf n) 0 (n % 48) src with resp := {} }).fetchAs (.service none) src 128 = (u, some p) →
    remapBytes p ≠ 0 →
    u.fetchAs (.service none) (leAt p 104 8) (remapBytes p) = (v, some r) →
    ∃ t, exec (.parameterLoad who n src) s = .next t ∧
      t = { v with ipp := t.ipp } ∧
      t.ippStream n = { s.ippStream n with next := some (p, r) } ∧
      t.fget F.ippSparam_src (ippDieOf n) 0 (n % 48) = src % 2 ^ 48) ∧
  (∀ (s : State) (who : Initiator) (n : Nat),
    who.isSteward = true →
    s.slotOf n = none →
    ∃ t, exec (.streamReset who n) s = .next t ∧
      t = { s with ipp := t.ipp, resp := {} } ∧
      t.ippStream n = { s.ippStream n with refs := [] }) ∧
  (∀ (s : State) (who : Initiator) (n : Nat) (g : Nat) (slot : Nat) (b : Batch) (q : BatchSlot),
    who.isSteward = true →
    s.slotOf n = some (g, slot) →
    ((s.ippGroup g).batches = [b] ∧ b.done = false) →
    b.slots[slot]? = some q →
    (q.stream = some n ∧ slotDone q = false) →
    ∃ t, exec (.streamReset who n) s = .next t ∧
      (t.ippStream n).refs = [] ∧
      (newCodes s t).head? = some E.ippSlotMissing.code) ∧
  (∀ (s : State) (who : Initiator) (n : Nat),
    who.isSteward = false →
    ∃ t, exec (.streamReset who n) s = .next t ∧
      t = { s with err := t.err, resp := {} } ∧
      newCodes s t = [E.regWriteDropped.code])

/-- Result and completion of the frame's events under a running image. A frame start counts the frame in every register
that shows it, makes every output VALID outside the safe state, opens the window of every RT partition, and starts
the tests of the partitions' engines that can be tested; at GT_OPEN the tests of the shared engines start; at the
forced point an engine whose job still runs is sent to STOPPING with a GFT_FORCED record; a passed test restores the
engine's registers and returns it IDLE, a failed one takes it out of service; at the confirm point every usable
engine without a passed test leaves service. The number of the first frame is the model's log entry 96. For each of
frameStart, gtOpen, gtForcedPoint, goldenTestEnd, confirmPoint, it concludes that exec answers a next state. -/
def Obligations.FramesAndGoldenTestsComplete : Prop :=
  (∀ (s : State) (p : Nat),
    s.framed = true →
    s.nextStart ≤ s.periods →
    (s.engines.all (fun x => x.2.writes.isEmpty) = true) →
    p < 64 →
    s.outputs ≤ 64 →
    (s.fon F.safStatus_safe_state 4 0 0 = false ∧ s.fget F.gwStatus_stopped 6 0 0 = 0) →
    s.sched.nextFrame = [] →
    ∃ t, exec (.frameStart) s = .next t ∧
      (t.frame = s.nextFrameNumber ∧ t.fget F.safFrame_current_frame 4 0 0 = s.nextFrameNumber) ∧
      (∀ o < s.outputs, t.live o = outValid) ∧
      ((t.rtPart p).windowOpen = true ∧ (t.rtPart p).admitted = 0 ∧ (t.rtPart p).lastAdmitted = (s.rtPart p).admitted) ∧
      t.fget F.schRtUse_used 4 p 0 = 0 ∧
      t.safety.frameStart = s.nextStart ∧
      t.mem = s.mem) ∧
  (∀ (s : State) (te : Nat),
    s.framed = true →
    (s.safety.frameRun = true ∧ s.safety.frameStart + s.fget F.gftWindow_gt_open 4 0 0 ≤ s.periods) →
    (s.engines.all (fun x => x.2.writes.isEmpty) = true) →
    te < 64 →
    (s.sharedEngine te = true ∧ s.canTest te = true) →
    ∃ t, exec (.gtOpen) s = .next t ∧
      t.gftState te = gfTesting ∧
      (t.teStat te = tsRunning ∧ t.tePc te = 0) ∧
      t.fget F.gftEng_window 4 0 te = s.frame % 65536 ∧
      t.testing te = true ∧
      t.mem = s.mem) ∧
  (∀ (s : State) (te : Nat),
    s.framed = true →
    (s.safety.frameRun = true ∧ s.safety.frameStart + (s.fget F.gftWindow_confirm_offset 4 0 0 - 6144) ≤ s.periods) →
    (s.engines.all (fun x => x.2.writes.isEmpty) = true) →
    te < 64 →
    (s.sharedEngine te = true ∧ s.engineUsable te = true ∧ s.untested te = true ∧ s.gftState te = gfIn ∧ s.parked te = false) →
    (s.testing te = false ∧ (s.teStat te = tsRunning ∨ s.teStat te = tsWaiting)) →
    ∃ t, exec (.gtForcedPoint) s = .next t ∧
      t.teStat te = tsStopping ∧
      (newCodes s t).contains E.gftForced.code = true ∧
      t.mem = s.mem) ∧
  (∀ (s : State) (te : Nat),
    te < 64 →
    (s.testing te = true ∧ s.testEnded te = true ∧ s.gftState te = gfTesting) →
    s.testOutcome te = none →
    ∃ t, exec (.goldenTestEnd te) s = .next t ∧
      t.gftState te = gfIn ∧
      t.teStat te = tsIdle ∧
      (t.testing te = false ∧ (t.gftOf te).passedFrame = some s.frame) ∧
      t.reg (fldAddr F.teJob_job_ctx (te / 16) (te % 16) 0) = (s.gftOf te).saved[0]?.getD 0 % 2 ^ 64 ∧
      t.mem = s.mem) ∧
  (∀ (s : State) (te : Nat) (c : Nat),
    te < 64 →
    (s.testing te = true ∧ s.testEnded te = true ∧ s.gftState te = gfTesting) →
    s.testOutcome te = some c →
    (s.gftOf te).events = [] →
    ∃ t, exec (.goldenTestEnd te) s = .next t ∧
      t.gftState te = gfQuarantine ∧
      t.teStat te = tsOut ∧
      t.engineUsable te = false ∧
      (t.fget F.gftLastFail_engine 4 0 0 = te ∧ t.fget F.gftLastFail_cause 4 0 0 = c) ∧
      (newCodes s t).head? = some E.gftFail.code) ∧
  (∀ (s : State) (te : Nat),
    s.framed = true →
    (s.safety.frameRun = true ∧ s.safety.frameStart + s.fget F.gftWindow_confirm_offset 4 0 0 ≤ s.periods) →
    te < 64 →
    (s.engineUsable te = true ∧ s.untested te = true ∧ s.parked te = false) →
    (s.gftState te = gfIn ∨ s.gftState te = gfTesting) →
    ∃ t, exec (.confirmPoint) s = .next t ∧
      t.engineUsable te = false ∧
      (t.gftState te = gfQuarantine ∨ t.gftState te = gfRetired) ∧
      (newCodes s t).contains E.gftMissed.code = true)

/-- Result and completion of the island's events. A decision point gives every output of the current frame its decided
state, never VALID where an RT job of its partition is not DONE; a late frame is decided first, with the live states
it had. A retest that passed returns an engine to service, one that failed retires it. A status frame has 2 148
bytes that end in their CRC-32C, and takes the next sequence number. A requested safe state leaves no declared
output VALID and asks for no restart. That a frame that is late is decided at the next decision point, before the
current one, is the model's log entry 99. For each of decisionPoint, engineRetestEnd, statusFrame, requestSafe, it
concludes that exec answers a next state. -/
def Obligations.DecisionsAndStatusComplete : Prop :=
  (∀ (s : State),
    (s.safety.frameRun = true ∧ s.safety.late = none ∧ s.safety.curDecided = false) →
    s.safety.frameStart + s.fget F.safCfg_decision_offset 4 0 0 ≤ s.periods →
    s.outputs ≤ 64 →
    ∃ t, exec (.decisionPoint) s = .next t ∧
      (∀ o < s.outputs, t.decided o = t.live o) ∧
      (∀ o < s.outputs, s.live o = outValid → s.allDone o false = true → t.decided o = outValid) ∧
      (∀ o < s.outputs, s.allDone o false = false → t.decided o ≠ outValid) ∧
      t.fget F.safFrame_decided_frame 4 0 0 = s.frame ∧
      t.safety.curDecided = true) ∧
  (∀ (s : State) (f : Nat) (lives : List Nat),
    (s.safety.frameRun = true ∧ s.safety.late = some (f, lives)) →
    s.safety.lateStart + s.fget F.safCfg_decision_offset 4 0 0 ≤ s.periods →
    s.outputs ≤ 64 →
    ∃ t, exec (.decisionPoint) s = .next t ∧
      (∀ o < s.outputs, t.decided o = s.lateState o (lives[o]?.getD outNone) % 4 ∧ t.live o = s.live o) ∧
      t.fget F.safFrame_decided_frame 4 0 0 = f % 2 ^ 32 ∧
      t.safety.late = none) ∧
  (∀ (s : State) (te : Nat) (unit : Bool),
    te < 64 →
    (s.gftState te = gfQuarantine ∧ (s.gftOf te).retest = true) →
    ∃ t, exec (.engineRetestEnd te true unit) s = .next t ∧
      t.gftState te = gfIn ∧
      t.teStat te = tsIdle ∧
      t.engineUsable te = true ∧
      ((t.gftOf te).retest = false ∧ (t.gftOf te).passedFrame = some s.frame)) ∧
  (∀ (s : State) (te : Nat) (unit : Bool),
    te < 64 →
    (s.gftState te = gfQuarantine ∧ (s.gftOf te).retest = true) →
    ∃ t, exec (.engineRetestEnd te false unit) s = .next t ∧
      t.gftState te = gfRetired ∧
      t.teStat te = tsOut ∧
      (newCodes s t).getLast? = some E.engineRetired.code ∧
      t.fget F.gftLastFail_cause 4 0 0 = causeExtended) ∧
  (∀ (s : State) (channel : Nat),
    channel < 2 →
    (s.fon F.sscStatus_active (6 + channel) 0 0 = true ∧ s.frameDue channel = true) →
    ∃ t, exec (.statusFrame channel) s = .next t ∧
      t = { s with regs := t.regs, sent := s.sent ++ [.status channel (s.statusFrame channel)], safety := t.safety } ∧
      ((s.statusFrame channel).length = 2148 ∧ leAt (s.statusFrame channel) 2144 4 = crc32c ((s.statusFrame channel).take 2144)) ∧
      t.fget F.sscStatus_seq (6 + channel) 0 0 = (s.fget F.sscStatus_seq (6 + channel) 0 0 + 1) % 2 ^ 32 ∧
      t.safety = { s.safety with retroNew := setBit s.safety.retroNew channel false }) ∧
  (∀ (s : State) (who : Initiator),
    ((match who with | .sentinel _ => true | w => w.isSteward) = true) →
    s.outputs ≤ 64 →
    ∃ t, exec (.requestSafe who) s = .next t ∧
      t.fget F.safStatus_safe_state 4 0 0 = 1 ∧
      t.fget F.safStatus_reason 4 0 0 = rsSoftware ∧
      t.safety.deviceReason = rsSoftware ∧
      (∀ o < s.outputs, t.live o ≠ outValid) ∧
      (t.boot = s.boot ∧ t.mem = s.mem ∧ t.resp = {})) ∧
  (∀ (s : State) (who : Initiator),
    ((match who with | .sentinel _ => false | .hardware => false | w => !w.isSteward) = true) →
    ∃ t, exec (.requestSafe who) s = .next t ∧
      t = { s with err := t.err, resp := {} } ∧
      newCodes s t = [E.regWriteDropped.code])

/-- Result and completion of the fallback's and the pairs' events. A lane's slot completes once, OK where nothing was
damaged, and is written into the batch in the chamois SRAM; at the close every slot is written, and a chamois engine
whose test did not end with its signature leaves service; a run whose engine halted makes the fallback AVAILABLE
with the block in the chamois SRAM; a run that faulted does not; a deadline without one makes it UNAVAILABLE with a
record. A checkpoint of the leader holds its message, which nothing outside the pair sees; with 64 messages held it
changes nothing; equal signatures release the message of the leader's oldest checkpoint, as a write of its payload;
unequal ones send the pair to its retest with a record and discard every held message, as does a miscompare at an
address; a standby pair takes over; a comparator test admits or retires its pair. For each of fallbackSlotComplete,
fallbackClose, fallbackRunEnd, fallbackDeadline, pairCheckpoint, pairAddressMiscompare, pairComparatorTest, it
concludes that exec answers a next state. -/
def Obligations.FallbackAndPairsComplete : Prop :=
  (∀ (s : State) (slot : Nat) (l : FallbackLane) (c : Nat) (data : List Byte) (lost : List Nat),
    s.canonical →
    s.safety.lanes[slot]? = some l →
    (l.sample = some (c, data, lost) ∧ l.written = none ∧ s.safety.fbClosed = false) →
    ∃ t, exec (.fallbackSlotComplete slot) s = .next t ∧
      (∃ l', t.safety.lanes[slot]? = some l' ∧ t = ({ s with safety := { s.safety with lanes := t.safety.lanes } }).writeLane slot l') ∧
      (∀ a, a < 0x4040000000 ∨ 0x4041000000 ≤ a → t.byteAt a = s.byteAt a) ∧
      ((t.safety.lanes[slot]?.map (fun x => x.seq)) = some (l.seq + 1)) ∧
      ((t.safety.lanes[slot]?.map (fun x => x.written.map (· % 4))) = some (some (if (damagedOf lost (if parImage l.params then parBlocks l.params else parElems l.params)).isEmpty then 0 else 1))) ∧
      (∀ i, i ≠ slot → t.safety.lanes[i]? = s.safety.lanes[i]?)) ∧
  (∀ (s : State),
    s.canonical →
    (s.safety.frameRun = true ∧ s.safety.fbClosed = false ∧ s.fallbackState ≠ 2) →
    s.safety.frameStart + s.safety.fbCloseAt ≤ s.periods →
    ∃ t, exec (.fallbackClose) s = .next t ∧
      t.safety.fbClosed = true ∧
      t.safety.lanes = s.safety.lanes.map missLane ∧
      ((onesBelow s.safety.chuUsable 2).all (fun k =>
        let ok := s.teStat (chamoisTe + k) == tsDone && s.fget F.teSig_signature 8 k 0 == s.safety.chuExpected[k]?.getD 0
        bit t.safety.chuPassed k == ok && bit t.safety.chuUsable k == ok) = true) ∧
      (∀ a, a < 0x4040000000 ∨ 0x4041000000 ≤ a → t.byteAt a = s.byteAt a)) ∧
  (∀ (s : State),
    (s.safety.fbClosed = true ∧ s.safety.fbEnded = false ∧ s.safety.fbFault = false ∧ s.safety.chuPassed ≠ 0 ∧ s.safety.fbAnyInput = true) →
    s.fallbackPossible = true →
    s.teStat (chamoisTe + s.safety.fbEngine) = tsDone →
    ∃ t, exec (.fallbackRunEnd) s = .next t ∧
      (t.safety.fbAvailable = true ∧ t.safety.fbBytes = s.fallbackBlock) ∧
      t.fallbackState = 0 ∧
      t.fget F.chuFrame_last_frame 4 0 0 = s.safety.fbFrame % 2 ^ 32 ∧
      t.mem = s.mem) ∧
  (∀ (s : State),
    (s.safety.fbClosed = true ∧ s.safety.fbEnded = false) →
    (s.teStat (chamoisTe + s.safety.fbEngine) ≠ tsRunning ∧ s.teStat (chamoisTe + s.safety.fbEngine) ≠ tsWaiting) →
    (s.teStat (chamoisTe + s.safety.fbEngine) ≠ tsDone ∨ s.safety.fbFault = true) →
    ∃ t, exec (.fallbackRunEnd) s = .next t ∧
      t = { s with safety := { s.safety with fbFault := true, fbEnded := true } }) ∧
  (∀ (s : State),
    (s.safety.frameRun = true ∧ s.fallbackState ≠ 2 ∧ s.safety.fbAvailable = false ∧ s.safety.fbLate = false) →
    s.safety.frameStart + s.fget F.safCfg_fallback_deadline 4 0 0 ≤ s.periods →
    ∃ t, exec (.fallbackDeadline) s = .next t ∧
      newCodes s t = [E.fallbackUnavailable.code] ∧
      t.fallbackState = 1 ∧
      t.mem = s.mem) ∧
  (∀ (s : State) (pair : Nat) (r : PairRun),
    (pair < 6 ∧ s.pairUp pair = true ∧ s.checkpointDue pair r = true) →
    (r.message = none ∨ (s.outbox pair).length < 64) →
    ∃ t, exec (.pairCheckpoint pair (some r) none) s = .next t ∧
      t = { s with pairs := t.pairs } ∧
      (t.pair pair).ahead = (s.pair pair).ahead ++ [⟨r.signature, r.count, r.stores, r.message⟩] ∧
      ((t.pair pair).lastAt = s.periods ∧ (t.pair pair).lastCount = r.count)) ∧
  (∀ (s : State) (pair : Nat) (r : PairRun),
    pair < 6 →
    (r.message ≠ none ∧ 64 ≤ (s.outbox pair).length) →
    ∃ t, exec (.pairCheckpoint pair (some r) none) s = .next t ∧
      t = s) ∧
  (∀ (s : State) (pair : Nat) (r : PairRun) (g : PairSegment) (rest : List PairSegment),
    (pair < 4 ∧ s.pairUp pair = true) →
    (s.pair pair).ahead = g :: rest →
    (g.signature = r.signature ∧ g.message = none) →
    ∃ t, exec (.pairCheckpoint pair none (some r)) s = .next t ∧
      t = { s with pairs := t.pairs } ∧
      (t.pair pair).ahead = rest) ∧
  (∀ (s : State) (pair : Nat) (r : PairRun) (g : PairSegment) (rest : List PairSegment) (a : Nat) (bs : List Byte) (u : State),
    (pair < 6 ∧ s.pairUp pair = true) →
    (s.pair pair).ahead = g :: rest →
    (g.signature = r.signature ∧ g.message = some (a, bs)) →
    u = s.checkpointPasses pair g →
    u.hears (pairInitiator pair) a = true →
    ∃ t, exec (.pairCheckpoint pair none (some r)) s = .next t ∧
      t = u.accessAt (pairInitiator pair) (.write a bs) ∧
      ((u.pair pair).ahead = rest ∧ u = { s with pairs := u.pairs })) ∧
  (∀ (s : State) (pair : Nat) (r : PairRun) (g : PairSegment) (rest : List PairSegment),
    (s.pair pair).ahead = g :: rest →
    g.signature ≠ r.signature →
    (pair < 4 ∧ s.pairUp pair = true) →
    s.pairEvents pair = [s.periods] →
    ∃ t, exec (.pairCheckpoint pair none (some r)) s = .next t ∧
      t.pairSt pair = prTesting ∧
      (t.pair pair).ahead = [] ∧
      (newCodes s t).head? = some E.pairMiscompare.code ∧
      t.fget F.safPair_last_us 4 0 pair = s.nowUs % 2 ^ 32 ∧
      t.fw.down.contains pair = true) ∧
  (∀ (s : State) (count : Nat),
    (s.pairSt 4 = prAdmitted ∧ s.pairActive 4 = true ∧ s.pairSt 5 = prStandby) →
    s.err.handlingOrder = [] →
    s.pairEvents 4 = [s.periods] →
    ∃ t, exec (.pairAddressMiscompare 4 count) s = .next t ∧
      (t.pairSt 4 = prTesting ∧ t.pairActive 4 = false) ∧
      (t.pairSt 5 = prAdmitted ∧ t.pairActive 5 = true) ∧
      (newCodes s t) = [E.pairMiscompare.code, E.pairTakeover.code] ∧
      ((t.err.inFlight.drop s.err.inFlight.length).head?.map (fun r => r.detail) = some (4 + count % 2 ^ 64 * 2 ^ 16))) ∧
  (∀ (s : State) (pair : Nat),
    pair < 4 →
    (s.pairSt pair = prTesting ∨ s.pairSt pair = prReset) →
    ∃ t, exec (.pairComparatorTest pair true) s = .next t ∧
      t = { s with regs := t.regs, pairs := t.pairs } ∧
      t.pairSt pair = prAdmitted ∧
      (t.pair pair).ahead = []) ∧
  (∀ (s : State) (pair : Nat),
    pair < 6 →
    (s.pairSt pair = prTesting ∨ s.pairSt pair = prReset) →
    ∃ t, exec (.pairComparatorTest pair false) s = .next t ∧
      t.pairSt pair = prRetired ∧
      (newCodes s t).take 2 = [E.pairTestFail.code, E.pairRetired.code])

/-- Result, frame and completion of the instructions that work on a sequencer's own registers: each puts its result into
its destination, advances the pc, and changes no other register, no other sequencer and no memory. BEXT and BINS
take a field that fits in 32 bits; GETF reads the three flags and clears them; TIME reads the time counter. That
BEXT and BINS take their field LSB-first is the model's log entry 108, and that kind 3 of SHI is illegal the model's
log entry 107. For each of tahrNop, tahrAlu, tahrAddi, tahrAndi, tahrOri, tahrXori, tahrShi, tahrMovi, tahrLui,
tahrBext, tahrBins, tahrCrc, tahrTime, tahrTmr, tahrGetf, it concludes that exec answers a next state. -/
def Obligations.TahrRegisterInstructionsComplete : Prop :=
  (∀ (s : State) (seq : Nat) (w : Nat),
    s.tahrRuns seq 0 w = true →
    ∃ t, exec (.tahrNop seq .clean) s = .next t ∧
      tahrDone seq (s.tahrSeq seq) s t) ∧
  (∀ (s : State) (seq : Nat) (w : Nat),
    s.tahrRuns seq 1 w = true →
    ∃ t, exec (.tahrAlu seq .clean) s = .next t ∧
      tahrDone seq ((s.tahrSeq seq).alu (wRd w) (bits w 0 4) ((s.tahrSeq seq).reg (wRa w)) ((s.tahrSeq seq).reg (wRb w))) s t) ∧
  (∀ (s : State) (seq : Nat) (w : Nat),
    s.tahrRuns seq 2 w = true →
    ∃ t, exec (.tahrAddi seq .clean) s = .next t ∧
      tahrDone seq ((s.tahrSeq seq).put (wRd w) ((s.tahrSeq seq).reg (wRa w) + wImm18 w)) s t) ∧
  (∀ (s : State) (seq : Nat) (w : Nat),
    s.tahrRuns seq 3 w = true →
    ∃ t, exec (.tahrAndi seq .clean) s = .next t ∧
      tahrDone seq ((s.tahrSeq seq).put (wRd w) (Nat.land ((s.tahrSeq seq).reg (wRa w)) (wImm18 w))) s t) ∧
  (∀ (s : State) (seq : Nat) (w : Nat),
    s.tahrRuns seq 4 w = true →
    ∃ t, exec (.tahrOri seq .clean) s = .next t ∧
      tahrDone seq ((s.tahrSeq seq).put (wRd w) (Nat.lor ((s.tahrSeq seq).reg (wRa w)) (wImm18 w))) s t) ∧
  (∀ (s : State) (seq : Nat) (w : Nat),
    s.tahrRuns seq 5 w = true →
    ∃ t, exec (.tahrXori seq .clean) s = .next t ∧
      tahrDone seq ((s.tahrSeq seq).put (wRd w) (Nat.xor ((s.tahrSeq seq).reg (wRa w)) (wImm18 w))) s t) ∧
  (∀ (s : State) (seq : Nat) (w : Nat),
    s.tahrRuns seq 6 w = true →
    ∃ t, exec (.tahrShi seq .clean) s = .next t ∧
      (tahrDone seq ((s.tahrSeq seq).put (wRd w) (match bits w 5 2 with
        | 0 => (s.tahrSeq seq).reg (wRa w) * 2 ^ bits w 0 5
        | 1 => (s.tahrSeq seq).reg (wRa w) / 2 ^ bits w 0 5
        | _ => unsigned (s32 ((s.tahrSeq seq).reg (wRa w)) / (2 ^ bits w 0 5 : Nat)) 32)) s t)) ∧
  (∀ (s : State) (seq : Nat) (w : Nat),
    s.tahrRuns seq 7 w = true →
    ∃ t, exec (.tahrMovi seq .clean) s = .next t ∧
      tahrDone seq ((s.tahrSeq seq).put (wRd w) (wImm22 w)) s t) ∧
  (∀ (s : State) (seq : Nat) (w : Nat),
    s.tahrRuns seq 8 w = true →
    ∃ t, exec (.tahrLui seq .clean) s = .next t ∧
      tahrDone seq ((s.tahrSeq seq).put (wRd w) (bits w 0 22 * 2 ^ 10)) s t) ∧
  (∀ (s : State) (seq : Nat) (w : Nat),
    s.tahrRuns seq 0x10 w = true →
    bits w 13 5 + (bits w 8 5 + 1) ≤ 32 →
    ∃ t, exec (.tahrBext seq .clean) s = .next t ∧
      tahrDone seq ((s.tahrSeq seq).put (wRd w) (readField false (bit w 7) (bits w 13 5) (bits w 8 5 + 1) 0 (leBytes ((s.tahrSeq seq).reg (wRa w)) 4))) s t) ∧
  (∀ (s : State) (seq : Nat) (w : Nat),
    s.tahrRuns seq 0x11 w = true →
    bits w 13 5 + (bits w 8 5 + 1) ≤ 32 →
    ∃ t, exec (.tahrBins seq .clean) s = .next t ∧
      tahrDone seq ((s.tahrSeq seq).put (wRa w) (leNat (writeField false (bits w 13 5) (bits w 8 5 + 1) 0 ((s.tahrSeq seq).reg (wRd w)) (leBytes ((s.tahrSeq seq).reg (wRa w)) 4)))) s t) ∧
  (∀ (s : State) (seq : Nat) (w : Nat),
    s.tahrRuns seq 0x17 w = true →
    ∃ t, exec (.tahrCrc seq .clean) s = .next t ∧
      tahrDone seq ((s.tahrSeq seq).put (wRd w) (crcOf (tahrCrcSpec (bits w 2 2) ((s.tahrSeq seq).reg (wRd w))) (leBytes ((s.tahrSeq seq).reg (wRa w)) (bits w 0 2 + 1)))) s t) ∧
  (∀ (s : State) (seq : Nat) (w : Nat),
    s.tahrRuns seq 0x2B w = true →
    ∃ t, exec (.tahrTime seq .clean) s = .next t ∧
      tahrDone seq ((s.tahrSeq seq).put (wRd w) s.periods) s t) ∧
  (∀ (s : State) (seq : Nat) (w : Nat),
    s.tahrRuns seq 0x2C w = true →
    ∃ t, exec (.tahrTmr seq .clean) s = .next t ∧
      tahrDone seq { s.tahrSeq seq with timer := (s.tahrSeq seq).reg (wRa w), timerFrom := s.periods } s t) ∧
  (∀ (s : State) (seq : Nat) (w : Nat),
    s.tahrRuns seq 0x2D w = true →
    ∃ t, exec (.tahrGetf seq .clean) s = .next t ∧
      tahrDone seq { (s.tahrSeq seq).put (wRd w) ((s.tahrSeq seq).sat.toNat + 2 * (s.tahrSeq seq).clamp.toNat + 4 * (s.tahrSeq seq).miss.toNat) with sat := false, clamp := false, miss := false } s t) ∧
  (∀ (s : State) (seq : Nat) (w : Nat),
    s.logicFrozen (seqDie seq) = false →
    seq < 64 →
    s.sqState seq = sqRunning →
    (s.tahrSeq seq).code[s.sqPc seq]? = some w →
    tahrLegal w = false →
    ∃ t, exec (.tahrNop seq .clean) s = .next t ∧
      (newCodes s t).head? = some E.tsqIllegal.code ∧
      (t.sqState seq = sqFaulted ∨ t.sqState seq = sqStopped) ∧
      (t.tahrSeq seq).g = (s.tahrSeq seq).g ∧
      t.fget F.tsqState_last_fault 4 0 seq = E.tsqIllegal.code)

/-- Result, frame and completion of the instructions over a sequencer's data memory, for aligned addresses within its 8
KiB: loads and stores of one, two and four bytes in little-endian order, fields of either bit order, the rescaling
with its descriptor, an indexed entry, the CRC of a range of at most 2 048 bytes (of a longer one the result is
free, the model's log entry 111), and the keyed search, which finds the value of a key that a table in rising key
order holds and answers the default, with the flag m, for any other key. For each of tahrLd, tahrLdh, tahrLdb,
tahrSt, tahrSth, tahrStb, tahrBextm, tahrBinsm, tahrRscl, tahrTlx, tahrTlk, tahrCrcm, it concludes that exec answers
a next state. -/
def Obligations.TahrMemoryInstructionsComplete : Prop :=
  (∀ (s : State) (seq : Nat) (w : Nat) (a : Nat),
    s.tahrRuns seq 9 w = true →
    a = ((s.tahrSeq seq).reg (wRa w) + wImm18 w) % 2 ^ 32 →
    (a % 4 = 0 ∧ a + 4 ≤ 0x2000) →
    ∃ t, exec (.tahrLd seq .clean) s = .next t ∧
      tahrDone seq ((s.tahrSeq seq).put (wRd w) (leNat ((s.tahrSeq seq).dataAt a 4))) s t) ∧
  (∀ (s : State) (seq : Nat) (w : Nat) (a : Nat),
    s.tahrRuns seq 0xA w = true →
    a = ((s.tahrSeq seq).reg (wRa w) + wImm18 w) % 2 ^ 32 →
    (a % 2 = 0 ∧ a + 2 ≤ 0x2000) →
    ∃ t, exec (.tahrLdh seq .clean) s = .next t ∧
      tahrDone seq ((s.tahrSeq seq).put (wRd w) (leNat ((s.tahrSeq seq).dataAt a 2))) s t) ∧
  (∀ (s : State) (seq : Nat) (w : Nat) (a : Nat),
    s.tahrRuns seq 0xB w = true →
    a = ((s.tahrSeq seq).reg (wRa w) + wImm18 w) % 2 ^ 32 →
    a < 0x2000 →
    ∃ t, exec (.tahrLdb seq .clean) s = .next t ∧
      tahrDone seq ((s.tahrSeq seq).put (wRd w) (leNat ((s.tahrSeq seq).dataAt a 1))) s t) ∧
  (∀ (s : State) (seq : Nat) (w : Nat) (a : Nat),
    s.tahrRuns seq 0xC w = true →
    a = ((s.tahrSeq seq).reg (wRa w) + wImm18 w) % 2 ^ 32 →
    (a % 4 = 0 ∧ a + 4 ≤ 0x2000) →
    ∃ t, exec (.tahrSt seq .clean) s = .next t ∧
      tahrDone seq { s.tahrSeq seq with data := putOp (s.tahrSeq seq).data a (leBytes ((s.tahrSeq seq).reg (wRd w)) 4) } s t) ∧
  (∀ (s : State) (seq : Nat) (w : Nat) (a : Nat),
    s.tahrRuns seq 0xD w = true →
    a = ((s.tahrSeq seq).reg (wRa w) + wImm18 w) % 2 ^ 32 →
    (a % 2 = 0 ∧ a + 2 ≤ 0x2000) →
    ∃ t, exec (.tahrSth seq .clean) s = .next t ∧
      tahrDone seq { s.tahrSeq seq with data := putOp (s.tahrSeq seq).data a (leBytes ((s.tahrSeq seq).reg (wRd w)) 2) } s t) ∧
  (∀ (s : State) (seq : Nat) (w : Nat) (a : Nat),
    s.tahrRuns seq 0xE w = true →
    a = ((s.tahrSeq seq).reg (wRa w) + wImm18 w) % 2 ^ 32 →
    a < 0x2000 →
    ∃ t, exec (.tahrStb seq .clean) s = .next t ∧
      tahrDone seq { s.tahrSeq seq with data := putOp (s.tahrSeq seq).data a (leBytes ((s.tahrSeq seq).reg (wRd w)) 1) } s t) ∧
  (∀ (s : State) (seq : Nat) (w : Nat) (a : Nat) (n : Nat) (pos : Nat),
    s.tahrRuns seq 0x12 w = true →
    (n = bits w 9 5 + 1 ∧ pos = (s.tahrSeq seq).reg (wRb w)) →
    a = (s.tahrSeq seq).reg (wRa w) + (fieldSpan (bit w 8) pos n).1 →
    a + (fieldSpan (bit w 8) pos n).2 ≤ 0x2000 →
    ∃ t, exec (.tahrBextm seq .clean) s = .next t ∧
      tahrDone seq ((s.tahrSeq seq).put (wRd w) (readField (bit w 8) (bit w 7) pos n (fieldSpan (bit w 8) pos n).1 ((s.tahrSeq seq).dataAt a (fieldSpan (bit w 8) pos n).2))) s t) ∧
  (∀ (s : State) (seq : Nat) (w : Nat) (a : Nat) (n : Nat) (pos : Nat),
    s.tahrRuns seq 0x13 w = true →
    (n = bits w 9 5 + 1 ∧ pos = (s.tahrSeq seq).reg (wRb w)) →
    a = (s.tahrSeq seq).reg (wRa w) + (fieldSpan (bit w 8) pos n).1 →
    a + (fieldSpan (bit w 8) pos n).2 ≤ 0x2000 →
    ∃ t, exec (.tahrBinsm seq .clean) s = .next t ∧
      tahrDone seq { s.tahrSeq seq with data := putOp (s.tahrSeq seq).data a (writeField (bit w 8) pos n (fieldSpan (bit w 8) pos n).1 ((s.tahrSeq seq).reg (wRd w)) ((s.tahrSeq seq).dataAt a (fieldSpan (bit w 8) pos n).2)) } s t) ∧
  (∀ (s : State) (seq : Nat) (w : Nat) (a : Nat),
    s.tahrRuns seq 0x14 w = true →
    (a = (s.tahrSeq seq).reg (wRb w) ∧ a % 4 = 0 ∧ a + 16 ≤ 0x2000) →
    ∃ t, exec (.tahrRscl seq .clean) s = .next t ∧
      tahrDone seq ((s.tahrSeq seq).rescale (wRd w) ((s.tahrSeq seq).reg (wRa w)) (bits w 9 5) ((s.tahrSeq seq).dataAt a 16)) s t) ∧
  (∀ (s : State) (seq : Nat) (w : Nat) (a : Nat) (i : Nat) (k : Nat),
    s.tahrRuns seq 0x15 w = true →
    (a = (s.tahrSeq seq).reg (wRb w) ∧ a % 4 = 0 ∧ a + 8 ≤ 0x2000) →
    (i = (s.tahrSeq seq).reg (wRa w) ∧ i < leNat ((s.tahrSeq seq).dataAt a 2)) →
    (k = 2 ^ bits (leNat ((s.tahrSeq seq).dataAt a 4)) 16 2 ∧ k ≤ 4 ∧ a + 8 + i * k + k ≤ 0x2000) →
    ∃ t, exec (.tahrTlx seq .clean) s = .next t ∧
      tahrDone seq ((s.tahrSeq seq).put (wRd w) (leNat ((s.tahrSeq seq).dataAt (a + 8 + i * k) k))) s t) ∧
  (∀ (s : State) (seq : Nat) (w : Nat) (a : Nat),
    s.tahrRuns seq 0x15 w = true →
    (a = (s.tahrSeq seq).reg (wRb w) ∧ a % 4 = 0 ∧ a + 8 ≤ 0x2000) →
    leNat ((s.tahrSeq seq).dataAt a 2) ≤ (s.tahrSeq seq).reg (wRa w) →
    ∃ t, exec (.tahrTlx seq .clean) s = .next t ∧
      tahrDone seq { (s.tahrSeq seq).put (wRd w) (leNat ((s.tahrSeq seq).dataAt (a + 4) 4)) with miss := true } s t) ∧
  (∀ (s : State) (seq : Nat) (w : Nat) (a : Nat) (n : Nat) (i : Nat),
    s.tahrRuns seq 0x16 w = true →
    (a = (s.tahrSeq seq).reg (wRb w) ∧ a % 4 = 0 ∧ n = leNat ((s.tahrSeq seq).dataAt a 2) ∧ a + 8 + 8 * n ≤ 0x2000) →
    ((List.range (n - 1)).all (fun k => ((s.tahrSeq seq).pairAt a k).1 < ((s.tahrSeq seq).pairAt a (k + 1)).1) = true) →
    (i < n ∧ ((s.tahrSeq seq).pairAt a i).1 = (s.tahrSeq seq).reg (wRa w)) →
    ∃ t, exec (.tahrTlk seq .clean) s = .next t ∧
      tahrDone seq ((s.tahrSeq seq).put (wRd w) ((s.tahrSeq seq).pairAt a i).2) s t) ∧
  (∀ (s : State) (seq : Nat) (w : Nat) (a : Nat) (n : Nat),
    s.tahrRuns seq 0x16 w = true →
    (a = (s.tahrSeq seq).reg (wRb w) ∧ a % 4 = 0 ∧ n = leNat ((s.tahrSeq seq).dataAt a 2) ∧ a + 8 + 8 * n ≤ 0x2000) →
    ((List.range n).all (fun k => ((s.tahrSeq seq).pairAt a k).1 != (s.tahrSeq seq).reg (wRa w)) = true) →
    ∃ t, exec (.tahrTlk seq .clean) s = .next t ∧
      tahrDone seq { (s.tahrSeq seq).put (wRd w) (leNat ((s.tahrSeq seq).dataAt (a + 4) 4)) with miss := true } s t) ∧
  (∀ (s : State) (seq : Nat) (w : Nat) (a : Nat) (n : Nat),
    s.tahrRuns seq 0x18 w = true →
    (a = (s.tahrSeq seq).reg (wRa w) ∧ n = (s.tahrSeq seq).reg (wRb w) ∧ a + n ≤ 0x2000 ∧ n ≤ 2048) →
    ∃ t, exec (.tahrCrcm seq .clean) s = .next t ∧
      tahrDone seq ((s.tahrSeq seq).put (wRd w) (crcOf (tahrCrcSpec (bits w 9 2) ((s.tahrSeq seq).reg (wRd w))) ((s.tahrSeq seq).dataAt a n))) s t) ∧
  (∀ (s : State) (seq : Nat) (w : Nat),
    s.tahrRuns seq 0x18 w = true →
    2048 < (s.tahrSeq seq).reg (wRb w) →
    ∃ t, exec (.tahrCrcm seq .clean) s = .next t ∧
      t = { s with regs := t.regs, tahr := t.tahr, freeCtr := s.freeCtr + 1 } ∧
      t.tahrSeq seq = (s.tahrSeq seq).put (wRd w) (Config.freeValue s.freeCtr % 2 ^ 32) ∧
      (t.sqPc seq = tahrNext (s.sqPc seq) ∧ t.sqState seq = sqRunning) ∧
      sameRegsBut [fldAddr F.tsqState_state 4 0 seq] s t) ∧
  (∀ (s : State) (seq : Nat) (w : Nat) (a : Nat),
    seq < 32 →
    s.tahrRuns seq 9 w = true →
    a = ((s.tahrSeq seq).reg (wRa w) + wImm18 w) % 2 ^ 32 →
    (a % 4 ≠ 0 ∨ (0x2000 ≤ a ∧ a < 0x8000) ∨ 0x9100 ≤ a) →
    ∃ t, exec (.tahrLd seq .clean) s = .next t ∧
      (newCodes s t).head? = some E.tsqAddress.code ∧
      (t.sqState seq = sqFaulted ∨ t.sqState seq = sqStopped) ∧
      (t.tahrSeq seq).g = (s.tahrSeq seq).g)

/-- Result and completion of the instructions that move the pc or meet the outside. A branch that holds goes to its
target within the program, one that does not goes on; JAL and JR leave the return address; RECV takes the oldest
word, or the oldest notice of a gateway sequencer; SEND hands its word to the site, a gateway's to the egress stage,
a stream engine's staged descriptor to its ring's tail; WAIT returns the events that its mask selects and starts an
activation, or leaves the sequencer WAITING; HALT leaves it IDLE. An empty port stalls. For each of tahrBr, tahrJal,
tahrJr, tahrRecv, tahrSend, tahrWait, tahrHalt, it concludes that exec answers a next state. -/
def Obligations.TahrControlInstructionsComplete : Prop :=
  (∀ (s : State) (seq : Nat) (w : Nat) (target : Int),
    s.tahrRuns seq 0x20 w = true →
    tahrCond (wRd w) ((s.tahrSeq seq).reg (wRa w)) ((s.tahrSeq seq).reg (wRb w)) = true →
    target = s.sqPc seq + signed (bits w 0 14) 14 →
    (0 ≤ target ∧ target < (s.tahrSeq seq).code.length) →
    ∃ t, exec (.tahrBr seq .clean) s = .next t ∧
      t = { s with regs := t.regs } ∧
      (t.sqPc seq : Int) = target % 4096 ∧
      t.sqState seq = sqRunning ∧
      sameRegsBut [fldAddr F.tsqState_state 4 0 seq] s t) ∧
  (∀ (s : State) (seq : Nat) (w : Nat),
    s.tahrRuns seq 0x20 w = true →
    tahrCond (wRd w) ((s.tahrSeq seq).reg (wRa w)) ((s.tahrSeq seq).reg (wRb w)) = false →
    ∃ t, exec (.tahrBr seq .clean) s = .next t ∧
      t = { s with regs := t.regs } ∧
      t.sqPc seq = tahrNext (s.sqPc seq) ∧
      sameRegsBut [fldAddr F.tsqState_state 4 0 seq] s t) ∧
  (∀ (s : State) (seq : Nat) (w : Nat) (target : Int),
    s.tahrRuns seq 0x21 w = true →
    target = s.sqPc seq + signed (bits w 0 22) 22 →
    (0 ≤ target ∧ target < (s.tahrSeq seq).code.length) →
    ∃ t, exec (.tahrJal seq .clean) s = .next t ∧
      t.tahrSeq seq = (s.tahrSeq seq).put (wRd w) (s.sqPc seq + 1) ∧
      (t.sqPc seq : Int) = target % 4096 ∧
      t = { s with regs := t.regs, tahr := t.tahr } ∧
      sameRegsBut [fldAddr F.tsqState_state 4 0 seq] s t) ∧
  (∀ (s : State) (seq : Nat) (w : Nat),
    s.tahrRuns seq 0x22 w = true →
    (s.tahrSeq seq).reg (wRa w) % 4096 < (s.tahrSeq seq).code.length →
    ∃ t, exec (.tahrJr seq .clean) s = .next t ∧
      t.tahrSeq seq = (s.tahrSeq seq).put (wRd w) (s.sqPc seq + 1) ∧
      t.sqPc seq = (s.tahrSeq seq).reg (wRa w) % 4096 ∧
      t = { s with regs := t.regs, tahr := t.tahr } ∧
      sameRegsBut [fldAddr F.tsqState_state 4 0 seq] s t) ∧
  (∀ (s : State) (seq : Nat) (w : Nat) (v : Nat) (rest : List Nat),
    s.tahrRuns seq 0x28 w = true →
    (32 ≤ seq ∧ (inPorts (siteOf seq)).contains (wPort w) = true) →
    storeGet [] (s.tahrSeq seq).ports (wPort w) = v :: rest →
    ∃ t, exec (.tahrRecv seq .clean) s = .next t ∧
      tahrDone seq { (s.tahrSeq seq).put (wRd w) v with ports := storePut (s.tahrSeq seq).ports (wPort w) rest } s t) ∧
  (∀ (s : State) (seq : Nat) (w : Nat) (n : Notice) (rest : List Notice),
    s.tahrRuns seq 0x28 w = true →
    (seq < 32 ∧ wPort w = 0) →
    (s.tahrSeq seq).waiting = n :: rest →
    ∃ t, exec (.tahrRecv seq .clean) s = .next t ∧
      tahrDone seq { (s.tahrSeq seq).put (wRd w) n.word with notice := some n, own := true, waiting := rest } s t) ∧
  (∀ (s : State) (seq : Nat) (w : Nat),
    s.tahrRuns seq 0x28 w = true →
    (inPorts (siteOf seq)).contains (wPort w) = true →
    ((s.tahrSeq seq).waiting = [] ∧ storeGet [] (s.tahrSeq seq).ports (wPort w) = []) →
    ∃ t, exec (.tahrRecv seq .clean) s = .next t ∧
      t = { s with regs := t.regs } ∧
      (t.sqState seq = sqStalled ∧ t.sqPc seq = s.sqPc seq)) ∧
  (∀ (s : State) (seq : Nat) (w : Nat),
    s.tahrRuns seq 0x29 w = true →
    (siteOf seq = .input ∨ siteOf seq = .governor) →
    (outPorts (siteOf seq)).contains (wPort w) = true →
    ∃ t, exec (.tahrSend seq .clean) s = .next t ∧
      t = { s with regs := t.regs, sent := s.sent ++ [.notice (0xC00 + seq * 8 + wPort w) ((s.tahrSeq seq).reg (wRd w))] } ∧
      (t.sqPc seq = tahrNext (s.sqPc seq) ∧ t.sqState seq = sqRunning)) ∧
  (∀ (s : State) (seq : Nat) (w : Nat) (v : Nat),
    s.tahrRuns seq 0x29 w = true →
    (seq < 32 ∧ wPort w = 1) →
    v = (s.tahrSeq seq).reg (wRd w) →
    ∃ t, exec (.tahrSend seq .clean) s = .next t ∧
      (t = { s.egress seq (bits v 0 14) ((List.range (bits v 16 12)).map (fun i => storeGet 0 (s.tahrSeq seq).buffer i)) (if (s.tahrSeq seq).own then (s.tahrSeq seq).notice.map Notice.time else none) with regs := t.regs }) ∧
      (t.sqPc seq = tahrNext (s.sqPc seq) ∧ t.sqState seq = sqRunning)) ∧
  (∀ (s : State) (seq : Nat) (w : Nat) (n : Nat) (u : State),
    s.tahrRuns seq 0x29 w = true →
    (siteOf seq = .stream ∧ wPort w = 0) →
    (s.tahrSeq seq).ring = some n →
    (s.ringTail n + 4096 - s.ringHead n) % 4096 < min 4095 (2 ^ s.fget F.seRingBase_size_log2 (n / 16) (ringReg n) 0) →
    (s.ringWrite n (s.descAddr n (s.ringTail n)) ((List.range 64).map (fun i => storeGet 0 (s.tahrSeq seq).buffer i)) = (u, none)) →
    ∃ t, exec (.tahrSend seq .clean) s = .next t ∧
      t = { u with regs := t.regs } ∧
      t.ringTail n = ringNext (s.ringTail n) ∧
      t.sqPc seq = tahrNext (s.sqPc seq)) ∧
  (∀ (s : State) (seq : Nat) (w : Nat) (got : Nat),
    s.tahrRuns seq 0x2A w = true →
    ((s.tahrSeq seq).stopping = false ∧ (s.tahrSeq seq).swap = none) →
    (got = Nat.land ((s.tahrSeq seq).pendingBits seq) (bits w 0 16) ∧ got ≠ 0) →
    ∃ t, exec (.tahrWait seq .clean) s = .next t ∧
      (t.tahrSeq seq).g = ((s.tahrSeq seq).put (wRd w) got).g ∧
      (t.tahrSeq seq).events = Nat.land (s.tahrSeq seq).events (0xFFFF - Nat.land got 0xFF00) ∧
      (t.tahrSeq seq).started = some s.periods ∧
      (t.sqPc seq = tahrNext (s.sqPc seq) ∧ t.sqState seq = sqRunning) ∧
      t.fget F.tsqCounts_activations 4 0 seq = (s.fget F.tsqCounts_activations 4 0 seq + 1) % 2 ^ 32) ∧
  (∀ (s : State) (seq : Nat) (w : Nat),
    s.tahrRuns seq 0x2A w = true →
    ((s.tahrSeq seq).stopping = false ∧ (s.tahrSeq seq).swap = none) →
    Nat.land ((s.tahrSeq seq).pendingBits seq) (bits w 0 16) = 0 →
    ∃ t, exec (.tahrWait seq .clean) s = .next t ∧
      (t.sqState seq = sqWaiting ∧ t.sqPc seq = s.sqPc seq) ∧
      ((t.tahrSeq seq).g = (s.tahrSeq seq).g ∧ (t.tahrSeq seq).started = none)) ∧
  (∀ (s : State) (seq : Nat) (w : Nat),
    s.tahrRuns seq 0x3F w = true →
    ∃ t, exec (.tahrHalt seq .clean) s = .next t ∧
      (t.sqState seq = sqIdle ∧ t.sqPc seq = tahrNext (s.sqPc seq)) ∧
      ((t.tahrSeq seq).g = (s.tahrSeq seq).g ∧ (t.tahrSeq seq).started = none) ∧
      t.mem = s.mem)

/-- Result and completion of the commands around the sequencers. An armed timer sets event 8; an event or message
reaches its sequencer; an activation past its limit faults it with TSQ_ACTIVATION; a restart runs the stored program
from its entry with registers zero; a stop is noted for the next WAIT; a declared table swap is busy until its copy
ends, with event 9, and one that is not declared is refused with a record; a binding runs a stream engine's program,
an unbinding ends it. An initiator without the right changes no register. Refusing an unknown program is the model's
log entry 115, and copying at once while WAITING is the model's log entry 114. For each of tahrTimer, tahrEvent,
tahrActivationLimit, tahrRestart, tsqRestart, tsqStop, tableSwap, tableSwapDone, seBind, seUnbind, it concludes that
exec answers a next state. -/
def Obligations.TahrEventsComplete : Prop :=
  (∀ (s : State) (seq : Nat),
    ((s.tahrSeq seq).timer ≠ 0 ∧ (s.tahrSeq seq).timerFrom + (s.tahrSeq seq).timer ≤ s.periods) →
    ∃ t, exec (.tahrTimer seq) s = .next t ∧
      t = { s with tahr := t.tahr } ∧
      t.tahrSeq seq = { s.tahrSeq seq with events := setBit (s.tahrSeq seq).events 8 true, timerFrom := (s.tahrSeq seq).timerFrom + (s.tahrSeq seq).timer }) ∧
  (∀ (s : State) (seq : Nat) (event : Nat) (m : List Nat),
    (seq < 88 ∧ (siteEvents (siteOf seq)).contains event = true) →
    ∃ t, exec (.tahrEvent seq event m) s = .next t ∧
      t = { s with tahr := t.tahr } ∧
      t.tahrSeq seq = { s.tahrSeq seq with events := setBit (s.tahrSeq seq).events event true }) ∧
  (∀ (s : State) (seq : Nat) (port : Nat) (m : List Nat),
    (32 ≤ seq ∧ seq < 88) →
    (inPorts (siteOf seq)).contains port = true →
    (storeGet [] (s.tahrSeq seq).ports port).length + m.length ≤ 16 →
    ∃ t, exec (.tahrEvent seq port m) s = .next t ∧
      t = { s with tahr := t.tahr } ∧
      storeGet [] (t.tahrSeq seq).ports port = storeGet [] (s.tahrSeq seq).ports port ++ m.map (· % 2 ^ 32) ∧
      ((t.tahrSeq seq).g = (s.tahrSeq seq).g ∧ (t.tahrSeq seq).events = (s.tahrSeq seq).events)) ∧
  (∀ (s : State) (seq : Nat) (from' : Nat) (lim : Nat),
    seq < 64 →
    ((s.tahrSeq seq).started = some from' ∧ s.sqState seq = sqRunning) →
    (activationLimit (siteOf seq) = some lim ∧ from' + lim ≤ s.periods) →
    ∃ t, exec (.tahrActivationLimit seq) s = .next t ∧
      (newCodes s t).head? = some E.tsqActivation.code ∧
      (t.sqState seq = sqFaulted ∨ t.sqState seq = sqStopped) ∧
      (t.tahrSeq seq).started = none) ∧
  (∀ (s : State) (seq : Nat) (p : TahrProgram),
    (seq < 32 ∧ s.sqState seq = sqFaulted) →
    storeFind s.tahr.programs seq = some p →
    ∃ t, exec (.tahrRestart seq) s = .next t ∧
      (t.sqState seq = sqRunning ∧ t.sqPc seq = p.entry % 4096) ∧
      ((t.tahrSeq seq).g = List.replicate 16 0 ∧ (t.tahrSeq seq).code = p.code ∧ (t.tahrSeq seq).waiting = (s.tahrSeq seq).waiting) ∧
      t = { s with regs := t.regs, tahr := t.tahr }) ∧
  (∀ (s : State) (who : Initiator) (seq : Nat) (p : TahrProgram),
    (tsqRight who = true ∧ seq < 72) →
    (s.sqState seq = sqFaulted ∨ s.sqState seq = sqStopped) →
    storeFind s.tahr.programs seq = some p →
    ∃ t, exec (.tsqRestart who seq) s = .next t ∧
      (t.sqState seq = sqRunning ∧ t.sqPc seq = p.entry % 4096) ∧
      ((t.tahrSeq seq).g = List.replicate 16 0 ∧ (t.tahrSeq seq).code = p.code) ∧
      t = { s with regs := t.regs, tahr := t.tahr, resp := {} }) ∧
  (∀ (s : State) (who : Initiator) (seq : Nat),
    (tsqRight who = true ∧ 32 ≤ seq ∧ seq < 64) →
    ∃ t, exec (.tsqStop who seq) s = .next t ∧
      t = { s with tahr := t.tahr, resp := {} } ∧
      t.tahrSeq seq = { s.tahrSeq seq with stopping := true }) ∧
  (∀ (s : State) (who : Initiator) (seq : Nat),
    tsqRight who = false →
    ∃ t, exec (.tsqStop who seq) s = .next t ∧
      t = { s with err := t.err, resp := {} } ∧
      newCodes s t = [E.regWriteDropped.code]) ∧
  (∀ (s : State) (who : Initiator) (seq : Nat) (table : Nat) (v : Nat),
    (tsqRight who = true ∧ s.fon F.tsqSwap_busy 4 0 0 = false) →
    s.swapDeclared seq table v = true →
    ∃ t, exec (.tableSwap who seq table v) s = .next t ∧
      t = { s with regs := t.regs, tahr := t.tahr, resp := {} } ∧
      t.fget F.tsqSwap_busy 4 0 0 = 1 ∧
      t.tahrSeq seq = { s.tahrSeq seq with swap := some (table, v) } ∧
      (t.sqState seq = (if s.sqState seq = sqWaiting then sqSwapping else s.sqState seq))) ∧
  (∀ (s : State) (who : Initiator) (seq : Nat) (table : Nat) (v : Nat),
    (tsqRight who = true ∧ s.fon F.tsqSwap_busy 4 0 0 = false) →
    s.swapDeclared seq table v = false →
    ∃ t, exec (.tableSwap who seq table v) s = .next t ∧
      t = { s with regs := t.regs, err := t.err, resp := {} } ∧
      (t.fget F.tsqSwap_busy 4 0 0 = 0 ∧ t.fget F.tsqSwap_status 4 0 0 = 1) ∧
      newCodes s t = [E.tsqSwapRefused.code]) ∧
  (∀ (s : State) (seq : Nat) (p : TahrProgram) (tab : Nat) (v : Nat) (x : Nat × Nat × Nat) (y : Nat × Nat × Nat × List Byte),
    ((s.tahrSeq seq).swap = some (tab, v) ∧ s.sqState seq = sqSwapping) →
    (storeFind s.tahr.programs seq = some p ∧ p.tables[tab]? = some x) →
    (v ≠ 0 ∧ s.tahr.variants.find? (fun z => z.1 == seq && z.2.1 == tab && z.2.2.1 == v) = some y) →
    ∃ t, exec (.tableSwapDone seq) s = .next t ∧
      (t.sqState seq = sqWaiting ∧ t.fget F.tsqSwap_busy 4 0 0 = 0 ∧ t.fget F.tsqSwap_status 4 0 0 = 0) ∧
      (t.tahrSeq seq).data = putOp (s.tahrSeq seq).data x.1 y.2.2.2 ∧
      ((t.tahrSeq seq).events = setBit (s.tahrSeq seq).events 9 true ∧ (t.tahrSeq seq).swap = none) ∧
      (t.tahrSeq seq).variants[tab]? = some v ∧
      t = { s with regs := t.regs, tahr := t.tahr }) ∧
  (∀ (s : State) (who : Initiator) (value : Word) (n : Nat) (seq : Nat) (k : Nat) (p : TahrProgram),
    ((match who with | .control _ => true | .hardware => true | _ => false) = true) →
    (n = bindRing value.toNat ∧ seq = 72 + n / 4 ∧ k = bits value.toNat 4 8) →
    storeFind s.tahr.programs (256 + k) = some p →
    (s.tahrSeq seq).ring.all (· == n) = true →
    ∃ t, exec (.seBind who value) s = .next t ∧
      t = { s with regs := t.regs, tahr := t.tahr, rings := t.rings, resp := {} } ∧
      ((t.tahrSeq seq).ring = some n ∧ (t.tahrSeq seq).code = p.code ∧ (t.tahrSeq seq).g = List.replicate 16 0) ∧
      (t.sqState seq = sqRunning ∧ t.sqPc seq = p.entry % 4096 ∧ t.fget F.tsqState_program 4 0 seq = k) ∧
      t.ring n = { s.ring n with program := some k }) ∧
  (∀ (s : State) (who : Initiator) (value : Word) (n : Nat) (seq : Nat),
    ((match who with | .control _ => true | .hardware => true | _ => false) = true) →
    (n = bindRing value.toNat ∧ seq = 72 + n / 4) →
    (s.tahrSeq seq).ring = some n →
    ∃ t, exec (.seUnbind who value) s = .next t ∧
      t = { s with regs := t.regs, tahr := t.tahr, rings := t.rings, resp := {} } ∧
      (t.tahrSeq seq = {} ∧ t.sqState seq = sqIdle) ∧
      t.ring n = { s.ring n with program := none }) ∧
  (∀ (s : State) (who : Initiator) (value : Word),
    ((match who with | .control _ => false | .hardware => false | _ => true) = true) →
    ∃ t, exec (.seBind who value) s = .next t ∧
      t = { s with err := t.err, resp := {} } ∧
      newCodes s t = [E.regWriteDropped.code])

/-- Completion of the firmware commands. A load verifies the image, copies its code into slot 0 of every admitted pair
and keeps it as loading, or answers the failure with its record; the last admitted die that has reconciled makes it
the running image with firmware attached; a stage answers the status of the checks and holds the image, with its
code in the other slot; an activation hands over at once, or waits while an emergency lasts; the old firmware of a
die stops at its hand-off point with its record in the shared memory; the last die's readiness ends the hand-off
with the other slot running; a step past its bound rolls back, and the old firmware runs again once every die
reports ready; a wait of 60 s expires; cancel and commit drop the staged image and raise the floor. For each of
fwLoad, fwLoaded, fwStage, fwActivate, handoffStart, fwHandoff, fwRollback, fwActivationExpired, fwCancel,
fwReloaded, fwCommit, it concludes that exec answers a next state. -/
def Obligations.FirmwareLoadingComplete : Prop :=
  (∀ (s : State) (who : Initiator) (u : State) (st : Nat) (img : FwImage),
    s.loaderRight who = true →
    (s.fwSt = fwNone ∧ s.fw.loading = none) →
    (s.fset F.cfgFwCmd_op 4 0 0 1).fwVerify (s.fget F.cfgFwSrc_src 4 0 0) = (u, st, img) →
    ∃ t, exec (.fwLoad who) s = .next t ∧
      t.fget F.cfgFwCmd_status 4 0 0 = st ∧
      (st = fsNone → t.fw = { u.fw with loading := some img, ready := [] } ∧ t.fget F.cfgFwCmd_busy 4 0 0 = 1 ∧ t.err = u.err ∧
        ∀ d ∈ u.admittedDies, t.sramAt d (codeSlot 0) img.code.length = img.code) ∧
      (st ≠ fsNone → t.fw = u.fw ∧ t.pairs = u.pairs ∧ newCodes u t = [E.fwLoadFail.code]) ∧
      t = { u with regs := t.regs, fw := t.fw, err := t.err, pairs := t.pairs, resp := {} } ∧
      sameRegsBut [fldAddr F.cfgFwCmd_op 4 0 0] u t) ∧
  (∀ (s : State) (die : Nat) (img : FwImage),
    s.fw.loading = some img →
    s.admittedDies.contains die = true →
    (s.admittedDies.all (fun d => d == die || s.fw.ready.contains d) = true) →
    ∃ t, exec (.fwLoaded die) s = .next t ∧
      t.fw = { s.fw with running := some img, slot := 0, loading := none, ready := [], down := [] } ∧
      (t.fwSt = fwRunning ∧ t.fget F.cfgFwStatus_running_version 4 0 0 = img.version % 2 ^ 32) ∧
      t.boot = { s.boot with firmwareDigest := img.digest } ∧
      (t.fon F.schCtrl_fw_attached 4 0 0 = true ∧ t.fon F.cfgFwCmd_busy 4 0 0 = false) ∧
      (t.phase = (if s.phase = phComputeReady then phFullService else s.phase)) ∧
      (s.drvState 0 = drDetached → s.drvState 1 = drDetached → s.cache.repins = [] → newCodes s t = [E.fwLoaded.code]) ∧
      (s.drvState 0 = drDetached → s.drvState 1 = drDetached → s.cache.repins = [] →
        t = { s with regs := t.regs, fw := t.fw, boot := t.boot, err := t.err })) ∧
  (∀ (s : State) (who : Initiator) (old : FwImage) (u : State) (st : Nat) (img : FwImage),
    s.loaderRight who = true →
    (s.fw.running = some old ∧ (s.fwSt = fwRunning ∨ s.fwSt = fwStaged)) →
    (s.fset F.cfgFwCmd_op 4 0 0 2).fwVerify (s.fget F.cfgFwSrc_src 4 0 0) = (u, st, img) →
    ∃ t, exec (.fwStage who) s = .next t ∧
      (t.fget F.cfgFwCmd_status 4 0 0 = (if st ≠ fsNone then st else if img.hofReadMin ≤ old.hofWrite ∧ old.hofWrite ≤ img.hofReadMax then fsNone else fsHandoff)) ∧
      (t.fget F.cfgFwCmd_status 4 0 0 = fsNone → t.fw = { u.fw with staged := some img } ∧ t.fwSt = fwStaged ∧
        t.fget F.cfgFwInfo_staged_version 4 0 0 = img.version % 2 ^ 32 ∧ t.err = u.err ∧
        ∀ d ∈ u.admittedDies, t.sramAt d (codeSlot (1 - u.fw.slot)) img.code.length = img.code) ∧
      (t.fget F.cfgFwCmd_status 4 0 0 ≠ fsNone → t.fw = u.fw ∧ t.pairs = u.pairs ∧ newCodes u t = [E.fwLoadFail.code]) ∧
      t = { u with regs := t.regs, fw := t.fw, err := t.err, pairs := t.pairs, resp := {} }) ∧
  (∀ (s : State) (who : Initiator),
    s.loaderRight who = true →
    (s.fwSt = fwStaged ∧ s.emergencyBit = false) →
    ∃ t, exec (.fwActivate who) s = .next t ∧
      t.fw = { s.fw with start := some s.periods, waitStart := none, ready := [], points := [] } ∧
      (t.fwSt = fwHanding ∧ t.fon F.schCtrl_fw_attached 4 0 0 = false) ∧
      (t.fget F.cfgFwCmd_status 4 0 0 = fsNone ∧ t.fon F.cfgFwCmd_busy 4 0 0 = true) ∧
      t = { s with regs := t.regs, fw := t.fw, resp := {} } ∧
      sameRegsBut [fldAddr F.cfgFwCmd_op 4 0 0, fldAddr F.cfgFwStatus_state 4 0 0, fldAddr F.schCtrl_fw_attached 4 0 0] s t) ∧
  (∀ (s : State) (who : Initiator),
    s.loaderRight who = true →
    (s.fwSt = fwStaged ∧ s.emergencyBit = true) →
    ∃ t, exec (.fwActivate who) s = .next t ∧
      t.fw = { s.fw with waitStart := some s.periods } ∧
      (t.fwSt = fwWaiting ∧ t.fget F.schCtrl_fw_attached 4 0 0 = s.fget F.schCtrl_fw_attached 4 0 0) ∧
      (t.fget F.cfgFwCmd_status 4 0 0 = fsNone ∧ t.fon F.cfgFwCmd_busy 4 0 0 = true) ∧
      t = { s with regs := t.regs, fw := t.fw, resp := {} }) ∧
  (∀ (s : State),
    (s.fwSt = fwWaiting ∧ s.emergencyBit = false) →
    ∃ t, exec (.handoffStart) s = .next t ∧
      t.fw = { s.fw with start := some s.periods, waitStart := none, ready := [], points := [] } ∧
      (t.fwSt = fwHanding ∧ t.fon F.schCtrl_fw_attached 4 0 0 = false) ∧
      t = { s with regs := t.regs, fw := t.fw }) ∧
  (∀ (s : State) (die : Nat) (secs : List (Nat × List Byte)) (img : FwImage) (old : FwImage) (at_ : Nat),
    (s.fw.staged = some img ∧ s.fw.running = some old ∧ s.fw.start = some at_ ∧ s.fwSt = fwHanding) →
    (s.runningDies.contains die = true ∧ s.fw.points.contains die = false) →
    s.periods ≤ at_ + 76800 →
    (secs ≠ [] ∧ secs.length ≤ 64 ∧ (s.hofRecord old die secs).length ≤ 0x10000) →
    s.atHandoffPoint die secs = true →
    ∃ t, exec (.fwHandoff die (some secs)) s = .next t ∧
      t.fw = { s.fw with points := s.fw.points ++ [die] } ∧
      t.sramAt die hofAt (s.hofRecord old die secs).length = s.hofRecord old die secs ∧
      t = { s with fw := t.fw, pairs := t.pairs }) ∧
  (∀ (s : State) (die : Nat) (img : FwImage) (old : FwImage) (at_ : Nat),
    (s.fw.staged = some img ∧ s.fw.running = some old ∧ s.fw.start = some at_ ∧ s.fwSt = fwHanding) →
    (s.fwRestarted = true ∧ s.refusesRecord die = false) →
    (at_ ≤ s.periods ∧ s.periods ≤ at_ + 184320) →
    s.runningDies.contains die = true →
    (s.runningDies.all (fun d => d == die || s.fw.ready.contains d) = true) →
    ∃ t, exec (.fwHandoff die none) s = .next t ∧
      t.fw = { s.fw with staged := none, running := some img, slot := 1 - s.fw.slot, start := none, ready := [], points := [], handoffSeq := s.fw.handoffSeq + 1 } ∧
      (t.fwSt = fwRunning ∧ t.fget F.cfgFwStatus_running_version 4 0 0 = img.version % 2 ^ 32) ∧
      t.fget F.cfgFwStatus_handoffs 4 0 0 = (s.fget F.cfgFwStatus_handoffs 4 0 0 + 1) % 256 ∧
      t.fget F.cfgFwStatus_last_pause_us 4 0 0 = (s.periods - at_) * 5 / 192 ∧
      t.fget F.cfgFwInfo_staged_version 4 0 0 = 0 ∧
      t.boot = { s.boot with firmwareDigest := img.digest } ∧
      (t.fon F.schCtrl_fw_attached 4 0 0 = true ∧ t.fon F.cfgFwCmd_busy 4 0 0 = false) ∧
      (s.drvState 0 = drDetached → s.drvState 1 = drDetached → s.cache.repins = [] → newCodes s t = [E.fwHandoff.code])) ∧
  (∀ (s : State) (die : Nat) (at_ : Nat),
    (s.fw.start = some at_ ∧ s.fwSt = fwHanding ∧ s.runningDies ≠ []) →
    (at_ + 192000 < s.periods ∨ (s.runningDies.contains die = true ∧ s.fw.points.contains die = false ∧ at_ + 76800 < s.periods)) →
    ∃ t, exec (.fwRollback die) s = .next t ∧
      t.fw = { s.fw with ready := [], cause := die } ∧
      (t.fwSt = fwRolling ∧ t.fget F.schCtrl_fw_attached 4 0 0 = s.fget F.schCtrl_fw_attached 4 0 0) ∧
      t = { s with regs := t.regs, fw := t.fw, pairs := t.pairs }) ∧
  (∀ (s : State) (die : Nat),
    s.fwSt = fwRolling →
    s.runningDies.contains die = true →
    (s.runningDies.all (fun d => d == die || s.fw.ready.contains d) = true) →
    ∃ t, exec (.fwHandoff die none) s = .next t ∧
      t.fw = { s.fw with staged := none, start := none, ready := [], points := [] } ∧
      (t.fwSt = fwRunning ∧ t.fon F.schCtrl_fw_attached 4 0 0 = true) ∧
      (t.fget F.cfgFwCmd_status 4 0 0 = fsFailed ∧ t.fon F.cfgFwCmd_busy 4 0 0 = false) ∧
      (s.drvState 0 = drDetached → s.drvState 1 = drDetached → s.cache.repins = [] →
        newCodes s t = [E.fwRollback.code] ∧ t = { s with regs := t.regs, fw := t.fw, err := t.err })) ∧
  (∀ (s : State) (at_ : Nat),
    (s.fw.waitStart = some at_ ∧ s.fwSt = fwWaiting) →
    (at_ + sixtySeconds ≤ s.periods ∧ s.emergencyBit = true) →
    ∃ t, exec (.fwActivationExpired) s = .next t ∧
      t.fw = { s.fw with waitStart := none } ∧
      (t.fwSt = fwStaged ∧ t.fget F.cfgFwCmd_status 4 0 0 = fsExpired ∧ t.fon F.cfgFwCmd_busy 4 0 0 = false) ∧
      newCodes s t = [E.fwActivationExpired.code] ∧
      t = { s with regs := t.regs, fw := t.fw, err := t.err }) ∧
  (∀ (s : State) (who : Initiator),
    s.loaderRight who = true →
    s.fwSt = fwStaged →
    ∃ t, exec (.fwCancel who) s = .next t ∧
      (t.fw = { s.fw with staged := none } ∧ t.fwSt = fwRunning) ∧
      (t.fget F.cfgFwInfo_staged_version 4 0 0 = 0 ∧ t.fget F.cfgFwCmd_status 4 0 0 = fsNone) ∧
      t = { s with regs := t.regs, fw := t.fw, resp := {} }) ∧
  (∀ (s : State) (pair : Nat) (img : FwImage),
    (s.fw.running = some img ∧ s.fw.start = none) →
    (s.fw.down.contains pair = true ∧ s.admittedDies.contains pair = true) →
    ∃ t, exec (.fwReloaded pair) s = .next t ∧
      (t.fw = { s.fw with down := s.fw.down.filter (fun d => d != pair) }) ∧
      t.sramAt pair (codeSlot s.fw.slot) img.code.length = img.code ∧
      (s.cache.repins = [] → t = { s with fw := t.fw, err := t.err, pairs := t.pairs } ∧ newCodes s t = [E.fwReloaded.code])) ∧
  (∀ (s : State) (who : Initiator) (img : FwImage),
    s.loaderRight who = true →
    (s.fw.running = some img ∧ s.fwSt ≠ fwHanding ∧ s.fwSt ≠ fwRolling ∧ s.flash.fwFloor ≤ img.version) →
    ∃ t, exec (.fwCommit who) s = .next t ∧
      t = { s with regs := t.regs, flash := { s.flash with fwFloor := img.version }, resp := {} } ∧
      (t.fget F.cfgFwInfo_floor 4 0 0 = img.version % 2 ^ 32 ∧ t.fget F.cfgFwCmd_status 4 0 0 = fsNone) ∧
      sameRegsBut [fldAddr F.cfgFwCmd_op 4 0 0, fldAddr F.cfgFwInfo_floor 4 0 0] s t) ∧
  (∀ (s : State) (who : Initiator),
    s.loaderRight who = false →
    ∃ t, exec (.fwCommit who) s = .next t ∧
      t = { s with err := t.err, resp := {} } ∧
      newCodes s t = [E.regWriteDropped.code])

/-- Completion of the driver slots. A heartbeat of the slot's own driver clears its misses; a window without one counts
a miss, and the fifth loses the driver, whose instances' queues freeze; an attach makes the slot ATTACHED and ends a
loss; a detach loses the driver at once; a slot that stayed LOST for its teardown time is TORN_DOWN. For each of
driverHeartbeat, heartbeatWindow, driverAttach, driverDetach, fwTeardown, it concludes that exec answers a next
state. -/
def Obligations.DriverSlotsComplete : Prop :=
  (∀ (s : State) (who : Initiator) (slot : Nat),
    (s.slotRight who slot = true ∧ s.drvState slot = drAttached) →
    ∃ t, exec (.driverHeartbeat who slot) s = .next t ∧
      (t.fget F.cfgFwDrv_misses 4 0 slot = 0 ∧ t.fw.beats.contains slot = true) ∧
      t = { s with regs := t.regs, fw := { s.fw with beats := t.fw.beats }, resp := {} } ∧
      sameRegsBut [fldAddr F.cfgFwDrv_misses 4 0 slot] s t) ∧
  (∀ (s : State) (slot : Nat),
    (slot < 2 ∧ s.drvState slot = drAttached ∧ s.fw.beats.contains slot = true) →
    storeGet 0 s.fw.window slot + 384000 ≤ s.periods →
    ∃ t, exec (.heartbeatWindow slot) s = .next t ∧
      (t = { s with fw := { s.fw with beats := s.fw.beats.filter (fun b => b != slot), window := storePut s.fw.window slot (storeGet 0 s.fw.window slot + 384000) } })) ∧
  (∀ (s : State) (slot : Nat),
    (slot < 2 ∧ s.drvState slot = drAttached ∧ s.fw.beats.contains slot = false) →
    s.fget F.cfgFwDrv_misses 4 0 slot < 4 →
    storeGet 0 s.fw.window slot + 384000 ≤ s.periods →
    ∃ t, exec (.heartbeatWindow slot) s = .next t ∧
      t = { s with regs := t.regs, fw := { s.fw with window := storePut s.fw.window slot (storeGet 0 s.fw.window slot + 384000) } } ∧
      t.fget F.cfgFwDrv_misses 4 0 slot = s.fget F.cfgFwDrv_misses 4 0 slot + 1 ∧
      sameRegsBut [fldAddr F.cfgFwDrv_misses 4 0 slot] s t) ∧
  (∀ (s : State) (slot : Nat),
    (slot < 2 ∧ s.drvState slot = drAttached ∧ s.fw.beats.contains slot = false) →
    s.fget F.cfgFwDrv_misses 4 0 slot = 4 →
    storeGet 0 s.fw.window slot + 384000 ≤ s.periods →
    ∃ t, exec (.heartbeatWindow slot) s = .next t ∧
      t = { s with regs := t.regs, err := t.err, fw := { s.fw with lostTime := storePut s.fw.lostTime slot s.periods, window := storePut s.fw.window slot (storeGet 0 s.fw.window slot + 384000) } } ∧
      (∀ vi ∈ s.slotVis slot, ∀ q ∈ s.viQueues vi, s.fwAttached = true → s.qState q = 1 → t.heldByDriver vi q = true → t.qState q = 2) ∧
      (t.drvState slot = drLost ∧ t.fget F.cfgFwDrv_misses 4 0 slot = 5) ∧
      newCodes s t = [E.fwDriverLost.code]) ∧
  (∀ (s : State) (who : Initiator) (slot : Nat),
    (s.slotRight who slot = true ∧ (s.drvState slot = drDetached ∨ s.drvState slot = drTornDown)) →
    ∃ t, exec (.driverAttach who slot) s = .next t ∧
      (t = { s with regs := t.regs, fw := { s.fw with lostTime := storeDrop s.fw.lostTime slot, beats := s.fw.beats.filter (fun b => b != slot), window := storePut s.fw.window slot s.periods }, resp := {} }) ∧
      (t.drvState slot = drAttached ∧ t.fget F.cfgFwDrv_misses 4 0 slot = 0) ∧
      sameRegsBut [fldAddr F.cfgFwDrv_state 4 0 slot] s t) ∧
  (∀ (s : State) (who : Initiator) (slot : Nat),
    (s.slotRight who slot = true ∧ s.drvState slot = drLost) →
    ((s.slotVis slot).all (fun vi => s.viSt vi != viActive) = true) →
    ∃ t, exec (.driverAttach who slot) s = .next t ∧
      (t = { s with regs := t.regs, err := t.err, resp := {}, fw := { s.fw with lostTime := storeDrop s.fw.lostTime slot, beats := s.fw.beats.filter (fun b => b != slot), window := storePut s.fw.window slot s.periods } }) ∧
      (t.drvState slot = drAttached ∧ t.fget F.cfgFwDrv_misses 4 0 slot = 0) ∧
      newCodes s t = [E.fwDriverAttached.code]) ∧
  (∀ (s : State) (who : Initiator) (slot : Nat),
    (s.slotRight who slot = true ∧ s.drvState slot = drAttached) →
    ∃ t, exec (.driverDetach who slot) s = .next t ∧
      (∀ vi ∈ s.slotVis slot, ∀ q ∈ s.viQueues vi, s.fwAttached = true → s.qState q = 1 → t.heldByDriver vi q = true → t.qState q = 2) ∧
      t = { s with regs := t.regs, fw := { s.fw with lostTime := storePut s.fw.lostTime slot s.periods }, err := t.err, resp := {} } ∧
      t.drvState slot = drLost ∧
      newCodes s t = [E.fwDriverLost.code]) ∧
  (∀ (s : State) (slot : Nat) (at_ : Nat),
    (storeFind s.fw.lostTime slot = some at_ ∧ s.drvState slot = drLost) →
    at_ + s.fget F.cfgFwDrv_teardown_s 4 0 slot * 38400000 ≤ s.periods →
    ((s.slotVis slot).all (fun vi => s.viSt vi == viFree) = true) →
    ∃ t, exec (.fwTeardown slot) s = .next t ∧
      t = { s with regs := t.regs, fw := { s.fw with lostTime := storeDrop s.fw.lostTime slot }, err := t.err } ∧
      t.drvState slot = drTornDown ∧
      newCodes s t = [E.fwTeardown.code]) ∧
  (∀ (s : State) (who : Initiator) (slot : Nat),
    s.slotRight who slot = false →
    ∃ t, exec (.driverAttach who slot) s = .next t ∧
      t = { s with err := t.err, resp := {} } ∧
      newCodes s t = [E.regWriteDropped.code])

/-- Completion of the collector's commands. The earliest record on its way that reaches the collector takes the next
sequence number and enters the ring with its severity counted; a sentinel's read of ERR_NEXT puts the record of the
highest open severity in handling and answers its index and sequence; ERR_DONE ends a record's handling; ERR_INJECT
raises a record of the severity and code written; the health log takes the next waiting entry, or counts it where
the second is full, and shows the entry selected. For each of errorRecordArrival, errNextRead, errDone, errInject,
healthLogWrite, hlogRead, it concludes that exec answers a next state. -/
def Obligations.ErrorCollectorComplete : Prop :=
  (∀ (s : State) (corrupt : Bool) (r : ErrRec) (rs : List ErrRec),
    (s.err.held = [] ∧ s.err.inFlight = r :: rs) →
    (s.fabReaches r.die 4 7 = true ∧ s.err.tailSeq ≤ s.err.stored) →
    (r.follow = false ∧ (r.sev = 2 ∨ r.sev = 3) ∧ s.occupancy < 255) →
    ∃ t, exec (.errorRecordArrival corrupt) s = .next t ∧
      (t.err.inFlight = rs ∧ t.err.stored = s.err.stored + 1 ∧ t.err.tailSeq = s.err.tailSeq) ∧
      t.slotSeq s.err.stored = some { record := { r with seq := s.err.stored, noPrimary := false, crcBad := corrupt } } ∧
      t.fget (sevCounter r.sev) 4 0 0 = satAdd (s.fget (sevCounter r.sev) 4 0 0) 1 16 ∧
      t.fget F.errStatus_occupancy 4 0 0 = s.occupancy + 1 ∧
      t = { s with regs := t.regs, err := t.err, sent := t.sent }) ∧
  (∀ (s : State) (corrupt : Bool) (r : ErrRec) (rs : List ErrRec),
    (s.err.held = [] ∧ s.err.inFlight = r :: rs) →
    s.fabReaches r.die 4 7 = true →
    (r.sev ≤ 1 ∧ 192 ≤ s.occupancy) →
    ∃ t, exec (.errorRecordArrival corrupt) s = .next t ∧
      t = { s with regs := t.regs, err := { s.err with inFlight := rs } } ∧
      t.fget F.errCountsB_suppressed 4 0 0 = satAdd (s.fget F.errCountsB_suppressed 4 0 0) 1 16 ∧
      sameRegsBut [fldAddr F.errCountsB_suppressed 4 0 0] s t) ∧
  (∀ (s : State) (who : Initiator) (x : RingSlot),
    (isSentinel who = true ∧ s.nextRec = some x ∧ s.level = lvNone) →
    ∃ t, exec (.errNextRead who) s = .next t ∧
      (t.err = { s.err with ring := storePut s.err.ring (x.record.seq % 256) { x with handling := true }, handlingOrder := s.err.handlingOrder ++ [x.record.seq], hlogQueue := if x.record.crcBad = true then s.err.hlogQueue ++ [s.crcRec x.record.seq] else s.err.hlogQueue }) ∧
      (t.resp.value = x.record.seq % 256 + 256 + x.record.seq % 2 ^ 32 * 2 ^ 32 ∧ t.resp.error = false) ∧
      t.fon F.errStatus_handling 4 0 0 = true ∧
      t = { s with regs := t.regs, err := t.err, resp := t.resp } ∧
      sameRegsBut [fldAddr F.errRing_head 4 0 0, fldAddr F.errStatus_occupancy 4 0 0] s t) ∧
  (∀ (s : State) (who : Initiator),
    (isSentinel who = true ∧ s.nextRec = none) →
    ∃ t, exec (.errNextRead who) s = .next t ∧
      t = { s with resp := { value := 0 } }) ∧
  (∀ (s : State) (who : Initiator) (index : Nat) (x : RingSlot),
    (isSentinel who = true ∧ storeFind s.err.ring (index % 256) = some x ∧ x.handling = true ∧ x.done = false) →
    (s.err.tailSeq < s.err.stored ∧ s.slotSeq s.err.tailSeq = some x ∧ s.err.tailSeq % 256 = index % 256) →
    ((s.slotSeq (s.err.tailSeq + 1)).all (fun y => !y.done) = true) →
    ∃ t, exec (.errDone who index) s = .next t ∧
      storeFind t.err.ring (index % 256) = some { x with done := true, handling := false } ∧
      (t.err.handlingOrder = s.err.handlingOrder.filter (fun q => q != x.record.seq)) ∧
      (t.err.tailSeq = s.err.tailSeq + 1 ∧ t.err.stored = s.err.stored) ∧
      t = { s with regs := t.regs, err := t.err, resp := {} }) ∧
  (∀ (s : State) (who : Initiator) (value : Word),
    (isSentinel who = true ∧ F.errInject_severity.of value.toNat < 4) →
    ∃ t, exec (.errInject who value) s = .next t ∧
      t = { s with err := t.err, resp := {} } ∧
      newCodes s t = [E.injected.code] ∧
      ((t.err.inFlight.drop s.err.inFlight.length).map (fun r => (r.sev, r.injected, r.detail)) = [(F.errInject_severity.of value.toNat, true, F.errInject_code.of value.toNat)])) ∧
  (∀ (s : State) (who : Initiator) (value : Word),
    isSentinel who = false →
    ∃ t, exec (.errInject who value) s = .next t ∧
      t = { s with err := t.err, resp := {} } ∧
      newCodes s t = [E.regWriteDropped.code]) ∧
  (∀ (s : State) (r : ErrRec) (rs : List ErrRec),
    (s.err.hlogQueue = r :: rs ∧ s.hlogRecent.length < 64) →
    ∃ t, exec (.healthLogWrite) s = .next t ∧
      storeFind t.err.hlog (hlogPlace s.err.hlogPos) = some { record := r } ∧
      (t.err.hlogPos = s.err.hlogPos + 1 ∧ t.err.hlogQueue = rs ∧ t.err.hlogTimes = s.hlogRecent ++ [s.periods]) ∧
      t.fget F.errHlog_written 4 0 0 = (s.fget F.errHlog_written 4 0 0 + 1) % 2 ^ 32 ∧
      t.fget F.cfgHlogStatus_newest_sector 4 0 0 = s.err.hlogPos / 1023 % 256 ∧
      t = { s with regs := t.regs, err := t.err } ∧
      sameRegsBut [fldAddr F.errHlog_written 4 0 0, fldAddr F.cfgHlogStatus_newest_sector 4 0 0] s t) ∧
  (∀ (s : State) (r : ErrRec) (rs : List ErrRec),
    (s.err.hlogQueue = r :: rs ∧ 64 ≤ s.hlogRecent.length) →
    ∃ t, exec (.healthLogWrite) s = .next t ∧
      t = { s with regs := t.regs, err := { s.err with hlogQueue := rs, hlogDrops := s.err.hlogDrops + 1 } } ∧
      t.fget F.errHlog_dropped 4 0 0 = satAdd (s.fget F.errHlog_dropped 4 0 0) 1 16 ∧
      sameRegsBut [fldAddr F.errHlog_dropped 4 0 0] s t) ∧
  (∀ (s : State) (who : Initiator) (entry : Nat) (x : HlogEntry),
    (s.hlogRight who = true ∧ entry < 2 ^ 18 ∧ entry % 1024 ≠ 0 ∧ storeFind s.err.hlog entry = some x) →
    ∃ t, exec (.hlogRead who entry) s = .next t ∧
      t = { s with regs := t.regs, resp := {} } ∧
      (t.fget F.cfgHlogSel_entry 4 0 0 = entry ∧ t.fon F.cfgHlogStatus_ready 4 0 0 = true) ∧
      t.fon F.cfgHlogStatus_valid 4 0 0 = x.crcOk ∧
      (∀ n < 8, t.fget F.cfgHlogDataN_data 4 n 0 = leAt x.record.bytes (8 * n) 8)) ∧
  (∀ (s : State) (who : Initiator) (entry : Nat),
    (s.hlogRight who = true ∧ entry < 2 ^ 18 ∧ entry % 1024 ≠ 0 ∧ storeFind s.err.hlog entry = none) →
    ∃ t, exec (.hlogRead who entry) s = .next t ∧
      t = { s with regs := t.regs, freeCtr := t.freeCtr, resp := {} } ∧
      (t.fget F.cfgHlogSel_entry 4 0 0 = entry ∧ t.fon F.cfgHlogStatus_ready 4 0 0 = true) ∧
      t.fon F.cfgHlogStatus_valid 4 0 0 = false)

/-- Completion of VI_CMD's commands. An accepted CREATE commits the staged configuration, leaves the instance ACTIVE and
its queues DISABLED; an accepted RESIZE commits it too; QUIESCE freezes the ACTIVE queues, and an instance without
work is then QUIESCED; RESUME makes the FROZEN queues ACTIVE again; REMOVE clears the configuration and leaves the
instance FREE. A command in a wrong state is refused with its status and a record, and one by anybody else is
dropped. The DMA commands are stated for entries whose range lies in one page of 4 KiB. The head passes the entry;
where the IOMMU gives no address, the fault is counted and recorded and the descriptor is in flight with IOMMU_FAULT
and nothing moved; where the read is refused, with DEVICE_FAULT; where it gives one and the read and the write
succeed, it is in flight with all of its bytes moved. The oldest descriptor of a queue then completes, with a record
where it asks for one. What the IOMMU translates to is left open. For each of viCreate, viResize, viQuiesce,
viQuiesced, viResume, viRemove, dmaToIova, dmaFromIova, dmaComplete, it concludes that exec answers a next state. -/
def Obligations.InstanceAndDmaCommandsComplete : Prop :=
  (∀ (s : State) (who : Initiator) (vi : Nat),
    (vi < 64 ∧ s.viWriter who = true ∧ s.fon F.viCmd_busy 4 0 vi = false) →
    (s.viSt vi = viFree ∧ s.noResources vi = false ∧ s.overcommit vi = false) →
    (s.badExtent vi = false ∧ s.guestLimit vi = false) →
    ∃ t, exec (.viCreate who vi) s = .next t ∧
      (t.viSt vi = viActive ∧ t.fget F.viCmd_status 4 0 vi = 0) ∧
      sameConfig s t vi (64 + vi) ∧
      (∀ q ∈ t.viQueues vi, t.qState q = 0) ∧
      (t.sched = s.sched ∧ t.err = s.err ∧ t.resp = {})) ∧
  (∀ (s : State) (who : Initiator) (vi : Nat) (now : Bool),
    (vi < 64 ∧ s.viWriter who = true ∧ s.fon F.viCmd_busy 4 0 vi = false) →
    ((s.viSt vi = viActive ∨ s.viSt vi = viQuiesced) ∧ s.noResources vi = false ∧ s.overcommit vi = false) →
    ((s.droppedQueues vi).all (fun q => s.qState q == 0) = true ∧ s.ctxBusy vi = false ∧ s.vectorInUse vi = false) →
    (s.badExtent vi = false ∧ s.guestLimit vi = false ∧ s.vis.shrinking = [] ∧ now = false) →
    ∃ t, exec (.viResize who vi now) s = .next t ∧
      (t.viSt vi = s.viSt vi ∧ t.fget F.viCmd_status 4 0 vi = 0) ∧
      sameConfig s t vi (64 + vi) ∧
      (t.sched = s.sched ∧ t.err = s.err ∧ t.resp = {})) ∧
  (∀ (s : State) (who : Initiator) (vi : Nat),
    (s.viWriter who = true ∧ s.fon F.viCmd_busy 4 0 vi = false ∧ s.viSt vi = viActive) →
    ∃ t, exec (.viQuiesce who vi) s = .next t ∧
      t = { s with regs := t.regs, resp := {} } ∧
      (t.viSt vi = viQuiescing ∧ t.fget F.viCmd_status 4 0 vi = 0) ∧
      (∀ q ∈ s.viQueues vi, t.qState q = if s.qState q = 1 then 2 else s.qState q)) ∧
  (∀ (s : State) (vi : Nat),
    (s.viSt vi = viQuiescing ∧ s.jobsOf vi = []) →
    (s.vis.dma.all (fun x => s.qVi x.queue != vi) = true) →
    ((s.viQueues vi).all (fun q => (s.cq q).held.isEmpty) = true) →
    ∃ t, exec (.viQuiesced vi) s = .next t ∧
      t = { s with regs := t.regs } ∧
      t.viSt vi = viQuiesced ∧
      sameRegsBut [fldAddr F.viState_state 4 0 vi, fldAddr F.viStatus_active 4 0 0] s t) ∧
  (∀ (s : State) (who : Initiator) (vi : Nat),
    (s.viWriter who = true ∧ s.fon F.viCmd_busy 4 0 vi = false ∧ s.viSt vi = viQuiesced) →
    ((s.viQueues vi).all (fun q => (s.cq q).held.isEmpty) = true) →
    ∃ t, exec (.viResume who vi) s = .next t ∧
      t = { s with regs := t.regs, resp := {} } ∧
      (t.viSt vi = viActive ∧ t.fget F.viCmd_status 4 0 vi = 0) ∧
      (∀ q ∈ s.viQueues vi, t.qState q = if s.thaws vi q = true then 1 else s.qState q) ∧
      (∀ q ∈ s.viQueues vi, t.qHead q = s.qHead q ∧ t.qTail q = s.qTail q)) ∧
  (∀ (s : State) (who : Initiator) (vi : Nat),
    (vi < 64 ∧ s.viWriter who = true ∧ s.fon F.viCmd_busy 4 0 vi = false ∧ s.viSt vi = viQuiesced) →
    (bit s.vis.rtBound vi = false ∧ s.viQuiet vi = true) →
    ∃ t, exec (.viRemove who vi) s = .next t ∧
      (t.viSt vi = viFree ∧ t.fget F.viCmd_status 4 0 vi = 0) ∧
      (∀ q ∈ s.viQueues vi, t.qState q = 0 ∧ t.fget F.schQbase_size_log2 4 0 q = 0) ∧
      (t.viQueues vi = [] ∧ t.extents (64 + vi) = []) ∧
      newCodes s t = [E.viRemoved.code] ∧
      (t.sched.jobs = s.sched.jobs ∧ t.resp = {})) ∧
  (∀ (s : State) (who : Initiator) (vi : Nat),
    (s.viWriter who = true ∧ s.fon F.viCmd_busy 4 0 vi = false ∧ s.viSt vi ≠ viQuiesced) →
    ∃ t, exec (.viResume who vi) s = .next t ∧
      t = { s with regs := t.regs, vis := { s.vis with stale := t.vis.stale }, err := t.err, resp := {} } ∧
      (t.fget F.viCmd_status 4 0 vi = vsBadState ∧ t.vis.stale.contains vi = true) ∧
      newCodes s t = [E.viCmdRefused.code] ∧
      sameRegsBut [fldAddr F.viCmd_cmd 4 0 vi] s t) ∧
  (∀ (s : State) (who : Initiator) (vi : Nat),
    s.viWriter who = false →
    ∃ t, exec (.viCreate who vi) s = .next t ∧
      t = { s with err := t.err, resp := {} } ∧
      newCodes s t = [E.regWriteDropped.code]) ∧
  (∀ (s : State) (queue : Nat) (e : List Byte) (n : Nat) (iova : Nat) (u : State),
    s.dmaEntry queue 1 e = true →
    (n = leAt e 24 4 ∧ iova = leAt e 16 8 ∧ iova % 4096 + n ≤ 4096) →
    u = (s.entryRead queue 64).fset F.schQptr_head 4 0 queue (s.qHead queue + 1) →
    ∃ t, exec (.dmaToIova queue) s = .next t ∧
      (u.translate (s.viReg F.viOwner_device_id (64 + s.qVi queue)) iova true = none →
        t = (u.iommuFault (s.qVi queue) (dmaFaultRec (s.qVi queue) queue) iova true).inFlightDma queue e 0 dmIommuFault) ∧
      (∀ a bs, u.translate (s.viReg F.viOwner_device_id (64 + s.qVi queue)) iova true = some a →
        (u.fetchAs (.dma (queue - 32768)) (leAt e 8 8) n).2 = some bs →
        ((u.fetchAs (.dma (queue - 32768)) (leAt e 8 8) n).1.iovaWrite queue a bs).2 = true →
        t = ((u.fetchAs (.dma (queue - 32768)) (leAt e 8 8) n).1.iovaWrite queue a bs).1.inFlightDma queue e n 0) ∧
      (∀ a, u.translate (s.viReg F.viOwner_device_id (64 + s.qVi queue)) iova true = some a →
        (u.fetchAs (.dma (queue - 32768)) (leAt e 8 8) n).2 = none →
        t = (u.fetchAs (.dma (queue - 32768)) (leAt e 8 8) n).1.inFlightDma queue e 0 dmDeviceFault) ∧
      u.qHead queue = (s.qHead queue + 1) % 65536) ∧
  (∀ (s : State) (queue : Nat) (e : List Byte) (n : Nat) (iova : Nat) (u : State),
    s.dmaEntry queue 2 e = true →
    (n = leAt e 24 4 ∧ iova = leAt e 16 8 ∧ iova % 4096 + n ≤ 4096) →
    u = (s.entryRead queue 64).fset F.schQptr_head 4 0 queue (s.qHead queue + 1) →
    ∃ t, exec (.dmaFromIova queue) s = .next t ∧
      (u.translate (s.viReg F.viOwner_device_id (64 + s.qVi queue)) iova false = none →
        t = (u.iommuFault (s.qVi queue) (dmaFaultRec (s.qVi queue) queue) iova false).inFlightDma queue e 0 dmIommuFault) ∧
      (∀ a bs, u.translate (s.viReg F.viOwner_device_id (64 + s.qVi queue)) iova false = some a →
        (u.iovaRead a n).2 = some bs →
        ((u.iovaRead a n).1.dmaWrite (.dma (queue - 32768)) (leAt e 8 8) bs).2 = true →
        t = ((u.iovaRead a n).1.dmaWrite (.dma (queue - 32768)) (leAt e 8 8) bs).1.inFlightDma queue e n 0)) ∧
  (∀ (s : State) (queue : Nat) (x : DmaFlight) (rest : List DmaFlight),
    (s.vis.dma = x :: rest ∧ x.queue = queue ∧ x.record = false) →
    ∃ t, exec (.dmaComplete queue) s = .next t ∧
      t = { s with vis := { s.vis with dma := rest } }) ∧
  (∀ (s : State) (queue : Nat) (x : DmaFlight) (rest : List DmaFlight) (cq : Nat) (a : Nat),
    s.canonical →
    (s.vis.dma = x :: rest ∧ x.queue = queue ∧ x.record = true) →
    (cq = x.cq ∧ s.cqOpen (s.qVi queue) cq = true ∧ a = s.cqNext cq) →
    ∃ t, exec (.dmaComplete queue) s = .next t ∧
      (t.vis.dma = rest ∧ t.qTail cq = (s.qTail cq + 1) % 65536) ∧
      (t.numAt a 2 = x.tag % 65536 ∧ t.numAt (a + 6) 1 = x.status % 256 ∧ t.numAt (a + 56) 8 = x.moved % 2 ^ 64) ∧
      sameButRecord s t cq)

/-- Completion of instance resets. A RESET by VI_CMD and a Function Level Reset make an instance RESETTING, freeze its
ACTIVE queues, forget its models and its transfers in flight, and remember the state to return to; the end of the
reset writes its record, zeroes heads and tails, clears the pending interrupts and brings the instance back; one
that lasts 2 ms writes VI_RESET_LATE once. The clauses on the start of a reset are stated for an instance for which
nothing else works. For each of viReset, functionLevelReset, viResetDone, viResetLate, it concludes that exec
answers a next state. -/
def Obligations.InstanceResetsComplete : Prop :=
  (∀ (s : State) (who : Initiator) (vi : Nat),
    (vi < 64 ∧ s.viWriter who = true ∧ s.fon F.viCmd_busy 4 0 vi = false) →
    (s.mayReset vi = true ∧ s.viQuiet vi = true) →
    ∃ t, exec (.viReset who vi) s = .next t ∧
      (t.viSt vi = viResetting ∧ t.fon F.viCmd_busy 4 0 vi = true) ∧
      (∀ q ∈ s.viQueues vi, t.qState q = if s.qState q = 1 then 2 else s.qState q) ∧
      (storeGet 0 t.vis.prior vi = (if s.viSt vi = viActive then viActive else viQuiesced) ∧ storeGet 0 t.vis.resetStart vi = s.periods) ∧
      (t.vis.dma = s.vis.dma.filter (fun x => s.qVi x.queue != vi)) ∧
      (t.cache.models = s.cache.models.filter (fun p => p.1 / 64 != vi)) ∧
      (t.mem = s.mem ∧ t.err = s.err ∧ t.resp = {})) ∧
  (∀ (s : State) (k : Nat) (vi : Nat),
    (vi = k - 1 ∧ 1 ≤ k ∧ k ≤ 64 ∧ s.hostMode = 2 ∧ s.viReg F.viOwner_vf_enable (64 + vi) = 1) →
    (s.mayReset vi = true ∧ s.viQuiet vi = true) →
    ∃ t, exec (.functionLevelReset k) s = .next t ∧
      (t.viSt vi = viResetting ∧ t.fon F.viCmd_busy 4 0 vi = true) ∧
      (∀ q ∈ s.viQueues vi, t.qState q = if s.qState q = 1 then 2 else s.qState q) ∧
      (t.vis.dma = s.vis.dma.filter (fun x => s.qVi x.queue != vi)) ∧
      (t.mem = s.mem ∧ t.err = s.err ∧ t.resp = s.resp)) ∧
  (∀ (s : State) (vi : Nat) (back : Nat),
    (vi < 64 ∧ s.viSt vi = viResetting ∧ storeFind s.vis.prior vi = some back ∧ (back = viActive ∨ back = viQuiesced)) →
    ∃ t, exec (.viResetDone vi) s = .next t ∧
      (t.viSt vi = back ∧ t.fon F.viCmd_busy 4 0 vi = false ∧ t.fon F.viState_over_budget 4 0 vi = false) ∧
      t.fget F.viState_resets 4 0 vi = (s.fget F.viState_resets 4 0 vi + 1) % 256 ∧
      t.fget F.viUse_pending_msi 4 0 vi = 0 ∧
      (∀ q ∈ s.viQueues vi, s.qState q ≠ 0 → t.qHead q = 0 ∧ t.qTail q = 0) ∧
      (t.vis.prior = storeDrop s.vis.prior vi ∧ t.vis.resetStart = storeDrop s.vis.resetStart vi) ∧
      newCodes s t = [E.viResetDone.code]) ∧
  (∀ (s : State) (vi : Nat) (t0 : Nat),
    (storeFind s.vis.resetStart vi = some t0 ∧ t0 + 76800 ≤ s.periods) →
    ∃ t, exec (.viResetLate vi) s = .next t ∧
      t = { s with vis := { s.vis with resetStart := storeDrop s.vis.resetStart vi }, err := t.err } ∧
      newCodes s t = [E.viResetLate.code])

/-- Completion of the commands on watermarks and holds. An accepted move puts its range under move and takes the grant
of a raise; its end zeroes the range and moves the mark; the steward's grant is published; a hold whose block is
free is in force with status 0; a release scrubs the block and ends the hold; a hold whose block is still asked to
stop 100 µs into an emergency is ended with its record. A write by the normal world is refused with SEC_WORLD. For
each of watermarkMove, watermarkMoveDone, watermarkGrant, secureHold, secureRelease, secureHoldForced, it concludes
that exec answers a next state. -/
def Obligations.WatermarksAndHoldsComplete : Prop :=
  (∀ (s : State) (who : Initiator) (target : Nat) (mark : Nat),
    (secRight who = true ∧ target ≤ 11 ∧ storeFind s.moves target = none) →
    (s.moveStatus target mark = 0 ∧ mark ≠ s.mark target) →
    ∃ t, exec (.watermarkMove who target mark) s = .next t ∧
      t = { s with regs := t.regs, moves := storePut s.moves target (s.mark target, mark), resp := {} } ∧
      (t.fget F.secWmCmd_status 4 0 0 = 0 ∧ t.fon F.secWmCmd_busy 4 0 0 = true) ∧
      t.mark target = s.mark target ∧
      t.fon F.cfgWmGrant_valid 4 0 0 = (s.fon F.cfgWmGrant_valid 4 0 0 && !decide (s.mark target < mark)) ∧
      sameRegsBut [fldAddr F.secWmCmd_target 4 0 0, fldAddr F.cfgWmGrant_valid 4 0 0] s t) ∧
  (∀ (s : State) (who : Initiator) (target : Nat) (mark : Nat),
    (secRight who = true ∧ target ≤ 11 ∧ storeFind s.moves target = none) →
    s.moveStatus target mark ≠ 0 →
    ∃ t, exec (.watermarkMove who target mark) s = .next t ∧
      t = { s with regs := t.regs, resp := {} } ∧
      t.fget F.secWmCmd_status 4 0 0 = s.moveStatus target mark ∧
      sameRegsBut [fldAddr F.secWmCmd_target 4 0 0] s t) ∧
  (∀ (s : State) (who : Initiator) (target : Nat) (mark : Nat),
    secRight who = false →
    ∃ t, exec (.watermarkMove who target mark) s = .next t ∧
      (t.resp = { error := true } ∧ t.moves = s.moves ∧ t.mem = s.mem) ∧
      newCodes s t = [E.secWorld.code] ∧
      t = { s with regs := t.regs, err := t.err, resp := t.resp, gft := t.gft }) ∧
  (∀ (s : State) (target : Nat) (old : Nat) (mark : Nat),
    s.canonical →
    (target ≤ 11 ∧ storeFind s.moves target = some (old, mark) ∧ mark ≤ markLimit target) →
    ∃ t, exec (.watermarkMoveDone target) s = .next t ∧
      (t.mark target = mark ∧ t.moves = storeDrop s.moves target) ∧
      t.fon F.secWmCmd_busy 4 0 0 = !(storeDrop s.moves target).isEmpty ∧
      (∀ a, s.inMarks target (min old mark) (max old mark) a = true → t.byteAt a = 0) ∧
      (∀ a, s.inMarks target (min old mark) (max old mark) a = false → t.byteAt a = s.byteAt a) ∧
      sameRegsBut [fldAddr F.secWmCmd_target 4 0 0, fldAddr F.secWmStackN_mark 4 target 0, fldAddr F.secWmSpmD_mark 4 (target - 8) 0] s t) ∧
  (∀ (s : State) (who : Initiator) (target : Nat) (upTo : Nat),
    (s.loaderRight who = true ∧ target ≤ 11) →
    ∃ t, exec (.watermarkGrant who target upTo) s = .next t ∧
      t = { s with regs := t.regs, resp := {} } ∧
      (t.fget F.cfgWmGrant_target 4 0 0 = target ∧ t.fget F.cfgWmGrant_up_to 4 0 0 = upTo % 2 ^ 14 ∧ t.fon F.cfgWmGrant_valid 4 0 0 = true) ∧
      sameRegsBut [fldAddr F.cfgWmGrant_target 4 0 0] s t) ∧
  (∀ (s : State) (who : Initiator) (b : Nat),
    (secRight who = true ∧ b < 49 ∧ s.holdStatus b = 0) →
    ∃ t, exec (.secureHold who b) s = .next t ∧
      t = { s with regs := t.regs, resp := {} } ∧
      (t.blockHeld b = true ∧ t.fget F.secHoldCmd_status 4 0 0 = 0) ∧
      (∀ c < 49, c ≠ b → t.blockHeld c = s.blockHeld c) ∧
      sameRegsBut [fldAddr F.secHoldCmd_block 4 0 0, fldAddr F.secHoldMap_held 4 0 0, fldAddr F.medStatus_held 5 0 0] s t) ∧
  (∀ (s : State) (who : Initiator) (b : Nat),
    (secRight who = true ∧ b < 49 ∧ s.holdStatus b ≠ 0) →
    ∃ t, exec (.secureHold who b) s = .next t ∧
      t = { s with regs := t.regs, resp := {} } ∧
      t.fget F.secHoldCmd_status 4 0 0 = s.holdStatus b ∧
      sameRegsBut [fldAddr F.secHoldCmd_block 4 0 0] s t) ∧
  (∀ (s : State) (who : Initiator) (b : Nat),
    (secRight who = true ∧ b < 32 ∧ s.blockHeld b = true ∧ s.stopWaits b = false) →
    (s.testing (2 * b) = false ∧ s.testing (2 * b + 1) = false) →
    (s.teStat (2 * b) ≠ tsOut ∧ s.teStat (2 * b + 1) ≠ tsOut) →
    ∃ t, exec (.secureRelease who b) s = .next t ∧
      t = { s with regs := t.regs, engines := t.engines, resp := {} } ∧
      (t.blockHeld b = false ∧ t.fget F.secHoldCmd_status 4 0 0 = 0) ∧
      (t.eng (2 * b) = {} ∧ t.eng (2 * b + 1) = {}) ∧
      (t.teStat (2 * b) = tsIdle ∧ t.teStat (2 * b + 1) = tsIdle)) ∧
  (∀ (s : State) (who : Initiator) (b : Nat),
    (secRight who = true ∧ 32 ≤ b ∧ b < 48 ∧ s.blockHeld b = true) →
    ∃ t, exec (.secureRelease who b) s = .next t ∧
      t = { s with regs := t.regs, rings := t.rings, resp := {} } ∧
      (t.blockHeld b = false ∧ t.fget F.secHoldCmd_status 4 0 0 = 0) ∧
      t.rings = (blockRings b).foldl storeDrop s.rings ∧
      (∀ n ∈ blockRings b, t.ringSt n = rgIdle)) ∧
  (∀ (s : State) (who : Initiator),
    (secRight who = true ∧ s.blockHeld 48 = true ∧ s.stopWaits 48 = false) →
    ∃ t, exec (.secureRelease who 48) s = .next t ∧
      t = { s with regs := t.regs, resp := {} } ∧
      (t.blockHeld 48 = false ∧ t.fget F.secHoldCmd_status 4 0 0 = 0 ∧ t.fon F.medStatus_held 5 0 0 = false) ∧
      (∀ n < 8, t.medState n = msClosed)) ∧
  (∀ (s : State) (who : Initiator) (b : Nat),
    (secRight who = true ∧ b < 49 ∧ s.blockHeld b = false) →
    ∃ t, exec (.secureRelease who b) s = .next t ∧
      t = { s with regs := t.regs, resp := {} } ∧
      t.fget F.secHoldCmd_status 4 0 0 = 3 ∧
      sameRegsBut [fldAddr F.secHoldCmd_block 4 0 0] s t) ∧
  (∀ (s : State) (at_ : Nat) (b : Nat),
    (s.power.emergency = some at_ ∧ at_ + 3840 ≤ s.periods) →
    ((List.range 49).filter (fun c => s.blockHeld c && s.stopWaits c) = [b]) →
    ∃ t, exec (.secureHoldForced) s = .next t ∧
      t.blockHeld b = false ∧
      (newCodes s t).getLast? = some E.secHoldForced.code ∧
      (b = 48 → t.fon F.medStatus_held 5 0 0 = false ∧ t.fget F.medStatus_sessions_open 5 0 0 = 0))

/-- Completion of the watchdog and of the vault's engine commands. A right kick starts a new period; a wrong one, and
the end of a period, enter the safe state with the watchdog's reason and a restart 20 ms later. The vault's start,
pre-emption, resumption and abort act on the selected engine of a held cluster as the same commands of TE_CTRL do.
For each of watchdogKick, watchdogExpiry, secTeStart, secTePreempt, secTeResume, secTeAbort, it concludes that exec
answers a next state. -/
def Obligations.WatchdogAndVaultJobsComplete : Prop :=
  (∀ (s : State) (who : Initiator) (value : Nat) (at_ : Nat),
    (secRight who = true ∧ s.boot.wdogStart = some at_) →
    value % 65536 + s.fget F.secWdog_challenge 4 0 0 = 65535 →
    ∃ t, exec (.watchdogKick who value) s = .next t ∧
      t = { s with regs := t.regs, boot := { s.boot with wdogStart := some s.periods }, freeCtr := t.freeCtr, resp := {} } ∧
      t.fget F.secWdog_remaining_ms 4 0 0 = s.fget F.secWdog_period_ms 4 0 0 ∧
      t.fget F.secWdog_period_ms 4 0 0 = s.fget F.secWdog_period_ms 4 0 0 ∧
      sameRegsBut [fldAddr F.secWdog_challenge 4 0 0] s t) ∧
  (∀ (s : State) (who : Initiator) (value : Nat) (at_ : Nat),
    (secRight who = true ∧ s.boot.wdogStart = some at_) →
    value % 65536 + s.fget F.secWdog_challenge 4 0 0 ≠ 65535 →
    ∃ t, exec (.watchdogKick who value) s = .next t ∧
      (t.boot.wdogStart = none ∧ t.boot.restartTime = some (s.earlierRestart (s.periods + 768000))) ∧
      (t.fon F.safStatus_safe_state 4 0 0 = true ∧ t.fget F.safStatus_reason 4 0 0 = rsWatchdog) ∧
      (newCodes s t).head? = some E.secWdogExpired.code ∧
      (t.mem = s.mem ∧ t.resp = {})) ∧
  (∀ (s : State) (e : Nat),
    (s.wdogEnd = some e ∧ e ≤ s.periods) →
    ∃ t, exec (.watchdogExpiry) s = .next t ∧
      (t.boot.wdogStart = none ∧ t.boot.restartTime = some (s.earlierRestart (s.periods + 768000))) ∧
      (t.fon F.safStatus_safe_state 4 0 0 = true ∧ t.fget F.safStatus_reason 4 0 0 = rsWatchdog) ∧
      (newCodes s t).head? = some E.secWdogExpired.code ∧
      t.mem = s.mem) ∧
  (∀ (s : State) (who : Initiator) (te : Nat) (a : Nat) (n : Nat),
    (te < 64 ∧ s.vaultEngine who te = true) →
    (s.engineUsable te = true ∧ s.teAtRest te = true) →
    (a = s.fget F.teProg_prog_addr (te / 16) (te % 16) 0 ∧ n = s.fget F.teProg_length_m1 (te / 16) (te % 16) 0 + 1) →
    s.firstRefusal (.engine te) false (requests a (n * 16)) = none →
    s.poisonIn (.engine te) a (n * 16) = none →
    ∃ t, exec (.secTeStart who) s = .next t ∧
      (t.teStat te = tsRunning ∧ t.tePc te = 0) ∧
      (t.eng te).program.length = n ∧
      ((t.eng te).preds = 0 ∧ (t.eng te).bankA = {} ∧ (t.eng te).bankB = {} ∧ (t.eng te).opbuf = []) ∧
      t.fget F.teSig_signature (te / 16) (te % 16) 0 = 0 ∧
      (t.mem = s.mem ∧ t.resp = {})) ∧
  (∀ (s : State) (who : Initiator) (te : Nat),
    (te < 64 ∧ s.vaultEngine who te = true) →
    (s.teStat te = tsRunning ∨ s.teStat te = tsWaiting) →
    ∃ t, exec (.secTePreempt who) s = .next t ∧
      t = { s with regs := t.regs, resp := {} } ∧
      t.teStat te = tsStopping ∧
      sameRegsBut [fldAddr F.teStatus_state (te / 16) (te % 16) 0] s t) ∧
  (∀ (s : State) (who : Initiator) (te : Nat),
    (te < 64 ∧ s.vaultEngine who te = true) →
    (s.engineUsable te = true ∧ s.teAtRest te = true) →
    ∃ t, exec (.secTeResume who) s = .next t ∧
      (∀ u, exec (.teResume .hardware te .clean) s = .next u → t = { u with resp := {} }) ∧
      proceeds (exec (.teResume .hardware te .clean) s)) ∧
  (∀ (s : State) (who : Initiator) (te : Nat),
    (te < 64 ∧ s.vaultEngine who te = true) →
    (1 ≤ s.teStat te ∧ s.teStat te ≤ 4 ∧ s.teJobOf te = none ∧ (s.eng te).writes = []) →
    ∃ t, exec (.secTeAbort who) s = .next t ∧
      t = { s with regs := t.regs, engines := t.engines, resp := {} } ∧
      t.teStat te = tsIdle ∧
      t.eng te = { s.eng te with bankA := {}, bankB := {}, loads := [] } ∧
      t.fget F.teStatus_handle_ready (te / 16) (te % 16) 0 = (t.eng te).readyMask) ∧
  (∀ (s : State) (who : Initiator) (te : Nat),
    (secRight who = true ∧ te = s.fget F.secTeSel_engine 4 0 0 ∧ s.blockHeld (te / 2) = false) →
    ∃ t, exec (.secTePreempt who) s = .next t ∧
      t = { s with err := t.err, resp := {} } ∧
      newCodes s t = [E.regWriteDropped.code])

/-- Completion of attestation and of the lifecycle's moves. ATTEST writes the report with its nonce and takes the next
index; ATTEST_KEY writes the unit's identity. A lifecycle request gets the status of its checks; one that passes
performs its move, with its record, and a restart that ends it, and one whose flash program fails leaves FLASH_FAIL
and the flash as it was; the generated attestation key ends TO_PROD. Whether signatures verify is left open. For
each of attest, attestKey, toDev, setDevRoot, toProd, toRetired, attestKeyGenerated, it concludes that exec answers
a next state. -/
def Obligations.AttestationAndLifecycleComplete : Prop :=
  (∀ (s : State) (queue : Nat) (vi : Nat) (e : List Byte) (nonce : List Byte) (out : Nat) (u : State),
    s.canonical →
    (s.sysEntry queue 0x20 vi e = true ∧ s.cqOpen vi (leAt e 4 2) = true) →
    (u = s.entryRead queue 256 ∧ (u.fetchAs (.service (some vi)) (cmdArg e 0) 32).2 = some nonce ∧ out = cmdArg e 1) →
    (s.lifecycle = lcProd ∧ s.inReadReach vi (cmdArg e 0) 32 = true ∧ out % 64 = 0 ∧ s.vaultOutput vi out 5789 = true) →
    (s.fget F.secAtt_next 4 0 0 ≠ s.flash.attCeiling ∧ s.indexExhausted (s.fget F.secAtt_next 4 0 0) = false ∧ (s.boot.attestTimes.filter (fun x => s.periods < x + 38400000)).length < 100) →
    (out + 5789 ≤ s.cqNext (leAt e 4 2) ∨ s.cqNext (leAt e 4 2) + 64 ≤ out) →
    ∃ t, exec (.attest queue) s = .next t ∧
      answered s t e 0 0 ∧
      t.bytesAt out 184 = s.reportBody nonce ∧
      t.reg (fldAddr F.secAtt_next 4 0 0) = (s.fget F.secAtt_next 4 0 0 + 1) % 2 ^ 64 ∧
      t.qHead queue = (s.qHead queue + 1) % 65536 ∧
      t.flash = s.flash) ∧
  (∀ (s : State) (queue : Nat) (vi : Nat) (e : List Byte) (out : Nat),
    s.canonical →
    (s.sysEntry queue 0x21 vi e = true ∧ s.cqOpen vi (leAt e 4 2) = true) →
    (s.lifecycle = lcProd ∧ out = cmdArg e 0 ∧ s.vaultOutput vi out 84 = true) →
    (out + 84 ≤ s.cqNext (leAt e 4 2) ∨ s.cqNext (leAt e 4 2) + 64 ≤ out) →
    ∃ t, exec (.attestKey queue) s = .next t ∧
      answered s t e 0 0 ∧
      t.bytesAt out 16 = leBytes s.flash.unitId 16 ∧
      t.qHead queue = (s.qHead queue + 1) % 65536 ∧
      t.flash = s.flash) ∧
  (∀ (s : State) (queue : Nat) (vi : Nat) (e : List Byte),
    s.canonical →
    (s.sysEntry queue 0x21 vi e = true ∧ s.cqOpen vi (leAt e 4 2) = true) →
    s.lifecycle ≠ lcProd →
    ∃ t, exec (.attestKey queue) s = .next t ∧
      answered s t e atNoKey 0 ∧
      sameButRecord s t (leAt e 4 2)) ∧
  (∀ (s : State) (who : Initiator) (ok : Bool) (r : List Byte) (u : State),
    (s.lifeAsks who 1 r = true ∧ lifeFormatOk r = true) →
    u = s.lifeRequest.1 →
    ∃ t, exec (.toDev who ok) s = .next t ∧
      (s.lifeStatus r = 0 ∧ ok = true →
        t = { u with regs := t.regs, flash := { u.flash with sealedPages := setBit u.flash.sealedPages 2 true }, boot := { u.boot with restartTime := some s.periods }, err := t.err, resp := {} } ∧
        t.lifeAnswer = 0 ∧ newCodes u t = [E.secLifecycle.code]) ∧
      (s.lifeStatus r = 0 ∧ ok = false → t = { u with regs := t.regs, resp := {} } ∧ t.lifeAnswer = lfFlash) ∧
      (s.lifeStatus r ≠ 0 → t = { u with regs := t.regs, resp := {} } ∧ t.lifeAnswer = s.lifeStatus r) ∧
      sameRegsBut [fldAddr F.cfgLifeCmd_status 4 0 0] u t) ∧
  (∀ (s : State) (who : Initiator) (ok : Bool) (r : List Byte) (u : State),
    (s.lifeAsks who 2 r = true ∧ lifeFormatOk r = true) →
    u = s.lifeRequest.1 →
    ∃ t, exec (.setDevRoot who ok) s = .next t ∧
      (s.lifeStatus r = 0 ∧ ok = true →
        t = { u with regs := t.regs, flash := { u.flash with devKeySeq := leAt r 24 4, devKeyRoot := some (leAt r 32 32) }, err := t.err, resp := {} } ∧
        t.lifeAnswer = 0 ∧ newCodes u t = [E.secLifecycle.code]) ∧
      (s.lifeStatus r = 0 ∧ ok = false → t = { u with regs := t.regs, resp := {} } ∧ t.lifeAnswer = lfFlash) ∧
      (s.lifeStatus r ≠ 0 → t = { u with regs := t.regs, resp := {} } ∧ t.lifeAnswer = s.lifeStatus r)) ∧
  (∀ (s : State) (who : Initiator) (ok : Bool) (r : List Byte) (u : State),
    (s.lifeAsks who 3 r = true ∧ lifeFormatOk r = true) →
    u = s.lifeRequest.1 →
    ∃ t, exec (.toProd who ok) s = .next t ∧
      (s.lifeStatus r = 0 ∧ ok = true ∧ s.pageSealed 1 = false →
        t.boot.debugOff = true ∧ t.boot.keyGenerating = true ∧ t.flash.oemRoot = leAt r 32 32 ∧ t.pageSealed 1 = true ∧
        t.flash.attKey = none ∧ t.fon F.cfgLifeCmd_busy 4 0 0 = true) ∧
      (s.lifeStatus r = 0 ∧ ok = false → t = { u with regs := t.regs, resp := {} } ∧ t.lifeAnswer = lfFlash) ∧
      (s.lifeStatus r ≠ 0 → t = { u with regs := t.regs, resp := {} } ∧ t.lifeAnswer = s.lifeStatus r)) ∧
  (∀ (s : State) (who : Initiator) (ok : Bool) (r : List Byte) (u : State),
    (s.lifeAsks who 4 r = true ∧ lifeFormatOk r = true) →
    u = s.lifeRequest.1 →
    ∃ t, exec (.toRetired who ok) s = .next t ∧
      (s.lifeStatus r = 0 ∧ ok = true →
        t.flash.attKey = none ∧ t.flash.devKeyRoot = none ∧ t.flash.vaultStoreErased = true ∧ t.pageSealed 4 = true ∧
        t.boot.restartTime = some s.periods ∧ newCodes u t = [E.secLifecycle.code]) ∧
      (s.lifeStatus r = 0 ∧ ok = false → t = { u with regs := t.regs, resp := {} } ∧ t.lifeAnswer = lfFlash) ∧
      (s.lifeStatus r ≠ 0 → t = { u with regs := t.regs, resp := {} } ∧ t.lifeAnswer = s.lifeStatus r)) ∧
  (∀ (s : State),
    s.canonical →
    s.boot.keyGenerating = true →
    ∃ t, exec (.attestKeyGenerated true) s = .next t ∧
      t.boot = { s.boot with keyGenerating := false, restartTime := some s.periods } ∧
      (t.flash.attKey.isSome = true ∧ t.flash.attSeq = 1 ∧ t.flash.attCeiling = 0 ∧ t.pageSealed 3 = true) ∧
      t.bytesAt attRegion 32 = indexRecord 1 0 ∧
      (∀ a, a < attRegion ∨ attRegion + 0x8000 ≤ a → t.byteAt a = s.byteAt a) ∧
      (newCodes s t = [E.secLifecycle.code] ∧ t.fon F.cfgLifeCmd_busy 4 0 0 = false)) ∧
  (∀ (s : State),
    s.boot.keyGenerating = true →
    ∃ t, exec (.attestKeyGenerated false) s = .next t ∧
      t = { s with regs := t.regs, boot := { s.boot with keyGenerating := false } } ∧
      (t.lifeAnswer = lfFlash ∧ t.fon F.cfgLifeCmd_busy 4 0 0 = false)) ∧
  (∀ (s : State) (who : Initiator) (ok : Bool) (r : List Byte) (u : State),
    (s.lifeAsks who 1 r = true ∧ lifeFormatOk r = false) →
    u = s.lifeRequest.1 →
    ∃ t, exec (.toDev who ok) s = .next t ∧
      (t = { u with regs := t.regs, resp := {} } ∧ t.lifeAnswer = lfFormat))

/-- Completion of the gateway's commands. A message whose key hits an enabled context takes a payload slot of the
context's sequencer, one without a hit is counted, and one that finds all 32 slots taken is dropped with its record;
an entry of an IN queue is taken, and its direct payload becomes such a message; a context whose toggle is set is
enabled or disabled and tells the sequencers of its set. For each of gwIngressMessage, gwInEntry, gwContextEnable,
it concludes that exec answers a next state. -/
def Obligations.GatewayCommandsComplete : Prop :=
  (∀ (s : State) (isq : Bool) (flow : Nat) (bus : Nat) (format : Nat) (ident : Nat) (sdt : Nat) (vcid : Nat) (flags : Nat) (af : Nat) (payload : List Byte) (n : Notice) (c : Nat) (seq : Nat),
    s.logicFrozen 6 = false →
    payload.length ≤ 2048 →
    (n = { ctx := 0, identifier := ident, format, flags, bus, time := s.deviceTime, af := if format = 2 then af else 0, sdt := if format = 2 then sdt else 0, vcid := if format = 2 then vcid else 0, payload }) →
    (s.ingressCtx isq flow n = some c ∧ seq = s.gw F.gwCtx_sequencer c) →
    (s.tahrSeq seq).waiting.length + (s.tahrSeq seq).notice.isSome.toNat < 32 →
    ∃ t, exec (.gwIngressMessage isq flow bus format ident sdt vcid flags af payload) s = .next t ∧
      t = { s with regs := t.regs, tahr := t.tahr } ∧
      (t.tahrSeq seq).waiting = (s.tahrSeq seq).waiting ++ [{ n with ctx := c }] ∧
      t.gw F.gwCtxCounts_messages c = (s.gw F.gwCtxCounts_messages c + 1) % 2 ^ 32 ∧
      sameRegsBut [fldAddr F.gwCtxCounts_messages 6 0 c] s t) ∧
  (∀ (s : State) (isq : Bool) (flow : Nat) (bus : Nat) (format : Nat) (ident : Nat) (sdt : Nat) (vcid : Nat) (flags : Nat) (af : Nat) (payload : List Byte) (n : Notice),
    s.logicFrozen 6 = false →
    payload.length ≤ 2048 →
    (n = { ctx := 0, identifier := ident, format, flags, bus, time := s.deviceTime, af := if format = 2 then af else 0, sdt := if format = 2 then sdt else 0, vcid := if format = 2 then vcid else 0, payload }) →
    s.ingressCtx isq flow n = none →
    ∃ t, exec (.gwIngressMessage isq flow bus format ident sdt vcid flags af payload) s = .next t ∧
      t = { s with regs := t.regs } ∧
      t.fget F.gwEvents_unknown_key 6 0 0 = satAdd (s.fget F.gwEvents_unknown_key 6 0 0) 1 16 ∧
      sameRegsBut [fldAddr F.gwEvents_unknown_key 6 0 0] s t) ∧
  (∀ (s : State) (isq : Bool) (flow : Nat) (bus : Nat) (format : Nat) (ident : Nat) (sdt : Nat) (vcid : Nat) (flags : Nat) (af : Nat) (payload : List Byte) (n : Notice) (c : Nat) (seq : Nat),
    s.logicFrozen 6 = false →
    payload.length ≤ 2048 →
    (n = { ctx := 0, identifier := ident, format, flags, bus, time := s.deviceTime, af := if format = 2 then af else 0, sdt := if format = 2 then sdt else 0, vcid := if format = 2 then vcid else 0, payload }) →
    (s.ingressCtx isq flow n = some c ∧ seq = s.gw F.gwCtx_sequencer c) →
    32 ≤ (s.tahrSeq seq).waiting.length + (s.tahrSeq seq).notice.isSome.toNat →
    ∃ t, exec (.gwIngressMessage isq flow bus format ident sdt vcid flags af payload) s = .next t ∧
      (t.tahr = s.tahr ∧ t.mem = s.mem) ∧
      t.fget F.gwEvents_ingress_drops 6 0 0 = satAdd (s.fget F.gwEvents_ingress_drops 6 0 0) 1 16 ∧
      (newCodes s t).head? = some E.gwIngressDrop.code) ∧
  (∀ (s : State) (queue : Nat) (n : Nat) (e : List Byte) (ctx : Nat) (seq : Nat) (u : State),
    (57344 ≤ queue ∧ queue < 61440 ∧ n = queue - 57344 ∧ s.fget F.gwQcfg_dir 6 0 n = 0 ∧ s.queueReady queue = true) →
    ((s.readEntryAt queue (s.qHead queue) 128).2 = some e ∧ u = s.entryRead queue 128) →
    (ctx = leAt e 0 2 ∧ s.sourcedFrom ctx n = true ∧ bit (leAt e 4 1) 0 = false ∧ leAt e 2 2 ≤ 96) →
    (seq = s.gw F.gwCtx_sequencer ctx ∧ (s.tahrSeq seq).waiting.length + (s.tahrSeq seq).notice.isSome.toNat < 32) →
    ∃ t, exec (.gwInEntry queue) s = .next t ∧
      t = { u with regs := t.regs, tahr := t.tahr } ∧
      t.qHead queue = (s.qHead queue + 1) % 65536 ∧
      (t.tahrSeq seq).waiting = (s.tahrSeq seq).waiting ++ [s.inNotice ctx (byteSlice e 32 (leAt e 2 2))] ∧
      sameRegsBut [fldAddr F.schQptr_head 4 0 queue, fldAddr F.gwCtxCounts_messages 6 0 ctx] u t) ∧
  (∀ (s : State) (queue : Nat) (n : Nat) (e : List Byte) (u : State),
    (57344 ≤ queue ∧ queue < 61440 ∧ n = queue - 57344 ∧ s.fget F.gwQcfg_dir 6 0 n = 0 ∧ s.queueReady queue = true) →
    ((s.readEntryAt queue (s.qHead queue) 128).2 = some e ∧ u = s.entryRead queue 128) →
    s.sourcedFrom (leAt e 0 2) n = false →
    ∃ t, exec (.gwInEntry queue) s = .next t ∧
      t = { u with regs := t.regs } ∧
      t.qHead queue = (s.qHead queue + 1) % 65536 ∧
      t.fget F.gwEvents_ingress_drops 6 0 0 = satAdd (s.fget F.gwEvents_ingress_drops 6 0 0) 1 16 ∧
      sameRegsBut [fldAddr F.schQptr_head 4 0 queue, fldAddr F.gwEvents_ingress_drops 6 0 0] u t) ∧
  (∀ (s : State) (who : Initiator) (ctx : Nat) (on : Bool),
    (tsqRight who = true ∧ s.gw F.gwCtx_toggle ctx = 1 ∧ s.gw F.gwCtx_enable ctx ≠ on.toNat) →
    ∃ t, exec (.gwContextEnable who ctx on) s = .next t ∧
      t = { s with regs := t.regs, tahr := t.tahr, resp := {} } ∧
      t.gw F.gwCtx_enable ctx = on.toNat ∧
      (∀ n < 32, (t.tahrSeq n).events = if (s.setsOf n).contains (s.gw F.gwCtx_set ctx) = true then setBit (s.tahrSeq n).events 10 true else (s.tahrSeq n).events) ∧
      sameRegsBut [fldAddr F.gwCtx_enable 6 0 ctx] s t) ∧
  (∀ (s : State) (who : Initiator) (ctx : Nat) (on : Bool),
    (tsqRight who = false ∨ s.gw F.gwCtx_toggle ctx = 0) →
    ∃ t, exec (.gwContextEnable who ctx on) s = .next t ∧
      t = { s with err := t.err, resp := {} } ∧
      newCodes s t = [E.regWriteDropped.code])

/-- Completion of the Ethernet commands. A link goes up and down; a frame that hits a flow with a receive queue goes to
the buffer of the next entry, one that hits no flow goes where the static table says or is counted as unknown; a
transmit entry of an unbound flow leaves at its port at once where nothing stands in the way, and is marked done; a
frame whose launch time came leaves, or is dropped as late with its record; a gate list is staged, becomes
operational at its base time, and moves from entry to entry. The classification and the static table are left open.
For each of ethLinkUp, ethLinkDown, ethFrameReceive, ethTransmit, launchTime, gclEntryExpiry, gclStage,
gclConfigChange, it concludes that exec answers a next state. -/
def Obligations.EthernetCommandsComplete : Prop :=
  (∀ (s : State) (p : Nat),
    (p < 16 ∧ (s.ethPort p).waiting = []) →
    ∃ t, exec (.ethLinkUp p) s = .next t ∧
      t = { s with regs := t.regs } ∧
      t.portUpEth p = true ∧
      sameRegsBut [fldAddr F.netPortCounts_link_up (portDie p) 0 (p % 8)] s t) ∧
  (∀ (s : State) (p : Nat),
    p < 16 →
    ∃ t, exec (.ethLinkDown p) s = .next t ∧
      t = { s with regs := t.regs } ∧
      t.portUpEth p = false ∧
      sameRegsBut [fldAddr F.netPortCounts_link_up (portDie p) 0 (p % 8)] s t) ∧
  (∀ (s : State) (p : Nat) (frame : List Byte) (k : Nat) (n : Nat) (q : Nat) (e : List Byte) (ent : Nat) (buf : Nat) (who : Initiator),
    s.logicFrozen (portDie p) = false →
    s.canonical →
    (p < 16 ∧ s.portUpEth p = true ∧ s.fon F.netPortCfg_enable (portDie p) 0 (p % 8) = true ∧ 64 ≤ frame.length ∧ frame.length ≤ 9216) →
    (s.net.keys = [(n, k)] ∧ s.flow F.netFlow_enable n = 1 ∧ s.flow F.netFlow_kind n = 1) →
    (q = 40960 + s.flow F.netFlow_target n ∧ s.qState q = 1 ∧ s.fget F.netQcfg_dir 6 0 (q - 40960) = 1 ∧ s.qUsed q < s.qSize q) →
    (ent = s.qEntry q (s.qTail q) 64 ∧ (s.readEntryAt q (s.qTail q) 64).2 = some e ∧ frame.length ≤ leAt e 28 4) →
    (buf = leAt e 8 8 ∧ (buf + frame.length ≤ ent ∨ ent + 64 ≤ buf) ∧ who = .service (some (s.qVi q))) →
    (s.memoryOpen who true buf frame.length = true ∧ s.memoryOpen who true ent 64 = true) →
    ∃ t, exec (.ethFrameReceive p frame) s = .next t ∧
      (Config.frameKey p frame = k → t.qTail q = (s.qTail q + 1) % 65536 ∧ t.bytesAt buf frame.length = frame ∧ t.numAt (ent + 2) 2 = frame.length) ∧
      (∀ a, Config.frameKey p frame = k ∧ (a < buf ∨ buf + frame.length ≤ a) ∧ (a < ent ∨ ent + 64 ≤ a) → t.byteAt a = s.byteAt a)) ∧
  (∀ (s : State) (p : Nat) (frame : List Byte),
    s.logicFrozen (portDie p) = false →
    (p < 16 ∧ s.portUpEth p = true ∧ s.fon F.netPortCfg_enable (portDie p) 0 (p % 8) = true ∧ 64 ≤ frame.length ∧ frame.length ≤ 9216) →
    s.net.keys = [] →
    ∃ t, exec (.ethFrameReceive p frame) s = .next t ∧
      ((Config.staticRoute p frame).1 < 24 → t = s.enqueueFrame (Config.staticRoute p frame).1 { tc := (Config.staticRoute p frame).2 % 8, flow := none, bytes := frame }) ∧
      (24 ≤ (Config.staticRoute p frame).1 → t = { s with regs := t.regs } ∧
        t.fget F.netPortCounts_unknown (portDie p) 0 (p % 8) = satAdd (s.fget F.netPortCounts_unknown (portDie p) 0 (p % 8)) 1 15)) ∧
  (∀ (s : State) (q : Nat) (e : List Byte) (n : Nat) (p : Nat) (buf : Nat) (len : Nat) (who : Initiator),
    s.canonical →
    (isEthernet q = true ∧ s.queueReady q = true ∧ s.fget F.netQcfg_dir 6 0 (q - 40960) = 0) →
    ((s.readEntryAt q (s.qHead q) 64).2 = some e ∧ who = .service (some (s.qVi q)) ∧ n = leAt e 0 2 ∧ len = leAt e 2 2 ∧ buf = leAt e 8 8) →
    (bit (leAt e 4 1) 1 = false ∧ leAt e 16 12 = 0) →
    (s.flow F.netFlow_enable n = 1 ∧ s.flow F.netFlow_kind n = 4 ∧ s.flow F.netFlow_bound n = 0 ∧ p = s.flow F.netFlow_port n) →
    (60 ≤ len ∧ len ≤ 9216 ∧ len ≤ s.flow F.netFlow_max_len n ∧ s.memoryOpen who false buf len = true) →
    (s.memoryOpen who true (s.qEntry q (s.qHead q) 64) 64 = true ∧ s.poisoned buf len = false) →
    (p < 16 ∧ s.portUpEth p = true ∧ s.fon F.netPortCfg_enable (portDie p) 0 (p % 8) = true ∧ s.ethPort p = {}) →
    ∃ t, exec (.ethTransmit q) s = .next t ∧
      t.sent = s.sent ++ [.ethernet p (s.bytesAt buf len)] ∧
      (t.qHead q = (s.qHead q + 1) % 65536 ∧ (t.ethPort p).waiting = []) ∧
      (bit (t.numAt (s.qEntry q (s.qHead q) 64 + 4) 1) 0 = true ∧ t.numAt (s.qEntry q (s.qHead q) 64 + 5) 1 = 0) ∧
      (∀ a, a < s.qEntry q (s.qHead q) 64 + 4 ∨ s.qEntry q (s.qHead q) 64 + 6 ≤ a → t.byteAt a = s.byteAt a)) ∧
  (∀ (s : State) (p : Nat) (f : EthFrame),
    s.logicFrozen (portDie p) = false →
    (p < 16 ∧ s.portUpEth p = true ∧ s.fon F.netPortCfg_enable (portDie p) 0 (p % 8) = true) →
    ((s.ethPort p).waiting = [f] ∧ (s.ethPort p).oper = none ∧ f.tc < 8 ∧ f.flow = none ∧ f.entry = none) →
    (f.launch ≤ s.timeParts ∧ s.timeParts ≤ f.launch + s.fget F.netPortCfg_late_threshold (portDie p) 0 (p % 8) * 65536) →
    ∃ t, exec (.launchTime p) s = .next t ∧
      t = { s with net := t.net, sent := s.sent ++ [.ethernet p f.bytes] } ∧
      t.ethPort p = { s.ethPort p with waiting := [] }) ∧
  (∀ (s : State) (p : Nat) (f : EthFrame),
    s.logicFrozen (portDie p) = false →
    (p < 16 ∧ s.portUpEth p = true ∧ s.fon F.netPortCfg_enable (portDie p) 0 (p % 8) = true) →
    ((s.ethPort p).waiting = [f] ∧ (s.ethPort p).oper = none ∧ f.tc < 8 ∧ f.flow = none ∧ f.entry = none) →
    (f.launch ≠ 0 ∧ f.launch + s.fget F.netPortCfg_late_threshold (portDie p) 0 (p % 8) * 65536 < s.timeParts) →
    (s.fon F.netPortCfg_late_mode (portDie p) 0 (p % 8) = false ∧ (s.ethPort p).lateTime = none) →
    ∃ t, exec (.launchTime p) s = .next t ∧
      t = { s with regs := t.regs, net := t.net, err := t.err } ∧
      t.ethPort p = { s.ethPort p with waiting := [], lateTime := some s.periods } ∧
      t.fget F.netPortCounts_late_dropped (portDie p) 0 (p % 8) = satAdd (s.fget F.netPortCounts_late_dropped (portDie p) 0 (p % 8)) 1 16 ∧
      newCodes s t = [E.netLate.code]) ∧
  (∀ (s : State) (p : Nat) (l : GateList),
    ((s.ethPort p).oper = some l ∧ (s.ethPort p).waiting = [] ∧ (s.ethPort p).restart ≤ s.timeParts) →
    ∃ t, exec (.gclEntryExpiry p) s = .next t ∧
      t = { s with net := t.net } ∧
      t.ethPort p = { s.ethPort p with index := (l.position s.timeParts).1, entryStart := (l.position s.timeParts).2 }) ∧
  (∀ (s : State) (who : Initiator) (p : Nat) (src : Nat) (l : GateList) (u : State) (v : State),
    (netRight who = true ∧ p < 16 ∧ u = (s.fset F.netGcl_admin_src (portDie p) 0 (p % 8) src).answerOk ∧ u.readGateList src = (v, some l)) →
    ∃ t, exec (.gclStage who p src) s = .next t ∧
      t = { v with regs := t.regs, net := t.net } ∧
      (t.ethPort p = { s.ethPort p with admin := some l } ∧ t.resp = {}) ∧
      (t.fon F.netGcl_pending (portDie p) 0 (p % 8) = true ∧ t.fget F.netGcl_admin_src (portDie p) 0 (p % 8) = src % 2 ^ 48) ∧
      sameRegsBut [fldAddr F.netGcl_admin_src (portDie p) 0 (p % 8)] v t) ∧
  (∀ (s : State) (p : Nat) (l : GateList),
    (p < 16 ∧ (s.ethPort p).admin = some l ∧ l.base ≤ s.timeParts ∧ (s.ethPort p).waiting = []) →
    ∃ t, exec (.gclConfigChange p) s = .next t ∧
      t = { s with regs := t.regs, net := t.net } ∧
      t.ethPort p = { s.ethPort p with oper := some l, admin := none, restart := 0, index := (l.position s.timeParts).1, entryStart := (l.position s.timeParts).2 } ∧
      t.fon F.netGcl_pending (portDie p) 0 (p % 8) = false ∧
      sameRegsBut [fldAddr F.netGcl_pending (portDie p) 0 (p % 8)] s t)

/-- Completion of the time commands. A Sync stores its estimates and counts towards the lock; the eighth good one in a
row locks the domain, which takes over where none drives; a Sync of the driving domain steers the rate within its
bounds; a receipt timeout loses the domain, and the LOCKED domain of the best priority takes over; a read of
TIM_NOW_A answers the low half of device time and latches the high half. For each of ptpSync, syncReceiptTimeout,
timeRead, it concludes that exec answers a next state. -/
def Obligations.NetworkTimeComplete : Prop :=
  (∀ (s : State) (d : Nat) (gm : Nat) (offset : Int) (rate : Int) (servo : Int),
    (d < 4 ∧ s.fon F.timDom_enable 4 0 d = true ∧ s.domState d = tdListening ∧ storeGet gm s.net.gms d = gm) →
    (-1000 ≤ offset ∧ offset ≤ 1000 ∧ storeGet 0 s.net.good d < 7 ∧ s.drives d = false) →
    ∃ t, exec (.ptpSync d gm offset rate servo) s = .next t ∧
      t = { s with regs := t.regs, net := t.net } ∧
      (storeGet 0 t.net.good d = storeGet 0 s.net.good d + 1 ∧ t.domState d = tdListening) ∧
      (t.fget F.timDomEst_offset_ns 4 0 d = unsigned offset 32 % 2 ^ 32 ∧ t.fget F.timDomEst_rate_ppb 4 0 d = unsigned rate 32 % 2 ^ 32) ∧
      sameRegsBut [fldAddr F.timDom_state 4 0 d, fldAddr F.timDomEst_offset_ns 4 0 d] s t) ∧
  (∀ (s : State) (d : Nat) (gm : Nat) (offset : Int) (rate : Int) (servo : Int),
    (d < 4 ∧ s.fon F.timDom_enable 4 0 d = true ∧ s.domState d = tdListening ∧ storeGet gm s.net.gms d = gm) →
    (-1000 ≤ offset ∧ offset ≤ 1000 ∧ 7 ≤ storeGet 0 s.net.good d) →
    (s.net.anyLock = true ∧ s.fon F.timRate_synchronised 4 0 0 = false) →
    ∃ t, exec (.ptpSync d gm offset rate servo) s = .next t ∧
      t = { s with regs := t.regs, net := t.net, err := t.err } ∧
      (t.domState d = tdLocked ∧ t.drives d = true) ∧
      newCodes s t = [E.timSwitch.code] ∧
      (t.rateOf = clampTo (-500000000) 500000000 (if -100 ≤ offset ∧ offset ≤ 100 then servo else clampTo (s.rateOf - 10000000) (s.rateOf + 10000000) servo))) ∧
  (∀ (s : State) (d : Nat) (gm : Nat) (offset : Int) (rate : Int) (servo : Int),
    (d < 4 ∧ s.fon F.timDom_enable 4 0 d = true ∧ s.domState d = tdListening ∧ storeGet gm s.net.gms d = gm) →
    (-1000 ≤ offset ∧ offset ≤ 1000 ∧ 7 ≤ storeGet 0 s.net.good d) →
    (s.net.anyLock = false ∧ s.net.ports = []) →
    ∃ t, exec (.ptpSync d gm offset rate servo) s = .next t ∧
      (t.domState d = tdLocked ∧ t.drives d = true ∧ t.net.anyLock = true ∧ t.fon F.timRate_stepped 4 0 0 = true) ∧
      t.devFine = ((s.devFine : Int) + offset * 65536 * 3000000000000).toNat ∧
      newCodes s t = [E.timStep.code]) ∧
  (∀ (s : State) (d : Nat) (gm : Nat) (offset : Int) (rate : Int) (servo : Int),
    (d < 4 ∧ s.fon F.timDom_enable 4 0 d = true ∧ s.domState d = tdLocked ∧ storeGet gm s.net.gms d = gm) →
    (s.drives d = true ∧ s.net.limitBase = none) →
    ∃ t, exec (.ptpSync d gm offset rate servo) s = .next t ∧
      t = { s with regs := t.regs, net := t.net } ∧
      t.rateOf = clampTo (-500000000) 500000000 servo ∧
      (t.domState d = tdLocked ∧ t.drives d = true)) ∧
  (∀ (s : State) (d : Nat),
    (d < 4 ∧ (s.domState d = tdListening ∨ s.domState d = tdLocked) ∧ s.drives d = false) →
    ∃ t, exec (.syncReceiptTimeout d) s = .next t ∧
      t = { s with regs := t.regs, net := { s.net with good := storeDrop s.net.good d } } ∧
      t.domState d = tdLost ∧
      sameRegsBut [fldAddr F.timDom_state 4 0 d] s t) ∧
  (∀ (s : State) (d : Nat) (k : Nat),
    (d < 4 ∧ s.domState d = tdLocked ∧ s.drives d = true ∧ k < 4 ∧ k ≠ d ∧ s.domState k = tdLocked) →
    ((List.range 4).all (fun j => j == d || j == k || s.domState j != tdLocked || s.fget F.timDom_priority 4 0 k < s.fget F.timDom_priority 4 0 j) = true) →
    ∃ t, exec (.syncReceiptTimeout d) s = .next t ∧
      (t.domState d = tdLost ∧ t.drives k = true ∧ t.rateOf = s.rateOf) ∧
      newCodes s t = [E.timSwitch.code]) ∧
  (∀ (s : State) (who : Initiator),
    who.reachesRegisters = true →
    ∃ t, exec (.timeRead who) s = .next t ∧
      t = { s with regs := t.regs, resp := { value := s.deviceTime % 2 ^ 64 } } ∧
      t.fget F.timNowB_high 4 0 0 = s.deviceTime / 2 ^ 64 ∧
      sameRegsBut [fldAddr F.timNowB_high 4 0 0] s t)

/-- Completion of the lanes' commands. An enable starts a camera lane DARK and a transmit lane SENDING; light, lock and
alignment lead an enabled lane to UP; a good start of picture opens one, a line of it is stored and a gap loses the
lines between; the end closes the picture, counts it and passes its sample on; the loss of lock is counted and
recorded; a packet with a bad CRC is counted and recorded. For each of ulkLaneEnable, ulkLightDetected, ulkLocked,
ulkAligned, ulkLockLost, ulkSop, ulkLine, ulkEop, it concludes that exec answers a next state. -/
def Obligations.CameraLanesComplete : Prop :=
  (∀ (s : State) (who : Initiator) (die : Nat) (lane : Nat) (on : Bool),
    (netRight who = true ∧ isCamLane die lane = true ∧ s.fon F.ulkLane_enable die 0 lane ≠ on) →
    ∃ t, exec (.ulkLaneEnable who die lane on) s = .next t ∧
      t = { s with regs := t.regs, net := t.net, resp := {} } ∧
      (t.fon F.ulkLane_enable die 0 lane = on ∧ t.laneState die lane = ulDark ∧ t.ulkLane die lane = {}) ∧
      sameRegsBut [fldAddr F.ulkLane_enable die 0 lane] s t) ∧
  (∀ (s : State) (who : Initiator) (die : Nat) (lane : Nat) (on : Bool),
    (netRight who = true ∧ isSendLane die lane = true ∧ s.fon F.ulkLane_enable die 0 lane ≠ on) →
    ∃ t, exec (.ulkLaneEnable who die lane on) s = .next t ∧
      t = { s with regs := t.regs, net := t.net, resp := {} } ∧
      t.fon F.ulkLane_enable die 0 lane = on ∧
      (t.laneState die lane = (if on = true ∧ s.laneSends die lane = true then ulSending else ulDark)) ∧
      (on = true ∧ s.laneSends die lane = true ∧ s.laneState die lane ≠ ulSending → storeFind t.net.sending (die * 32 + lane) = some s.periods) ∧
      sameRegsBut [fldAddr F.ulkLane_enable die 0 lane] s t) ∧
  (∀ (s : State) (die : Nat) (lane : Nat),
    s.islandFrozen die 1 = false →
    (isCamLane die lane = true ∧ s.fon F.ulkLane_enable die 0 lane = true ∧ s.laneState die lane = ulDark) →
    ∃ t, exec (.ulkLightDetected die lane) s = .next t ∧
      t = { s with regs := t.regs } ∧
      t.laneState die lane = ulLocking ∧
      sameRegsBut [fldAddr F.ulkLane_state die 0 lane] s t) ∧
  (∀ (s : State) (die : Nat) (lane : Nat),
    s.islandFrozen die 1 = false →
    (isCamLane die lane = true ∧ s.fon F.ulkLane_enable die 0 lane = true ∧ s.laneState die lane = ulLocking) →
    ∃ t, exec (.ulkLocked die lane) s = .next t ∧
      t = { s with regs := t.regs } ∧
      t.laneState die lane = ulAligning ∧
      sameRegsBut [fldAddr F.ulkLane_state die 0 lane] s t) ∧
  (∀ (s : State) (die : Nat) (lane : Nat),
    s.islandFrozen die 1 = false →
    (isCamLane die lane = true ∧ s.fon F.ulkLane_enable die 0 lane = true ∧ s.laneState die lane = ulAligning) →
    ∃ t, exec (.ulkAligned die lane) s = .next t ∧
      t = { s with regs := t.regs } ∧
      t.laneState die lane = ulUp ∧
      (t.fget F.ippSstat_state die 0 lane = (if s.fget F.ippSstat_state die 0 lane = 0 then 0 else 1)) ∧
      sameRegsBut [fldAddr F.ulkLane_state die 0 lane, fldAddr F.ippSstat_state die 0 lane] s t) ∧
  (∀ (s : State) (die : Nat) (lane : Nat),
    (isCamLane die lane = true ∧ s.laneState die lane = ulUp ∧ (s.ulkLane die lane).isOpen = false) →
    ∃ t, exec (.ulkLockLost die lane) s = .next t ∧
      t = { s with regs := t.regs, err := t.err } ∧
      t.laneState die lane = ulLocking ∧
      t.fget F.ulkLaneCounts_lock_losses die 0 lane = satAdd (s.fget F.ulkLaneCounts_lock_losses die 0 lane) 1 16 ∧
      newCodes s t = [E.ulkLockLost.code]) ∧
  (∀ (s : State) (die : Nat) (lane : Nat) (body : List Byte),
    (s.laneTakes die lane = true ∧ (s.ulkLane die lane).isOpen = false ∧ packetGood body = true) →
    ∃ t, exec (.ulkSop die lane body) s = .next t ∧
      t = { s with net := t.net } ∧
      t.ulkLane die lane = { crcTime := (s.ulkLane die lane).crcTime, isOpen := true, capture := s.deviceTime, width := leAt body 8 2, height := leAt body 10 2, format := leAt body 12 1 }) ∧
  (∀ (s : State) (die : Nat) (lane : Nat) (body : List Byte),
    (s.laneTakes die lane = true ∧ (s.ulkLane die lane).isOpen = false ∧ packetGood body = false) →
    (s.ulkLane die lane).crcTime = none →
    ∃ t, exec (.ulkSop die lane body) s = .next t ∧
      t = { s with regs := t.regs, net := t.net, err := t.err } ∧
      t.ulkLane die lane = { s.ulkLane die lane with crcTime := some s.periods } ∧
      t.fget F.ulkLaneCounts_crc die 0 lane = satAdd (s.fget F.ulkLaneCounts_crc die 0 lane) 1 16 ∧
      newCodes s t = [E.ulkCrc.code]) ∧
  (∀ (s : State) (die : Nat) (lane : Nat) (body : List Byte) (x : UlkLane) (n : Nat),
    (s.laneTakes die lane = true ∧ x = s.ulkLane die lane ∧ x.isOpen = true ∧ packetGood body = true) →
    (n = leAt body 4 2 ∧ n = x.nextLine ∧ n + 1 < x.height ∧ leAt body 1 1 = 16) →
    ∃ t, exec (.ulkLine die lane body) s = .next t ∧
      t = { s with net := t.net } ∧
      t.ulkLane die lane = { x with lines := storePut x.lines n ((body.drop 8).take (leAt body 6 2)), nextLine := n + 1 }) ∧
  (∀ (s : State) (die : Nat) (lane : Nat) (body : List Byte) (x : UlkLane) (n : Nat),
    (s.laneTakes die lane = true ∧ x = s.ulkLane die lane ∧ x.isOpen = true ∧ packetGood body = true ∧ x.crcTime = none) →
    (n = leAt body 4 2 ∧ x.nextLine < n ∧ n + 1 < x.height ∧ leAt body 1 1 = 16) →
    ∃ t, exec (.ulkLine die lane body) s = .next t ∧
      t = { s with regs := t.regs, net := t.net, err := t.err } ∧
      ((t.ulkLane die lane).lost = x.lost ++ (List.range (n - x.nextLine)).map (fun i => i + x.nextLine) ∧ (t.ulkLane die lane).nextLine = n + 1) ∧
      t.fget F.ulkLaneCounts_lost_lines die 0 lane = satAdd (s.fget F.ulkLaneCounts_lost_lines die 0 lane) (n - x.nextLine) 16 ∧
      newCodes s t = [E.ulkCrc.code]) ∧
  (∀ (s : State) (die : Nat) (lane : Nat) (body : List Byte) (x : UlkLane),
    (s.laneTakes die lane = true ∧ x = s.ulkLane die lane ∧ x.isOpen = true ∧ packetGood body = true) →
    x.nextLine = x.height →
    ∃ t, exec (.ulkEop die lane body) s = .next t ∧
      t.ulkLane die lane = { crcTime := x.crcTime } ∧
      t.fget F.ulkLaneCounts_pictures die 0 lane = (s.fget F.ulkLaneCounts_pictures die 0 lane + 1) % 2 ^ 16 ∧
      (t.mem = s.mem ∧ t.err = s.err))

/-- Completion of the commands of the graphics contexts and the display pipes. The fragments of a pixel retire in
submission order, whatever the order in which they are shaded. A context is pre-empted by the steward or for a
higher priority, aborted and resumed; a tile that shades for 500 µs faults its context, and full lists are flushed,
each counted with a record; a composition starts the compositor's context; the present ends its pass. A latch takes
the flips that qualify and the layer settings, and a layer with per_frame that did not flip makes the frame stale; a
line carries the blended rows in LINE packets, the first one after the SOP with the metadata of the frame that was
latched, the last one before the EOP, and goes out black where it is not ready; a STATUS packet follows a valid bit
that clears or an entry into the safe state; a flip is staged. The pixels of a blended line are left open. A
resumption that starts an IDLE context is the model's log entry 140. For each of gfxPreempt, gfxAbort, gfxResume,
gfxTileTimeout, gfxFlush, compositionStart, displayLatch, displayLine, displayStatusPacket, displayFlip, it
concludes that exec answers a next state. -/
def Obligations.GraphicsAndDisplayComplete : Prop :=
  (∀ (p : RenderPass) (x : TilePixel) (frags : List (Nat × Fragment)) (events : List ShadeEvent),
    p.settlePixel x frags events = (frags.map Prod.snd).foldl p.retire x) ∧
  (∀ (s : State) (who : Initiator) (c : Nat) (tiles : List Nat) (events : List ShadeEvent) (u : State),
    (gfxRight who = true ∧ s.gfxState c = gcRunning ∧ (who = .hardware → s.gfxYields c = true)) →
    u = tiles.foldl (State.shadeTile · c events) (s.setGfxState c gcPreempted) →
    ∃ t, exec (.gfxPreempt who c tiles events) s = .next t ∧
      t = { u with regs := t.regs, resp := {} } ∧
      t.gfxState c = gcPreempted ∧
      t.fget F.gfxCounts_preemptions 5 0 0 = satAdd (s.fget F.gfxCounts_preemptions 5 0 0) 1 16 ∧
      sameRegsBut [fldAddr F.gfxCounts_preemptions 5 0 0] u t ∧
      (tiles = [] → t.display = s.display ∧ t.mem = s.mem)) ∧
  (∀ (s : State) (who : Initiator) (c : Nat),
    gfxRight who = true →
    ∃ t, exec (.gfxAbort who c) s = .next t ∧
      t = { s with regs := t.regs, display := { s.display with contexts := t.display.contexts }, resp := {} } ∧
      (t.gfxState c = gcIdle ∧ t.gfxCtx c = {}) ∧
      sameRegsBut [fldAddr F.gfxCtx_state 5 0 c] s t) ∧
  (∀ (s : State) (who : Initiator) (c : Nat) (draw : Option Draw),
    (gfxRight who = true ∧ (s.gfxState c = gcPreempted ∨ s.gfxState c = gcIdle)) →
    ∃ t, exec (.gfxResume who c draw) s = .next t ∧
      t = { s with regs := t.regs, display := { s.display with contexts := t.display.contexts }, resp := {} } ∧
      (t.gfxState c = gcRunning ∧ (t.gfxCtx c).since = s.periods) ∧
      (∀ d, draw = some d ∧ (s.gfxCtx c).due = [] → t.gfxCtx c = { pass := some d.pass, bins := d.prims, chunks := min d.chunks (s.poolAllowance c), since := s.periods }) ∧
      (draw = none ∨ (s.gfxCtx c).due ≠ [] → t.gfxCtx c = { s.gfxCtx c with since := s.periods }) ∧
      sameRegsBut [fldAddr F.gfxCtx_state 5 0 c] s t) ∧
  (∀ (s : State) (who : Initiator) (c : Nat) (draw : Option Draw),
    gfxRight who = false →
    ∃ t, exec (.gfxResume who c draw) s = .next t ∧
      t = { s with err := t.err, resp := {} } ∧
      newCodes s t = [E.regWriteDropped.code]) ∧
  (∀ (s : State) (c : Nat),
    s.logicFrozen 5 = false →
    (c < 16 ∧ s.gfxState c = gcRunning ∧ (s.gfxCtx c).since + 19200 ≤ s.periods) →
    ∃ t, exec (.gfxTileTimeout c) s = .next t ∧
      t = { s with regs := t.regs, err := t.err } ∧
      t.gfxState c = gcFaulted ∧
      t.fget F.gfxCounts_tile_timeouts 5 0 0 = satAdd (s.fget F.gfxCounts_tile_timeouts 5 0 0) 1 16 ∧
      newCodes s t = [E.gfxTileTimeout.code] ∧
      sameRegsBut [fldAddr F.gfxCtx_state 5 0 c, fldAddr F.gfxCounts_preemptions 5 0 0] s t) ∧
  (∀ (s : State) (c : Nat) (events : List ShadeEvent) (rest : List (List Fragment)) (u : State),
    s.logicFrozen 5 = false →
    (c < 16 ∧ s.gfxState c = gcRunning ∧ (s.gfxCtx c).pass ≠ none ∧ s.poolAllowance c ≤ (s.gfxCtx c).chunks) →
    u = ((s.fadd F.gfxCounts_flushes 5 0 0 1).raiseRec (s.gfxRec E.gfxFlush c)).storePass c events →
    ∃ t, exec (.gfxFlush c events rest) s = .next t ∧
      t = { u with display := { u.display with contexts := t.display.contexts } } ∧
      (t.gfxState c = gcRunning ∧ (t.gfxCtx c).bins = rest ∧ (t.gfxCtx c).chunks = 0 ∧ (t.gfxCtx c).pass = (s.gfxCtx c).pass) ∧
      (∀ k ∈ (s.gfxCtx c).due, (t.gfxCtx c).stored.contains k = true) ∧
      t.fget F.gfxCounts_flushes 5 0 0 = satAdd (s.fget F.gfxCounts_flushes 5 0 0) 1 16 ∧
      (newCodes s t).head? = some E.gfxFlush.code) ∧
  (∀ (s : State) (p : Nat) (n : Nat),
    (s.pipeOn p = true ∧ s.frameAhead p (s.dsp F.dspTiming3_comp_lead p) = some n ∧ (s.pipe p).composed ≤ n) →
    (s.gfxCtx 0).pass = none →
    ∃ t, exec (.compositionStart p none []) s = .next t ∧
      t = { s with regs := t.regs, display := t.display } ∧
      (t.gfxState 0 = gcRunning ∧ (t.gfxCtx 0).since = s.periods ∧ t.pipe p = { s.pipe p with composed := n + 1 }) ∧
      sameRegsBut [fldAddr F.gfxCtx_state 5 0 0] s t) ∧
  (∀ (s : State) (p : Nat) (n : Nat) (d : Draw),
    (s.pipeOn p = true ∧ s.frameAhead p (s.dsp F.dspTiming3_comp_lead p) = some n ∧ (s.pipe p).composed ≤ n) →
    ∃ t, exec (.compositionStart p (some d) []) s = .next t ∧
      (t.gfxState 0 = gcRunning ∧ t.gfxCtx 0 = { pass := some d.pass, bins := d.prims, since := s.periods })) ∧
  (∀ (s : State) (p : Nat) (x : DspPipe) (ls : List (Nat × Nat)) (n : Nat),
    (s.pipeOn p = true ∧ x = s.pipe p ∧ x.flips = [] ∧ s.frameAhead p (s.dsp F.dspTiming2_latch_lead p) = some n ∧ x.next ≤ n) →
    (ls = (List.range 7).map (fun l => (s.reg (fldAddr F.dspLayer_enable 5 p l), s.reg (fldAddr F.dspLayerBase_base 5 p l)))) →
    (ls.all (fun c => F.dspLayer_enable.of c.1 == 0 || F.dspLayer_per_frame.of c.1 == 0) = true) →
    ∃ t, exec (.displayLatch p) s = .next t ∧
      t = { s with display := t.display } ∧
      t.pipe p = { x with next := n + 1, latched := (t.pipe p).latched } ∧
      ((t.pipe p).latched.map (fun f => { f with versions := [] }) = some { number := n, flags := 8 * s.fget F.safStatus_safe_state 4 0 0, valid := s.layerValid p ls, layers := ls, latchTime := s.deviceTime, safetyFrame := s.fget F.schFrame_frame 4 0 0 })) ∧
  (∀ (s : State) (p : Nat) (layer : Nat) (base : Nat) (vs : List Nat) (n : Nat),
    (s.pipeOn p = true ∧ layer < 7 ∧ (s.pipe p).flips = [(layer, base, false, vs)]) →
    (s.frameAhead p (s.dsp F.dspTiming2_latch_lead p) = some n ∧ (s.pipe p).next ≤ n) →
    ((List.range 7).all (fun l => l == layer || s.fget F.dspLayer_enable 5 p l == 0) = true) →
    ∃ t, exec (.displayLatch p) s = .next t ∧
      t.fget F.dspLayerBase_base 5 p layer = base % 2 ^ 48 ∧
      ((t.pipe p).flips = [] ∧ t.fon F.dspFlip_pending 5 p layer = false) ∧
      ((t.pipe p).latched.map (fun f => f.number) = some n ∧ (t.pipe p).scan = (s.pipe p).scan ∧ t.err = s.err) ∧
      sameRegsBut [fldAddr F.dspLayerBase_base 5 p layer, fldAddr F.dspFlip_go 5 p layer] s t) ∧
  (∀ (s : State) (p : Nat) (layer : Nat) (n : Nat),
    (s.pipeOn p = true ∧ layer < 7 ∧ (s.pipe p).flips = []) →
    (s.frameAhead p (s.dsp F.dspTiming2_latch_lead p) = some n ∧ (s.pipe p).next ≤ n) →
    (s.fon F.dspLayer_enable 5 p layer = true ∧ s.fon F.dspLayer_per_frame 5 p layer = true) →
    ∃ t, exec (.displayLatch p) s = .next t ∧
      t = { s with regs := t.regs, err := t.err, display := t.display } ∧
      t.fget F.dspCounts_stale 5 p 0 = satAdd (s.fget F.dspCounts_stale 5 p 0) 1 16 ∧
      ((t.pipe p).latched.map (fun f => f.flags) = some (1 + 8 * s.fget F.safStatus_safe_state 4 0 0)) ∧
      newCodes s t = [E.dspStale.code]) ∧
  (∀ (s : State) (p : Nat) (line : Nat) (rows : List (Nat × Nat × Nat)) (v : State),
    (s.pipeOn p = true ∧ 0 < line ∧ line + 1 < s.dsp F.dspTiming_active_h p ∧ s.lineStart p (s.pipe p).scan.number line ≤ s.periods) →
    (rows = s.lineRows p line ∧ v = (s.readRows rows).1 ∧ rows.all (fun r => !v.rowTorn p r) = true) →
    ∃ t, exec (.displayLine p line true) s = .next t ∧
      t = (v.sendLine p line (v.linePixels p line (s.readRows rows).2)).setPipe p { s.pipe p with nextLine := line + 1 } ∧
      (v.pipeSends p = true ∧ 0 < s.lineBytes p ∧ s.lineBytes p ≤ 4096 →
        t.sent = v.sent ++ [.ulham p (ulhamPacket 2 16 (s.pipe p).scan.number line (v.linePixels p line (s.readRows rows).2))] ∧
        (v.linePixels p line (s.readRows rows).2).length = s.lineBytes p)) ∧
  (∀ (s : State) (p : Nat) (x : DspPipe) (u : State) (v : State) (rows : List (Nat × Nat × Nat)),
    (s.pipeOn p = true ∧ 1 < s.dsp F.dspTiming_active_h p ∧ x = s.pipe p) →
    s.lineStart p (x.latched.getD x.scan).number 0 ≤ s.periods →
    (u = s.setPipe p { x with scan := x.latched.getD x.scan, latched := none } ∧ rows = u.lineRows p 0) →
    (v = (u.readRows rows).1 ∧ rows.all (fun r => !v.rowTorn p r) = true) →
    ∃ t, exec (.displayLine p 0 true) s = .next t ∧
      t = ((v.sendSop p).sendLine p 0 (v.linePixels p 0 (u.readRows rows).2)).setPipe p { u.pipe p with nextLine := 1 } ∧
      ((t.pipe p).scan = x.latched.getD x.scan ∧ (t.pipe p).latched = none) ∧
      (u.metadata p).take 6 = leBytes (x.latched.getD x.scan).number 4 ++ leBytes (x.latched.getD x.scan).flags 1 ++ leBytes (x.latched.getD x.scan).valid 1) ∧
  (∀ (s : State) (p : Nat) (line : Nat) (n : Nat),
    (s.pipeOn p = true ∧ 0 < line ∧ line + 1 = s.dsp F.dspTiming_active_h p ∧ s.lineStart p (s.pipe p).scan.number line ≤ s.periods) →
    (s.pipeSends p = true ∧ n = s.lineBytes p ∧ 0 < n ∧ n ≤ 4096) →
    ∃ t, exec (.displayLine p line false) s = .next t ∧
      t = { s with regs := t.regs, err := t.err, display := t.display, sent := s.sent ++ [.ulham p (ulhamPacket 2 16 (s.pipe p).scan.number line (List.replicate n 0)), .ulham p (ulhamPacket 3 0 (s.pipe p).scan.number line [])] } ∧
      ((t.pipe p).scan.flags = setBit (s.pipe p).scan.flags 2 true ∧ (t.pipe p).nextLine = 0) ∧
      t.fget F.dspCounts_underflow 5 p 0 = satAdd (s.fget F.dspCounts_underflow 5 p 0) 1 16 ∧
      (t.fget F.dspStatus_frame 5 p 0 = (s.pipe p).scan.number % 2 ^ 32 ∧ t.fget F.dspStatus_layer_valid 5 p 0 = (s.pipe p).scan.valid % 2 ^ 8) ∧
      newCodes s t = [E.dspUnderflow.code]) ∧
  (∀ (s : State) (p : Nat) (x : DspPipe) (f : DspFrame),
    (s.pipeOn p = true ∧ x = s.pipe p) →
    (f = { x.scan with valid := Nat.land x.scan.valid (s.layerValid p x.scan.layers), flags := if s.fon F.safStatus_safe_state 4 0 0 = true then setBit x.scan.flags 3 true else x.scan.flags }) →
    (f ≠ x.scan ∧ s.pipeSends p = true) →
    ∃ t, exec (.displayStatusPacket p) s = .next t ∧
      t = { s with regs := t.regs, display := t.display, sent := s.sent ++ [.ulham p (ulhamPacket 4 0 f.number x.nextLine (leBytes f.number 4 ++ leBytes f.flags 1 ++ leBytes f.valid 1 ++ leBytes 0 2))] } ∧
      t.pipe p = { x with scan := f, latched := x.latched.map (s.frameNow p) } ∧
      t.fget F.dspStatus_layer_valid 5 p 0 = f.valid % 2 ^ 8 ∧
      sameRegsBut [fldAddr F.dspStatus_frame 5 p 0] s t) ∧
  (∀ (s : State) (who : Initiator) (p : Nat) (value : Word) (layer : Nat),
    ((gfxRight who = true ∨ who = .graphics 0 ∧ (s.gfxCtx 0).pass = none) ∧ layer = s.dsp F.dspLayerSel_layer p) →
    ∃ t, exec (.displayFlip who p value) s = .next t ∧
      t = { s with regs := t.regs, display := t.display, resp := {} } ∧
      ((storeFind (t.pipe p).flips layer).map (fun y => (y.1, y.2.1)) = some (F.dspFlip_next_base.of value.toNat, F.dspFlip_on_confirm.of value.toNat == 1)) ∧
      (t.fon F.dspFlip_pending 5 p layer = true ∧ t.fget F.dspFlip_next_base 5 p layer = F.dspFlip_next_base.of value.toNat) ∧
      sameRegsBut [fldAddr F.dspFlip_go 5 p layer] s t) ∧
  (∀ (s : State) (p : Nat) (value : Word) (layer : Nat),
    ((s.gfxCtx 0).pass ≠ none ∧ layer = s.dsp F.dspLayerSel_layer p) →
    ∃ t, exec (.displayFlip (.graphics 0) p value) s = .next t ∧
      (t.gfxState 0 = gcIdle ∧ (t.gfxCtx 0).pass = none ∧ (t.gfxCtx 0).bins = [] ∧ t.resp = {}) ∧
      ((storeFind (t.pipe p).flips layer).map (fun y => y.1) = some (F.dspFlip_next_base.of value.toNat)))

/-- Completion of the telltale and session commands. A state written by a sentinel is stored with its moment, and one
without a reference CRC leaves its record; 200 µs later the region renders the state, and the end of the rendering
shows it applied; a check that agrees in plane and scan clears the region's bad bit, one that does not sets it,
counts it, records it and makes the outputs of the region's group doubtful; a session opens RUNNING, or SUSPENDED
where the codec is off, and closes. For each of telltaleStateWrite, telltaleApply, telltaleRenderDone,
telltaleCheck, mediaSessionOpen, mediaSessionClose, it concludes that exec answers a next state. -/
def Obligations.TelltalesAndSessionsComplete : Prop :=
  (∀ (s : State) (who : Initiator) (n : Nat) (v : Nat) (r : TtRegion),
    (s.display.regions[n]? = some r ∧ v < r.crcs.length) →
    ((match who with | .sentinel _ => true | .hardware => true | w => w.isSteward && r.qmWritable) = true) →
    ∃ t, exec (.telltaleStateWrite who n v) s = .next t ∧
      t = { s with regs := t.regs, display := { s.display with regions := s.display.regions.set n { r with written := some s.periods } }, resp := {} } ∧
      (t.fget F.gfxTtStateN_state 5 n 0 = v % 16 ∧ t.fon F.gfxTtStateN_applied 5 n 0 = false) ∧
      sameRegsBut [fldAddr F.gfxTtStateN_state 5 n 0] s t) ∧
  (∀ (s : State) (who : Initiator) (n : Nat) (v : Nat) (r : TtRegion),
    (s.display.regions[n]? = some r ∧ r.crcs.length ≤ v) →
    ((match who with | .sentinel _ => true | .hardware => true | w => w.isSteward && r.qmWritable) = true) →
    ∃ t, exec (.telltaleStateWrite who n v) s = .next t ∧
      t = { s with err := t.err, resp := {} } ∧
      newCodes s t = [E.ttBadState.code]) ∧
  (∀ (s : State) (n : Nat) (r : TtRegion) (at_ : Nat),
    s.logicFrozen 5 = false →
    (s.display.regions[n]? = some r ∧ r.written = some at_ ∧ at_ + 7680 ≤ s.periods ∧ r.rendering = false ∧ s.scannedRegion r = true) →
    ∃ t, exec (.telltaleApply n) s = .next t ∧
      t = { s with display := { s.display with regions := s.display.regions.set n { r with rendering := true, written := none, target := s.fget F.gfxTtStateN_state 5 n 0 } } }) ∧
  (∀ (s : State) (n : Nat) (r : TtRegion) (wrong : List (Nat × Nat)),
    s.logicFrozen 5 = false →
    (s.display.regions[n]? = some r ∧ r.rendering = true) →
    ∃ t, exec (.telltaleRenderDone n wrong) s = .next t ∧
      t = { s with regs := t.regs, display := { s.display with regions := s.display.regions.set n { r with rendering := false, checked := r.target }, plane := (s.renderRegion r wrong).display.plane } } ∧
      t.fon F.gfxTtStateN_applied 5 n 0 = (r.written.isNone || s.fon F.gfxTtStateN_applied 5 n 0) ∧
      (wrong = [] ∧ r.x + r.w ≤ s.display.ttW ∧ (storeKeys s.display.plane).Pairwise (· < ·) →
        ∀ q ∈ r.pixels, t.planeAt q.1 q.2 = ttPixel (r.draws[r.target]?.getD []) q.1 q.2) ∧
      sameRegsBut [fldAddr F.gfxTtStateN_state 5 n 0] s t) ∧
  (∀ (s : State) (n : Nat) (r : TtRegion) (crc : Nat) (wrong : List (Nat × Nat)),
    (s.display.regions[n]? = some r ∧ n < 64 ∧ r.crcs[r.checked]? = some crc ∧ s.regionCrc r [] = crc ∧ s.regionCrc r wrong = crc) →
    ∃ t, exec (.telltaleCheck n false wrong) s = .next t ∧
      t = { s with regs := t.regs } ∧
      bit (t.fget F.gfxTtBad_bad 5 0 0) n = false ∧
      sameRegsBut [fldAddr F.gfxTtBad_bad 5 0 0, fldAddr F.gfxTtStatus_frames_checked 5 0 0] s t) ∧
  (∀ (s : State) (n : Nat) (r : TtRegion) (crc : Nat) (badWord : Bool) (wrong : List (Nat × Nat)),
    (s.display.regions[n]? = some r ∧ n < 64 ∧ r.crcs[r.checked]? = some crc) →
    (badWord = true ∨ s.regionCrc r [] ≠ crc ∨ s.regionCrc r wrong ≠ crc) →
    (s.outputs = 1 ∧ s.outKind 0 = 2 ∧ s.outIndex 0 = r.group ∧ s.live 0 = outValid ∧ s.hasFallback 0 = false) →
    ∃ t, exec (.telltaleCheck n badWord wrong) s = .next t ∧
      bit (t.fget F.gfxTtBad_bad 5 0 0) n = true ∧
      t.fget F.gfxTtStatus_mismatches 5 0 0 = satAdd (s.fget F.gfxTtStatus_mismatches 5 0 0) 1 16 ∧
      (r.rendering = false → t.display.regions = s.display.regions.set n { r with rendering := true, target := r.checked }) ∧
      t.live 0 = outInvalid ∧
      (newCodes s t).head? = some E.ttCrcMismatch.code) ∧
  (∀ (s : State) (who : Initiator) (n : Nat) (value : Word),
    (gfxRight who = true ∧ n < 8 ∧ s.medState n = msClosed) →
    (s.fon F.medStatus_parked 5 0 0 = false ∧ s.fon F.medStatus_held 5 0 0 = false) →
    ∃ t, exec (.mediaSessionOpen who n value) s = .next t ∧
      t = { s with regs := t.regs, resp := {} } ∧
      (t.medState n = msRunning ∧ t.fget F.medSession_vi 5 0 n = F.medSession_vi.of value.toNat) ∧
      sameRegsBut [fldAddr F.medSession_state 5 0 n, fldAddr F.medStatus_sessions_open 5 0 0] s t) ∧
  (∀ (s : State) (who : Initiator) (n : Nat) (value : Word),
    (gfxRight who = true ∧ n < 8 ∧ s.medState n = msClosed) →
    (s.fon F.medStatus_parked 5 0 0 = true ∨ s.fon F.medStatus_held 5 0 0 = true) →
    ∃ t, exec (.mediaSessionOpen who n value) s = .next t ∧
      t = { s with regs := t.regs, resp := {} } ∧
      t.medState n = msSuspended) ∧
  (∀ (s : State) (who : Initiator) (n : Nat),
    (gfxRight who = true ∧ n < 8) →
    ∃ t, exec (.mediaSessionClose who n) s = .next t ∧
      t = { s with regs := t.regs, resp := {} } ∧
      t.medState n = msClosed ∧
      sameRegsBut [fldAddr F.medSession_state 5 0 n, fldAddr F.medStatus_sessions_open 5 0 0] s t)

/-- Completion and frame of the register commands. A write that its initiator may make and that nothing blocks changes
the register field by field and no other register, with a record where it carried a reserved code; one without the
right, or of a width that register space does not support, changes nothing and leaves its record; a write of a bit
that a command of its own stands for is that command; a write of a doorbell is the doorbell's command. A read
answers the fields and clears those of type RC that it read. A selector write points the registers behind it at
another unit. Offsets that no register table lists, and engines, are answered with an error. For each of
registerWrite, rcRead, selLoad, it concludes that exec answers a next state. -/
def Obligations.RegisterAccessesComplete : Prop :=
  (∀ (s : State) (who : Initiator) (addr : Nat) (size : Nat) (value : Word) (x : RegSite),
    s.hears who addr = true →
    (s.reachesReg who addr size x = true ∧ x.desc.kind = .plain ∧ followedUp x = false) →
    (s.mayWrite who x = true ∧ s.openFields who x = x.desc.fields) →
    s.writeBlocked x (s.reg x.addr) (s.written x addr size value).1 = none →
    ∃ t, exec (.registerWrite who addr size value) s = .next t ∧
      t = { s with regs := t.regs, err := t.err, resp := {} } ∧
      t.reg x.addr = (s.written x addr size value).1 % 2 ^ 64 ∧
      (newCodes s t = if (s.written x addr size value).2 = true then [E.regReservedCode.code] else []) ∧
      sameRegsBut [x.addr] s t) ∧
  (∀ (s : State) (who : Initiator) (addr : Nat) (size : Nat) (value : Word) (x : RegSite),
    s.hears who addr = true →
    (s.reachesReg who addr size x = true ∧ x.desc.kind = .plain) →
    s.mayWrite who x = false →
    ∃ t, exec (.registerWrite who addr size value) s = .next t ∧
      t = { s with err := t.err, resp := {} } ∧
      newCodes s t = [E.regWriteDropped.code]) ∧
  (∀ (s : State) (who : Initiator) (addr : Nat) (size : Nat) (value : Word),
    s.hears who addr = true →
    (who.reachesRegisters = true ∧ secBlocked who addr = false ∧ widthOk addr size = false) →
    ∃ t, exec (.registerWrite who addr size value) s = .next t ∧
      t = { s with err := t.err, resp := {} } ∧
      newCodes s t = [E.regNarrow.code]) ∧
  (∀ (s : State) (who : Initiator) (addr : Nat) (size : Nat) (value : Word),
    s.hears who addr = true →
    (who.reachesRegisters = true ∧ secBlocked who addr = false ∧ widthOk addr size = true) →
    (doorbellAt addr = none ∧ inIommu addr = false ∧ ringWindowAt addr = none ∧ onlyOnS addr = false) →
    (s.site addr = none ∧ s.publicAt addr = none) →
    ∃ t, exec (.registerWrite who addr size value) s = .next t ∧
      t = { s with err := t.err, resp := { error := true } } ∧
      newCodes s t = [E.addressRefused.code]) ∧
  (∀ (s : State) (who : Initiator) (q : Nat) (value : Word),
    s.hears who (doorbellAddr q) = true →
    (who.reachesRegisters = true ∧ q < 65536 ∧ s.headQueue q = false) →
    ∃ t, exec (.registerWrite who (doorbellAddr q) 8 value) s = .next t ∧
      (∀ u, exec (.doorbellTail who q (bits value.toNat 0 16)) s = .next u → t = u) ∧
      proceeds (exec (.doorbellTail who q (bits value.toNat 0 16)) s)) ∧
  (∀ (s : State) (who : Initiator) (te : Nat) (x : RegSite),
    s.hears who (fldPlace F.teCtrl_start (te / 16) (te % 16)) = true →
    (s.reachesReg who (fldPlace F.teCtrl_start (te / 16) (te % 16)) 8 x = true ∧ x.desc.off = 0x100008) →
    (te < 64 ∧ x.die = te / 16 ∧ x.i = te % 16 ∧ x.desc.kind = .own) →
    ∃ t, exec (.registerWrite who (fldPlace F.teCtrl_start (te / 16) (te % 16)) 8 1#64) s = .next t ∧
      (∀ u, exec (.teStart who te) s = .next u → t = u) ∧
      proceeds (exec (.teStart who te) s)) ∧
  (∀ (s : State) (who : Initiator) (addr : Nat) (size : Nat) (x : RegSite),
    s.hears who addr = true →
    (s.reachesReg who addr size x = true ∧ x.desc.kind = .plain ∧ s.liveRead who x addr size = none ∧ x.desc.off ≠ 0x8) →
    ∃ t, exec (.rcRead who addr size) s = .next t ∧
      t = { s with regs := t.regs, resp := { value := accessPart addr size (readFields x.desc.fields (s.reg x.addr)) } } ∧
      t.reg x.addr = clearFields x.desc.fields (s.reg x.addr) (accessMask addr size) % 2 ^ 64 ∧
      sameRegsBut [x.addr] s t) ∧
  (∀ (s : State) (who : Initiator) (addr : Nat) (size : Nat),
    s.hears who addr = true →
    (who.reachesRegisters = false ∧ s.publicAt addr = none ∧ (match who with | .engine _ => false | _ => true) = true) →
    ∃ t, exec (.rcRead who addr size) s = .next t ∧
      t = { s with err := t.err, resp := { error := true } } ∧
      newCodes s t = [E.addressRefused.code]) ∧
  (∀ (s : State) (who : Initiator) (addr : Nat) (size : Nat) (value : Word) (x : RegSite),
    s.hears who addr = true →
    (s.reachesReg who addr size x = true ∧ x.desc.kind = .selector ∧ x.desc.off ≠ 0x200100) →
    (s.mayWrite who x = true ∧ s.openFields who x = x.desc.fields) →
    s.writeBlocked x (s.reg x.addr) (s.written x addr size value).1 = none →
    ∃ t, exec (.selLoad who addr size value) s = .next t ∧
      t = { s with regs := t.regs, err := t.err, resp := {} } ∧
      t.reg x.addr = (s.written x addr size value).1 % 2 ^ 64 ∧
      sameRegsBut [x.addr] s t) ∧
  (∀ (s : State) (who : Initiator) (vi : Nat) (value : Word),
    s.hears who (fldPlace F.viSel_vi 4 0) = true →
    (s.viWriter who = true ∧ vi = bits value.toNat 0 6 ∧ s.vis.stale.contains vi = true) →
    ∃ t, exec (.selLoad who (fldPlace F.viSel_vi 4 0) 8 value) s = .next t ∧
      (t.fget F.viSel_vi 4 0 0 = vi ∧ t.vis.stale.contains vi = false) ∧
      sameConfig s t (64 + vi) vi)

/-- Completion of memory requests by initiators without an instance of their own. A read that is let through answers the
bytes and changes no byte; a write stores its bytes and no other byte; a refused read is answered with an error and
its record; a request for register space is the register access. A posted write that fails is counted and recorded,
and a read of HP_FENCE tells the stream of its failures since the last fence and clears them. For each of
memoryAccess, postedWriteFail, hpFenceRead, it concludes that exec answers a next state. -/
def Obligations.MemoryRequestsComplete : Prop :=
  (∀ (s : State) (who : Initiator) (a : Nat) (n : Nat),
    s.hears who a = true →
    (s.memoryOpen who false a n = true ∧ s.viOf who = none ∧ s.jobOf who = none) →
    ∃ t, exec (.memoryAccess who (.read a n) []) s = .next t ∧
      (t.resp.bytes = s.bytesAt a n ∧ t.resp.value = leNat (s.bytesAt a n) ∧ t.resp.error = false) ∧
      t = { s with regs := t.regs, resp := t.resp }) ∧
  (∀ (s : State) (who : Initiator) (a : Nat) (bs : List Byte),
    s.hears who a = true →
    s.canonical →
    (s.memoryOpen who true a bs.length = true ∧ s.viOf who = none ∧ s.jobOf who = none) →
    ∃ t, exec (.memoryAccess who (.write a bs) []) s = .next t ∧
      (t.bytesAt a bs.length = bs ∧ t.resp = {}) ∧
      (∀ x, x < a ∨ a + bs.length ≤ x → t.byteAt x = s.byteAt x) ∧
      t.err = s.err) ∧
  (∀ (s : State) (who : Initiator) (a : Nat) (n : Nat) (c : ErrCode),
    s.hears who a = true →
    (n ≠ 0 ∧ s.claimed a n none = false ∧ s.pathUp who.die (s.dieOf a) = true ∧ placeOf a ≠ .registers) →
    (s.checkAccess who false a n = .refuse c ∧ s.publicAt a = none ∧ (match who with | .engine _ => false | _ => true) = true) →
    ∃ t, exec (.memoryAccess who (.read a n) []) s = .next t ∧
      t = { s with err := t.err, resp := { error := true } } ∧
      newCodes s t = [c.code]) ∧
  (∀ (s : State) (who : Initiator) (a : Nat) (n : Nat),
    (placeOf a = .registers ∧ n ≠ 0 ∧ s.claimed a n none = false ∧ s.pathUp who.die (s.dieOf a) = true) →
    ∃ t, exec (.memoryAccess who (.read a n) []) s = .next t ∧
      (∀ u, exec (.rcRead who a n) s = .next u → t = u) ∧
      proceeds (exec (.rcRead who a n) s)) ∧
  (∀ (s : State) (who : Initiator) (a : Nat) (n : Nat),
    s.hears who a = true →
    (n ≠ 0 ∧ s.claimed a n none = true) →
    ∃ t, exec (.memoryAccess who (.read a n) []) s = .next t ∧
      t = { s with bridge := { s.bridge with held := s.bridge.held ++ [.access who (.read a n)] } }) ∧
  (∀ (s : State) (who : Initiator) (a : Nat) (code : Nat),
    (s.posts who a = true ∧ s.viOf who = none) →
    ∃ t, exec (.postedWriteFail who a code) s = .next t ∧
      t = { s with regs := t.regs, err := t.err, bridge := t.bridge } ∧
      t.stream who = { next := (s.stream who).next + 1, failed := (s.stream who).failed + 1, first := some ((s.stream who).first.getD ((s.stream who).next % 2 ^ 32)) } ∧
      t.fget F.hpEvents_posted_failures 7 0 0 = satAdd (s.fget F.hpEvents_posted_failures 7 0 0) 1 16 ∧
      newCodes s t = [code]) ∧
  (∀ (s : State) (who : Initiator),
    who.reachesRegisters = true →
    ∃ t, exec (.hpFenceRead who) s = .next t ∧
      t = { s with bridge := t.bridge, resp := { value := (s.stream who).fence } } ∧
      t.stream who = { s.stream who with failed := 0, first := none })

/-- Completion of the bridge's commands. An inbound read or write is the access of the address it names, one that names
none is refused with its record and counted, and INTx messages are counted; an AtomicOp answers the old bytes and
stores the new ones; a core's AMO on outbound space reads and writes, or answers failure for a store-conditional; a
locked read takes a claim, which Unlock and the 8 µs limit end with what waited going on; a refused claim waits or
backs off, and fails after the sixteenth time; links go up and down. For each of hostInboundRequest, inboundAtomic,
outboundAmo, claimBackoffRetry, inboundLockedRead, unlock, brLockTimeout, hostLinkUp, hpLinkDown, it concludes that
exec answers a next state. -/
def Obligations.HostPortRequestsComplete : Prop :=
  (∀ (s : State) (req : HostRequest),
    (s.hostListens req.link = true ∧ req.op = 1) →
    ∃ t, exec (.hostInboundRequest req) s = .next t ∧
      t = { s with regs := t.regs } ∧
      t.fget F.hpEvents_intx_dropped 7 0 0 = satAdd (s.fget F.hpEvents_intx_dropped 7 0 0) 1 16 ∧
      sameRegsBut [fldAddr F.hpEvents_posted_failures 7 0 0] s t) ∧
  (∀ (s : State) (req : HostRequest) (who : Initiator) (a : Nat),
    (s.hostNames req who a = true ∧ req.op = 0 ∧ req.write = false ∧ req.len ≠ 0) →
    (s.claimed a req.len (some req.link) = false ∧ s.pathUp 7 (s.dieOf a) = true) →
    ∃ t, exec (.hostInboundRequest req) s = .next t ∧
      ((s.readAt who a req.len).resp.error = false → t = s.readAt who a req.len) ∧
      ((s.readAt who a req.len).resp.error = true → t = (s.readAt who a req.len).inboundRefused false)) ∧
  (∀ (s : State) (req : HostRequest) (who : Initiator) (a : Nat),
    s.canonical →
    (s.hostNames req who a = true ∧ req.op = 0 ∧ req.write = true ∧ (who = .hostFn 0 ∨ who = .recovery)) →
    (placeOf a = .registers ∧ req.data.length = 8) →
    (s.claimed a 8 (some req.link) = false ∧ s.pathUp 7 (s.dieOf a) = true) →
    ∃ t, exec (.hostInboundRequest req) s = .next t ∧
      (∀ u, exec (.registerWrite who a 8 (BitVec.ofNat 64 (leNat req.data))) s = .next u → u.resp.error = false → u.bridge = s.bridge → t = u) ∧
      proceeds (exec (.registerWrite who a 8 (BitVec.ofNat 64 (leNat req.data))) s)) ∧
  (∀ (s : State) (req : HostRequest) (who : Initiator),
    (s.hostListens req.link = true ∧ s.hostTarget req = .fault who ∧ req.op = 0 ∧ req.write = false) →
    ∃ t, exec (.hostInboundRequest req) s = .next t ∧
      (s.hostMode ≠ 1 ∨ 6 ≤ s.phase → t = { s with regs := t.regs, err := t.err, resp := { error := true } } ∧ newCodes s t = [E.addressRefused.code]) ∧
      (s.hostMode = 1 ∧ s.phase < 6 → t = { s.queueFault req.rid req.addr false with regs := t.regs, err := t.err, resp := { error := true } } ∧
        newCodes (s.queueFault req.rid req.addr false) t = [E.viIommuFault.code]) ∧
      t.fget F.hpEvents_inbound_refused 7 0 0 = satAdd (s.fget F.hpEvents_inbound_refused 7 0 0) 1 16) ∧
  (∀ (s : State) (req : HostRequest) (who : Initiator) (a : Nat) (n : Nat),
    s.canonical →
    (n = (if req.op = 2 then req.data.length / 2 else req.data.length) ∧ req.op ≤ 2) →
    (s.atomicOpen req who a n = true ∧ s.poisoned a n = false ∧ s.jobOf who = none) →
    ∃ t, exec (.inboundAtomic req false) s = .next t ∧
      (t.resp.bytes = s.bytesAt a n ∧ t.resp.error = false) ∧
      t.numAt a n = atomicNew req.op n (leNat (s.bytesAt a n)) (leNat (req.data.take n)) (leNat (req.data.drop n)) % 2 ^ (8 * n) ∧
      (∀ x, x < a ∨ a + n ≤ x → t.byteAt x = s.byteAt x)) ∧
  (∀ (s : State) (who : Initiator) (h_ : Nat) (g : Nat) (a : Nat) (op : Nat) (n : Nat) (v : Word),
    (who = .core h_ g ∧ placeOf a = .outbound ∧ op < 9 ∧ (n = 4 ∨ n = 8) ∧ a % n = 0) →
    (s.checkAccess who true a n = .pass ∧ s.bridge.locks.length < 64 ∧ s.outUp a = true) →
    (s.fon F.hpCfg_atomic_native 7 0 0 = false ∨ 2 ≤ op ∨ s.bridge.atomics.contains (s.outLink a) = false) →
    ∃ t, exec (.outboundAmo who a op n v false) s = .next t ∧
      t = { s with sent := t.sent, freeCtr := t.freeCtr, resp := t.resp } ∧
      t.resp.bytes.length = n ∧
      t.sent = s.sent ++ [.host 1 (s.busAddr a) (leBytes n 4), .host 0 (s.busAddr a) (leBytes (amoNew op n (leNat t.resp.bytes) (v.toNat % 2 ^ (8 * n))) n)]) ∧
  (∀ (s : State) (who : Initiator) (h_ : Nat) (g : Nat) (a : Nat) (n : Nat) (v : Word),
    (who = .core h_ g ∧ placeOf a = .outbound ∧ (n = 4 ∨ n = 8) ∧ a % n = 0) →
    s.checkAccess who true a n = .pass →
    ∃ t, exec (.outboundAmo who a 10 n v false) s = .next t ∧
      t = { s with resp := { value := 1 } }) ∧
  (∀ (s : State) (who : Initiator) (h_ : Nat) (g : Nat) (a : Nat) (op : Nat) (n : Nat) (v : Word),
    (who = .core h_ g ∧ placeOf a = .outbound ∧ op ≤ 10 ∧ (n = 4 ∨ n = 8) ∧ a % n = 0) →
    (s.hostMode ≠ 1 ∧ s.bridge.lastRecord = none) →
    ∃ t, exec (.outboundAmo who a op n v true) s = .next t ∧
      t.bridge = { s.bridge with nextBackoff := s.bridge.nextBackoff + 1, lastRecord := some s.periods, backoffs := storePut s.bridge.backoffs s.bridge.nextBackoff (.amo who a op n v.toNat, 1, s.periods) } ∧
      t.fget F.hpLock_backoffs 7 0 0 = satAdd (s.fget F.hpLock_backoffs 7 0 0) 1 16 ∧
      newCodes s t = [E.brBackoff.code] ∧
      t = { s with regs := t.regs, err := t.err, bridge := t.bridge }) ∧
  (∀ (s : State) (seq : Nat) (w : HeldWork) (n : Nat) (t0 : Nat),
    (storeFind s.bridge.backoffs seq = some (w, n, t0) ∧ t0 + 20 ≤ s.periods) →
    ∃ t, exec (.claimBackoffRetry seq false) s = .next t ∧
      t = { s with bridge := { s.bridge with backoffs := storeDrop s.bridge.backoffs seq } }.runHeld w) ∧
  (∀ (s : State) (seq : Nat) (w : HeldWork) (t0 : Nat),
    (storeFind s.bridge.backoffs seq = some (w, 15, t0) ∧ t0 + 20 ≤ s.periods) →
    ∃ t, exec (.claimBackoffRetry seq true) s = .next t ∧
      (t.bridge.backoffs = storeDrop s.bridge.backoffs seq ∧ t.resp = { error := true }) ∧
      (newCodes s t).getLast? = some E.brClaimFail.code ∧
      t = { s with regs := t.regs, err := t.err, bridge := t.bridge, resp := t.resp }) ∧
  (∀ (s : State) (seq : Nat) (w : HeldWork) (n : Nat) (t0 : Nat),
    (storeFind s.bridge.backoffs seq = some (w, n, t0) ∧ t0 + 20 ≤ s.periods ∧ n < 15) →
    s.bridge.lastRecord = some s.periods →
    ∃ t, exec (.claimBackoffRetry seq true) s = .next t ∧
      t = { s with regs := t.regs, bridge := { s.bridge with backoffs := storePut s.bridge.backoffs seq (w, n + 1, s.periods) } } ∧
      t.fget F.hpLock_backoffs 7 0 0 = satAdd (s.fget F.hpLock_backoffs 7 0 0) 1 16) ∧
  (∀ (s : State) (req : HostRequest) (who : Initiator) (a : Nat) (u : State),
    (s.hostNames req who a = true ∧ s.bridge.locks.any (fun k => k.link == req.link) = false) →
    (s.claimed a (max req.len 1) none = false ∧ s.bridge.locks.length < 64) →
    (u = s.requestAt { req with write := false, op := 0 } ∧ u.resp.error = false ∧ u.bridge.locks = s.bridge.locks) →
    ∃ t, exec (.inboundLockedRead req) s = .next t ∧
      t = State.showLocks { u with bridge := { u.bridge with locks := u.bridge.locks ++ [{ line := a / 64, link := req.link, start := u.periods }] } } ∧
      (t.resp = u.resp ∧ t.fget F.hpLock_used 7 0 0 = s.bridge.locks.length + 1)) ∧
  (∀ (s : State) (link : Nat),
    (s.bridge.locks.any (fun k => k.link == link) = true) →
    ∃ t, exec (.unlock link) s = .next t ∧
      (t = s.bridge.held.foldl State.runHeld (State.showLocks { s with bridge := { s.bridge with locks := s.bridge.locks.filter (fun k => !(k.link == link)), held := [] } })) ∧
      (s.bridge.held = [] → t.bridge.locks.all (fun k => k.link != link) = true)) ∧
  (∀ (s : State) (line : Nat) (k : LineLock),
    (s.bridge.locks.find? (fun k => k.line == line && k.start + 308 ≤ s.periods) = some k ∧ s.bridge.held = []) →
    ∃ t, exec (.brLockTimeout line) s = .next t ∧
      (t.bridge = { s.bridge with locks := s.bridge.locks.filter (fun x => !(x == k)) } ∧ t.resp = { error := true }) ∧
      t.fget F.hpLock_timeouts 7 0 0 = satAdd (s.fget F.hpLock_timeouts 7 0 0) 1 16 ∧
      newCodes s t = [E.brLockTimeout.code]) ∧
  (∀ (s : State) (link : Nat) (speed : Nat) (width : Nat) (atomics : Bool),
    (link = 0 ∧ s.hostMode = 2 ∧ s.phase < 6 ∧ 0 < speed ∧ speed ≤ s.fget F.hpCfg_max_speed 7 0 0 ∧ speed ≤ 5) →
    (width = 1 ∨ width = 2 ∨ width = 4 ∨ width = 8) →
    ∃ t, exec (.hostLinkUp link speed width atomics) s = .next t ∧
      t = { s with regs := t.regs, bridge := { s.bridge with atomics := t.bridge.atomics } } ∧
      t.bridge.atomics.contains link = atomics ∧
      (t.fon F.hpLinkN_dl_up 7 link 0 = true ∧ t.fget F.hpLinkN_speed 7 link 0 = speed ∧ t.fget F.hpLinkN_width 7 link 0 = width) ∧
      sameRegsBut [fldAddr F.hpLinkN_dl_up 7 link 0] s t) ∧
  (∀ (s : State) (link : Nat),
    (link < 2 ∧ s.fon F.hpLinkN_dl_up 7 link 0 = true) →
    (s.bridge.held.any HeldWork.outbound = false ∧ s.bridge.backoffs = []) →
    ∃ t, exec (.hpLinkDown link []) s = .next t ∧
      t = { s with regs := t.regs, err := t.err } ∧
      t.fon F.hpLinkN_dl_up 7 link 0 = false ∧
      t.fget F.hpLinkN_down_events 7 link 0 = satAdd (s.fget F.hpLinkN_down_events 7 link 0) 1 16 ∧
      newCodes s t = [E.hpLinkDown.code])

/-- Completion of the fabric's commands and of the end of over-budget. A replay at a port of a link that is up is
counted, with its record where it succeeded; after 16 failed ones in a row the link is down at both ends; 100 µs
after its last wait an instance is over budget no longer, and the MSIs that are due go out. For each of fabReplay,
fabLinkDown, overBudgetEnd, it concludes that exec answers a next state. -/
def Obligations.FabricAndBudgetsComplete : Prop :=
  (∀ (s : State) (die : Nat) (port : Nat),
    (die < 8 ∧ port < 4 ∧ s.portUp die port = true) →
    ∃ t, exec (.fabReplay die port true) s = .next t ∧
      t = { s with regs := t.regs, err := t.err, bridge := { s.bridge with replays := storeDrop s.bridge.replays (die * 4 + port) } } ∧
      t.fget F.fabPortN_replays die port 0 = satAdd (s.fget F.fabPortN_replays die port 0) 1 16 ∧
      newCodes s t = [E.fabReplay.code] ∧
      sameRegsBut [fldAddr F.fabPortN_replays die port 0] s t) ∧
  (∀ (s : State) (die : Nat) (port : Nat),
    (die < 8 ∧ port < 4 ∧ s.portUp die port = true) →
    ∃ t, exec (.fabReplay die port false) s = .next t ∧
      t = { s with regs := t.regs, bridge := t.bridge } ∧
      storeGet 0 t.bridge.replays (die * 4 + port) = storeGet 0 s.bridge.replays (die * 4 + port) + 1 ∧
      t.fget F.fabPortN_replays die port 0 = satAdd (s.fget F.fabPortN_replays die port 0) 1 16) ∧
  (∀ (s : State) (die : Nat) (port : Nat),
    (die < 8 ∧ port < 4 ∧ s.portUp die port = true ∧ 16 ≤ storeGet 0 s.bridge.replays (die * 4 + port)) →
    ∃ t, exec (.fabLinkDown die port []) s = .next t ∧
      t = { s with err := t.err, bridge := { s.bridge with linksDown := t.bridge.linksDown } } ∧
      t.portUp die port = false ∧
      (∀ p, fabPortTo (fabPeer die port) die = some p → t.portUp (fabPeer die port) p = false) ∧
      newCodes s t = [E.fabLinkDown.code]) ∧
  (∀ (s : State) (die : Nat) (port : Nat) (who : Initiator) (addr : Nat),
    (die < 8 ∧ port < 4 ∧ s.portUp die port = true ∧ 16 ≤ storeGet 0 s.bridge.replays (die * 4 + port)) →
    (s.goesOver die (fabPeer die port) who addr = true ∧ (match who with | .engine _ => false | _ => true) = true) →
    ∃ t, exec (.fabLinkDown die port [.request who addr]) s = .next t ∧
      t = { s with err := t.err, bridge := { s.bridge with linksDown := t.bridge.linksDown }, resp := { error := true } } ∧
      t.portUp die port = false ∧
      newCodes s t = [E.fabLinkDown.code, E.fabLinkDown.code]) ∧
  (∀ (s : State) (vi : Nat),
    (s.fon F.viState_over_budget 4 0 vi = true ∧ storeGet 0 s.vis.obWaits vi + 3840 ≤ s.periods) →
    ((s.viQueues vi).all (fun q => !(isCompletion q && s.fon F.schQcfg_msi_enable 4 0 q && (s.cq q).unsignalled != 0) || decide ((s.cq q).unsignalled < s.fget F.viCoalesce_count_max 4 0 (64 + vi))) = true) →
    ∃ t, exec (.overBudgetEnd vi) s = .next t ∧
      t = { s with regs := t.regs } ∧
      (t.fon F.viState_over_budget 4 0 vi = false ∧ t.viSt vi = s.viSt vi) ∧
      sameRegsBut [fldAddr F.viState_over_budget 4 0 vi] s t) ∧
  (∀ (s : State) (vi : Nat) (q : Nat) (vec : Nat),
    (s.fon F.viState_over_budget 4 0 vi = true ∧ storeGet 0 s.vis.obWaits vi + 3840 ≤ s.periods ∧ s.qVi q = vi) →
    ((s.viQueues vi).filter (fun q => isCompletion q && s.fon F.schQcfg_msi_enable 4 0 q && (s.cq q).unsignalled != 0) = [q]) →
    s.fget F.viCoalesce_count_max 4 0 (64 + vi) ≤ (s.cq q).unsignalled →
    vec = s.fget F.schQcfg_msi_vector 4 0 q →
    (s.fget F.viCtx_vec_first 4 0 (64 + vi) ≤ vec ∧ vec < s.fget F.viCtx_vec_first 4 0 (64 + vi) + s.fget F.viCtx_vec_count 4 0 (64 + vi)) →
    ∃ t, exec (.overBudgetEnd vi) s = .next t ∧
      (t.fon F.viState_over_budget 4 0 vi = false ∧ (t.cq q).unsignalled = 0) ∧
      (∀ a, s.hostMode ≠ 2 ∧ s.translate (s.viDevice vi) (s.fget F.viMsi_file 4 0 (64 + vi) * 4096) true = some a →
        t.sent = s.sent ++ [.msi a vec]) ∧
      (s.hostMode = 2 ∧ s.fget F.viOwner_vf_enable 4 0 (64 + vi) = 1 → t.sent = s.sent ++ [.host 4 (vi + 1) (leBytes vec 4)]))

/-- R544. A COMMIT with an image running completes with the floor at that image's version, and nothing else but the
command register's answer changes; during a hand-off or a rollback, and when the floor would fall, it is answered
REFUSED and the floor stays. For fwCommit, it concludes that exec answers a next state. -/
def Obligations.CommitRaisesTheFloor : Prop :=
  (∀ (s : State) (who : Initiator) (img : FwImage),
    s.loaderRight who = true →
    (s.fw.running = some img ∧ s.fwSt ≠ fwHanding ∧ s.fwSt ≠ fwRolling ∧ s.flash.fwFloor ≤ img.version) →
    ∃ t, exec (.fwCommit who) s = .next t ∧
      t.flash = { s.flash with fwFloor := img.version } ∧
      (t.fget F.cfgFwInfo_floor 4 0 0 = img.version % 2 ^ 32 ∧ t.fget F.cfgFwCmd_status 4 0 0 = fsNone) ∧
      t = { s with regs := t.regs, flash := t.flash, resp := {} } ∧
      sameRegsBut [fldAddr F.cfgFwCmd_op 4 0 0, fldAddr F.cfgFwInfo_floor 4 0 0] s t) ∧
  (∀ (s : State) (who : Initiator) (img : FwImage),
    s.loaderRight who = true →
    (s.fw.running = some img ∧ (s.fwSt = fwHanding ∨ s.fwSt = fwRolling ∨ img.version < s.flash.fwFloor)) →
    ∃ t, exec (.fwCommit who) s = .next t ∧
      t = { s with regs := t.regs, resp := {} } ∧
      t.fget F.cfgFwCmd_status 4 0 0 = fsRefused ∧
      sameRegsBut [fldAddr F.cfgFwCmd_op 4 0 0] s t)

/-- R347. ADDS, SUBS and ABSS leave the exact sum, difference and magnitude of their signed operands clamped to −2^31 …
2^31 − 1, MULQ the exact product plus 2^15, shifted right arithmetically by 16 and clamped in the same way; each
sets SAT exactly where it clamps, and nothing but SAT and the destination changes in the sequencer. The shifted
value lies nearest to the product's quotient, the upper one of two equally near. For tahrAlu, it concludes that exec
answers a next state. -/
def Obligations.SaturatingArithmeticClamps : Prop :=
  (∀ (s : State) (seq : Nat) (w : Nat) (a : Int) (b : Int) (v : Int),
    (s.tahrRuns seq 1 w = true ∧ bits w 0 4 = 12 ∧ (s.tahrSeq seq).g.length = 16) →
    (a = s32 ((s.tahrSeq seq).reg (wRa w)) ∧ b = s32 ((s.tahrSeq seq).reg (wRb w)) ∧ v = a + b) →
    ∃ t, exec (.tahrAlu seq .clean) s = .next t ∧
      s32 ((t.tahrSeq seq).reg (wRd w)) = max (-2 ^ 31) (min v (2 ^ 31 - 1)) ∧
      (t.tahrSeq seq).sat = ((s.tahrSeq seq).sat || decide (v < -2 ^ 31) || decide (2 ^ 31 - 1 < v)) ∧
      (∀ i, i ≠ wRd w → (t.tahrSeq seq).reg i = (s.tahrSeq seq).reg i) ∧
      t.tahrSeq seq = { s.tahrSeq seq with g := (t.tahrSeq seq).g, sat := (t.tahrSeq seq).sat }) ∧
  (∀ (s : State) (seq : Nat) (w : Nat) (a : Int) (b : Int) (v : Int),
    (s.tahrRuns seq 1 w = true ∧ bits w 0 4 = 13 ∧ (s.tahrSeq seq).g.length = 16) →
    (a = s32 ((s.tahrSeq seq).reg (wRa w)) ∧ b = s32 ((s.tahrSeq seq).reg (wRb w)) ∧ v = a - b) →
    ∃ t, exec (.tahrAlu seq .clean) s = .next t ∧
      s32 ((t.tahrSeq seq).reg (wRd w)) = max (-2 ^ 31) (min v (2 ^ 31 - 1)) ∧
      (t.tahrSeq seq).sat = ((s.tahrSeq seq).sat || decide (v < -2 ^ 31) || decide (2 ^ 31 - 1 < v)) ∧
      (∀ i, i ≠ wRd w → (t.tahrSeq seq).reg i = (s.tahrSeq seq).reg i) ∧
      t.tahrSeq seq = { s.tahrSeq seq with g := (t.tahrSeq seq).g, sat := (t.tahrSeq seq).sat }) ∧
  (∀ (s : State) (seq : Nat) (w : Nat) (a : Int) (b : Int) (v : Int),
    (s.tahrRuns seq 1 w = true ∧ bits w 0 4 = 14 ∧ (s.tahrSeq seq).g.length = 16) →
    (a = s32 ((s.tahrSeq seq).reg (wRa w)) ∧ b = s32 ((s.tahrSeq seq).reg (wRb w)) ∧ v = (a * b + 2 ^ 15) / 2 ^ 16) →
    ∃ t, exec (.tahrAlu seq .clean) s = .next t ∧
      s32 ((t.tahrSeq seq).reg (wRd w)) = max (-2 ^ 31) (min v (2 ^ 31 - 1)) ∧
      (t.tahrSeq seq).sat = ((s.tahrSeq seq).sat || decide (v < -2 ^ 31) || decide (2 ^ 31 - 1 < v)) ∧
      (∀ i, i ≠ wRd w → (t.tahrSeq seq).reg i = (s.tahrSeq seq).reg i) ∧
      t.tahrSeq seq = { s.tahrSeq seq with g := (t.tahrSeq seq).g, sat := (t.tahrSeq seq).sat } ∧
      (2 * (v * 2 ^ 16 - a * b) ≤ 2 ^ 16 ∧ 2 * (a * b - v * 2 ^ 16) < 2 ^ 16)) ∧
  (∀ (s : State) (seq : Nat) (w : Nat) (a : Int) (b : Int) (v : Int),
    (s.tahrRuns seq 1 w = true ∧ bits w 0 4 = 15 ∧ (s.tahrSeq seq).g.length = 16) →
    (a = s32 ((s.tahrSeq seq).reg (wRa w)) ∧ b = s32 ((s.tahrSeq seq).reg (wRb w)) ∧ v = max a (-a)) →
    ∃ t, exec (.tahrAlu seq .clean) s = .next t ∧
      s32 ((t.tahrSeq seq).reg (wRd w)) = max (-2 ^ 31) (min v (2 ^ 31 - 1)) ∧
      (t.tahrSeq seq).sat = ((s.tahrSeq seq).sat || decide (v < -2 ^ 31) || decide (2 ^ 31 - 1 < v)) ∧
      (∀ i, i ≠ wRd w → (t.tahrSeq seq).reg i = (s.tahrSeq seq).reg i) ∧
      t.tahrSeq seq = { s.tahrSeq seq with g := (t.tahrSeq seq).g, sat := (t.tahrSeq seq).sat })

/-- R5. An address names the register at an offset of a die's window, the offset being the block's offset plus the
register's, exactly where it is 0x0080_0000_0000 plus 0x0100_0000 times the die plus that offset; and a field of the
model stands at the address of its register. -/
def Obligations.RegisterAddresses : Prop :=
  (∀ a die off : Nat, die < 8 → off < 0x1000000 →
    (regPlace a = some (die, off) ↔ a = 0x008000000000 + die * 0x01000000 + off)) ∧
  (∀ (f : Fld) (die idx : Nat), fldAddr f die idx 0 = 0x008000000000 + die * 0x01000000 + f.off + idx * f.stride)

/-- R8. In the state after reset, and in every state in which the image is not applied, a register field that nothing
has written reads zero; the owning chapters give no other value for that time. -/
def Obligations.ResetFieldsReadZero : Prop :=
  (∀ (s : State) (f : Fld) (die idx unit : Nat), s.boot.loaded = false → storeFind s.regs (fldAddr f die idx unit) = none →
    s.fget f die idx unit = 0) ∧
  (State.reset.boot.loaded = false ∧ ∀ (f : Fld) (die idx unit : Nat), State.reset.fget f die idx unit = 0)

/-- For every command c and state s, the step of s with c at the front of its queue is exec of c on s; the state with a
command put in front is that state; with no command waiting, one oscillator period passes. A step with an empty
queue as one period of the oscillator is the model's log entry 6; the table gives no word a command. -/
def Obligations.AStepRunsTheFirstCommand : Prop :=
  (∀ (c : Instr) (s : State), step { s with pending := c :: s.pending } = exec c s) ∧
  (∀ (c : Instr) (s : State), step (s.withCommand c) = exec c s) ∧
  (∀ s : State, s.pending = [] → step s = .next s.tick) ∧
  (∀ (s : State) (nbits w : Nat), Sys2Proof.decodeTableWord nbits w = none ∧ s.withFetchWord nbits w = s)

/-- Every command, on every state and with every operand, ends in a next state; it leaves the commands that wait as they
are, and the free values that it may have drawn are not drawn again. That a command whose conditions do not hold
leaves the state as it is, is the model's log entry 7. -/
def Obligations.EveryCommandCompletes : Prop :=
  ∀ (c : Instr) (s : State), nextWith (exec c s) fun t =>
    t.pending = s.pending ∧ s.freeCtr ≤ t.freeCtr

/-- For every state whose memory lists its bytes in rising order of address with no byte that an unlisted address reads
as, and whose register store rises, a step leaves a state with the same. Equal memories are therefore equal data
after any run. What an unlisted address reads as is the model's log entry 1. -/
def Obligations.StepsKeepTheStores : Prop :=
  ∀ s t : State, s.canonical → step s = .next t → t.canonical

/-- Memory and the register store of the state after reset are in their canonical forms, memory lists nothing, and no
command waits. -/
def Obligations.ResetStoresAreCanonical : Prop :=
  State.reset.canonical ∧ State.reset.mem = [] ∧ State.reset.pending = []

/-- Over every step: a sealed write-once page stays sealed, so the lifecycle state that the pages give never falls; the
unit identity stays; the root key digest stays once its page is sealed; the image floor and the firmware floor never
fall. The pages as fields of the flash's state, whose programming is all or nothing, are the model's log entry 54. -/
def Obligations.FlashNeverGoesBack : Prop :=
  ∀ s t : State, step s = .next t →
    (∀ p, bit s.flash.sealedPages p = true → bit t.flash.sealedPages p = true) ∧
    s.flash.lifecycle ≤ t.flash.lifecycle ∧ t.flash.unitId = s.flash.unitId ∧
    (bit s.flash.sealedPages 1 = true → t.flash.oemRoot = s.flash.oemRoot) ∧
    s.flash.floor ≤ t.flash.floor ∧ s.flash.fwFloor ≤ t.flash.fwFloor
end

