-- ==== Sys2Proof/Laws/Bits.lean ====
section
/-! SUPPORT. The laws of bit fields: what a field reads after it, or another field, was set. -/

namespace Sys2Proof.Machine

theorem bits_lt (n lo w : Nat) : bits n lo w < 2 ^ w := Nat.mod_lt _ (by positivity)

/-- A field set reads as the low bits of its value. -/
@[simp] theorem bits_setBits_same (n lo w v : Nat) : bits (setBits n lo w v) lo w = v % 2 ^ w := by
  have hp : 0 < 2 ^ lo := by positivity
  have e : setBits n lo w v = n % 2 ^ lo + 2 ^ lo * (v % 2 ^ w + 2 ^ w * (n / 2 ^ (lo + w))) := by
    unfold setBits; rw [pow_add]; ring
  unfold bits
  rw [e, Nat.add_mul_div_left _ _ hp, Nat.div_eq_of_lt (Nat.mod_lt _ hp), Nat.zero_add, Nat.add_mul_mod_self_left,
    Nat.mod_mod]

theorem bits_testBit (n lo w i : Nat) : (bits n lo w).testBit i = (decide (i < w) && n.testBit (lo + i)) := by
  unfold bits
  rw [Nat.testBit_mod_two_pow, Nat.testBit_div_two_pow, Nat.add_comm]

theorem setBits_eq (n lo w v : Nat) :
    setBits n lo w v = n % 2 ^ lo + 2 ^ lo * (v % 2 ^ w + 2 ^ w * (n / 2 ^ (lo + w))) := by
  unfold setBits; rw [pow_add]; ring

theorem setBits_testBit (n lo w v i : Nat) :
    (setBits n lo w v).testBit i =
      if i < lo then n.testBit i else if i < lo + w then v.testBit (i - lo) else n.testBit i := by
  rw [setBits_eq, Nat.add_comm, Nat.testBit_two_pow_mul_add _ (Nat.mod_lt _ (by positivity))]
  split_ifs with h1 h2
  · rw [Nat.testBit_mod_two_pow]; simp [h1]
  · rw [Nat.add_comm, Nat.testBit_two_pow_mul_add _ (Nat.mod_lt _ (by positivity))]
    have : i - lo < w := by omega
    rw [if_pos this, Nat.testBit_mod_two_pow]; simp [this]
  · rw [Nat.add_comm, Nat.testBit_two_pow_mul_add _ (Nat.mod_lt _ (by positivity))]
    have : ¬ i - lo < w := by omega
    rw [if_neg this, Nat.testBit_div_two_pow]
    congr 1
    omega

/-- A field reads as before when a field beside it is set. -/
theorem bits_setBits_other (n lo w v l k : Nat) (h : l + k ≤ lo ∨ lo + w ≤ l) :
    bits (setBits n lo w v) l k = bits n l k := by
  apply Nat.eq_of_testBit_eq
  intro i
  simp only [bits_testBit, setBits_testBit]
  by_cases hi : i < k
  · rcases h with h | h
    · have : l + i < lo := by omega
      simp [this]
    · have h1 : ¬ l + i < lo := by omega
      have h2 : ¬ l + i < lo + w := by omega
      simp [h1, h2]
  · simp [hi]

/-- The low 64 bits of a number hold every field that ends at bit 64 or below. -/
@[simp] theorem bits_mod_64 (n lo w : Nat) (h : lo + w ≤ 64) : bits (n % 2 ^ 64) lo w = bits n lo w := by
  apply Nat.eq_of_testBit_eq
  intro i
  simp only [bits_testBit, Nat.testBit_mod_two_pow]
  by_cases hi : i < w
  · have : lo + i < 64 := by omega
    simp [this]
  · simp [hi]

/-- A byte list of n bytes has n bytes. -/
@[simp] theorem leBytes_length (n k : Nat) : (leBytes n k).length = k := by
  induction k generalizing n with
  | zero => rfl
  | succ k ih => simp [leBytes, ih]

/-- The number that the bytes of a number hold. -/
@[simp] theorem leNat_leBytes (n k : Nat) : leNat (leBytes n k) = n % 256 ^ k := by
  induction k generalizing n with
  | zero => simp [leBytes, leNat, Nat.mod_one]
  | succ k ih =>
    simp only [leBytes, leNat, ih, BitVec.toNat_ofNat]
    have e : 256 ^ (k + 1) = 256 * 256 ^ k := by ring
    rw [e, Nat.mod_mul]

end Sys2Proof.Machine
end

