-- ==== Sys2Proof/Laws/Store.lean ====
section
/-! SUPPORT. The laws of the sparse maps: what a find answers after a put or a drop, and that every operation keeps the
keys rising. -/

namespace Sys2Proof.Machine

variable {α : Type}

@[simp] theorem storeFind_put_same (m : Store α) (a : Nat) (x : α) : storeFind (storePut m a x) a = some x := by
  induction m with
  | nil => simp [storePut, storeFind]
  | cons p t ih =>
    obtain ⟨k, v⟩ := p
    unfold storePut
    split_ifs with h1 h2
    · simp [storeFind, h1]
    · simp [storeFind]
    · simp [storeFind, h1, h2, ih]

theorem storeFind_put_other (m : Store α) {a b : Nat} (x : α) (h : b ≠ a) :
    storeFind (storePut m a x) b = storeFind m b := by
  induction m with
  | nil =>
    have : ¬ a = b := fun e => h e.symm
    simp [storePut, storeFind, this]
  | cons p t ih =>
    obtain ⟨k, v⟩ := p
    unfold storePut
    split_ifs with h1 h2
    · subst h1
      have : ¬ k = b := fun e => h e.symm
      simp [storeFind, this]
    · have e1 : ¬ a = b := fun e => h e.symm
      by_cases hb : b < a
      · have e2 : ¬ k = b := by omega
        have e3 : b < k := by omega
        simp [storeFind, e1, hb, e2, e3]
      · simp only [storeFind, e1, hb, if_false]
    · simp only [storeFind, ih]

theorem storeFind_put (m : Store α) (a b : Nat) (x : α) :
    storeFind (storePut m a x) b = if b = a then some x else storeFind m b := by
  split_ifs with h
  · subst h; simp
  · exact storeFind_put_other m x h

@[simp] theorem storeGet_put_same (d : α) (m : Store α) (a : Nat) (x : α) : storeGet d (storePut m a x) a = x := by
  simp [storeGet]

theorem storeGet_put_other (d : α) (m : Store α) {a b : Nat} (x : α) (h : b ≠ a) :
    storeGet d (storePut m a x) b = storeGet d m b := by simp [storeGet, storeFind_put_other m x h]

/-- A key that the rising keys of a map lie above. -/
theorem risesFrom_cons (lo : Option Nat) (k : Nat) (v : α) (t : Store α) :
    risesFrom lo ((k, v) :: t) = ((match lo with | none => true | some l => decide (l < k)) && risesFrom (some k) t) := by
  cases lo <;> rfl

theorem risesFrom_weaken {l k : Nat} {t : Store α} (hlk : l ≤ k) (h : risesFrom (some k) t = true) :
    risesFrom (some l) t = true := by
  cases t with
  | nil => rfl
  | cons p t =>
    obtain ⟨j, v⟩ := p
    simp only [risesFrom_cons, Bool.and_eq_true, decide_eq_true_eq] at h ⊢
    exact ⟨by omega, h.2⟩

theorem risesFrom_none {k : Nat} {t : Store α} (h : risesFrom (some k) t = true) : risesFrom none t = true := by
  cases t with
  | nil => rfl
  | cons p t =>
    obtain ⟨j, v⟩ := p
    simp only [risesFrom_cons, Bool.and_eq_true, decide_eq_true_eq] at h ⊢
    exact ⟨trivial, h.2⟩

theorem storeFind_below {l a : Nat} {t : Store α} (h : risesFrom (some l) t = true) (ha : a ≤ l) :
    storeFind t a = none := by
  cases t with
  | nil => rfl
  | cons p t =>
    obtain ⟨j, v⟩ := p
    simp only [risesFrom_cons, Bool.and_eq_true, decide_eq_true_eq] at h
    have e1 : ¬ j = a := by omega
    have e2 : a < j := by omega
    simp [storeFind, e1, e2]

theorem risesFrom_put {l : Nat} {m : Store α} {a : Nat} (x : α) (h : risesFrom (some l) m = true) (ha : l < a) :
    risesFrom (some l) (storePut m a x) = true := by
  induction m generalizing l with
  | nil => simp [storePut, risesFrom, ha]
  | cons p t ih =>
    obtain ⟨k, v⟩ := p
    simp only [risesFrom_cons, Bool.and_eq_true, decide_eq_true_eq] at h
    unfold storePut
    split_ifs with h1 h2
    · simp [risesFrom_cons, h.1, h.2]
    · simp [risesFrom_cons, ha, h2, h.2]
    · simp only [risesFrom_cons, Bool.and_eq_true, decide_eq_true_eq]
      exact ⟨h.1, ih h.2 (by omega)⟩

theorem storeRises_put {m : Store α} (a : Nat) (x : α) (h : storeRises m = true) : storeRises (storePut m a x) = true := by
  unfold storeRises at *
  cases m with
  | nil => rfl
  | cons p t =>
    obtain ⟨k, v⟩ := p
    simp only [risesFrom_cons, Bool.and_eq_true] at h
    unfold storePut
    split_ifs with h1 h2
    · simp [risesFrom_cons, h.2]
    · simp [risesFrom_cons, h2, h.2]
    · simp only [risesFrom_cons, Bool.and_eq_true]
      exact ⟨trivial, risesFrom_put x h.2 (by omega)⟩

theorem risesFrom_drop {lo : Option Nat} {m : Store α} (a : Nat) (h : risesFrom lo m = true) :
    risesFrom lo (storeDrop m a) = true := by
  induction m generalizing lo with
  | nil => exact h
  | cons p t ih =>
    obtain ⟨k, v⟩ := p
    have h' := h
    simp only [risesFrom_cons, Bool.and_eq_true] at h
    unfold storeDrop
    split_ifs with h1 h2
    · cases lo with
      | none => exact risesFrom_none h.2
      | some l =>
        have : l < k := by simpa using h.1
        exact risesFrom_weaken (by omega) h.2
    · exact h'
    · simp only [risesFrom_cons, Bool.and_eq_true]
      exact ⟨h.1, ih h.2⟩

theorem storeRises_drop {m : Store α} (a : Nat) (h : storeRises m = true) : storeRises (storeDrop m a) = true :=
  risesFrom_drop a h

theorem risesFrom_filter {lo : Option Nat} {m : Store α} (f : Nat × α → Bool) (h : risesFrom lo m = true) :
    risesFrom lo (m.filter f) = true := by
  induction m generalizing lo with
  | nil => exact h
  | cons p t ih =>
    obtain ⟨k, v⟩ := p
    simp only [risesFrom_cons, Bool.and_eq_true] at h
    by_cases hf : f (k, v) = true
    · simp only [List.filter_cons_of_pos hf, risesFrom_cons, Bool.and_eq_true]
      exact ⟨h.1, ih h.2⟩
    · simp only [List.filter_cons_of_neg hf]
      cases lo with
      | none => exact ih (risesFrom_none h.2)
      | some l =>
        have : l < k := by simpa using h.1
        exact ih (risesFrom_weaken (by omega) h.2)

theorem storeRises_filter {m : Store α} (f : Nat × α → Bool) (h : storeRises m = true) :
    storeRises (m.filter f) = true := risesFrom_filter f h

theorem storeRises_dropRange {m : Store α} (lo len : Nat) (h : storeRises m = true) :
    storeRises (storeDropRange m lo len) = true := risesFrom_filter _ h

theorem storeFind_drop_other {m : Store α} {a b : Nat} (hm : storeRises m = true) (h : b ≠ a) :
    storeFind (storeDrop m a) b = storeFind m b := by
  suffices ∀ lo, risesFrom lo m = true → storeFind (storeDrop m a) b = storeFind m b from this none hm
  induction m with
  | nil => intros; rfl
  | cons p t ih =>
    obtain ⟨k, v⟩ := p
    intro lo hr
    simp only [risesFrom_cons, Bool.and_eq_true] at hr
    have ht : storeRises t = true := risesFrom_none hr.2
    unfold storeDrop
    split_ifs with h1 h2
    · subst h1
      have e : ¬ k = b := fun e => h e.symm
      by_cases hb : b < k
      · simp [storeFind, e, hb, storeFind_below hr.2 (by omega : b ≤ k)]
      · simp [storeFind, e, hb]
    · rfl
    · simp only [storeFind, ih ht _ hr.2]

theorem storeFind_drop_same {m : Store α} {a : Nat} (hm : storeRises m = true) :
    storeFind (storeDrop m a) a = none := by
  suffices ∀ lo, risesFrom lo m = true → storeFind (storeDrop m a) a = none from this none hm
  induction m with
  | nil => intros; rfl
  | cons p t ih =>
    obtain ⟨k, v⟩ := p
    intro lo hr
    simp only [risesFrom_cons, Bool.and_eq_true] at hr
    have ht : storeRises t = true := risesFrom_none hr.2
    unfold storeDrop
    split_ifs with h1 h2
    · exact storeFind_below hr.2 (by omega)
    · simp [storeFind, h1, h2]
    · simp only [storeFind, h1, h2, if_false]
      exact ih ht _ hr.2

end Sys2Proof.Machine
end

