-- ==== Sys2Proof/Laws/Memory.lean ====
section
/-! SUPPORT. The laws of the byte memory: every operation keeps its canonical form, a byte written reads as written, and
every other byte reads as before. -/

namespace Sys2Proof.Machine

theorem Memory.wf_iff (m : List Host.Cell) : Memory.wf m = true ↔ storeRises m = true ∧ ∀ c ∈ m, c.2 ≠ 0 := by
  simp [Memory.wf, List.all_eq_true]

theorem mem_storePut {α : Type} {m : Store α} {a : Nat} {x : α} {c : Nat × α} (h : c ∈ storePut m a x) :
    c = (a, x) ∨ c ∈ m := by
  induction m with
  | nil => simpa [storePut] using h
  | cons p t ih =>
    obtain ⟨k, v⟩ := p
    unfold storePut at h
    split_ifs at h with h1 h2
    · subst h1
      rcases List.mem_cons.1 h with h | h
      · exact .inl h
      · exact .inr (List.mem_cons_of_mem _ h)
    · rcases List.mem_cons.1 h with h | h
      · exact .inl h
      · exact .inr h
    · rcases List.mem_cons.1 h with h | h
      · exact .inr (h ▸ List.mem_cons_self)
      · rcases ih h with h | h
        · exact .inl h
        · exact .inr (List.mem_cons_of_mem _ h)

theorem mem_storeDrop {α : Type} {m : Store α} {a : Nat} {c : Nat × α} (h : c ∈ storeDrop m a) : c ∈ m := by
  induction m with
  | nil => exact h
  | cons p t ih =>
    obtain ⟨k, v⟩ := p
    unfold storeDrop at h
    split_ifs at h with h1 h2
    · exact List.mem_cons_of_mem _ h
    · exact h
    · rcases List.mem_cons.1 h with h | h
      · exact h ▸ List.mem_cons_self
      · exact List.mem_cons_of_mem _ (ih h)

theorem putByte_wf {m : List Host.Cell} (a : Nat) (b : Byte) (h : Memory.wf m = true) :
    Memory.wf (putByte m a b) = true := by
  rw [Memory.wf_iff] at h ⊢
  unfold putByte
  split_ifs with hb
  · exact ⟨storeRises_drop a h.1, fun c hc => h.2 c (mem_storeDrop hc)⟩
  · refine ⟨storeRises_put a b h.1, fun c hc => ?_⟩
    rcases mem_storePut hc with rfl | hc
    · exact hb
    · exact h.2 c hc

theorem putBytes_wf {m : List Host.Cell} (a : Nat) (bs : List Byte) (h : Memory.wf m = true) :
    Memory.wf (putBytes m a bs) = true := by
  induction bs generalizing m a with
  | nil => exact h
  | cons b bs ih => exact ih (a + 1) (putByte_wf a b h)

theorem filter_wf {m : List Host.Cell} (f : Host.Cell → Bool) (h : Memory.wf m = true) :
    Memory.wf (m.filter f) = true := by
  rw [Memory.wf_iff] at h ⊢
  exact ⟨storeRises_filter f h.1, fun c hc => h.2 c (List.mem_of_mem_filter hc)⟩

theorem dropRange_wf {m : List Host.Cell} (lo len : Nat) (h : Memory.wf m = true) :
    Memory.wf (storeDropRange m lo len) = true := filter_wf _ h

theorem State.putAt_wf {s : State} (a : Nat) (bs : List Byte) (h : Memory.wf s.mem = true) :
    Memory.wf (s.putAt a bs).mem = true := putBytes_wf a bs h

theorem State.scrub_wf {s : State} (a n : Nat) (h : Memory.wf s.mem = true) : Memory.wf (s.scrub a n).mem = true :=
  dropRange_wf a n h

@[simp] theorem State.clearPoison_mem (s : State) (a n : Nat) : (s.clearPoison a n).mem = s.mem := by
  unfold State.clearPoison; split <;> rfl

theorem State.store_wf {s : State} (a : Nat) (bs : List Byte) (h : Memory.wf s.mem = true) :
    Memory.wf (s.store a bs).mem = true := State.putAt_wf a bs (by simpa using h)

/-- A byte put reads as put. -/
theorem putByte_same {m : List Host.Cell} (a : Nat) (b : Byte) (h : storeRises m = true) :
    storeGet 0 (putByte m a b) a = b := by
  unfold putByte
  split_ifs with hb
  · simp [storeGet, storeFind_drop_same h, hb]
  · simp

theorem putByte_other {m : List Host.Cell} {a c : Nat} (b : Byte) (h : storeRises m = true) (hc : c ≠ a) :
    storeGet 0 (putByte m a b) c = storeGet 0 m c := by
  unfold putByte
  split_ifs with hb
  · simp [storeGet, storeFind_drop_other h hc]
  · exact storeGet_put_other _ _ _ hc

theorem putByte_rises {m : List Host.Cell} (a : Nat) (b : Byte) (h : storeRises m = true) :
    storeRises (putByte m a b) = true := by
  unfold putByte; split_ifs
  · exact storeRises_drop a h
  · exact storeRises_put a b h

theorem putBytes_other {m : List Host.Cell} (a c : Nat) (bs : List Byte) (h : storeRises m = true)
    (hc : c < a ∨ a + bs.length ≤ c) : storeGet 0 (putBytes m a bs) c = storeGet 0 m c := by
  induction bs generalizing m a with
  | nil => rfl
  | cons b bs ih =>
    have hl : (b :: bs).length = bs.length + 1 := rfl
    rw [putBytes, ih (a + 1) (putByte_rises a b h) (by omega), putByte_other b h (by omega)]

theorem putBytes_same {m : List Host.Cell} (a i : Nat) (bs : List Byte) (h : storeRises m = true) (hi : i < bs.length) :
    storeGet 0 (putBytes m a bs) (a + i) = bs[i] := by
  induction bs generalizing m a i with
  | nil => simp at hi
  | cons b bs ih =>
    cases i with
    | zero =>
      have e := putBytes_other (a + 1) a bs (putByte_rises a b h) (by omega)
      show storeGet 0 (putBytes (putByte m a b) (a + 1) bs) a = b
      rw [e, putByte_same a b h]
    | succ i =>
      have := ih (a + 1) i (putByte_rises a b h) (by simpa using hi)
      rw [putBytes, show a + (i + 1) = a + 1 + i by omega, this]
      rfl

/-- A byte outside a write reads as before. -/
theorem State.byteAt_store_other {s : State} (a c : Nat) (bs : List Byte) (h : storeRises s.mem = true)
    (hc : c < a ∨ a + bs.length ≤ c) : (s.store a bs).byteAt c = s.byteAt c := by
  have := putBytes_other a c bs (m := (s.clearPoison a bs.length).mem) (by simpa using h) hc
  simpa [State.byteAt, State.store, State.putAt] using this

/-- A byte of a write reads as written. -/
theorem State.byteAt_store_same {s : State} (a i : Nat) (bs : List Byte) (h : storeRises s.mem = true)
    (hi : i < bs.length) : (s.store a bs).byteAt (a + i) = bs[i] := by
  have := putBytes_same a i bs (m := (s.clearPoison a bs.length).mem) (by simpa using h) hi
  simpa [State.byteAt, State.store, State.putAt] using this

end Sys2Proof.Machine
end

