-- ==== Sys2Proof/Laws/State.lean ====
section
/-! SUPPORT. What each shared update of the state leaves as it is, one lemma per field. -/

namespace Sys2Proof.Machine

/-! ### setReg -/

@[simp] theorem State.setReg_mem (s : State) (a v : Nat) : (s.setReg a v).mem = s.mem := rfl
@[simp] theorem State.setReg_resp (s : State) (a v : Nat) : (s.setReg a v).resp = s.resp := rfl
@[simp] theorem State.setReg_sent (s : State) (a v : Nat) : (s.setReg a v).sent = s.sent := rfl
@[simp] theorem State.setReg_freeCtr (s : State) (a v : Nat) : (s.setReg a v).freeCtr = s.freeCtr := rfl
@[simp] theorem State.setReg_periods (s : State) (a v : Nat) : (s.setReg a v).periods = s.periods := rfl
@[simp] theorem State.setReg_devFine (s : State) (a v : Nat) : (s.setReg a v).devFine = s.devFine := rfl
@[simp] theorem State.setReg_err (s : State) (a v : Nat) : (s.setReg a v).err = s.err := rfl
@[simp] theorem State.setReg_flash (s : State) (a v : Nat) : (s.setReg a v).flash = s.flash := rfl
@[simp] theorem State.setReg_boot (s : State) (a v : Nat) : (s.setReg a v).boot = s.boot := rfl
@[simp] theorem State.setReg_fw (s : State) (a v : Nat) : (s.setReg a v).fw = s.fw := rfl
@[simp] theorem State.setReg_poisonWords (s : State) (a v : Nat) : (s.setReg a v).poisonWords = s.poisonWords := rfl
@[simp] theorem State.setReg_poisonLines (s : State) (a v : Nat) : (s.setReg a v).poisonLines = s.poisonLines := rfl
@[simp] theorem State.setReg_softWords (s : State) (a v : Nat) : (s.setReg a v).softWords = s.softWords := rfl
@[simp] theorem State.setReg_softLines (s : State) (a v : Nat) : (s.setReg a v).softLines = s.softLines := rfl
@[simp] theorem State.setReg_hardWords (s : State) (a v : Nat) : (s.setReg a v).hardWords = s.hardWords := rfl
@[simp] theorem State.setReg_hardLines (s : State) (a v : Nat) : (s.setReg a v).hardLines = s.hardLines := rfl
@[simp] theorem State.setReg_secureLines (s : State) (a v : Nat) : (s.setReg a v).secureLines = s.secureLines := rfl
@[simp] theorem State.setReg_opens (s : State) (a v : Nat) : (s.setReg a v).opens = s.opens := rfl
@[simp] theorem State.setReg_sched (s : State) (a v : Nat) : (s.setReg a v).sched = s.sched := rfl
@[simp] theorem State.setReg_gft (s : State) (a v : Nat) : (s.setReg a v).gft = s.gft := rfl
@[simp] theorem State.setReg_safety (s : State) (a v : Nat) : (s.setReg a v).safety = s.safety := rfl
@[simp] theorem State.setReg_rings (s : State) (a v : Nat) : (s.setReg a v).rings = s.rings := rfl
@[simp] theorem State.setReg_cache (s : State) (a v : Nat) : (s.setReg a v).cache = s.cache := rfl
@[simp] theorem State.setReg_moves (s : State) (a v : Nat) : (s.setReg a v).moves = s.moves := rfl
@[simp] theorem State.setReg_power (s : State) (a v : Nat) : (s.setReg a v).power = s.power := rfl
@[simp] theorem State.setReg_vis (s : State) (a v : Nat) : (s.setReg a v).vis = s.vis := rfl
@[simp] theorem State.setReg_bridge (s : State) (a v : Nat) : (s.setReg a v).bridge = s.bridge := rfl
@[simp] theorem State.setReg_engines (s : State) (a v : Nat) : (s.setReg a v).engines = s.engines := rfl
@[simp] theorem State.setReg_signals (s : State) (a v : Nat) : (s.setReg a v).signals = s.signals := rfl
@[simp] theorem State.setReg_saves (s : State) (a v : Nat) : (s.setReg a v).saves = s.saves := rfl
@[simp] theorem State.setReg_ipp (s : State) (a v : Nat) : (s.setReg a v).ipp = s.ipp := rfl
@[simp] theorem State.setReg_net (s : State) (a v : Nat) : (s.setReg a v).net = s.net := rfl
@[simp] theorem State.setReg_tahr (s : State) (a v : Nat) : (s.setReg a v).tahr = s.tahr := rfl
@[simp] theorem State.setReg_gateway (s : State) (a v : Nat) : (s.setReg a v).gateway = s.gateway := rfl
@[simp] theorem State.setReg_display (s : State) (a v : Nat) : (s.setReg a v).display = s.display := rfl
@[simp] theorem State.setReg_pending (s : State) (a v : Nat) : (s.setReg a v).pending = s.pending := rfl

/-! ### fset -/

@[simp] theorem State.fset_mem (s : State) (f : Fld) (d i u v : Nat) : (s.fset f d i u v).mem = s.mem := rfl
@[simp] theorem State.fset_resp (s : State) (f : Fld) (d i u v : Nat) : (s.fset f d i u v).resp = s.resp := rfl
@[simp] theorem State.fset_sent (s : State) (f : Fld) (d i u v : Nat) : (s.fset f d i u v).sent = s.sent := rfl
@[simp] theorem State.fset_freeCtr (s : State) (f : Fld) (d i u v : Nat) : (s.fset f d i u v).freeCtr = s.freeCtr := rfl
@[simp] theorem State.fset_periods (s : State) (f : Fld) (d i u v : Nat) : (s.fset f d i u v).periods = s.periods := rfl
@[simp] theorem State.fset_devFine (s : State) (f : Fld) (d i u v : Nat) : (s.fset f d i u v).devFine = s.devFine := rfl
@[simp] theorem State.fset_err (s : State) (f : Fld) (d i u v : Nat) : (s.fset f d i u v).err = s.err := rfl
@[simp] theorem State.fset_flash (s : State) (f : Fld) (d i u v : Nat) : (s.fset f d i u v).flash = s.flash := rfl
@[simp] theorem State.fset_boot (s : State) (f : Fld) (d i u v : Nat) : (s.fset f d i u v).boot = s.boot := rfl
@[simp] theorem State.fset_fw (s : State) (f : Fld) (d i u v : Nat) : (s.fset f d i u v).fw = s.fw := rfl
@[simp] theorem State.fset_poisonWords (s : State) (f : Fld) (d i u v : Nat) : (s.fset f d i u v).poisonWords = s.poisonWords := rfl
@[simp] theorem State.fset_poisonLines (s : State) (f : Fld) (d i u v : Nat) : (s.fset f d i u v).poisonLines = s.poisonLines := rfl
@[simp] theorem State.fset_softWords (s : State) (f : Fld) (d i u v : Nat) : (s.fset f d i u v).softWords = s.softWords := rfl
@[simp] theorem State.fset_softLines (s : State) (f : Fld) (d i u v : Nat) : (s.fset f d i u v).softLines = s.softLines := rfl
@[simp] theorem State.fset_hardWords (s : State) (f : Fld) (d i u v : Nat) : (s.fset f d i u v).hardWords = s.hardWords := rfl
@[simp] theorem State.fset_hardLines (s : State) (f : Fld) (d i u v : Nat) : (s.fset f d i u v).hardLines = s.hardLines := rfl
@[simp] theorem State.fset_secureLines (s : State) (f : Fld) (d i u v : Nat) : (s.fset f d i u v).secureLines = s.secureLines := rfl
@[simp] theorem State.fset_opens (s : State) (f : Fld) (d i u v : Nat) : (s.fset f d i u v).opens = s.opens := rfl
@[simp] theorem State.fset_sched (s : State) (f : Fld) (d i u v : Nat) : (s.fset f d i u v).sched = s.sched := rfl
@[simp] theorem State.fset_gft (s : State) (f : Fld) (d i u v : Nat) : (s.fset f d i u v).gft = s.gft := rfl
@[simp] theorem State.fset_safety (s : State) (f : Fld) (d i u v : Nat) : (s.fset f d i u v).safety = s.safety := rfl
@[simp] theorem State.fset_rings (s : State) (f : Fld) (d i u v : Nat) : (s.fset f d i u v).rings = s.rings := rfl
@[simp] theorem State.fset_cache (s : State) (f : Fld) (d i u v : Nat) : (s.fset f d i u v).cache = s.cache := rfl
@[simp] theorem State.fset_moves (s : State) (f : Fld) (d i u v : Nat) : (s.fset f d i u v).moves = s.moves := rfl
@[simp] theorem State.fset_power (s : State) (f : Fld) (d i u v : Nat) : (s.fset f d i u v).power = s.power := rfl
@[simp] theorem State.fset_vis (s : State) (f : Fld) (d i u v : Nat) : (s.fset f d i u v).vis = s.vis := rfl
@[simp] theorem State.fset_bridge (s : State) (f : Fld) (d i u v : Nat) : (s.fset f d i u v).bridge = s.bridge := rfl
@[simp] theorem State.fset_engines (s : State) (f : Fld) (d i u v : Nat) : (s.fset f d i u v).engines = s.engines := rfl
@[simp] theorem State.fset_signals (s : State) (f : Fld) (d i u v : Nat) : (s.fset f d i u v).signals = s.signals := rfl
@[simp] theorem State.fset_saves (s : State) (f : Fld) (d i u v : Nat) : (s.fset f d i u v).saves = s.saves := rfl
@[simp] theorem State.fset_ipp (s : State) (f : Fld) (d i u v : Nat) : (s.fset f d i u v).ipp = s.ipp := rfl
@[simp] theorem State.fset_net (s : State) (f : Fld) (d i u v : Nat) : (s.fset f d i u v).net = s.net := rfl
@[simp] theorem State.fset_tahr (s : State) (f : Fld) (d i u v : Nat) : (s.fset f d i u v).tahr = s.tahr := rfl
@[simp] theorem State.fset_gateway (s : State) (f : Fld) (d i u v : Nat) : (s.fset f d i u v).gateway = s.gateway := rfl
@[simp] theorem State.fset_display (s : State) (f : Fld) (d i u v : Nat) : (s.fset f d i u v).display = s.display := rfl
@[simp] theorem State.fset_pending (s : State) (f : Fld) (d i u v : Nat) : (s.fset f d i u v).pending = s.pending := rfl

/-! ### fadd -/

@[simp] theorem State.fadd_mem (s : State) (f : Fld) (d i u n : Nat) : (s.fadd f d i u n).mem = s.mem := rfl
@[simp] theorem State.fadd_resp (s : State) (f : Fld) (d i u n : Nat) : (s.fadd f d i u n).resp = s.resp := rfl
@[simp] theorem State.fadd_sent (s : State) (f : Fld) (d i u n : Nat) : (s.fadd f d i u n).sent = s.sent := rfl
@[simp] theorem State.fadd_freeCtr (s : State) (f : Fld) (d i u n : Nat) : (s.fadd f d i u n).freeCtr = s.freeCtr := rfl
@[simp] theorem State.fadd_periods (s : State) (f : Fld) (d i u n : Nat) : (s.fadd f d i u n).periods = s.periods := rfl
@[simp] theorem State.fadd_devFine (s : State) (f : Fld) (d i u n : Nat) : (s.fadd f d i u n).devFine = s.devFine := rfl
@[simp] theorem State.fadd_err (s : State) (f : Fld) (d i u n : Nat) : (s.fadd f d i u n).err = s.err := rfl
@[simp] theorem State.fadd_flash (s : State) (f : Fld) (d i u n : Nat) : (s.fadd f d i u n).flash = s.flash := rfl
@[simp] theorem State.fadd_boot (s : State) (f : Fld) (d i u n : Nat) : (s.fadd f d i u n).boot = s.boot := rfl
@[simp] theorem State.fadd_fw (s : State) (f : Fld) (d i u n : Nat) : (s.fadd f d i u n).fw = s.fw := rfl
@[simp] theorem State.fadd_poisonWords (s : State) (f : Fld) (d i u n : Nat) : (s.fadd f d i u n).poisonWords = s.poisonWords := rfl
@[simp] theorem State.fadd_poisonLines (s : State) (f : Fld) (d i u n : Nat) : (s.fadd f d i u n).poisonLines = s.poisonLines := rfl
@[simp] theorem State.fadd_softWords (s : State) (f : Fld) (d i u n : Nat) : (s.fadd f d i u n).softWords = s.softWords := rfl
@[simp] theorem State.fadd_softLines (s : State) (f : Fld) (d i u n : Nat) : (s.fadd f d i u n).softLines = s.softLines := rfl
@[simp] theorem State.fadd_hardWords (s : State) (f : Fld) (d i u n : Nat) : (s.fadd f d i u n).hardWords = s.hardWords := rfl
@[simp] theorem State.fadd_hardLines (s : State) (f : Fld) (d i u n : Nat) : (s.fadd f d i u n).hardLines = s.hardLines := rfl
@[simp] theorem State.fadd_secureLines (s : State) (f : Fld) (d i u n : Nat) : (s.fadd f d i u n).secureLines = s.secureLines := rfl
@[simp] theorem State.fadd_opens (s : State) (f : Fld) (d i u n : Nat) : (s.fadd f d i u n).opens = s.opens := rfl
@[simp] theorem State.fadd_sched (s : State) (f : Fld) (d i u n : Nat) : (s.fadd f d i u n).sched = s.sched := rfl
@[simp] theorem State.fadd_gft (s : State) (f : Fld) (d i u n : Nat) : (s.fadd f d i u n).gft = s.gft := rfl
@[simp] theorem State.fadd_safety (s : State) (f : Fld) (d i u n : Nat) : (s.fadd f d i u n).safety = s.safety := rfl
@[simp] theorem State.fadd_rings (s : State) (f : Fld) (d i u n : Nat) : (s.fadd f d i u n).rings = s.rings := rfl
@[simp] theorem State.fadd_cache (s : State) (f : Fld) (d i u n : Nat) : (s.fadd f d i u n).cache = s.cache := rfl
@[simp] theorem State.fadd_moves (s : State) (f : Fld) (d i u n : Nat) : (s.fadd f d i u n).moves = s.moves := rfl
@[simp] theorem State.fadd_power (s : State) (f : Fld) (d i u n : Nat) : (s.fadd f d i u n).power = s.power := rfl
@[simp] theorem State.fadd_vis (s : State) (f : Fld) (d i u n : Nat) : (s.fadd f d i u n).vis = s.vis := rfl
@[simp] theorem State.fadd_bridge (s : State) (f : Fld) (d i u n : Nat) : (s.fadd f d i u n).bridge = s.bridge := rfl
@[simp] theorem State.fadd_engines (s : State) (f : Fld) (d i u n : Nat) : (s.fadd f d i u n).engines = s.engines := rfl
@[simp] theorem State.fadd_signals (s : State) (f : Fld) (d i u n : Nat) : (s.fadd f d i u n).signals = s.signals := rfl
@[simp] theorem State.fadd_saves (s : State) (f : Fld) (d i u n : Nat) : (s.fadd f d i u n).saves = s.saves := rfl
@[simp] theorem State.fadd_ipp (s : State) (f : Fld) (d i u n : Nat) : (s.fadd f d i u n).ipp = s.ipp := rfl
@[simp] theorem State.fadd_net (s : State) (f : Fld) (d i u n : Nat) : (s.fadd f d i u n).net = s.net := rfl
@[simp] theorem State.fadd_tahr (s : State) (f : Fld) (d i u n : Nat) : (s.fadd f d i u n).tahr = s.tahr := rfl
@[simp] theorem State.fadd_gateway (s : State) (f : Fld) (d i u n : Nat) : (s.fadd f d i u n).gateway = s.gateway := rfl
@[simp] theorem State.fadd_display (s : State) (f : Fld) (d i u n : Nat) : (s.fadd f d i u n).display = s.display := rfl
@[simp] theorem State.fadd_pending (s : State) (f : Fld) (d i u n : Nat) : (s.fadd f d i u n).pending = s.pending := rfl

/-! ### fwrap -/

@[simp] theorem State.fwrap_mem (s : State) (f : Fld) (d i u n : Nat) : (s.fwrap f d i u n).mem = s.mem := rfl
@[simp] theorem State.fwrap_resp (s : State) (f : Fld) (d i u n : Nat) : (s.fwrap f d i u n).resp = s.resp := rfl
@[simp] theorem State.fwrap_sent (s : State) (f : Fld) (d i u n : Nat) : (s.fwrap f d i u n).sent = s.sent := rfl
@[simp] theorem State.fwrap_freeCtr (s : State) (f : Fld) (d i u n : Nat) : (s.fwrap f d i u n).freeCtr = s.freeCtr := rfl
@[simp] theorem State.fwrap_periods (s : State) (f : Fld) (d i u n : Nat) : (s.fwrap f d i u n).periods = s.periods := rfl
@[simp] theorem State.fwrap_devFine (s : State) (f : Fld) (d i u n : Nat) : (s.fwrap f d i u n).devFine = s.devFine := rfl
@[simp] theorem State.fwrap_err (s : State) (f : Fld) (d i u n : Nat) : (s.fwrap f d i u n).err = s.err := rfl
@[simp] theorem State.fwrap_flash (s : State) (f : Fld) (d i u n : Nat) : (s.fwrap f d i u n).flash = s.flash := rfl
@[simp] theorem State.fwrap_boot (s : State) (f : Fld) (d i u n : Nat) : (s.fwrap f d i u n).boot = s.boot := rfl
@[simp] theorem State.fwrap_fw (s : State) (f : Fld) (d i u n : Nat) : (s.fwrap f d i u n).fw = s.fw := rfl
@[simp] theorem State.fwrap_poisonWords (s : State) (f : Fld) (d i u n : Nat) : (s.fwrap f d i u n).poisonWords = s.poisonWords := rfl
@[simp] theorem State.fwrap_poisonLines (s : State) (f : Fld) (d i u n : Nat) : (s.fwrap f d i u n).poisonLines = s.poisonLines := rfl
@[simp] theorem State.fwrap_softWords (s : State) (f : Fld) (d i u n : Nat) : (s.fwrap f d i u n).softWords = s.softWords := rfl
@[simp] theorem State.fwrap_softLines (s : State) (f : Fld) (d i u n : Nat) : (s.fwrap f d i u n).softLines = s.softLines := rfl
@[simp] theorem State.fwrap_hardWords (s : State) (f : Fld) (d i u n : Nat) : (s.fwrap f d i u n).hardWords = s.hardWords := rfl
@[simp] theorem State.fwrap_hardLines (s : State) (f : Fld) (d i u n : Nat) : (s.fwrap f d i u n).hardLines = s.hardLines := rfl
@[simp] theorem State.fwrap_secureLines (s : State) (f : Fld) (d i u n : Nat) : (s.fwrap f d i u n).secureLines = s.secureLines := rfl
@[simp] theorem State.fwrap_opens (s : State) (f : Fld) (d i u n : Nat) : (s.fwrap f d i u n).opens = s.opens := rfl
@[simp] theorem State.fwrap_sched (s : State) (f : Fld) (d i u n : Nat) : (s.fwrap f d i u n).sched = s.sched := rfl
@[simp] theorem State.fwrap_gft (s : State) (f : Fld) (d i u n : Nat) : (s.fwrap f d i u n).gft = s.gft := rfl
@[simp] theorem State.fwrap_safety (s : State) (f : Fld) (d i u n : Nat) : (s.fwrap f d i u n).safety = s.safety := rfl
@[simp] theorem State.fwrap_rings (s : State) (f : Fld) (d i u n : Nat) : (s.fwrap f d i u n).rings = s.rings := rfl
@[simp] theorem State.fwrap_cache (s : State) (f : Fld) (d i u n : Nat) : (s.fwrap f d i u n).cache = s.cache := rfl
@[simp] theorem State.fwrap_moves (s : State) (f : Fld) (d i u n : Nat) : (s.fwrap f d i u n).moves = s.moves := rfl
@[simp] theorem State.fwrap_power (s : State) (f : Fld) (d i u n : Nat) : (s.fwrap f d i u n).power = s.power := rfl
@[simp] theorem State.fwrap_vis (s : State) (f : Fld) (d i u n : Nat) : (s.fwrap f d i u n).vis = s.vis := rfl
@[simp] theorem State.fwrap_bridge (s : State) (f : Fld) (d i u n : Nat) : (s.fwrap f d i u n).bridge = s.bridge := rfl
@[simp] theorem State.fwrap_engines (s : State) (f : Fld) (d i u n : Nat) : (s.fwrap f d i u n).engines = s.engines := rfl
@[simp] theorem State.fwrap_signals (s : State) (f : Fld) (d i u n : Nat) : (s.fwrap f d i u n).signals = s.signals := rfl
@[simp] theorem State.fwrap_saves (s : State) (f : Fld) (d i u n : Nat) : (s.fwrap f d i u n).saves = s.saves := rfl
@[simp] theorem State.fwrap_ipp (s : State) (f : Fld) (d i u n : Nat) : (s.fwrap f d i u n).ipp = s.ipp := rfl
@[simp] theorem State.fwrap_net (s : State) (f : Fld) (d i u n : Nat) : (s.fwrap f d i u n).net = s.net := rfl
@[simp] theorem State.fwrap_tahr (s : State) (f : Fld) (d i u n : Nat) : (s.fwrap f d i u n).tahr = s.tahr := rfl
@[simp] theorem State.fwrap_gateway (s : State) (f : Fld) (d i u n : Nat) : (s.fwrap f d i u n).gateway = s.gateway := rfl
@[simp] theorem State.fwrap_display (s : State) (f : Fld) (d i u n : Nat) : (s.fwrap f d i u n).display = s.display := rfl
@[simp] theorem State.fwrap_pending (s : State) (f : Fld) (d i u n : Nat) : (s.fwrap f d i u n).pending = s.pending := rfl

/-! ### putAt -/

@[simp] theorem State.putAt_regs (s : State) (a : Nat) (bs : List Byte) : (s.putAt a bs).regs = s.regs := rfl
@[simp] theorem State.putAt_resp (s : State) (a : Nat) (bs : List Byte) : (s.putAt a bs).resp = s.resp := rfl
@[simp] theorem State.putAt_sent (s : State) (a : Nat) (bs : List Byte) : (s.putAt a bs).sent = s.sent := rfl
@[simp] theorem State.putAt_freeCtr (s : State) (a : Nat) (bs : List Byte) : (s.putAt a bs).freeCtr = s.freeCtr := rfl
@[simp] theorem State.putAt_periods (s : State) (a : Nat) (bs : List Byte) : (s.putAt a bs).periods = s.periods := rfl
@[simp] theorem State.putAt_devFine (s : State) (a : Nat) (bs : List Byte) : (s.putAt a bs).devFine = s.devFine := rfl
@[simp] theorem State.putAt_err (s : State) (a : Nat) (bs : List Byte) : (s.putAt a bs).err = s.err := rfl
@[simp] theorem State.putAt_flash (s : State) (a : Nat) (bs : List Byte) : (s.putAt a bs).flash = s.flash := rfl
@[simp] theorem State.putAt_boot (s : State) (a : Nat) (bs : List Byte) : (s.putAt a bs).boot = s.boot := rfl
@[simp] theorem State.putAt_fw (s : State) (a : Nat) (bs : List Byte) : (s.putAt a bs).fw = s.fw := rfl
@[simp] theorem State.putAt_poisonWords (s : State) (a : Nat) (bs : List Byte) : (s.putAt a bs).poisonWords = s.poisonWords := rfl
@[simp] theorem State.putAt_poisonLines (s : State) (a : Nat) (bs : List Byte) : (s.putAt a bs).poisonLines = s.poisonLines := rfl
@[simp] theorem State.putAt_softWords (s : State) (a : Nat) (bs : List Byte) : (s.putAt a bs).softWords = s.softWords := rfl
@[simp] theorem State.putAt_softLines (s : State) (a : Nat) (bs : List Byte) : (s.putAt a bs).softLines = s.softLines := rfl
@[simp] theorem State.putAt_hardWords (s : State) (a : Nat) (bs : List Byte) : (s.putAt a bs).hardWords = s.hardWords := rfl
@[simp] theorem State.putAt_hardLines (s : State) (a : Nat) (bs : List Byte) : (s.putAt a bs).hardLines = s.hardLines := rfl
@[simp] theorem State.putAt_secureLines (s : State) (a : Nat) (bs : List Byte) : (s.putAt a bs).secureLines = s.secureLines := rfl
@[simp] theorem State.putAt_opens (s : State) (a : Nat) (bs : List Byte) : (s.putAt a bs).opens = s.opens := rfl
@[simp] theorem State.putAt_sched (s : State) (a : Nat) (bs : List Byte) : (s.putAt a bs).sched = s.sched := rfl
@[simp] theorem State.putAt_gft (s : State) (a : Nat) (bs : List Byte) : (s.putAt a bs).gft = s.gft := rfl
@[simp] theorem State.putAt_safety (s : State) (a : Nat) (bs : List Byte) : (s.putAt a bs).safety = s.safety := rfl
@[simp] theorem State.putAt_rings (s : State) (a : Nat) (bs : List Byte) : (s.putAt a bs).rings = s.rings := rfl
@[simp] theorem State.putAt_cache (s : State) (a : Nat) (bs : List Byte) : (s.putAt a bs).cache = s.cache := rfl
@[simp] theorem State.putAt_moves (s : State) (a : Nat) (bs : List Byte) : (s.putAt a bs).moves = s.moves := rfl
@[simp] theorem State.putAt_power (s : State) (a : Nat) (bs : List Byte) : (s.putAt a bs).power = s.power := rfl
@[simp] theorem State.putAt_vis (s : State) (a : Nat) (bs : List Byte) : (s.putAt a bs).vis = s.vis := rfl
@[simp] theorem State.putAt_bridge (s : State) (a : Nat) (bs : List Byte) : (s.putAt a bs).bridge = s.bridge := rfl
@[simp] theorem State.putAt_engines (s : State) (a : Nat) (bs : List Byte) : (s.putAt a bs).engines = s.engines := rfl
@[simp] theorem State.putAt_signals (s : State) (a : Nat) (bs : List Byte) : (s.putAt a bs).signals = s.signals := rfl
@[simp] theorem State.putAt_saves (s : State) (a : Nat) (bs : List Byte) : (s.putAt a bs).saves = s.saves := rfl
@[simp] theorem State.putAt_ipp (s : State) (a : Nat) (bs : List Byte) : (s.putAt a bs).ipp = s.ipp := rfl
@[simp] theorem State.putAt_net (s : State) (a : Nat) (bs : List Byte) : (s.putAt a bs).net = s.net := rfl
@[simp] theorem State.putAt_tahr (s : State) (a : Nat) (bs : List Byte) : (s.putAt a bs).tahr = s.tahr := rfl
@[simp] theorem State.putAt_gateway (s : State) (a : Nat) (bs : List Byte) : (s.putAt a bs).gateway = s.gateway := rfl
@[simp] theorem State.putAt_display (s : State) (a : Nat) (bs : List Byte) : (s.putAt a bs).display = s.display := rfl
@[simp] theorem State.putAt_pending (s : State) (a : Nat) (bs : List Byte) : (s.putAt a bs).pending = s.pending := rfl

/-! ### answer -/

@[simp] theorem State.answer_regs (s : State) (v : Nat) : (s.answer v).regs = s.regs := rfl
@[simp] theorem State.answer_mem (s : State) (v : Nat) : (s.answer v).mem = s.mem := rfl
@[simp] theorem State.answer_sent (s : State) (v : Nat) : (s.answer v).sent = s.sent := rfl
@[simp] theorem State.answer_freeCtr (s : State) (v : Nat) : (s.answer v).freeCtr = s.freeCtr := rfl
@[simp] theorem State.answer_periods (s : State) (v : Nat) : (s.answer v).periods = s.periods := rfl
@[simp] theorem State.answer_devFine (s : State) (v : Nat) : (s.answer v).devFine = s.devFine := rfl
@[simp] theorem State.answer_err (s : State) (v : Nat) : (s.answer v).err = s.err := rfl
@[simp] theorem State.answer_flash (s : State) (v : Nat) : (s.answer v).flash = s.flash := rfl
@[simp] theorem State.answer_boot (s : State) (v : Nat) : (s.answer v).boot = s.boot := rfl
@[simp] theorem State.answer_fw (s : State) (v : Nat) : (s.answer v).fw = s.fw := rfl
@[simp] theorem State.answer_poisonWords (s : State) (v : Nat) : (s.answer v).poisonWords = s.poisonWords := rfl
@[simp] theorem State.answer_poisonLines (s : State) (v : Nat) : (s.answer v).poisonLines = s.poisonLines := rfl
@[simp] theorem State.answer_softWords (s : State) (v : Nat) : (s.answer v).softWords = s.softWords := rfl
@[simp] theorem State.answer_softLines (s : State) (v : Nat) : (s.answer v).softLines = s.softLines := rfl
@[simp] theorem State.answer_hardWords (s : State) (v : Nat) : (s.answer v).hardWords = s.hardWords := rfl
@[simp] theorem State.answer_hardLines (s : State) (v : Nat) : (s.answer v).hardLines = s.hardLines := rfl
@[simp] theorem State.answer_secureLines (s : State) (v : Nat) : (s.answer v).secureLines = s.secureLines := rfl
@[simp] theorem State.answer_opens (s : State) (v : Nat) : (s.answer v).opens = s.opens := rfl
@[simp] theorem State.answer_sched (s : State) (v : Nat) : (s.answer v).sched = s.sched := rfl
@[simp] theorem State.answer_gft (s : State) (v : Nat) : (s.answer v).gft = s.gft := rfl
@[simp] theorem State.answer_safety (s : State) (v : Nat) : (s.answer v).safety = s.safety := rfl
@[simp] theorem State.answer_rings (s : State) (v : Nat) : (s.answer v).rings = s.rings := rfl
@[simp] theorem State.answer_cache (s : State) (v : Nat) : (s.answer v).cache = s.cache := rfl
@[simp] theorem State.answer_moves (s : State) (v : Nat) : (s.answer v).moves = s.moves := rfl
@[simp] theorem State.answer_power (s : State) (v : Nat) : (s.answer v).power = s.power := rfl
@[simp] theorem State.answer_vis (s : State) (v : Nat) : (s.answer v).vis = s.vis := rfl
@[simp] theorem State.answer_bridge (s : State) (v : Nat) : (s.answer v).bridge = s.bridge := rfl
@[simp] theorem State.answer_engines (s : State) (v : Nat) : (s.answer v).engines = s.engines := rfl
@[simp] theorem State.answer_signals (s : State) (v : Nat) : (s.answer v).signals = s.signals := rfl
@[simp] theorem State.answer_saves (s : State) (v : Nat) : (s.answer v).saves = s.saves := rfl
@[simp] theorem State.answer_ipp (s : State) (v : Nat) : (s.answer v).ipp = s.ipp := rfl
@[simp] theorem State.answer_net (s : State) (v : Nat) : (s.answer v).net = s.net := rfl
@[simp] theorem State.answer_tahr (s : State) (v : Nat) : (s.answer v).tahr = s.tahr := rfl
@[simp] theorem State.answer_gateway (s : State) (v : Nat) : (s.answer v).gateway = s.gateway := rfl
@[simp] theorem State.answer_display (s : State) (v : Nat) : (s.answer v).display = s.display := rfl
@[simp] theorem State.answer_pending (s : State) (v : Nat) : (s.answer v).pending = s.pending := rfl

/-! ### answerOk -/

@[simp] theorem State.answerOk_regs (s : State) : (s.answerOk).regs = s.regs := rfl
@[simp] theorem State.answerOk_mem (s : State) : (s.answerOk).mem = s.mem := rfl
@[simp] theorem State.answerOk_sent (s : State) : (s.answerOk).sent = s.sent := rfl
@[simp] theorem State.answerOk_freeCtr (s : State) : (s.answerOk).freeCtr = s.freeCtr := rfl
@[simp] theorem State.answerOk_periods (s : State) : (s.answerOk).periods = s.periods := rfl
@[simp] theorem State.answerOk_devFine (s : State) : (s.answerOk).devFine = s.devFine := rfl
@[simp] theorem State.answerOk_err (s : State) : (s.answerOk).err = s.err := rfl
@[simp] theorem State.answerOk_flash (s : State) : (s.answerOk).flash = s.flash := rfl
@[simp] theorem State.answerOk_boot (s : State) : (s.answerOk).boot = s.boot := rfl
@[simp] theorem State.answerOk_fw (s : State) : (s.answerOk).fw = s.fw := rfl
@[simp] theorem State.answerOk_poisonWords (s : State) : (s.answerOk).poisonWords = s.poisonWords := rfl
@[simp] theorem State.answerOk_poisonLines (s : State) : (s.answerOk).poisonLines = s.poisonLines := rfl
@[simp] theorem State.answerOk_softWords (s : State) : (s.answerOk).softWords = s.softWords := rfl
@[simp] theorem State.answerOk_softLines (s : State) : (s.answerOk).softLines = s.softLines := rfl
@[simp] theorem State.answerOk_hardWords (s : State) : (s.answerOk).hardWords = s.hardWords := rfl
@[simp] theorem State.answerOk_hardLines (s : State) : (s.answerOk).hardLines = s.hardLines := rfl
@[simp] theorem State.answerOk_secureLines (s : State) : (s.answerOk).secureLines = s.secureLines := rfl
@[simp] theorem State.answerOk_opens (s : State) : (s.answerOk).opens = s.opens := rfl
@[simp] theorem State.answerOk_sched (s : State) : (s.answerOk).sched = s.sched := rfl
@[simp] theorem State.answerOk_gft (s : State) : (s.answerOk).gft = s.gft := rfl
@[simp] theorem State.answerOk_safety (s : State) : (s.answerOk).safety = s.safety := rfl
@[simp] theorem State.answerOk_rings (s : State) : (s.answerOk).rings = s.rings := rfl
@[simp] theorem State.answerOk_cache (s : State) : (s.answerOk).cache = s.cache := rfl
@[simp] theorem State.answerOk_moves (s : State) : (s.answerOk).moves = s.moves := rfl
@[simp] theorem State.answerOk_power (s : State) : (s.answerOk).power = s.power := rfl
@[simp] theorem State.answerOk_vis (s : State) : (s.answerOk).vis = s.vis := rfl
@[simp] theorem State.answerOk_bridge (s : State) : (s.answerOk).bridge = s.bridge := rfl
@[simp] theorem State.answerOk_engines (s : State) : (s.answerOk).engines = s.engines := rfl
@[simp] theorem State.answerOk_signals (s : State) : (s.answerOk).signals = s.signals := rfl
@[simp] theorem State.answerOk_saves (s : State) : (s.answerOk).saves = s.saves := rfl
@[simp] theorem State.answerOk_ipp (s : State) : (s.answerOk).ipp = s.ipp := rfl
@[simp] theorem State.answerOk_net (s : State) : (s.answerOk).net = s.net := rfl
@[simp] theorem State.answerOk_tahr (s : State) : (s.answerOk).tahr = s.tahr := rfl
@[simp] theorem State.answerOk_gateway (s : State) : (s.answerOk).gateway = s.gateway := rfl
@[simp] theorem State.answerOk_display (s : State) : (s.answerOk).display = s.display := rfl
@[simp] theorem State.answerOk_pending (s : State) : (s.answerOk).pending = s.pending := rfl

/-! ### answerError -/

@[simp] theorem State.answerError_regs (s : State) : (s.answerError).regs = s.regs := rfl
@[simp] theorem State.answerError_mem (s : State) : (s.answerError).mem = s.mem := rfl
@[simp] theorem State.answerError_sent (s : State) : (s.answerError).sent = s.sent := rfl
@[simp] theorem State.answerError_freeCtr (s : State) : (s.answerError).freeCtr = s.freeCtr := rfl
@[simp] theorem State.answerError_periods (s : State) : (s.answerError).periods = s.periods := rfl
@[simp] theorem State.answerError_devFine (s : State) : (s.answerError).devFine = s.devFine := rfl
@[simp] theorem State.answerError_err (s : State) : (s.answerError).err = s.err := rfl
@[simp] theorem State.answerError_flash (s : State) : (s.answerError).flash = s.flash := rfl
@[simp] theorem State.answerError_boot (s : State) : (s.answerError).boot = s.boot := rfl
@[simp] theorem State.answerError_fw (s : State) : (s.answerError).fw = s.fw := rfl
@[simp] theorem State.answerError_poisonWords (s : State) : (s.answerError).poisonWords = s.poisonWords := rfl
@[simp] theorem State.answerError_poisonLines (s : State) : (s.answerError).poisonLines = s.poisonLines := rfl
@[simp] theorem State.answerError_softWords (s : State) : (s.answerError).softWords = s.softWords := rfl
@[simp] theorem State.answerError_softLines (s : State) : (s.answerError).softLines = s.softLines := rfl
@[simp] theorem State.answerError_hardWords (s : State) : (s.answerError).hardWords = s.hardWords := rfl
@[simp] theorem State.answerError_hardLines (s : State) : (s.answerError).hardLines = s.hardLines := rfl
@[simp] theorem State.answerError_secureLines (s : State) : (s.answerError).secureLines = s.secureLines := rfl
@[simp] theorem State.answerError_opens (s : State) : (s.answerError).opens = s.opens := rfl
@[simp] theorem State.answerError_sched (s : State) : (s.answerError).sched = s.sched := rfl
@[simp] theorem State.answerError_gft (s : State) : (s.answerError).gft = s.gft := rfl
@[simp] theorem State.answerError_safety (s : State) : (s.answerError).safety = s.safety := rfl
@[simp] theorem State.answerError_rings (s : State) : (s.answerError).rings = s.rings := rfl
@[simp] theorem State.answerError_cache (s : State) : (s.answerError).cache = s.cache := rfl
@[simp] theorem State.answerError_moves (s : State) : (s.answerError).moves = s.moves := rfl
@[simp] theorem State.answerError_power (s : State) : (s.answerError).power = s.power := rfl
@[simp] theorem State.answerError_vis (s : State) : (s.answerError).vis = s.vis := rfl
@[simp] theorem State.answerError_bridge (s : State) : (s.answerError).bridge = s.bridge := rfl
@[simp] theorem State.answerError_engines (s : State) : (s.answerError).engines = s.engines := rfl
@[simp] theorem State.answerError_signals (s : State) : (s.answerError).signals = s.signals := rfl
@[simp] theorem State.answerError_saves (s : State) : (s.answerError).saves = s.saves := rfl
@[simp] theorem State.answerError_ipp (s : State) : (s.answerError).ipp = s.ipp := rfl
@[simp] theorem State.answerError_net (s : State) : (s.answerError).net = s.net := rfl
@[simp] theorem State.answerError_tahr (s : State) : (s.answerError).tahr = s.tahr := rfl
@[simp] theorem State.answerError_gateway (s : State) : (s.answerError).gateway = s.gateway := rfl
@[simp] theorem State.answerError_display (s : State) : (s.answerError).display = s.display := rfl
@[simp] theorem State.answerError_pending (s : State) : (s.answerError).pending = s.pending := rfl

/-! ### send -/

@[simp] theorem State.send_regs (s : State) (m : Sent) : (s.send m).regs = s.regs := rfl
@[simp] theorem State.send_mem (s : State) (m : Sent) : (s.send m).mem = s.mem := rfl
@[simp] theorem State.send_resp (s : State) (m : Sent) : (s.send m).resp = s.resp := rfl
@[simp] theorem State.send_freeCtr (s : State) (m : Sent) : (s.send m).freeCtr = s.freeCtr := rfl
@[simp] theorem State.send_periods (s : State) (m : Sent) : (s.send m).periods = s.periods := rfl
@[simp] theorem State.send_devFine (s : State) (m : Sent) : (s.send m).devFine = s.devFine := rfl
@[simp] theorem State.send_err (s : State) (m : Sent) : (s.send m).err = s.err := rfl
@[simp] theorem State.send_flash (s : State) (m : Sent) : (s.send m).flash = s.flash := rfl
@[simp] theorem State.send_boot (s : State) (m : Sent) : (s.send m).boot = s.boot := rfl
@[simp] theorem State.send_fw (s : State) (m : Sent) : (s.send m).fw = s.fw := rfl
@[simp] theorem State.send_poisonWords (s : State) (m : Sent) : (s.send m).poisonWords = s.poisonWords := rfl
@[simp] theorem State.send_poisonLines (s : State) (m : Sent) : (s.send m).poisonLines = s.poisonLines := rfl
@[simp] theorem State.send_softWords (s : State) (m : Sent) : (s.send m).softWords = s.softWords := rfl
@[simp] theorem State.send_softLines (s : State) (m : Sent) : (s.send m).softLines = s.softLines := rfl
@[simp] theorem State.send_hardWords (s : State) (m : Sent) : (s.send m).hardWords = s.hardWords := rfl
@[simp] theorem State.send_hardLines (s : State) (m : Sent) : (s.send m).hardLines = s.hardLines := rfl
@[simp] theorem State.send_secureLines (s : State) (m : Sent) : (s.send m).secureLines = s.secureLines := rfl
@[simp] theorem State.send_opens (s : State) (m : Sent) : (s.send m).opens = s.opens := rfl
@[simp] theorem State.send_sched (s : State) (m : Sent) : (s.send m).sched = s.sched := rfl
@[simp] theorem State.send_gft (s : State) (m : Sent) : (s.send m).gft = s.gft := rfl
@[simp] theorem State.send_safety (s : State) (m : Sent) : (s.send m).safety = s.safety := rfl
@[simp] theorem State.send_rings (s : State) (m : Sent) : (s.send m).rings = s.rings := rfl
@[simp] theorem State.send_cache (s : State) (m : Sent) : (s.send m).cache = s.cache := rfl
@[simp] theorem State.send_moves (s : State) (m : Sent) : (s.send m).moves = s.moves := rfl
@[simp] theorem State.send_power (s : State) (m : Sent) : (s.send m).power = s.power := rfl
@[simp] theorem State.send_vis (s : State) (m : Sent) : (s.send m).vis = s.vis := rfl
@[simp] theorem State.send_bridge (s : State) (m : Sent) : (s.send m).bridge = s.bridge := rfl
@[simp] theorem State.send_engines (s : State) (m : Sent) : (s.send m).engines = s.engines := rfl
@[simp] theorem State.send_signals (s : State) (m : Sent) : (s.send m).signals = s.signals := rfl
@[simp] theorem State.send_saves (s : State) (m : Sent) : (s.send m).saves = s.saves := rfl
@[simp] theorem State.send_ipp (s : State) (m : Sent) : (s.send m).ipp = s.ipp := rfl
@[simp] theorem State.send_net (s : State) (m : Sent) : (s.send m).net = s.net := rfl
@[simp] theorem State.send_tahr (s : State) (m : Sent) : (s.send m).tahr = s.tahr := rfl
@[simp] theorem State.send_gateway (s : State) (m : Sent) : (s.send m).gateway = s.gateway := rfl
@[simp] theorem State.send_display (s : State) (m : Sent) : (s.send m).display = s.display := rfl
@[simp] theorem State.send_pending (s : State) (m : Sent) : (s.send m).pending = s.pending := rfl

/-! ### raiseRec -/

@[simp] theorem State.raiseRec_regs (s : State) (r : ErrRec) : (s.raiseRec r).regs = s.regs := rfl
@[simp] theorem State.raiseRec_mem (s : State) (r : ErrRec) : (s.raiseRec r).mem = s.mem := rfl
@[simp] theorem State.raiseRec_resp (s : State) (r : ErrRec) : (s.raiseRec r).resp = s.resp := rfl
@[simp] theorem State.raiseRec_sent (s : State) (r : ErrRec) : (s.raiseRec r).sent = s.sent := rfl
@[simp] theorem State.raiseRec_freeCtr (s : State) (r : ErrRec) : (s.raiseRec r).freeCtr = s.freeCtr := rfl
@[simp] theorem State.raiseRec_periods (s : State) (r : ErrRec) : (s.raiseRec r).periods = s.periods := rfl
@[simp] theorem State.raiseRec_devFine (s : State) (r : ErrRec) : (s.raiseRec r).devFine = s.devFine := rfl
@[simp] theorem State.raiseRec_flash (s : State) (r : ErrRec) : (s.raiseRec r).flash = s.flash := rfl
@[simp] theorem State.raiseRec_boot (s : State) (r : ErrRec) : (s.raiseRec r).boot = s.boot := rfl
@[simp] theorem State.raiseRec_fw (s : State) (r : ErrRec) : (s.raiseRec r).fw = s.fw := rfl
@[simp] theorem State.raiseRec_poisonWords (s : State) (r : ErrRec) : (s.raiseRec r).poisonWords = s.poisonWords := rfl
@[simp] theorem State.raiseRec_poisonLines (s : State) (r : ErrRec) : (s.raiseRec r).poisonLines = s.poisonLines := rfl
@[simp] theorem State.raiseRec_softWords (s : State) (r : ErrRec) : (s.raiseRec r).softWords = s.softWords := rfl
@[simp] theorem State.raiseRec_softLines (s : State) (r : ErrRec) : (s.raiseRec r).softLines = s.softLines := rfl
@[simp] theorem State.raiseRec_hardWords (s : State) (r : ErrRec) : (s.raiseRec r).hardWords = s.hardWords := rfl
@[simp] theorem State.raiseRec_hardLines (s : State) (r : ErrRec) : (s.raiseRec r).hardLines = s.hardLines := rfl
@[simp] theorem State.raiseRec_secureLines (s : State) (r : ErrRec) : (s.raiseRec r).secureLines = s.secureLines := rfl
@[simp] theorem State.raiseRec_opens (s : State) (r : ErrRec) : (s.raiseRec r).opens = s.opens := rfl
@[simp] theorem State.raiseRec_sched (s : State) (r : ErrRec) : (s.raiseRec r).sched = s.sched := rfl
@[simp] theorem State.raiseRec_gft (s : State) (r : ErrRec) : (s.raiseRec r).gft = s.gft := rfl
@[simp] theorem State.raiseRec_safety (s : State) (r : ErrRec) : (s.raiseRec r).safety = s.safety := rfl
@[simp] theorem State.raiseRec_rings (s : State) (r : ErrRec) : (s.raiseRec r).rings = s.rings := rfl
@[simp] theorem State.raiseRec_cache (s : State) (r : ErrRec) : (s.raiseRec r).cache = s.cache := rfl
@[simp] theorem State.raiseRec_moves (s : State) (r : ErrRec) : (s.raiseRec r).moves = s.moves := rfl
@[simp] theorem State.raiseRec_power (s : State) (r : ErrRec) : (s.raiseRec r).power = s.power := rfl
@[simp] theorem State.raiseRec_vis (s : State) (r : ErrRec) : (s.raiseRec r).vis = s.vis := rfl
@[simp] theorem State.raiseRec_bridge (s : State) (r : ErrRec) : (s.raiseRec r).bridge = s.bridge := rfl
@[simp] theorem State.raiseRec_engines (s : State) (r : ErrRec) : (s.raiseRec r).engines = s.engines := rfl
@[simp] theorem State.raiseRec_signals (s : State) (r : ErrRec) : (s.raiseRec r).signals = s.signals := rfl
@[simp] theorem State.raiseRec_saves (s : State) (r : ErrRec) : (s.raiseRec r).saves = s.saves := rfl
@[simp] theorem State.raiseRec_ipp (s : State) (r : ErrRec) : (s.raiseRec r).ipp = s.ipp := rfl
@[simp] theorem State.raiseRec_net (s : State) (r : ErrRec) : (s.raiseRec r).net = s.net := rfl
@[simp] theorem State.raiseRec_tahr (s : State) (r : ErrRec) : (s.raiseRec r).tahr = s.tahr := rfl
@[simp] theorem State.raiseRec_gateway (s : State) (r : ErrRec) : (s.raiseRec r).gateway = s.gateway := rfl
@[simp] theorem State.raiseRec_display (s : State) (r : ErrRec) : (s.raiseRec r).display = s.display := rfl
@[simp] theorem State.raiseRec_pending (s : State) (r : ErrRec) : (s.raiseRec r).pending = s.pending := rfl

/-! ### raiseSide -/

@[simp] theorem State.raiseSide_regs (s : State) (r : ErrRec) : (s.raiseSide r).regs = s.regs := rfl
@[simp] theorem State.raiseSide_mem (s : State) (r : ErrRec) : (s.raiseSide r).mem = s.mem := rfl
@[simp] theorem State.raiseSide_resp (s : State) (r : ErrRec) : (s.raiseSide r).resp = s.resp := rfl
@[simp] theorem State.raiseSide_sent (s : State) (r : ErrRec) : (s.raiseSide r).sent = s.sent := rfl
@[simp] theorem State.raiseSide_freeCtr (s : State) (r : ErrRec) : (s.raiseSide r).freeCtr = s.freeCtr := rfl
@[simp] theorem State.raiseSide_periods (s : State) (r : ErrRec) : (s.raiseSide r).periods = s.periods := rfl
@[simp] theorem State.raiseSide_devFine (s : State) (r : ErrRec) : (s.raiseSide r).devFine = s.devFine := rfl
@[simp] theorem State.raiseSide_flash (s : State) (r : ErrRec) : (s.raiseSide r).flash = s.flash := rfl
@[simp] theorem State.raiseSide_boot (s : State) (r : ErrRec) : (s.raiseSide r).boot = s.boot := rfl
@[simp] theorem State.raiseSide_fw (s : State) (r : ErrRec) : (s.raiseSide r).fw = s.fw := rfl
@[simp] theorem State.raiseSide_poisonWords (s : State) (r : ErrRec) : (s.raiseSide r).poisonWords = s.poisonWords := rfl
@[simp] theorem State.raiseSide_poisonLines (s : State) (r : ErrRec) : (s.raiseSide r).poisonLines = s.poisonLines := rfl
@[simp] theorem State.raiseSide_softWords (s : State) (r : ErrRec) : (s.raiseSide r).softWords = s.softWords := rfl
@[simp] theorem State.raiseSide_softLines (s : State) (r : ErrRec) : (s.raiseSide r).softLines = s.softLines := rfl
@[simp] theorem State.raiseSide_hardWords (s : State) (r : ErrRec) : (s.raiseSide r).hardWords = s.hardWords := rfl
@[simp] theorem State.raiseSide_hardLines (s : State) (r : ErrRec) : (s.raiseSide r).hardLines = s.hardLines := rfl
@[simp] theorem State.raiseSide_secureLines (s : State) (r : ErrRec) : (s.raiseSide r).secureLines = s.secureLines := rfl
@[simp] theorem State.raiseSide_opens (s : State) (r : ErrRec) : (s.raiseSide r).opens = s.opens := rfl
@[simp] theorem State.raiseSide_sched (s : State) (r : ErrRec) : (s.raiseSide r).sched = s.sched := rfl
@[simp] theorem State.raiseSide_gft (s : State) (r : ErrRec) : (s.raiseSide r).gft = s.gft := rfl
@[simp] theorem State.raiseSide_safety (s : State) (r : ErrRec) : (s.raiseSide r).safety = s.safety := rfl
@[simp] theorem State.raiseSide_rings (s : State) (r : ErrRec) : (s.raiseSide r).rings = s.rings := rfl
@[simp] theorem State.raiseSide_cache (s : State) (r : ErrRec) : (s.raiseSide r).cache = s.cache := rfl
@[simp] theorem State.raiseSide_moves (s : State) (r : ErrRec) : (s.raiseSide r).moves = s.moves := rfl
@[simp] theorem State.raiseSide_power (s : State) (r : ErrRec) : (s.raiseSide r).power = s.power := rfl
@[simp] theorem State.raiseSide_vis (s : State) (r : ErrRec) : (s.raiseSide r).vis = s.vis := rfl
@[simp] theorem State.raiseSide_bridge (s : State) (r : ErrRec) : (s.raiseSide r).bridge = s.bridge := rfl
@[simp] theorem State.raiseSide_engines (s : State) (r : ErrRec) : (s.raiseSide r).engines = s.engines := rfl
@[simp] theorem State.raiseSide_signals (s : State) (r : ErrRec) : (s.raiseSide r).signals = s.signals := rfl
@[simp] theorem State.raiseSide_saves (s : State) (r : ErrRec) : (s.raiseSide r).saves = s.saves := rfl
@[simp] theorem State.raiseSide_ipp (s : State) (r : ErrRec) : (s.raiseSide r).ipp = s.ipp := rfl
@[simp] theorem State.raiseSide_net (s : State) (r : ErrRec) : (s.raiseSide r).net = s.net := rfl
@[simp] theorem State.raiseSide_tahr (s : State) (r : ErrRec) : (s.raiseSide r).tahr = s.tahr := rfl
@[simp] theorem State.raiseSide_gateway (s : State) (r : ErrRec) : (s.raiseSide r).gateway = s.gateway := rfl
@[simp] theorem State.raiseSide_display (s : State) (r : ErrRec) : (s.raiseSide r).display = s.display := rfl
@[simp] theorem State.raiseSide_pending (s : State) (r : ErrRec) : (s.raiseSide r).pending = s.pending := rfl

/-! ### raiseFollow -/

@[simp] theorem State.raiseFollow_regs (s : State) (r : ErrRec) : (s.raiseFollow r).regs = s.regs := rfl
@[simp] theorem State.raiseFollow_mem (s : State) (r : ErrRec) : (s.raiseFollow r).mem = s.mem := rfl
@[simp] theorem State.raiseFollow_resp (s : State) (r : ErrRec) : (s.raiseFollow r).resp = s.resp := rfl
@[simp] theorem State.raiseFollow_sent (s : State) (r : ErrRec) : (s.raiseFollow r).sent = s.sent := rfl
@[simp] theorem State.raiseFollow_freeCtr (s : State) (r : ErrRec) : (s.raiseFollow r).freeCtr = s.freeCtr := rfl
@[simp] theorem State.raiseFollow_periods (s : State) (r : ErrRec) : (s.raiseFollow r).periods = s.periods := rfl
@[simp] theorem State.raiseFollow_devFine (s : State) (r : ErrRec) : (s.raiseFollow r).devFine = s.devFine := rfl
@[simp] theorem State.raiseFollow_flash (s : State) (r : ErrRec) : (s.raiseFollow r).flash = s.flash := rfl
@[simp] theorem State.raiseFollow_boot (s : State) (r : ErrRec) : (s.raiseFollow r).boot = s.boot := rfl
@[simp] theorem State.raiseFollow_fw (s : State) (r : ErrRec) : (s.raiseFollow r).fw = s.fw := rfl
@[simp] theorem State.raiseFollow_poisonWords (s : State) (r : ErrRec) : (s.raiseFollow r).poisonWords = s.poisonWords := rfl
@[simp] theorem State.raiseFollow_poisonLines (s : State) (r : ErrRec) : (s.raiseFollow r).poisonLines = s.poisonLines := rfl
@[simp] theorem State.raiseFollow_softWords (s : State) (r : ErrRec) : (s.raiseFollow r).softWords = s.softWords := rfl
@[simp] theorem State.raiseFollow_softLines (s : State) (r : ErrRec) : (s.raiseFollow r).softLines = s.softLines := rfl
@[simp] theorem State.raiseFollow_hardWords (s : State) (r : ErrRec) : (s.raiseFollow r).hardWords = s.hardWords := rfl
@[simp] theorem State.raiseFollow_hardLines (s : State) (r : ErrRec) : (s.raiseFollow r).hardLines = s.hardLines := rfl
@[simp] theorem State.raiseFollow_secureLines (s : State) (r : ErrRec) : (s.raiseFollow r).secureLines = s.secureLines := rfl
@[simp] theorem State.raiseFollow_opens (s : State) (r : ErrRec) : (s.raiseFollow r).opens = s.opens := rfl
@[simp] theorem State.raiseFollow_sched (s : State) (r : ErrRec) : (s.raiseFollow r).sched = s.sched := rfl
@[simp] theorem State.raiseFollow_gft (s : State) (r : ErrRec) : (s.raiseFollow r).gft = s.gft := rfl
@[simp] theorem State.raiseFollow_safety (s : State) (r : ErrRec) : (s.raiseFollow r).safety = s.safety := rfl
@[simp] theorem State.raiseFollow_rings (s : State) (r : ErrRec) : (s.raiseFollow r).rings = s.rings := rfl
@[simp] theorem State.raiseFollow_cache (s : State) (r : ErrRec) : (s.raiseFollow r).cache = s.cache := rfl
@[simp] theorem State.raiseFollow_moves (s : State) (r : ErrRec) : (s.raiseFollow r).moves = s.moves := rfl
@[simp] theorem State.raiseFollow_power (s : State) (r : ErrRec) : (s.raiseFollow r).power = s.power := rfl
@[simp] theorem State.raiseFollow_vis (s : State) (r : ErrRec) : (s.raiseFollow r).vis = s.vis := rfl
@[simp] theorem State.raiseFollow_bridge (s : State) (r : ErrRec) : (s.raiseFollow r).bridge = s.bridge := rfl
@[simp] theorem State.raiseFollow_engines (s : State) (r : ErrRec) : (s.raiseFollow r).engines = s.engines := rfl
@[simp] theorem State.raiseFollow_signals (s : State) (r : ErrRec) : (s.raiseFollow r).signals = s.signals := rfl
@[simp] theorem State.raiseFollow_saves (s : State) (r : ErrRec) : (s.raiseFollow r).saves = s.saves := rfl
@[simp] theorem State.raiseFollow_ipp (s : State) (r : ErrRec) : (s.raiseFollow r).ipp = s.ipp := rfl
@[simp] theorem State.raiseFollow_net (s : State) (r : ErrRec) : (s.raiseFollow r).net = s.net := rfl
@[simp] theorem State.raiseFollow_tahr (s : State) (r : ErrRec) : (s.raiseFollow r).tahr = s.tahr := rfl
@[simp] theorem State.raiseFollow_gateway (s : State) (r : ErrRec) : (s.raiseFollow r).gateway = s.gateway := rfl
@[simp] theorem State.raiseFollow_display (s : State) (r : ErrRec) : (s.raiseFollow r).display = s.display := rfl
@[simp] theorem State.raiseFollow_pending (s : State) (r : ErrRec) : (s.raiseFollow r).pending = s.pending := rfl

/-! ### newEvent -/

@[simp] theorem State.newEvent_regs (s : State) : (s.newEvent).regs = s.regs := rfl
@[simp] theorem State.newEvent_mem (s : State) : (s.newEvent).mem = s.mem := rfl
@[simp] theorem State.newEvent_resp (s : State) : (s.newEvent).resp = s.resp := rfl
@[simp] theorem State.newEvent_sent (s : State) : (s.newEvent).sent = s.sent := rfl
@[simp] theorem State.newEvent_freeCtr (s : State) : (s.newEvent).freeCtr = s.freeCtr := rfl
@[simp] theorem State.newEvent_periods (s : State) : (s.newEvent).periods = s.periods := rfl
@[simp] theorem State.newEvent_devFine (s : State) : (s.newEvent).devFine = s.devFine := rfl
@[simp] theorem State.newEvent_flash (s : State) : (s.newEvent).flash = s.flash := rfl
@[simp] theorem State.newEvent_boot (s : State) : (s.newEvent).boot = s.boot := rfl
@[simp] theorem State.newEvent_fw (s : State) : (s.newEvent).fw = s.fw := rfl
@[simp] theorem State.newEvent_poisonWords (s : State) : (s.newEvent).poisonWords = s.poisonWords := rfl
@[simp] theorem State.newEvent_poisonLines (s : State) : (s.newEvent).poisonLines = s.poisonLines := rfl
@[simp] theorem State.newEvent_softWords (s : State) : (s.newEvent).softWords = s.softWords := rfl
@[simp] theorem State.newEvent_softLines (s : State) : (s.newEvent).softLines = s.softLines := rfl
@[simp] theorem State.newEvent_hardWords (s : State) : (s.newEvent).hardWords = s.hardWords := rfl
@[simp] theorem State.newEvent_hardLines (s : State) : (s.newEvent).hardLines = s.hardLines := rfl
@[simp] theorem State.newEvent_secureLines (s : State) : (s.newEvent).secureLines = s.secureLines := rfl
@[simp] theorem State.newEvent_opens (s : State) : (s.newEvent).opens = s.opens := rfl
@[simp] theorem State.newEvent_sched (s : State) : (s.newEvent).sched = s.sched := rfl
@[simp] theorem State.newEvent_gft (s : State) : (s.newEvent).gft = s.gft := rfl
@[simp] theorem State.newEvent_safety (s : State) : (s.newEvent).safety = s.safety := rfl
@[simp] theorem State.newEvent_rings (s : State) : (s.newEvent).rings = s.rings := rfl
@[simp] theorem State.newEvent_cache (s : State) : (s.newEvent).cache = s.cache := rfl
@[simp] theorem State.newEvent_moves (s : State) : (s.newEvent).moves = s.moves := rfl
@[simp] theorem State.newEvent_power (s : State) : (s.newEvent).power = s.power := rfl
@[simp] theorem State.newEvent_vis (s : State) : (s.newEvent).vis = s.vis := rfl
@[simp] theorem State.newEvent_bridge (s : State) : (s.newEvent).bridge = s.bridge := rfl
@[simp] theorem State.newEvent_engines (s : State) : (s.newEvent).engines = s.engines := rfl
@[simp] theorem State.newEvent_signals (s : State) : (s.newEvent).signals = s.signals := rfl
@[simp] theorem State.newEvent_saves (s : State) : (s.newEvent).saves = s.saves := rfl
@[simp] theorem State.newEvent_ipp (s : State) : (s.newEvent).ipp = s.ipp := rfl
@[simp] theorem State.newEvent_net (s : State) : (s.newEvent).net = s.net := rfl
@[simp] theorem State.newEvent_tahr (s : State) : (s.newEvent).tahr = s.tahr := rfl
@[simp] theorem State.newEvent_gateway (s : State) : (s.newEvent).gateway = s.gateway := rfl
@[simp] theorem State.newEvent_display (s : State) : (s.newEvent).display = s.display := rfl
@[simp] theorem State.newEvent_pending (s : State) : (s.newEvent).pending = s.pending := rfl

/-! ### tick -/

@[simp] theorem State.tick_regs (s : State) : (s.tick).regs = s.regs := rfl
@[simp] theorem State.tick_mem (s : State) : (s.tick).mem = s.mem := rfl
@[simp] theorem State.tick_resp (s : State) : (s.tick).resp = s.resp := rfl
@[simp] theorem State.tick_sent (s : State) : (s.tick).sent = s.sent := rfl
@[simp] theorem State.tick_freeCtr (s : State) : (s.tick).freeCtr = s.freeCtr := rfl
@[simp] theorem State.tick_err (s : State) : (s.tick).err = s.err := rfl
@[simp] theorem State.tick_flash (s : State) : (s.tick).flash = s.flash := rfl
@[simp] theorem State.tick_boot (s : State) : (s.tick).boot = s.boot := rfl
@[simp] theorem State.tick_fw (s : State) : (s.tick).fw = s.fw := rfl
@[simp] theorem State.tick_poisonWords (s : State) : (s.tick).poisonWords = s.poisonWords := rfl
@[simp] theorem State.tick_poisonLines (s : State) : (s.tick).poisonLines = s.poisonLines := rfl
@[simp] theorem State.tick_softWords (s : State) : (s.tick).softWords = s.softWords := rfl
@[simp] theorem State.tick_softLines (s : State) : (s.tick).softLines = s.softLines := rfl
@[simp] theorem State.tick_hardWords (s : State) : (s.tick).hardWords = s.hardWords := rfl
@[simp] theorem State.tick_hardLines (s : State) : (s.tick).hardLines = s.hardLines := rfl
@[simp] theorem State.tick_secureLines (s : State) : (s.tick).secureLines = s.secureLines := rfl
@[simp] theorem State.tick_opens (s : State) : (s.tick).opens = s.opens := rfl
@[simp] theorem State.tick_sched (s : State) : (s.tick).sched = s.sched := rfl
@[simp] theorem State.tick_gft (s : State) : (s.tick).gft = s.gft := rfl
@[simp] theorem State.tick_safety (s : State) : (s.tick).safety = s.safety := rfl
@[simp] theorem State.tick_rings (s : State) : (s.tick).rings = s.rings := rfl
@[simp] theorem State.tick_cache (s : State) : (s.tick).cache = s.cache := rfl
@[simp] theorem State.tick_moves (s : State) : (s.tick).moves = s.moves := rfl
@[simp] theorem State.tick_power (s : State) : (s.tick).power = s.power := rfl
@[simp] theorem State.tick_vis (s : State) : (s.tick).vis = s.vis := rfl
@[simp] theorem State.tick_bridge (s : State) : (s.tick).bridge = s.bridge := rfl
@[simp] theorem State.tick_engines (s : State) : (s.tick).engines = s.engines := rfl
@[simp] theorem State.tick_signals (s : State) : (s.tick).signals = s.signals := rfl
@[simp] theorem State.tick_saves (s : State) : (s.tick).saves = s.saves := rfl
@[simp] theorem State.tick_ipp (s : State) : (s.tick).ipp = s.ipp := rfl
@[simp] theorem State.tick_net (s : State) : (s.tick).net = s.net := rfl
@[simp] theorem State.tick_tahr (s : State) : (s.tick).tahr = s.tahr := rfl
@[simp] theorem State.tick_gateway (s : State) : (s.tick).gateway = s.gateway := rfl
@[simp] theorem State.tick_display (s : State) : (s.tick).display = s.display := rfl
@[simp] theorem State.tick_pending (s : State) : (s.tick).pending = s.pending := rfl

/-! ### setTahrSeq -/

@[simp] theorem State.setTahrSeq_regs (s : State) (n : Nat) (x : TahrSeq) : (s.setTahrSeq n x).regs = s.regs := rfl
@[simp] theorem State.setTahrSeq_mem (s : State) (n : Nat) (x : TahrSeq) : (s.setTahrSeq n x).mem = s.mem := rfl
@[simp] theorem State.setTahrSeq_resp (s : State) (n : Nat) (x : TahrSeq) : (s.setTahrSeq n x).resp = s.resp := rfl
@[simp] theorem State.setTahrSeq_sent (s : State) (n : Nat) (x : TahrSeq) : (s.setTahrSeq n x).sent = s.sent := rfl
@[simp] theorem State.setTahrSeq_freeCtr (s : State) (n : Nat) (x : TahrSeq) : (s.setTahrSeq n x).freeCtr = s.freeCtr := rfl
@[simp] theorem State.setTahrSeq_periods (s : State) (n : Nat) (x : TahrSeq) : (s.setTahrSeq n x).periods = s.periods := rfl
@[simp] theorem State.setTahrSeq_devFine (s : State) (n : Nat) (x : TahrSeq) : (s.setTahrSeq n x).devFine = s.devFine := rfl
@[simp] theorem State.setTahrSeq_err (s : State) (n : Nat) (x : TahrSeq) : (s.setTahrSeq n x).err = s.err := rfl
@[simp] theorem State.setTahrSeq_flash (s : State) (n : Nat) (x : TahrSeq) : (s.setTahrSeq n x).flash = s.flash := rfl
@[simp] theorem State.setTahrSeq_boot (s : State) (n : Nat) (x : TahrSeq) : (s.setTahrSeq n x).boot = s.boot := rfl
@[simp] theorem State.setTahrSeq_fw (s : State) (n : Nat) (x : TahrSeq) : (s.setTahrSeq n x).fw = s.fw := rfl
@[simp] theorem State.setTahrSeq_poisonWords (s : State) (n : Nat) (x : TahrSeq) : (s.setTahrSeq n x).poisonWords = s.poisonWords := rfl
@[simp] theorem State.setTahrSeq_poisonLines (s : State) (n : Nat) (x : TahrSeq) : (s.setTahrSeq n x).poisonLines = s.poisonLines := rfl
@[simp] theorem State.setTahrSeq_softWords (s : State) (n : Nat) (x : TahrSeq) : (s.setTahrSeq n x).softWords = s.softWords := rfl
@[simp] theorem State.setTahrSeq_softLines (s : State) (n : Nat) (x : TahrSeq) : (s.setTahrSeq n x).softLines = s.softLines := rfl
@[simp] theorem State.setTahrSeq_hardWords (s : State) (n : Nat) (x : TahrSeq) : (s.setTahrSeq n x).hardWords = s.hardWords := rfl
@[simp] theorem State.setTahrSeq_hardLines (s : State) (n : Nat) (x : TahrSeq) : (s.setTahrSeq n x).hardLines = s.hardLines := rfl
@[simp] theorem State.setTahrSeq_secureLines (s : State) (n : Nat) (x : TahrSeq) : (s.setTahrSeq n x).secureLines = s.secureLines := rfl
@[simp] theorem State.setTahrSeq_opens (s : State) (n : Nat) (x : TahrSeq) : (s.setTahrSeq n x).opens = s.opens := rfl
@[simp] theorem State.setTahrSeq_sched (s : State) (n : Nat) (x : TahrSeq) : (s.setTahrSeq n x).sched = s.sched := rfl
@[simp] theorem State.setTahrSeq_gft (s : State) (n : Nat) (x : TahrSeq) : (s.setTahrSeq n x).gft = s.gft := rfl
@[simp] theorem State.setTahrSeq_safety (s : State) (n : Nat) (x : TahrSeq) : (s.setTahrSeq n x).safety = s.safety := rfl
@[simp] theorem State.setTahrSeq_rings (s : State) (n : Nat) (x : TahrSeq) : (s.setTahrSeq n x).rings = s.rings := rfl
@[simp] theorem State.setTahrSeq_cache (s : State) (n : Nat) (x : TahrSeq) : (s.setTahrSeq n x).cache = s.cache := rfl
@[simp] theorem State.setTahrSeq_moves (s : State) (n : Nat) (x : TahrSeq) : (s.setTahrSeq n x).moves = s.moves := rfl
@[simp] theorem State.setTahrSeq_power (s : State) (n : Nat) (x : TahrSeq) : (s.setTahrSeq n x).power = s.power := rfl
@[simp] theorem State.setTahrSeq_vis (s : State) (n : Nat) (x : TahrSeq) : (s.setTahrSeq n x).vis = s.vis := rfl
@[simp] theorem State.setTahrSeq_bridge (s : State) (n : Nat) (x : TahrSeq) : (s.setTahrSeq n x).bridge = s.bridge := rfl
@[simp] theorem State.setTahrSeq_engines (s : State) (n : Nat) (x : TahrSeq) : (s.setTahrSeq n x).engines = s.engines := rfl
@[simp] theorem State.setTahrSeq_signals (s : State) (n : Nat) (x : TahrSeq) : (s.setTahrSeq n x).signals = s.signals := rfl
@[simp] theorem State.setTahrSeq_saves (s : State) (n : Nat) (x : TahrSeq) : (s.setTahrSeq n x).saves = s.saves := rfl
@[simp] theorem State.setTahrSeq_ipp (s : State) (n : Nat) (x : TahrSeq) : (s.setTahrSeq n x).ipp = s.ipp := rfl
@[simp] theorem State.setTahrSeq_net (s : State) (n : Nat) (x : TahrSeq) : (s.setTahrSeq n x).net = s.net := rfl
@[simp] theorem State.setTahrSeq_gateway (s : State) (n : Nat) (x : TahrSeq) : (s.setTahrSeq n x).gateway = s.gateway := rfl
@[simp] theorem State.setTahrSeq_display (s : State) (n : Nat) (x : TahrSeq) : (s.setTahrSeq n x).display = s.display := rfl
@[simp] theorem State.setTahrSeq_pending (s : State) (n : Nat) (x : TahrSeq) : (s.setTahrSeq n x).pending = s.pending := rfl

/-! ### setEng -/

@[simp] theorem State.setEng_regs (s : State) (n : Nat) (e : Engine) : (s.setEng n e).regs = s.regs := rfl
@[simp] theorem State.setEng_mem (s : State) (n : Nat) (e : Engine) : (s.setEng n e).mem = s.mem := rfl
@[simp] theorem State.setEng_resp (s : State) (n : Nat) (e : Engine) : (s.setEng n e).resp = s.resp := rfl
@[simp] theorem State.setEng_sent (s : State) (n : Nat) (e : Engine) : (s.setEng n e).sent = s.sent := rfl
@[simp] theorem State.setEng_freeCtr (s : State) (n : Nat) (e : Engine) : (s.setEng n e).freeCtr = s.freeCtr := rfl
@[simp] theorem State.setEng_periods (s : State) (n : Nat) (e : Engine) : (s.setEng n e).periods = s.periods := rfl
@[simp] theorem State.setEng_devFine (s : State) (n : Nat) (e : Engine) : (s.setEng n e).devFine = s.devFine := rfl
@[simp] theorem State.setEng_err (s : State) (n : Nat) (e : Engine) : (s.setEng n e).err = s.err := rfl
@[simp] theorem State.setEng_flash (s : State) (n : Nat) (e : Engine) : (s.setEng n e).flash = s.flash := rfl
@[simp] theorem State.setEng_boot (s : State) (n : Nat) (e : Engine) : (s.setEng n e).boot = s.boot := rfl
@[simp] theorem State.setEng_fw (s : State) (n : Nat) (e : Engine) : (s.setEng n e).fw = s.fw := rfl
@[simp] theorem State.setEng_poisonWords (s : State) (n : Nat) (e : Engine) : (s.setEng n e).poisonWords = s.poisonWords := rfl
@[simp] theorem State.setEng_poisonLines (s : State) (n : Nat) (e : Engine) : (s.setEng n e).poisonLines = s.poisonLines := rfl
@[simp] theorem State.setEng_softWords (s : State) (n : Nat) (e : Engine) : (s.setEng n e).softWords = s.softWords := rfl
@[simp] theorem State.setEng_softLines (s : State) (n : Nat) (e : Engine) : (s.setEng n e).softLines = s.softLines := rfl
@[simp] theorem State.setEng_hardWords (s : State) (n : Nat) (e : Engine) : (s.setEng n e).hardWords = s.hardWords := rfl
@[simp] theorem State.setEng_hardLines (s : State) (n : Nat) (e : Engine) : (s.setEng n e).hardLines = s.hardLines := rfl
@[simp] theorem State.setEng_secureLines (s : State) (n : Nat) (e : Engine) : (s.setEng n e).secureLines = s.secureLines := rfl
@[simp] theorem State.setEng_opens (s : State) (n : Nat) (e : Engine) : (s.setEng n e).opens = s.opens := rfl
@[simp] theorem State.setEng_sched (s : State) (n : Nat) (e : Engine) : (s.setEng n e).sched = s.sched := rfl
@[simp] theorem State.setEng_gft (s : State) (n : Nat) (e : Engine) : (s.setEng n e).gft = s.gft := rfl
@[simp] theorem State.setEng_safety (s : State) (n : Nat) (e : Engine) : (s.setEng n e).safety = s.safety := rfl
@[simp] theorem State.setEng_rings (s : State) (n : Nat) (e : Engine) : (s.setEng n e).rings = s.rings := rfl
@[simp] theorem State.setEng_cache (s : State) (n : Nat) (e : Engine) : (s.setEng n e).cache = s.cache := rfl
@[simp] theorem State.setEng_moves (s : State) (n : Nat) (e : Engine) : (s.setEng n e).moves = s.moves := rfl
@[simp] theorem State.setEng_power (s : State) (n : Nat) (e : Engine) : (s.setEng n e).power = s.power := rfl
@[simp] theorem State.setEng_vis (s : State) (n : Nat) (e : Engine) : (s.setEng n e).vis = s.vis := rfl
@[simp] theorem State.setEng_bridge (s : State) (n : Nat) (e : Engine) : (s.setEng n e).bridge = s.bridge := rfl
@[simp] theorem State.setEng_signals (s : State) (n : Nat) (e : Engine) : (s.setEng n e).signals = s.signals := rfl
@[simp] theorem State.setEng_saves (s : State) (n : Nat) (e : Engine) : (s.setEng n e).saves = s.saves := rfl
@[simp] theorem State.setEng_ipp (s : State) (n : Nat) (e : Engine) : (s.setEng n e).ipp = s.ipp := rfl
@[simp] theorem State.setEng_net (s : State) (n : Nat) (e : Engine) : (s.setEng n e).net = s.net := rfl
@[simp] theorem State.setEng_tahr (s : State) (n : Nat) (e : Engine) : (s.setEng n e).tahr = s.tahr := rfl
@[simp] theorem State.setEng_gateway (s : State) (n : Nat) (e : Engine) : (s.setEng n e).gateway = s.gateway := rfl
@[simp] theorem State.setEng_display (s : State) (n : Nat) (e : Engine) : (s.setEng n e).display = s.display := rfl
@[simp] theorem State.setEng_pending (s : State) (n : Nat) (e : Engine) : (s.setEng n e).pending = s.pending := rfl

/-! ### setRing -/

@[simp] theorem State.setRing_regs (s : State) (n : Nat) (r : RingState) : (s.setRing n r).regs = s.regs := rfl
@[simp] theorem State.setRing_mem (s : State) (n : Nat) (r : RingState) : (s.setRing n r).mem = s.mem := rfl
@[simp] theorem State.setRing_resp (s : State) (n : Nat) (r : RingState) : (s.setRing n r).resp = s.resp := rfl
@[simp] theorem State.setRing_sent (s : State) (n : Nat) (r : RingState) : (s.setRing n r).sent = s.sent := rfl
@[simp] theorem State.setRing_freeCtr (s : State) (n : Nat) (r : RingState) : (s.setRing n r).freeCtr = s.freeCtr := rfl
@[simp] theorem State.setRing_periods (s : State) (n : Nat) (r : RingState) : (s.setRing n r).periods = s.periods := rfl
@[simp] theorem State.setRing_devFine (s : State) (n : Nat) (r : RingState) : (s.setRing n r).devFine = s.devFine := rfl
@[simp] theorem State.setRing_err (s : State) (n : Nat) (r : RingState) : (s.setRing n r).err = s.err := rfl
@[simp] theorem State.setRing_flash (s : State) (n : Nat) (r : RingState) : (s.setRing n r).flash = s.flash := rfl
@[simp] theorem State.setRing_boot (s : State) (n : Nat) (r : RingState) : (s.setRing n r).boot = s.boot := rfl
@[simp] theorem State.setRing_fw (s : State) (n : Nat) (r : RingState) : (s.setRing n r).fw = s.fw := rfl
@[simp] theorem State.setRing_poisonWords (s : State) (n : Nat) (r : RingState) : (s.setRing n r).poisonWords = s.poisonWords := rfl
@[simp] theorem State.setRing_poisonLines (s : State) (n : Nat) (r : RingState) : (s.setRing n r).poisonLines = s.poisonLines := rfl
@[simp] theorem State.setRing_softWords (s : State) (n : Nat) (r : RingState) : (s.setRing n r).softWords = s.softWords := rfl
@[simp] theorem State.setRing_softLines (s : State) (n : Nat) (r : RingState) : (s.setRing n r).softLines = s.softLines := rfl
@[simp] theorem State.setRing_hardWords (s : State) (n : Nat) (r : RingState) : (s.setRing n r).hardWords = s.hardWords := rfl
@[simp] theorem State.setRing_hardLines (s : State) (n : Nat) (r : RingState) : (s.setRing n r).hardLines = s.hardLines := rfl
@[simp] theorem State.setRing_secureLines (s : State) (n : Nat) (r : RingState) : (s.setRing n r).secureLines = s.secureLines := rfl
@[simp] theorem State.setRing_opens (s : State) (n : Nat) (r : RingState) : (s.setRing n r).opens = s.opens := rfl
@[simp] theorem State.setRing_sched (s : State) (n : Nat) (r : RingState) : (s.setRing n r).sched = s.sched := rfl
@[simp] theorem State.setRing_gft (s : State) (n : Nat) (r : RingState) : (s.setRing n r).gft = s.gft := rfl
@[simp] theorem State.setRing_safety (s : State) (n : Nat) (r : RingState) : (s.setRing n r).safety = s.safety := rfl
@[simp] theorem State.setRing_cache (s : State) (n : Nat) (r : RingState) : (s.setRing n r).cache = s.cache := rfl
@[simp] theorem State.setRing_moves (s : State) (n : Nat) (r : RingState) : (s.setRing n r).moves = s.moves := rfl
@[simp] theorem State.setRing_power (s : State) (n : Nat) (r : RingState) : (s.setRing n r).power = s.power := rfl
@[simp] theorem State.setRing_vis (s : State) (n : Nat) (r : RingState) : (s.setRing n r).vis = s.vis := rfl
@[simp] theorem State.setRing_bridge (s : State) (n : Nat) (r : RingState) : (s.setRing n r).bridge = s.bridge := rfl
@[simp] theorem State.setRing_engines (s : State) (n : Nat) (r : RingState) : (s.setRing n r).engines = s.engines := rfl
@[simp] theorem State.setRing_signals (s : State) (n : Nat) (r : RingState) : (s.setRing n r).signals = s.signals := rfl
@[simp] theorem State.setRing_saves (s : State) (n : Nat) (r : RingState) : (s.setRing n r).saves = s.saves := rfl
@[simp] theorem State.setRing_ipp (s : State) (n : Nat) (r : RingState) : (s.setRing n r).ipp = s.ipp := rfl
@[simp] theorem State.setRing_net (s : State) (n : Nat) (r : RingState) : (s.setRing n r).net = s.net := rfl
@[simp] theorem State.setRing_tahr (s : State) (n : Nat) (r : RingState) : (s.setRing n r).tahr = s.tahr := rfl
@[simp] theorem State.setRing_gateway (s : State) (n : Nat) (r : RingState) : (s.setRing n r).gateway = s.gateway := rfl
@[simp] theorem State.setRing_display (s : State) (n : Nat) (r : RingState) : (s.setRing n r).display = s.display := rfl
@[simp] theorem State.setRing_pending (s : State) (n : Nat) (r : RingState) : (s.setRing n r).pending = s.pending := rfl

/-! ### setGft -/

@[simp] theorem State.setGft_regs (s : State) (n : Nat) (x : GftEngine) : (s.setGft n x).regs = s.regs := rfl
@[simp] theorem State.setGft_mem (s : State) (n : Nat) (x : GftEngine) : (s.setGft n x).mem = s.mem := rfl
@[simp] theorem State.setGft_resp (s : State) (n : Nat) (x : GftEngine) : (s.setGft n x).resp = s.resp := rfl
@[simp] theorem State.setGft_sent (s : State) (n : Nat) (x : GftEngine) : (s.setGft n x).sent = s.sent := rfl
@[simp] theorem State.setGft_freeCtr (s : State) (n : Nat) (x : GftEngine) : (s.setGft n x).freeCtr = s.freeCtr := rfl
@[simp] theorem State.setGft_periods (s : State) (n : Nat) (x : GftEngine) : (s.setGft n x).periods = s.periods := rfl
@[simp] theorem State.setGft_devFine (s : State) (n : Nat) (x : GftEngine) : (s.setGft n x).devFine = s.devFine := rfl
@[simp] theorem State.setGft_err (s : State) (n : Nat) (x : GftEngine) : (s.setGft n x).err = s.err := rfl
@[simp] theorem State.setGft_flash (s : State) (n : Nat) (x : GftEngine) : (s.setGft n x).flash = s.flash := rfl
@[simp] theorem State.setGft_boot (s : State) (n : Nat) (x : GftEngine) : (s.setGft n x).boot = s.boot := rfl
@[simp] theorem State.setGft_fw (s : State) (n : Nat) (x : GftEngine) : (s.setGft n x).fw = s.fw := rfl
@[simp] theorem State.setGft_poisonWords (s : State) (n : Nat) (x : GftEngine) : (s.setGft n x).poisonWords = s.poisonWords := rfl
@[simp] theorem State.setGft_poisonLines (s : State) (n : Nat) (x : GftEngine) : (s.setGft n x).poisonLines = s.poisonLines := rfl
@[simp] theorem State.setGft_softWords (s : State) (n : Nat) (x : GftEngine) : (s.setGft n x).softWords = s.softWords := rfl
@[simp] theorem State.setGft_softLines (s : State) (n : Nat) (x : GftEngine) : (s.setGft n x).softLines = s.softLines := rfl
@[simp] theorem State.setGft_hardWords (s : State) (n : Nat) (x : GftEngine) : (s.setGft n x).hardWords = s.hardWords := rfl
@[simp] theorem State.setGft_hardLines (s : State) (n : Nat) (x : GftEngine) : (s.setGft n x).hardLines = s.hardLines := rfl
@[simp] theorem State.setGft_secureLines (s : State) (n : Nat) (x : GftEngine) : (s.setGft n x).secureLines = s.secureLines := rfl
@[simp] theorem State.setGft_opens (s : State) (n : Nat) (x : GftEngine) : (s.setGft n x).opens = s.opens := rfl
@[simp] theorem State.setGft_sched (s : State) (n : Nat) (x : GftEngine) : (s.setGft n x).sched = s.sched := rfl
@[simp] theorem State.setGft_safety (s : State) (n : Nat) (x : GftEngine) : (s.setGft n x).safety = s.safety := rfl
@[simp] theorem State.setGft_rings (s : State) (n : Nat) (x : GftEngine) : (s.setGft n x).rings = s.rings := rfl
@[simp] theorem State.setGft_cache (s : State) (n : Nat) (x : GftEngine) : (s.setGft n x).cache = s.cache := rfl
@[simp] theorem State.setGft_moves (s : State) (n : Nat) (x : GftEngine) : (s.setGft n x).moves = s.moves := rfl
@[simp] theorem State.setGft_power (s : State) (n : Nat) (x : GftEngine) : (s.setGft n x).power = s.power := rfl
@[simp] theorem State.setGft_vis (s : State) (n : Nat) (x : GftEngine) : (s.setGft n x).vis = s.vis := rfl
@[simp] theorem State.setGft_bridge (s : State) (n : Nat) (x : GftEngine) : (s.setGft n x).bridge = s.bridge := rfl
@[simp] theorem State.setGft_engines (s : State) (n : Nat) (x : GftEngine) : (s.setGft n x).engines = s.engines := rfl
@[simp] theorem State.setGft_signals (s : State) (n : Nat) (x : GftEngine) : (s.setGft n x).signals = s.signals := rfl
@[simp] theorem State.setGft_saves (s : State) (n : Nat) (x : GftEngine) : (s.setGft n x).saves = s.saves := rfl
@[simp] theorem State.setGft_ipp (s : State) (n : Nat) (x : GftEngine) : (s.setGft n x).ipp = s.ipp := rfl
@[simp] theorem State.setGft_net (s : State) (n : Nat) (x : GftEngine) : (s.setGft n x).net = s.net := rfl
@[simp] theorem State.setGft_tahr (s : State) (n : Nat) (x : GftEngine) : (s.setGft n x).tahr = s.tahr := rfl
@[simp] theorem State.setGft_gateway (s : State) (n : Nat) (x : GftEngine) : (s.setGft n x).gateway = s.gateway := rfl
@[simp] theorem State.setGft_display (s : State) (n : Nat) (x : GftEngine) : (s.setGft n x).display = s.display := rfl
@[simp] theorem State.setGft_pending (s : State) (n : Nat) (x : GftEngine) : (s.setGft n x).pending = s.pending := rfl

/-! ### setCq -/

@[simp] theorem State.setCq_regs (s : State) (q : Nat) (c : CqState) : (s.setCq q c).regs = s.regs := rfl
@[simp] theorem State.setCq_mem (s : State) (q : Nat) (c : CqState) : (s.setCq q c).mem = s.mem := rfl
@[simp] theorem State.setCq_resp (s : State) (q : Nat) (c : CqState) : (s.setCq q c).resp = s.resp := rfl
@[simp] theorem State.setCq_sent (s : State) (q : Nat) (c : CqState) : (s.setCq q c).sent = s.sent := rfl
@[simp] theorem State.setCq_freeCtr (s : State) (q : Nat) (c : CqState) : (s.setCq q c).freeCtr = s.freeCtr := rfl
@[simp] theorem State.setCq_periods (s : State) (q : Nat) (c : CqState) : (s.setCq q c).periods = s.periods := rfl
@[simp] theorem State.setCq_devFine (s : State) (q : Nat) (c : CqState) : (s.setCq q c).devFine = s.devFine := rfl
@[simp] theorem State.setCq_err (s : State) (q : Nat) (c : CqState) : (s.setCq q c).err = s.err := rfl
@[simp] theorem State.setCq_flash (s : State) (q : Nat) (c : CqState) : (s.setCq q c).flash = s.flash := rfl
@[simp] theorem State.setCq_boot (s : State) (q : Nat) (c : CqState) : (s.setCq q c).boot = s.boot := rfl
@[simp] theorem State.setCq_fw (s : State) (q : Nat) (c : CqState) : (s.setCq q c).fw = s.fw := rfl
@[simp] theorem State.setCq_poisonWords (s : State) (q : Nat) (c : CqState) : (s.setCq q c).poisonWords = s.poisonWords := rfl
@[simp] theorem State.setCq_poisonLines (s : State) (q : Nat) (c : CqState) : (s.setCq q c).poisonLines = s.poisonLines := rfl
@[simp] theorem State.setCq_softWords (s : State) (q : Nat) (c : CqState) : (s.setCq q c).softWords = s.softWords := rfl
@[simp] theorem State.setCq_softLines (s : State) (q : Nat) (c : CqState) : (s.setCq q c).softLines = s.softLines := rfl
@[simp] theorem State.setCq_hardWords (s : State) (q : Nat) (c : CqState) : (s.setCq q c).hardWords = s.hardWords := rfl
@[simp] theorem State.setCq_hardLines (s : State) (q : Nat) (c : CqState) : (s.setCq q c).hardLines = s.hardLines := rfl
@[simp] theorem State.setCq_secureLines (s : State) (q : Nat) (c : CqState) : (s.setCq q c).secureLines = s.secureLines := rfl
@[simp] theorem State.setCq_opens (s : State) (q : Nat) (c : CqState) : (s.setCq q c).opens = s.opens := rfl
@[simp] theorem State.setCq_gft (s : State) (q : Nat) (c : CqState) : (s.setCq q c).gft = s.gft := rfl
@[simp] theorem State.setCq_safety (s : State) (q : Nat) (c : CqState) : (s.setCq q c).safety = s.safety := rfl
@[simp] theorem State.setCq_rings (s : State) (q : Nat) (c : CqState) : (s.setCq q c).rings = s.rings := rfl
@[simp] theorem State.setCq_cache (s : State) (q : Nat) (c : CqState) : (s.setCq q c).cache = s.cache := rfl
@[simp] theorem State.setCq_moves (s : State) (q : Nat) (c : CqState) : (s.setCq q c).moves = s.moves := rfl
@[simp] theorem State.setCq_power (s : State) (q : Nat) (c : CqState) : (s.setCq q c).power = s.power := rfl
@[simp] theorem State.setCq_vis (s : State) (q : Nat) (c : CqState) : (s.setCq q c).vis = s.vis := rfl
@[simp] theorem State.setCq_bridge (s : State) (q : Nat) (c : CqState) : (s.setCq q c).bridge = s.bridge := rfl
@[simp] theorem State.setCq_engines (s : State) (q : Nat) (c : CqState) : (s.setCq q c).engines = s.engines := rfl
@[simp] theorem State.setCq_signals (s : State) (q : Nat) (c : CqState) : (s.setCq q c).signals = s.signals := rfl
@[simp] theorem State.setCq_saves (s : State) (q : Nat) (c : CqState) : (s.setCq q c).saves = s.saves := rfl
@[simp] theorem State.setCq_ipp (s : State) (q : Nat) (c : CqState) : (s.setCq q c).ipp = s.ipp := rfl
@[simp] theorem State.setCq_net (s : State) (q : Nat) (c : CqState) : (s.setCq q c).net = s.net := rfl
@[simp] theorem State.setCq_tahr (s : State) (q : Nat) (c : CqState) : (s.setCq q c).tahr = s.tahr := rfl
@[simp] theorem State.setCq_gateway (s : State) (q : Nat) (c : CqState) : (s.setCq q c).gateway = s.gateway := rfl
@[simp] theorem State.setCq_display (s : State) (q : Nat) (c : CqState) : (s.setCq q c).display = s.display := rfl
@[simp] theorem State.setCq_pending (s : State) (q : Nat) (c : CqState) : (s.setCq q c).pending = s.pending := rfl

/-! ### setEthPort -/

@[simp] theorem State.setEthPort_regs (s : State) (p : Nat) (x : EthPort) : (s.setEthPort p x).regs = s.regs := rfl
@[simp] theorem State.setEthPort_mem (s : State) (p : Nat) (x : EthPort) : (s.setEthPort p x).mem = s.mem := rfl
@[simp] theorem State.setEthPort_resp (s : State) (p : Nat) (x : EthPort) : (s.setEthPort p x).resp = s.resp := rfl
@[simp] theorem State.setEthPort_sent (s : State) (p : Nat) (x : EthPort) : (s.setEthPort p x).sent = s.sent := rfl
@[simp] theorem State.setEthPort_freeCtr (s : State) (p : Nat) (x : EthPort) : (s.setEthPort p x).freeCtr = s.freeCtr := rfl
@[simp] theorem State.setEthPort_periods (s : State) (p : Nat) (x : EthPort) : (s.setEthPort p x).periods = s.periods := rfl
@[simp] theorem State.setEthPort_devFine (s : State) (p : Nat) (x : EthPort) : (s.setEthPort p x).devFine = s.devFine := rfl
@[simp] theorem State.setEthPort_err (s : State) (p : Nat) (x : EthPort) : (s.setEthPort p x).err = s.err := rfl
@[simp] theorem State.setEthPort_flash (s : State) (p : Nat) (x : EthPort) : (s.setEthPort p x).flash = s.flash := rfl
@[simp] theorem State.setEthPort_boot (s : State) (p : Nat) (x : EthPort) : (s.setEthPort p x).boot = s.boot := rfl
@[simp] theorem State.setEthPort_fw (s : State) (p : Nat) (x : EthPort) : (s.setEthPort p x).fw = s.fw := rfl
@[simp] theorem State.setEthPort_poisonWords (s : State) (p : Nat) (x : EthPort) : (s.setEthPort p x).poisonWords = s.poisonWords := rfl
@[simp] theorem State.setEthPort_poisonLines (s : State) (p : Nat) (x : EthPort) : (s.setEthPort p x).poisonLines = s.poisonLines := rfl
@[simp] theorem State.setEthPort_softWords (s : State) (p : Nat) (x : EthPort) : (s.setEthPort p x).softWords = s.softWords := rfl
@[simp] theorem State.setEthPort_softLines (s : State) (p : Nat) (x : EthPort) : (s.setEthPort p x).softLines = s.softLines := rfl
@[simp] theorem State.setEthPort_hardWords (s : State) (p : Nat) (x : EthPort) : (s.setEthPort p x).hardWords = s.hardWords := rfl
@[simp] theorem State.setEthPort_hardLines (s : State) (p : Nat) (x : EthPort) : (s.setEthPort p x).hardLines = s.hardLines := rfl
@[simp] theorem State.setEthPort_secureLines (s : State) (p : Nat) (x : EthPort) : (s.setEthPort p x).secureLines = s.secureLines := rfl
@[simp] theorem State.setEthPort_opens (s : State) (p : Nat) (x : EthPort) : (s.setEthPort p x).opens = s.opens := rfl
@[simp] theorem State.setEthPort_sched (s : State) (p : Nat) (x : EthPort) : (s.setEthPort p x).sched = s.sched := rfl
@[simp] theorem State.setEthPort_gft (s : State) (p : Nat) (x : EthPort) : (s.setEthPort p x).gft = s.gft := rfl
@[simp] theorem State.setEthPort_safety (s : State) (p : Nat) (x : EthPort) : (s.setEthPort p x).safety = s.safety := rfl
@[simp] theorem State.setEthPort_rings (s : State) (p : Nat) (x : EthPort) : (s.setEthPort p x).rings = s.rings := rfl
@[simp] theorem State.setEthPort_cache (s : State) (p : Nat) (x : EthPort) : (s.setEthPort p x).cache = s.cache := rfl
@[simp] theorem State.setEthPort_moves (s : State) (p : Nat) (x : EthPort) : (s.setEthPort p x).moves = s.moves := rfl
@[simp] theorem State.setEthPort_power (s : State) (p : Nat) (x : EthPort) : (s.setEthPort p x).power = s.power := rfl
@[simp] theorem State.setEthPort_vis (s : State) (p : Nat) (x : EthPort) : (s.setEthPort p x).vis = s.vis := rfl
@[simp] theorem State.setEthPort_bridge (s : State) (p : Nat) (x : EthPort) : (s.setEthPort p x).bridge = s.bridge := rfl
@[simp] theorem State.setEthPort_engines (s : State) (p : Nat) (x : EthPort) : (s.setEthPort p x).engines = s.engines := rfl
@[simp] theorem State.setEthPort_signals (s : State) (p : Nat) (x : EthPort) : (s.setEthPort p x).signals = s.signals := rfl
@[simp] theorem State.setEthPort_saves (s : State) (p : Nat) (x : EthPort) : (s.setEthPort p x).saves = s.saves := rfl
@[simp] theorem State.setEthPort_ipp (s : State) (p : Nat) (x : EthPort) : (s.setEthPort p x).ipp = s.ipp := rfl
@[simp] theorem State.setEthPort_tahr (s : State) (p : Nat) (x : EthPort) : (s.setEthPort p x).tahr = s.tahr := rfl
@[simp] theorem State.setEthPort_gateway (s : State) (p : Nat) (x : EthPort) : (s.setEthPort p x).gateway = s.gateway := rfl
@[simp] theorem State.setEthPort_display (s : State) (p : Nat) (x : EthPort) : (s.setEthPort p x).display = s.display := rfl
@[simp] theorem State.setEthPort_pending (s : State) (p : Nat) (x : EthPort) : (s.setEthPort p x).pending = s.pending := rfl

/-! ### setIppGroup -/

@[simp] theorem State.setIppGroup_regs (s : State) (g : Nat) (x : IppGroup) : (s.setIppGroup g x).regs = s.regs := rfl
@[simp] theorem State.setIppGroup_mem (s : State) (g : Nat) (x : IppGroup) : (s.setIppGroup g x).mem = s.mem := rfl
@[simp] theorem State.setIppGroup_resp (s : State) (g : Nat) (x : IppGroup) : (s.setIppGroup g x).resp = s.resp := rfl
@[simp] theorem State.setIppGroup_sent (s : State) (g : Nat) (x : IppGroup) : (s.setIppGroup g x).sent = s.sent := rfl
@[simp] theorem State.setIppGroup_freeCtr (s : State) (g : Nat) (x : IppGroup) : (s.setIppGroup g x).freeCtr = s.freeCtr := rfl
@[simp] theorem State.setIppGroup_periods (s : State) (g : Nat) (x : IppGroup) : (s.setIppGroup g x).periods = s.periods := rfl
@[simp] theorem State.setIppGroup_devFine (s : State) (g : Nat) (x : IppGroup) : (s.setIppGroup g x).devFine = s.devFine := rfl
@[simp] theorem State.setIppGroup_err (s : State) (g : Nat) (x : IppGroup) : (s.setIppGroup g x).err = s.err := rfl
@[simp] theorem State.setIppGroup_flash (s : State) (g : Nat) (x : IppGroup) : (s.setIppGroup g x).flash = s.flash := rfl
@[simp] theorem State.setIppGroup_boot (s : State) (g : Nat) (x : IppGroup) : (s.setIppGroup g x).boot = s.boot := rfl
@[simp] theorem State.setIppGroup_fw (s : State) (g : Nat) (x : IppGroup) : (s.setIppGroup g x).fw = s.fw := rfl
@[simp] theorem State.setIppGroup_poisonWords (s : State) (g : Nat) (x : IppGroup) : (s.setIppGroup g x).poisonWords = s.poisonWords := rfl
@[simp] theorem State.setIppGroup_poisonLines (s : State) (g : Nat) (x : IppGroup) : (s.setIppGroup g x).poisonLines = s.poisonLines := rfl
@[simp] theorem State.setIppGroup_softWords (s : State) (g : Nat) (x : IppGroup) : (s.setIppGroup g x).softWords = s.softWords := rfl
@[simp] theorem State.setIppGroup_softLines (s : State) (g : Nat) (x : IppGroup) : (s.setIppGroup g x).softLines = s.softLines := rfl
@[simp] theorem State.setIppGroup_hardWords (s : State) (g : Nat) (x : IppGroup) : (s.setIppGroup g x).hardWords = s.hardWords := rfl
@[simp] theorem State.setIppGroup_hardLines (s : State) (g : Nat) (x : IppGroup) : (s.setIppGroup g x).hardLines = s.hardLines := rfl
@[simp] theorem State.setIppGroup_secureLines (s : State) (g : Nat) (x : IppGroup) : (s.setIppGroup g x).secureLines = s.secureLines := rfl
@[simp] theorem State.setIppGroup_opens (s : State) (g : Nat) (x : IppGroup) : (s.setIppGroup g x).opens = s.opens := rfl
@[simp] theorem State.setIppGroup_sched (s : State) (g : Nat) (x : IppGroup) : (s.setIppGroup g x).sched = s.sched := rfl
@[simp] theorem State.setIppGroup_gft (s : State) (g : Nat) (x : IppGroup) : (s.setIppGroup g x).gft = s.gft := rfl
@[simp] theorem State.setIppGroup_safety (s : State) (g : Nat) (x : IppGroup) : (s.setIppGroup g x).safety = s.safety := rfl
@[simp] theorem State.setIppGroup_rings (s : State) (g : Nat) (x : IppGroup) : (s.setIppGroup g x).rings = s.rings := rfl
@[simp] theorem State.setIppGroup_cache (s : State) (g : Nat) (x : IppGroup) : (s.setIppGroup g x).cache = s.cache := rfl
@[simp] theorem State.setIppGroup_moves (s : State) (g : Nat) (x : IppGroup) : (s.setIppGroup g x).moves = s.moves := rfl
@[simp] theorem State.setIppGroup_power (s : State) (g : Nat) (x : IppGroup) : (s.setIppGroup g x).power = s.power := rfl
@[simp] theorem State.setIppGroup_vis (s : State) (g : Nat) (x : IppGroup) : (s.setIppGroup g x).vis = s.vis := rfl
@[simp] theorem State.setIppGroup_bridge (s : State) (g : Nat) (x : IppGroup) : (s.setIppGroup g x).bridge = s.bridge := rfl
@[simp] theorem State.setIppGroup_engines (s : State) (g : Nat) (x : IppGroup) : (s.setIppGroup g x).engines = s.engines := rfl
@[simp] theorem State.setIppGroup_signals (s : State) (g : Nat) (x : IppGroup) : (s.setIppGroup g x).signals = s.signals := rfl
@[simp] theorem State.setIppGroup_saves (s : State) (g : Nat) (x : IppGroup) : (s.setIppGroup g x).saves = s.saves := rfl
@[simp] theorem State.setIppGroup_net (s : State) (g : Nat) (x : IppGroup) : (s.setIppGroup g x).net = s.net := rfl
@[simp] theorem State.setIppGroup_tahr (s : State) (g : Nat) (x : IppGroup) : (s.setIppGroup g x).tahr = s.tahr := rfl
@[simp] theorem State.setIppGroup_gateway (s : State) (g : Nat) (x : IppGroup) : (s.setIppGroup g x).gateway = s.gateway := rfl
@[simp] theorem State.setIppGroup_display (s : State) (g : Nat) (x : IppGroup) : (s.setIppGroup g x).display = s.display := rfl
@[simp] theorem State.setIppGroup_pending (s : State) (g : Nat) (x : IppGroup) : (s.setIppGroup g x).pending = s.pending := rfl

/-! ### setIppStream -/

@[simp] theorem State.setIppStream_regs (s : State) (n : Nat) (x : IppStream) : (s.setIppStream n x).regs = s.regs := rfl
@[simp] theorem State.setIppStream_mem (s : State) (n : Nat) (x : IppStream) : (s.setIppStream n x).mem = s.mem := rfl
@[simp] theorem State.setIppStream_resp (s : State) (n : Nat) (x : IppStream) : (s.setIppStream n x).resp = s.resp := rfl
@[simp] theorem State.setIppStream_sent (s : State) (n : Nat) (x : IppStream) : (s.setIppStream n x).sent = s.sent := rfl
@[simp] theorem State.setIppStream_freeCtr (s : State) (n : Nat) (x : IppStream) : (s.setIppStream n x).freeCtr = s.freeCtr := rfl
@[simp] theorem State.setIppStream_periods (s : State) (n : Nat) (x : IppStream) : (s.setIppStream n x).periods = s.periods := rfl
@[simp] theorem State.setIppStream_devFine (s : State) (n : Nat) (x : IppStream) : (s.setIppStream n x).devFine = s.devFine := rfl
@[simp] theorem State.setIppStream_err (s : State) (n : Nat) (x : IppStream) : (s.setIppStream n x).err = s.err := rfl
@[simp] theorem State.setIppStream_flash (s : State) (n : Nat) (x : IppStream) : (s.setIppStream n x).flash = s.flash := rfl
@[simp] theorem State.setIppStream_boot (s : State) (n : Nat) (x : IppStream) : (s.setIppStream n x).boot = s.boot := rfl
@[simp] theorem State.setIppStream_fw (s : State) (n : Nat) (x : IppStream) : (s.setIppStream n x).fw = s.fw := rfl
@[simp] theorem State.setIppStream_poisonWords (s : State) (n : Nat) (x : IppStream) : (s.setIppStream n x).poisonWords = s.poisonWords := rfl
@[simp] theorem State.setIppStream_poisonLines (s : State) (n : Nat) (x : IppStream) : (s.setIppStream n x).poisonLines = s.poisonLines := rfl
@[simp] theorem State.setIppStream_softWords (s : State) (n : Nat) (x : IppStream) : (s.setIppStream n x).softWords = s.softWords := rfl
@[simp] theorem State.setIppStream_softLines (s : State) (n : Nat) (x : IppStream) : (s.setIppStream n x).softLines = s.softLines := rfl
@[simp] theorem State.setIppStream_hardWords (s : State) (n : Nat) (x : IppStream) : (s.setIppStream n x).hardWords = s.hardWords := rfl
@[simp] theorem State.setIppStream_hardLines (s : State) (n : Nat) (x : IppStream) : (s.setIppStream n x).hardLines = s.hardLines := rfl
@[simp] theorem State.setIppStream_secureLines (s : State) (n : Nat) (x : IppStream) : (s.setIppStream n x).secureLines = s.secureLines := rfl
@[simp] theorem State.setIppStream_opens (s : State) (n : Nat) (x : IppStream) : (s.setIppStream n x).opens = s.opens := rfl
@[simp] theorem State.setIppStream_sched (s : State) (n : Nat) (x : IppStream) : (s.setIppStream n x).sched = s.sched := rfl
@[simp] theorem State.setIppStream_gft (s : State) (n : Nat) (x : IppStream) : (s.setIppStream n x).gft = s.gft := rfl
@[simp] theorem State.setIppStream_safety (s : State) (n : Nat) (x : IppStream) : (s.setIppStream n x).safety = s.safety := rfl
@[simp] theorem State.setIppStream_rings (s : State) (n : Nat) (x : IppStream) : (s.setIppStream n x).rings = s.rings := rfl
@[simp] theorem State.setIppStream_cache (s : State) (n : Nat) (x : IppStream) : (s.setIppStream n x).cache = s.cache := rfl
@[simp] theorem State.setIppStream_moves (s : State) (n : Nat) (x : IppStream) : (s.setIppStream n x).moves = s.moves := rfl
@[simp] theorem State.setIppStream_power (s : State) (n : Nat) (x : IppStream) : (s.setIppStream n x).power = s.power := rfl
@[simp] theorem State.setIppStream_vis (s : State) (n : Nat) (x : IppStream) : (s.setIppStream n x).vis = s.vis := rfl
@[simp] theorem State.setIppStream_bridge (s : State) (n : Nat) (x : IppStream) : (s.setIppStream n x).bridge = s.bridge := rfl
@[simp] theorem State.setIppStream_engines (s : State) (n : Nat) (x : IppStream) : (s.setIppStream n x).engines = s.engines := rfl
@[simp] theorem State.setIppStream_signals (s : State) (n : Nat) (x : IppStream) : (s.setIppStream n x).signals = s.signals := rfl
@[simp] theorem State.setIppStream_saves (s : State) (n : Nat) (x : IppStream) : (s.setIppStream n x).saves = s.saves := rfl
@[simp] theorem State.setIppStream_net (s : State) (n : Nat) (x : IppStream) : (s.setIppStream n x).net = s.net := rfl
@[simp] theorem State.setIppStream_tahr (s : State) (n : Nat) (x : IppStream) : (s.setIppStream n x).tahr = s.tahr := rfl
@[simp] theorem State.setIppStream_gateway (s : State) (n : Nat) (x : IppStream) : (s.setIppStream n x).gateway = s.gateway := rfl
@[simp] theorem State.setIppStream_display (s : State) (n : Nat) (x : IppStream) : (s.setIppStream n x).display = s.display := rfl
@[simp] theorem State.setIppStream_pending (s : State) (n : Nat) (x : IppStream) : (s.setIppStream n x).pending = s.pending := rfl

/-! ### setPipe -/

@[simp] theorem State.setPipe_regs (s : State) (p : Nat) (x : DspPipe) : (s.setPipe p x).regs = s.regs := rfl
@[simp] theorem State.setPipe_mem (s : State) (p : Nat) (x : DspPipe) : (s.setPipe p x).mem = s.mem := rfl
@[simp] theorem State.setPipe_resp (s : State) (p : Nat) (x : DspPipe) : (s.setPipe p x).resp = s.resp := rfl
@[simp] theorem State.setPipe_sent (s : State) (p : Nat) (x : DspPipe) : (s.setPipe p x).sent = s.sent := rfl
@[simp] theorem State.setPipe_freeCtr (s : State) (p : Nat) (x : DspPipe) : (s.setPipe p x).freeCtr = s.freeCtr := rfl
@[simp] theorem State.setPipe_periods (s : State) (p : Nat) (x : DspPipe) : (s.setPipe p x).periods = s.periods := rfl
@[simp] theorem State.setPipe_devFine (s : State) (p : Nat) (x : DspPipe) : (s.setPipe p x).devFine = s.devFine := rfl
@[simp] theorem State.setPipe_err (s : State) (p : Nat) (x : DspPipe) : (s.setPipe p x).err = s.err := rfl
@[simp] theorem State.setPipe_flash (s : State) (p : Nat) (x : DspPipe) : (s.setPipe p x).flash = s.flash := rfl
@[simp] theorem State.setPipe_boot (s : State) (p : Nat) (x : DspPipe) : (s.setPipe p x).boot = s.boot := rfl
@[simp] theorem State.setPipe_fw (s : State) (p : Nat) (x : DspPipe) : (s.setPipe p x).fw = s.fw := rfl
@[simp] theorem State.setPipe_poisonWords (s : State) (p : Nat) (x : DspPipe) : (s.setPipe p x).poisonWords = s.poisonWords := rfl
@[simp] theorem State.setPipe_poisonLines (s : State) (p : Nat) (x : DspPipe) : (s.setPipe p x).poisonLines = s.poisonLines := rfl
@[simp] theorem State.setPipe_softWords (s : State) (p : Nat) (x : DspPipe) : (s.setPipe p x).softWords = s.softWords := rfl
@[simp] theorem State.setPipe_softLines (s : State) (p : Nat) (x : DspPipe) : (s.setPipe p x).softLines = s.softLines := rfl
@[simp] theorem State.setPipe_hardWords (s : State) (p : Nat) (x : DspPipe) : (s.setPipe p x).hardWords = s.hardWords := rfl
@[simp] theorem State.setPipe_hardLines (s : State) (p : Nat) (x : DspPipe) : (s.setPipe p x).hardLines = s.hardLines := rfl
@[simp] theorem State.setPipe_secureLines (s : State) (p : Nat) (x : DspPipe) : (s.setPipe p x).secureLines = s.secureLines := rfl
@[simp] theorem State.setPipe_opens (s : State) (p : Nat) (x : DspPipe) : (s.setPipe p x).opens = s.opens := rfl
@[simp] theorem State.setPipe_sched (s : State) (p : Nat) (x : DspPipe) : (s.setPipe p x).sched = s.sched := rfl
@[simp] theorem State.setPipe_gft (s : State) (p : Nat) (x : DspPipe) : (s.setPipe p x).gft = s.gft := rfl
@[simp] theorem State.setPipe_safety (s : State) (p : Nat) (x : DspPipe) : (s.setPipe p x).safety = s.safety := rfl
@[simp] theorem State.setPipe_rings (s : State) (p : Nat) (x : DspPipe) : (s.setPipe p x).rings = s.rings := rfl
@[simp] theorem State.setPipe_cache (s : State) (p : Nat) (x : DspPipe) : (s.setPipe p x).cache = s.cache := rfl
@[simp] theorem State.setPipe_moves (s : State) (p : Nat) (x : DspPipe) : (s.setPipe p x).moves = s.moves := rfl
@[simp] theorem State.setPipe_power (s : State) (p : Nat) (x : DspPipe) : (s.setPipe p x).power = s.power := rfl
@[simp] theorem State.setPipe_vis (s : State) (p : Nat) (x : DspPipe) : (s.setPipe p x).vis = s.vis := rfl
@[simp] theorem State.setPipe_bridge (s : State) (p : Nat) (x : DspPipe) : (s.setPipe p x).bridge = s.bridge := rfl
@[simp] theorem State.setPipe_engines (s : State) (p : Nat) (x : DspPipe) : (s.setPipe p x).engines = s.engines := rfl
@[simp] theorem State.setPipe_signals (s : State) (p : Nat) (x : DspPipe) : (s.setPipe p x).signals = s.signals := rfl
@[simp] theorem State.setPipe_saves (s : State) (p : Nat) (x : DspPipe) : (s.setPipe p x).saves = s.saves := rfl
@[simp] theorem State.setPipe_ipp (s : State) (p : Nat) (x : DspPipe) : (s.setPipe p x).ipp = s.ipp := rfl
@[simp] theorem State.setPipe_net (s : State) (p : Nat) (x : DspPipe) : (s.setPipe p x).net = s.net := rfl
@[simp] theorem State.setPipe_tahr (s : State) (p : Nat) (x : DspPipe) : (s.setPipe p x).tahr = s.tahr := rfl
@[simp] theorem State.setPipe_gateway (s : State) (p : Nat) (x : DspPipe) : (s.setPipe p x).gateway = s.gateway := rfl
@[simp] theorem State.setPipe_pending (s : State) (p : Nat) (x : DspPipe) : (s.setPipe p x).pending = s.pending := rfl

/-! ### setUlkLane -/

@[simp] theorem State.setUlkLane_regs (s : State) (d l : Nat) (x : UlkLane) : (s.setUlkLane d l x).regs = s.regs := rfl
@[simp] theorem State.setUlkLane_mem (s : State) (d l : Nat) (x : UlkLane) : (s.setUlkLane d l x).mem = s.mem := rfl
@[simp] theorem State.setUlkLane_resp (s : State) (d l : Nat) (x : UlkLane) : (s.setUlkLane d l x).resp = s.resp := rfl
@[simp] theorem State.setUlkLane_sent (s : State) (d l : Nat) (x : UlkLane) : (s.setUlkLane d l x).sent = s.sent := rfl
@[simp] theorem State.setUlkLane_freeCtr (s : State) (d l : Nat) (x : UlkLane) : (s.setUlkLane d l x).freeCtr = s.freeCtr := rfl
@[simp] theorem State.setUlkLane_periods (s : State) (d l : Nat) (x : UlkLane) : (s.setUlkLane d l x).periods = s.periods := rfl
@[simp] theorem State.setUlkLane_devFine (s : State) (d l : Nat) (x : UlkLane) : (s.setUlkLane d l x).devFine = s.devFine := rfl
@[simp] theorem State.setUlkLane_err (s : State) (d l : Nat) (x : UlkLane) : (s.setUlkLane d l x).err = s.err := rfl
@[simp] theorem State.setUlkLane_flash (s : State) (d l : Nat) (x : UlkLane) : (s.setUlkLane d l x).flash = s.flash := rfl
@[simp] theorem State.setUlkLane_boot (s : State) (d l : Nat) (x : UlkLane) : (s.setUlkLane d l x).boot = s.boot := rfl
@[simp] theorem State.setUlkLane_fw (s : State) (d l : Nat) (x : UlkLane) : (s.setUlkLane d l x).fw = s.fw := rfl
@[simp] theorem State.setUlkLane_poisonWords (s : State) (d l : Nat) (x : UlkLane) : (s.setUlkLane d l x).poisonWords = s.poisonWords := rfl
@[simp] theorem State.setUlkLane_poisonLines (s : State) (d l : Nat) (x : UlkLane) : (s.setUlkLane d l x).poisonLines = s.poisonLines := rfl
@[simp] theorem State.setUlkLane_softWords (s : State) (d l : Nat) (x : UlkLane) : (s.setUlkLane d l x).softWords = s.softWords := rfl
@[simp] theorem State.setUlkLane_softLines (s : State) (d l : Nat) (x : UlkLane) : (s.setUlkLane d l x).softLines = s.softLines := rfl
@[simp] theorem State.setUlkLane_hardWords (s : State) (d l : Nat) (x : UlkLane) : (s.setUlkLane d l x).hardWords = s.hardWords := rfl
@[simp] theorem State.setUlkLane_hardLines (s : State) (d l : Nat) (x : UlkLane) : (s.setUlkLane d l x).hardLines = s.hardLines := rfl
@[simp] theorem State.setUlkLane_secureLines (s : State) (d l : Nat) (x : UlkLane) : (s.setUlkLane d l x).secureLines = s.secureLines := rfl
@[simp] theorem State.setUlkLane_opens (s : State) (d l : Nat) (x : UlkLane) : (s.setUlkLane d l x).opens = s.opens := rfl
@[simp] theorem State.setUlkLane_sched (s : State) (d l : Nat) (x : UlkLane) : (s.setUlkLane d l x).sched = s.sched := rfl
@[simp] theorem State.setUlkLane_gft (s : State) (d l : Nat) (x : UlkLane) : (s.setUlkLane d l x).gft = s.gft := rfl
@[simp] theorem State.setUlkLane_safety (s : State) (d l : Nat) (x : UlkLane) : (s.setUlkLane d l x).safety = s.safety := rfl
@[simp] theorem State.setUlkLane_rings (s : State) (d l : Nat) (x : UlkLane) : (s.setUlkLane d l x).rings = s.rings := rfl
@[simp] theorem State.setUlkLane_cache (s : State) (d l : Nat) (x : UlkLane) : (s.setUlkLane d l x).cache = s.cache := rfl
@[simp] theorem State.setUlkLane_moves (s : State) (d l : Nat) (x : UlkLane) : (s.setUlkLane d l x).moves = s.moves := rfl
@[simp] theorem State.setUlkLane_power (s : State) (d l : Nat) (x : UlkLane) : (s.setUlkLane d l x).power = s.power := rfl
@[simp] theorem State.setUlkLane_vis (s : State) (d l : Nat) (x : UlkLane) : (s.setUlkLane d l x).vis = s.vis := rfl
@[simp] theorem State.setUlkLane_bridge (s : State) (d l : Nat) (x : UlkLane) : (s.setUlkLane d l x).bridge = s.bridge := rfl
@[simp] theorem State.setUlkLane_engines (s : State) (d l : Nat) (x : UlkLane) : (s.setUlkLane d l x).engines = s.engines := rfl
@[simp] theorem State.setUlkLane_signals (s : State) (d l : Nat) (x : UlkLane) : (s.setUlkLane d l x).signals = s.signals := rfl
@[simp] theorem State.setUlkLane_saves (s : State) (d l : Nat) (x : UlkLane) : (s.setUlkLane d l x).saves = s.saves := rfl
@[simp] theorem State.setUlkLane_ipp (s : State) (d l : Nat) (x : UlkLane) : (s.setUlkLane d l x).ipp = s.ipp := rfl
@[simp] theorem State.setUlkLane_tahr (s : State) (d l : Nat) (x : UlkLane) : (s.setUlkLane d l x).tahr = s.tahr := rfl
@[simp] theorem State.setUlkLane_gateway (s : State) (d l : Nat) (x : UlkLane) : (s.setUlkLane d l x).gateway = s.gateway := rfl
@[simp] theorem State.setUlkLane_display (s : State) (d l : Nat) (x : UlkLane) : (s.setUlkLane d l x).display = s.display := rfl
@[simp] theorem State.setUlkLane_pending (s : State) (d l : Nat) (x : UlkLane) : (s.setUlkLane d l x).pending = s.pending := rfl

end Sys2Proof.Machine
end

