-- ==== Sys2Proof/Laws/Regs.lean ====
section
/-! SUPPORT. The laws of the register store: what a register and a field read after one was set. -/

namespace Sys2Proof.Machine

@[simp] theorem State.reg_setReg_same (s : State) (a v : Nat) : (s.setReg a v).reg a = v % 2 ^ 64 := by
  simp [State.reg, State.setReg]

theorem State.reg_setReg_other (s : State) {a b : Nat} (v : Nat) (h : b ≠ a) : (s.setReg a v).reg b = s.reg b := by
  have e : storeFind (s.setReg a v).regs b = storeFind s.regs b := storeFind_put_other _ _ h
  unfold State.reg
  rw [e]
  rfl

/-- A register reads alike in states whose register stores and load are alike. -/
theorem State.reg_congr {s t : State} (hr : t.regs = s.regs) (hb : t.boot.loaded = s.boot.loaded) (a : Nat) :
    t.reg a = s.reg a := by simp [State.reg, hr, hb]

theorem State.fget_congr {s t : State} (hr : t.regs = s.regs) (hb : t.boot.loaded = s.boot.loaded) (f : Fld)
    (d i u : Nat) : t.fget f d i u = s.fget f d i u := by simp [State.fget, State.reg_congr hr hb]

/-- A field that was set reads as the low bits of its value. -/
theorem State.fget_fset_same (s : State) (f : Fld) (d i u v : Nat) (h : f.lo + f.w ≤ 64) :
    (s.fset f d i u v).fget f d i u = v % 2 ^ f.w := by
  rw [State.fget, State.fset, State.reg_setReg_same, bits_mod_64 _ _ _ h, bits_setBits_same]

/-- A field of another register reads as before. -/
theorem State.fget_fset_other (s : State) (f g : Fld) (d i u e j k v : Nat)
    (h : fldAddr g e j k ≠ fldAddr f d i u) : (s.fset f d i u v).fget g e j k = s.fget g e j k := by
  simp [State.fget, State.fset, State.reg_setReg_other _ _ h]

/-- A field beside it in the same register reads as before. -/
theorem State.fget_fset_beside (s : State) (f g : Fld) (d i u e j k v : Nat)
    (ha : fldAddr g e j k = fldAddr f d i u) (hg : g.lo + g.w ≤ 64)
    (h : g.lo + g.w ≤ f.lo ∨ f.lo + f.w ≤ g.lo) : (s.fset f d i u v).fget g e j k = s.fget g e j k := by
  rw [State.fget, State.fset, ha, State.reg_setReg_same, bits_mod_64 _ _ _ hg, bits_setBits_other _ _ _ _ _ _ h,
    State.fget, ha]

/-- A register outside the one that a field lies in reads as before. -/
theorem State.reg_fset_other (s : State) (f : Fld) (d i u v : Nat) {b : Nat} (h : b ≠ fldAddr f d i u) :
    (s.fset f d i u v).reg b = s.reg b := State.reg_setReg_other _ _ h

theorem State.setReg_rises {s : State} (a v : Nat) (h : storeRises s.regs = true) :
    storeRises (s.setReg a v).regs = true := storeRises_put _ _ h

theorem State.fset_rises {s : State} (f : Fld) (d i u v : Nat) (h : storeRises s.regs = true) :
    storeRises (s.fset f d i u v).regs = true := storeRises_put _ _ h

end Sys2Proof.Machine
end

