-- ==== Sys2Proof/Tests/Base.lean ====
section
/-! SUPPORT. Small states for the tests. -/

namespace Sys2Proof.Tests

open Sys2Proof.Machine

/-- The state with fields set: field, die, instance, unit, value. -/
def withFields (s : State) (l : List (Fld × Nat × Nat × Nat × Nat)) : State :=
  l.foldl (fun s x => s.fset x.1 x.2.1 x.2.2.1 x.2.2.2.1 x.2.2.2.2) s

/-- Reset with fields set. -/
def st (l : List (Fld × Nat × Nat × Nat × Nat)) : State := withFields State.reset l

/-- The same with LPDDR6 stack 0 trained. -/
def lp (l : List (Fld × Nat × Nat × Nat × Nat)) : State := { st l with boot := { memTrained := true, stackMask := 1 } }

/-- The steward. -/
def steward : Initiator := .core 0 63

/-- An engine that runs a word, followed by a NOP, with a state of its own. -/
def engAt (te w : Nat) (e : Engine) : State :=
  { st [(F.teStatus_state, te / 16, te % 16, 0, 1)] with engines := [(te, { e with program := [w, 0] })] }

/-- Engine 0 in a golden test, whose area lies at address 0 of stack 0, running a word followed by a NOP. -/
def wTest (w : Nat) (e : Engine) : State :=
  { st [(F.teStatus_state, 0, 0, 0, 1)] with
    engines := [(0, { e with program := [w, 0] })]
    gft := [(0, { saved := [0, 0, 0] })]
    boot := { goldenWritten := 0xF, memTrained := true, stackMask := 1 }
    safety := { goldenBase := [0] } }

/-- An integer MMA of one row of one element, the last of its tile. -/
def wMmaWord : Nat := 0x31 + 2 ^ 21 + 2 ^ 39 + 2 ^ 52

def wMma : State :=
  withFields (engAt 0 wMmaWord { handles := [some ⟨0, 1, 4, 1, 1⟩, some ⟨1, 1, 4, 1, 1⟩], bankA := { maxSteps := 64 }
                                 opbuf := [(0, 3), (16384, 5)] }) [(F.teStatus_bank_a, 0, 0, 0, 1)]

/-- A COMB of one row of zero images with their CRC. -/
def wComb : State :=
  withFields (engAt 0 0x32 { handles := [some ⟨0, 1, 4, 3, 1024⟩], bankA := { maxSteps := 1 }
                             opbuf := [(1536, 45), (1537, 45), (1538, 144), (1539, 245)] })
    [(F.teStatus_bank_a, 0, 0, 0, 1)]

/-- A direct drain of one row of INT8 to memory. -/
def wDrainWord : Nat := 0x34 + 2 ^ 21 + 4 * 2 ^ 25

def wDrain : State :=
  withFields (wTest wDrainWord { bankA := { range := some (0, 1), layout := some .int80, entries := [(2, 3 * 65536)] }
                                 ags := [{ base := 0x100000 }] }) [(F.teStatus_bank_a, 0, 0, 0, 2)]

/-- 1 + 2 and a move of 1 in binary32. -/
def wVopWord : Nat := 0x40 + 2 * 2 ^ 16 + 2 ^ 24
def wVop2Word : Nat := 0x40 + 2 * 2 ^ 16 + 0xC * 2 ^ 34

def vopEngine : Engine :=
  { handles := [some ⟨0, 1, 8, 1, 4⟩, some ⟨1, 1, 8, 1, 4⟩, some ⟨2, 1, 8, 1, 4⟩]
    opbuf := [(2, 0x80), (3, 0x3F), (16387, 0x40)] }

def wVop : State := engAt 0 wVopWord vopEngine
def wVop2 : State := engAt 0 wVop2Word vopEngine

/-- Engine 0 runs a word for job 5 of instance 1, which names buffer 0 of gate 0: four granules at 0x200000 with their
shadows at 0x400000. -/
def wJob (w : Nat) (e : Engine) : State :=
  { lp [(F.teStatus_state, 0, 0, 0, 1), (F.teJob_job_ctx, 0, 0, 0, 5), (F.teJob_vi, 0, 0, 0, 1),
        (F.schJctx_state, 4, 0, 5, 1), (F.schJctx_vi, 4, 0, 5, 1), (F.schJctx_class, 4, 0, 5, 2),
        (F.cgBufCtrl_valid, 0, 0, 0, 1), (F.cgBufBase_base, 0, 0, 0, 0x200000), (F.cgBufShadow_shadow, 0, 0, 0, 0x400000),
        (F.cgBufCtrl_granules_m1, 0, 0, 0, 3), (F.cgBufCtrl_vi, 0, 0, 0, 1)] with
    engines := [(0, { e with program := [w, 0] })]
    sched := { jobs := [(5, { record := { buffers := [some (0, 0)] }, ranks := [0] })] } }

/-- The same with granule 0 OPEN for the job. -/
def wOpen (w : Nat) (e : Engine) : State :=
  { withFields (wJob w e) [(F.cgTvtEntry_state, 0, 0, 0, 1), (F.cgTvtEntry_owner, 0, 0, 0, 5)] with
    opens := [(0, { buf := 0, g := 0 })] }

/-- The same with eight tokens, all pending. -/
def wTokens (w : Nat) (e : Engine) : State :=
  { withFields (wJob w e) ((List.range 8).map (fun i => (F.cgToken_state, 0, 0, i, 1))) with
    sched := { jobs := [(5, { record := { speculative := true }, ranks := [0], tokenCount := 8 })] } }

/-- RIE over four units of one byte, the first two of which agree. -/
def wRieWord : Nat := 0x61 + 2 ^ 20 + 4 * 2 ^ 40 + 2 ^ 48

def wRie : State :=
  wTokens wRieWord { handles := [some ⟨0, 1, 1, 1, 4⟩, some ⟨1, 1, 1, 1, 4⟩], opbuf := [(2, 9)] }

/-- Engine 0 in a held cluster, below the watermark of stack 0: its program is one NOP at address 0. -/
def wHeld : State :=
  lp [(F.secHoldMap_held, 4, 0, 0, 1), (F.secWmStackN_mark, 4, 0, 0, 8192),
      (F.cfgCapsEngineMap_engine_usable, 4, 0, 0, 1)]

/-- A descriptor of one row. -/
def wDesc (op flags ev src dst len : Nat) (last : List Byte) : List Byte :=
  leBytes op 1 ++ leBytes flags 1 ++ leBytes 0 1 ++ leBytes ev 1 ++ leBytes 0 4 ++ leBytes src 8 ++ leBytes dst 8
    ++ leBytes 0 16 ++ leBytes len 4 ++ leBytes 1 2 ++ leBytes 1 2 ++ last ++ leBytes 0 8

/-- Ring 0, bound to job 5 of instance 1, whose one rank is engine 0: its descriptors lie at 0x100000, and the job may
write 64 KiB at 0x200000. -/
def wRing (d : List Byte) : State :=
  { (lp [(F.seRingHead_state, 0, 0, 0, 1), (F.seRingTail_tail, 0, 0, 0, 1), (F.seRingBase_base, 0, 0, 0, 0x100000),
      (F.seRingBase_size_log2, 0, 0, 0, 4), (F.seRingBase_job_ctx, 0, 0, 0, 5),
      (F.schJctx_state, 4, 0, 5, 1), (F.schJctx_vi, 4, 0, 5, 1), (F.schJctx_class, 4, 0, 5, 2),
      (F.viExtN_granules, 4, 0, 65, 8)]).putAt 0x100000 d with
    sched := { jobs := [(5, { record := { privates := [⟨0x200000, 0x10000, 0, false⟩] }, ranks := [0] })] } }

/-- A command entry: its code, tag 7, completion queue 16384 and arguments. -/
def wEntry (code : Nat) (args : List Nat) : List Byte :=
  leBytes code 1 ++ leBytes 0 1 ++ leBytes 7 2 ++ leBytes 16384 2 ++ leBytes 0 2
    ++ (args.map (fun v => leBytes v 8)).flatten ++ leBytes 0 (256 - 8 - 8 * args.length)

/-- System queue 61440 of instance 1 with one entry at 0x100000, its completion queue at 0x110000, and an extent of
16 MiB; die 0's first two granules are the instance's. -/
def wSys (entry : List Byte) : State :=
  (lp [(F.schQbase_base, 4, 0, 61440, 0x100000), (F.schQbase_size_log2, 4, 0, 61440, 4), (F.schQbase_vi, 4, 0, 61440, 1),
       (F.schQptr_state, 4, 0, 61440, 1), (F.schQptr_tail, 4, 0, 61440, 1),
       (F.schQbase_base, 4, 0, 16384, 0x110000), (F.schQbase_size_log2, 4, 0, 16384, 4), (F.schQbase_vi, 4, 0, 16384, 1),
       (F.schQptr_state, 4, 0, 16384, 1), (F.viExtN_granules, 4, 0, 65, 8), (F.schCtrl_fw_attached, 4, 0, 0, 1),
       (F.cfgCapsClusterMap_cluster_usable, 4, 0, 0, 1), (F.spmGranuleN_kind, 0, 0, 0, 1), (F.spmGranuleN_vi, 0, 0, 0, 1),
       (F.spmGranuleN_kind, 0, 1, 0, 1), (F.spmGranuleN_vi, 0, 1, 0, 1)]).putAt 0x100000 entry

/-- The same with a model of instance 1. -/
def wModel (entry : List Byte) (m : Model) : State := { wSys entry with cache := { models := [(64 + 3, m)] } }

/-- Every die stopped at its hand-off point and dies 0 to 2 report ready; die 3's record has one section. -/
def wHandoff : State :=
  ({ st [(F.cfgFwStatus_state, 4, 0, 0, 4)] with
    periods := 184320
    fw := { running := some ⟨3, 1, 1, 1, 5, []⟩, staged := some ⟨4, 1, 1, 1, 6, []⟩, start := some 0
            points := [0, 1, 2, 3], ready := [0, 1, 2] } }).copySram 3 hofAt
    (State.reset.hofRecord ⟨3, 1, 1, 1, 5, []⟩ 3 [(3, [7])])

/-- Submission queue 9 of instance 1 with one entry at 0x100000; the instance has job contexts 0 to 15, 16 MiB, one
engine of die 0, and completion queue 16384. -/
def wSubmit (entry : List Byte) : State :=
  withFields (wSys entry)
    [(F.schQbase_base, 4, 0, 9, 0x100000), (F.schQbase_size_log2, 4, 0, 9, 4), (F.schQbase_vi, 4, 0, 9, 1),
     (F.schQptr_state, 4, 0, 9, 1), (F.schQptr_tail, 4, 0, 9, 1), (F.viCtx_ctx_blocks, 4, 0, 65, 1),
     (F.viEngines_engine_max, 4, 0, 65, 1), (F.viEngines_die_mask, 4, 0, 65, 1),
     (F.cfgCapsEngineMap_engine_usable, 4, 0, 0, 1), (F.schCtrl_fw_attached, 4, 0, 0, 1)]

/-- A job record of class NORMAL for context 5 with one rank on die 0, whose progress record lies at 0x120000. -/
def wRecord : List Byte :=
  leBytes 9 2 ++ leBytes 5 2 ++ [2, 0, 0, 0] ++ leBytes 0 8 ++ leBytes 0x120000 8 ++ leBytes 16384 2 ++ [1, 0]
    ++ leBytes 0 4 ++ leBytes 0xFFFFFFFF 4 ++ leBytes 0xFFFFFFFFFFFFFFFF 8 ++ leBytes 0 212

/-- Job 5 of that instance, QUEUED and ready. -/
def wReady : State :=
  { withFields (wSubmit []) [(F.schJctx_vi, 4, 0, 5, 1), (F.schJctx_class, 4, 0, 5, 2)] with
    sched := { jobs := [(5, { record := { dieMask := 1, models := [0xFF, 0xFF, 0xFF, 0xFF] } })], ready := [5] } }

/-- Job 5, PREEMPTED with its one rank saved, and one granule of an alloc region at the start of die 0's scratchpad. -/
def wPreempted : State :=
  { withFields (wSubmit []) [(F.schJctx_vi, 4, 0, 5, 1), (F.schJctx_class, 4, 0, 5, 2), (F.schJctx_state, 4, 0, 5, 2)] with
    sched := { jobs := [(5, { record := { dieMask := 1, privates := [⟨0x4000000000, 0x100000, 0, true⟩] }, ranks := [0],
                              saved := [0], dispatched := true })] } }

/-- Stream 16, slot 0 of group 0 with one buffer at 0x200000, both of instance 1 with an extent of 16 MiB. -/
def wIpp (streams : Store IppStream) (x : IppGroup) : State :=
  { lp [(F.ippGrpCfg_enable, 6, 0, 0, 1), (F.ippGrpCfg_vi, 6, 0, 0, 1), (F.ippGrpBase_base, 6, 0, 0, 0x200000),
        (F.ippScfg_enable, 6, 0, 16, 1), (F.ippScfg_in_group, 6, 0, 16, 1), (F.ippSstat_state, 6, 0, 16, 1),
        (F.viExtN_granules, 4, 0, 65, 8),
        (F.gftCfg_frame_period, 4, 0, 0, 640000)] with
    ipp := { streams, groups := [(0, x)] } }

/-- The value of a register with one field. -/
def fieldAt (f : Fld) (v : Nat) : Nat := v * 2 ^ f.lo

/-- A batch of one slot for stream 16. -/
def wBatch (stage : SlotStage) : Batch := { buf := 0, window := 7, start := 0, slots := [{ stream := some 16, stage }] }

/-- The group's books with that batch in its one buffer. -/
def wFilling (stage : SlotStage) : IppGroup :=
  { cfg := fieldAt F.ippGrpCfg_vi 1, bufs := [.filling], batches := [wBatch stage] }

/-- A running image with frames of 640 000 periods, frame 7, two outputs of RT partition 0, and engine 0 usable. -/
def wFrame (l : List (Fld × Nat × Nat × Nat × Nat)) (x : SafetyState) : State :=
  { st ([(F.gftCfg_frame_period, 4, 0, 0, 640000), (F.schFrame_frame, 4, 0, 0, 7), (F.safId_outputs, 4, 0, 0, 2),
         (F.safOut_kind, 4, 0, 0, 1), (F.safOut_live_state, 4, 0, 0, 1), (F.safOut_kind, 4, 1, 0, 2),
         (F.safOut_live_state, 4, 1, 0, 1), (F.safStatus_safe_state, 4, 0, 0, 0), (F.gwStatus_stopped, 6, 0, 0, 0),
         (F.cfgCapsEngineMap_engine_usable, 4, 0, 0, 1), (F.gftEng_state, 4, 0, 0, 0), (F.teStatus_state, 0, 0, 0, 0),
         (F.pwrParked_parked, 0, 0, 0, 0)] ++ l) with
    boot := { loaded := true }, safety := x }

/-- Engine 0 at the end of its golden test, which passed where its signature is 0. -/
def wTested (sig : Nat) : State :=
  { st [(F.gftEng_state, 4, 0, 0, 1), (F.teStatus_state, 0, 0, 0, 5), (F.teSig_signature, 0, 0, 0, sig),
        (F.cfgCapsEngineMap_engine_usable, 4, 0, 0, 1), (F.schFrame_frame, 4, 0, 0, 7)] with
    gft := [(0, { saved := [5, 6, 7] })] }

/-- Sequencer seq runs a word followed by a NOP. -/
def wTahr (seq w : Nat) (x : TahrSeq) : State :=
  { st [(F.tsqState_state, 4, 0, seq, 2)] with tahr := { seqs := [(seq, { x with code := [w, 0] })] } }

/-- A word by its opcode, register fields and low bits. -/
def tw (op rd ra rb low : Nat) : Nat := op * 2 ^ 26 + rd * 2 ^ 22 + ra * 2 ^ 18 + rb * 2 ^ 14 + low

/-- A sequencer whose registers 1 to 3 are as given, the others 0. -/
def tx (g1 g2 g3 : Nat) : TahrSeq := { g := [0, g1, g2, g3] ++ List.replicate 12 0 }

/-- Sequencer 72 sends the descriptor that it staged for ring 0, which is empty and lies where job 5 may write. -/
def wSend : State :=
  { withFields (wRing []) [(F.seRingBase_base, 0, 0, 0, 0x200000), (F.seRingTail_tail, 0, 0, 0, 3),
      (F.seRingHead_head, 0, 0, 0, 3), (F.tsqState_state, 4, 0, 72, 2)] with
    tahr := { seqs := [(72, { code := [tw 0x29 0 0 0 0, 0], ring := some 0, buffer := [(0, 5)] })] } }

/-- A keyed table at 0x100: 2 → 9 and 5 → 7, else 4. -/
def wTable : Store Byte := putOp [] 0x100 (leBytes 2 4 ++ leBytes 4 4 ++ leBytes 2 4 ++ leBytes 9 4 ++ leBytes 5 4 ++ leBytes 7 4)

/-- A stored program of one HALT. -/
def wProgram : TahrProgram := { entry := 0, code := [0xFC000000], data := [1, 2], tables := [(0, 2, 0)] }

/-- A lifecycle request: its move, its old state and the digest it carries. -/
def lifeReq (op old root : Nat) : List Byte :=
  beBytes 0x485A4C43 4 ++ leBytes 1 2 ++ leBytes op 1 ++ leBytes old 1 ++ leBytes 0 16 ++ leBytes (if op = 2 then 1 else 0) 4
    ++ leBytes 0 4 ++ leBytes root 32 ++ List.replicate 5776 0

/-- That request at 0x100000, in a lifecycle state. -/
def wLife (op old root : Nat) : State :=
  (lp [(F.cfgLifeSrc_src, 4, 0, 0, 0x100000), (F.cfgCapsId_lifecycle, 4, 0, 0, old)]).putAt 0x100000 ((lifeReq op old root).take 64)

/-- Instance 1 of a unit in production asks for an attestation into 0x200000. -/
def wAttest (code : Nat) (args : List Nat) : State :=
  { withFields (wSys (wEntry code args)) [(F.cfgCapsId_lifecycle, 4, 0, 0, 2), (F.viExtN_granules, 4, 0, 65, 8)] with
    flash := { attKey := some 5, attSeq := 1, attCeiling := 64 } }

/-- Port 15 is enabled and its link is up. -/
def wEth (x : EthPort) : State :=
  { st [(F.netPortCfg_enable, 7, 0, 7, 1), (F.netPortCounts_link_up, 7, 0, 7, 1)] with net := { ports := [(15, x)] } }

/-- A gate list with one entry, as bytes. -/
def wGates : List Byte := leBytes 15 1 ++ leBytes 1 1 ++ leBytes 0 2 ++ leBytes 1000 4 ++ leBytes 0 12 ++ leBytes 0x55 4 ++ leBytes 1000 4

/-- Ethernet queue 40960 of instance 1 with one entry at 0x100000, of a flow 9 that leaves at port 15. -/
def wTransmit (dir : Nat) (entry : List Byte) : State :=
  (withFields (wSys []) [(F.netPortCfg_enable, 7, 0, 7, 1), (F.netPortCounts_link_up, 7, 0, 7, 1),
    (F.netFlow_enable, 6, 0, 9, 1), (F.netFlow_kind, 6, 0, 9, 4), (F.netFlow_port, 6, 0, 9, 15),
    (F.netFlow_max_len, 6, 0, 9, 1500), (F.schQbase_base, 4, 0, 40960, 0x100000), (F.schQbase_size_log2, 4, 0, 40960, 4),
    (F.schQbase_vi, 4, 0, 40960, 1), (F.schQptr_state, 4, 0, 40960, 1), (F.schQptr_tail, 4, 0, 40960, 1 - dir),
    (F.netQcfg_dir, 6, 0, 0, dir)]).putAt 0x100000 entry

/-- A good packet: its second byte, its line and its body. -/
def wPacket (b1 line : Nat) (body : List Byte) : List Byte :=
  let p := leBytes 0 1 ++ leBytes b1 1 ++ leBytes 0 2 ++ leBytes line 2 ++ leBytes body.length 2 ++ body
  p ++ leBytes (crc32c p) 4

/-- Camera lane 15 of O1 in a state, enabled. -/
def wLane (state : Nat) (x : UlkLane) : State :=
  { st [(F.ulkLane_enable, 7, 0, 15, 1), (F.ulkLane_state, 7, 0, 15, state)] with net := { lanes := [(31, x)] } }

/-- An open picture of two lines. -/
def wPicture : UlkLane := { isOpen := true, width := 16, height := 2 }

/-- Context 5 of the gateway: an enabled INGRESS context of sequencer 31, which queue 4095 or flow 4095 feeds. -/
def wContext (queue : Nat) : State :=
  { lp [(F.gwCtx_enable, 6, 0, 5, 1), (F.gwCtx_kind, 6, 0, 5, 1), (F.gwCtx_sequencer, 6, 0, 5, 31),
        (F.gwCtx_flow, 6, 0, 5, 4095), (F.gwCtx_queue, 6, 0, 5, queue), (F.gwCtx_toggle, 6, 0, 5, 1),
        (F.schQbase_base, 4, 0, 61439, 0x100000), (F.schQbase_size_log2, 4, 0, 61439, 4), (F.schQptr_state, 4, 0, 61439, 1),
        (F.schQptr_tail, 4, 0, 61439, 1), (F.viExtN_granules, 4, 0, 64, 8)] with
    gateway := { contexts := [5] } }

/-- A pass of one pixel, cleared, with a test for LESS. -/
def wRender : RenderPass :=
  { colourAt := 0x200000, colourStride := 64, depthAt := 0x210000, depthStride := 64, width := 1, height := 1, fmt := 0,
    depthFn := .less, depthWrite := true, depthFixed := true, stencil := 0, blend := none, shaderDepth := false,
    shaderDiscards := false, clear := some (0, 0xFFFFFF) }

/-- Graphics context 15 runs and draws that pass with one fragment. -/
def wPass (l : List (Fld × Nat × Nat × Nat × Nat)) : State :=
  { lp ([(F.gfxCtx_state, 5, 0, 15, 1), (F.gfxCtx_priority, 5, 0, 15, 7), (F.viExtN_granules, 4, 0, 64, 8)] ++ l) with
    display := { contexts := [(15, { pass := some wRender, bins := [[⟨0, 0, 5, 0x11223344, false⟩]] })] } }

/-- Pipe 5 is enabled, 16 pixels by 8 lines, with layer 6 at the top, 16 by 8 pixels at 0x300000. -/
def wPipe (x : DspPipe) : State :=
  { st [(F.dspCfg_enable, 5, 5, 0, 1), (F.dspTiming_active_w, 5, 5, 0, 16), (F.dspTiming_active_h, 5, 5, 0, 8),
        (F.dspLayer_enable, 5, 5, 6, 1), (F.dspLayer_w, 5, 5, 6, 16), (F.dspLayer_h, 5, 5, 6, 8),
        (F.dspLayerBase_base, 5, 5, 6, 0x300000), (F.dspLayerBase_stride, 5, 5, 6, 1), (F.dspLayerSel_layer, 5, 5, 0, 6),
        (F.ulkLane_state, 7, 0, 20, 4)] with
    display := { pipes := [(5, x)] } }

/-- Telltale region 0 of group 3 with the expected CRCs of two states. -/
def wRegion : TtRegion := { w := 1, h := 1, group := 3, qmWritable := false, crcs := [0x48674BC7, 22] }

def wTelltale (r : TtRegion) : State :=
  { st [(F.safId_outputs, 4, 0, 0, 1), (F.safOut_kind, 4, 0, 0, 2), (F.safOut_index, 4, 0, 0, 3), (F.safOut_fallback, 4, 0, 0, 255),
        (F.safOut_live_state, 4, 0, 0, 1)] with display := { regions := [r], ttPipe := 5 } }

/-- The host port in ENDPOINT mode with link A up, LPDDR6 stack 0 usable, and instance 1 exposed as function 2 with
16 MiB. -/
def wHost (l : List (Fld × Nat × Nat × Nat × Nat)) : State :=
  lp ([(F.cfgCapsIo_host_mode, 4, 0, 0, 2), (F.hpLinkN_dl_up, 7, 0, 0, 1),
       (F.viOwner_vf_enable, 4, 0, 65, 1), (F.viExtN_granules, 4, 0, 65, 8)] ++ l)

/-- A request on link A for 8 bytes of function 2's memory at 0x40. -/
def wRequest (write : Bool) (op : Nat) (data : List Byte) : HostRequest :=
  { link := 0, function := 2, rid := 0, bar := 2, addr := 0x40, len := 8, write, data, op }

end Sys2Proof.Tests
end

