-- ==== Sys2Proof/WellFormed.lean ====
section
/-! DEFINITION. The commands that the spec's numbering admits: every unit number within the ranges of the package (R1, R12,
R28 and the chapters' own counts), and an initiator that exists. The device never meets any other command. -/

namespace Sys2Proof

open Machine (Initiator Access)

/-- The number of an engine among the 64 tensor engines and the two chamois engines, which are engines 128 and 129
(R116). -/
def engineNo (te : Nat) : Nat := if te < 64 then te else if te < 128 then 66 else te - 64

/-- The bounded operands of a command, each with its bound. -/
def Instr.bounds : Instr → List (Nat × Nat)
  | .registerWrite _ addr _ _ => [(addr, 281474976710656)]
  | .rcRead _ addr _ => [(addr, 281474976710656)]
  | .selLoad _ addr _ _ => [(addr, 281474976710656)]
  | .memoryAccess _ _ _ => []
  | .granuleFillDone die entry _ => [(die, 4), (entry, 8192)]
  | .overBudgetEnd vi => [(vi, 64)]
  | .fabReplay die port _ => [(die, 8), (port, 4)]
  | .fabLinkDown die port _ => [(die, 8), (port, 4)]
  | .postedWriteFail _ addr code => [(addr, 281474976710656), (code, 65536)]
  | .powerGood _ => []
  | .safetyInService _ => []
  | .lpddr6Training _ => []
  | .goldenAreaWrite => []
  | .computeIslandTest _ => []
  | .computeReady => []
  | .railLoss _ => []
  | .railRestored _ => []
  | .logicWarmRestart => []
  | .wholeWarmRestart => []
  | .bootCommit _ => []
  | .bootSwitch _ => []
  | .bootRestart _ => []
  | .flashProgram _ _ => []
  | .flashProgramDone _ => []
  | .paceMonitorPeriod cluster _ => [(cluster, 33)]
  | .fixedPaceLost => []
  | .fixedPaceRequest _ die _ => [(die, 8)]
  | .paceTokenRelease generator _ => [(generator, 5)]
  | .droopInform die island => [(die, 8), (island, 16)]
  | .droopRaiseEnd die island => [(die, 8), (island, 16)]
  | .marginLost die island => [(die, 8), (island, 16)]
  | .levelReservation src dst _ _ => [(src, 8), (dst, 8)]
  | .crossingTemp die island other otherIsland => [(die, 8), (island, 16), (other, 8), (otherIsland, 16)]
  | .oscFail => []
  | .chamoisPaceLost => []
  | .fallbackRestored => []
  | .nop te => [(engineNo te, 66)]
  | .sop te => [(engineNo te, 66)]
  | .scmp te => [(engineNo te, 66)]
  | .sld te => [(engineNo te, 66)]
  | .sst te => [(engineNo te, 66)]
  | .pset te => [(engineNo te, 66)]
  | .br te => [(engineNo te, 66)]
  | .loop te => [(engineNo te, 66)]
  | .halt te => [(engineNo te, 66)]
  | .agset te => [(engineNo te, 66)]
  | .agadv te => [(engineNo te, 66)]
  | .thset te => [(engineNo te, 66)]
  | .thswap te => [(engineNo te, 66)]
  | .tld te => [(engineNo te, 66)]
  | .tldComplete te handle => [(engineNo te, 66), (handle, 16)]
  | .tst te _ => [(engineNo te, 66)]
  | .topen te => [(engineNo te, 66)]
  | .mma te _ => [(engineNo te, 66)]
  | .comb te _ => [(engineNo te, 66)]
  | .tclose te _ => [(engineNo te, 66)]
  | .drain te _ => [(engineNo te, 66)]
  | .vop te _ => [(engineNo te, 66)]
  | .wait te => [(engineNo te, 66)]
  | .waitTimeout te => [(engineNo te, 66)]
  | .signal te => [(engineNo te, 66)]
  | .eventFlagArrival te flag => [(engineNo te, 66), (flag, 16)]
  | .bar te => [(engineNo te, 66)]
  | .barrierRelease job barrier => [(job, 4096), (barrier, 256)]
  | .barrierTimeout te => [(engineNo te, 66)]
  | .fence te => [(engineNo te, 66)]
  | .cmark te => [(engineNo te, 66)]
  | .rie te _ => [(engineNo te, 66)]
  | .chkrd te => [(engineNo te, 66)]
  | .sig te => [(engineNo te, 66)]
  | .illegalOpcode te => [(engineNo te, 66)]
  | .writeRefusedAtTarget te addr => [(engineNo te, 66), (addr, 281474976710656)]
  | .tileInterimCheck te _ => [(engineNo te, 66)]
  | .teStart _ te => [(te, 64)]
  | .tePreempt _ te => [(te, 64)]
  | .engineSaved te _ => [(te, 64)]
  | .teResume _ te _ => [(te, 64)]
  | .teAbort _ te => [(te, 64)]
  | .granuleOwnerWrite _ cluster granule _ => [(cluster, 32), (granule, 16)]
  | .granuleScrubDone cluster granule => [(cluster, 32), (granule, 16)]
  | .spmPatrol cluster _ => [(cluster, 32)]
  | .memPatrol stack _ => [(stack, 8)]
  | .seRingTailWrite _ ring tail => [(ring, 64), (tail, 4096)]
  | .seRingStart _ ring => [(ring, 64)]
  | .seRingPause _ ring => [(ring, 64)]
  | .ringPaused ring => [(ring, 64)]
  | .seRingAbort _ ring => [(ring, 64)]
  | .seCopy ring => [(ring, 64)]
  | .seFill ring => [(ring, 64)]
  | .seWait ring => [(ring, 64)]
  | .seSignal ring => [(ring, 64)]
  | .seFence ring => [(ring, 64)]
  | .ringFlagSet ring flag => [(ring, 64), (flag, 16)]
  | .descriptorRetire ring _ => [(ring, 64)]
  | .mcRegister queue => [(queue, 65536)]
  | .mcPin queue => [(queue, 65536)]
  | .mcUnpin queue => [(queue, 65536)]
  | .mcRelease queue => [(queue, 65536)]
  | .mcPrefetch queue => [(queue, 65536)]
  | .mcQuery queue => [(queue, 65536)]
  | .modelLoadDone vi id se _ => [(vi, 64), (id, 64), (se, 4)]
  | .cbRegister queue die buffer => [(queue, 65536), (die, 4), (buffer, 256)]
  | .cbRelease queue => [(queue, 65536)]
  | .cbQuery queue => [(queue, 65536)]
  | .cbShare queue => [(queue, 65536)]
  | .groupConfirm die entry => [(die, 4), (entry, 8192)]
  | .resolveDoorbell _ queue _ => [(queue, 65536)]
  | .tokenDeadline job => [(job, 4096)]
  | .doorbellTail _ queue value => [(queue, 65536), (value, 65536)]
  | .completionHeadDoorbell _ queue value => [(queue, 65536), (value, 65536)]
  | .jobRecordFetch queue => [(queue, 65536)]
  | .msiCoalesceTimeout queue => [(queue, 65536)]
  | .jobDispatch job tes _ => [(job, 4096)] ++ tes.map (fun t => (t, 64))
  | .jobPreempt job needing => [(job, 4096), (needing, 4096)]
  | .spillDone job needer se _ _ => [(job, 4096), (needer, 4096), (se, 4)]
  | .jobResume job tes => [(job, 4096)] ++ tes.map (fun t => (t, 64))
  | .refillDone job _ => [(job, 4096)]
  | .rtBudgetEnd partition => [(partition, 64)]
  | .xdiePreempt _ die job rank => [(die, 4), (job, 4096), (rank, 64)]
  | .xdieResume _ die job rank => [(die, 4), (job, 4096), (rank, 64)]
  | .xdieAbort _ die job rank => [(die, 4), (job, 4096), (rank, 64)]
  | .xdiePauseRings _ die job rank => [(die, 4), (job, 4096), (rank, 64)]
  | .schEventRead _ die => [(die, 4)]
  | .sampleIngest stream _ _ _ => [(stream, 96)]
  | .slotComplete stream _ _ => [(stream, 96)]
  | .decodeAbort stream _ => [(stream, 96)]
  | .windowOpen group => [(group, 32)]
  | .windowClose group => [(group, 32)]
  | .rtConsumeDeadline group => [(group, 32)]
  | .groupAcquire _ group => [(group, 32)]
  | .groupRelease _ group index => [(group, 32), (index, 16)]
  | .parameterLoad _ stream _ => [(stream, 96)]
  | .streamReset _ stream => [(stream, 96)]
  | .fallbackClose => []
  | .frameStart => []
  | .gtOpen => []
  | .gtForcedPoint => []
  | .goldenTestEnd te => [(te, 64)]
  | .confirmPoint => []
  | .decisionPoint => []
  | .fallbackRunEnd => []
  | .fallbackDeadline => []
  | .engineRetestEnd te _ _ => [(te, 66)]
  | .statusFrame channel => [(channel, 2)]
  | .requestSafe _ => []
  | .pairCheckpoint pair _ _ => [(pair, 6)]
  | .pairComparatorTest pair _ => [(pair, 6)]
  | .tahrNop seq _ => [(seq, 88)]
  | .tahrAlu seq _ => [(seq, 88)]
  | .tahrAddi seq _ => [(seq, 88)]
  | .tahrAndi seq _ => [(seq, 88)]
  | .tahrOri seq _ => [(seq, 88)]
  | .tahrXori seq _ => [(seq, 88)]
  | .tahrShi seq _ => [(seq, 88)]
  | .tahrMovi seq _ => [(seq, 88)]
  | .tahrLui seq _ => [(seq, 88)]
  | .tahrLd seq _ => [(seq, 88)]
  | .tahrLdh seq _ => [(seq, 88)]
  | .tahrLdb seq _ => [(seq, 88)]
  | .tahrSt seq _ => [(seq, 88)]
  | .tahrSth seq _ => [(seq, 88)]
  | .tahrStb seq _ => [(seq, 88)]
  | .tahrBext seq _ => [(seq, 88)]
  | .tahrBins seq _ => [(seq, 88)]
  | .tahrBextm seq _ => [(seq, 88)]
  | .tahrBinsm seq _ => [(seq, 88)]
  | .tahrRscl seq _ => [(seq, 88)]
  | .tahrTlx seq _ => [(seq, 88)]
  | .tahrTlk seq _ => [(seq, 88)]
  | .tahrCrc seq _ => [(seq, 88)]
  | .tahrCrcm seq _ => [(seq, 88)]
  | .tahrBr seq _ => [(seq, 88)]
  | .tahrJal seq _ => [(seq, 88)]
  | .tahrJr seq _ => [(seq, 88)]
  | .tahrRecv seq _ => [(seq, 88)]
  | .tahrSend seq _ => [(seq, 88)]
  | .tahrWait seq _ => [(seq, 88)]
  | .tahrTime seq _ => [(seq, 88)]
  | .tahrTmr seq _ => [(seq, 88)]
  | .tahrGetf seq _ => [(seq, 88)]
  | .tahrHalt seq _ => [(seq, 88)]
  | .tahrTimer seq => [(seq, 88)]
  | .tahrEvent seq event _ => [(seq, 88), (event, 16)]
  | .tahrActivationLimit seq => [(seq, 88)]
  | .tahrRestart seq => [(seq, 88)]
  | .tsqRestart _ seq => [(seq, 88)]
  | .tsqStop _ seq => [(seq, 88)]
  | .tableSwap _ seq table variant => [(seq, 88), (table, 8), (variant, 256)]
  | .tableSwapDone seq => [(seq, 88)]
  | .seBind _ _ => []
  | .seUnbind _ _ => []
  | .viCreate _ vi => [(vi, 64)]
  | .viResize _ vi _ => [(vi, 64)]
  | .viReset _ vi => [(vi, 64)]
  | .viResetDone vi => [(vi, 64)]
  | .viResetLate vi => [(vi, 64)]
  | .viQuiesce _ vi => [(vi, 64)]
  | .viQuiesced vi => [(vi, 64)]
  | .viResume _ vi => [(vi, 64)]
  | .viRemove _ vi => [(vi, 64)]
  | .functionLevelReset function => [(function, 65)]
  | .dmaToIova queue => [(queue, 65536)]
  | .dmaFromIova queue => [(queue, 65536)]
  | .dmaComplete queue => [(queue, 65536)]
  | .watermarkMove _ target mark => [(target, 12), (mark, 16384)]
  | .watermarkMoveDone target => [(target, 12)]
  | .watermarkGrant _ target upTo => [(target, 12), (upTo, 16384)]
  | .secureHold _ block => [(block, 49)]
  | .secureRelease _ block => [(block, 49)]
  | .secureHoldForced => []
  | .watchdogKick _ value => [(value, 65536)]
  | .watchdogExpiry => []
  | .secTeStart _ => []
  | .secTePreempt _ => []
  | .secTeResume _ => []
  | .secTeAbort _ => []
  | .attest queue => [(queue, 65536)]
  | .attestKey queue => [(queue, 65536)]
  | .toDev _ _ => []
  | .setDevRoot _ _ => []
  | .toProd _ _ => []
  | .attestKeyGenerated _ => []
  | .toRetired _ _ => []
  | .governorPeriod _ _ => []
  | .capWrite _ watts => [(watts, 512)]
  | .park _ die engine => [(die, 8), (engine, 16)]
  | .engineParked te => [(te, 64)]
  | .unpark _ die engine => [(die, 8), (engine, 16)]
  | .withdraw _ die engine => [(die, 8), (engine, 16)]
  | .wakeGrant => []
  | .thermalThrottle die island => [(die, 8), (island, 16)]
  | .thermalEmergency die island => [(die, 8), (island, 16)]
  | .thermalEmergencyEnd => []
  | .thermalTrip die => [(die, 8)]
  | .tripRecovery => []
  | .gfxPreempt _ ctx _ _ => [(ctx, 16)]
  | .gfxAbort _ ctx => [(ctx, 16)]
  | .gfxResume _ ctx _ => [(ctx, 16)]
  | .gfxTileTimeout ctx => [(ctx, 16)]
  | .gfxFlush ctx _ _ => [(ctx, 16)]
  | .compositionStart pipe _ _ => [(pipe, 6)]
  | .displayLatch pipe => [(pipe, 6)]
  | .displayLine pipe line _ => [(pipe, 6), (line, 4096)]
  | .displayStatusPacket pipe => [(pipe, 6)]
  | .displayFlip _ pipe _ => [(pipe, 6)]
  | .telltaleStateWrite _ region value => [(region, 64), (value, 16)]
  | .telltaleApply region => [(region, 64)]
  | .telltaleRenderDone region _ => [(region, 64)]
  | .telltaleCheck region _ _ => [(region, 64)]
  | .mediaSessionOpen _ session _ => [(session, 8)]
  | .mediaSessionClose _ session => [(session, 8)]
  | .hostInboundRequest _ => []
  | .hpLinkDown link _ => [(link, 2)]
  | .hpFenceRead _ => []
  | .inboundAtomic _ _ => []
  | .brLockTimeout _ => []
  | .inboundLockedRead _ => []
  | .unlock link => [(link, 2)]
  | .outboundAmo _ addr op _ _ _ => [(addr, 281474976710656), (op, 11)]
  | .claimBackoffRetry _ _ => []
  | .gwIngressMessage _ flow bus format _ _ _ _ _ _ => [(flow, 65536), (bus, 32), (format, 5)]
  | .gwInEntry queue => [(queue, 65536)]
  | .gwContextEnable _ context _ => [(context, 16384)]
  | .ethFrameReceive port _ => [(port, 16)]
  | .ethTransmit queue => [(queue, 65536)]
  | .launchTime port => [(port, 16)]
  | .gclEntryExpiry port => [(port, 16)]
  | .gclStage _ port _ => [(port, 16)]
  | .gclConfigChange port => [(port, 16)]
  | .ptpSync domain _ _ _ _ => [(domain, 4)]
  | .syncReceiptTimeout domain => [(domain, 4)]
  | .timeRead _ => []
  | .ulkLaneEnable _ die lane _ => [(die, 8), (lane, 22)]
  | .ulkLightDetected die lane => [(die, 8), (lane, 22)]
  | .ulkLocked die lane => [(die, 8), (lane, 22)]
  | .ulkAligned die lane => [(die, 8), (lane, 22)]
  | .ulkLockLost die lane => [(die, 8), (lane, 22)]
  | .ulkSop die lane _ => [(die, 8), (lane, 22)]
  | .ulkLine die lane _ => [(die, 8), (lane, 22)]
  | .ulkEop die lane _ => [(die, 8), (lane, 22)]
  | .fwLoad _ => []
  | .fwLoaded die => [(die, 4)]
  | .fwStage _ => []
  | .fwActivate _ => []
  | .handoffStart => []
  | .fwHandoff die _ => [(die, 4)]
  | .fwRollback die => [(die, 4)]
  | .fwActivationExpired => []
  | .fwCancel _ => []
  | .fwCommit _ => []
  | .fwReloaded pair => [(pair, 4)]
  | .driverHeartbeat _ slot => [(slot, 2)]
  | .heartbeatWindow slot => [(slot, 2)]
  | .driverAttach _ slot => [(slot, 2)]
  | .driverDetach _ slot => [(slot, 2)]
  | .fwTeardown slot => [(slot, 2)]
  | .errorRecordArrival _ => []
  | .errNextRead _ => []
  | .errDone _ index => [(index, 256)]
  | .errInject _ _ => []
  | .healthLogWrite => []
  | .hlogRead _ value => [(value, 262144)]
  | .pairAddressMiscompare pair _ => [(pair, 6)]
  | .hostLinkUp link speed width _ => [(link, 2), (speed, 6), (width, 9)]
  | .ethLinkUp port => [(port, 16)]
  | .ethLinkDown port => [(port, 16)]
  | .fallbackSlotComplete slot => [(slot, 64)]

/-- The initiator of a command; none for an event of the hardware. -/
def Instr.actor : Instr → Option Initiator
  | .registerWrite who _ _ _ => some who
  | .rcRead who _ _ => some who
  | .selLoad who _ _ _ => some who
  | .memoryAccess who _ _ => some who
  | .granuleFillDone _ _ _ => none
  | .overBudgetEnd _ => none
  | .fabReplay _ _ _ => none
  | .fabLinkDown _ _ _ => none
  | .postedWriteFail who _ _ => some who
  | .powerGood _ => none
  | .safetyInService _ => none
  | .lpddr6Training _ => none
  | .goldenAreaWrite => none
  | .computeIslandTest _ => none
  | .computeReady => none
  | .railLoss _ => none
  | .railRestored _ => none
  | .logicWarmRestart => none
  | .wholeWarmRestart => none
  | .bootCommit who => some who
  | .bootSwitch who => some who
  | .bootRestart who => some who
  | .flashProgram who _ => some who
  | .flashProgramDone _ => none
  | .paceMonitorPeriod _ _ => none
  | .fixedPaceLost => none
  | .fixedPaceRequest who _ _ => some who
  | .paceTokenRelease _ _ => none
  | .droopInform _ _ => none
  | .droopRaiseEnd _ _ => none
  | .marginLost _ _ => none
  | .levelReservation _ _ _ _ => none
  | .crossingTemp _ _ _ _ => none
  | .oscFail => none
  | .chamoisPaceLost => none
  | .fallbackRestored => none
  | .nop _ => none
  | .sop _ => none
  | .scmp _ => none
  | .sld _ => none
  | .sst _ => none
  | .pset _ => none
  | .br _ => none
  | .loop _ => none
  | .halt _ => none
  | .agset _ => none
  | .agadv _ => none
  | .thset _ => none
  | .thswap _ => none
  | .tld _ => none
  | .tldComplete _ _ => none
  | .tst _ _ => none
  | .topen _ => none
  | .mma _ _ => none
  | .comb _ _ => none
  | .tclose _ _ => none
  | .drain _ _ => none
  | .vop _ _ => none
  | .wait _ => none
  | .waitTimeout _ => none
  | .signal _ => none
  | .eventFlagArrival _ _ => none
  | .bar _ => none
  | .barrierRelease _ _ => none
  | .barrierTimeout _ => none
  | .fence _ => none
  | .cmark _ => none
  | .rie _ _ => none
  | .chkrd _ => none
  | .sig _ => none
  | .illegalOpcode _ => none
  | .writeRefusedAtTarget _ _ => none
  | .tileInterimCheck _ _ => none
  | .teStart who _ => some who
  | .tePreempt who _ => some who
  | .engineSaved _ _ => none
  | .teResume who _ _ => some who
  | .teAbort who _ => some who
  | .granuleOwnerWrite who _ _ _ => some who
  | .granuleScrubDone _ _ => none
  | .spmPatrol _ _ => none
  | .memPatrol _ _ => none
  | .seRingTailWrite who _ _ => some who
  | .seRingStart who _ => some who
  | .seRingPause who _ => some who
  | .ringPaused _ => none
  | .seRingAbort who _ => some who
  | .seCopy _ => none
  | .seFill _ => none
  | .seWait _ => none
  | .seSignal _ => none
  | .seFence _ => none
  | .ringFlagSet _ _ => none
  | .descriptorRetire _ _ => none
  | .mcRegister _ => none
  | .mcPin _ => none
  | .mcUnpin _ => none
  | .mcRelease _ => none
  | .mcPrefetch _ => none
  | .mcQuery _ => none
  | .modelLoadDone _ _ _ _ => none
  | .cbRegister _ _ _ => none
  | .cbRelease _ => none
  | .cbQuery _ => none
  | .cbShare _ => none
  | .groupConfirm _ _ => none
  | .resolveDoorbell who _ _ => some who
  | .tokenDeadline _ => none
  | .doorbellTail who _ _ => some who
  | .completionHeadDoorbell who _ _ => some who
  | .jobRecordFetch _ => none
  | .msiCoalesceTimeout _ => none
  | .jobDispatch _ _ _ => none
  | .jobPreempt _ _ => none
  | .spillDone _ _ _ _ _ => none
  | .jobResume _ _ => none
  | .refillDone _ _ => none
  | .rtBudgetEnd _ => none
  | .xdiePreempt who _ _ _ => some who
  | .xdieResume who _ _ _ => some who
  | .xdieAbort who _ _ _ => some who
  | .xdiePauseRings who _ _ _ => some who
  | .schEventRead who _ => some who
  | .sampleIngest _ _ _ _ => none
  | .slotComplete _ _ _ => none
  | .decodeAbort _ _ => none
  | .windowOpen _ => none
  | .windowClose _ => none
  | .rtConsumeDeadline _ => none
  | .groupAcquire who _ => some who
  | .groupRelease who _ _ => some who
  | .parameterLoad who _ _ => some who
  | .streamReset who _ => some who
  | .fallbackClose => none
  | .frameStart => none
  | .gtOpen => none
  | .gtForcedPoint => none
  | .goldenTestEnd _ => none
  | .confirmPoint => none
  | .decisionPoint => none
  | .fallbackRunEnd => none
  | .fallbackDeadline => none
  | .engineRetestEnd _ _ _ => none
  | .statusFrame _ => none
  | .requestSafe who => some who
  | .pairCheckpoint _ _ _ => none
  | .pairComparatorTest _ _ => none
  | .tahrNop _ _ => none
  | .tahrAlu _ _ => none
  | .tahrAddi _ _ => none
  | .tahrAndi _ _ => none
  | .tahrOri _ _ => none
  | .tahrXori _ _ => none
  | .tahrShi _ _ => none
  | .tahrMovi _ _ => none
  | .tahrLui _ _ => none
  | .tahrLd _ _ => none
  | .tahrLdh _ _ => none
  | .tahrLdb _ _ => none
  | .tahrSt _ _ => none
  | .tahrSth _ _ => none
  | .tahrStb _ _ => none
  | .tahrBext _ _ => none
  | .tahrBins _ _ => none
  | .tahrBextm _ _ => none
  | .tahrBinsm _ _ => none
  | .tahrRscl _ _ => none
  | .tahrTlx _ _ => none
  | .tahrTlk _ _ => none
  | .tahrCrc _ _ => none
  | .tahrCrcm _ _ => none
  | .tahrBr _ _ => none
  | .tahrJal _ _ => none
  | .tahrJr _ _ => none
  | .tahrRecv _ _ => none
  | .tahrSend _ _ => none
  | .tahrWait _ _ => none
  | .tahrTime _ _ => none
  | .tahrTmr _ _ => none
  | .tahrGetf _ _ => none
  | .tahrHalt _ _ => none
  | .tahrTimer _ => none
  | .tahrEvent _ _ _ => none
  | .tahrActivationLimit _ => none
  | .tahrRestart _ => none
  | .tsqRestart who _ => some who
  | .tsqStop who _ => some who
  | .tableSwap who _ _ _ => some who
  | .tableSwapDone _ => none
  | .seBind who _ => some who
  | .seUnbind who _ => some who
  | .viCreate who _ => some who
  | .viResize who _ _ => some who
  | .viReset who _ => some who
  | .viResetDone _ => none
  | .viResetLate _ => none
  | .viQuiesce who _ => some who
  | .viQuiesced _ => none
  | .viResume who _ => some who
  | .viRemove who _ => some who
  | .functionLevelReset _ => none
  | .dmaToIova _ => none
  | .dmaFromIova _ => none
  | .dmaComplete _ => none
  | .watermarkMove who _ _ => some who
  | .watermarkMoveDone _ => none
  | .watermarkGrant who _ _ => some who
  | .secureHold who _ => some who
  | .secureRelease who _ => some who
  | .secureHoldForced => none
  | .watchdogKick who _ => some who
  | .watchdogExpiry => none
  | .secTeStart who => some who
  | .secTePreempt who => some who
  | .secTeResume who => some who
  | .secTeAbort who => some who
  | .attest _ => none
  | .attestKey _ => none
  | .toDev who _ => some who
  | .setDevRoot who _ => some who
  | .toProd who _ => some who
  | .attestKeyGenerated _ => none
  | .toRetired who _ => some who
  | .governorPeriod _ _ => none
  | .capWrite who _ => some who
  | .park who _ _ => some who
  | .engineParked _ => none
  | .unpark who _ _ => some who
  | .withdraw who _ _ => some who
  | .wakeGrant => none
  | .thermalThrottle _ _ => none
  | .thermalEmergency _ _ => none
  | .thermalEmergencyEnd => none
  | .thermalTrip _ => none
  | .tripRecovery => none
  | .gfxPreempt who _ _ _ => some who
  | .gfxAbort who _ => some who
  | .gfxResume who _ _ => some who
  | .gfxTileTimeout _ => none
  | .gfxFlush _ _ _ => none
  | .compositionStart _ _ _ => none
  | .displayLatch _ => none
  | .displayLine _ _ _ => none
  | .displayStatusPacket _ => none
  | .displayFlip who _ _ => some who
  | .telltaleStateWrite who _ _ => some who
  | .telltaleApply _ => none
  | .telltaleRenderDone _ _ => none
  | .telltaleCheck _ _ _ => none
  | .mediaSessionOpen who _ _ => some who
  | .mediaSessionClose who _ => some who
  | .hostInboundRequest _ => none
  | .hpLinkDown _ _ => none
  | .hpFenceRead who => some who
  | .inboundAtomic _ _ => none
  | .brLockTimeout _ => none
  | .inboundLockedRead _ => none
  | .unlock _ => none
  | .outboundAmo who _ _ _ _ _ => some who
  | .claimBackoffRetry _ _ => none
  | .gwIngressMessage _ _ _ _ _ _ _ _ _ _ => none
  | .gwInEntry _ => none
  | .gwContextEnable who _ _ => some who
  | .ethFrameReceive _ _ => none
  | .ethTransmit _ => none
  | .launchTime _ => none
  | .gclEntryExpiry _ => none
  | .gclStage who _ _ => some who
  | .gclConfigChange _ => none
  | .ptpSync _ _ _ _ _ => none
  | .syncReceiptTimeout _ => none
  | .timeRead who => some who
  | .ulkLaneEnable who _ _ _ => some who
  | .ulkLightDetected _ _ => none
  | .ulkLocked _ _ => none
  | .ulkAligned _ _ => none
  | .ulkLockLost _ _ => none
  | .ulkSop _ _ _ => none
  | .ulkLine _ _ _ => none
  | .ulkEop _ _ _ => none
  | .fwLoad who => some who
  | .fwLoaded _ => none
  | .fwStage who => some who
  | .fwActivate who => some who
  | .handoffStart => none
  | .fwHandoff _ _ => none
  | .fwRollback _ => none
  | .fwActivationExpired => none
  | .fwCancel who => some who
  | .fwCommit who => some who
  | .fwReloaded _ => none
  | .driverHeartbeat who _ => some who
  | .heartbeatWindow _ => none
  | .driverAttach who _ => some who
  | .driverDetach who _ => some who
  | .fwTeardown _ => none
  | .errorRecordArrival _ => none
  | .errNextRead who => some who
  | .errDone who _ => some who
  | .errInject who _ => some who
  | .healthLogWrite => none
  | .hlogRead who _ => some who
  | .pairAddressMiscompare _ _ => none
  | .hostLinkUp _ _ _ _ => none
  | .ethLinkUp _ => none
  | .ethLinkDown _ => none
  | .fallbackSlotComplete _ => none

/-- Whether an initiator exists. -/
def actorExists : Initiator → Bool
  | .control d => d < 4
  | .sentinel p => 4 ≤ p && p < 6
  | .vault c _ => c < 2
  | .core _ g => g < 64
  | .engine n => engineNo n < 66
  | .ring n => n < 64
  | .dma q => q < 8192
  | .hostFn k => k ≤ 64
  | .requester r => r < 65536
  | .ipp n => n < 96
  | .graphics c => c < 16
  | .tahr n => n < 88
  | .governor d => d < 8
  | .fallbackPath d => 6 ≤ d && d < 8
  | .service _ => false
  | _ => true

/-- Whether an access moves bytes, and lies in the 48-bit address space (R23). -/
def accessFits : Access → Bool
  | .read a n => 0 < n && a + n ≤ 2 ^ 48
  | .write a bs => 0 < bs.length && a + bs.length ≤ 2 ^ 48

/-- Whether every operand of a command lies in its range. -/
def Instr.inRange (i : Instr) : Bool := i.bounds.all (fun p => p.1 < p.2)

/-- Whether a command's initiator exists. -/
def Instr.actorOk (i : Instr) : Bool := i.actor.all actorExists

/-- Whether the request that a command carries fits the address space. -/
def Instr.requestOk (i : Instr) : Bool :=
  match i with
  | .memoryAccess _ acc _ => accessFits acc
  | _ => true

/-- Whether a command is one that the device can meet. -/
def Instr.wellFormed (i : Instr) : Bool := i.inRange && i.actorOk && i.requestOk

end Sys2Proof
end

