-- ==== Sys2Proof/Tests/Slice0.lean ====
section
/-! SUPPORT. The tests of the model. -/

namespace Sys2Proof.Tests

open Sys2Proof Sys2Proof.Machine

set_option linter.unusedVariables false
set_option maxRecDepth 100000
set_option Elab.async false


/-! ### Reads of memory behind the last byte that is written -/

theorem storeFind_behind {α : Type} (m : Store α) (a : Nat) (h : m.all (fun c => decide (c.1 < a)) = true) :
    storeFind m a = none := by
  induction m with
  | nil => rfl
  | cons c t ih =>
    obtain ⟨k, v⟩ := c
    simp only [List.all_cons, Bool.and_eq_true, decide_eq_true_eq] at h
    have h1 : ¬ k = a := by omega
    have h2 : ¬ a < k := by omega
    simp only [storeFind, h1, h2, if_false]
    exact ih h.2

theorem bytesAt_behind (s : State) (n : Nat) :
    ∀ a, s.mem.all (fun c => decide (c.1 < a)) = true → s.bytesAt a n = List.replicate n 0 := by
  induction n with
  | zero => intro a _; rfl
  | succ n ih =>
    intro a h
    have h' : s.mem.all (fun c => decide (c.1 < a + 1)) = true := by
      rw [List.all_eq_true] at h ⊢
      intro c hc
      have := h c hc
      simp only [decide_eq_true_eq] at this ⊢
      omega
    simp only [State.bytesAt, State.byteAt, storeGet, storeFind_behind _ _ h, ih _ h', List.replicate_succ]
    rfl

theorem bytesAt_add (s : State) (m n : Nat) : ∀ a, s.bytesAt a (m + n) = s.bytesAt a m ++ s.bytesAt (a + m) n := by
  induction m with
  | zero => intro a; simp [State.bytesAt]
  | succ m ih =>
    intro a
    rw [Nat.succ_add]
    simp only [State.bytesAt, ih, List.cons_append]
    rw [Nat.add_assoc, Nat.add_comm 1 m]

theorem bytesAt_mem (u s : State) (h : u.mem = s.mem) (n : Nat) : ∀ a, u.bytesAt a n = s.bytesAt a n := by
  induction n with
  | zero => intro a; rfl
  | succ n ih => intro a; simp only [State.bytesAt, State.byteAt, h, ih]

/-- What the loader has read a lifecycle request into. -/
def lifeRead (s : State) : State :=
  ((s.correctSteered .other 0x100000 5840).takeTokens .loader 0x100000 5840).countLines .loader 0x100000 5840

/-- A lifecycle request whose bytes from 64 on are zero asks for its move. -/
theorem life_asks (s : State) (who : Initiator) (op : Nat) (front : List Byte)
    (h0 : s.fget F.cfgLifeSrc_src 4 0 0 = 0x100000)
    (h1 : (s.checkAccess .loader false 0x100000 5840 == .pass && ((lifeRead s).poisonOf .other 0x100000 5840).isNone
      && (lifeRead s).steer .other 0x100000 == 0x100000 && (lifeRead s).mem == s.mem
      && granPieces 0x100000 5840 == [(0x100000, 5840)] && placeOf 0x100000 != .flash) = true)
    (h2 : s.bytesAt 0x100000 64 = front) (h3 : s.mem.all (fun c => decide (c.1 < 0x100040)) = true)
    (h4 : (s.loaderRight who && !s.fon F.cfgLifeCmd_busy 4 0 0 && leAt (front ++ List.replicate 5776 0) 6 1 == op) = true) :
    s.lifeAsks who op (front ++ List.replicate 5776 0) = true := by
  simp only [Bool.and_eq_true, beq_iff_eq, Option.isNone_iff_eq_none, bne_iff_ne] at h1
  obtain ⟨⟨⟨⟨⟨hc, hp⟩, hs⟩, hm⟩, hg⟩, hf⟩ := h1
  have hb : (lifeRead s).bytesAt 0x100000 5840 = front ++ List.replicate 5776 0 := by
    rw [show (5840 : Nat) = 64 + 5776 from rfl, bytesAt_add, bytesAt_behind _ 5776 _ (hm ▸ h3), bytesAt_mem _ s hm, h2]
  have hr : s.lifeRequest.2 = some (front ++ List.replicate 5776 0) := by
    unfold State.lifeRequest
    rw [h0]
    rw [if_pos (by rfl)]
    unfold State.fetchAs
    simp only [hc]
    show (match (lifeRead s).poisonOf .other 0x100000 5840 with
      | some p => ((lifeRead s).reportPoison .loader p.1 p.2, none)
      | none => ((lifeRead s).noteRead .other 0x100000 5840,
          some (if placeOf 0x100000 == .flash then (lifeRead s).flashBytes 0x100000 5840
            else (lifeRead s).steeredBytes .other 0x100000 5840)) : State × Option (List Byte)).2 = _
    rw [hp, ← hb]
    unfold State.steeredBytes
    rw [hg]
    simp [hs, hf]
  unfold State.lifeAsks
  rw [hr]
  simp only [Bool.and_eq_true] at h4 ⊢
  exact ⟨⟨h4.1, by simp⟩, h4.2⟩

/-! ### Grants at a link -/

theorem reset_isl (f : Fld) (d i : Nat) : State.reset.isl f d i = 0 := by
  simp [State.isl, State.fget, State.reg, State.reset, storeFind, bits]

theorem reset_grants (src dst v : Nat) (h : v ≤ 30) : State.reset.grants src dst v = true := by
  simp only [State.grants, reset_isl, absDiff, Bool.and_eq_true, List.all_eq_true]
  exact ⟨fun i _ => by simpa using h, rfl⟩

theorem refused_grants (s : State) (src dst v w : Nat) (h : storeFind s.power.reservations (dst * 8 + src) = some w)
    (hd : 30 < absDiff w v) : s.grants src dst v = false := by
  simp only [State.grants, h]
  rw [Bool.and_eq_false_iff]
  exact .inr (by simpa using hd)

/-! ### Ill-formed commands: one for each check of Instr.wellFormed -/

theorem test_wellformed_unit_number : (Instr.nop 64).wellFormed = false ∧ (Instr.nop 63).wellFormed = true := by decide

theorem test_wellformed_initiator :
    (Instr.fwCommit (.core 0 64)).wellFormed = false ∧ (Instr.fwCommit (.core 0 63)).wellFormed = true := by decide

theorem test_wellformed_request :
    (Instr.memoryAccess steward (.read (2 ^ 48 - 4) 8) []).wellFormed = false
      ∧ (Instr.memoryAccess steward (.read 0 0) []).wellFormed = false
      ∧ (Instr.memoryAccess steward (.read (2 ^ 48 - 8) 8) []).wellFormed = true := by decide

/-! ### Worked examples of the spec -/

/-- 00_scope.md, "finding an engine's registers": te37 starts at 0x0080_0215_0000. -/
theorem test_te37_registers : fldAddr F.teId_engine (37 / 16) (37 % 16) 0 = 0x008002150000 := by decide

/-- 01_package_and_dies.md, "decoding an LPDDR6 address". -/
theorem test_lpddr6_linear : stackOf false 0x000500013ABC = (1, 0x000100013ABC) := by decide

theorem test_lpddr6_interleaved : stackOf true 0x000500013ABC = (3, 0xA0002ABC) := by decide

/-- 04_tensor_engine_arithmetic.md, "one output through two MX blocks": the entry and its residue 19. -/
theorem test_mx_two_blocks :
    foldChunks .mxFloat 0 [
      ([decodeElem 1 0x3C, decodeElem 1 0x3C], [decodeElem 1 0x38, decodeElem 1 0x38], some 40),
      ([decodeElem 1 0x39], [decodeElem 1 0x38], some (-20))]
      = 0x4028 * 2 ^ 79 + 0xC000000000000004 * 2 ^ 15 + 19 := by decide +kernel

/-- 12_tahr_sequencers.md, "a wheel speed from CAN to Ethernet": instruction 13 reads raw value 4 823. -/
theorem test_wheel_bextm :
    nextWith (exec (.tahrBextm 3 .clean) (wTahr 3 0x49BD5E00
      { g := [0, 0, 0, 0, 0, 8] ++ List.replicate 9 0 ++ [0x8000]
        notice := some { ctx := 0, identifier := 0x1A4, format := 0, flags := 0, bus := 0, time := 0, payload := [0, 0xD7, 0x12] } }))
      (fun t => (t.tahrSeq 3).reg 6 = 4823) :=
  ⟨_, rfl, by decide +kernel⟩

theorem test_wheel_field : readField false false 8 16 0 [0x00, 0xD7, 0x12] = 4823 := by decide

/-- Instruction 14: 4 823 by the factor 6 554 gives 482 and sets no CLAMP. -/
theorem test_wheel_rscl :
    let x := ({ g := List.replicate 16 0 } : TahrSeq).rescale 7 4823 16 (leBytes 6554 4 ++ leBytes 0 4 ++ leBytes 0 4 ++ leBytes 3000 4)
    x.reg 7 = 482 ∧ x.clamp = false := by decide

/-- Instruction 17 writes 0x01 and 0xE2. -/
theorem test_wheel_binsm : writeField true 7 16 0 482 [0, 0] = [0x01, 0xE2] := by decide

/-- The CRC over 01 E2 2B runs 0xFF, 0xD9, 0x85, 0x07. -/
theorem test_wheel_crc :
    crcOf (tahrCrcSpec 0 0xFF) [0x01] = 0xD9 ∧ crcOf (tahrCrcSpec 0 0xFF) [0x01, 0xE2] = 0x85
      ∧ crcOf (tahrCrcSpec 0 0xFF) [0x01, 0xE2, 0x2B] = 0x07 := by decide

/-- The words of instructions 13 and 14 by the fields of format F. -/
theorem test_wheel_words :
    bits 0x49BD5E00 26 6 = 0x12 ∧ wRd 0x49BD5E00 = 6 ∧ wRa 0x49BD5E00 = 15 ∧ wRb 0x49BD5E00 = 5
      ∧ bits 0x49BD5E00 9 5 = 15 ∧ tahrLegal 0x49BD5E00 = true
      ∧ bits 0x51DB6000 26 6 = 0x14 ∧ wRd 0x51DB6000 = 7 ∧ wRa 0x51DB6000 = 6 ∧ wRb 0x51DB6000 = 13
      ∧ bits 0x51DB6000 9 5 = 16 ∧ tahrLegal 0x51DB6000 = true := by decide

/-! ### The queue -/

theorem test_queue_first_in_first_out :
    nextWith (step { State.reset with pending := [.goldenAreaWrite, .powerGood true] })
      (fun t => t.pending = [.powerGood true]) := ⟨_, rfl, by decide +kernel⟩

theorem test_idle_step : nextWith (step State.reset) (fun t => t.periods = 1) := ⟨_, rfl, by decide +kernel⟩

theorem test_reset_canonical : State.reset.canonical := by decide


/-! ### Every statement with hypotheses has a state and operands that meet them -/

theorem witness_ColdStartReachesAPhase_1 :
    ∃ (s : State), (s.boot.railsOk = 0x3F) ∧ (s.boot.powered = false) :=
  ⟨State.reset, by decide +kernel⟩

theorem witness_ColdStartReachesAPhase_2 :
    ∃ (s : State) (selfTests : Nat), (s.phase = phSafetyUp) ∧ (s.sentinelUp = true) ∧ (s.boot.stopped = false) :=
  ⟨(st [(F.cfgBootStatus_phase, 4, 0, 0, 2), (F.safStatus_safe_state, 4, 0, 0, 1)]), 3, by decide +kernel⟩

theorem witness_ColdStartReachesAPhase_3 :
    ∃ (s : State) (present : Nat), (s.boot.memTrained = false) ∧ (s.boot.stopped = false) ∧ (s.boot.loaded = true ∨ s.phase = phRecovery) :=
  ⟨(st [(F.cfgBootStatus_phase, 4, 0, 0, 6)]), 0x1FE, by decide +kernel⟩

theorem witness_ColdStartReachesAPhase_4 :
    ∃ (s : State), (s.boot.loaded = true) ∧ (s.boot.memTrained = true) ∧ (s.boot.goldenWritten = 0) :=
  ⟨({ State.reset with boot := { loaded := true, memTrained := true } }), by decide +kernel⟩

theorem witness_ColdStartReachesAPhase_5 :
    ∃ (s : State) (passed : Nat), (s.boot.loaded = true) ∧ (s.boot.islandsTested = false) ∧ (s.boot.memTrained = true) :=
  ⟨({ State.reset with boot := { loaded := true, memTrained := true, goldenWritten := 0xF } }), 5, by decide +kernel⟩

theorem witness_ColdStartReachesAPhase_6 :
    ∃ (s : State), (s.phase = phSafetyInService) ∧ (s.boot.islandsTested = true) :=
  ⟨({ st [(F.cfgBootStatus_phase, 4, 0, 0, 3)] with boot := { islandsTested := true } }), by decide +kernel⟩

theorem witness_RailsAndRestartsComplete_1 :
    ∃ (s : State) (rail : Rail), (s.canonical) ∧ (s.boot.powered = true) ∧ (bit s.boot.railsOk rail.index = true) :=
  ⟨({ (State.reset.putAt 0x100 [1, 2]).putAt 0x4040000000 [3] with boot := { powered := true } }), .vinLogic, by decide +kernel⟩

theorem witness_RailsAndRestartsComplete_2 :
    ∃ (s : State), (s.boot.railsOk = 0x3F) ∧ (s.boot.stopped = false) ∧ (s.boot.loaded = true) ∧ (s.boot.railLost = true) ∧ (s.boot.railBack + 76800 ≤ s.periods) :=
  ⟨({ State.reset with periods := 76800, boot := { loaded := true, powered := true, railLost := true }, safety := { deviceReason := 0x18, starting := false } }), by decide +kernel⟩

theorem witness_RailsAndRestartsComplete_3 :
    ∃ (s : State) (r : Nat), (s.boot.restartTime = some r) ∧ (r ≤ s.periods) ∧ (s.boot.stopped = false) ∧ (s.safety.stays = false) ∧ (s.boot.loaded = true) ∧ (s.recentRestarts.length < 3) :=
  ⟨({ State.reset with boot := { loaded := true, powered := true, restartTime := some 0 } }), 0, by decide +kernel⟩

theorem witness_RailsAndRestartsComplete_4 :
    ∃ (s : State) (r : Nat), (s.boot.restartTime = some r) ∧ (r ≤ s.periods) ∧ (s.boot.stopped = false) ∧ (s.safety.stays = false) ∧ (s.boot.loaded = true) ∧ (3 ≤ s.recentRestarts.length) :=
  ⟨({ State.reset with boot := { loaded := true, powered := true, restartTime := some 0 }, safety := { restartTimes := [0, 0, 0] } }), 0, by decide +kernel⟩

theorem witness_RailsAndRestartsComplete_5 :
    ∃ (s : State) (die : Nat), (s.canonical) ∧ (s.power.tripped = false) :=
  ⟨((State.reset.putAt 0x100 [1, 2])), 3, by decide +kernel⟩

theorem witness_RailsAndRestartsComplete_6 :
    ∃ (s : State) (c : Nat), (s.power.tripCool = some c) ∧ (s.power.tripped = true) ∧ (c + 38400000 ≤ s.periods) ∧ (s.power.trips.length < 2) :=
  ⟨({ State.reset with periods := 38400000, power := { tripCool := some 0, tripped := true, trips := [0] } }), 0, by decide +kernel⟩

theorem witness_BankCommandsComplete_1 :
    ∃ (s : State) (who : Initiator) (e : BankEntry), (s.loaderRight who = true) ∧ (s.bankEntry = some e) ∧ (e.state s.boot.imageBank = .trial) ∧ (s.boot.loaded = true) ∧ (s.boot.bankFailedLate = false) :=
  ⟨({ State.reset with boot := { loaded := true, imageFloor := 7 }, flash := { entry1 := some ⟨4, false, .trial, .valid, true, true⟩ } }), steward, (⟨4, false, .trial, .valid, true, true⟩), by decide +kernel⟩

theorem witness_BankCommandsComplete_2 :
    ∃ (s : State) (who : Initiator) (e : BankEntry), (s.loaderRight who = true) ∧ (s.bankEntry = some e) ∧ (e.state (1 - s.boot.imageBank) = .valid ∨ e.state (1 - s.boot.imageBank) = .trial) ∧ (s.boot.loaded = true) :=
  ⟨({ State.reset with boot := { loaded := true }, flash := { entry0 := some ⟨9, false, .valid, .trial, true, true⟩, entry1 := some ⟨8, false, .valid, .valid, true, true⟩ } }), steward, (⟨9, false, .valid, .trial, true, true⟩), by decide +kernel⟩

theorem witness_BankCommandsComplete_3 :
    ∃ (s : State) (who : Initiator), (s.loaderRight who = true) :=
  ⟨State.reset, (.vault 0 true), by decide +kernel⟩

theorem witness_BankCommandsComplete_4 :
    ∃ (s : State) (who : Initiator) (value : Word), (s.loaderRight who = true) ∧ (s.fon F.cfgFlashCmd_busy 4 0 0 = false) ∧ (F.cfgFlashCmd_target.of value.toNat ≠ 3) ∧ (1 ≤ F.cfgFlashCmd_sectors.of value.toNat ∧ F.cfgFlashCmd_sectors.of value.toNat ≤ 8192) ∧ (F.cfgFlashCmd_target.of value.toNat = 0 ∨ s.phase = phRecovery) ∧ (s.boot.loaded = false ∨ s.boot.imageBank ≠ s.targetBank (F.cfgFlashCmd_target.of value.toNat)) :=
  ⟨({ State.reset with boot := { loaded := true }, flash := { entry0 := some ⟨9, false, .valid, .trial, true, true⟩ } }), steward, 0x20000, by decide +kernel⟩

theorem witness_BankCommandsComplete_5 :
    ∃ (s : State), (s.canonical) ∧ (s.fon F.cfgFlashCmd_busy 4 0 0 = true) :=
  ⟨({ st [(F.cfgFlashCmd_busy, 4, 0, 0, 1)] with boot := { programSource := 5 } }), by decide +kernel⟩

theorem witness_BankCommandsComplete_6 :
    ∃ (s : State), (s.canonical) ∧ (s.fon F.cfgFlashCmd_busy 4 0 0 = true) :=
  ⟨(st [(F.cfgFlashCmd_busy, 4, 0, 0, 1)]), by decide +kernel⟩

theorem witness_PaceCommandsComplete_1 :
    ∃ (s : State) (cluster : Nat) (steps : Nat), (cluster < 32) :=
  ⟨State.reset, 31, 3319, by decide +kernel⟩

theorem witness_PaceCommandsComplete_2 :
    ∃ (s : State) (cluster : Nat), (cluster < 32) ∧ (s.isl F.pwrIsl_fixed (cluster / 8) (cluster % 8) = 1) ∧ (5 ≤ storeGet 0 s.power.low cluster) :=
  ⟨({ st [(F.pwrIsl_fixed, 3, 0, 7, 1)] with power := { low := [(31, 5)] } }), 31, by decide +kernel⟩

theorem witness_PaceCommandsComplete_3 :
    ∃ (s : State) (who : Initiator) (die : Nat) (value : Word), (powerRight who die = true) ∧ (die < 4) ∧ (bit value.toNat 8 = true) ∧ ((onesBelow (F.pwrFixedReq_clusters.of value.toNat) 8).all (s.canHold die) = true) ∧ ((onesBelow (F.pwrFixedReq_clusters.of value.toNat) 8).all (fun c => 50 ≤ storeGet 0 s.power.good (die * 8 + c)) = true) :=
  ⟨({ st [(F.pwrIsl_target, 3, 0, 7, 78)] with power := { good := [(31, 50)] } }), (.governor 3), 3, 0x180, by decide +kernel⟩

theorem witness_PaceCommandsComplete_4 :
    ∃ (s : State) (die : Nat) (i : Nat) (used : List Nat), (die < 4) ∧ (i < 8) ∧ ((storeFind s.power.released die).all (fun r => r + 3 ≤ s.periods) = true) ∧ ((List.range 8).all (fun j => !s.power.fixPending.contains (die * 8 + j)) = true) ∧ (s.isl F.pwrIsl_fixed die i = 1) ∧ (s.isl F.pwrIsl_pace_limit die i = 0) :=
  ⟨({ st [(F.pwrIsl_fixed, 0, 0, 0, 1)] with power := { tokens := [(0, 200)] } }), 0, 0, [3], by decide +kernel⟩

theorem witness_PaceCommandsComplete_5 :
    ∃ (s : State) (die : Nat) (i : Nat) (used : List Nat), (die < 4) ∧ (i < 8) ∧ ((storeFind s.power.released die).all (fun r => r + 3 ≤ s.periods) = true) ∧ (s.power.fixPending.contains (die * 8 + i) = true) ∧ (78 ≤ s.isl F.pwrIsl_target die i ∧ 78 ≤ s.isl F.pwrIsl_setpoint die i) ∧ (s.isl F.pwrIsl_pace_limit die i = 0) :=
  ⟨({ st [(F.pwrIsl_target, 3, 0, 7, 78), (F.pwrIsl_setpoint, 3, 0, 7, 80)] with power := { fixPending := [4, 31] } }), 3, 7, [], by decide +kernel⟩

theorem witness_PaceCommandsComplete_6 :
    ∃ (s : State) (used : List Nat), ((storeFind s.power.released 4).all (fun r => r + 24 ≤ s.periods) = true) :=
  ⟨({ State.reset with periods := 24, power := { released := [(4, 0)] } }), [600], by decide +kernel⟩

theorem witness_PaceCommandsComplete_7 :
    ∃ (s : State), (5 ≤ s.safety.chuLow) ∧ (s.safety.chuPaceLost = false) :=
  ⟨({ State.reset with safety := { chuLow := 5 } }), by decide +kernel⟩

theorem witness_PaceCommandsComplete_8 :
    ∃ (s : State), (s.safety.chuPaceLost = true) ∧ (50 ≤ s.safety.chuGood) ∧ (s.safety.chuTestPassed = true) :=
  ⟨({ State.reset with safety := { chuPaceLost := true, chuGood := 50, chuTestPassed := true } }), by decide +kernel⟩

theorem witness_DroopAndMarginCommandsComplete_1 :
    ∃ (s : State) (die : Nat) (island : Nat), (die < 8) ∧ (island < 10) :=
  ⟨State.reset, 7, 9, by decide +kernel⟩

theorem witness_DroopAndMarginCommandsComplete_2 :
    ∃ (s : State) (die : Nat) (island : Nat) (e : Nat) (before : Nat), (die < 8) ∧ (island < 10) ∧ (storeFind s.power.raised (die * 16 + island) = some (e, before)) ∧ (e ≤ s.periods) :=
  ⟨({ State.reset with power := { raised := [(0, (0, 0))] } }), 0, 0, 0, 0, by decide +kernel⟩

theorem witness_DroopAndMarginCommandsComplete_3 :
    ∃ (s : State) (die : Nat) (island : Nat), (die < 4) ∧ (island < 8) ∧ (s.gftState (die * 16 + 2 * island) < 2 ∨ s.gftState (die * 16 + 2 * island) = gfMargin) ∧ (s.gftState (die * 16 + 2 * island + 1) < 2 ∨ s.gftState (die * 16 + 2 * island + 1) = gfMargin) :=
  ⟨State.reset, 3, 7, by decide +kernel⟩

theorem witness_DroopAndMarginCommandsComplete_4 :
    ∃ (s : State) (src : Nat) (dst : Nat) (mv : Nat), (linked src dst = true) ∧ (s.grants src dst (mv / 10) = true) :=
  ⟨State.reset, 0, 1, 300, by refine ⟨?_, reset_grants 0 1 30 (by decide)⟩; decide +kernel⟩

theorem witness_DroopAndMarginCommandsComplete_5 :
    ∃ (s : State) (src : Nat) (dst : Nat) (mv : Nat), (src < 8) ∧ (linked src dst = true) ∧ (s.grants src dst (mv / 10) = false) :=
  ⟨({ State.reset with power := { reservations := [(1, 31)] } }), 1, 0, 0, by refine ⟨by decide, by decide +kernel, refused_grants _ 1 0 0 31 rfl (by decide)⟩⟩

theorem witness_DroopAndMarginCommandsComplete_6 :
    ∃ (s : State) (src : Nat) (dst : Nat) (mv : Nat) (w : Nat), (src < dst) ∧ (dst < 8) ∧ (linked src dst = true) ∧ (s.grants src dst (mv / 10) = true) ∧ (30 < absDiff (mv / 10) (w / 10)) :=
  ⟨State.reset, 0, 1, 300, 700, by refine ⟨by decide, by decide, by decide +kernel, reset_grants 0 1 30 (by decide), by decide⟩⟩

theorem witness_DroopAndMarginCommandsComplete_7 :
    ∃ (s : State) (die : Nat) (island : Nat) (other : Nat) (otherIsland : Nat), (s.power.hot.contains (die * 16 + island, other * 16 + otherIsland) = false) ∧ (s.power.hot.contains (other * 16 + otherIsland, die * 16 + island) = false) :=
  ⟨(st [(F.pwrIsl_temp_c, 0, 0, 0, 41)]), 0, 0, 0, 1, by decide +kernel⟩

theorem witness_CapParkAndThermalCommandsComplete_1 :
    ∃ (s : State) (counters : List Nat) (temps : List Nat), (s.boot.loaded = true) :=
  ⟨({ State.reset with boot := { loaded := true } }), [5], [50], by decide +kernel⟩

theorem witness_CapParkAndThermalCommandsComplete_2 :
    ∃ (s : State) (who : Initiator) (watts : Nat), (powerRight who 4 = true) ∧ (90 ≤ watts ∧ watts ≤ 400) :=
  ⟨State.reset, steward, 400, by decide +kernel⟩

theorem witness_CapParkAndThermalCommandsComplete_3 :
    ∃ (s : State) (who : Initiator) (die : Nat) (engine : Nat), (die < 4) ∧ (engine < 16) ∧ (powerRight who die = true) ∧ (s.unitParked (die * 16 + engine) = false) ∧ (s.power.parking.contains (die * 16 + engine) = false) ∧ (s.unitProtected (die * 16 + engine) = false) ∧ (s.unitHeld (die * 16 + engine) = false) :=
  ⟨State.reset, (.governor 3), 3, 15, by decide +kernel⟩

theorem witness_CapParkAndThermalCommandsComplete_4 :
    ∃ (s : State) (who : Initiator) (die : Nat) (engine : Nat), (die < 4) ∧ (engine < 16) ∧ (powerRight who die = true) ∧ (s.unitParked (die * 16 + engine) = false) ∧ (s.power.parking.contains (die * 16 + engine) = false) ∧ (s.unitProtected (die * 16 + engine) = false) ∧ (s.unitHeld (die * 16 + engine) = false) ∧ (s.testing (die * 16 + engine) = true) :=
  ⟨({ State.reset with gft := [(63, { saved := [0, 0, 0] })] }), (.governor 3), 3, 15, by decide +kernel⟩

theorem witness_CapParkAndThermalCommandsComplete_5 :
    ∃ (s : State) (te : Nat), (te < 64) ∧ (s.power.parking.contains te = true) ∧ (s.teFree te = true) ∧ (s.testing te = false) :=
  ⟨({ State.reset with power := { parking := [63] } }), 63, by decide +kernel⟩

theorem witness_CapParkAndThermalCommandsComplete_6 :
    ∃ (s : State) (who : Initiator) (die : Nat) (engine : Nat), (die < 4) ∧ (engine < 16) ∧ (powerRight who die = true) ∧ (s.unitParked (die * 16 + engine) = true) ∧ (s.power.parking.contains (die * 16 + engine) = false) ∧ (s.power.emergency = none) :=
  ⟨(st [(F.pwrParked_parked, 1, 0, 0, 0x8000)]), steward, 1, 15, by decide +kernel⟩

theorem witness_CapParkAndThermalCommandsComplete_7 :
    ∃ (s : State) (who : Initiator) (die : Nat) (engine : Nat), (die < 4) ∧ (engine < 16) ∧ (powerRight who die = true) ∧ (bit (s.fget F.pwrParked_held_pending die 0 0) engine = true) :=
  ⟨(st [(F.pwrParked_held_pending, 0, 0, 0, 1)]), steward, 0, 0, by decide +kernel⟩

theorem witness_CapParkAndThermalCommandsComplete_8 :
    ∃ (s : State) (k : Nat), (k < 90) ∧ (s.nextWake = some k) ∧ (s.governorRuns 4 = true) ∧ (s.governorRuns (k / 16) = true) ∧ (wakeCharge k ≤ s.slewLevel) :=
  ⟨({ st [(F.pwrParked_parked, 3, 0, 0, 0xFFFF)] with power := { wakes := [(63, 3)] } }), 63, by decide +kernel⟩

theorem witness_CapParkAndThermalCommandsComplete_9 :
    ∃ (s : State) (die : Nat) (island : Nat), (die < 8) ∧ (island < 16) ∧ (s.power.throttled.contains (die * 16 + island) = false) :=
  ⟨State.reset, 7, 9, by decide +kernel⟩

theorem witness_CapParkAndThermalCommandsComplete_10 :
    ∃ (s : State) (die : Nat) (island : Nat), (die < 8) ∧ (s.power.emergency = none) :=
  ⟨({ State.reset with boot := { loaded := true } }), 5, 3, by decide +kernel⟩

theorem witness_CapParkAndThermalCommandsComplete_11 :
    ∃ (s : State) (a : Nat) (b : Nat), (s.power.emergency = some a) ∧ (s.power.coolSince = some b) ∧ (b + 384000 ≤ s.periods) :=
  ⟨({ State.reset with periods := 384001, power := { emergency := some 0, coolSince := some 1 } }), 0, 1, by decide +kernel⟩

theorem witness_ScalarInstructionsComplete_1 :
    ∃ (s : State) (te : Nat) (w : Nat), (s.runsWord te 0x00 w = true) ∧ (s.followed te = true) :=
  ⟨(engAt 63 0 {}), 63, 0, by decide +kernel⟩

theorem witness_ScalarInstructionsComplete_2 :
    ∃ (s : State) (te : Nat) (w : Nat), (s.runsWord te 0x01 w = true) ∧ (s.followed te = true) :=
  ⟨(engAt 0 (0x01 + 31 * 2 ^ 16 + 2 ^ 31 + 0xD * 2 ^ 32 + 7 * 2 ^ 64) {}), 0, (0x01 + 31 * 2 ^ 16 + 2 ^ 31 + 0xD * 2 ^ 32 + 7 * 2 ^ 64), by decide +kernel⟩

theorem witness_ScalarInstructionsComplete_3 :
    ∃ (s : State) (te : Nat) (w : Nat), (s.runsWord te 0x02 w = true) ∧ (s.followed te = true) :=
  ⟨(engAt 5 (0x02 + 7 * 2 ^ 16 + 5 * 2 ^ 32) {}), 5, (0x02 + 7 * 2 ^ 16 + 5 * 2 ^ 32), by decide +kernel⟩

theorem witness_ScalarInstructionsComplete_4 :
    ∃ (s : State) (te : Nat) (w : Nat), (s.runsWord te 0x05 w = true) ∧ (s.followed te = true) :=
  ⟨(engAt 5 (0x05 + 9 * 2 ^ 8 + 7 * 2 ^ 16 + 3 * 2 ^ 25) { preds := 2 }), 5, (0x05 + 9 * 2 ^ 8 + 7 * 2 ^ 16 + 3 * 2 ^ 25), by decide +kernel⟩

theorem witness_ScalarInstructionsComplete_5 :
    ∃ (s : State) (te : Nat) (w : Nat), (s.runsWord te 0x70 w = true) ∧ (s.followed te = true) :=
  ⟨(engAt 5 (0x70 + 5 * 2 ^ 21) {}), 5, (0x70 + 5 * 2 ^ 21), by decide +kernel⟩

theorem witness_ScalarInstructionsComplete_6 :
    ∃ (s : State) (te : Nat) (w : Nat), (s.runsWord te 0x71 w = true) ∧ (s.followed te = true) ∧ (bits w 16 2 ≠ 0) :=
  ⟨(engAt 5 (0x71 + 2 * 2 ^ 16) {}), 5, (0x71 + 2 * 2 ^ 16), by decide +kernel⟩

theorem witness_ScalarInstructionsComplete_7 :
    ∃ (s : State) (te : Nat) (w : Nat), (s.runsWord te 0x71 w = true) ∧ (s.followed te = true) ∧ (bits w 16 2 = 0) :=
  ⟨(engAt 5 0x71 {}), 5, 0x71, by decide +kernel⟩

theorem witness_ControlInstructionsComplete_1 :
    ∃ (s : State) (te : Nat) (w : Nat), (s.runsWord te 0x08 w = true) ∧ ((if bit w 27 then (s.eng te).reg (bits w 21 5) % 4096 else bits w 64 12) < (s.eng te).program.length) :=
  ⟨(engAt 63 (0x08 + 2 ^ 26 + 31 * 2 ^ 16 + 2 ^ 64) {}), 63, (0x08 + 2 ^ 26 + 31 * 2 ^ 16 + 2 ^ 64), by decide +kernel⟩

theorem witness_ControlInstructionsComplete_2 :
    ∃ (s : State) (te : Nat) (w : Nat), (s.runsWord te 0x09 w = true) ∧ (bits w 16 2 = (s.eng te).loops.length) ∧ (s.tePc te < bits w 64 12 ∧ bits w 64 12 < (s.eng te).program.length) ∧ ((if bit w 31 then bits w 96 32 else (s.eng te).reg (bits w 21 5)) ≠ 0) :=
  ⟨(engAt 63 (0x09 + 2 ^ 31 + 2 ^ 64 + 2 ^ 96) {}), 63, (0x09 + 2 ^ 31 + 2 ^ 64 + 2 ^ 96), by decide +kernel⟩

theorem witness_ControlInstructionsComplete_3 :
    ∃ (s : State) (te : Nat) (w : Nat), (s.runsWord te 0x09 w = true) ∧ (bits w 16 2 = (s.eng te).loops.length) ∧ (s.tePc te < bits w 64 12 ∧ bits w 64 12 + 1 < (s.eng te).program.length) ∧ (bits w 64 12 < 4095) ∧ ((if bit w 31 then bits w 96 32 else (s.eng te).reg (bits w 21 5)) = 0) :=
  ⟨({ st [(F.teStatus_state, 0, 0, 0, 1)] with engines := [(0, { program := [0x09 + 2 ^ 64, 0, 0] })] }), 0, (0x09 + 2 ^ 64), by decide +kernel⟩

theorem witness_ControlInstructionsComplete_4 :
    ∃ (s : State) (te : Nat) (w : Nat), (s.runsWord te 0x10 w = true) ∧ (s.followed te = true) ∧ (bits w 19 2 = 0) :=
  ⟨(engAt 3 (0x10 + 7 * 2 ^ 16 + 0xFFFFFFFFFFFF * 2 ^ 64) {}), 3, (0x10 + 7 * 2 ^ 16 + 0xFFFFFFFFFFFF * 2 ^ 64), by decide +kernel⟩

theorem witness_ControlInstructionsComplete_5 :
    ∃ (s : State) (te : Nat) (w : Nat) (v : Nat), (s.runsWord te 0x10 w = true) ∧ (s.followed te = true) ∧ (bits w 19 2 ≠ 0) ∧ (v = if bit w 31 then (s.eng te).reg (bits w 21 5) else bits w 64 64) ∧ (bits v 32 24 ≠ 0) :=
  ⟨(engAt 3 (0x10 + 3 * 2 ^ 19 + 5 * 2 ^ 96) {}), 3, (0x10 + 3 * 2 ^ 19 + 5 * 2 ^ 96), (5 * 2 ^ 32), by decide +kernel⟩

theorem witness_ControlInstructionsComplete_6 :
    ∃ (s : State) (te : Nat) (w : Nat), (s.runsWord te 0x11 w = true) ∧ (s.followed te = true) :=
  ⟨(engAt 3 (0x11 + 2 * 2 ^ 32) {}), 3, (0x11 + 2 * 2 ^ 32), by decide +kernel⟩

theorem witness_ControlInstructionsComplete_7 :
    ∃ (s : State) (te : Nat) (w : Nat) (h : Handle), (s.runsWord te 0x18 w = true) ∧ (s.followed te = true) ∧ (h = { slot := bits w 20 5, slots := bits w 25 4 + 1, fmt := bits w 29 4, rows := bits w 33 8 + 1, rowBytes := bits w 41 16 }) ∧ (h.slot + h.slots ≤ 32) ∧ (h.size ≤ h.slots * 16384) :=
  ⟨(engAt 3 (0x18 + 15 * 2 ^ 16 + 31 * 2 ^ 20 + 4 * 2 ^ 29 + 127 * 2 ^ 33 + 128 * 2 ^ 41) {}), 3, (0x18 + 15 * 2 ^ 16 + 31 * 2 ^ 20 + 4 * 2 ^ 29 + 127 * 2 ^ 33 + 128 * 2 ^ 41), (⟨31, 1, 4, 128, 128⟩), by decide +kernel⟩

theorem witness_ControlInstructionsComplete_8 :
    ∃ (s : State) (te : Nat) (w : Nat) (x : Handle) (y : Handle), (s.runsWord te 0x19 w = true) ∧ (s.followed te = true) ∧ ((s.eng te).handle (bits w 16 4) = some x) ∧ ((s.eng te).handle (bits w 20 4) = some y) :=
  ⟨(engAt 3 (0x19 + 2 ^ 20) { handles := [some ⟨0, 1, 0, 1, 32⟩, some ⟨1, 1, 0, 1, 64⟩] }), 3, (0x19 + 2 ^ 20), (⟨0, 1, 0, 1, 32⟩), (⟨1, 1, 0, 1, 64⟩), by decide +kernel⟩

theorem witness_ControlInstructionsComplete_9 :
    ∃ (s : State) (te : Nat) (w : Nat), (s.runsWord te 0x0A w = true) ∧ (s.teJobOf te = none) ∧ ((s.eng te).writes = []) :=
  ⟨(engAt 63 0x0A {}), 63, 0x0A, by decide +kernel⟩

theorem witness_ControlInstructionsComplete_10 :
    ∃ (s : State) (te : Nat) (w : Nat), (te < 64) ∧ (s.teStat te = tsRunning) ∧ (s.teStalled te = false) ∧ ((s.eng te).program[s.tePc te]? = some w) ∧ (opFields w = none) ∧ (s.teJobOf te = none) ∧ ((s.gftOf te).due = false) :=
  ⟨(engAt 63 0xFF {}), 63, 0xFF, by decide +kernel⟩

theorem witness_EngineMemoryInstructionsComplete_1 :
    ∃ (s : State) (te : Nat) (w : Nat) (a : Nat), (s.runsWord te 0x03 w = true) ∧ (s.followed te = true) ∧ (a = (s.eng te).scalarAddr w) ∧ (a % 8 = 0) ∧ (s.firstRefusal (.engine te) false [(a, 8)] = none) ∧ (s.poisonIn (.engine te) a 8 = none) ∧ (s.publicAt a = none) :=
  ⟨(wTest (0x03 + 5 * 2 ^ 16 + 0x10000 * 2 ^ 64) {}), 0, (0x03 + 5 * 2 ^ 16 + 0x10000 * 2 ^ 64), 0x10000, by decide +kernel⟩

theorem witness_EngineMemoryInstructionsComplete_2 :
    ∃ (s : State) (te : Nat) (w : Nat) (a : Nat), (s.runsWord te 0x04 w = true) ∧ (s.followed te = true) ∧ (a = (s.eng te).scalarAddr w) ∧ (a % 8 = 0) ∧ (s.firstRefusal (.engine te) true [(a, 8)] = none) ∧ (s.publicAt a = none) :=
  ⟨(wTest (0x04 + 5 * 2 ^ 16 + 0x107FF8 * 2 ^ 64) { s := [0, 0, 0, 0, 0, 0x1122334455667788] }), 0, (0x04 + 5 * 2 ^ 16 + 0x107FF8 * 2 ^ 64), 0x107FF8, by decide +kernel⟩

theorem witness_EngineMemoryInstructionsComplete_3 :
    ∃ (s : State) (te : Nat) (w : Nat) (hd : Handle) (ps : List (Nat × Nat)), (s.runsWord te 0x20 w = true) ∧ (s.followed te = true) ∧ ((s.eng te).handle (bits w 16 4) = some hd) ∧ ((s.eng te).ready hd = true) ∧ ((s.eng te).loads.length < 8) ∧ (ps = loadPieces hd ((s.eng te).gen (bits w 20 3)) (bit w 23) (bit w 24)) ∧ (s.firstRefusal (.engine te) false ((ps.map (fun p => requests p.1 p.2)).flatten) = none) :=
  ⟨(wTest (0x20 + 2 ^ 24) { handles := [some ⟨0, 1, 0, 2, 64⟩], ags := [{ base := 0x10000, counts := [2, 1, 1], strides := [64, 0, 0] }] }), 0, (0x20 + 2 ^ 24), (⟨0, 1, 0, 2, 64⟩), ([(0x10000, 64), (0x10040, 64)]), by decide +kernel⟩

theorem witness_EngineMemoryInstructionsComplete_4 :
    ∃ (s : State) (te : Nat) (th : Nat) (l : TileLoad), (te < 64) ∧ ((s.eng te).loads.find? (fun x => x.th == th) = some l) ∧ (l.poison = none) ∧ (s.teStat te = tsRunning ∨ s.teStat te = tsWaiting ∨ s.teStat te = tsStopping) :=
  ⟨(engAt 63 0 { handles := [some ⟨0, 1, 0, 1, 2⟩], loads := [⟨0, ⟨0, 1, 0, 1, 2⟩, [0], false, [5, 6], none⟩] }), 63, 0, (⟨0, ⟨0, 1, 0, 1, 2⟩, [0], false, [5, 6], none⟩), by decide +kernel⟩

theorem witness_EngineMemoryInstructionsComplete_5 :
    ∃ (s : State) (te : Nat) (w : Nat) (hd : Handle) (ws : List (Nat × List Byte)), (s.runsWord te 0x21 w = true) ∧ (s.followed te = true) ∧ ((s.eng te).handle (bits w 16 4) = some hd) ∧ ((s.eng te).ready hd = true) ∧ (ws = (s.eng te).storeRows hd ((s.eng te).gen (bits w 20 3)) (bit w 24)) ∧ (s.firstRefusal (.engine te) true ((writeRequests ws).map (fun r => (r.1, r.2.length))) = none) ∧ ((writeRequests ws).all (fun r => (s.publicAt r.1).isNone) = true) :=
  ⟨(wTest (0x21 + 2 ^ 24) { handles := [some ⟨0, 1, 0, 2, 4⟩], opbuf := [(0, 7), (5, 9)], ags := [{ base := 0x100000, counts := [2, 1, 1], strides := [64, 0, 0] }] }), 0, (0x21 + 2 ^ 24), (⟨0, 1, 0, 2, 4⟩), ([(0x100000, [7, 0, 0, 0]), (0x100040, [0, 9, 0, 0])]), by decide +kernel⟩

theorem witness_TileInstructionsComplete_1 :
    ∃ (s : State) (te : Nat) (w : Nat), (s.runsWord te 0x30 w = true) ∧ (s.followed te = true) ∧ (s.bankState te (bit w 16) = bkEmpty ∨ s.bankState te (bit w 16) = bkPassed) ∧ (bit w 33 = false) :=
  ⟨(engAt 63 (0x30 + 2 ^ 16 + 32768 * 2 ^ 17) {}), 63, (0x30 + 2 ^ 16 + 32768 * 2 ^ 17), by decide +kernel⟩

theorem witness_TileInstructionsComplete_2 :
    ∃ (s : State) (te : Nat) (w : Nat) (x : Bank), (s.runsWord te 0x30 w = true) ∧ (s.followed te = true) ∧ (x = (s.eng te).bank (bit w 16)) ∧ (s.bankState te (bit w 16) = bkPassed) ∧ (x.ended = true) ∧ (bit w 33 = true) :=
  ⟨(withFields (engAt 63 (0x30 + 2 ^ 17 + 2 ^ 33) { bankA := { ended := true, kPos := 4 } }) [(F.teStatus_bank_a, 3, 15, 0, 2)]), 63, (0x30 + 2 ^ 17 + 2 ^ 33), ({ ended := true, kPos := 4 }), by decide +kernel⟩

theorem witness_TileInstructionsComplete_3 :
    ∃ (s : State) (te : Nat) (upset : Upset) (w : Nat) (ha : Handle) (hb : Handle) (f : Family) (n : Nat), (s.runsWord te 0x31 w = true) ∧ (s.followed te = true) ∧ ((s.eng te).handle (bits w 17 4) = some ha ∧ (s.eng te).handle (bits w 21 4) = some hb) ∧ ((s.eng te).ready ha = true ∧ (s.eng te).ready hb = true) ∧ (mmaFault (arrayDim te) ((s.eng te).bank (bit w 16)) (s.bankState te (bit w 16)) ha hb (bits w 25 7) (bits w 32 7 + 1) (bits w 64 12) (bits w 39 13) (bit w 52) (s.eng te).mmaDone = none) ∧ (pairFamily ha.fmt hb.fmt = some f) ∧ (upset.inArray = false) ∧ (n = mmaSteps (arrayDim te) f ha.fmt hb.fmt (bits w 39 13) (bits w 32 7 + 1) (s.eng te).mmaDone) :=
  ⟨wMma, 0, .accumCorrected, wMmaWord, (⟨0, 1, 4, 1, 1⟩), (⟨1, 1, 4, 1, 1⟩), .plainInt, 64, by decide +kernel⟩

theorem witness_TileInstructionsComplete_4 :
    ∃ (s : State) (te : Nat) (upset : Upset) (w : Nat) (h : Handle), (s.runsWord te 0x32 w = true) ∧ (s.followed te = true) ∧ ((s.eng te).handle (bits w 17 4) = some h) ∧ ((s.eng te).ready h = true) ∧ (combFault (arrayDim te) ((s.eng te).bank (bit w 16)) (s.bankState te (bit w 16)) h (bits w 21 7) (bits w 28 7 + 1) (bits w 35 6) = none) ∧ (crc32c ((s.eng te).hBytes h 0 ((bits w 28 7 + 1) * arrayDim te * 12)) = leNat ((s.eng te).hBytes h ((bits w 28 7 + 1) * arrayDim te * 12) 4)) ∧ (checkEntries (imageLayout h.fmt) E.residueImport ((List.range ((bits w 28 7 + 1) * arrayDim te)).map (fun i => ((bits w 21 7 + i / arrayDim te) * 128 + i % arrayDim te, leAt ((s.eng te).hBytes h 0 ((bits w 28 7 + 1) * arrayDim te * 12)) (i * 12) 12))) = none) ∧ (upset.inArray = false) :=
  ⟨wComb, 0, .clean, 0x32, (⟨0, 1, 4, 3, 1024⟩), by decide +kernel⟩

theorem witness_TileInstructionsComplete_5 :
    ∃ (s : State) (te : Nat) (upset : Upset) (w : Nat), (s.runsWord te 0x33 w = true) ∧ (s.followed te = true) ∧ (s.bankState te (bit w 16) = bkOpen) ∧ (((s.eng te).bank (bit w 16)).mismatch E.residueTile = none) ∧ (upset.atCompare = false) :=
  ⟨(withFields (engAt 17 0x33 {}) [(F.teStatus_bank_a, 1, 1, 0, 1)]), 17, .clean, 0x33, by decide +kernel⟩

theorem witness_TileInstructionsComplete_6 :
    ∃ (s : State) (te : Nat) (b : Bool), (te < 64 ∨ te = 128 ∨ te = 129) ∧ (s.teStat te = tsRunning ∨ s.teStat te = tsWaiting) ∧ (s.bankState te b = bkOpen ∧ ((s.eng te).bank b).openedAt + 1880 ≤ s.periods) ∧ ((s.eng te).bankA.mismatch E.residueTile = none ∧ (s.eng te).bankB.mismatch E.residueTile = none) :=
  ⟨({ withFields (engAt 17 0x33 {}) [(F.teStatus_bank_b, 1, 1, 0, 1)] with periods := 1880 }), 17, true, by decide +kernel⟩

theorem witness_DrainAndVectorInstructionsComplete_1 :
    ∃ (s : State) (te : Nat) (w : Nat) (h : Handle) (x : Bank), (s.runsWord te 0x34 w = true) ∧ (s.followed te = true) ∧ (bit w 21 = false ∧ bit w 29 = true ∧ bit w 37 = false ∧ bits w 31 2 ≠ 2) ∧ ((s.eng te).handle (bits w 17 4) = some h) ∧ ((s.eng te).ready h = true) ∧ (x = (s.eng te).bank (bit w 16)) ∧ (s.bankState te (bit w 16) = bkPassed) ∧ (x.range = some (bits w 46 7, bits w 53 7 + 1)) ∧ (bits w 46 7 + (bits w 53 7 + 1) ≤ arrayDim te) ∧ ((bits w 53 7 + 1) * arrayDim te * 12 + 4 ≤ h.rows * h.rowBytes) :=
  ⟨(withFields (engAt 17 (0x34 + 4 * 2 ^ 25 + 2 ^ 29) { handles := [some ⟨0, 1, 4, 3, 1024⟩], bankA := { range := some (0, 1), entries := [(5, 7)] } }) [(F.teStatus_bank_a, 1, 1, 0, 2)]), 17, (0x34 + 4 * 2 ^ 25 + 2 ^ 29), (⟨0, 1, 4, 3, 1024⟩), ({ range := some (0, 1), entries := [(5, 7)] }), by decide +kernel⟩

theorem witness_DrainAndVectorInstructionsComplete_2 :
    ∃ (s : State) (te : Nat) (w : Nat) (x : Bank) (rs : List (List Byte × List Byte × Nat)) (ws : List (Nat × List Byte)), (s.runsWord te 0x34 w = true) ∧ (s.followed te = true) ∧ (bit w 21 = true ∧ bit w 29 = false ∧ bit w 37 = false ∧ bits w 31 2 = 0 ∧ bits w 42 4 = 0) ∧ (x = (s.eng te).bank (bit w 16)) ∧ (s.bankState te (bit w 16) = bkPassed) ∧ (bits w 46 7 + (bits w 53 7 + 1) ≤ arrayDim te) ∧ (rs = (drainGrid (arrayDim te) x (bits w 46 7) (bits w 53 7 + 1) (bit w 61) (fun _ v => v)).map (encodeRow (bits w 25 4) (bit w 30))) ∧ (ws = ((((s.eng te).gen (bits w 22 3)).rows true rs.length).zip rs).map (fun p => (p.1, p.2.1 ++ p.2.2.1))) ∧ (s.firstRefusal (.engine te) true ((writeRequests ws).map (fun r => (r.1, r.2.length))) = none) ∧ ((writeRequests ws).all (fun r => (s.publicAt r.1).isNone) = true) :=
  ⟨wDrain, 0, wDrainWord, ({ range := some (0, 1), layout := some .int80, entries := [(2, 3 * 65536)] }), ([([0, 0, 3] ++ List.replicate 125 0, [], 0)]), ([(0x100000, [0, 0, 3] ++ List.replicate 125 0)]), by decide +kernel⟩

theorem witness_DrainAndVectorInstructionsComplete_3 :
    ∃ (s : State) (te : Nat) (w : Nat) (hd : Handle) (h1 : Handle) (h2 : Handle) (rs : List (List Byte × List Byte × Nat)), (s.runsWord te 0x40 w = true) ∧ (s.followed te = true) ∧ (vopBinary (bits w 34 6) = true ∧ bit w 28 = false) ∧ ((s.eng te).handle (bits w 16 4) = some hd ∧ (s.eng te).handle (bits w 20 4) = some h1 ∧ (s.eng te).handle (bits w 24 4) = some h2) ∧ ((s.eng te).ready hd = true ∧ (s.eng te).ready h1 = true ∧ (s.eng te).ready h2 = true) ∧ (s.vectorOut te = false) ∧ (vopInRange (bits w 34 6) hd h1 (some h2) = true) ∧ (rs = (rowsOf hd.perRow ((s.eng te).vopResults (bits w 34 6) hd h1 ((s.eng te).lanes h2) false) hd.rows).map (encodeRow hd.fmt false)) :=
  ⟨wVop, 0, wVopWord, (⟨2, 1, 8, 1, 4⟩), (⟨0, 1, 8, 1, 4⟩), (⟨1, 1, 8, 1, 4⟩), ([([0, 0, 0x40, 0x40], [], 0)]), by decide +kernel⟩

theorem witness_DrainAndVectorInstructionsComplete_4 :
    ∃ (s : State) (te : Nat) (w : Nat) (hd : Handle) (h1 : Handle) (rs : List (List Byte × List Byte × Nat)), (s.runsWord te 0x40 w = true) ∧ (s.followed te = true) ∧ ((vopBinary (bits w 34 6) && !bit w 28) = false) ∧ ((s.eng te).handle (bits w 16 4) = some hd ∧ (s.eng te).handle (bits w 20 4) = some h1) ∧ ((s.eng te).ready hd = true ∧ (s.eng te).ready h1 = true) ∧ (s.vectorOut te = false) ∧ (vopInRange (bits w 34 6) hd h1 none = true) ∧ (rs = (rowsOf hd.perRow ((s.eng te).vopResults (bits w 34 6) hd h1 [f32Code ((s.eng te).reg (bits w 29 5) % 2 ^ 32)] (bit w 28)) hd.rows).map (encodeRow hd.fmt false)) :=
  ⟨wVop2, 0, wVop2Word, (⟨2, 1, 8, 1, 4⟩), (⟨0, 1, 8, 1, 4⟩), ([([0, 0, 0x80, 0x3F], [], 0)]), by decide +kernel⟩

theorem witness_SynchronisationInstructionsComplete_1 :
    ∃ (s : State) (te : Nat) (w : Nat), (s.runsWord te 0x50 w = true) ∧ (s.followed te = true) ∧ (if bit w 32 then Nat.land (s.eng te).flags (bits w 16 16) = bits w 16 16 else Nat.land (s.eng te).flags (bits w 16 16) ≠ 0) :=
  ⟨(engAt 3 (0x50 + 0xFFFF * 2 ^ 16 + 7 * 2 ^ 33) { flags := 0x8000 }), 3, (0x50 + 0xFFFF * 2 ^ 16 + 7 * 2 ^ 33), by decide +kernel⟩

theorem witness_SynchronisationInstructionsComplete_2 :
    ∃ (s : State) (te : Nat) (w : Nat), (s.runsWord te 0x50 w = true) ∧ ((if bit w 32 then Nat.land (s.eng te).flags (bits w 16 16) = bits w 16 16 else Nat.land (s.eng te).flags (bits w 16 16) ≠ 0) = False) :=
  ⟨(engAt 3 (0x50 + 0xFFFF * 2 ^ 16 + 2 ^ 32) { flags := 0x7FFF }), 3, (0x50 + 0xFFFF * 2 ^ 16 + 2 ^ 32), by decide +kernel⟩

theorem witness_SynchronisationInstructionsComplete_3 :
    ∃ (s : State) (te : Nat) (w : Nat), (s.runsWord te 0x50 w = true) ∧ (s.followed te = true) ∧ (s.teStat te = tsWaiting) ∧ (bits w 40 24 ≠ 0 ∧ (s.eng te).waitFrom + bits w 40 24 ≤ s.periods) :=
  ⟨({ withFields (engAt 3 (0x50 + 2 ^ 16 + 2 ^ 40) {}) [(F.teStatus_state, 0, 3, 0, 2)] with periods := 1 }), 3, (0x50 + 2 ^ 16 + 2 ^ 40), by decide +kernel⟩

theorem witness_SynchronisationInstructionsComplete_4 :
    ∃ (s : State) (te : Nat) (w : Nat) (j : Nat) (target : Nat) (u : State), (s.runsWord te 0x51 w = true) ∧ (s.followed te = true) ∧ (s.teJobOf te = some j) ∧ ((if bit w 26 then (s.boundRing (te / 16) (bits w 27 2) j).map (· + 64) else s.rankEngine j (bits w 16 6)) = some target) ∧ (s.landWrites te (fun _ => true) = (u, false) ∧ u.teStalled te = false) :=
  ⟨(wJob (0x51 + 15 * 2 ^ 22) {}), 0, (0x51 + 15 * 2 ^ 22), 5, 0, (((wJob (0x51 + 15 * 2 ^ 22) {}).landWrites (0) (fun _ => true)).1), by decide +kernel⟩

theorem witness_SynchronisationInstructionsComplete_5 :
    ∃ (s : State) (te : Nat) (flag : Nat) (fs : List Flight), (takeFlight te flag [] s.signals = some fs) :=
  ⟨({ State.reset with signals := [⟨1, 2, 0⟩, ⟨0, 3, 15⟩] }), 3, 15, ([⟨1, 2, 0⟩]), by decide +kernel⟩

theorem witness_SynchronisationInstructionsComplete_6 :
    ∃ (s : State) (te : Nat) (w : Nat) (j : Nat) (u : State), (s.runsWord te 0x52 w = true) ∧ (s.landWrites te (fun _ => true) = (u, false) ∧ u.teStalled te = false) ∧ (u.teJobOf te = some j) ∧ ((storeGet [] (u.job j).arrivals (bits w 16 8)).any (fun a => a / 64 == u.teRank te) = false) :=
  ⟨(wJob (0x52 + 255 * 2 ^ 16) {}), 0, (0x52 + 255 * 2 ^ 16), 5, (((wJob (0x52 + 255 * 2 ^ 16) {}).landWrites (0) (fun _ => true)).1), by decide +kernel⟩

theorem witness_SynchronisationInstructionsComplete_7 :
    ∃ (s : State) (job : Nat) (barrier : Nat) (here : List Nat), (here = storeGet [] (s.job job).arrivals barrier) ∧ (here ≠ []) ∧ (here.all (fun a => a % 64 + 1 ≤ here.length) = true) ∧ ((here.filterMap (fun a => s.rankEngine job (a / 64))).Nodup) ∧ (here.all (fun a => (s.rankEngine job (a / 64)).all (fun te => te < 64 && s.teStat te == tsWaiting && s.followed te)) = true) :=
  ⟨((({ withFields (wJob 0 {}) [(F.teStatus_state, 0, 0, 0, 2)] with sched := { jobs := [(5, { record := {}, ranks := [0], arrivals := [(255, [0])] })] } }) : State)), 5, 255, [0], by decide +kernel⟩

theorem witness_SynchronisationInstructionsComplete_8 :
    ∃ (s : State) (te : Nat) (w : Nat), (s.runsWord te 0x52 w = true) ∧ (s.teStat te = tsWaiting) ∧ (bits w 40 24 ≠ 0 ∧ (s.eng te).waitFrom + bits w 40 24 ≤ s.periods) ∧ (s.teJobOf te = none) ∧ ((s.gftOf te).due = false) ∧ ((s.eng te).writes = []) :=
  ⟨({ withFields (engAt 3 (0x52 + 2 ^ 40) {}) [(F.teStatus_state, 0, 3, 0, 2)] with periods := 1 }), 3, (0x52 + 2 ^ 40), by decide +kernel⟩

theorem witness_SynchronisationInstructionsComplete_9 :
    ∃ (s : State) (te : Nat) (w : Nat) (u : State), (s.runsWord te 0x53 w = true) ∧ (s.followed te = true) ∧ (s.landWrites te (fun _ => true) = (u, false) ∧ u.teStalled te = false) :=
  ⟨(engAt 3 (0x53 + 7 * 2 ^ 16) { writesOk := false }), 3, (0x53 + 7 * 2 ^ 16), (((engAt 3 (0x53 + 7 * 2 ^ 16) { writesOk := false }).landWrites (3) (fun _ => true)).1), by decide +kernel⟩

theorem witness_SynchronisationInstructionsComplete_10 :
    ∃ (s : State) (te : Nat) (w : Nat) (a : Nat) (bs : List Byte), (s.canonical) ∧ (s.runsWord te 0x53 w = true) ∧ (s.followed te = true) ∧ ((s.eng te).writes = [(a, bs)]) ∧ (s.checkAccess (.engine te) true a bs.length = .pass) ∧ (s.posts (.engine te) a = false) ∧ (s.publicAt a = none ∨ s.jobOf (.engine te) = none) :=
  ⟨(wTest (0x53 + 7 * 2 ^ 16) { writes := [(0x100000, leBytes 0x0102030405060708 8)] }), 0, (0x53 + 7 * 2 ^ 16), 0x100000, (leBytes 0x0102030405060708 8), by decide +kernel⟩

theorem witness_EngineGateInstructionsComplete_1 :
    ∃ (s : State) (te : Nat) (w : Nat) (a : Nat), (s.runsWord te 0x04 w = true) ∧ (s.followed te = true) ∧ (a = (s.eng te).scalarAddr w) ∧ (a % 8 = 0) ∧ (s.firstRefusal (.engine te) true [(a, 8)] = none) ∧ (s.meetsMarked te a = false) :=
  ⟨(wOpen (0x04 + 2 ^ 16 + 0x20FFF8 * 2 ^ 64) { s := [0, 5] }), 0, (0x04 + 2 ^ 16 + 0x20FFF8 * 2 ^ 64), 0x20FFF8, by decide +kernel⟩

theorem witness_EngineGateInstructionsComplete_2 :
    ∃ (s : State) (te : Nat) (w : Nat) (a : Nat) (bs : List Byte) (j : Nat) (d : Nat) (b : Nat) (g : Nat) (o : OpenGranule) (slot : Nat), (s.canonical) ∧ (s.runsWord te 0x53 w = true) ∧ (s.followed te = true) ∧ ((s.eng te).writes = [(a, bs)] ∧ a % 8 = 0 ∧ bs.length = 8) ∧ (s.checkAccess (.engine te) true a 8 = .pass) ∧ (s.jobOf (.engine te) = some j) ∧ (s.publicAt a = some (d, b)) ∧ (s.bufBase d b % 0x10000 = 0) ∧ (g = (a - s.bufBase d b) / granBytes) ∧ (s.dropsWrite j d b g = false) ∧ (s.granState d (s.bufFirst d b + g) = gOpen) ∧ (storeFind s.opens (openKey d (s.bufFirst d b + g)) = some o) ∧ (o.filling = false) ∧ (slot = s.slotAddr d b g (1 - s.tvt F.cgTvtEntry_confirmed_slot d (s.bufFirst d b + g)) + (a - s.bufBase d b) % granBytes) :=
  ⟨(wOpen 0x53 { writes := [(0x20FFF8, leBytes 5 8)] }), 0, 0x53, 0x20FFF8, (leBytes 5 8), 5, 0, 0, 0, ({ buf := 0, g := 0 }), 0x40FFF8, by decide +kernel⟩

theorem witness_EngineGateInstructionsComplete_3 :
    ∃ (s : State) (te : Nat) (w : Nat) (j : Nat) (d : Nat) (b : Nat) (o : OpenGranule) (e : Nat), (s.runsWord te 0x60 w = true) ∧ (s.followed te = true) ∧ (d < 4 ∧ b < 256) ∧ (s.teJobOf te = some j) ∧ (((s.job j).record.buffers[bits w 16 8]?).getD none = some (d, b)) ∧ (bits w 48 16 = 1 ∧ bits w 64 4 = 0) ∧ (bits w 24 24 < s.bufGranules d b) ∧ ((s.eng te).writes = []) ∧ (e = s.bufFirst d b + bits w 24 24) ∧ (s.dropsWrite j d b (bits w 24 24) = false) ∧ (s.granState d e = gOpen ∧ s.tvt F.cgTvtEntry_owner d e = j ∧ s.tvt F.cgTvtEntry_marks_rcvd d e = 0) ∧ (storeFind s.opens (openKey d e) = some o) ∧ (o.grpCount = 0 ∧ o.filling = false) :=
  ⟨(wOpen (0x60 + 2 ^ 48) {}), 0, (0x60 + 2 ^ 48), 5, 0, 0, ({ buf := 0, g := 0 }), 0, by decide +kernel⟩

theorem witness_EngineGateInstructionsComplete_4 :
    ∃ (s : State) (te : Nat) (w : Nat) (j : Nat) (ha : Handle) (hb : Handle) (n : Nat), (s.runsWord te 0x61 w = true) ∧ (s.followed te = true) ∧ (s.teJobOf te = some j) ∧ ((s.eng te).handle (bits w 16 4) = some ha ∧ (s.eng te).handle (bits w 20 4) = some hb) ∧ ((s.eng te).ready ha = true ∧ (s.eng te).ready hb = true) ∧ (bits w 40 8 * bits w 48 8 ≤ ha.size ∧ bits w 40 8 * bits w 48 8 ≤ hb.size) ∧ (bits w 24 16 + bits w 40 8 ≤ (s.job j).tokenCount) ∧ (n = leadingEqual (bits w 48 8) ((s.eng te).hBytes ha 0 (bits w 40 8 * bits w 48 8)) ((s.eng te).hBytes hb 0 (bits w 40 8 * bits w 48 8)) (bits w 40 8)) ∧ (storeKeys s.sched.jobs = [j]) ∧ ((s.job j).readers = [] ∧ s.jobState j = jsRunning) ∧ ((s.job j).tokenHome < 4) :=
  ⟨wRie, 0, wRieWord, 5, (⟨0, 1, 1, 1, 4⟩), (⟨1, 1, 1, 1, 4⟩), 2, by decide +kernel⟩

theorem witness_EngineStartsAndStopsComplete_1 :
    ∃ (s : State) (who : Initiator) (te : Nat) (a : Nat) (n : Nat), (te < 64) ∧ (s.teCtrlRefused who te = none) ∧ (s.engineUsable te = true) ∧ (s.teAtRest te = true) ∧ (a = s.fget F.teProg_prog_addr (te / 16) (te % 16) 0 ∧ n = s.fget F.teProg_length_m1 (te / 16) (te % 16) 0 + 1) ∧ (s.firstRefusal (.engine te) false (requests a (n * 16)) = none) ∧ (s.poisonIn (.engine te) a (n * 16) = none) :=
  ⟨wHeld, .hardware, 0, 0, 1, by decide +kernel⟩

theorem witness_EngineStartsAndStopsComplete_2 :
    ∃ (s : State) (who : Initiator) (te : Nat), (te < 64) ∧ (s.teCtrlRefused who te = none) ∧ (s.teStat te = tsRunning ∨ s.teStat te = tsWaiting) :=
  ⟨(engAt 63 0 {}), (.control 3), 63, by decide +kernel⟩

theorem witness_EngineStartsAndStopsComplete_3 :
    ∃ (s : State) (te : Nat), (s.canonical) ∧ (te < 64) ∧ (s.teStat te = tsStopping) ∧ (s.teStalled te = false) ∧ ((s.eng te).writes = []) ∧ ((s.eng te).bankA.mismatch E.residueTile = none ∧ (s.eng te).bankB.mismatch E.residueTile = none) ∧ (s.teJobOf te = none) ∧ (s.slotRefused te (s.fget F.teSaveBase_save_addr (te / 16) (te % 16) 0) true = none) ∧ ((s.gftOf te).due = false) :=
  ⟨({ withFields (engAt 63 0 {}) [(F.teStatus_state, 3, 15, 0, 3), (F.teSaveBase_save_addr, 3, 15, 0, 0x200000)] with boot := { memTrained := true, stackMask := 1 } }), 63, by decide +kernel⟩

theorem witness_EngineStartsAndStopsComplete_4 :
    ∃ (s : State) (who : Initiator) (te : Nat) (x : SavedControl), (te < 64) ∧ (s.teCtrlRefused who te = none) ∧ (s.engineUsable te = true) ∧ (s.teAtRest te = true) ∧ (storeFind s.saves (s.fget F.teSaveBase_save_addr (te / 16) (te % 16) 0) = some x) ∧ (x.engine.loads = []) :=
  ⟨({ wHeld with saves := [(0, { engine := {}, pc := 0, signature := 0, bankStates := 0, bytes := [] })] }), .hardware, 0, ({ engine := {}, pc := 0, signature := 0, bankStates := 0, bytes := [] }), by decide +kernel⟩

theorem witness_EngineStartsAndStopsComplete_5 :
    ∃ (s : State) (who : Initiator) (te : Nat), (te < 64) ∧ (s.teCtrlRefused who te = none) ∧ (1 ≤ s.teStat te ∧ s.teStat te ≤ 4) ∧ (s.teJobOf te = none) ∧ ((s.eng te).writes = []) :=
  ⟨(engAt 63 0 {}), (.control 3), 63, by decide +kernel⟩

theorem witness_EngineStartsAndStopsComplete_6 :
    ∃ (s : State) (te : Nat) (addr : Nat), (te < 64) ∧ (s.teStat te = tsRunning ∨ s.teStat te = tsWaiting ∨ s.teStat te = tsStopping) ∧ (takeWrite addr (s.eng te).writes = some []) ∧ (s.teJobOf te = none) ∧ ((s.gftOf te).due = false) ∧ (s.posts (.engine te) addr = false) :=
  ⟨(engAt 63 0 { writes := [(0x1C00000000, [1, 2])] }), 63, 0x1C00000001, by decide +kernel⟩

theorem witness_ScratchpadAndPatrolsComplete_1 :
    ∃ (s : State) (who : Initiator) (cluster : Nat) (granule : Nat) (value : Word) (die : Nat) (g : Nat), (s.canonical) ∧ (cluster < 32 ∧ granule < 16) ∧ (die = cluster / 8 ∧ g = cluster % 8 * 16 + granule) ∧ (s.granuleRights who die g = true) ∧ (s.isMoving (granuleAddr die g) = false) ∧ (bits value.toNat 0 3 ≤ 4) :=
  ⟨(State.reset.putAt (0x4030000000 + 0x7F00000) [7]), (.control 3), 31, 15, 0xFC01, 3, 127, by decide +kernel⟩

theorem witness_ScratchpadAndPatrolsComplete_2 :
    ∃ (s : State) (cluster : Nat) (hits : List Hit), (cluster < 32) ∧ (bit (s.fget F.cfgCapsClusterMap_cluster_usable 4 0 0) cluster = true) :=
  ⟨(st [(F.cfgCapsClusterMap_cluster_usable, 4, 0, 0, 0x80000000)]), 31, ([⟨0x4037000008, true⟩]), by decide +kernel⟩

theorem witness_ScratchpadAndPatrolsComplete_3 :
    ∃ (s : State) (stack : Nat) (hits : List Hit), (stack < 8) ∧ (s.fon F.memStatus_usable (stack / 2) (stack % 2) 0 = true) :=
  ⟨(st [(F.memStatus_usable, 3, 1, 0, 1)]), 7, ([⟨0x1C00000000, true⟩]), by decide +kernel⟩

theorem witness_RingDescriptorsComplete_1 :
    ∃ (s : State) (ring : Nat) (d : List Byte) (v : State) (bs : List Byte), (s.logicFrozen (ring / 16) = false) ∧ (ring < 64) ∧ (s.ringIssues ring 1 d = true) ∧ (v = ((s.ringRead64 ring).copyRows ring (leAt d 40 4) (descOverlaps d) [] ((descSrcRows d).zip (descDstRows d))).1) ∧ (((s.ringRead64 ring).copyRows ring (leAt d 40 4) (descOverlaps d) [] ((descSrcRows d).zip (descDstRows d))).2.toOption = some bs) :=
  ⟨(wRing (wDesc 1 0 0 0x100000 0x200000 16 (leBytes 0 8))), 0, (wDesc 1 0 0 0x100000 0x200000 16 (leBytes 0 8)), ((((wRing (wDesc 1 0 0 0x100000 0x200000 16 (leBytes 0 8))).ringRead64 0).copyRows 0 16 false [] [(0x100000, 0x200000)]).1), ((wDesc 1 0 0 0x100000 0x200000 16 (leBytes 0 8)).take 16), by decide +kernel⟩

theorem witness_RingDescriptorsComplete_2 :
    ∃ (s : State) (ring : Nat) (d : List Byte) (src : Nat) (dst : Nat) (len : Nat), (s.canonical) ∧ (s.logicFrozen (ring / 16) = false) ∧ (ring < 64) ∧ (s.ringIssues ring 1 d = true) ∧ (src = leAt d 8 8 ∧ dst = leAt d 16 8 ∧ len = leAt d 40 4) ∧ (leAt d 44 2 = 1 ∧ leAt d 46 2 = 1) ∧ (src % 256 + len ≤ 256 ∧ dst % 256 + len ≤ 256) ∧ (descOverlaps d = false) ∧ (s.publicAt src = none ∧ s.publicAt dst = none) ∧ ((s.ringRead64 ring).checkAccess (.ring ring) false src len = .pass) ∧ ((s.ringRead64 ring).poisonIn (.ring ring) src len = none) ∧ (((s.ringRead64 ring).fetchBytes (.ring ring) src len).1.checkAccess (.ring ring) true dst len = .pass) :=
  ⟨(wRing (wDesc 1 0 0 0x100000 0x20FF00 256 (leBytes 0 8))), 0, (wDesc 1 0 0 0x100000 0x20FF00 256 (leBytes 0 8)), 0x100000, 0x20FF00, 256, by decide +kernel⟩

theorem witness_RingDescriptorsComplete_3 :
    ∃ (s : State) (ring : Nat) (d : List Byte) (dst : Nat) (len : Nat), (s.canonical) ∧ (s.logicFrozen (ring / 16) = false) ∧ (ring < 64) ∧ (s.ringIssues ring 2 d = true) ∧ (dst = leAt d 16 8 ∧ len = leAt d 40 4) ∧ (leAt d 44 2 = 1 ∧ leAt d 46 2 = 1) ∧ (dst % 256 + len ≤ 256) ∧ (s.publicAt dst = none) ∧ ((s.ringRead64 ring).checkAccess (.ring ring) true dst len = .pass) :=
  ⟨(wRing (wDesc 2 0 0 0 0x200001 7 (leBytes 0 4 ++ [1, 0, 3, 4]))), 0, (wDesc 2 0 0 0 0x200001 7 (leBytes 0 4 ++ [1, 0, 3, 4])), 0x200001, 7, by decide +kernel⟩

theorem witness_RingDescriptorsComplete_4 :
    ∃ (s : State) (ring : Nat) (d : List Byte), (s.logicFrozen (ring / 16) = false) ∧ (ring < 64) ∧ (s.ringIssues ring 3 d = true) ∧ (bit (s.ring ring).flags (descEvent d) = true) :=
  ⟨({ wRing (wDesc 3 0 15 0 0 0 (leBytes 0 8)) with rings := [(0, { flags := 0x8000 })] }), 0, (wDesc 3 0 15 0 0 0 (leBytes 0 8)), by decide +kernel⟩

theorem witness_RingDescriptorsComplete_5 :
    ∃ (s : State) (ring : Nat) (d : List Byte), (s.logicFrozen (ring / 16) = false) ∧ (ring < 64) ∧ (s.ringIssues ring 3 d = true) ∧ (bit (s.ring ring).flags (descEvent d) = false) :=
  ⟨(wRing (wDesc 3 0 15 0 0 0 (leBytes 0 8))), 0, (wDesc 3 0 15 0 0 0 (leBytes 0 8)), by decide +kernel⟩

theorem witness_RingDescriptorsComplete_6 :
    ∃ (s : State) (ring : Nat) (d : List Byte) (te : Nat), (s.logicFrozen (ring / 16) = false) ∧ (ring < 64) ∧ (s.ringIssues ring 4 d = true) ∧ (s.rankEngine (s.ringJob ring) (descRank d) = some te) :=
  ⟨(wRing (wDesc 4 0 15 0 0 0 (leBytes 0 8))), 0, (wDesc 4 0 15 0 0 0 (leBytes 0 8)), 0, by decide +kernel⟩

theorem witness_RingDescriptorsComplete_7 :
    ∃ (s : State) (ring : Nat) (d : List Byte), (s.logicFrozen (ring / 16) = false) ∧ (ring < 64) ∧ (s.ringIssues ring 5 d = true) :=
  ⟨(wRing (wDesc 5 0 0 0 0 0 (leBytes 0 8))), 0, (wDesc 5 0 0 0 0 0 (leBytes 0 8)), by decide +kernel⟩

theorem witness_RingDescriptorsComplete_8 :
    ∃ (s : State) (ring : Nat) (flag : Nat) (fs : List Flight), (takeFlight (64 + ring) flag [] s.signals = some fs) :=
  ⟨({ State.reset with signals := [⟨1, 2, 0⟩, ⟨0, 127, 15⟩] }), 63, 15, ([⟨1, 2, 0⟩]), by decide +kernel⟩

theorem witness_RingDescriptorsComplete_9 :
    ∃ (s : State) (ring : Nat) (x : Issued) (rest : List Issued), (s.logicFrozen (ring / 16) = false) ∧ (ring < 64) ∧ ((s.ring ring).inFlight = x :: rest) ∧ (s.ringStalled ring = false) ∧ (descMoves x.desc = true → descExpects x.desc = true → x.crc = leAt x.desc 48 4) :=
  ⟨({ wRing [] with rings := [(0, { inFlight := [⟨4095, wDesc 2 3 15 0 0x200000 4 [7, 0, 0, 0, 1, 2, 3, 4], 7⟩] })] }), 0, (⟨4095, wDesc 2 3 15 0 0x200000 4 [7, 0, 0, 0, 1, 2, 3, 4], 7⟩), [], by decide +kernel⟩

theorem witness_RingDescriptorsComplete_10 :
    ∃ (s : State) (ring : Nat) (x : Issued) (rest : List Issued), (s.logicFrozen (ring / 16) = false) ∧ (ring < 64) ∧ ((s.ring ring).inFlight = x :: rest) ∧ (s.ringStalled ring = false) ∧ (descMoves x.desc = true) ∧ (s.jobLive (s.ringJob ring) = false) :=
  ⟨({ State.reset with rings := [(63, { inFlight := [⟨0, wDesc 1 0 0 0 0x200000 4 (leBytes 0 8), 7⟩] })] }), 63, (⟨0, wDesc 1 0 0 0 0x200000 4 (leBytes 0 8), 7⟩), [], by decide +kernel⟩

theorem witness_RingControlsComplete_1 :
    ∃ (s : State) (who : Initiator) (ring : Nat) (tail : Nat), (s.ringRights who ring = true) :=
  ⟨State.reset, (.control 3), 63, 4095, by decide +kernel⟩

theorem witness_RingControlsComplete_2 :
    ∃ (s : State) (who : Initiator) (ring : Nat) (tail : Nat), (s.ringRights who ring = false) :=
  ⟨State.reset, (.hostFn 1), 63, 4095, by decide +kernel⟩

theorem witness_RingControlsComplete_3 :
    ∃ (s : State) (who : Initiator) (ring : Nat), (ring < 64) ∧ (s.ringRights who ring = true) ∧ (s.ringSt ring = rgIdle ∨ s.ringSt ring = rgPaused) :=
  ⟨(st [(F.seRingHead_state, 3, 0x1803, 0, 3)]), (.control 3), 63, by decide +kernel⟩

theorem witness_RingControlsComplete_4 :
    ∃ (s : State) (who : Initiator) (ring : Nat), (s.ringRights who ring = true) ∧ (s.ringSt ring = rgRunning ∨ s.ringSt ring = rgWaiting) :=
  ⟨(st [(F.seRingHead_state, 3, 0x1803, 0, 2)]), (.control 3), 63, by decide +kernel⟩

theorem witness_RingControlsComplete_5 :
    ∃ (s : State) (ring : Nat), (ring < 64) ∧ ((s.ring ring).pausing = true) ∧ (s.ringStalled ring = false) :=
  ⟨({ State.reset with rings := [(63, { pausing := true })] }), 63, by decide +kernel⟩

theorem witness_RingControlsComplete_6 :
    ∃ (s : State) (who : Initiator) (ring : Nat), (ring < 64) ∧ (s.ringRights who ring = true) :=
  ⟨(st [(F.seRingHead_state, 3, 0x1803, 0, 2)]), (.control 3), 63, by decide +kernel⟩

theorem witness_ModelCommandsComplete_1 :
    ∃ (s : State) (q : Nat) (e : List Byte) (vi : Nat) (id : Nat), (s.canonical) ∧ (s.sysEntry q 1 vi e = true) ∧ (s.cqOpen vi (leAt e 4 2) = true) ∧ (id = cmdArg e 0) ∧ (id < 64 ∧ cmdArg e 3 < 4) ∧ (s.model? vi id = none) ∧ (cmdArg e 2 ≠ 0 ∧ placeOf (cmdArg e 1) = .lpddr) ∧ (s.inReach vi (cmdArg e 1) (cmdArg e 2) = true) ∧ (modelPairs (cmdArg e 2) ≤ s.allotPairs vi (cmdArg e 3)) :=
  ⟨(wSys (wEntry 1 [63, 0x200000, 0x200000, 0, 0x10000])), 61440, (wEntry 1 [63, 0x200000, 0x200000, 0, 0x10000]), 1, 63, by decide +kernel⟩

theorem witness_ModelCommandsComplete_2 :
    ∃ (s : State) (q : Nat) (e : List Byte) (vi : Nat), (s.canonical) ∧ (s.sysEntry q 1 vi e = true) ∧ (s.cqOpen vi (leAt e 4 2) = true) ∧ (cmdArg e 0 < 64 ∧ cmdArg e 3 < 4) ∧ ((s.model? vi (cmdArg e 0)).isSome = true) :=
  ⟨(wModel (wEntry 1 [3, 0x200000, 0x200000, 0, 0x10000]) { source := 0, length := 1, die := 0, crcTable := 0 }), 61440, (wEntry 1 [3, 0x200000, 0x200000, 0, 0x10000]), 1, by decide +kernel⟩

theorem witness_ModelCommandsComplete_3 :
    ∃ (s : State) (q : Nat) (e : List Byte) (vi : Nat) (m : Model), (s.canonical) ∧ (s.sysEntry q 2 vi e = true) ∧ (s.cqOpen vi (leAt e 4 2) = true) ∧ (s.namedModel vi (cmdArg e 0) = some m) ∧ (s.pinnedPairs vi m.die (cmdArg e 0) ≤ s.allotPairs vi m.die * 3 / 4) ∧ (m.state = .resident) :=
  ⟨(withFields (wModel (wEntry 2 [3]) { source := 0, length := 1, die := 0, crcTable := 0, state := .resident, base := some 0 }) [(F.spmGranuleN_kind, 0, 2, 0, 1), (F.spmGranuleN_vi, 0, 2, 0, 1), (F.spmGranuleN_kind, 0, 3, 0, 1), (F.spmGranuleN_vi, 0, 3, 0, 1)]), 61440, (wEntry 2 [3]), 1, ({ source := 0, length := 1, die := 0, crcTable := 0, state := .resident, base := some 0 }), by decide +kernel⟩

theorem witness_ModelCommandsComplete_4 :
    ∃ (s : State) (q : Nat) (e : List Byte) (vi : Nat) (m : Model), (s.sysEntry q 2 vi e = true) ∧ (s.namedModel vi (cmdArg e 0) = some m) ∧ (s.pinnedPairs vi m.die (cmdArg e 0) ≤ s.allotPairs vi m.die * 3 / 4) ∧ (m.state = .prefetching) :=
  ⟨(withFields (wModel (wEntry 2 [3]) { source := 0, length := 1, die := 0, crcTable := 0, state := .prefetching, base := some 0 }) [(F.spmGranuleN_kind, 0, 2, 0, 1), (F.spmGranuleN_vi, 0, 2, 0, 1), (F.spmGranuleN_kind, 0, 3, 0, 1), (F.spmGranuleN_vi, 0, 3, 0, 1)]), 61440, (wEntry 2 [3]), 1, ({ source := 0, length := 1, die := 0, crcTable := 0, state := .prefetching, base := some 0 }), by decide +kernel⟩

theorem witness_ModelCommandsComplete_5 :
    ∃ (s : State) (q : Nat) (e : List Byte) (vi : Nat) (m : Model), (s.canonical) ∧ (s.sysEntry q 3 vi e = true) ∧ (s.cqOpen vi (leAt e 4 2) = true) ∧ (s.namedModel vi (cmdArg e 0) = some m) :=
  ⟨(wModel (wEntry 3 [3]) { source := 0, length := 1, die := 0, crcTable := 0, pinned := true }), 61440, (wEntry 3 [3]), 1, ({ source := 0, length := 1, die := 0, crcTable := 0, pinned := true }), by decide +kernel⟩

theorem witness_ModelCommandsComplete_6 :
    ∃ (s : State) (q : Nat) (e : List Byte) (vi : Nat) (m : Model), (s.canonical) ∧ (s.sysEntry q 4 vi e = true) ∧ (s.cqOpen vi (leAt e 4 2) = true) ∧ (s.namedModel vi (cmdArg e 0) = some m) ∧ (m.waiters = []) :=
  ⟨(wModel (wEntry 4 [3]) { source := 0, length := 1, die := 0, crcTable := 0, pinned := true }), 61440, (wEntry 4 [3]), 1, ({ source := 0, length := 1, die := 0, crcTable := 0, pinned := true }), by decide +kernel⟩

theorem witness_ModelCommandsComplete_7 :
    ∃ (s : State) (q : Nat) (e : List Byte) (vi : Nat) (m : Model) (p : Nat), (s.canonical) ∧ (s.sysEntry q 5 vi e = true) ∧ (s.cqOpen vi (leAt e 4 2) = true) ∧ (s.namedModel vi (cmdArg e 0) = some m) ∧ (m.state = .absent) ∧ (findRun (s.freePairs vi m.die) (modelPairs m.length) 64 = some p) :=
  ⟨(wModel (wEntry 5 [3]) { source := 0, length := 0x200000, die := 0, crcTable := 0 }), 61440, (wEntry 5 [3]), 1, ({ source := 0, length := 0x200000, die := 0, crcTable := 0 }), 0, by decide +kernel⟩

theorem witness_ModelCommandsComplete_8 :
    ∃ (s : State) (q : Nat) (e : List Byte) (vi : Nat) (m : Model), (s.canonical) ∧ (s.sysEntry q 6 vi e = true) ∧ (s.cqOpen vi (leAt e 4 2) = true) ∧ (s.namedModel vi (cmdArg e 0) = some m) :=
  ⟨(wModel (wEntry 6 [3]) { source := 0, length := 1, die := 0, crcTable := 0, pinLost := true }), 61440, (wEntry 6 [3]), 1, ({ source := 0, length := 1, die := 0, crcTable := 0, pinLost := true }), by decide +kernel⟩

theorem witness_ModelCommandsComplete_9 :
    ∃ (s : State) (vi : Nat) (id : Nat) (se : Nat) (m : Model) (b : Nat) (u : State), (s.model? vi id = some m) ∧ (m.base = some b) ∧ (m.state = .loading ∨ m.state = .prefetching) ∧ (s.firmwareFinishes m.die = true) ∧ (m.waiters = []) ∧ (s.loadPieces vi m b (se % 4) true (modelPieces m.length) = (u, true)) :=
  ⟨({ ((wSys []).putAt 0x200000 [1, 2, 0, 4]).putAt 0x1000 (leBytes (crc32c [1, 2, 0, 4]) 4) with cache := { models := [(64 + 3, { source := 0x200000, length := 4, die := 3, crcTable := 0x1000, state := .loading, base := some 126 })] } }), 1, 3, 3, ({ source := 0x200000, length := 4, die := 3, crcTable := 0x1000, state := .loading, base := some 126 }), 126, ((({ ((wSys []).putAt 0x200000 [1, 2, 0, 4]).putAt 0x1000 (leBytes (crc32c [1, 2, 0, 4]) 4) with cache := { models := [(64 + 3, { source := 0x200000, length := 4, die := 3, crcTable := 0x1000, state := .loading, base := some 126 })] } }).loadPieces 1 { source := 0x200000, length := 4, die := 3, crcTable := 0x1000, state := .loading, base := some 126 } 126 3 true [(0, 4)]).1), by decide +kernel⟩

theorem witness_ModelCommandsComplete_10 :
    ∃ (s : State) (vi : Nat) (id : Nat) (se : Nat) (m : Model) (b : Nat), (s.canonical) ∧ (s.model? vi id = some m) ∧ (m.base = some b) ∧ (m.state = .loading ∨ m.state = .prefetching) ∧ (s.firmwareFinishes m.die = true) ∧ (m.waiters = []) ∧ (m.source + m.length ≤ 0x2000000000) ∧ ((granPieces m.source m.length).all (fun p => s.steer .other p.1 == p.1) = true) ∧ ((s.loadPieces vi m b (se % 4) true (modelPieces m.length)).2 = true) :=
  ⟨({ ((wSys []).putAt 0x200000 [1, 2, 0, 4]).putAt 0x1000 (leBytes (crc32c [1, 2, 0, 4]) 4) with cache := { models := [(64 + 3, { source := 0x200000, length := 4, die := 3, crcTable := 0x1000, state := .loading, base := some 126 })] } }), 1, 3, 3, ({ source := 0x200000, length := 4, die := 3, crcTable := 0x1000, state := .loading, base := some 126 }), 126, by decide +kernel⟩

theorem witness_BufferCommandsComplete_1 :
    ∃ (s : State) (q : Nat) (e : List Byte) (vi : Nat) (d : Nat) (b : Nat) (first : Nat), (s.canonical) ∧ (s.sysEntry q 0x10 vi e = true) ∧ (s.cqOpen vi (leAt e 4 2) = true) ∧ (d = s.gateOf (cmdArg e 0) 0) ∧ (cmdArg e 3 ≤ 1 ∧ cmdArg e 4 ≤ 0xFFFF) ∧ (s.badRange vi d (cmdArg e 0) (cmdArg e 1) (cmdArg e 2) = false) ∧ (s.interleaved = false) ∧ (b < 256 ∧ s.bufValid d b = false) ∧ (s.freeTvtRun d (cmdArg e 2) = some first) :=
  ⟨(wSys (wEntry 0x10 [0x200000, 0x400000, 4, 0, 0xFFFF, 0])), 61440, (wEntry 0x10 [0x200000, 0x400000, 4, 0, 0xFFFF, 0]), 1, 0, 255, 0, by decide +kernel⟩

theorem witness_BufferCommandsComplete_2 :
    ∃ (s : State) (q : Nat) (e : List Byte) (vi : Nat) (die : Nat) (b : Nat), (s.canonical) ∧ (s.sysEntry q 0x10 vi e = true) ∧ (s.cqOpen vi (leAt e 4 2) = true) ∧ (cmdArg e 3 ≤ 1 ∧ cmdArg e 4 ≤ 0xFFFF) ∧ (cmdArg e 0 % granBytes ≠ 0) :=
  ⟨(wSys (wEntry 0x10 [0x208000, 0x400000, 4, 0, 0xFFFF, 0])), 61440, (wEntry 0x10 [0x208000, 0x400000, 4, 0, 0xFFFF, 0]), 1, 0, 255, by decide +kernel⟩

theorem witness_BufferCommandsComplete_3 :
    ∃ (s : State) (q : Nat) (e : List Byte) (vi : Nat) (d : Nat) (b : Nat), (s.canonical) ∧ (s.sysEntry q 0x11 vi e = true) ∧ (s.cqOpen vi (leAt e 4 2) = true) ∧ (s.ownBuffer vi (cmdArg e 0) = some (d, b)) ∧ (s.bufferBusy d b = false) ∧ (∀ g < s.bufGranules d b, s.tvt F.cgTvtEntry_confirmed_slot d (s.bufFirst d b + g) = 0) :=
  ⟨(withFields (wSys (wEntry 0x11 [255])) [(F.cgBufCtrl_valid, 0, 255, 0, 1), (F.cgBufCtrl_vi, 0, 255, 0, 1), (F.cgBufCtrl_granules_m1, 0, 255, 0, 1)]), 61440, (wEntry 0x11 [255]), 1, 0, 255, by decide +kernel⟩

theorem witness_BufferCommandsComplete_4 :
    ∃ (s : State) (q : Nat) (e : List Byte) (vi : Nat) (d : Nat) (b : Nat), (s.canonical) ∧ (s.sysEntry q 0x11 vi e = true) ∧ (s.cqOpen vi (leAt e 4 2) = true) ∧ (s.ownBuffer vi (cmdArg e 0) = some (d, b)) ∧ (s.bufferBusy d b = true) :=
  ⟨({ withFields (wSys (wEntry 0x11 [255])) [(F.cgBufCtrl_valid, 0, 255, 0, 1), (F.cgBufCtrl_vi, 0, 255, 0, 1), (F.cgTvtEntry_state, 0, 0, 0, 1)] with opens := [(0, { buf := 255, g := 0 })] }), 61440, (wEntry 0x11 [255]), 1, 0, 255, by decide +kernel⟩

theorem witness_BufferCommandsComplete_5 :
    ∃ (s : State) (q : Nat) (e : List Byte) (vi : Nat) (d : Nat) (b : Nat) (gs : List Nat), (s.canonical) ∧ (s.sysEntry q 0x12 vi e = true) ∧ (s.cqOpen vi (leAt e 4 2) = true) ∧ (s.ownBuffer vi (cmdArg e 0) = some (d, b)) ∧ (gs = ((List.range (cmdArg e 2)).map (fun i => i + cmdArg e 1)).filter (fun g => g < s.bufGranules d b)) :=
  ⟨(withFields (wSys (wEntry 0x12 [255, 1, 3])) [(F.cgBufCtrl_valid, 0, 255, 0, 1), (F.cgBufCtrl_vi, 0, 255, 0, 1), (F.cgBufCtrl_granules_m1, 0, 255, 0, 2), (F.cgTvtEntry_version, 0, 0, 2, 9)]), 61440, (wEntry 0x12 [255, 1, 3]), 1, 0, 255, ([1, 2]), by decide +kernel⟩

theorem witness_BufferCommandsComplete_6 :
    ∃ (s : State) (q : Nat) (e : List Byte) (vi : Nat) (d : Nat) (b : Nat), (s.canonical) ∧ (s.sysEntry q 0x13 vi e = true) ∧ (s.cqOpen vi (leAt e 4 2) = true) ∧ (s.ownBuffer vi (cmdArg e 0) = some (d, b)) :=
  ⟨(withFields (wSys (wEntry 0x13 [255, 0x8000000000000001])) [(F.cgBufCtrl_valid, 0, 255, 0, 1), (F.cgBufCtrl_vi, 0, 255, 0, 1)]), 61440, (wEntry 0x13 [255, 0x8000000000000001]), 1, 0, 255, by decide +kernel⟩

theorem witness_GateEventsComplete_1 :
    ∃ (s : State) (die : Nat) (entry : Nat) (o : OpenGranule) (src : Nat) (dst : Nat), (s.canonical) ∧ (die < 4 ∧ entry < 8192) ∧ (storeFind s.opens (openKey die entry) = some o) ∧ (o.filling = true) ∧ (o.stalled = []) ∧ (s.fon F.cgBufCtrl_fill die o.buf 0 = false) ∧ (src = s.slotAddr die o.buf o.g (s.tvt F.cgTvtEntry_confirmed_slot die entry)) ∧ (dst = s.slotAddr die o.buf o.g (1 - s.tvt F.cgTvtEntry_confirmed_slot die entry)) ∧ (s.poisoned src granBytes = false) ∧ (overlap src granBytes dst granBytes = false) :=
  ⟨({ withFields (wOpen 0 {}) [] with opens := [(0, { buf := 0, g := 0, filling := true })] }), 0, 0, ({ buf := 0, g := 0, filling := true }), 0x200000, 0x400000, by decide +kernel⟩

theorem witness_GateEventsComplete_2 :
    ∃ (s : State) (die : Nat) (entry : Nat) (o : OpenGranule) (dst : Nat), (s.canonical) ∧ (die < 4 ∧ entry < 8192) ∧ (storeFind s.opens (openKey die entry) = some o) ∧ (o.filling = true) ∧ (o.stalled = []) ∧ (s.fon F.cgBufCtrl_fill die o.buf 0 = true) ∧ (dst = s.slotAddr die o.buf o.g (1 - s.tvt F.cgTvtEntry_confirmed_slot die entry)) :=
  ⟨({ withFields (wOpen 0 {}) [(F.cgBufCtrl_fill, 0, 0, 0, 1)] with opens := [(0, { buf := 0, g := 0, filling := true })] }), 0, 0, ({ buf := 0, g := 0, filling := true }), 0x400000, by decide +kernel⟩

theorem witness_GateEventsComplete_3 :
    ∃ (s : State) (die : Nat) (entry : Nat) (o : OpenGranule) (j : Nat), (s.canonical) ∧ (s.logicFrozen die = false) ∧ (die < 4 ∧ entry < 8192) ∧ (storeFind s.opens (openKey die entry) = some o) ∧ (o.grpCount ≠ 0) ∧ (j = s.tvt F.cgTvtEntry_owner die entry) ∧ ((s.job? j).isSome = true ∧ s.jobState j = jsRunning) ∧ ((s.groupOf die o).all (fun p => s.mayConfirm die p.1 p.2 && s.tvt F.cgTvtEntry_owner die p.1 == j) = true) ∧ (((s.groupOf die o).map Prod.fst).Nodup) ∧ (s.vis.shrinking = []) :=
  ⟨({ withFields (wJob 0 {}) [(F.cgTvtEntry_state, 0, 0, 0, 2), (F.cgTvtEntry_owner, 0, 0, 0, 5), (F.cgTvtEntry_version, 0, 0, 0, 65535), (F.cgTvtEntry_state, 0, 0, 1, 2), (F.cgTvtEntry_owner, 0, 0, 1, 5), (F.cgTvtEntry_confirmed_slot, 0, 0, 1, 1)] with opens := [(0, { buf := 0, g := 0, grpCount := 2 }), (1, { buf := 0, g := 1, grpCount := 2 })] }), 0, 1, ({ buf := 0, g := 1, grpCount := 2 }), 5, by decide +kernel⟩

theorem witness_GateEventsComplete_4 :
    ∃ (s : State) (die : Nat) (entry : Nat) (o : OpenGranule), (storeFind s.opens (openKey die entry) = some o) ∧ ((s.groupOf die o).any (fun p => !s.mayConfirm die p.1 p.2) = true) :=
  ⟨({ wOpen 0 {} with opens := [(0, { buf := 0, g := 0, grpCount := 1 })] }), 0, 0, ({ buf := 0, g := 0, grpCount := 1 }), by decide +kernel⟩

theorem witness_GateEventsComplete_5 :
    ∃ (s : State) (who : Initiator) (q : Nat) (value : Word) (j : Nat) (first : Nat) (n : Nat), (isSubmission q = true ∧ s.doorbellOk who q = true) ∧ (j = bits value.toNat 0 12 ∧ first = bits value.toNat 16 7 ∧ n = bits value.toNat 24 7 + 1) ∧ (bits value.toNat 12 4 = 0 ∧ bits value.toNat 23 1 = 0 ∧ value.toNat < 2 ^ 32) ∧ (s.jobLive j = true ∧ s.jobVi j = s.qVi q) ∧ (first + n ≤ (s.job j).tokenCount) ∧ (storeKeys s.sched.jobs = [j]) ∧ ((s.job j).readers = [] ∧ s.jobState j = jsRunning) ∧ ((s.job j).tokenHome < 4) :=
  ⟨(withFields (wTokens 0 {}) [(F.schQbase_vi, 4, 0, 9, 1), (F.schQptr_state, 4, 0, 9, 1)]), (.engine 0), 9, 0x83040005#64, 5, 4, 4, by decide +kernel⟩

theorem witness_GateEventsComplete_6 :
    ∃ (s : State) (who : Initiator) (q : Nat) (value : Word), (isSubmission q = false ∨ s.doorbellOk who q = false) :=
  ⟨(wTokens 0 {}), (.engine 0), 9, 0x83040005#64, by decide +kernel⟩

theorem witness_GateEventsComplete_7 :
    ∃ (s : State) (job : Nat), (s.jobLive job = true) ∧ ((s.job job).record.deadline ≠ 0 ∧ (s.job job).dispatched = true) ∧ ((List.range (s.job job).tokenCount).any (fun i => s.tokenState job i == 1) = true) ∧ (storeKeys s.sched.jobs = [job]) ∧ ((s.job job).readers = [] ∧ s.jobState job = jsRunning) ∧ ((s.job job).tokenHome < 4) ∧ ((s.job job).dispatchTime + (s.job job).record.deadline ≤ s.periods) :=
  ⟨({ wTokens 0 {} with periods := 1, sched := { jobs := [(5, { record := { speculative := true, deadline := 1 }, ranks := [0], tokenCount := 8, dispatched := true })] } }), 5, by decide +kernel⟩

theorem witness_QueueCommandsComplete_1 :
    ∃ (s : State) (who : Initiator) (q : Nat) (v : Nat), (s.headQueue q = false) ∧ (s.doorbellOk who q = true) ∧ (s.tailFits q (v % 65536) = true) :=
  ⟨(st [(F.schQbase_size_log2, 4, 0, 9, 4), (F.schQbase_vi, 4, 0, 9, 1), (F.schQptr_state, 4, 0, 9, 1), (F.schQptr_head, 4, 0, 9, 65530), (F.viOwner_vf_enable, 4, 0, 65, 1)]), (.hostFn 2), 9, (65536 + 10), by decide +kernel⟩

theorem witness_QueueCommandsComplete_2 :
    ∃ (s : State) (who : Initiator) (q : Nat) (v : Nat), (s.doorbellOk who q = false) :=
  ⟨State.reset, (.hostFn 2), 9, 1, by decide +kernel⟩

theorem witness_QueueCommandsComplete_3 :
    ∃ (s : State) (who : Initiator) (q : Nat) (v : Nat), (s.headQueue q = true) ∧ (s.doorbellOk who q = true) ∧ ((v % 65536 + 65536 - s.qHead q) % 65536 ≤ s.qUsed q) ∧ ((s.cq q).held = []) :=
  ⟨(st [(F.schQbase_size_log2, 4, 0, 16384, 4), (F.schQbase_vi, 4, 0, 16384, 1), (F.schQptr_state, 4, 0, 16384, 1), (F.schQptr_head, 4, 0, 16384, 65535), (F.schQptr_tail, 4, 0, 16384, 3), (F.viOwner_vf_enable, 4, 0, 65, 1)]), (.hostFn 2), 16384, 3, by decide +kernel⟩

theorem witness_QueueCommandsComplete_4 :
    ∃ (s : State) (q : Nat) (e : List Byte) (vi : Nat) (j : Nat) (u : State), (s.canonical) ∧ (isSubmission q = true ∧ s.queueReady q = true) ∧ (s.readEntryAt q (s.qHead q) 256 = (u, some e)) ∧ (vi = u.qVi q) ∧ (u.recordStatus q vi e = stOk) ∧ (j = recCtx e) :=
  ⟨(wSubmit wRecord), 9, wRecord, 1, 5, (((wSubmit wRecord).readEntryAt 9 ((wSubmit wRecord).qHead 9) 256).1), by decide +kernel⟩

theorem witness_QueueCommandsComplete_5 :
    ∃ (s : State) (q : Nat) (e : List Byte) (vi : Nat) (cq : Nat) (u : State), (s.canonical) ∧ (isSubmission q = true ∧ s.queueReady q = true) ∧ (s.readEntryAt q (s.qHead q) 256 = (u, some e)) ∧ (vi = u.qVi q) ∧ (u.recordStatus q vi e ≠ stOk) ∧ (cq = leAt e 0x18 2) ∧ (s.cqOpen vi cq = true) :=
  ⟨(wSubmit (wRecord.set 252 1)), 9, (wRecord.set 252 1), 1, 16384, (((wSubmit (wRecord.set 252 1)).readEntryAt 9 ((wSubmit (wRecord.set 252 1)).qHead 9) 256).1), by decide +kernel⟩

theorem witness_QueueCommandsComplete_6 :
    ∃ (s : State) (q : Nat) (vi : Nat) (vec : Nat) (us : Nat), ((s.cq q).unsignalled ≠ 0) ∧ (us = s.fget (if s.fon F.viState_over_budget 4 0 (s.qVi q) then F.viCoalesce_ob_us else F.viCoalesce_time_us) 4 0 (64 + s.qVi q)) ∧ ((s.cq q).oldest * 10 + us * 384 ≤ s.periods * 10) ∧ (s.fon F.schQcfg_msi_enable 4 0 q = true) ∧ (vi = s.qVi q ∧ vec = s.fget F.schQcfg_msi_vector 4 0 q) ∧ (s.fget F.viCtx_vec_first 4 0 (64 + vi) ≤ vec ∧ vec < s.fget F.viCtx_vec_first 4 0 (64 + vi) + s.fget F.viCtx_vec_count 4 0 (64 + vi)) ∧ (s.hostMode ≠ 2 ∨ s.fget F.viOwner_vf_enable 4 0 (64 + vi) ≠ 1) :=
  ⟨({ st [(F.schQcfg_msi_enable, 4, 0, 16384, 1), (F.schQbase_vi, 4, 0, 16384, 1), (F.viCtx_vec_count, 4, 0, 65, 1), (F.viMsi_file, 4, 0, 65, 7)] with sched := { cqs := [(16384, { unsignalled := 1 })] } }), 16384, 1, 0, 0, by decide +kernel⟩

theorem witness_QueueCommandsComplete_7 :
    ∃ (s : State) (q : Nat) (vi : Nat) (vec : Nat) (us : Nat), ((s.cq q).unsignalled ≠ 0) ∧ (us = s.fget (if s.fon F.viState_over_budget 4 0 (s.qVi q) then F.viCoalesce_ob_us else F.viCoalesce_time_us) 4 0 (64 + s.qVi q)) ∧ ((s.cq q).oldest * 10 + us * 384 ≤ s.periods * 10) ∧ (s.fon F.schQcfg_msi_enable 4 0 q = true) ∧ (vi = s.qVi q ∧ vec = s.fget F.schQcfg_msi_vector 4 0 q) ∧ (s.fget F.viCtx_vec_first 4 0 (64 + vi) ≤ vec ∧ vec < s.fget F.viCtx_vec_first 4 0 (64 + vi) + s.fget F.viCtx_vec_count 4 0 (64 + vi)) ∧ (s.hostMode = 2 ∧ s.fget F.viOwner_vf_enable 4 0 (64 + vi) = 1) :=
  ⟨({ st [(F.schQcfg_msi_enable, 4, 0, 16384, 1), (F.schQbase_vi, 4, 0, 16384, 1), (F.viCtx_vec_count, 4, 0, 65, 1), (F.viOwner_vf_enable, 4, 0, 65, 1), (F.cfgCapsIo_host_mode, 4, 0, 0, 2), (F.viCoalesce_time_us, 4, 0, 65, 10)] with periods := 384, sched := { cqs := [(16384, { unsignalled := 1 })] } }), 16384, 1, 0, 10, by decide +kernel⟩

theorem witness_DispatchAndPreemptionComplete_1 :
    ∃ (s : State) (job : Nat) (tes : List Nat) (slots : List Nat), (s.jobLive job = true ∧ s.jobState job = jsQueued ∧ s.sched.ready.contains job = true) ∧ (s.enoughEngines (s.job job).record.dieMask (s.jobRanksM1 job + 1) (s.job job).record.singleDie = true) ∧ (s.modelsReady job = true) ∧ (tes.length = s.jobRanksM1 job + 1) ∧ (s.choiceFits job ((List.range (s.jobRanksM1 job + 1)).zip tes) = true ∧ s.rtTurn job = true) ∧ (if s.jobClass job = 0 then slots = [] else s.slotsFit (s.jobVi job) s.slotsTaken tes slots = true) ∧ (((s.allocRegions job).bind (fun u => u.allocTokens job ((tes[0]?.getD 0) / 16))).isSome = true) :=
  ⟨wReady, 5, [0], [0x200000], by decide +kernel⟩

theorem witness_DispatchAndPreemptionComplete_2 :
    ∃ (s : State) (job : Nat) (needing : Nat), (s.needsEngines needing = true ∧ s.mayPreempt needing job = true) ∧ ((storeKeys s.sched.jobs).all (fun k => k == job || !s.mayPreempt needing k || !s.victimBefore needing k job) = true) ∧ ((s.job job).ranks.all (fun te => te < 64 && s.firmwareStarts (te / 16)) = true) :=
  ⟨({ withFields (wRing []) [(F.schJctx_class, 4, 0, 5, 2), (F.schJctx_class, 4, 0, 6, 1), (F.schJctx_vi, 4, 0, 5, 1), (F.schJctx_vi, 4, 0, 6, 1), (F.schJctx_state, 4, 0, 5, 1), (F.schCtrl_fw_attached, 4, 0, 0, 1), (F.cfgCapsEngineMap_engine_usable, 4, 0, 0, 1), (F.viEngines_die_mask, 4, 0, 65, 1)] with sched := { jobs := [(5, { record := {}, ranks := [0] }), (6, { record := { dieMask := 1 } })], ready := [6] } }), 5, 6, by decide +kernel⟩

theorem witness_DispatchAndPreemptionComplete_3 :
    ∃ (s : State) (job : Nat) (needer : Nat) (se : Nat) (a : Nat) (copy : Nat), (s.canonical) ∧ (s.jobLive job = true ∧ s.jobState job = jsPreempted ∧ s.jobLive needer = true) ∧ (s.jobClass needer < s.jobClass job ∧ s.spillFits job needer [a] = true ∧ s.firmwareFinishes (dieOfSpm a) = true) ∧ (s.jobVi needer = s.jobVi job) ∧ (s.inAllocRegion job a = true ∧ (s.job job).spilled.any (fun x => x.addr == a) = false) ∧ (0x4000000000 ≤ a ∧ a + 0x100000 ≤ 0x4040000000) ∧ (copy + 0x100000 ≤ 0x2000000000) ∧ (s.inExtent (s.jobVi job) copy 0x100000 = true) ∧ (s.vis.shrinking = []) :=
  ⟨({ withFields wPreempted [(F.schJctx_vi, 4, 0, 6, 1), (F.schJctx_class, 4, 0, 6, 1)] with sched := { jobs := [(5, { record := { privates := [⟨0x4000000000, 0x100000, 0, true⟩] } }), (6, { record := { privates := [⟨0, 0x200000, 0, true⟩] } })] } }), 5, 6, 3, 0x4000000000, 0x400000, by decide +kernel⟩

theorem witness_DispatchAndPreemptionComplete_4 :
    ∃ (s : State) (job : Nat) (tes : List Nat), (s.jobLive job = true ∧ s.jobState job = jsPreempted ∧ s.fget F.schJranks_engines 4 0 job = 0) ∧ (tes.length = (s.ranksToResume job).length) ∧ (s.choiceFits job ((s.ranksToResume job).zip tes) = true) ∧ ((s.job job).spilled = []) ∧ (job < 4096) :=
  ⟨({ wPreempted with sched := { jobs := [(5, { record := { dieMask := 1 }, ranks := [0], saved := [0], dispatched := true })] } }), 5, [0], by decide +kernel⟩

theorem witness_DispatchAndPreemptionComplete_5 :
    ∃ (s : State) (job : Nat) (tes : List Nat), (s.jobLive job = true ∧ s.jobState job = jsPreempted ∧ s.fget F.schJranks_engines 4 0 job = 0) ∧ (tes.length = (s.ranksToResume job).length) ∧ (s.choiceFits job ((s.ranksToResume job).zip tes) = true) ∧ ((s.job job).spilled ≠ []) ∧ ((s.job job).spilled.all (fun x => s.refillable (s.jobVi job) x.addr) = true) :=
  ⟨({ wPreempted with sched := { jobs := [(5, { record := { dieMask := 1 }, ranks := [0], saved := [0], dispatched := true, spilled := [⟨0x4000000000, 0x400000⟩] })] } }), 5, [0], by decide +kernel⟩

theorem witness_DispatchAndPreemptionComplete_6 :
    ∃ (s : State) (job : Nat) (x : SpilledGranule), (s.jobLive job = true ∧ s.jobState job = jsPreempted ∧ s.fget F.schJranks_engines 4 0 job ≠ 0) ∧ ((s.job job).spilled = [x]) ∧ ((s.job job).ranks.all (fun te => s.firmwareFinishes (te / 16)) = true) ∧ (s.poisoned x.copy 0x100000 = false) ∧ (x.copy + 0x100000 ≤ 0x2000000000 ∧ 0x4000000000 ≤ x.addr) ∧ ((s.job job).record.progress + 64 ≤ 0x2000000000) ∧ (s.canonical) :=
  ⟨({ withFields wPreempted [(F.schJranks_engines, 4, 0, 5, 1)] with sched := { jobs := [(5, { record := { dieMask := 1 }, ranks := [0], saved := [0], dispatched := true, spilled := [⟨0x4000000000, 0x400000⟩] })] } }), 5, (⟨0x4000000000, 0x400000⟩), by decide +kernel⟩

theorem witness_DispatchAndPreemptionComplete_7 :
    ∃ (s : State) (job : Nat), (s.jobLive job = true ∧ s.jobState job = jsPreempted ∧ s.fget F.schJranks_engines 4 0 job ≠ 0) ∧ ((s.job job).spilled ≠ []) ∧ ((s.job job).ranks.all (fun te => s.firmwareFinishes (te / 16)) = true) ∧ (storeKeys s.sched.jobs = [job]) :=
  ⟨({ withFields wPreempted [(F.schJranks_engines, 4, 0, 5, 1)] with sched := { jobs := [(5, { record := { dieMask := 1 }, ranks := [0], saved := [0], dispatched := true, spilled := [⟨0x4000000000, 0x400000⟩] })] } }), 5, by decide +kernel⟩

theorem witness_DispatchAndPreemptionComplete_8 :
    ∃ (s : State) (p : Nat), ((s.rtPart p).windowOpen = true) ∧ (s.safety.frameRun = true ∧ s.safety.frameStart + s.fget F.schRtCfg_window 4 p 0 ≤ s.periods) ∧ (s.sched.jobs.all (fun x => !(s.jobLive x.1 && s.jobClass x.1 == 0 && (s.job x.1).record.partition == p)) = true) :=
  ⟨({ State.reset with safety := { frameRun := true }, sched := { parts := [(3, { windowOpen := true, admitted := 1, finished := 1 })] } }), 3, by decide +kernel⟩

theorem witness_DispatchAndPreemptionComplete_9 :
    ∃ (s : State) (p : Nat) (j : Nat), ((s.rtPart p).windowOpen = true) ∧ (s.safety.frameRun = true ∧ s.safety.frameStart + s.fget F.schRtCfg_window 4 p 0 ≤ s.periods) ∧ (p < 64 ∧ j < 4096) ∧ (storeKeys s.sched.jobs = [j]) ∧ (s.jobLive j = true ∧ s.jobClass j = 0 ∧ (s.job j).record.partition = p ∧ (s.job j).admitted = true ∧ s.jobState j ≠ jsSettling) :=
  ⟨({ st [(F.schJctx_state, 4, 0, 5, 1)] with safety := { frameRun := true }, sched := { parts := [(3, { windowOpen := true, admitted := 1 })], jobs := [(5, { record := { partition := 3 }, admitted := true })] } }), 3, 5, by decide +kernel⟩

theorem witness_CrossDieCommandsComplete_1 :
    ∃ (s : State) (who : Initiator) (die : Nat) (job : Nat) (rank : Nat) (te : Nat), (s.controlsDie who die = true ∨ who = .hardware) ∧ (s.rankEngine job rank = some te ∧ te < 64) ∧ (s.testing te = false ∧ bit (s.fget F.schRtLock_engines (te / 16) 0 0) (te % 16) = false) ∧ (s.teStat te = tsRunning ∨ s.teStat te = tsWaiting) :=
  ⟨(wJob 0 {}), (.control 3), 3, 5, 0, 0, by decide +kernel⟩

theorem witness_CrossDieCommandsComplete_2 :
    ∃ (s : State) (who : Initiator) (die : Nat) (job : Nat) (rank : Nat) (te : Nat), (s.controlsDie who die = true ∨ who = .hardware) ∧ (s.rankEngine job rank = some te ∧ te < 64) ∧ (s.testing te = false ∧ bit (s.fget F.schRtLock_engines (te / 16) 0 0) (te % 16) = false) ∧ (s.engineUsable te = true ∧ s.teAtRest te = true) :=
  ⟨(withFields (wJob 0 {}) [(F.teStatus_state, 0, 0, 0, 4), (F.cfgCapsEngineMap_engine_usable, 4, 0, 0, 1)]), (.control 3), 3, 5, 0, 0, by decide +kernel⟩

theorem witness_CrossDieCommandsComplete_3 :
    ∃ (s : State) (who : Initiator) (die : Nat) (job : Nat) (rank : Nat) (te : Nat), (s.controlsDie who die = true ∨ who = .hardware) ∧ (s.rankEngine job rank = some te ∧ te < 64) ∧ (s.testing te = false ∧ bit (s.fget F.schRtLock_engines (te / 16) 0 0) (te % 16) = false) ∧ (1 ≤ s.teStat te ∧ s.teStat te ≤ 4) ∧ ((s.gftOf te).due = false ∧ s.vis.shrinking = []) :=
  ⟨(withFields (wJob 0 {}) [(F.teStatus_bank_a, 0, 0, 0, 1)]), (.control 3), 3, 5, 0, 0, by decide +kernel⟩

theorem witness_CrossDieCommandsComplete_4 :
    ∃ (s : State) (who : Initiator) (die : Nat) (job : Nat) (rank : Nat) (te : Nat), (s.controlsDie who die = true ∨ who = .hardware) ∧ (s.rankEngine job rank = some te ∧ te < 64) ∧ (s.testing te = false ∧ bit (s.fget F.schRtLock_engines (te / 16) 0 0) (te % 16) = false) :=
  ⟨(wRing []), (.control 3), 3, 5, 0, 0, by decide +kernel⟩

theorem witness_CrossDieCommandsComplete_5 :
    ∃ (s : State) (who : Initiator) (die : Nat) (job : Nat) (rank : Nat), (s.controlsDie who die = false ∧ who ≠ .hardware) :=
  ⟨(wJob 0 {}), (.hostFn 2), 3, 5, 0, by decide +kernel⟩

theorem witness_CrossDieCommandsComplete_6 :
    ∃ (s : State) (who : Initiator) (die : Nat) (w : Nat) (rest : List Nat), (who.reachesRegisters = true) ∧ (storeGet [] s.sched.dieEvents die = w :: rest) :=
  ⟨({ State.reset with sched := { dieEvents := [(3, [7, 8])] } }), (.control 3), 3, 7, [8], by decide +kernel⟩

theorem witness_WindowsAndSamplesComplete_1 :
    ∃ (s : State) (g : Nat) (n : Nat) (depth : Nat), (s.logicFrozen (grpDie g) = false) ∧ (g < 32) ∧ (s.fon F.ippGrpCfg_enable (grpDie g) (g % 16) 0 = true) ∧ (s.windowDue g = true) ∧ (n = s.grpFld F.ippGrpCfg_slots_m1 g + 1 ∧ depth = s.grpFld F.ippGrpCfg_depth_m1 g + 1) ∧ ((List.range depth).any (fun i => (s.ippGroup g).bufs[i]?.all (· == .free)) = true) :=
  ⟨(wIpp [] { bufs := [] }), 0, 1, 1, by decide +kernel⟩

theorem witness_WindowsAndSamplesComplete_2 :
    ∃ (s : State) (n : Nat) (capture : Nat) (damage : List Nat) (data : List Byte) (g : Nat) (slot : Nat) (b : Batch) (q : BatchSlot), (s.logicFrozen (ippDieOf n) = false) ∧ (F.ippScfg_enable.of (s.scfg n) = 1 ∧ s.fget F.ippSstat_state (ippDieOf n) 0 (n % 48) = 1) ∧ (s.slotOf n = some (g, slot)) ∧ ((s.ippGroup g).batches.find? (fun b => !b.done && s.captureIn g b (if n % 48 < 16 then s.deviceTime else capture)) = some b) ∧ (b.slots[slot]? = some q) ∧ (q.stream = some n ∧ q.stage = .waiting) :=
  ⟨(wIpp [] (wFilling .waiting)), 16, (5 * 2 ^ 16), [1], ([1, 2]), 0, 0, (wBatch .waiting), ({ stream := some 16 }), by decide +kernel⟩

theorem witness_WindowsAndSamplesComplete_3 :
    ∃ (s : State) (n : Nat) (capture : Nat) (damage : List Nat) (data : List Byte) (g : Nat) (slot : Nat), (s.logicFrozen (ippDieOf n) = false) ∧ (n < 96) ∧ (F.ippScfg_enable.of (s.scfg n) = 1 ∧ s.fget F.ippSstat_state (ippDieOf n) 0 (n % 48) = 1) ∧ (s.slotOf n = some (g, slot)) ∧ ((s.ippGroup g).batches.find? (fun b => !b.done && s.captureIn g b (if n % 48 < 16 then s.deviceTime else capture)) = none) :=
  ⟨(wIpp [] (wFilling .waiting)), 16, (1 * 2 ^ 48), [], ([1, 2]), 0, 0, by decide +kernel⟩

theorem witness_WindowsAndSamplesComplete_4 :
    ∃ (s : State) (n : Nat) (lost : List Nat) (refsLost : List Nat) (g : Nat) (slot : Nat) (b : Batch) (x : Sample), (s.canonical) ∧ (s.logicFrozen (ippDieOf n) = false ∧ s.logicFrozen (grpDie g) = false) ∧ (s.stagesStopped n = false) ∧ (s.stagedSample n = some (g, slot, b, x)) ∧ (slot < 64) ∧ (s.batchOpen g b = true) ∧ ((s.ippGroup g).batches.all (fun y => y.buf != b.buf || y == b) = true) ∧ ((List.range b.slots.length).all (fun i => i == slot || b.slots[i]?.any slotDone) = true) :=
  ⟨(wIpp [(16, {})] (wFilling (.staged ⟨9, 77, [1, 2], [], false, 0⟩))), 16, [0], [0], 0, 0, (wBatch (.staged ⟨9, 77, [1, 2], [], false, 0⟩)), (⟨9, 77, [1, 2], [], false, 0⟩), by decide +kernel⟩

theorem witness_WindowsAndSamplesComplete_5 :
    ∃ (s : State) (n : Nat) (undecoded : List Nat) (g : Nat) (slot : Nat) (b : Batch) (x : Sample), (s.logicFrozen (ippDieOf n) = false) ∧ (n < 96) ∧ (s.stagedSample n = some (g, slot, b, x)) ∧ (F.ippScfg_decode.of (s.scfg n) ≠ 0 ∧ x.aborted = false) ∧ (x.since * 10 + 4 * F.ippScfg_budget_us.of (s.scfg n) * 384 ≤ s.periods * 10) :=
  ⟨(withFields (wIpp [] (wFilling (.staged ⟨9, 77, [1, 2], [], false, 0⟩))) [(F.ippScfg_decode, 6, 0, 16, 1)]), 16, [3], 0, 0, (wBatch (.staged ⟨9, 77, [1, 2], [], false, 0⟩)), (⟨9, 77, [1, 2], [], false, 0⟩), by decide +kernel⟩

theorem witness_WindowsAndSamplesComplete_6 :
    ∃ (s : State) (g : Nat) (b : Batch) (rest : List Batch), (s.canonical) ∧ (s.logicFrozen (grpDie g) = false) ∧ ((s.ippGroup g).batches = b :: rest) ∧ (s.batchOpen g b = true) ∧ (b.opened + s.grpFld F.ippGrpTiming2_close_offset g ≤ s.periods) ∧ (b.slots.length ≤ 64) ∧ (rest.all (fun y => y.buf != b.buf) = true) :=
  ⟨(wIpp [] (wFilling .waiting)), 0, (wBatch .waiting), [], by decide +kernel⟩

theorem witness_WindowsAndSamplesComplete_7 :
    ∃ (s : State) (g : Nat) (b : Batch) (rest : List Batch), (s.logicFrozen (grpDie g) = false) ∧ ((s.ippGroup g).batches = b :: rest) ∧ (b.done = true) ∧ (b.opened + s.grpFld F.ippGrpTiming2_close_offset g ≤ s.periods) :=
  ⟨(wIpp [] { batches := [{ wBatch .waiting with done := true }] }), 0, ({ wBatch .waiting with done := true }), [], by decide +kernel⟩

theorem witness_BatchConsumersComplete_1 :
    ∃ (s : State) (who : Initiator) (g : Nat) (i : Nat) (w : Nat), (g < 32) ∧ (who.reachesRegisters = true) ∧ (s.instanceResets (s.grpFld F.ippGrpCfg_vi g) = false) ∧ (s.acquirable g = some (i, w)) ∧ (i < 16) :=
  ⟨(wIpp [] { bufs := [.free, .prepared 9], order := [1] }), (.hostFn 2), 0, 1, 9, by decide +kernel⟩

theorem witness_BatchConsumersComplete_2 :
    ∃ (s : State) (who : Initiator) (g : Nat), (who.reachesRegisters = true) ∧ (s.instanceResets (s.grpFld F.ippGrpCfg_vi g) = false) ∧ (s.acquirable g = none) :=
  ⟨(wIpp [] { bufs := [.free] }), (.hostFn 2), 0, by decide +kernel⟩

theorem witness_BatchConsumersComplete_3 :
    ∃ (s : State) (who : Initiator) (g : Nat) (i : Nat) (w : Nat), (g < 32) ∧ (who.isSteward = true ∨ s.belongs who (s.grpFld F.ippGrpCfg_vi g) = true) ∧ (s.instanceResets (s.grpFld F.ippGrpCfg_vi g) = false) ∧ ((s.ippGroup g).bufs[i]? = some (.held w)) :=
  ⟨(wIpp [] { bufs := [.held 9] }), steward, 0, 0, 9, by decide +kernel⟩

theorem witness_BatchConsumersComplete_4 :
    ∃ (s : State) (who : Initiator) (g : Nat) (i : Nat), (who.isSteward = true ∨ s.belongs who (s.grpFld F.ippGrpCfg_vi g) = true) ∧ (s.instanceResets (s.grpFld F.ippGrpCfg_vi g) = false) ∧ (((s.ippGroup g).bufs[i]?.any (fun b => match b with | .held _ => true | _ => false)) = false) :=
  ⟨(wIpp [] { bufs := [.prepared 9] }), steward, 0, 0, by decide +kernel⟩

theorem witness_BatchConsumersComplete_5 :
    ∃ (s : State) (g : Nat), (g < 32) ∧ (F.ippGrpCfg_rt.of (s.ippGroup g).cfg = 1 ∧ s.fon F.ippGrpCfg_enable (grpDie g) (g % 16) 0 = true) ∧ (s.safety.frameRun = true ∧ s.safety.frameStart + s.grpFld F.ippGrpTiming2_consume_offset g ≤ s.periods) ∧ ((s.ippGroup g).acquired ≠ some s.frame ∧ (s.ippGroup g).order = []) :=
  ⟨({ wIpp [] { cfg := fieldAt F.ippGrpCfg_rt 1 } with safety := { frameRun := true } }), 0, by decide +kernel⟩

theorem witness_BatchConsumersComplete_6 :
    ∃ (s : State) (g : Nat), (F.ippGrpCfg_rt.of (s.ippGroup g).cfg = 1 ∧ s.fon F.ippGrpCfg_enable (grpDie g) (g % 16) 0 = true) ∧ (s.safety.frameRun = true ∧ s.safety.frameStart + s.grpFld F.ippGrpTiming2_consume_offset g ≤ s.periods) ∧ ((s.ippGroup g).acquired = some s.frame) :=
  ⟨({ wIpp [] { cfg := fieldAt F.ippGrpCfg_rt 1, acquired := some 0 } with safety := { frameRun := true } }), 0, by decide +kernel⟩

theorem witness_BatchConsumersComplete_7 :
    ∃ (s : State) (who : Initiator) (n : Nat) (src : Nat) (p : List Byte) (u : State), (who.isSteward = true) ∧ (({ s.fset F.ippSparam_src (ippDieOf n) 0 (n % 48) src with resp := {} }).fetchAs (.service none) src 128 = (u, some p)) ∧ (remapBytes p = 0) :=
  ⟨(lp []), steward, 16, 0x1000, (leBytes 0 128), ((({ (lp []).fset F.ippSparam_src 6 0 16 0x1000 with resp := {} }).fetchAs (.service none) 0x1000 128).1), by decide +kernel⟩

theorem witness_BatchConsumersComplete_8 :
    ∃ (s : State) (who : Initiator) (n : Nat) (src : Nat) (p : List Byte) (r : List Byte) (u : State) (v : State), (who.isSteward = true) ∧ (({ s.fset F.ippSparam_src (ippDieOf n) 0 (n % 48) src with resp := {} }).fetchAs (.service none) src 128 = (u, some p)) ∧ (remapBytes p ≠ 0) ∧ (u.fetchAs (.service none) (leAt p 104 8) (remapBytes p) = (v, some r)) :=
  ⟨((lp []).putAt 0x1015 [1]), steward, 16, 0x1000, (leBytes 0 21 ++ [1] ++ leBytes 0 106), (leBytes 0 8), ((({ ((lp []).putAt 0x1015 [1]).fset F.ippSparam_src 6 0 16 0x1000 with resp := {} }).fetchAs (.service none) 0x1000 128).1), (((({ ((lp []).putAt 0x1015 [1]).fset F.ippSparam_src 6 0 16 0x1000 with resp := {} }).fetchAs (.service none) 0x1000 128).1.fetchAs (.service none) 0 8).1), by decide +kernel⟩

theorem witness_BatchConsumersComplete_9 :
    ∃ (s : State) (who : Initiator) (n : Nat), (who.isSteward = true) ∧ (s.slotOf n = none) :=
  ⟨({ State.reset with ipp := { streams := [(16, { refs := [(0, 5)] })] } }), steward, 16, by decide +kernel⟩

theorem witness_BatchConsumersComplete_10 :
    ∃ (s : State) (who : Initiator) (n : Nat) (g : Nat) (slot : Nat) (b : Batch) (q : BatchSlot), (who.isSteward = true) ∧ (s.slotOf n = some (g, slot)) ∧ ((s.ippGroup g).batches = [b] ∧ b.done = false) ∧ (b.slots[slot]? = some q) ∧ (q.stream = some n ∧ slotDone q = false) :=
  ⟨(wIpp [(16, { refs := [(0, 5)] })] (wFilling .waiting)), steward, 16, 0, 0, (wBatch .waiting), ({ stream := some 16 }), by decide +kernel⟩

theorem witness_BatchConsumersComplete_11 :
    ∃ (s : State) (who : Initiator) (n : Nat), (who.isSteward = false) :=
  ⟨State.reset, (.hostFn 2), 16, by decide +kernel⟩

theorem witness_FramesAndGoldenTestsComplete_1 :
    ∃ (s : State) (p : Nat), (s.framed = true) ∧ (s.nextStart ≤ s.periods) ∧ (s.engines.all (fun x => x.2.writes.isEmpty) = true) ∧ (p < 64) ∧ (s.outputs ≤ 64) ∧ (s.fon F.safStatus_safe_state 4 0 0 = false ∧ s.fget F.gwStatus_stopped 6 0 0 = 0) ∧ (s.sched.nextFrame = []) :=
  ⟨({ wFrame [(F.safOut_live_state, 4, 0, 0, 0)] { frameRun := true } with periods := 640000 }), 63, by decide +kernel⟩

theorem witness_FramesAndGoldenTestsComplete_2 :
    ∃ (s : State) (te : Nat), (s.framed = true) ∧ (s.safety.frameRun = true ∧ s.safety.frameStart + s.fget F.gftWindow_gt_open 4 0 0 ≤ s.periods) ∧ (s.engines.all (fun x => x.2.writes.isEmpty) = true) ∧ (te < 64) ∧ (s.sharedEngine te = true ∧ s.canTest te = true) :=
  ⟨(wFrame ((List.range 64).map (fun p => (F.schRtEngines_engines, 4, p, 0, 0))) { frameRun := true }), 0, by decide +kernel⟩

theorem witness_FramesAndGoldenTestsComplete_3 :
    ∃ (s : State) (te : Nat), (s.framed = true) ∧ (s.safety.frameRun = true ∧ s.safety.frameStart + (s.fget F.gftWindow_confirm_offset 4 0 0 - 6144) ≤ s.periods) ∧ (s.engines.all (fun x => x.2.writes.isEmpty) = true) ∧ (te < 64) ∧ (s.sharedEngine te = true ∧ s.engineUsable te = true ∧ s.untested te = true ∧ s.gftState te = gfIn ∧ s.parked te = false) ∧ (s.testing te = false ∧ (s.teStat te = tsRunning ∨ s.teStat te = tsWaiting)) :=
  ⟨(wFrame ((F.teStatus_state, 0, 0, 0, 1) :: (List.range 64).map (fun p => (F.schRtEngines_engines, 4, p, 0, 0))) { frameRun := true }), 0, by decide +kernel⟩

theorem witness_FramesAndGoldenTestsComplete_4 :
    ∃ (s : State) (te : Nat), (te < 64) ∧ (s.testing te = true ∧ s.testEnded te = true ∧ s.gftState te = gfTesting) ∧ (s.testOutcome te = none) :=
  ⟨(wTested 0), 0, by decide +kernel⟩

theorem witness_FramesAndGoldenTestsComplete_5 :
    ∃ (s : State) (te : Nat) (c : Nat), (te < 64) ∧ (s.testing te = true ∧ s.testEnded te = true ∧ s.gftState te = gfTesting) ∧ (s.testOutcome te = some c) ∧ ((s.gftOf te).events = []) :=
  ⟨(wTested 1), 0, 0, by decide +kernel⟩

theorem witness_FramesAndGoldenTestsComplete_6 :
    ∃ (s : State) (te : Nat), (s.framed = true) ∧ (s.safety.frameRun = true ∧ s.safety.frameStart + s.fget F.gftWindow_confirm_offset 4 0 0 ≤ s.periods) ∧ (te < 64) ∧ (s.engineUsable te = true ∧ s.untested te = true ∧ s.parked te = false) ∧ (s.gftState te = gfIn ∨ s.gftState te = gfTesting) :=
  ⟨(wFrame [] { frameRun := true }), 0, by decide +kernel⟩

theorem witness_DecisionsAndStatusComplete_1 :
    ∃ (s : State), (s.safety.frameRun = true ∧ s.safety.late = none ∧ s.safety.curDecided = false) ∧ (s.safety.frameStart + s.fget F.safCfg_decision_offset 4 0 0 ≤ s.periods) ∧ (s.outputs ≤ 64) :=
  ⟨({ wFrame [] { frameRun := true } with sched := { parts := [(0, { admitted := 1 })] } }), by decide +kernel⟩

theorem witness_DecisionsAndStatusComplete_2 :
    ∃ (s : State) (f : Nat) (lives : List Nat), (s.safety.frameRun = true ∧ s.safety.late = some (f, lives)) ∧ (s.safety.lateStart + s.fget F.safCfg_decision_offset 4 0 0 ≤ s.periods) ∧ (s.outputs ≤ 64) :=
  ⟨(wFrame [] { frameRun := true, late := some (6, [1, 0]) }), 6, ([1, 0]), by decide +kernel⟩

theorem witness_DecisionsAndStatusComplete_3 :
    ∃ (s : State) (te : Nat) (unit : Bool), (te < 64) ∧ (s.gftState te = gfQuarantine ∧ (s.gftOf te).retest = true) :=
  ⟨({ st [(F.gftEng_state, 4, 0, 63, 2)] with gft := [(63, { retest := true })] }), 63, true, by decide +kernel⟩

theorem witness_DecisionsAndStatusComplete_4 :
    ∃ (s : State) (te : Nat) (unit : Bool), (te < 64) ∧ (s.gftState te = gfQuarantine ∧ (s.gftOf te).retest = true) :=
  ⟨({ st [(F.gftEng_state, 4, 0, 63, 2)] with gft := [(63, { retest := true })] }), 63, true, by decide +kernel⟩

theorem witness_DecisionsAndStatusComplete_5 :
    ∃ (s : State) (channel : Nat), (channel < 2) ∧ (s.fon F.sscStatus_active (6 + channel) 0 0 = true ∧ s.frameDue channel = true) :=
  ⟨(st [(F.sscStatus_active, 7, 0, 0, 1)]), 1, by decide +kernel⟩

theorem witness_DecisionsAndStatusComplete_6 :
    ∃ (s : State) (who : Initiator), ((match who with | .sentinel _ => true | w => w.isSteward) = true) ∧ (s.outputs ≤ 64) :=
  ⟨(wFrame [] {}), steward, by decide +kernel⟩

theorem witness_DecisionsAndStatusComplete_7 :
    ∃ (s : State) (who : Initiator), ((match who with | .sentinel _ => false | .hardware => false | w => !w.isSteward) = true) :=
  ⟨State.reset, (.hostFn 2), by decide +kernel⟩

theorem witness_FallbackAndPairsComplete_1 :
    ∃ (s : State) (slot : Nat) (l : FallbackLane) (c : Nat) (data : List Byte) (lost : List Nat), (s.canonical) ∧ (s.safety.lanes[slot]? = some l) ∧ (l.sample = some (c, data, lost) ∧ l.written = none ∧ s.safety.fbClosed = false) :=
  ⟨({ State.reset with safety := { lanes := [{ lane := 0, fmt := 0, sample := some (3, [1], [0]) }] } }), 0, ({ lane := 0, fmt := 0, sample := some (3, [1], [0]) }), 3, [1], [0], by decide +kernel⟩

theorem witness_FallbackAndPairsComplete_2 :
    ∃ (s : State), (s.canonical) ∧ (s.safety.frameRun = true ∧ s.safety.fbClosed = false ∧ s.fallbackState ≠ 2) ∧ (s.safety.frameStart + s.safety.fbCloseAt ≤ s.periods) :=
  ⟨({ st [(F.teStatus_state, 8, 0, 0, 5), (F.teStatus_state, 8, 1, 0, 5), (F.teSig_signature, 8, 0, 0, 5), (F.teSig_signature, 8, 1, 0, 7)] with safety := { frameRun := true, chuUsable := 3, chuExpected := [5, 6], lanes := [{ lane := 0, fmt := 0 }] } }), by decide +kernel⟩

theorem witness_FallbackAndPairsComplete_3 :
    ∃ (s : State), (s.safety.fbClosed = true ∧ s.safety.fbEnded = false ∧ s.safety.fbFault = false ∧ s.safety.chuPassed ≠ 0 ∧ s.safety.fbAnyInput = true) ∧ (s.fallbackPossible = true) ∧ (s.teStat (chamoisTe + s.safety.fbEngine) = tsDone) :=
  ⟨({ st [(F.teStatus_state, 8, 1, 0, 5)] with safety := { fbClosed := true, chuPassed := 2, chuUsable := 2, fbAnyInput := true, fbEngine := 1 } }), by decide +kernel⟩

theorem witness_FallbackAndPairsComplete_4 :
    ∃ (s : State), (s.safety.fbClosed = true ∧ s.safety.fbEnded = false) ∧ (s.teStat (chamoisTe + s.safety.fbEngine) ≠ tsRunning ∧ s.teStat (chamoisTe + s.safety.fbEngine) ≠ tsWaiting) ∧ (s.teStat (chamoisTe + s.safety.fbEngine) ≠ tsDone ∨ s.safety.fbFault = true) :=
  ⟨({ st [(F.teStatus_state, 8, 0, 0, 6)] with safety := { fbClosed := true, chuUsable := 1 } }), by decide +kernel⟩

theorem witness_FallbackAndPairsComplete_5 :
    ∃ (s : State), (s.safety.frameRun = true ∧ s.fallbackState ≠ 2 ∧ s.safety.fbAvailable = false ∧ s.safety.fbLate = false) ∧ (s.safety.frameStart + s.fget F.safCfg_fallback_deadline 4 0 0 ≤ s.periods) :=
  ⟨({ State.reset with safety := { frameRun := true } }), by decide +kernel⟩

theorem witness_FallbackAndPairsComplete_6 :
    ∃ (s : State) (pair : Nat) (r : PairRun), (pair < 6 ∧ s.pairUp pair = true ∧ s.checkpointDue pair r = true) ∧ (r.message = none ∨ (s.outbox pair).length < 64) :=
  ⟨State.reset, 3, ({ events := [.message 0x200000 [1, 2]], count := 9, pc := 0x100, regs := 5 }), by decide +kernel⟩

theorem witness_FallbackAndPairsComplete_7 :
    ∃ (s : State) (pair : Nat) (r : PairRun), (pair < 6) ∧ (r.message ≠ none ∧ 64 ≤ (s.outbox pair).length) :=
  ⟨({ State.reset with pairs := [(3, { ahead := List.replicate 64 ⟨1, 2, [], some (0, [])⟩ })] }), 3, ({ events := [.message 0x200000 [1, 2]], count := 9, pc := 0x100, regs := 5 }), by decide +kernel⟩

theorem witness_FallbackAndPairsComplete_8 :
    ∃ (s : State) (pair : Nat) (r : PairRun) (g : PairSegment) (rest : List PairSegment), (pair < 4 ∧ s.pairUp pair = true) ∧ ((s.pair pair).ahead = g :: rest) ∧ (g.signature = r.signature ∧ g.message = none) :=
  ⟨({ State.reset with pairs := [(3, { ahead := [⟨({ events := [], count := 9, pc := 8, regs := 7 } : PairRun).signature, 9, [], none⟩] })] }), 3, ({ events := [], count := 9, pc := 8, regs := 7 }), (⟨({ events := [], count := 9, pc := 8, regs := 7 } : PairRun).signature, 9, [], none⟩), [], by decide +kernel⟩

theorem witness_FallbackAndPairsComplete_9 :
    ∃ (s : State) (pair : Nat) (r : PairRun) (g : PairSegment) (rest : List PairSegment) (a : Nat) (bs : List Byte) (u : State), (pair < 6 ∧ s.pairUp pair = true) ∧ ((s.pair pair).ahead = g :: rest) ∧ (g.signature = r.signature ∧ g.message = some (a, bs)) ∧ (u = s.checkpointPasses pair g) ∧ (u.hears (pairInitiator pair) a = true) :=
  ⟨({ State.reset with pairs := [(3, { ahead := [⟨({ events := [], count := 9, pc := 8, regs := 7 } : PairRun).signature, 9, [], some (0x200000, [1])⟩] })] }), 3, ({ events := [], count := 9, pc := 8, regs := 7 }), (⟨({ events := [], count := 9, pc := 8, regs := 7 } : PairRun).signature, 9, [], some (0x200000, [1])⟩), [], 0x200000, [1], (({ State.reset with pairs := [(3, { ahead := [⟨({ events := [], count := 9, pc := 8, regs := 7 } : PairRun).signature, 9, [], some (0x200000, [1])⟩] })] }).checkpointPasses 3 ⟨({ events := [], count := 9, pc := 8, regs := 7 } : PairRun).signature, 9, [], some (0x200000, [1])⟩), by decide +kernel⟩

theorem witness_FallbackAndPairsComplete_10 :
    ∃ (s : State) (pair : Nat) (r : PairRun) (g : PairSegment) (rest : List PairSegment), ((s.pair pair).ahead = g :: rest) ∧ (g.signature ≠ r.signature) ∧ (pair < 4 ∧ s.pairUp pair = true) ∧ (s.pairEvents pair = [s.periods]) :=
  ⟨({ State.reset with pairs := [(3, { ahead := [⟨5, 9, [], some (0x200000, [1])⟩] })] }), 3, ({ events := [], count := 9, pc := 8, regs := 7 }), (⟨5, 9, [], some (0x200000, [1])⟩), [], by decide +kernel⟩

theorem witness_FallbackAndPairsComplete_11 :
    ∃ (s : State) (count : Nat), (s.pairSt 4 = prAdmitted ∧ s.pairActive 4 = true ∧ s.pairSt 5 = prStandby) ∧ (s.err.handlingOrder = []) ∧ (s.pairEvents 4 = [s.periods]) :=
  ⟨(st [(F.safPair_active, 4, 0, 4, 1), (F.safPair_state, 4, 0, 5, 4)]), 9, by decide +kernel⟩

theorem witness_FallbackAndPairsComplete_12 :
    ∃ (s : State) (pair : Nat), (pair < 4) ∧ (s.pairSt pair = prTesting ∨ s.pairSt pair = prReset) :=
  ⟨(st [(F.safPair_state, 4, 0, 3, 1)]), 3, by decide +kernel⟩

theorem witness_FallbackAndPairsComplete_13 :
    ∃ (s : State) (pair : Nat), (pair < 6) ∧ (s.pairSt pair = prTesting ∨ s.pairSt pair = prReset) :=
  ⟨(st [(F.safPair_state, 4, 0, 5, 1)]), 5, by decide +kernel⟩

theorem witness_TahrRegisterInstructionsComplete_1 :
    ∃ (s : State) (seq : Nat) (w : Nat), (s.tahrRuns seq 0 w = true) :=
  ⟨(wTahr 87 0 { ring := some 61 }), 87, 0, by decide +kernel⟩

theorem witness_TahrRegisterInstructionsComplete_2 :
    ∃ (s : State) (seq : Nat) (w : Nat), (s.tahrRuns seq 1 w = true) :=
  ⟨(wTahr 31 (tw 1 3 1 2 12) (tx 0x7FFFFFFF 1 0)), 31, (tw 1 3 1 2 12), by decide +kernel⟩

theorem witness_TahrRegisterInstructionsComplete_3 :
    ∃ (s : State) (seq : Nat) (w : Nat), (s.tahrRuns seq 2 w = true) :=
  ⟨(wTahr 0 (tw 2 3 1 15 0x3FFF) (tx 5 0 0)), 0, (tw 2 3 1 15 0x3FFF), by decide +kernel⟩

theorem witness_TahrRegisterInstructionsComplete_4 :
    ∃ (s : State) (seq : Nat) (w : Nat), (s.tahrRuns seq 3 w = true) :=
  ⟨(wTahr 0 (tw 3 3 1 15 0x3FF0) (tx 0xFFFF 0 0)), 0, (tw 3 3 1 15 0x3FF0), by decide +kernel⟩

theorem witness_TahrRegisterInstructionsComplete_5 :
    ∃ (s : State) (seq : Nat) (w : Nat), (s.tahrRuns seq 4 w = true) :=
  ⟨(wTahr 0 (tw 4 3 1 15 0x3FF0) (tx 0xF 0 0)), 0, (tw 4 3 1 15 0x3FF0), by decide +kernel⟩

theorem witness_TahrRegisterInstructionsComplete_6 :
    ∃ (s : State) (seq : Nat) (w : Nat), (s.tahrRuns seq 5 w = true) :=
  ⟨(wTahr 0 (tw 5 3 3 15 0x3FF0) (tx 0 0 0xFF)), 0, (tw 5 3 3 15 0x3FF0), by decide +kernel⟩

theorem witness_TahrRegisterInstructionsComplete_7 :
    ∃ (s : State) (seq : Nat) (w : Nat), (s.tahrRuns seq 6 w = true) :=
  ⟨(wTahr 0 (tw 6 3 1 0 (64 + 31)) (tx 0x80000000 0 0)), 0, (tw 6 3 1 0 (64 + 31)), by decide +kernel⟩

theorem witness_TahrRegisterInstructionsComplete_8 :
    ∃ (s : State) (seq : Nat) (w : Nat), (s.tahrRuns seq 7 w = true) :=
  ⟨(wTahr 0 (tw 7 3 15 15 0x3FFF) (tx 0 0 0)), 0, (tw 7 3 15 15 0x3FFF), by decide +kernel⟩

theorem witness_TahrRegisterInstructionsComplete_9 :
    ∃ (s : State) (seq : Nat) (w : Nat), (s.tahrRuns seq 8 w = true) :=
  ⟨(wTahr 0 (tw 8 3 15 15 0x3FFF) (tx 0 0 0)), 0, (tw 8 3 15 15 0x3FFF), by decide +kernel⟩

theorem witness_TahrRegisterInstructionsComplete_10 :
    ∃ (s : State) (seq : Nat) (w : Nat), (s.tahrRuns seq 0x10 w = true) ∧ (bits w 13 5 + (bits w 8 5 + 1) ≤ 32) :=
  ⟨(wTahr 0 (tw 0x10 3 1 0 (31 * 256)) (tx 0x80000001 0 0)), 0, (tw 0x10 3 1 0 (31 * 256)), by decide +kernel⟩

theorem witness_TahrRegisterInstructionsComplete_11 :
    ∃ (s : State) (seq : Nat) (w : Nat), (s.tahrRuns seq 0x11 w = true) ∧ (bits w 13 5 + (bits w 8 5 + 1) ≤ 32) :=
  ⟨(wTahr 0 (tw 0x11 3 1 0 (31 * 2 ^ 13)) (tx 0 0 1)), 0, (tw 0x11 3 1 0 (31 * 2 ^ 13)), by decide +kernel⟩

theorem witness_TahrRegisterInstructionsComplete_12 :
    ∃ (s : State) (seq : Nat) (w : Nat), (s.tahrRuns seq 0x17 w = true) :=
  ⟨(wTahr 0 (tw 0x17 3 1 0 2) (tx 0x2BE201 0 0xFF)), 0, (tw 0x17 3 1 0 2), by decide +kernel⟩

theorem witness_TahrRegisterInstructionsComplete_13 :
    ∃ (s : State) (seq : Nat) (w : Nat), (s.tahrRuns seq 0x2B w = true) :=
  ⟨({ wTahr 0 (tw 0x2B 3 0 0 0) (tx 0 0 0) with periods := 0x100000007 }), 0, (tw 0x2B 3 0 0 0), by decide +kernel⟩

theorem witness_TahrRegisterInstructionsComplete_14 :
    ∃ (s : State) (seq : Nat) (w : Nat), (s.tahrRuns seq 0x2C w = true) :=
  ⟨(wTahr 0 (tw 0x2C 0 1 0 0) (tx 9 0 0)), 0, (tw 0x2C 0 1 0 0), by decide +kernel⟩

theorem witness_TahrRegisterInstructionsComplete_15 :
    ∃ (s : State) (seq : Nat) (w : Nat), (s.tahrRuns seq 0x2D w = true) :=
  ⟨(wTahr 0 (tw 0x2D 3 0 0 0) { tx 0 0 0 with sat := true, miss := true }), 0, (tw 0x2D 3 0 0 0), by decide +kernel⟩

theorem witness_TahrRegisterInstructionsComplete_16 :
    ∃ (s : State) (seq : Nat) (w : Nat), (s.logicFrozen (seqDie seq) = false) ∧ (seq < 64) ∧ (s.sqState seq = sqRunning) ∧ ((s.tahrSeq seq).code[s.sqPc seq]? = some w) ∧ (tahrLegal w = false) :=
  ⟨(wTahr 0 (tw 0x30 0 0 0 0) (tx 1 2 3)), 0, (tw 0x30 0 0 0 0), by decide +kernel⟩

theorem witness_TahrMemoryInstructionsComplete_1 :
    ∃ (s : State) (seq : Nat) (w : Nat) (a : Nat), (s.tahrRuns seq 9 w = true) ∧ (a = ((s.tahrSeq seq).reg (wRa w) + wImm18 w) % 2 ^ 32) ∧ (a % 4 = 0 ∧ a + 4 ≤ 0x2000) :=
  ⟨(wTahr 87 (tw 9 3 1 15 0x3FFC) { tx 0x2000 0 0 with data := [(0x1FFC, 1), (0x1FFF, 0x80)], ring := some 61 }), 87, (tw 9 3 1 15 0x3FFC), 0x1FFC, by decide +kernel⟩

theorem witness_TahrMemoryInstructionsComplete_2 :
    ∃ (s : State) (seq : Nat) (w : Nat) (a : Nat), (s.tahrRuns seq 0xA w = true) ∧ (a = ((s.tahrSeq seq).reg (wRa w) + wImm18 w) % 2 ^ 32) ∧ (a % 2 = 0 ∧ a + 2 ≤ 0x2000) :=
  ⟨(wTahr 32 (tw 0xA 3 1 0 2) { tx 0x1FFC 0 0 with data := [(0x1FFE, 1), (0x1FFF, 0x80)] }), 32, (tw 0xA 3 1 0 2), 0x1FFE, by decide +kernel⟩

theorem witness_TahrMemoryInstructionsComplete_3 :
    ∃ (s : State) (seq : Nat) (w : Nat) (a : Nat), (s.tahrRuns seq 0xB w = true) ∧ (a = ((s.tahrSeq seq).reg (wRa w) + wImm18 w) % 2 ^ 32) ∧ (a < 0x2000) :=
  ⟨(wTahr 32 (tw 0xB 3 1 0 3) { tx 0x1FFC 0 0 with data := [(0x1FFE, 1), (0x1FFF, 0x80)] }), 32, (tw 0xB 3 1 0 3), 0x1FFF, by decide +kernel⟩

theorem witness_TahrMemoryInstructionsComplete_4 :
    ∃ (s : State) (seq : Nat) (w : Nat) (a : Nat), (s.tahrRuns seq 0xC w = true) ∧ (a = ((s.tahrSeq seq).reg (wRa w) + wImm18 w) % 2 ^ 32) ∧ (a % 4 = 0 ∧ a + 4 ≤ 0x2000) :=
  ⟨(wTahr 0 (tw 0xC 3 1 0 0) (tx 0x1FFC 0 0x11002233)), 0, (tw 0xC 3 1 0 0), 0x1FFC, by decide +kernel⟩

theorem witness_TahrMemoryInstructionsComplete_5 :
    ∃ (s : State) (seq : Nat) (w : Nat) (a : Nat), (s.tahrRuns seq 0xD w = true) ∧ (a = ((s.tahrSeq seq).reg (wRa w) + wImm18 w) % 2 ^ 32) ∧ (a % 2 = 0 ∧ a + 2 ≤ 0x2000) :=
  ⟨(wTahr 0 (tw 0xD 3 1 0 2) (tx 0x1FFC 0 0x11002233)), 0, (tw 0xD 3 1 0 2), 0x1FFE, by decide +kernel⟩

theorem witness_TahrMemoryInstructionsComplete_6 :
    ∃ (s : State) (seq : Nat) (w : Nat) (a : Nat), (s.tahrRuns seq 0xE w = true) ∧ (a = ((s.tahrSeq seq).reg (wRa w) + wImm18 w) % 2 ^ 32) ∧ (a < 0x2000) :=
  ⟨(wTahr 0 (tw 0xE 3 1 0 3) (tx 0x1FFC 0 0x11002233)), 0, (tw 0xE 3 1 0 3), 0x1FFF, by decide +kernel⟩

theorem witness_TahrMemoryInstructionsComplete_7 :
    ∃ (s : State) (seq : Nat) (w : Nat) (a : Nat) (n : Nat) (pos : Nat), (s.tahrRuns seq 0x12 w = true) ∧ (n = bits w 9 5 + 1 ∧ pos = (s.tahrSeq seq).reg (wRb w)) ∧ (a = (s.tahrSeq seq).reg (wRa w) + (fieldSpan (bit w 8) pos n).1) ∧ (a + (fieldSpan (bit w 8) pos n).2 ≤ 0x2000) :=
  ⟨(wTahr 0 (tw 0x12 3 1 2 (15 * 512 + 256)) { tx 0x100 8 0 with data := [(0x101, 0x12), (0x102, 0x34)] }), 0, (tw 0x12 3 1 2 (15 * 512 + 256)), 0x101, 16, 8, by decide +kernel⟩

theorem witness_TahrMemoryInstructionsComplete_8 :
    ∃ (s : State) (seq : Nat) (w : Nat) (a : Nat) (n : Nat) (pos : Nat), (s.tahrRuns seq 0x13 w = true) ∧ (n = bits w 9 5 + 1 ∧ pos = (s.tahrSeq seq).reg (wRb w)) ∧ (a = (s.tahrSeq seq).reg (wRa w) + (fieldSpan (bit w 8) pos n).1) ∧ (a + (fieldSpan (bit w 8) pos n).2 ≤ 0x2000) :=
  ⟨(wTahr 0 (tw 0x13 3 1 2 (15 * 512)) { tx 0x100 9 0xFFFF with data := [(0x101, 0x12), (0x102, 0x34)] }), 0, (tw 0x13 3 1 2 (15 * 512)), 0x101, 16, 9, by decide +kernel⟩

theorem witness_TahrMemoryInstructionsComplete_9 :
    ∃ (s : State) (seq : Nat) (w : Nat) (a : Nat), (s.tahrRuns seq 0x14 w = true) ∧ (a = (s.tahrSeq seq).reg (wRb w) ∧ a % 4 = 0 ∧ a + 16 ≤ 0x2000) :=
  ⟨(wTahr 0 (tw 0x14 3 1 2 (16 * 512)) { tx 0x8000 0x100 0 with data := [(0x102, 1), (0x104, 5), (0x10C, 3)] }), 0, (tw 0x14 3 1 2 (16 * 512)), 0x100, by decide +kernel⟩

theorem witness_TahrMemoryInstructionsComplete_10 :
    ∃ (s : State) (seq : Nat) (w : Nat) (a : Nat) (i : Nat) (k : Nat), (s.tahrRuns seq 0x15 w = true) ∧ (a = (s.tahrSeq seq).reg (wRb w) ∧ a % 4 = 0 ∧ a + 8 ≤ 0x2000) ∧ (i = (s.tahrSeq seq).reg (wRa w) ∧ i < leNat ((s.tahrSeq seq).dataAt a 2)) ∧ (k = 2 ^ bits (leNat ((s.tahrSeq seq).dataAt a 4)) 16 2 ∧ k ≤ 4 ∧ a + 8 + i * k + k ≤ 0x2000) :=
  ⟨(wTahr 0 (tw 0x15 3 1 2 0) { tx 1 0x100 0 with data := [(0x100, 2), (0x102, 2), (0x10C, 7), (0x10F, 8)] }), 0, (tw 0x15 3 1 2 0), 0x100, 1, 4, by decide +kernel⟩

theorem witness_TahrMemoryInstructionsComplete_11 :
    ∃ (s : State) (seq : Nat) (w : Nat) (a : Nat), (s.tahrRuns seq 0x15 w = true) ∧ (a = (s.tahrSeq seq).reg (wRb w) ∧ a % 4 = 0 ∧ a + 8 ≤ 0x2000) ∧ (leNat ((s.tahrSeq seq).dataAt a 2) ≤ (s.tahrSeq seq).reg (wRa w)) :=
  ⟨(wTahr 0 (tw 0x15 3 1 2 0) { tx 2 0x100 0 with data := [(0x100, 2), (0x104, 9)] }), 0, (tw 0x15 3 1 2 0), 0x100, by decide +kernel⟩

theorem witness_TahrMemoryInstructionsComplete_12 :
    ∃ (s : State) (seq : Nat) (w : Nat) (a : Nat) (n : Nat) (i : Nat), (s.tahrRuns seq 0x16 w = true) ∧ (a = (s.tahrSeq seq).reg (wRb w) ∧ a % 4 = 0 ∧ n = leNat ((s.tahrSeq seq).dataAt a 2) ∧ a + 8 + 8 * n ≤ 0x2000) ∧ ((List.range (n - 1)).all (fun k => ((s.tahrSeq seq).pairAt a k).1 < ((s.tahrSeq seq).pairAt a (k + 1)).1) = true) ∧ (i < n ∧ ((s.tahrSeq seq).pairAt a i).1 = (s.tahrSeq seq).reg (wRa w)) :=
  ⟨(wTahr 0 (tw 0x16 3 1 2 0) { tx 5 0x100 0 with data := wTable }), 0, (tw 0x16 3 1 2 0), 0x100, 2, 1, by decide +kernel⟩

theorem witness_TahrMemoryInstructionsComplete_13 :
    ∃ (s : State) (seq : Nat) (w : Nat) (a : Nat) (n : Nat), (s.tahrRuns seq 0x16 w = true) ∧ (a = (s.tahrSeq seq).reg (wRb w) ∧ a % 4 = 0 ∧ n = leNat ((s.tahrSeq seq).dataAt a 2) ∧ a + 8 + 8 * n ≤ 0x2000) ∧ ((List.range n).all (fun k => ((s.tahrSeq seq).pairAt a k).1 != (s.tahrSeq seq).reg (wRa w)) = true) :=
  ⟨(wTahr 0 (tw 0x16 3 1 2 0) { tx 3 0x100 0 with data := wTable }), 0, (tw 0x16 3 1 2 0), 0x100, 2, by decide +kernel⟩

theorem witness_TahrMemoryInstructionsComplete_14 :
    ∃ (s : State) (seq : Nat) (w : Nat) (a : Nat) (n : Nat), (s.tahrRuns seq 0x18 w = true) ∧ (a = (s.tahrSeq seq).reg (wRa w) ∧ n = (s.tahrSeq seq).reg (wRb w) ∧ a + n ≤ 0x2000 ∧ n ≤ 2048) :=
  ⟨(wTahr 0 (tw 0x18 3 1 2 0) { tx 0x100 3 0xFF with data := [(0x100, 1), (0x101, 0xE2), (0x102, 0x2B)] }), 0, (tw 0x18 3 1 2 0), 0x100, 3, by decide +kernel⟩

theorem witness_TahrMemoryInstructionsComplete_15 :
    ∃ (s : State) (seq : Nat) (w : Nat), (s.tahrRuns seq 0x18 w = true) ∧ (2048 < (s.tahrSeq seq).reg (wRb w)) :=
  ⟨(wTahr 0 (tw 0x18 3 1 2 0) (tx 0x100 2049 0xFF)), 0, (tw 0x18 3 1 2 0), by decide +kernel⟩

theorem witness_TahrMemoryInstructionsComplete_16 :
    ∃ (s : State) (seq : Nat) (w : Nat) (a : Nat), (seq < 32) ∧ (s.tahrRuns seq 9 w = true) ∧ (a = ((s.tahrSeq seq).reg (wRa w) + wImm18 w) % 2 ^ 32) ∧ (a % 4 ≠ 0 ∨ (0x2000 ≤ a ∧ a < 0x8000) ∨ 0x9100 ≤ a) :=
  ⟨(wTahr 0 (tw 9 3 1 0 0) (tx 0x2000 0 0)), 0, (tw 9 3 1 0 0), 0x2000, by decide +kernel⟩

theorem witness_TahrControlInstructionsComplete_1 :
    ∃ (s : State) (seq : Nat) (w : Nat) (target : Int), (s.tahrRuns seq 0x20 w = true) ∧ (tahrCond (wRd w) ((s.tahrSeq seq).reg (wRa w)) ((s.tahrSeq seq).reg (wRb w)) = true) ∧ (target = s.sqPc seq + signed (bits w 0 14) 14) ∧ (0 ≤ target ∧ target < (s.tahrSeq seq).code.length) :=
  ⟨(wTahr 0 (tw 0x20 2 1 2 1) (tx 0xFFFFFFFF 0 0)), 0, (tw 0x20 2 1 2 1), 1, by decide +kernel⟩

theorem witness_TahrControlInstructionsComplete_2 :
    ∃ (s : State) (seq : Nat) (w : Nat), (s.tahrRuns seq 0x20 w = true) ∧ (tahrCond (wRd w) ((s.tahrSeq seq).reg (wRa w)) ((s.tahrSeq seq).reg (wRb w)) = false) :=
  ⟨(wTahr 0 (tw 0x20 4 1 2 9) (tx 0xFFFFFFFF 0 0)), 0, (tw 0x20 4 1 2 9), by decide +kernel⟩

theorem witness_TahrControlInstructionsComplete_3 :
    ∃ (s : State) (seq : Nat) (w : Nat) (target : Int), (s.tahrRuns seq 0x21 w = true) ∧ (target = s.sqPc seq + signed (bits w 0 22) 22) ∧ (0 ≤ target ∧ target < (s.tahrSeq seq).code.length) :=
  ⟨(wTahr 0 (tw 0x21 3 0 0 1) (tx 0 0 0)), 0, (tw 0x21 3 0 0 1), 1, by decide +kernel⟩

theorem witness_TahrControlInstructionsComplete_4 :
    ∃ (s : State) (seq : Nat) (w : Nat), (s.tahrRuns seq 0x22 w = true) ∧ ((s.tahrSeq seq).reg (wRa w) % 4096 < (s.tahrSeq seq).code.length) :=
  ⟨(wTahr 0 (tw 0x22 3 3 0 0) (tx 0 0 0x1001)), 0, (tw 0x22 3 3 0 0), by decide +kernel⟩

theorem witness_TahrControlInstructionsComplete_5 :
    ∃ (s : State) (seq : Nat) (w : Nat) (v : Nat) (rest : List Nat), (s.tahrRuns seq 0x28 w = true) ∧ (32 ≤ seq ∧ (inPorts (siteOf seq)).contains (wPort w) = true) ∧ (storeGet [] (s.tahrSeq seq).ports (wPort w) = v :: rest) :=
  ⟨(wTahr 63 (tw 0x28 3 0 0 0 + 2 * 2 ^ 19) { tx 0 0 0 with ports := [(2, [7, 8])] }), 63, (tw 0x28 3 0 0 0 + 2 * 2 ^ 19), 7, [8], by decide +kernel⟩

theorem witness_TahrControlInstructionsComplete_6 :
    ∃ (s : State) (seq : Nat) (w : Nat) (n : Notice) (rest : List Notice), (s.tahrRuns seq 0x28 w = true) ∧ (seq < 32 ∧ wPort w = 0) ∧ ((s.tahrSeq seq).waiting = n :: rest) :=
  ⟨(wTahr 31 (tw 0x28 3 0 0 0) { tx 0 0 0 with waiting := [⟨5, 0x1E2, 0, 0, 0, 9, 0, 0, 0, [1]⟩] }), 31, (tw 0x28 3 0 0 0), (⟨5, 0x1E2, 0, 0, 0, 9, 0, 0, 0, [1]⟩), [], by decide +kernel⟩

theorem witness_TahrControlInstructionsComplete_7 :
    ∃ (s : State) (seq : Nat) (w : Nat), (s.tahrRuns seq 0x28 w = true) ∧ ((inPorts (siteOf seq)).contains (wPort w) = true) ∧ ((s.tahrSeq seq).waiting = [] ∧ storeGet [] (s.tahrSeq seq).ports (wPort w) = []) :=
  ⟨(wTahr 31 (tw 0x28 3 0 0 0) (tx 0 0 0)), 31, (tw 0x28 3 0 0 0), by decide +kernel⟩

theorem witness_TahrControlInstructionsComplete_8 :
    ∃ (s : State) (seq : Nat) (w : Nat), (s.tahrRuns seq 0x29 w = true) ∧ (siteOf seq = .input ∨ siteOf seq = .governor) ∧ ((outPorts (siteOf seq)).contains (wPort w) = true) :=
  ⟨(wTahr 63 (tw 0x29 3 0 0 0 + 2 ^ 19) (tx 0 0 7)), 63, (tw 0x29 3 0 0 0 + 2 ^ 19), by decide +kernel⟩

theorem witness_TahrControlInstructionsComplete_9 :
    ∃ (s : State) (seq : Nat) (w : Nat) (v : Nat), (s.tahrRuns seq 0x29 w = true) ∧ (seq < 32 ∧ wPort w = 1) ∧ (v = (s.tahrSeq seq).reg (wRd w)) :=
  ⟨(wTahr 31 (tw 0x29 3 0 0 0 + 2 ^ 19) (tx 0 0 0x10007)), 31, (tw 0x29 3 0 0 0 + 2 ^ 19), 0x10007, by decide +kernel⟩

theorem witness_TahrControlInstructionsComplete_10 :
    ∃ (s : State) (seq : Nat) (w : Nat) (n : Nat) (u : State), (s.tahrRuns seq 0x29 w = true) ∧ (siteOf seq = .stream ∧ wPort w = 0) ∧ ((s.tahrSeq seq).ring = some n) ∧ ((s.ringTail n + 4096 - s.ringHead n) % 4096 < min 4095 (2 ^ s.fget F.seRingBase_size_log2 (n / 16) (ringReg n) 0)) ∧ (s.ringWrite n (s.descAddr n (s.ringTail n)) ((List.range 64).map (fun i => storeGet 0 (s.tahrSeq seq).buffer i)) = (u, none)) :=
  ⟨wSend, 72, (tw 0x29 0 0 0 0), 0, (((wSend).ringWrite 0 ((wSend).descAddr 0 ((wSend).ringTail 0)) ((List.range 64).map (fun i => storeGet 0 ((wSend).tahrSeq 72).buffer i))).1), by decide +kernel⟩

theorem witness_TahrControlInstructionsComplete_11 :
    ∃ (s : State) (seq : Nat) (w : Nat) (got : Nat), (s.tahrRuns seq 0x2A w = true) ∧ ((s.tahrSeq seq).stopping = false ∧ (s.tahrSeq seq).swap = none) ∧ (got = Nat.land ((s.tahrSeq seq).pendingBits seq) (bits w 0 16) ∧ got ≠ 0) :=
  ⟨(withFields (wTahr 0 (tw 0x2A 3 0 0 0x101) { tx 0 0 0 with events := 0x700 }) [(F.tsqState_state, 4, 0, 0, 1)]), 0, (tw 0x2A 3 0 0 0x101), 0x100, by decide +kernel⟩

theorem witness_TahrControlInstructionsComplete_12 :
    ∃ (s : State) (seq : Nat) (w : Nat), (s.tahrRuns seq 0x2A w = true) ∧ ((s.tahrSeq seq).stopping = false ∧ (s.tahrSeq seq).swap = none) ∧ (Nat.land ((s.tahrSeq seq).pendingBits seq) (bits w 0 16) = 0) :=
  ⟨(wTahr 0 (tw 0x2A 3 0 0 0x100) { tx 0 0 0 with events := 0x600, started := some 0 }), 0, (tw 0x2A 3 0 0 0x100), by decide +kernel⟩

theorem witness_TahrControlInstructionsComplete_13 :
    ∃ (s : State) (seq : Nat) (w : Nat), (s.tahrRuns seq 0x3F w = true) :=
  ⟨(wTahr 0 (tw 0x3F 0 0 0 0) (tx 1 0 0)), 0, (tw 0x3F 0 0 0 0), by decide +kernel⟩

theorem witness_TahrEventsComplete_1 :
    ∃ (s : State) (seq : Nat), ((s.tahrSeq seq).timer ≠ 0 ∧ (s.tahrSeq seq).timerFrom + (s.tahrSeq seq).timer ≤ s.periods) :=
  ⟨({ wTahr 0 0 { timer := 1 } with periods := 1 }), 0, by decide +kernel⟩

theorem witness_TahrEventsComplete_2 :
    ∃ (s : State) (seq : Nat) (event : Nat) (m : List Nat), (seq < 88 ∧ (siteEvents (siteOf seq)).contains event = true) :=
  ⟨State.reset, 71, 11, [], by decide +kernel⟩

theorem witness_TahrEventsComplete_3 :
    ∃ (s : State) (seq : Nat) (port : Nat) (m : List Nat), (32 ≤ seq ∧ seq < 88) ∧ ((inPorts (siteOf seq)).contains port = true) ∧ ((storeGet [] (s.tahrSeq seq).ports port).length + m.length ≤ 16) :=
  ⟨State.reset, 63, 2, (List.replicate 16 7), by decide +kernel⟩

theorem witness_TahrEventsComplete_4 :
    ∃ (s : State) (seq : Nat) (from' : Nat) (lim : Nat), (seq < 64) ∧ ((s.tahrSeq seq).started = some from' ∧ s.sqState seq = sqRunning) ∧ (activationLimit (siteOf seq) = some lim ∧ from' + lim ≤ s.periods) :=
  ⟨({ wTahr 0 0 { started := some 0 } with periods := 512 }), 0, 0, 512, by decide +kernel⟩

theorem witness_TahrEventsComplete_5 :
    ∃ (s : State) (seq : Nat) (p : TahrProgram), (seq < 32 ∧ s.sqState seq = sqFaulted) ∧ (storeFind s.tahr.programs seq = some p) :=
  ⟨({ st [(F.tsqState_state, 4, 0, 31, 4)] with tahr := { programs := [(31, wProgram)] } }), 31, wProgram, by decide +kernel⟩

theorem witness_TahrEventsComplete_6 :
    ∃ (s : State) (who : Initiator) (seq : Nat) (p : TahrProgram), (tsqRight who = true ∧ seq < 72) ∧ (s.sqState seq = sqFaulted ∨ s.sqState seq = sqStopped) ∧ (storeFind s.tahr.programs seq = some p) :=
  ⟨({ st [(F.tsqState_state, 4, 0, 71, 5)] with tahr := { programs := [(71, wProgram)] } }), steward, 71, wProgram, by decide +kernel⟩

theorem witness_TahrEventsComplete_7 :
    ∃ (s : State) (who : Initiator) (seq : Nat), (tsqRight who = true ∧ 32 ≤ seq ∧ seq < 64) :=
  ⟨(wTahr 63 0 {}), (.sentinel 0), 63, by decide +kernel⟩

theorem witness_TahrEventsComplete_8 :
    ∃ (s : State) (who : Initiator) (seq : Nat), (tsqRight who = false) :=
  ⟨State.reset, (.control 0), 40, by decide +kernel⟩

theorem witness_TahrEventsComplete_9 :
    ∃ (s : State) (who : Initiator) (seq : Nat) (table : Nat) (v : Nat), (tsqRight who = true ∧ s.fon F.tsqSwap_busy 4 0 0 = false) ∧ (s.swapDeclared seq table v = true) :=
  ⟨({ st [(F.tsqState_state, 4, 0, 31, 1)] with tahr := { programs := [(31, wProgram)], variants := [(31, 0, 255, [9])] } }), steward, 31, 0, 255, by decide +kernel⟩

theorem witness_TahrEventsComplete_10 :
    ∃ (s : State) (who : Initiator) (seq : Nat) (table : Nat) (v : Nat), (tsqRight who = true ∧ s.fon F.tsqSwap_busy 4 0 0 = false) ∧ (s.swapDeclared seq table v = false) :=
  ⟨State.reset, steward, 31, 0, 255, by decide +kernel⟩

theorem witness_TahrEventsComplete_11 :
    ∃ (s : State) (seq : Nat) (p : TahrProgram) (tab : Nat) (v : Nat) (x : Nat × Nat × Nat) (y : Nat × Nat × Nat × List Byte), ((s.tahrSeq seq).swap = some (tab, v) ∧ s.sqState seq = sqSwapping) ∧ (storeFind s.tahr.programs seq = some p ∧ p.tables[tab]? = some x) ∧ (v ≠ 0 ∧ s.tahr.variants.find? (fun z => z.1 == seq && z.2.1 == tab && z.2.2.1 == v) = some y) :=
  ⟨({ st [(F.tsqState_state, 4, 0, 31, 6)] with tahr := { seqs := [(31, { swap := some (0, 255) })], programs := [(31, wProgram)], variants := [(31, 0, 255, [9])] } }), 31, wProgram, 0, 255, ((0, 2, 0)), ((31, 0, 255, [9])), by decide +kernel⟩

theorem witness_TahrEventsComplete_12 :
    ∃ (s : State) (who : Initiator) (value : Word) (n : Nat) (seq : Nat) (k : Nat) (p : TahrProgram), ((match who with | .control _ => true | .hardware => true | _ => false) = true) ∧ (n = bindRing value.toNat ∧ seq = 72 + n / 4 ∧ k = bits value.toNat 4 8) ∧ (storeFind s.tahr.programs (256 + k) = some p) ∧ ((s.tahrSeq seq).ring.all (· == n) = true) :=
  ⟨({ State.reset with tahr := { programs := [(256 + 255, wProgram)] } }), (.control 3), 0x6FFF#64, 63, 87, 255, wProgram, by decide +kernel⟩

theorem witness_TahrEventsComplete_13 :
    ∃ (s : State) (who : Initiator) (value : Word) (n : Nat) (seq : Nat), ((match who with | .control _ => true | .hardware => true | _ => false) = true) ∧ (n = bindRing value.toNat ∧ seq = 72 + n / 4) ∧ ((s.tahrSeq seq).ring = some n) :=
  ⟨(wTahr 87 0 { ring := some 63 }), (.control 3), 0x600F#64, 63, 87, by decide +kernel⟩

theorem witness_TahrEventsComplete_14 :
    ∃ (s : State) (who : Initiator) (value : Word), ((match who with | .control _ => false | .hardware => false | _ => true) = true) :=
  ⟨State.reset, steward, 0#64, by decide +kernel⟩

theorem witness_FirmwareLoadingComplete_1 :
    ∃ (s : State) (who : Initiator) (u : State) (st : Nat) (img : FwImage), (s.loaderRight who = true) ∧ (s.fwSt = fwNone ∧ s.fw.loading = none) ∧ ((s.fset F.cfgFwCmd_op 4 0 0 1).fwVerify (s.fget F.cfgFwSrc_src 4 0 0) = (u, st, img)) :=
  ⟨State.reset, steward, ((((State.reset).fset F.cfgFwCmd_op 4 0 0 1).fwVerify ((State.reset).fget F.cfgFwSrc_src 4 0 0)).1), fsSource, (⟨0, 0, 0, 0, 0, []⟩), by decide +kernel⟩

theorem witness_FirmwareLoadingComplete_2 :
    ∃ (s : State) (die : Nat) (img : FwImage), (s.fw.loading = some img) ∧ (s.admittedDies.contains die = true) ∧ (s.admittedDies.all (fun d => d == die || s.fw.ready.contains d) = true) :=
  ⟨({ State.reset with fw := { loading := some ⟨3, 1, 1, 1, 5, []⟩, ready := [0, 1, 2] } }), 3, (⟨3, 1, 1, 1, 5, []⟩), by decide +kernel⟩

theorem witness_FirmwareLoadingComplete_3 :
    ∃ (s : State) (who : Initiator) (old : FwImage) (u : State) (st : Nat) (img : FwImage), (s.loaderRight who = true) ∧ (s.fw.running = some old ∧ (s.fwSt = fwRunning ∨ s.fwSt = fwStaged)) ∧ ((s.fset F.cfgFwCmd_op 4 0 0 2).fwVerify (s.fget F.cfgFwSrc_src 4 0 0) = (u, st, img)) :=
  ⟨({ st [(F.cfgFwStatus_state, 4, 0, 0, 1)] with fw := { running := some ⟨3, 1, 1, 1, 5, []⟩ } }), steward, (⟨3, 1, 1, 1, 5, []⟩), (((({ st [(F.cfgFwStatus_state, 4, 0, 0, 1)] with fw := { running := some ⟨3, 1, 1, 1, 5, []⟩ } }).fset F.cfgFwCmd_op 4 0 0 2).fwVerify (({ st [(F.cfgFwStatus_state, 4, 0, 0, 1)] with fw := { running := some ⟨3, 1, 1, 1, 5, []⟩ } }).fget F.cfgFwSrc_src 4 0 0)).1), fsSource, (⟨0, 0, 0, 0, 0, []⟩), by decide +kernel⟩

theorem witness_FirmwareLoadingComplete_4 :
    ∃ (s : State) (who : Initiator), (s.loaderRight who = true) ∧ (s.fwSt = fwStaged ∧ s.emergencyBit = false) :=
  ⟨(st [(F.cfgFwStatus_state, 4, 0, 0, 2)]), steward, by decide +kernel⟩

theorem witness_FirmwareLoadingComplete_5 :
    ∃ (s : State) (who : Initiator), (s.loaderRight who = true) ∧ (s.fwSt = fwStaged ∧ s.emergencyBit = true) :=
  ⟨(st [(F.cfgFwStatus_state, 4, 0, 0, 2), (F.pwrStatus_emergency, 4, 0, 0, 1)]), (.vault 0 false), by decide +kernel⟩

theorem witness_FirmwareLoadingComplete_6 :
    ∃ (s : State), (s.fwSt = fwWaiting ∧ s.emergencyBit = false) :=
  ⟨({ st [(F.cfgFwStatus_state, 4, 0, 0, 3)] with fw := { waitStart := some 0 } }), by decide +kernel⟩

theorem witness_FirmwareLoadingComplete_7 :
    ∃ (s : State) (die : Nat) (secs : List (Nat × List Byte)) (img : FwImage) (old : FwImage) (at_ : Nat), (s.fw.staged = some img ∧ s.fw.running = some old ∧ s.fw.start = some at_ ∧ s.fwSt = fwHanding) ∧ (s.runningDies.contains die = true ∧ s.fw.points.contains die = false) ∧ (s.periods ≤ at_ + 76800) ∧ (secs ≠ [] ∧ secs.length ≤ 64 ∧ (s.hofRecord old die secs).length ≤ 0x10000) ∧ (s.atHandoffPoint die secs = true) :=
  ⟨({ st [(F.cfgFwStatus_state, 4, 0, 0, 4)] with fw := { running := some ⟨3, 1, 1, 1, 5, []⟩, staged := some ⟨4, 1, 1, 1, 6, []⟩, start := some 0, points := [0, 1, 2] } }), 3, ([(3, [7])]), (⟨4, 1, 1, 1, 6, []⟩), (⟨3, 1, 1, 1, 5, []⟩), 0, by decide +kernel⟩

theorem witness_FirmwareLoadingComplete_8 :
    ∃ (s : State) (die : Nat) (img : FwImage) (old : FwImage) (at_ : Nat), (s.fw.staged = some img ∧ s.fw.running = some old ∧ s.fw.start = some at_ ∧ s.fwSt = fwHanding) ∧ (s.fwRestarted = true ∧ s.refusesRecord die = false) ∧ (at_ ≤ s.periods ∧ s.periods ≤ at_ + 184320) ∧ (s.runningDies.contains die = true) ∧ (s.runningDies.all (fun d => d == die || s.fw.ready.contains d) = true) :=
  ⟨wHandoff, 3, (⟨4, 1, 1, 1, 6, []⟩), (⟨3, 1, 1, 1, 5, []⟩), 0, by decide +kernel⟩

theorem witness_FirmwareLoadingComplete_9 :
    ∃ (s : State) (die : Nat) (at_ : Nat), (s.fw.start = some at_ ∧ s.fwSt = fwHanding ∧ s.runningDies ≠ []) ∧ (at_ + 192000 < s.periods ∨ (s.runningDies.contains die = true ∧ s.fw.points.contains die = false ∧ at_ + 76800 < s.periods)) :=
  ⟨({ st [(F.cfgFwStatus_state, 4, 0, 0, 4)] with periods := 76801, fw := { start := some 0 } }), 2, 0, by decide +kernel⟩

theorem witness_FirmwareLoadingComplete_10 :
    ∃ (s : State) (die : Nat), (s.fwSt = fwRolling) ∧ (s.runningDies.contains die = true) ∧ (s.runningDies.all (fun d => d == die || s.fw.ready.contains d) = true) :=
  ⟨({ st [(F.cfgFwStatus_state, 4, 0, 0, 5)] with fw := { ready := [0, 1, 2], start := some 0 } }), 3, by decide +kernel⟩

theorem witness_FirmwareLoadingComplete_11 :
    ∃ (s : State) (at_ : Nat), (s.fw.waitStart = some at_ ∧ s.fwSt = fwWaiting) ∧ (at_ + sixtySeconds ≤ s.periods ∧ s.emergencyBit = true) :=
  ⟨({ st [(F.cfgFwStatus_state, 4, 0, 0, 3), (F.pwrStatus_emergency, 4, 0, 0, 1)] with periods := 2304000000, fw := { waitStart := some 0 } }), 0, by decide +kernel⟩

theorem witness_FirmwareLoadingComplete_12 :
    ∃ (s : State) (who : Initiator), (s.loaderRight who = true) ∧ (s.fwSt = fwStaged) :=
  ⟨(st [(F.cfgFwStatus_state, 4, 0, 0, 2)]), steward, by decide +kernel⟩

theorem witness_FirmwareLoadingComplete_13 :
    ∃ (s : State) (pair : Nat) (img : FwImage), (s.fw.running = some img ∧ s.fw.start = none) ∧ (s.fw.down.contains pair = true ∧ s.admittedDies.contains pair = true) :=
  ⟨({ State.reset with fw := { running := some ⟨3, 1, 1, 1, 5, [1, 2, 3]⟩, down := [1, 3] } }), 3, (⟨3, 1, 1, 1, 5, [1, 2, 3]⟩), by decide +kernel⟩

theorem witness_FirmwareLoadingComplete_14 :
    ∃ (s : State) (who : Initiator) (img : FwImage), (s.loaderRight who = true) ∧ (s.fw.running = some img ∧ s.fwSt ≠ fwHanding ∧ s.fwSt ≠ fwRolling ∧ s.flash.fwFloor ≤ img.version) :=
  ⟨({ st [(F.cfgFwStatus_state, 4, 0, 0, 1)] with fw := { running := some ⟨3, 1, 1, 1, 5, []⟩ } }), steward, (⟨3, 1, 1, 1, 5, []⟩), by decide +kernel⟩

theorem witness_FirmwareLoadingComplete_15 :
    ∃ (s : State) (who : Initiator), (s.loaderRight who = false) :=
  ⟨State.reset, (.control 2), by decide +kernel⟩

theorem witness_DriverSlotsComplete_1 :
    ∃ (s : State) (who : Initiator) (slot : Nat), (s.slotRight who slot = true ∧ s.drvState slot = drAttached) :=
  ⟨(st [(F.cfgFwDrv_state, 4, 0, 0, 1), (F.cfgFwDrv_misses, 4, 0, 0, 4)]), steward, 0, by decide +kernel⟩

theorem witness_DriverSlotsComplete_2 :
    ∃ (s : State) (slot : Nat), (slot < 2 ∧ s.drvState slot = drAttached ∧ s.fw.beats.contains slot = true) ∧ (storeGet 0 s.fw.window slot + 384000 ≤ s.periods) :=
  ⟨({ st [(F.cfgFwDrv_state, 4, 0, 1, 1)] with periods := 384000, fw := { beats := [1] } }), 1, by decide +kernel⟩

theorem witness_DriverSlotsComplete_3 :
    ∃ (s : State) (slot : Nat), (slot < 2 ∧ s.drvState slot = drAttached ∧ s.fw.beats.contains slot = false) ∧ (s.fget F.cfgFwDrv_misses 4 0 slot < 4) ∧ (storeGet 0 s.fw.window slot + 384000 ≤ s.periods) :=
  ⟨({ st [(F.cfgFwDrv_state, 4, 0, 1, 1), (F.cfgFwDrv_misses, 4, 0, 1, 3)] with periods := 384000 }), 1, by decide +kernel⟩

theorem witness_DriverSlotsComplete_4 :
    ∃ (s : State) (slot : Nat), (slot < 2 ∧ s.drvState slot = drAttached ∧ s.fw.beats.contains slot = false) ∧ (s.fget F.cfgFwDrv_misses 4 0 slot = 4) ∧ (storeGet 0 s.fw.window slot + 384000 ≤ s.periods) :=
  ⟨({ st [(F.cfgFwDrv_state, 4, 0, 0, 1), (F.cfgFwDrv_misses, 4, 0, 0, 4), (F.cfgFwDrvMask_instances, 4, 0, 0, 1)] with periods := 384000 }), 0, by decide +kernel⟩

theorem witness_DriverSlotsComplete_5 :
    ∃ (s : State) (who : Initiator) (slot : Nat), (s.slotRight who slot = true ∧ (s.drvState slot = drDetached ∨ s.drvState slot = drTornDown)) :=
  ⟨(st [(F.cfgFwDrv_state, 4, 0, 0, 3)]), steward, 0, by decide +kernel⟩

theorem witness_DriverSlotsComplete_6 :
    ∃ (s : State) (who : Initiator) (slot : Nat), (s.slotRight who slot = true ∧ s.drvState slot = drLost) ∧ ((s.slotVis slot).all (fun vi => s.viSt vi != viActive) = true) :=
  ⟨({ st [(F.cfgFwDrv_state, 4, 0, 1, 2), (F.cfgCapsIo_host_mode, 4, 0, 0, 2), (F.cfgFwDrvMask_instances, 4, 0, 1, 3)] with fw := { lostTime := [(1, 5)] } }), (.hostFn 0), 1, by decide +kernel⟩

theorem witness_DriverSlotsComplete_7 :
    ∃ (s : State) (who : Initiator) (slot : Nat), (s.slotRight who slot = true ∧ s.drvState slot = drAttached) :=
  ⟨(st [(F.cfgFwDrv_state, 4, 0, 0, 1), (F.cfgFwDrvMask_instances, 4, 0, 0, 2)]), (.core 3 63), 0, by decide +kernel⟩

theorem witness_DriverSlotsComplete_8 :
    ∃ (s : State) (slot : Nat) (at_ : Nat), (storeFind s.fw.lostTime slot = some at_ ∧ s.drvState slot = drLost) ∧ (at_ + s.fget F.cfgFwDrv_teardown_s 4 0 slot * 38400000 ≤ s.periods) ∧ ((s.slotVis slot).all (fun vi => s.viSt vi == viFree) = true) :=
  ⟨({ st [(F.cfgFwDrv_state, 4, 0, 1, 2), (F.cfgFwDrv_teardown_s, 4, 0, 1, 2), (F.cfgFwDrvMask_instances, 4, 0, 1, 3)] with periods := 76800000, fw := { lostTime := [(1, 0)] } }), 1, 0, by decide +kernel⟩

theorem witness_DriverSlotsComplete_9 :
    ∃ (s : State) (who : Initiator) (slot : Nat), (s.slotRight who slot = false) :=
  ⟨State.reset, (.hostFn 0), 1, by decide +kernel⟩

theorem witness_ErrorCollectorComplete_1 :
    ∃ (s : State) (corrupt : Bool) (r : ErrRec) (rs : List ErrRec), (s.err.held = [] ∧ s.err.inFlight = r :: rs) ∧ (s.fabReaches r.die 4 7 = true ∧ s.err.tailSeq ≤ s.err.stored) ∧ (r.follow = false ∧ (r.sev = 2 ∨ r.sev = 3) ∧ s.occupancy < 255) :=
  ⟨({ State.reset with err := { inFlight := [{ code := 0x0201, sev := 3 }], stored := 254 } }), true, ({ code := 0x0201, sev := 3 }), [], by decide +kernel⟩

theorem witness_ErrorCollectorComplete_2 :
    ∃ (s : State) (corrupt : Bool) (r : ErrRec) (rs : List ErrRec), (s.err.held = [] ∧ s.err.inFlight = r :: rs) ∧ (s.fabReaches r.die 4 7 = true) ∧ (r.sev ≤ 1 ∧ 192 ≤ s.occupancy) :=
  ⟨({ State.reset with err := { inFlight := [{ code := 0x0201, sev := 1 }], stored := 192 } }), false, ({ code := 0x0201, sev := 1 }), [], by decide +kernel⟩

theorem witness_ErrorCollectorComplete_3 :
    ∃ (s : State) (who : Initiator) (x : RingSlot), (isSentinel who = true ∧ s.nextRec = some x ∧ s.level = lvNone) :=
  ⟨({ State.reset with err := { ring := [(0, { record := { code := 0x0201, sev := 1 } }), (1, { record := { code := 0x0201, sev := 3, seq := 1 } })], stored := 2 } }), (.sentinel 1), ({ record := { code := 0x0201, sev := 3, seq := 1 } }), by decide +kernel⟩

theorem witness_ErrorCollectorComplete_4 :
    ∃ (s : State) (who : Initiator), (isSentinel who = true ∧ s.nextRec = none) :=
  ⟨State.reset, (.sentinel 0), by decide +kernel⟩

theorem witness_ErrorCollectorComplete_5 :
    ∃ (s : State) (who : Initiator) (index : Nat) (x : RingSlot), (isSentinel who = true ∧ storeFind s.err.ring (index % 256) = some x ∧ x.handling = true ∧ x.done = false) ∧ (s.err.tailSeq < s.err.stored ∧ s.slotSeq s.err.tailSeq = some x ∧ s.err.tailSeq % 256 = index % 256) ∧ ((s.slotSeq (s.err.tailSeq + 1)).all (fun y => !y.done) = true) :=
  ⟨({ State.reset with err := { ring := [(0, { record := { code := 0x0201, sev := 1 }, handling := true }), (1, { record := { code := 0x0201, sev := 3, seq := 1 } })], stored := 2, handlingOrder := [0] } }), (.sentinel 0), 0, ({ record := { code := 0x0201, sev := 1 }, handling := true }), by decide +kernel⟩

theorem witness_ErrorCollectorComplete_6 :
    ∃ (s : State) (who : Initiator) (value : Word), (isSentinel who = true ∧ F.errInject_severity.of value.toNat < 4) :=
  ⟨State.reset, (.sentinel 2), 0x30201#64, by decide +kernel⟩

theorem witness_ErrorCollectorComplete_7 :
    ∃ (s : State) (who : Initiator) (value : Word), (isSentinel who = false) :=
  ⟨State.reset, steward, 0x30201#64, by decide +kernel⟩

theorem witness_ErrorCollectorComplete_8 :
    ∃ (s : State) (r : ErrRec) (rs : List ErrRec), (s.err.hlogQueue = r :: rs ∧ s.hlogRecent.length < 64) :=
  ⟨({ State.reset with err := { hlogQueue := [{ code := 0x0201, sev := 3 }], hlogPos := 1023 } }), ({ code := 0x0201, sev := 3 }), [], by decide +kernel⟩

theorem witness_ErrorCollectorComplete_9 :
    ∃ (s : State) (r : ErrRec) (rs : List ErrRec), (s.err.hlogQueue = r :: rs ∧ 64 ≤ s.hlogRecent.length) :=
  ⟨({ State.reset with err := { hlogQueue := [{ code := 0x0201, sev := 3 }], hlogTimes := List.replicate 64 0 } }), ({ code := 0x0201, sev := 3 }), [], by decide +kernel⟩

theorem witness_ErrorCollectorComplete_10 :
    ∃ (s : State) (who : Initiator) (entry : Nat) (x : HlogEntry), (s.hlogRight who = true ∧ entry < 2 ^ 18 ∧ entry % 1024 ≠ 0 ∧ storeFind s.err.hlog entry = some x) :=
  ⟨({ State.reset with err := { hlog := [(1, { record := { code := 0x0201, sev := 3 } })], hlogPos := 1 } }), steward, 1, ({ record := { code := 0x0201, sev := 3 } }), by decide +kernel⟩

theorem witness_ErrorCollectorComplete_11 :
    ∃ (s : State) (who : Initiator) (entry : Nat), (s.hlogRight who = true ∧ entry < 2 ^ 18 ∧ entry % 1024 ≠ 0 ∧ storeFind s.err.hlog entry = none) :=
  ⟨State.reset, steward, 2, by decide +kernel⟩

theorem witness_InstanceAndDmaCommandsComplete_1 :
    ∃ (s : State) (who : Initiator) (vi : Nat), (vi < 64 ∧ s.viWriter who = true ∧ s.fon F.viCmd_busy 4 0 vi = false) ∧ (s.viSt vi = viFree ∧ s.noResources vi = false ∧ s.overcommit vi = false) ∧ (s.badExtent vi = false ∧ s.guestLimit vi = false) :=
  ⟨(st [(F.viQueuesA_accel_blocks, 4, 0, 63, 1)]), steward, 63, by decide +kernel⟩

theorem witness_InstanceAndDmaCommandsComplete_2 :
    ∃ (s : State) (who : Initiator) (vi : Nat) (now : Bool), (vi < 64 ∧ s.viWriter who = true ∧ s.fon F.viCmd_busy 4 0 vi = false) ∧ ((s.viSt vi = viActive ∨ s.viSt vi = viQuiesced) ∧ s.noResources vi = false ∧ s.overcommit vi = false) ∧ ((s.droppedQueues vi).all (fun q => s.qState q == 0) = true ∧ s.ctxBusy vi = false ∧ s.vectorInUse vi = false) ∧ (s.badExtent vi = false ∧ s.guestLimit vi = false ∧ s.vis.shrinking = [] ∧ now = false) :=
  ⟨(st [(F.viState_state, 4, 0, 63, 3), (F.viQueuesA_accel_blocks, 4, 0, 63, 1)]), .hardware, 63, false, by decide +kernel⟩

theorem witness_InstanceAndDmaCommandsComplete_3 :
    ∃ (s : State) (who : Initiator) (vi : Nat), (s.viWriter who = true ∧ s.fon F.viCmd_busy 4 0 vi = false ∧ s.viSt vi = viActive) :=
  ⟨(st [(F.viState_state, 4, 0, 1, 1), (F.viQueuesA_cq_blocks, 4, 0, 65, 1), (F.schQptr_state, 4, 0, 16385, 1)]), steward, 1, by decide +kernel⟩

theorem witness_InstanceAndDmaCommandsComplete_4 :
    ∃ (s : State) (vi : Nat), (s.viSt vi = viQuiescing ∧ s.jobsOf vi = []) ∧ (s.vis.dma.all (fun x => s.qVi x.queue != vi) = true) ∧ ((s.viQueues vi).all (fun q => (s.cq q).held.isEmpty) = true) :=
  ⟨(st [(F.viState_state, 4, 0, 63, 2), (F.viQueuesA_cq_blocks, 4, 0, 127, 1)]), 63, by decide +kernel⟩

theorem witness_InstanceAndDmaCommandsComplete_5 :
    ∃ (s : State) (who : Initiator) (vi : Nat), (s.viWriter who = true ∧ s.fon F.viCmd_busy 4 0 vi = false ∧ s.viSt vi = viQuiesced) ∧ ((s.viQueues vi).all (fun q => (s.cq q).held.isEmpty) = true) :=
  ⟨(st [(F.viState_state, 4, 0, 1, 3), (F.viQueuesA_cq_blocks, 4, 0, 65, 1), (F.schQptr_state, 4, 0, 16385, 2), (F.schQptr_tail, 4, 0, 16385, 9)]), .hardware, 1, by decide +kernel⟩

theorem witness_InstanceAndDmaCommandsComplete_6 :
    ∃ (s : State) (who : Initiator) (vi : Nat), (vi < 64 ∧ s.viWriter who = true ∧ s.fon F.viCmd_busy 4 0 vi = false ∧ s.viSt vi = viQuiesced) ∧ (bit s.vis.rtBound vi = false ∧ s.viQuiet vi = true) :=
  ⟨(st [(F.viState_state, 4, 0, 63, 3), (F.viQueuesA_cq_blocks, 4, 0, 127, 1), (F.viExtN_granules, 4, 7, 127, 8), (F.schQbase_size_log2, 4, 0, 16385, 4)]), steward, 63, by decide +kernel⟩

theorem witness_InstanceAndDmaCommandsComplete_7 :
    ∃ (s : State) (who : Initiator) (vi : Nat), (s.viWriter who = true ∧ s.fon F.viCmd_busy 4 0 vi = false ∧ s.viSt vi ≠ viQuiesced) :=
  ⟨State.reset, steward, 63, by decide +kernel⟩

theorem witness_InstanceAndDmaCommandsComplete_8 :
    ∃ (s : State) (who : Initiator) (vi : Nat), (s.viWriter who = false) :=
  ⟨State.reset, (.hostFn 0), 63, by decide +kernel⟩

theorem witness_InstanceAndDmaCommandsComplete_9 :
    ∃ (s : State) (queue : Nat) (e : List Byte) (n : Nat) (iova : Nat) (u : State), (s.dmaEntry queue 1 e = true) ∧ (n = leAt e 24 4 ∧ iova = leAt e 16 8 ∧ iova % 4096 + n ≤ 4096) ∧ (u = (s.entryRead queue 64).fset F.schQptr_head 4 0 queue (s.qHead queue + 1)) :=
  ⟨((lp [(F.schQbase_base, 4, 0, 32768, 0x100000), (F.schQbase_size_log2, 4, 0, 32768, 4), (F.schQptr_state, 4, 0, 32768, 1), (F.schQptr_tail, 4, 0, 32768, 1), (F.viExtN_granules, 4, 0, 64, 8)]).putAt 0x100000 (leBytes 1 8 ++ leBytes 0x5000 8 ++ leBytes 0x6FFF 8 ++ leBytes 1 40)), 32768, (leBytes 1 8 ++ leBytes 0x5000 8 ++ leBytes 0x6FFF 8 ++ leBytes 1 40), 1, 0x6FFF, ((((lp [(F.schQbase_base, 4, 0, 32768, 0x100000), (F.schQbase_size_log2, 4, 0, 32768, 4), (F.schQptr_state, 4, 0, 32768, 1), (F.schQptr_tail, 4, 0, 32768, 1), (F.viExtN_granules, 4, 0, 64, 8)]).putAt 0x100000 (leBytes 1 8 ++ leBytes 0x5000 8 ++ leBytes 0x6FFF 8 ++ leBytes 1 40)).entryRead (32768) 64).fset F.schQptr_head 4 0 (32768) (((lp [(F.schQbase_base, 4, 0, 32768, 0x100000), (F.schQbase_size_log2, 4, 0, 32768, 4), (F.schQptr_state, 4, 0, 32768, 1), (F.schQptr_tail, 4, 0, 32768, 1), (F.viExtN_granules, 4, 0, 64, 8)]).putAt 0x100000 (leBytes 1 8 ++ leBytes 0x5000 8 ++ leBytes 0x6FFF 8 ++ leBytes 1 40)).qHead (32768) + 1)), by decide +kernel⟩

theorem witness_InstanceAndDmaCommandsComplete_10 :
    ∃ (s : State) (queue : Nat) (e : List Byte) (n : Nat) (iova : Nat) (u : State), (s.dmaEntry queue 2 e = true) ∧ (n = leAt e 24 4 ∧ iova = leAt e 16 8 ∧ iova % 4096 + n ≤ 4096) ∧ (u = (s.entryRead queue 64).fset F.schQptr_head 4 0 queue (s.qHead queue + 1)) :=
  ⟨((lp [(F.schQbase_base, 4, 0, 32768, 0x100000), (F.schQbase_size_log2, 4, 0, 32768, 4), (F.schQptr_state, 4, 0, 32768, 1), (F.schQptr_tail, 4, 0, 32768, 1), (F.viExtN_granules, 4, 0, 64, 8)]).putAt 0x100000 (leBytes 2 8 ++ leBytes 0x5000 8 ++ leBytes 0x6000 8 ++ leBytes 4096 40)), 32768, (leBytes 2 8 ++ leBytes 0x5000 8 ++ leBytes 0x6000 8 ++ leBytes 4096 40), 4096, 0x6000, ((((lp [(F.schQbase_base, 4, 0, 32768, 0x100000), (F.schQbase_size_log2, 4, 0, 32768, 4), (F.schQptr_state, 4, 0, 32768, 1), (F.schQptr_tail, 4, 0, 32768, 1), (F.viExtN_granules, 4, 0, 64, 8)]).putAt 0x100000 (leBytes 2 8 ++ leBytes 0x5000 8 ++ leBytes 0x6000 8 ++ leBytes 4096 40)).entryRead (32768) 64).fset F.schQptr_head 4 0 (32768) (((lp [(F.schQbase_base, 4, 0, 32768, 0x100000), (F.schQbase_size_log2, 4, 0, 32768, 4), (F.schQptr_state, 4, 0, 32768, 1), (F.schQptr_tail, 4, 0, 32768, 1), (F.viExtN_granules, 4, 0, 64, 8)]).putAt 0x100000 (leBytes 2 8 ++ leBytes 0x5000 8 ++ leBytes 0x6000 8 ++ leBytes 4096 40)).qHead (32768) + 1)), by decide +kernel⟩

theorem witness_InstanceAndDmaCommandsComplete_11 :
    ∃ (s : State) (queue : Nat) (x : DmaFlight) (rest : List DmaFlight), (s.vis.dma = x :: rest ∧ x.queue = queue ∧ x.record = false) :=
  ⟨({ State.reset with vis := { dma := [⟨32768, 7, 16384, false, 64, 0⟩] } }), 32768, (⟨32768, 7, 16384, false, 64, 0⟩), [], by decide +kernel⟩

theorem witness_InstanceAndDmaCommandsComplete_12 :
    ∃ (s : State) (queue : Nat) (x : DmaFlight) (rest : List DmaFlight) (cq : Nat) (a : Nat), (s.canonical) ∧ (s.vis.dma = x :: rest ∧ x.queue = queue ∧ x.record = true) ∧ (cq = x.cq ∧ s.cqOpen (s.qVi queue) cq = true ∧ a = s.cqNext cq) :=
  ⟨({ wSys [] with vis := { dma := [⟨61440, 7, 16384, true, 64, 0x30⟩] } }), 61440, (⟨61440, 7, 16384, true, 64, 0x30⟩), [], 16384, 0x110000, by decide +kernel⟩

theorem witness_InstanceResetsComplete_1 :
    ∃ (s : State) (who : Initiator) (vi : Nat), (vi < 64 ∧ s.viWriter who = true ∧ s.fon F.viCmd_busy 4 0 vi = false) ∧ (s.mayReset vi = true ∧ s.viQuiet vi = true) :=
  ⟨({ st [(F.viState_state, 4, 0, 1, 1), (F.viQueuesA_cq_blocks, 4, 0, 65, 1), (F.schQptr_state, 4, 0, 16385, 1)] with periods := 5 }), steward, 1, by decide +kernel⟩

theorem witness_InstanceResetsComplete_2 :
    ∃ (s : State) (k : Nat) (vi : Nat), (vi = k - 1 ∧ 1 ≤ k ∧ k ≤ 64 ∧ s.hostMode = 2 ∧ s.viReg F.viOwner_vf_enable (64 + vi) = 1) ∧ (s.mayReset vi = true ∧ s.viQuiet vi = true) :=
  ⟨(st [(F.viState_state, 4, 0, 63, 3), (F.cfgCapsIo_host_mode, 4, 0, 0, 2), (F.viOwner_vf_enable, 4, 0, 127, 1)]), 64, 63, by decide +kernel⟩

theorem witness_InstanceResetsComplete_3 :
    ∃ (s : State) (vi : Nat) (back : Nat), (vi < 64 ∧ s.viSt vi = viResetting ∧ storeFind s.vis.prior vi = some back ∧ (back = viActive ∨ back = viQuiesced)) :=
  ⟨({ st [(F.viState_state, 4, 0, 1, 4), (F.viCmd_busy, 4, 0, 1, 1), (F.viState_resets, 4, 0, 1, 255), (F.viQueuesA_cq_blocks, 4, 0, 65, 1), (F.schQptr_state, 4, 0, 16385, 2), (F.schQptr_tail, 4, 0, 16385, 9)] with vis := { prior := [(1, 1)], resetStart := [(1, 0)] } }), 1, 1, by decide +kernel⟩

theorem witness_InstanceResetsComplete_4 :
    ∃ (s : State) (vi : Nat) (t0 : Nat), (storeFind s.vis.resetStart vi = some t0 ∧ t0 + 76800 ≤ s.periods) :=
  ⟨({ State.reset with periods := 76800, vis := { resetStart := [(3, 0)] } }), 3, 0, by decide +kernel⟩

theorem witness_WatermarksAndHoldsComplete_1 :
    ∃ (s : State) (who : Initiator) (target : Nat) (mark : Nat), (secRight who = true ∧ target ≤ 11 ∧ storeFind s.moves target = none) ∧ (s.moveStatus target mark = 0 ∧ mark ≠ s.mark target) :=
  ⟨(st [(F.cfgWmGrant_target, 4, 0, 0, 11), (F.cfgWmGrant_up_to, 4, 0, 0, 128), (F.cfgWmGrant_valid, 4, 0, 0, 1)]), (.vault 0 false), 11, 128, by decide +kernel⟩

theorem witness_WatermarksAndHoldsComplete_2 :
    ∃ (s : State) (who : Initiator) (target : Nat) (mark : Nat), (secRight who = true ∧ target ≤ 11 ∧ storeFind s.moves target = none) ∧ (s.moveStatus target mark ≠ 0) :=
  ⟨State.reset, (.vault 0 false), 0, 1, by decide +kernel⟩

theorem witness_WatermarksAndHoldsComplete_3 :
    ∃ (s : State) (who : Initiator) (target : Nat) (mark : Nat), (secRight who = false) :=
  ⟨State.reset, (.vault 0 true), 0, 1, by decide +kernel⟩

theorem witness_WatermarksAndHoldsComplete_4 :
    ∃ (s : State) (target : Nat) (old : Nat) (mark : Nat), (s.canonical) ∧ (target ≤ 11 ∧ storeFind s.moves target = some (old, mark) ∧ mark ≤ markLimit target) :=
  ⟨({ State.reset.putAt 0x400000 [7] with moves := [(0, 0, 3)] }), 0, 0, 3, by decide +kernel⟩

theorem witness_WatermarksAndHoldsComplete_5 :
    ∃ (s : State) (who : Initiator) (target : Nat) (upTo : Nat), (s.loaderRight who = true ∧ target ≤ 11) :=
  ⟨State.reset, steward, 11, 8192, by decide +kernel⟩

theorem witness_WatermarksAndHoldsComplete_6 :
    ∃ (s : State) (who : Initiator) (b : Nat), (secRight who = true ∧ b < 49 ∧ s.holdStatus b = 0) :=
  ⟨(st [(F.cfgCapsClusterMap_cluster_usable, 4, 0, 0, 2 ^ 31)]), (.vault 1 false), 31, by decide +kernel⟩

theorem witness_WatermarksAndHoldsComplete_7 :
    ∃ (s : State) (who : Initiator) (b : Nat), (secRight who = true ∧ b < 49 ∧ s.holdStatus b ≠ 0) :=
  ⟨(st [(F.schRtLock_engines, 3, 0, 0, 2 ^ 15)]), (.vault 1 false), 31, by decide +kernel⟩

theorem witness_WatermarksAndHoldsComplete_8 :
    ∃ (s : State) (who : Initiator) (b : Nat), (secRight who = true ∧ b < 32 ∧ s.blockHeld b = true ∧ s.stopWaits b = false) ∧ (s.testing (2 * b) = false ∧ s.testing (2 * b + 1) = false) ∧ (s.teStat (2 * b) ≠ tsOut ∧ s.teStat (2 * b + 1) ≠ tsOut) :=
  ⟨wHeld, (.vault 1 false), 0, by decide +kernel⟩

theorem witness_WatermarksAndHoldsComplete_9 :
    ∃ (s : State) (who : Initiator) (b : Nat), (secRight who = true ∧ 32 ≤ b ∧ b < 48 ∧ s.blockHeld b = true) :=
  ⟨({ st [(F.secHoldMap_held, 4, 0, 0, 2 ^ 47), (F.seRingHead_state, 3, 0x1803, 0, 1)] with rings := [(63, { issue := 4 })] }), (.vault 1 false), 47, by decide +kernel⟩

theorem witness_WatermarksAndHoldsComplete_10 :
    ∃ (s : State) (who : Initiator), (secRight who = true ∧ s.blockHeld 48 = true ∧ s.stopWaits 48 = false) :=
  ⟨(st [(F.secHoldMap_held, 4, 0, 0, 2 ^ 48), (F.medSession_state, 5, 0, 7, 1)]), (.vault 1 false), by decide +kernel⟩

theorem witness_WatermarksAndHoldsComplete_11 :
    ∃ (s : State) (who : Initiator) (b : Nat), (secRight who = true ∧ b < 49 ∧ s.blockHeld b = false) :=
  ⟨State.reset, (.vault 1 false), 48, by decide +kernel⟩

theorem witness_WatermarksAndHoldsComplete_12 :
    ∃ (s : State) (at_ : Nat) (b : Nat), (s.power.emergency = some at_ ∧ at_ + 3840 ≤ s.periods) ∧ ((List.range 49).filter (fun c => s.blockHeld c && s.stopWaits c) = [b]) :=
  ⟨({ st [(F.secHoldMap_held, 4, 0, 0, 2 ^ 48), (F.pwrParked_held_pending, 5, 0, 0, 2 ^ 9)] with power := { emergency := some 0 }, periods := 3840 }), 0, 48, by decide +kernel⟩

theorem witness_WatchdogAndVaultJobsComplete_1 :
    ∃ (s : State) (who : Initiator) (value : Nat) (at_ : Nat), (secRight who = true ∧ s.boot.wdogStart = some at_) ∧ (value % 65536 + s.fget F.secWdog_challenge 4 0 0 = 65535) :=
  ⟨({ st [(F.secWdog_period_ms, 4, 0, 0, 100), (F.secWdog_challenge, 4, 0, 0, 5)] with boot := { wdogStart := some 0 } }), (.vault 0 false), 65530, 0, by decide +kernel⟩

theorem witness_WatchdogAndVaultJobsComplete_2 :
    ∃ (s : State) (who : Initiator) (value : Nat) (at_ : Nat), (secRight who = true ∧ s.boot.wdogStart = some at_) ∧ (value % 65536 + s.fget F.secWdog_challenge 4 0 0 ≠ 65535) :=
  ⟨({ State.reset with boot := { wdogStart := some 0 } }), (.vault 0 false), 3, 0, by decide +kernel⟩

theorem witness_WatchdogAndVaultJobsComplete_3 :
    ∃ (s : State) (e : Nat), (s.wdogEnd = some e ∧ e ≤ s.periods) :=
  ⟨({ st [(F.secWdog_period_ms, 4, 0, 0, 1)] with boot := { wdogStart := some 0 }, periods := 38400 }), 38400, by decide +kernel⟩

theorem witness_WatchdogAndVaultJobsComplete_4 :
    ∃ (s : State) (who : Initiator) (te : Nat) (a : Nat) (n : Nat), (te < 64 ∧ s.vaultEngine who te = true) ∧ (s.engineUsable te = true ∧ s.teAtRest te = true) ∧ (a = s.fget F.teProg_prog_addr (te / 16) (te % 16) 0 ∧ n = s.fget F.teProg_length_m1 (te / 16) (te % 16) 0 + 1) ∧ (s.firstRefusal (.engine te) false (requests a (n * 16)) = none) ∧ (s.poisonIn (.engine te) a (n * 16) = none) :=
  ⟨wHeld, (.vault 0 false), 0, 0, 1, by decide +kernel⟩

theorem witness_WatchdogAndVaultJobsComplete_5 :
    ∃ (s : State) (who : Initiator) (te : Nat), (te < 64 ∧ s.vaultEngine who te = true) ∧ (s.teStat te = tsRunning ∨ s.teStat te = tsWaiting) :=
  ⟨(withFields (engAt 63 0 {}) [(F.secTeSel_engine, 4, 0, 0, 63), (F.secHoldMap_held, 4, 0, 0, 2 ^ 31)]), (.vault 0 false), 63, by decide +kernel⟩

theorem witness_WatchdogAndVaultJobsComplete_6 :
    ∃ (s : State) (who : Initiator) (te : Nat), (te < 64 ∧ s.vaultEngine who te = true) ∧ (s.engineUsable te = true ∧ s.teAtRest te = true) :=
  ⟨wHeld, (.vault 0 false), 0, by decide +kernel⟩

theorem witness_WatchdogAndVaultJobsComplete_7 :
    ∃ (s : State) (who : Initiator) (te : Nat), (te < 64 ∧ s.vaultEngine who te = true) ∧ (1 ≤ s.teStat te ∧ s.teStat te ≤ 4 ∧ s.teJobOf te = none ∧ (s.eng te).writes = []) :=
  ⟨(withFields (engAt 63 0 {}) [(F.secTeSel_engine, 4, 0, 0, 63), (F.secHoldMap_held, 4, 0, 0, 2 ^ 31)]), (.vault 0 false), 63, by decide +kernel⟩

theorem witness_WatchdogAndVaultJobsComplete_8 :
    ∃ (s : State) (who : Initiator) (te : Nat), (secRight who = true ∧ te = s.fget F.secTeSel_engine 4 0 0 ∧ s.blockHeld (te / 2) = false) :=
  ⟨State.reset, (.vault 0 false), 0, by decide +kernel⟩

theorem witness_AttestationAndLifecycleComplete_1 :
    ∃ (s : State) (queue : Nat) (vi : Nat) (e : List Byte) (nonce : List Byte) (out : Nat) (u : State), (s.canonical) ∧ (s.sysEntry queue 0x20 vi e = true ∧ s.cqOpen vi (leAt e 4 2) = true) ∧ (u = s.entryRead queue 256 ∧ (u.fetchAs (.service (some vi)) (cmdArg e 0) 32).2 = some nonce ∧ out = cmdArg e 1) ∧ (s.lifecycle = lcProd ∧ s.inReadReach vi (cmdArg e 0) 32 = true ∧ out % 64 = 0 ∧ s.vaultOutput vi out 5789 = true) ∧ (s.fget F.secAtt_next 4 0 0 ≠ s.flash.attCeiling ∧ s.indexExhausted (s.fget F.secAtt_next 4 0 0) = false ∧ (s.boot.attestTimes.filter (fun x => s.periods < x + 38400000)).length < 100) ∧ (out + 5789 ≤ s.cqNext (leAt e 4 2) ∨ s.cqNext (leAt e 4 2) + 64 ≤ out) :=
  ⟨(wAttest 0x20 [0x300000, 0x200000]), 61440, 1, (wEntry 0x20 [0x300000, 0x200000]), (List.replicate 32 0), 0x200000, ((wAttest 0x20 [0x300000, 0x200000]).entryRead (61440) 256), by decide +kernel⟩

theorem witness_AttestationAndLifecycleComplete_2 :
    ∃ (s : State) (queue : Nat) (vi : Nat) (e : List Byte) (out : Nat), (s.canonical) ∧ (s.sysEntry queue 0x21 vi e = true ∧ s.cqOpen vi (leAt e 4 2) = true) ∧ (s.lifecycle = lcProd ∧ out = cmdArg e 0 ∧ s.vaultOutput vi out 84 = true) ∧ (out + 84 ≤ s.cqNext (leAt e 4 2) ∨ s.cqNext (leAt e 4 2) + 64 ≤ out) :=
  ⟨(wAttest 0x21 [0x200000]), 61440, 1, (wEntry 0x21 [0x200000]), 0x200000, by decide +kernel⟩

theorem witness_AttestationAndLifecycleComplete_3 :
    ∃ (s : State) (queue : Nat) (vi : Nat) (e : List Byte), (s.canonical) ∧ (s.sysEntry queue 0x21 vi e = true ∧ s.cqOpen vi (leAt e 4 2) = true) ∧ (s.lifecycle ≠ lcProd) :=
  ⟨(wSys (wEntry 0x21 [0x200000])), 61440, 1, (wEntry 0x21 [0x200000]), by decide +kernel⟩

theorem witness_AttestationAndLifecycleComplete_4 :
    ∃ (s : State) (who : Initiator) (ok : Bool) (r : List Byte) (u : State), (s.lifeAsks who 1 r = true ∧ lifeFormatOk r = true) ∧ (u = s.lifeRequest.1) :=
  ⟨(wLife 1 0 0), (.vault 0 false), true, ((lifeReq 1 0 0).take 64 ++ List.replicate 5776 0), ((wLife 1 0 0).lifeRequest.1), ⟨⟨life_asks _ _ _ ((lifeReq 1 0 0).take 64) (by decide +kernel) (by decide +kernel) (by decide +kernel) (by decide +kernel) (by decide +kernel), by decide +kernel⟩, rfl⟩⟩

theorem witness_AttestationAndLifecycleComplete_5 :
    ∃ (s : State) (who : Initiator) (ok : Bool) (r : List Byte) (u : State), (s.lifeAsks who 2 r = true ∧ lifeFormatOk r = true) ∧ (u = s.lifeRequest.1) :=
  ⟨(wLife 2 1 77), steward, true, ((lifeReq 2 1 77).take 64 ++ List.replicate 5776 0), ((wLife 2 1 77).lifeRequest.1), ⟨⟨life_asks _ _ _ ((lifeReq 2 1 77).take 64) (by decide +kernel) (by decide +kernel) (by decide +kernel) (by decide +kernel) (by decide +kernel), by decide +kernel⟩, rfl⟩⟩

theorem witness_AttestationAndLifecycleComplete_6 :
    ∃ (s : State) (who : Initiator) (ok : Bool) (r : List Byte) (u : State), (s.lifeAsks who 3 r = true ∧ lifeFormatOk r = true) ∧ (u = s.lifeRequest.1) :=
  ⟨(wLife 3 1 77), steward, true, ((lifeReq 3 1 77).take 64 ++ List.replicate 5776 0), ((wLife 3 1 77).lifeRequest.1), ⟨⟨life_asks _ _ _ ((lifeReq 3 1 77).take 64) (by decide +kernel) (by decide +kernel) (by decide +kernel) (by decide +kernel) (by decide +kernel), by decide +kernel⟩, rfl⟩⟩

theorem witness_AttestationAndLifecycleComplete_7 :
    ∃ (s : State) (who : Initiator) (ok : Bool) (r : List Byte) (u : State), (s.lifeAsks who 4 r = true ∧ lifeFormatOk r = true) ∧ (u = s.lifeRequest.1) :=
  ⟨(wLife 4 2 0), steward, true, ((lifeReq 4 2 0).take 64 ++ List.replicate 5776 0), ((wLife 4 2 0).lifeRequest.1), ⟨⟨life_asks _ _ _ ((lifeReq 4 2 0).take 64) (by decide +kernel) (by decide +kernel) (by decide +kernel) (by decide +kernel) (by decide +kernel), by decide +kernel⟩, rfl⟩⟩

theorem witness_AttestationAndLifecycleComplete_8 :
    ∃ (s : State), (s.canonical) ∧ (s.boot.keyGenerating = true) :=
  ⟨({ State.reset with boot := { keyGenerating := true } }), by decide +kernel⟩

theorem witness_AttestationAndLifecycleComplete_9 :
    ∃ (s : State), (s.boot.keyGenerating = true) :=
  ⟨({ State.reset with boot := { keyGenerating := true } }), by decide +kernel⟩

theorem witness_AttestationAndLifecycleComplete_10 :
    ∃ (s : State) (who : Initiator) (ok : Bool) (r : List Byte) (u : State), (s.lifeAsks who 1 r = true ∧ lifeFormatOk r = false) ∧ (u = s.lifeRequest.1) :=
  ⟨(wLife 1 1 1), (.vault 0 false), true, ((lifeReq 1 1 1).take 64 ++ List.replicate 5776 0), ((wLife 1 1 1).lifeRequest.1), ⟨⟨life_asks _ _ _ ((lifeReq 1 1 1).take 64) (by decide +kernel) (by decide +kernel) (by decide +kernel) (by decide +kernel) (by decide +kernel), by decide +kernel⟩, rfl⟩⟩

theorem witness_GatewayCommandsComplete_1 :
    ∃ (s : State) (isq : Bool) (flow : Nat) (bus : Nat) (format : Nat) (ident : Nat) (sdt : Nat) (vcid : Nat) (flags : Nat) (af : Nat) (payload : List Byte) (n : Notice) (c : Nat) (seq : Nat), (s.logicFrozen 6 = false) ∧ (payload.length ≤ 2048) ∧ (n = { ctx := 0, identifier := ident, format, flags, bus, time := s.deviceTime, af := if format = 2 then af else 0, sdt := if format = 2 then sdt else 0, vcid := if format = 2 then vcid else 0, payload }) ∧ (s.ingressCtx isq flow n = some c ∧ seq = s.gw F.gwCtx_sequencer c) ∧ ((s.tahrSeq seq).waiting.length + (s.tahrSeq seq).notice.isSome.toNat < 32) :=
  ⟨(wContext 0), false, 4095, 0, 0, 0, 3, 3, 1, 9, ([1, 2]), ({ ctx := 0, identifier := 0, format := 0, flags := 1, bus := 0, time := 0, payload := [1, 2] }), 5, 31, by decide +kernel⟩

theorem witness_GatewayCommandsComplete_2 :
    ∃ (s : State) (isq : Bool) (flow : Nat) (bus : Nat) (format : Nat) (ident : Nat) (sdt : Nat) (vcid : Nat) (flags : Nat) (af : Nat) (payload : List Byte) (n : Notice), (s.logicFrozen 6 = false) ∧ (payload.length ≤ 2048) ∧ (n = { ctx := 0, identifier := ident, format, flags, bus, time := s.deviceTime, af := if format = 2 then af else 0, sdt := if format = 2 then sdt else 0, vcid := if format = 2 then vcid else 0, payload }) ∧ (s.ingressCtx isq flow n = none) :=
  ⟨(wContext 1), false, 4095, 0, 2, 0, 3, 3, 1, 9, ([1, 2]), ({ ctx := 0, identifier := 0, format := 2, flags := 1, bus := 0, time := 0, af := 9, sdt := 3, vcid := 3, payload := [1, 2] }), by decide +kernel⟩

theorem witness_GatewayCommandsComplete_3 :
    ∃ (s : State) (isq : Bool) (flow : Nat) (bus : Nat) (format : Nat) (ident : Nat) (sdt : Nat) (vcid : Nat) (flags : Nat) (af : Nat) (payload : List Byte) (n : Notice) (c : Nat) (seq : Nat), (s.logicFrozen 6 = false) ∧ (payload.length ≤ 2048) ∧ (n = { ctx := 0, identifier := ident, format, flags, bus, time := s.deviceTime, af := if format = 2 then af else 0, sdt := if format = 2 then sdt else 0, vcid := if format = 2 then vcid else 0, payload }) ∧ (s.ingressCtx isq flow n = some c ∧ seq = s.gw F.gwCtx_sequencer c) ∧ (32 ≤ (s.tahrSeq seq).waiting.length + (s.tahrSeq seq).notice.isSome.toNat) :=
  ⟨({ wContext 0 with tahr := { seqs := [(31, { waiting := List.replicate 32 { ctx := 5, identifier := 0, format := 0, flags := 0, bus := 0, time := 0, payload := [] } })] } }), false, 4095, 0, 0, 0, 3, 3, 1, 9, ([1, 2]), ({ ctx := 0, identifier := 0, format := 0, flags := 1, bus := 0, time := 0, payload := [1, 2] }), 5, 31, by decide +kernel⟩

theorem witness_GatewayCommandsComplete_4 :
    ∃ (s : State) (queue : Nat) (n : Nat) (e : List Byte) (ctx : Nat) (seq : Nat) (u : State), (57344 ≤ queue ∧ queue < 61440 ∧ n = queue - 57344 ∧ s.fget F.gwQcfg_dir 6 0 n = 0 ∧ s.queueReady queue = true) ∧ ((s.readEntryAt queue (s.qHead queue) 128).2 = some e ∧ u = s.entryRead queue 128) ∧ (ctx = leAt e 0 2 ∧ s.sourcedFrom ctx n = true ∧ bit (leAt e 4 1) 0 = false ∧ leAt e 2 2 ≤ 96) ∧ (seq = s.gw F.gwCtx_sequencer ctx ∧ (s.tahrSeq seq).waiting.length + (s.tahrSeq seq).notice.isSome.toNat < 32) :=
  ⟨((wContext 1).putAt 0x100000 (leBytes 5 2 ++ leBytes 96 2 ++ leBytes 0 28 ++ leBytes 7 96)), 61439, 4095, (leBytes 5 2 ++ leBytes 96 2 ++ leBytes 0 28 ++ leBytes 7 96), 5, 31, (((wContext 1).putAt 0x100000 (leBytes 5 2 ++ leBytes 96 2 ++ leBytes 0 28 ++ leBytes 7 96)).entryRead (61439) 128), by decide +kernel⟩

theorem witness_GatewayCommandsComplete_5 :
    ∃ (s : State) (queue : Nat) (n : Nat) (e : List Byte) (u : State), (57344 ≤ queue ∧ queue < 61440 ∧ n = queue - 57344 ∧ s.fget F.gwQcfg_dir 6 0 n = 0 ∧ s.queueReady queue = true) ∧ ((s.readEntryAt queue (s.qHead queue) 128).2 = some e ∧ u = s.entryRead queue 128) ∧ (s.sourcedFrom (leAt e 0 2) n = false) :=
  ⟨(wContext 0), 61439, 4095, (leBytes 0 128), ((wContext 0).entryRead (61439) 128), by decide +kernel⟩

theorem witness_GatewayCommandsComplete_6 :
    ∃ (s : State) (who : Initiator) (ctx : Nat) (on : Bool), (tsqRight who = true ∧ s.gw F.gwCtx_toggle ctx = 1 ∧ s.gw F.gwCtx_enable ctx ≠ on.toNat) :=
  ⟨(wContext 0), (.sentinel 1), 5, false, by decide +kernel⟩

theorem witness_GatewayCommandsComplete_7 :
    ∃ (s : State) (who : Initiator) (ctx : Nat) (on : Bool), (tsqRight who = false ∨ s.gw F.gwCtx_toggle ctx = 0) :=
  ⟨State.reset, (.sentinel 1), 5, false, by decide +kernel⟩

theorem witness_EthernetCommandsComplete_1 :
    ∃ (s : State) (p : Nat), (p < 16 ∧ (s.ethPort p).waiting = []) :=
  ⟨State.reset, 15, by decide +kernel⟩

theorem witness_EthernetCommandsComplete_2 :
    ∃ (s : State) (p : Nat), (p < 16) :=
  ⟨(wEth {}), 15, by decide +kernel⟩

theorem witness_EthernetCommandsComplete_3 :
    ∃ (s : State) (p : Nat) (frame : List Byte) (k : Nat) (n : Nat) (q : Nat) (e : List Byte) (ent : Nat) (buf : Nat) (who : Initiator), (s.logicFrozen (portDie p) = false) ∧ (s.canonical) ∧ (p < 16 ∧ s.portUpEth p = true ∧ s.fon F.netPortCfg_enable (portDie p) 0 (p % 8) = true ∧ 64 ≤ frame.length ∧ frame.length ≤ 9216) ∧ (s.net.keys = [(n, k)] ∧ s.flow F.netFlow_enable n = 1 ∧ s.flow F.netFlow_kind n = 1) ∧ (q = 40960 + s.flow F.netFlow_target n ∧ s.qState q = 1 ∧ s.fget F.netQcfg_dir 6 0 (q - 40960) = 1 ∧ s.qUsed q < s.qSize q) ∧ (ent = s.qEntry q (s.qTail q) 64 ∧ (s.readEntryAt q (s.qTail q) 64).2 = some e ∧ frame.length ≤ leAt e 28 4) ∧ (buf = leAt e 8 8 ∧ (buf + frame.length ≤ ent ∨ ent + 64 ≤ buf) ∧ who = .service (some (s.qVi q))) ∧ (s.memoryOpen who true buf frame.length = true ∧ s.memoryOpen who true ent 64 = true) :=
  ⟨({ withFields (wTransmit 1 (leBytes 0 8 ++ leBytes 0x200000 8 ++ leBytes 0 12 ++ leBytes 64 4 ++ leBytes 0 32)) [(F.netFlow_kind, 6, 0, 9, 1)] with net := { keys := [(9, 0)] } }), 15, (List.replicate 64 7), 0, 9, 40960, (leBytes 0 8 ++ leBytes 0x200000 8 ++ leBytes 0 12 ++ leBytes 64 4 ++ leBytes 0 32), 0x100000, 0x200000, (.service (some 1)), by decide +kernel⟩

theorem witness_EthernetCommandsComplete_4 :
    ∃ (s : State) (p : Nat) (frame : List Byte), (s.logicFrozen (portDie p) = false) ∧ (p < 16 ∧ s.portUpEth p = true ∧ s.fon F.netPortCfg_enable (portDie p) 0 (p % 8) = true ∧ 64 ≤ frame.length ∧ frame.length ≤ 9216) ∧ (s.net.keys = []) :=
  ⟨(wEth {}), 15, (List.replicate 64 7), by decide +kernel⟩

theorem witness_EthernetCommandsComplete_5 :
    ∃ (s : State) (q : Nat) (e : List Byte) (n : Nat) (p : Nat) (buf : Nat) (len : Nat) (who : Initiator), (s.canonical) ∧ (isEthernet q = true ∧ s.queueReady q = true ∧ s.fget F.netQcfg_dir 6 0 (q - 40960) = 0) ∧ ((s.readEntryAt q (s.qHead q) 64).2 = some e ∧ who = .service (some (s.qVi q)) ∧ n = leAt e 0 2 ∧ len = leAt e 2 2 ∧ buf = leAt e 8 8) ∧ (bit (leAt e 4 1) 1 = false ∧ leAt e 16 12 = 0) ∧ (s.flow F.netFlow_enable n = 1 ∧ s.flow F.netFlow_kind n = 4 ∧ s.flow F.netFlow_bound n = 0 ∧ p = s.flow F.netFlow_port n) ∧ (60 ≤ len ∧ len ≤ 9216 ∧ len ≤ s.flow F.netFlow_max_len n ∧ s.memoryOpen who false buf len = true) ∧ (s.memoryOpen who true (s.qEntry q (s.qHead q) 64) 64 = true ∧ s.poisoned buf len = false) ∧ (p < 16 ∧ s.portUpEth p = true ∧ s.fon F.netPortCfg_enable (portDie p) 0 (p % 8) = true ∧ s.ethPort p = {}) :=
  ⟨(wTransmit 0 (leBytes 9 2 ++ leBytes 60 2 ++ leBytes 0 4 ++ leBytes 0x200000 8 ++ leBytes 0 48)), 40960, (leBytes 9 2 ++ leBytes 60 2 ++ leBytes 0 4 ++ leBytes 0x200000 8 ++ leBytes 0 48), 9, 15, 0x200000, 60, (.service (some 1)), by decide +kernel⟩

theorem witness_EthernetCommandsComplete_6 :
    ∃ (s : State) (p : Nat) (f : EthFrame), (s.logicFrozen (portDie p) = false) ∧ (p < 16 ∧ s.portUpEth p = true ∧ s.fon F.netPortCfg_enable (portDie p) 0 (p % 8) = true) ∧ ((s.ethPort p).waiting = [f] ∧ (s.ethPort p).oper = none ∧ f.tc < 8 ∧ f.flow = none ∧ f.entry = none) ∧ (f.launch ≤ s.timeParts ∧ s.timeParts ≤ f.launch + s.fget F.netPortCfg_late_threshold (portDie p) 0 (p % 8) * 65536) :=
  ⟨(wEth { waiting := [{ tc := 7, flow := none, bytes := [1, 2] }] }), 15, ({ tc := 7, flow := none, bytes := [1, 2] }), by decide +kernel⟩

theorem witness_EthernetCommandsComplete_7 :
    ∃ (s : State) (p : Nat) (f : EthFrame), (s.logicFrozen (portDie p) = false) ∧ (p < 16 ∧ s.portUpEth p = true ∧ s.fon F.netPortCfg_enable (portDie p) 0 (p % 8) = true) ∧ ((s.ethPort p).waiting = [f] ∧ (s.ethPort p).oper = none ∧ f.tc < 8 ∧ f.flow = none ∧ f.entry = none) ∧ (f.launch ≠ 0 ∧ f.launch + s.fget F.netPortCfg_late_threshold (portDie p) 0 (p % 8) * 65536 < s.timeParts) ∧ (s.fon F.netPortCfg_late_mode (portDie p) 0 (p % 8) = false ∧ (s.ethPort p).lateTime = none) :=
  ⟨({ wEth { waiting := [{ tc := 7, flow := none, bytes := [1, 2], launch := 1 }] } with devFine := 10000000000000 }), 15, ({ tc := 7, flow := none, bytes := [1, 2], launch := 1 }), by decide +kernel⟩

theorem witness_EthernetCommandsComplete_8 :
    ∃ (s : State) (p : Nat) (l : GateList), ((s.ethPort p).oper = some l ∧ (s.ethPort p).waiting = [] ∧ (s.ethPort p).restart ≤ s.timeParts) :=
  ⟨({ wEth { oper := some { entries := [(1, 8), (2, 8)], cycle := 16, base := 0 } } with devFine := 2359296000000000000 }), 15, ({ entries := [(1, 8), (2, 8)], cycle := 16, base := 0 }), by decide +kernel⟩

theorem witness_EthernetCommandsComplete_9 :
    ∃ (s : State) (who : Initiator) (p : Nat) (src : Nat) (l : GateList) (u : State) (v : State), (netRight who = true ∧ p < 16 ∧ u = (s.fset F.netGcl_admin_src (portDie p) 0 (p % 8) src).answerOk ∧ u.readGateList src = (v, some l)) :=
  ⟨((lp []).putAt 0x100000 wGates), steward, 15, 0x100000, ({ entries := [(0x55, 1000)], cycle := 1000, base := 0 }), ((((lp []).putAt 0x100000 wGates).fset F.netGcl_admin_src (portDie (15)) 0 ((15) % 8) (0x100000)).answerOk), ((((((lp []).putAt 0x100000 wGates).fset F.netGcl_admin_src (portDie (15)) 0 ((15) % 8) (0x100000)).answerOk).readGateList (0x100000)).1), by decide +kernel⟩

theorem witness_EthernetCommandsComplete_10 :
    ∃ (s : State) (p : Nat) (l : GateList), (p < 16 ∧ (s.ethPort p).admin = some l ∧ l.base ≤ s.timeParts ∧ (s.ethPort p).waiting = []) :=
  ⟨(wEth { admin := some { entries := [(1, 8), (2, 8)], cycle := 16, base := 0 } }), 15, ({ entries := [(1, 8), (2, 8)], cycle := 16, base := 0 }), by decide +kernel⟩

theorem witness_NetworkTimeComplete_1 :
    ∃ (s : State) (d : Nat) (gm : Nat) (offset : Int) (rate : Int) (servo : Int), (d < 4 ∧ s.fon F.timDom_enable 4 0 d = true ∧ s.domState d = tdListening ∧ storeGet gm s.net.gms d = gm) ∧ (-1000 ≤ offset ∧ offset ≤ 1000 ∧ storeGet 0 s.net.good d < 7 ∧ s.drives d = false) :=
  ⟨(st [(F.timDom_enable, 4, 0, 3, 1), (F.timDom_state, 4, 0, 3, 1)]), 3, 7, -1000, 5, 6, by decide +kernel⟩

theorem witness_NetworkTimeComplete_2 :
    ∃ (s : State) (d : Nat) (gm : Nat) (offset : Int) (rate : Int) (servo : Int), (d < 4 ∧ s.fon F.timDom_enable 4 0 d = true ∧ s.domState d = tdListening ∧ storeGet gm s.net.gms d = gm) ∧ (-1000 ≤ offset ∧ offset ≤ 1000 ∧ 7 ≤ storeGet 0 s.net.good d) ∧ (s.net.anyLock = true ∧ s.fon F.timRate_synchronised 4 0 0 = false) :=
  ⟨({ st [(F.timDom_enable, 4, 0, 3, 1), (F.timDom_state, 4, 0, 3, 1)] with net := { anyLock := true, good := [(3, 7)] } }), 3, 7, 101, 5, 600000000, by decide +kernel⟩

theorem witness_NetworkTimeComplete_3 :
    ∃ (s : State) (d : Nat) (gm : Nat) (offset : Int) (rate : Int) (servo : Int), (d < 4 ∧ s.fon F.timDom_enable 4 0 d = true ∧ s.domState d = tdListening ∧ storeGet gm s.net.gms d = gm) ∧ (-1000 ≤ offset ∧ offset ≤ 1000 ∧ 7 ≤ storeGet 0 s.net.good d) ∧ (s.net.anyLock = false ∧ s.net.ports = []) :=
  ⟨({ st [(F.timDom_enable, 4, 0, 0, 1), (F.timDom_state, 4, 0, 0, 1)] with net := { good := [(0, 7)] } }), 0, 7, 900, 5, 6, by decide +kernel⟩

theorem witness_NetworkTimeComplete_4 :
    ∃ (s : State) (d : Nat) (gm : Nat) (offset : Int) (rate : Int) (servo : Int), (d < 4 ∧ s.fon F.timDom_enable 4 0 d = true ∧ s.domState d = tdLocked ∧ storeGet gm s.net.gms d = gm) ∧ (s.drives d = true ∧ s.net.limitBase = none) :=
  ⟨(st [(F.timDom_enable, 4, 0, 3, 1), (F.timDom_state, 4, 0, 3, 2), (F.timRate_driving, 4, 0, 0, 3), (F.timRate_synchronised, 4, 0, 0, 1)]), 3, 7, 2000, 5, -600000000, by decide +kernel⟩

theorem witness_NetworkTimeComplete_5 :
    ∃ (s : State) (d : Nat), (d < 4 ∧ (s.domState d = tdListening ∨ s.domState d = tdLocked) ∧ s.drives d = false) :=
  ⟨(st [(F.timDom_state, 4, 0, 3, 2)]), 3, by decide +kernel⟩

theorem witness_NetworkTimeComplete_6 :
    ∃ (s : State) (d : Nat) (k : Nat), (d < 4 ∧ s.domState d = tdLocked ∧ s.drives d = true ∧ k < 4 ∧ k ≠ d ∧ s.domState k = tdLocked) ∧ ((List.range 4).all (fun j => j == d || j == k || s.domState j != tdLocked || s.fget F.timDom_priority 4 0 k < s.fget F.timDom_priority 4 0 j) = true) :=
  ⟨(st [(F.timDom_state, 4, 0, 0, 2), (F.timDom_state, 4, 0, 3, 2), (F.timRate_synchronised, 4, 0, 0, 1)]), 0, 3, by decide +kernel⟩

theorem witness_NetworkTimeComplete_7 :
    ∃ (s : State) (who : Initiator), (who.reachesRegisters = true) :=
  ⟨({ State.reset with devFine := 2359296000000000000 }), (.hostFn 0), by decide +kernel⟩

theorem witness_CameraLanesComplete_1 :
    ∃ (s : State) (who : Initiator) (die : Nat) (lane : Nat) (on : Bool), (netRight who = true ∧ isCamLane die lane = true ∧ s.fon F.ulkLane_enable die 0 lane ≠ on) :=
  ⟨State.reset, steward, 7, 15, true, by decide +kernel⟩

theorem witness_CameraLanesComplete_2 :
    ∃ (s : State) (who : Initiator) (die : Nat) (lane : Nat) (on : Bool), (netRight who = true ∧ isSendLane die lane = true ∧ s.fon F.ulkLane_enable die 0 lane ≠ on) :=
  ⟨(st [(F.dspCfg_two_lanes, 5, 2, 0, 1)]), steward, 6, 21, true, by decide +kernel⟩

theorem witness_CameraLanesComplete_3 :
    ∃ (s : State) (die : Nat) (lane : Nat), (s.islandFrozen die 1 = false) ∧ (isCamLane die lane = true ∧ s.fon F.ulkLane_enable die 0 lane = true ∧ s.laneState die lane = ulDark) :=
  ⟨(wLane 0 {}), 7, 15, by decide +kernel⟩

theorem witness_CameraLanesComplete_4 :
    ∃ (s : State) (die : Nat) (lane : Nat), (s.islandFrozen die 1 = false) ∧ (isCamLane die lane = true ∧ s.fon F.ulkLane_enable die 0 lane = true ∧ s.laneState die lane = ulLocking) :=
  ⟨(wLane 1 {}), 7, 15, by decide +kernel⟩

theorem witness_CameraLanesComplete_5 :
    ∃ (s : State) (die : Nat) (lane : Nat), (s.islandFrozen die 1 = false) ∧ (isCamLane die lane = true ∧ s.fon F.ulkLane_enable die 0 lane = true ∧ s.laneState die lane = ulAligning) :=
  ⟨(withFields (wLane 2 {}) [(F.ippSstat_state, 7, 0, 15, 2)]), 7, 15, by decide +kernel⟩

theorem witness_CameraLanesComplete_6 :
    ∃ (s : State) (die : Nat) (lane : Nat), (isCamLane die lane = true ∧ s.laneState die lane = ulUp ∧ (s.ulkLane die lane).isOpen = false) :=
  ⟨(wLane 3 {}), 7, 15, by decide +kernel⟩

theorem witness_CameraLanesComplete_7 :
    ∃ (s : State) (die : Nat) (lane : Nat) (body : List Byte), (s.laneTakes die lane = true ∧ (s.ulkLane die lane).isOpen = false ∧ packetGood body = true) :=
  ⟨(wLane 3 {}), 7, 15, (wPacket 0 0 [16, 0, 2, 0, 0, 0, 0, 0]), by decide +kernel⟩

theorem witness_CameraLanesComplete_8 :
    ∃ (s : State) (die : Nat) (lane : Nat) (body : List Byte), (s.laneTakes die lane = true ∧ (s.ulkLane die lane).isOpen = false ∧ packetGood body = false) ∧ ((s.ulkLane die lane).crcTime = none) :=
  ⟨(wLane 3 {}), 7, 15, ([1, 2, 3]), by decide +kernel⟩

theorem witness_CameraLanesComplete_9 :
    ∃ (s : State) (die : Nat) (lane : Nat) (body : List Byte) (x : UlkLane) (n : Nat), (s.laneTakes die lane = true ∧ x = s.ulkLane die lane ∧ x.isOpen = true ∧ packetGood body = true) ∧ (n = leAt body 4 2 ∧ n = x.nextLine ∧ n + 1 < x.height ∧ leAt body 1 1 = 16) :=
  ⟨(wLane 3 wPicture), 7, 15, (wPacket 16 0 [1, 2, 3, 4]), wPicture, 0, by decide +kernel⟩

theorem witness_CameraLanesComplete_10 :
    ∃ (s : State) (die : Nat) (lane : Nat) (body : List Byte) (x : UlkLane) (n : Nat), (s.laneTakes die lane = true ∧ x = s.ulkLane die lane ∧ x.isOpen = true ∧ packetGood body = true ∧ x.crcTime = none) ∧ (n = leAt body 4 2 ∧ x.nextLine < n ∧ n + 1 < x.height ∧ leAt body 1 1 = 16) :=
  ⟨(wLane 3 { wPicture with height := 3 }), 7, 15, (wPacket 16 1 [1, 2, 3, 4]), ({ wPicture with height := 3 }), 1, by decide +kernel⟩

theorem witness_CameraLanesComplete_11 :
    ∃ (s : State) (die : Nat) (lane : Nat) (body : List Byte) (x : UlkLane), (s.laneTakes die lane = true ∧ x = s.ulkLane die lane ∧ x.isOpen = true ∧ packetGood body = true) ∧ (x.nextLine = x.height) :=
  ⟨(wLane 3 { wPicture with nextLine := 2, lines := [(0, [1]), (1, [2])] }), 7, 15, (wPacket 16 0 [1, 2, 3, 4]), ({ wPicture with nextLine := 2, lines := [(0, [1]), (1, [2])] }), by decide +kernel⟩

theorem witness_GraphicsAndDisplayComplete_1 :
    ∃ (s : State) (who : Initiator) (c : Nat) (tiles : List Nat) (events : List ShadeEvent) (u : State), (gfxRight who = true ∧ s.gfxState c = gcRunning ∧ (who = .hardware → s.gfxYields c = true)) ∧ (u = tiles.foldl (State.shadeTile · c events) (s.setGfxState c gcPreempted)) :=
  ⟨(wPass [(F.gfxCtx_state, 5, 0, 14, 1)]), .hardware, 15, [0], ([.ends 0]), (([0]).foldl (State.shadeTile · (15) ([.ends 0])) ((wPass [(F.gfxCtx_state, 5, 0, 14, 1)]).setGfxState (15) gcPreempted)), ⟨by decide +kernel, rfl⟩⟩

theorem witness_GraphicsAndDisplayComplete_2 :
    ∃ (s : State) (who : Initiator) (c : Nat), (gfxRight who = true) :=
  ⟨(wPass []), steward, 15, by decide +kernel⟩

theorem witness_GraphicsAndDisplayComplete_3 :
    ∃ (s : State) (who : Initiator) (c : Nat) (draw : Option Draw), (gfxRight who = true ∧ (s.gfxState c = gcPreempted ∨ s.gfxState c = gcIdle)) :=
  ⟨({ st [(F.gfxCtx_state, 5, 0, 15, 2)] with periods := 7 }), steward, 15, (some ⟨wRender, [[⟨0, 0, 5, 0x11223344, false⟩]], 3⟩), by decide +kernel⟩

theorem witness_GraphicsAndDisplayComplete_4 :
    ∃ (s : State) (who : Initiator) (c : Nat) (draw : Option Draw), (gfxRight who = false) :=
  ⟨State.reset, (.control 0), 15, none, by decide +kernel⟩

theorem witness_GraphicsAndDisplayComplete_5 :
    ∃ (s : State) (c : Nat), (s.logicFrozen 5 = false) ∧ (c < 16 ∧ s.gfxState c = gcRunning ∧ (s.gfxCtx c).since + 19200 ≤ s.periods) :=
  ⟨({ st [(F.gfxCtx_state, 5, 0, 15, 1)] with periods := 19200 }), 15, by decide +kernel⟩

theorem witness_GraphicsAndDisplayComplete_6 :
    ∃ (s : State) (c : Nat) (events : List ShadeEvent) (rest : List (List Fragment)) (u : State), (s.logicFrozen 5 = false) ∧ (c < 16 ∧ s.gfxState c = gcRunning ∧ (s.gfxCtx c).pass ≠ none ∧ s.poolAllowance c ≤ (s.gfxCtx c).chunks) ∧ (u = ((s.fadd F.gfxCounts_flushes 5 0 0 1).raiseRec (s.gfxRec E.gfxFlush c)).storePass c events) :=
  ⟨(wPass []), 15, ([.ends 0]), ([[⟨1, 0, 5, 9, false⟩]]), ((((wPass []).fadd F.gfxCounts_flushes 5 0 0 1).raiseRec ((wPass []).gfxRec E.gfxFlush (15))).storePass (15) ([.ends 0])), ⟨by decide +kernel, by decide +kernel, rfl⟩⟩

theorem witness_GraphicsAndDisplayComplete_7 :
    ∃ (s : State) (p : Nat) (n : Nat), (s.pipeOn p = true ∧ s.frameAhead p (s.dsp F.dspTiming3_comp_lead p) = some n ∧ (s.pipe p).composed ≤ n) ∧ ((s.gfxCtx 0).pass = none) :=
  ⟨(wPipe {}), 5, 0, by decide +kernel⟩

theorem witness_GraphicsAndDisplayComplete_8 :
    ∃ (s : State) (p : Nat) (n : Nat) (d : Draw), (s.pipeOn p = true ∧ s.frameAhead p (s.dsp F.dspTiming3_comp_lead p) = some n ∧ (s.pipe p).composed ≤ n) :=
  ⟨(wPipe {}), 5, 0, (⟨wRender, [[⟨0, 0, 5, 0x11223344, false⟩]], 3⟩), by decide +kernel⟩

theorem witness_GraphicsAndDisplayComplete_9 :
    ∃ (s : State) (p : Nat) (x : DspPipe) (ls : List (Nat × Nat)) (n : Nat), (s.pipeOn p = true ∧ x = s.pipe p ∧ x.flips = [] ∧ s.frameAhead p (s.dsp F.dspTiming2_latch_lead p) = some n ∧ x.next ≤ n) ∧ (ls = (List.range 7).map (fun l => (s.reg (fldAddr F.dspLayer_enable 5 p l), s.reg (fldAddr F.dspLayerBase_base 5 p l)))) ∧ (ls.all (fun c => F.dspLayer_enable.of c.1 == 0 || F.dspLayer_per_frame.of c.1 == 0) = true) :=
  ⟨({ withFields (wPipe { next := 9 }) [(F.dspTiming2_refresh_period, 5, 5, 0, 100)] with periods := 999 }), 5, ({ next := 9 }), ((List.range 6).map (fun _ => (0, 0)) ++ [((wPipe {}).reg (fldAddr F.dspLayer_enable 5 5 6), (wPipe {}).reg (fldAddr F.dspLayerBase_base 5 5 6))]), 9, by decide +kernel⟩

theorem witness_GraphicsAndDisplayComplete_10 :
    ∃ (s : State) (p : Nat) (layer : Nat) (base : Nat) (vs : List Nat) (n : Nat), (s.pipeOn p = true ∧ layer < 7 ∧ (s.pipe p).flips = [(layer, base, false, vs)]) ∧ (s.frameAhead p (s.dsp F.dspTiming2_latch_lead p) = some n ∧ (s.pipe p).next ≤ n) ∧ ((List.range 7).all (fun l => l == layer || s.fget F.dspLayer_enable 5 p l == 0) = true) :=
  ⟨(withFields (wPipe { flips := [(6, 0x500000, false, [])] }) [(F.dspLayer_per_frame, 5, 5, 6, 1)]), 5, 6, 0x500000, [], 0, by decide +kernel⟩

theorem witness_GraphicsAndDisplayComplete_11 :
    ∃ (s : State) (p : Nat) (layer : Nat) (n : Nat), (s.pipeOn p = true ∧ layer < 7 ∧ (s.pipe p).flips = []) ∧ (s.frameAhead p (s.dsp F.dspTiming2_latch_lead p) = some n ∧ (s.pipe p).next ≤ n) ∧ (s.fon F.dspLayer_enable 5 p layer = true ∧ s.fon F.dspLayer_per_frame 5 p layer = true) :=
  ⟨(withFields (wPipe {}) [(F.dspLayer_per_frame, 5, 5, 6, 1)]), 5, 6, 0, by decide +kernel⟩

theorem witness_GraphicsAndDisplayComplete_12 :
    ∃ (s : State) (p : Nat) (line : Nat) (rows : List (Nat × Nat × Nat)) (v : State), (s.pipeOn p = true ∧ 0 < line ∧ line + 1 < s.dsp F.dspTiming_active_h p ∧ s.lineStart p (s.pipe p).scan.number line ≤ s.periods) ∧ (rows = s.lineRows p line ∧ v = (s.readRows rows).1 ∧ rows.all (fun r => !v.rowTorn p r) = true) :=
  ⟨(wPipe {}), 5, 6, [], (((wPipe {}).readRows ([])).1), by decide +kernel⟩

theorem witness_GraphicsAndDisplayComplete_13 :
    ∃ (s : State) (p : Nat) (x : DspPipe) (u : State) (v : State) (rows : List (Nat × Nat × Nat)), (s.pipeOn p = true ∧ 1 < s.dsp F.dspTiming_active_h p ∧ x = s.pipe p) ∧ (s.lineStart p (x.latched.getD x.scan).number 0 ≤ s.periods) ∧ (u = s.setPipe p { x with scan := x.latched.getD x.scan, latched := none } ∧ rows = u.lineRows p 0) ∧ (v = (u.readRows rows).1 ∧ rows.all (fun r => !v.rowTorn p r) = true) :=
  ⟨(wPipe { latched := some { number := 3 } }), 5, ({ latched := some { number := 3 } }), (wPipe { scan := { number := 3 } }), (((wPipe { scan := { number := 3 } }).readRows []).1), [], by decide +kernel⟩

theorem witness_GraphicsAndDisplayComplete_14 :
    ∃ (s : State) (p : Nat) (line : Nat) (n : Nat), (s.pipeOn p = true ∧ 0 < line ∧ line + 1 = s.dsp F.dspTiming_active_h p ∧ s.lineStart p (s.pipe p).scan.number line ≤ s.periods) ∧ (s.pipeSends p = true ∧ n = s.lineBytes p ∧ 0 < n ∧ n ≤ 4096) :=
  ⟨(wPipe {}), 5, 7, 48, by decide +kernel⟩

theorem witness_GraphicsAndDisplayComplete_15 :
    ∃ (s : State) (p : Nat) (x : DspPipe) (f : DspFrame), (s.pipeOn p = true ∧ x = s.pipe p) ∧ (f = { x.scan with valid := Nat.land x.scan.valid (s.layerValid p x.scan.layers), flags := if s.fon F.safStatus_safe_state 4 0 0 = true then setBit x.scan.flags 3 true else x.scan.flags }) ∧ (f ≠ x.scan ∧ s.pipeSends p = true) :=
  ⟨(wPipe { scan := { valid := 64 } }), 5, ({ scan := { valid := 64 } }), {}, by decide +kernel⟩

theorem witness_GraphicsAndDisplayComplete_16 :
    ∃ (s : State) (who : Initiator) (p : Nat) (value : Word) (layer : Nat), ((gfxRight who = true ∨ who = .graphics 0 ∧ (s.gfxCtx 0).pass = none) ∧ layer = s.dsp F.dspLayerSel_layer p) :=
  ⟨(wPipe {}), (.graphics 0), 5, 0x3000000500000#64, 6, by decide +kernel⟩

theorem witness_GraphicsAndDisplayComplete_17 :
    ∃ (s : State) (p : Nat) (value : Word) (layer : Nat), ((s.gfxCtx 0).pass ≠ none ∧ layer = s.dsp F.dspLayerSel_layer p) :=
  ⟨({ wPipe {} with display := { contexts := [(0, { pass := some wRender, bins := [[⟨0, 0, 5, 9, false⟩]] })], pipes := [(5, {})] } }), 5, 0x3000000500000#64, 6, by decide +kernel⟩

theorem witness_TelltalesAndSessionsComplete_1 :
    ∃ (s : State) (who : Initiator) (n : Nat) (v : Nat) (r : TtRegion), (s.display.regions[n]? = some r ∧ v < r.crcs.length) ∧ ((match who with | .sentinel _ => true | .hardware => true | w => w.isSteward && r.qmWritable) = true) :=
  ⟨(wTelltale wRegion), (.sentinel 3), 0, 1, wRegion, by decide +kernel⟩

theorem witness_TelltalesAndSessionsComplete_2 :
    ∃ (s : State) (who : Initiator) (n : Nat) (v : Nat) (r : TtRegion), (s.display.regions[n]? = some r ∧ r.crcs.length ≤ v) ∧ ((match who with | .sentinel _ => true | .hardware => true | w => w.isSteward && r.qmWritable) = true) :=
  ⟨(wTelltale wRegion), (.sentinel 3), 0, 2, wRegion, by decide +kernel⟩

theorem witness_TelltalesAndSessionsComplete_3 :
    ∃ (s : State) (n : Nat) (r : TtRegion) (at_ : Nat), (s.logicFrozen 5 = false) ∧ (s.display.regions[n]? = some r ∧ r.written = some at_ ∧ at_ + 7680 ≤ s.periods ∧ r.rendering = false ∧ s.scannedRegion r = true) :=
  ⟨({ withFields (wTelltale { wRegion with written := some 0 }) [(F.dspTiming_active_h, 5, 5, 0, 1)] with periods := 7680 }), 0, ({ wRegion with written := some 0 }), 0, by decide +kernel⟩

theorem witness_TelltalesAndSessionsComplete_4 :
    ∃ (s : State) (n : Nat) (r : TtRegion) (wrong : List (Nat × Nat)), (s.logicFrozen 5 = false) ∧ (s.display.regions[n]? = some r ∧ r.rendering = true) :=
  ⟨(wTelltale { wRegion with rendering := true }), 0, ({ wRegion with rendering := true }), [], by decide +kernel⟩

theorem witness_TelltalesAndSessionsComplete_5 :
    ∃ (s : State) (n : Nat) (r : TtRegion) (crc : Nat) (wrong : List (Nat × Nat)), (s.display.regions[n]? = some r ∧ n < 64 ∧ r.crcs[r.checked]? = some crc ∧ s.regionCrc r [] = crc ∧ s.regionCrc r wrong = crc) :=
  ⟨(withFields (wTelltale wRegion) [(F.gfxTtBad_bad, 5, 0, 0, 1)]), 0, wRegion, 0x48674BC7, [], by decide +kernel⟩

theorem witness_TelltalesAndSessionsComplete_6 :
    ∃ (s : State) (n : Nat) (r : TtRegion) (crc : Nat) (badWord : Bool) (wrong : List (Nat × Nat)), (s.display.regions[n]? = some r ∧ n < 64 ∧ r.crcs[r.checked]? = some crc) ∧ (badWord = true ∨ s.regionCrc r [] ≠ crc ∨ s.regionCrc r wrong ≠ crc) ∧ (s.outputs = 1 ∧ s.outKind 0 = 2 ∧ s.outIndex 0 = r.group ∧ s.live 0 = outValid ∧ s.hasFallback 0 = false) :=
  ⟨(wTelltale wRegion), 0, wRegion, 0x48674BC7, false, ([(0, 1)]), by decide +kernel⟩

theorem witness_TelltalesAndSessionsComplete_7 :
    ∃ (s : State) (who : Initiator) (n : Nat) (value : Word), (gfxRight who = true ∧ n < 8 ∧ s.medState n = msClosed) ∧ (s.fon F.medStatus_parked 5 0 0 = false ∧ s.fon F.medStatus_held 5 0 0 = false) :=
  ⟨State.reset, steward, 7, 0x1F8#64, by decide +kernel⟩

theorem witness_TelltalesAndSessionsComplete_8 :
    ∃ (s : State) (who : Initiator) (n : Nat) (value : Word), (gfxRight who = true ∧ n < 8 ∧ s.medState n = msClosed) ∧ (s.fon F.medStatus_parked 5 0 0 = true ∨ s.fon F.medStatus_held 5 0 0 = true) :=
  ⟨(st [(F.medStatus_held, 5, 0, 0, 1)]), steward, 7, 0x1F8#64, by decide +kernel⟩

theorem witness_TelltalesAndSessionsComplete_9 :
    ∃ (s : State) (who : Initiator) (n : Nat), (gfxRight who = true ∧ n < 8) :=
  ⟨(st [(F.medSession_state, 5, 0, 7, 1)]), steward, 7, by decide +kernel⟩

theorem witness_RegisterAccessesComplete_1 :
    ∃ (s : State) (who : Initiator) (addr : Nat) (size : Nat) (value : Word) (x : RegSite), (s.hears who addr = true) ∧ (s.reachesReg who addr size x = true ∧ x.desc.kind = .plain ∧ followedUp x = false) ∧ (s.mayWrite who x = true ∧ s.openFields who x = x.desc.fields) ∧ (s.writeBlocked x (s.reg x.addr) (s.written x addr size value).1 = none) :=
  ⟨State.reset, (.control 3), (fldPlace F.schCtrl_fw_attached 4 0), 8, 1#64, ((State.reset.site (fldPlace F.schCtrl_fw_attached 4 0)).getD ⟨0, ⟨[], 0, 0, 0, 0, 0, .nobody, none, .plain, []⟩, 0, 0, 0, 0⟩), by decide +kernel⟩

theorem witness_RegisterAccessesComplete_2 :
    ∃ (s : State) (who : Initiator) (addr : Nat) (size : Nat) (value : Word) (x : RegSite), (s.hears who addr = true) ∧ (s.reachesReg who addr size x = true ∧ x.desc.kind = .plain) ∧ (s.mayWrite who x = false) :=
  ⟨State.reset, steward, (fldPlace F.schCtrl_fw_attached 4 0), 8, 1#64, ((State.reset.site (fldPlace F.schCtrl_fw_attached 4 0)).getD ⟨0, ⟨[], 0, 0, 0, 0, 0, .nobody, none, .plain, []⟩, 0, 0, 0, 0⟩), by decide +kernel⟩

theorem witness_RegisterAccessesComplete_3 :
    ∃ (s : State) (who : Initiator) (addr : Nat) (size : Nat) (value : Word), (s.hears who addr = true) ∧ (who.reachesRegisters = true ∧ secBlocked who addr = false ∧ widthOk addr size = false) :=
  ⟨State.reset, steward, (fldPlace F.schCtrl_fw_attached 4 0), 2, 1#64, by decide +kernel⟩

theorem witness_RegisterAccessesComplete_4 :
    ∃ (s : State) (who : Initiator) (addr : Nat) (size : Nat) (value : Word), (s.hears who addr = true) ∧ (who.reachesRegisters = true ∧ secBlocked who addr = false ∧ widthOk addr size = true) ∧ (doorbellAt addr = none ∧ inIommu addr = false ∧ ringWindowAt addr = none ∧ onlyOnS addr = false) ∧ (s.site addr = none ∧ s.publicAt addr = none) :=
  ⟨State.reset, steward, (fldPlace F.schCtrl_fw_attached 4 0 + 0x7000), 8, 1#64, by decide +kernel⟩

theorem witness_RegisterAccessesComplete_5 :
    ∃ (s : State) (who : Initiator) (q : Nat) (value : Word), (s.hears who (doorbellAddr q) = true) ∧ (who.reachesRegisters = true ∧ q < 65536 ∧ s.headQueue q = false) :=
  ⟨State.reset, steward, 9, 1#64, by decide +kernel⟩

theorem witness_RegisterAccessesComplete_6 :
    ∃ (s : State) (who : Initiator) (te : Nat) (x : RegSite), (s.hears who (fldPlace F.teCtrl_start (te / 16) (te % 16)) = true) ∧ (s.reachesReg who (fldPlace F.teCtrl_start (te / 16) (te % 16)) 8 x = true ∧ x.desc.off = 0x100008) ∧ (te < 64 ∧ x.die = te / 16 ∧ x.i = te % 16 ∧ x.desc.kind = .own) :=
  ⟨State.reset, (.control 3), 63, ((State.reset.site (fldPlace F.teCtrl_start 3 15)).getD ⟨0, ⟨[], 0, 0, 0, 0, 0, .nobody, none, .plain, []⟩, 0, 0, 0, 0⟩), by decide +kernel⟩

theorem witness_RegisterAccessesComplete_7 :
    ∃ (s : State) (who : Initiator) (addr : Nat) (size : Nat) (x : RegSite), (s.hears who addr = true) ∧ (s.reachesReg who addr size x = true ∧ x.desc.kind = .plain ∧ s.liveRead who x addr size = none ∧ x.desc.off ≠ 0x8) :=
  ⟨(State.reset.setReg (fldPlace F.teConvEvents_events 3 15) 7), steward, (fldPlace F.teConvEvents_events 3 15), 4, (((State.reset.setReg (fldPlace F.teConvEvents_events 3 15) 7).site (fldPlace F.teConvEvents_events 3 15)).getD ⟨0, ⟨[], 0, 0, 0, 0, 0, .nobody, none, .plain, []⟩, 0, 0, 0, 0⟩), by decide +kernel⟩

theorem witness_RegisterAccessesComplete_8 :
    ∃ (s : State) (who : Initiator) (addr : Nat) (size : Nat), (s.hears who addr = true) ∧ (who.reachesRegisters = false ∧ s.publicAt addr = none ∧ (match who with | .engine _ => false | _ => true) = true) :=
  ⟨State.reset, (.ring 63), (fldPlace F.schCtrl_fw_attached 4 0), 8, by decide +kernel⟩

theorem witness_RegisterAccessesComplete_9 :
    ∃ (s : State) (who : Initiator) (addr : Nat) (size : Nat) (value : Word) (x : RegSite), (s.hears who addr = true) ∧ (s.reachesReg who addr size x = true ∧ x.desc.kind = .selector ∧ x.desc.off ≠ 0x200100) ∧ (s.mayWrite who x = true ∧ s.openFields who x = x.desc.fields) ∧ (s.writeBlocked x (s.reg x.addr) (s.written x addr size value).1 = none) :=
  ⟨State.reset, (.control 3), (fldPlace F.schJsel_ctx 4 0), 8, 0xFFF#64, ((State.reset.site (fldPlace F.schJsel_ctx 4 0)).getD ⟨0, ⟨[], 0, 0, 0, 0, 0, .nobody, none, .plain, []⟩, 0, 0, 0, 0⟩), by decide +kernel⟩

theorem witness_RegisterAccessesComplete_10 :
    ∃ (s : State) (who : Initiator) (vi : Nat) (value : Word), (s.hears who (fldPlace F.viSel_vi 4 0) = true) ∧ (s.viWriter who = true ∧ vi = bits value.toNat 0 6 ∧ s.vis.stale.contains vi = true) :=
  ⟨({ State.reset with vis := { stale := [63] } }), steward, 63, 63#64, by decide +kernel⟩

theorem witness_MemoryRequestsComplete_1 :
    ∃ (s : State) (who : Initiator) (a : Nat) (n : Nat), (s.hears who a = true) ∧ (s.memoryOpen who false a n = true ∧ s.viOf who = none ∧ s.jobOf who = none) :=
  ⟨((lp []).putAt 0x100000 [1, 2, 3]), (.control 0), 0x100000, 3, by decide +kernel⟩

theorem witness_MemoryRequestsComplete_2 :
    ∃ (s : State) (who : Initiator) (a : Nat) (bs : List Byte), (s.hears who a = true) ∧ (s.canonical) ∧ (s.memoryOpen who true a bs.length = true ∧ s.viOf who = none ∧ s.jobOf who = none) :=
  ⟨((lp []).putAt 0x100000 [1, 2, 3]), (.control 0), 0x100001, [7], by decide +kernel⟩

theorem witness_MemoryRequestsComplete_3 :
    ∃ (s : State) (who : Initiator) (a : Nat) (n : Nat) (c : ErrCode), (s.hears who a = true) ∧ (n ≠ 0 ∧ s.claimed a n none = false ∧ s.pathUp who.die (s.dieOf a) = true ∧ placeOf a ≠ .registers) ∧ (s.checkAccess who false a n = .refuse c ∧ s.publicAt a = none ∧ (match who with | .engine _ => false | _ => true) = true) :=
  ⟨(st [(F.secWmStackN_mark, 4, 0, 0, 1)]), (.control 0), 64, 8, E.secWorld, by decide +kernel⟩

theorem witness_MemoryRequestsComplete_4 :
    ∃ (s : State) (who : Initiator) (a : Nat) (n : Nat), (placeOf a = .registers ∧ n ≠ 0 ∧ s.claimed a n none = false ∧ s.pathUp who.die (s.dieOf a) = true) :=
  ⟨State.reset, (.control 0), (fldPlace F.schCtrl_fw_attached 4 0), 8, by decide +kernel⟩

theorem witness_MemoryRequestsComplete_5 :
    ∃ (s : State) (who : Initiator) (a : Nat) (n : Nat), (s.hears who a = true) ∧ (n ≠ 0 ∧ s.claimed a n none = true) :=
  ⟨({ State.reset with bridge := { locks := [⟨1, 0, 0⟩] } }), (.control 0), 60, 8, by decide +kernel⟩

theorem witness_MemoryRequestsComplete_6 :
    ∃ (s : State) (who : Initiator) (a : Nat) (code : Nat), (s.posts who a = true ∧ s.viOf who = none) :=
  ⟨State.reset, (.core 0 63), 0x100000, 0x0101, by decide +kernel⟩

theorem witness_MemoryRequestsComplete_7 :
    ∃ (s : State) (who : Initiator), (who.reachesRegisters = true) :=
  ⟨({ State.reset with bridge := { streams := [(1 + 0 * 256, { next := 5, failed := 2, first := some 3 })] } }), (.core 0 63), by decide +kernel⟩

theorem witness_HostPortRequestsComplete_1 :
    ∃ (s : State) (req : HostRequest), (s.hostListens req.link = true ∧ req.op = 1) :=
  ⟨(wHost []), (wRequest false 1 []), by decide +kernel⟩

theorem witness_HostPortRequestsComplete_2 :
    ∃ (s : State) (req : HostRequest) (who : Initiator) (a : Nat), (s.hostNames req who a = true ∧ req.op = 0 ∧ req.write = false ∧ req.len ≠ 0) ∧ (s.claimed a req.len (some req.link) = false ∧ s.pathUp 7 (s.dieOf a) = true) :=
  ⟨((wHost []).putAt 0x40 [9]), (wRequest false 0 []), (.hostFn 2), 0x40, by decide +kernel⟩

theorem witness_HostPortRequestsComplete_3 :
    ∃ (s : State) (req : HostRequest) (who : Initiator) (a : Nat), (s.canonical) ∧ (s.hostNames req who a = true ∧ req.op = 0 ∧ req.write = true ∧ (who = .hostFn 0 ∨ who = .recovery)) ∧ (placeOf a = .registers ∧ req.data.length = 8) ∧ (s.claimed a 8 (some req.link) = false ∧ s.pathUp 7 (s.dieOf a) = true) :=
  ⟨(wHost []), ({ wRequest true 0 (leBytes 5 8) with function := 0, bar := 0, addr := 0x100 }), (.hostFn 0), (regBase 4 + 0x200100), by decide +kernel⟩

theorem witness_HostPortRequestsComplete_4 :
    ∃ (s : State) (req : HostRequest) (who : Initiator), (s.hostListens req.link = true ∧ s.hostTarget req = .fault who ∧ req.op = 0 ∧ req.write = false) :=
  ⟨(wHost []), ({ wRequest false 0 [] with bar := 3 }), (.hostFn 2), by decide +kernel⟩

theorem witness_HostPortRequestsComplete_5 :
    ∃ (s : State) (req : HostRequest) (who : Initiator) (a : Nat) (n : Nat), (s.canonical) ∧ (n = (if req.op = 2 then req.data.length / 2 else req.data.length) ∧ req.op ≤ 2) ∧ (s.atomicOpen req who a n = true ∧ s.poisoned a n = false ∧ s.jobOf who = none) :=
  ⟨((wHost []).putAt 0x40 [255, 255, 255, 255]), (wRequest true 0 [1, 0, 0, 0]), (.hostFn 2), 0x40, 4, by decide +kernel⟩

theorem witness_HostPortRequestsComplete_6 :
    ∃ (s : State) (who : Initiator) (h_ : Nat) (g : Nat) (a : Nat) (op : Nat) (n : Nat) (v : Word), (who = .core h_ g ∧ placeOf a = .outbound ∧ op < 9 ∧ (n = 4 ∨ n = 8) ∧ a % n = 0) ∧ (s.checkAccess who true a n = .pass ∧ s.bridge.locks.length < 64 ∧ s.outUp a = true) ∧ (s.fon F.hpCfg_atomic_native 7 0 0 = false ∨ 2 ≤ op ∨ s.bridge.atomics.contains (s.outLink a) = false) :=
  ⟨(wHost []), (.core 0 63), 0, 63, 0x100000000008, 8, 8, 5#64, by decide +kernel⟩

theorem witness_HostPortRequestsComplete_7 :
    ∃ (s : State) (who : Initiator) (h_ : Nat) (g : Nat) (a : Nat) (n : Nat) (v : Word), (who = .core h_ g ∧ placeOf a = .outbound ∧ (n = 4 ∨ n = 8) ∧ a % n = 0) ∧ (s.checkAccess who true a n = .pass) :=
  ⟨(wHost []), (.core 0 63), 0, 63, 0x100000000008, 8, 5#64, by decide +kernel⟩

theorem witness_HostPortRequestsComplete_8 :
    ∃ (s : State) (who : Initiator) (h_ : Nat) (g : Nat) (a : Nat) (op : Nat) (n : Nat) (v : Word), (who = .core h_ g ∧ placeOf a = .outbound ∧ op ≤ 10 ∧ (n = 4 ∨ n = 8) ∧ a % n = 0) ∧ (s.hostMode ≠ 1 ∧ s.bridge.lastRecord = none) :=
  ⟨(wHost []), (.core 0 63), 0, 63, 0x100000000008, 10, 8, 5#64, by decide +kernel⟩

theorem witness_HostPortRequestsComplete_9 :
    ∃ (s : State) (seq : Nat) (w : HeldWork) (n : Nat) (t0 : Nat), (storeFind s.bridge.backoffs seq = some (w, n, t0) ∧ t0 + 20 ≤ s.periods) :=
  ⟨({ State.reset with bridge := { backoffs := [(3, .amo steward 0x100000000008 10 8 5, 1, 0)] }, periods := 20 }), 3, (.amo steward 0x100000000008 10 8 5), 1, 0, by decide +kernel⟩

theorem witness_HostPortRequestsComplete_10 :
    ∃ (s : State) (seq : Nat) (w : HeldWork) (t0 : Nat), (storeFind s.bridge.backoffs seq = some (w, 15, t0) ∧ t0 + 20 ≤ s.periods) :=
  ⟨({ State.reset with bridge := { backoffs := [(3, .amo steward 0x100000000008 10 8 5, 15, 0)] }, periods := 20 }), 3, (.amo steward 0x100000000008 10 8 5), 0, by decide +kernel⟩

theorem witness_HostPortRequestsComplete_11 :
    ∃ (s : State) (seq : Nat) (w : HeldWork) (n : Nat) (t0 : Nat), (storeFind s.bridge.backoffs seq = some (w, n, t0) ∧ t0 + 20 ≤ s.periods ∧ n < 15) ∧ (s.bridge.lastRecord = some s.periods) :=
  ⟨({ State.reset with bridge := { lastRecord := some 20, backoffs := [(3, .amo steward 0x100000000008 10 8 5, 1, 0)] }, periods := 20 }), 3, (.amo steward 0x100000000008 10 8 5), 1, 0, by decide +kernel⟩

theorem witness_HostPortRequestsComplete_12 :
    ∃ (s : State) (req : HostRequest) (who : Initiator) (a : Nat) (u : State), (s.hostNames req who a = true ∧ s.bridge.locks.any (fun k => k.link == req.link) = false) ∧ (s.claimed a (max req.len 1) none = false ∧ s.bridge.locks.length < 64) ∧ (u = s.requestAt { req with write := false, op := 0 } ∧ u.resp.error = false ∧ u.bridge.locks = s.bridge.locks) :=
  ⟨(wHost []), (wRequest false 0 []), (.hostFn 2), 0x40, ((wHost []).requestAt (wRequest false 0 [])), by decide +kernel⟩

theorem witness_HostPortRequestsComplete_13 :
    ∃ (s : State) (link : Nat), (s.bridge.locks.any (fun k => k.link == link) = true) :=
  ⟨({ State.reset with bridge := { locks := [⟨1, 0, 0⟩] } }), 0, by decide +kernel⟩

theorem witness_HostPortRequestsComplete_14 :
    ∃ (s : State) (line : Nat) (k : LineLock), (s.bridge.locks.find? (fun k => k.line == line && k.start + 308 ≤ s.periods) = some k ∧ s.bridge.held = []) :=
  ⟨({ State.reset with periods := 308, bridge := { locks := [⟨1, 0, 0⟩] } }), 1, (⟨1, 0, 0⟩), by decide +kernel⟩

theorem witness_HostPortRequestsComplete_15 :
    ∃ (s : State) (link : Nat) (speed : Nat) (width : Nat) (atomics : Bool), (link = 0 ∧ s.hostMode = 2 ∧ s.phase < 6 ∧ 0 < speed ∧ speed ≤ s.fget F.hpCfg_max_speed 7 0 0 ∧ speed ≤ 5) ∧ (width = 1 ∨ width = 2 ∨ width = 4 ∨ width = 8) :=
  ⟨(wHost [(F.hpCfg_max_speed, 7, 0, 0, 5)]), 0, 5, 8, true, by decide +kernel⟩

theorem witness_HostPortRequestsComplete_16 :
    ∃ (s : State) (link : Nat), (link < 2 ∧ s.fon F.hpLinkN_dl_up 7 link 0 = true) ∧ (s.bridge.held.any HeldWork.outbound = false ∧ s.bridge.backoffs = []) :=
  ⟨(wHost []), 0, by decide +kernel⟩

theorem witness_FabricAndBudgetsComplete_1 :
    ∃ (s : State) (die : Nat) (port : Nat), (die < 8 ∧ port < 4 ∧ s.portUp die port = true) :=
  ⟨State.reset, 7, 3, by decide +kernel⟩

theorem witness_FabricAndBudgetsComplete_2 :
    ∃ (s : State) (die : Nat) (port : Nat), (die < 8 ∧ port < 4 ∧ s.portUp die port = true) :=
  ⟨State.reset, 7, 3, by decide +kernel⟩

theorem witness_FabricAndBudgetsComplete_3 :
    ∃ (s : State) (die : Nat) (port : Nat), (die < 8 ∧ port < 4 ∧ s.portUp die port = true ∧ 16 ≤ storeGet 0 s.bridge.replays (die * 4 + port)) :=
  ⟨({ State.reset with bridge := { replays := [(31, 16)] } }), 7, 3, by decide +kernel⟩

theorem witness_FabricAndBudgetsComplete_4 :
    ∃ (s : State) (die : Nat) (port : Nat) (who : Initiator) (addr : Nat), (die < 8 ∧ port < 4 ∧ s.portUp die port = true ∧ 16 ≤ storeGet 0 s.bridge.replays (die * 4 + port)) ∧ (s.goesOver die (fabPeer die port) who addr = true ∧ (match who with | .engine _ => false | _ => true) = true) :=
  ⟨({ State.reset with bridge := { replays := [(31, 16)] } }), 7, 3, (.hostFn 2), 0x1000000000, by decide +kernel⟩

theorem witness_FabricAndBudgetsComplete_5 :
    ∃ (s : State) (vi : Nat), (s.fon F.viState_over_budget 4 0 vi = true ∧ storeGet 0 s.vis.obWaits vi + 3840 ≤ s.periods) ∧ ((s.viQueues vi).all (fun q => !(isCompletion q && s.fon F.schQcfg_msi_enable 4 0 q && (s.cq q).unsignalled != 0) || decide ((s.cq q).unsignalled < s.fget F.viCoalesce_count_max 4 0 (64 + vi))) = true) :=
  ⟨({ st [(F.viState_over_budget, 4, 0, 63, 1)] with periods := 3840 }), 63, by decide +kernel⟩

theorem witness_FabricAndBudgetsComplete_6 :
    ∃ (s : State) (vi : Nat) (q : Nat) (vec : Nat), (s.fon F.viState_over_budget 4 0 vi = true ∧ storeGet 0 s.vis.obWaits vi + 3840 ≤ s.periods ∧ s.qVi q = vi) ∧ ((s.viQueues vi).filter (fun q => isCompletion q && s.fon F.schQcfg_msi_enable 4 0 q && (s.cq q).unsignalled != 0) = [q]) ∧ (s.fget F.viCoalesce_count_max 4 0 (64 + vi) ≤ (s.cq q).unsignalled) ∧ (vec = s.fget F.schQcfg_msi_vector 4 0 q) ∧ (s.fget F.viCtx_vec_first 4 0 (64 + vi) ≤ vec ∧ vec < s.fget F.viCtx_vec_first 4 0 (64 + vi) + s.fget F.viCtx_vec_count 4 0 (64 + vi)) :=
  ⟨({ st [(F.viState_over_budget, 4, 0, 1, 1), (F.viQueuesA_cq_blocks, 4, 0, 65, 1), (F.schQcfg_msi_enable, 4, 0, 16384, 1), (F.schQbase_vi, 4, 0, 16384, 1), (F.viCtx_vec_count, 4, 0, 65, 1), (F.viMsi_file, 4, 0, 65, 7), (F.cfgCapsIo_host_mode, 4, 0, 0, 2), (F.viOwner_vf_enable, 4, 0, 65, 1)] with periods := 3840, sched := { cqs := [(16384, { unsignalled := 1 })] } }), 1, 16384, 0, by decide +kernel⟩

theorem witness_CommitRaisesTheFloor_1 :
    ∃ (s : State) (who : Initiator) (img : FwImage), (s.loaderRight who = true) ∧ (s.fw.running = some img ∧ s.fwSt ≠ fwHanding ∧ s.fwSt ≠ fwRolling ∧ s.flash.fwFloor ≤ img.version) :=
  ⟨({ st [(F.cfgFwStatus_state, 4, 0, 0, 1)] with fw := { running := some ⟨3, 1, 1, 1, 5, []⟩ } }), steward, (⟨3, 1, 1, 1, 5, []⟩), by decide +kernel⟩

theorem witness_CommitRaisesTheFloor_2 :
    ∃ (s : State) (who : Initiator) (img : FwImage), (s.loaderRight who = true) ∧ (s.fw.running = some img ∧ (s.fwSt = fwHanding ∨ s.fwSt = fwRolling ∨ img.version < s.flash.fwFloor)) :=
  ⟨({ st [(F.cfgFwStatus_state, 4, 0, 0, 1)] with fw := { running := some ⟨3, 1, 1, 1, 5, []⟩ }, flash := { fwFloor := 4 } }), steward, (⟨3, 1, 1, 1, 5, []⟩), by decide +kernel⟩

theorem witness_SaturatingArithmeticClamps_1 :
    ∃ (s : State) (seq : Nat) (w : Nat) (a : Int) (b : Int) (v : Int), (s.tahrRuns seq 1 w = true ∧ bits w 0 4 = 12 ∧ (s.tahrSeq seq).g.length = 16) ∧ (a = s32 ((s.tahrSeq seq).reg (wRa w)) ∧ b = s32 ((s.tahrSeq seq).reg (wRb w)) ∧ v = a + b) :=
  ⟨(wTahr 31 (tw 1 3 1 2 12) (tx 0x7FFFFFFF 1 0)), 31, (tw 1 3 1 2 12), (s32 0x7FFFFFFF), (s32 1), (s32 0x7FFFFFFF + s32 1), by decide +kernel⟩

theorem witness_SaturatingArithmeticClamps_2 :
    ∃ (s : State) (seq : Nat) (w : Nat) (a : Int) (b : Int) (v : Int), (s.tahrRuns seq 1 w = true ∧ bits w 0 4 = 13 ∧ (s.tahrSeq seq).g.length = 16) ∧ (a = s32 ((s.tahrSeq seq).reg (wRa w)) ∧ b = s32 ((s.tahrSeq seq).reg (wRb w)) ∧ v = a - b) :=
  ⟨(wTahr 31 (tw 1 3 1 2 13) (tx 0x80000000 1 0)), 31, (tw 1 3 1 2 13), (s32 0x80000000), (s32 1), (s32 0x80000000 - s32 1), by decide +kernel⟩

theorem witness_SaturatingArithmeticClamps_3 :
    ∃ (s : State) (seq : Nat) (w : Nat) (a : Int) (b : Int) (v : Int), (s.tahrRuns seq 1 w = true ∧ bits w 0 4 = 14 ∧ (s.tahrSeq seq).g.length = 16) ∧ (a = s32 ((s.tahrSeq seq).reg (wRa w)) ∧ b = s32 ((s.tahrSeq seq).reg (wRb w)) ∧ v = (a * b + 2 ^ 15) / 2 ^ 16) :=
  ⟨(wTahr 31 (tw 1 3 1 2 14) (tx 0x80000000 0x80000000 0)), 31, (tw 1 3 1 2 14), (s32 0x80000000), (s32 0x80000000), ((s32 0x80000000 * s32 0x80000000 + 2 ^ 15) / 2 ^ 16), by decide +kernel⟩

theorem witness_SaturatingArithmeticClamps_4 :
    ∃ (s : State) (seq : Nat) (w : Nat) (a : Int) (b : Int) (v : Int), (s.tahrRuns seq 1 w = true ∧ bits w 0 4 = 15 ∧ (s.tahrSeq seq).g.length = 16) ∧ (a = s32 ((s.tahrSeq seq).reg (wRa w)) ∧ b = s32 ((s.tahrSeq seq).reg (wRb w)) ∧ v = max a (-a)) :=
  ⟨(wTahr 31 (tw 1 3 1 2 15) (tx 0x80000000 0 0)), 31, (tw 1 3 1 2 15), (s32 0x80000000), (s32 0), 2147483648, by decide +kernel⟩

end Sys2Proof.Tests
end

section
/-! PROOFS. Register space: the address of a register, what registers read at reset, and who reaches a register. -/

namespace Sys2Proof.Machine

/-! ### Addresses (R5) -/

/-- An address lies at an offset of a die's window exactly where it is the window's base plus the offset. -/
theorem regPlace_eq_some_iff {a die off : Nat} (hd : die < 8) (ho : off < 0x1000000) :
    regPlace a = some (die, off) ↔ a = regBase die + off := by
  unfold regPlace
  split_ifs with h
  · simp only [Option.some.injEq, Prod.mk.injEq]
    simp only [regBase] at h ⊢
    omega
  · simp only [false_iff]
    simp only [regBase] at h ⊢
    omega

/-- The copy of a register that no selector moves stands at the register's own address. -/
theorem fldAddr_unit_zero (f : Fld) (die idx : Nat) : fldAddr f die idx 0 = regBase die + f.off + idx * f.stride := by
  simp [fldAddr]

/-- Settles O54: both clauses are the arithmetic of a window's base. -/
theorem registerAddresses : Obligations.RegisterAddresses := by
  unfold Obligations.RegisterAddresses
  exact ⟨fun a die off hd ho => regPlace_eq_some_iff hd ho, fun f die idx => fldAddr_unit_zero f die idx⟩

/-! ### Registers at reset (R8) -/

/-- Before the image is applied, a register that nothing has written reads as zero. -/
theorem State.reg_unwritten {s : State} {addr : Nat} (hl : s.boot.loaded = false)
    (hw : storeFind s.regs addr = none) : s.reg addr = 0 := by
  simp [State.reg, hw, hl]

/-- A field of zero is zero. -/
@[simp] theorem bits_zero (lo w : Nat) : bits 0 lo w = 0 := by simp [bits]

theorem State.fget_unwritten {s : State} {f : Fld} {die idx unit : Nat} (hl : s.boot.loaded = false)
    (hw : storeFind s.regs (fldAddr f die idx unit) = none) : s.fget f die idx unit = 0 := by
  rw [State.fget, State.reg_unwritten hl hw, bits_zero]

theorem State.reset_loaded : State.reset.boot.loaded = false := rfl

theorem State.reset_regs : State.reset.regs = [] := rfl

/-- Settles O55: the register store of the state after reset lists nothing, so its fields are a case of the first
clause. -/
theorem resetFieldsReadZero : Obligations.ResetFieldsReadZero := by
  unfold Obligations.ResetFieldsReadZero
  refine ⟨fun s f die idx unit hl hw => State.fget_unwritten hl hw, State.reset_loaded, fun f die idx unit => ?_⟩
  exact State.fget_unwritten State.reset_loaded (by rw [State.reset_regs, storeFind])

/-- Settles O59: memory and the register store of the state after reset list nothing. -/
theorem resetStoresAreCanonical : Obligations.ResetStoresAreCanonical := by
  unfold Obligations.ResetStoresAreCanonical
  have hmem : State.reset.mem = [] := rfl
  have hrises : storeRises State.reset.regs = true := by rw [State.reset_regs, storeRises, risesFrom]
  have hwf : Memory.wf State.reset.mem = true := by simp [Memory.wf_iff, hmem, storeRises, risesFrom]
  exact ⟨⟨hwf, hrises⟩, hmem, rfl⟩

/-! ### Who reaches a register (R23, R77, R384) -/

/-- A write that is heard is the access to register space. -/
theorem exec_registerWrite_of_hears {s : State} {who : Initiator} {addr : Nat} (size : Nat) (value : Word)
    (hh : s.hears who addr = true) :
    exec (.registerWrite who addr size value) s = .next (s.regWrite who addr size value.toNat) :=
  if_pos hh

/-- An access to a register that the map or its BARs keep from the initiator is refused before anything else of it is
looked at (R24). -/
theorem State.regWrite_of_not_reaches {s : State} {who : Initiator} {addr : Nat} (size v : Nat)
    (hr : reachesRegister who addr = false) : s.regWrite who addr size v = s.refuse E.addressRefused who addr := by
  simp [State.regWrite, hr]

@[simp] theorem State.refuse_resp (s : State) (c : ErrCode) (who : Initiator) (addr : Nat) :
    (s.refuse c who addr).resp = { error := true } := rfl

/-- BAR 0 of the recovery function maps CFG_ of S alone (R77), and not SCH_CTRL. -/
theorem recovery_not_reaches_schCtrl : reachesRegister .recovery (fldPlace F.schCtrl_fw_attached 4 0) = false := by
  decide

/-- Refutes O48: the clauses ask of an initiator only that R23 lets it into register space (Initiator.reachesRegisters),
not that its BARs map the register (Initiator.barMaps). A write of 2 bytes to SCH_CTRL by the recovery function, whose
BAR maps CFG_ alone, is refused with an error, where the clause of narrow writes has it dropped with none. -/
theorem not_registerAccessesComplete : ¬ Obligations.RegisterAccessesComplete := by
  unfold Obligations.RegisterAccessesComplete
  rintro ⟨-, -, narrow, -⟩
  have hears : State.reset.hears .recovery (fldPlace F.schCtrl_fw_attached 4 0) = true := by decide
  obtain ⟨t, hexec, hframe, -⟩ := narrow State.reset .recovery (fldPlace F.schCtrl_fw_attached 4 0) 2 1#64 hears
    (by decide)
  rw [exec_registerWrite_of_hears 2 1#64 hears, State.regWrite_of_not_reaches 2 _ recovery_not_reaches_schCtrl,
    Host.Outcome.next.injEq] at hexec
  have herror : t.resp.error = true := by rw [← hexec, State.refuse_resp]
  have hclean : t.resp.error = false := by rw [hframe]
  exact absurd herror (by rw [hclean]; decide)

end Sys2Proof.Machine
end

section
/-! PROOFS. What every command keeps: the canonical forms of memory and of the register store, the commands that wait,
the draws already made, and what flash never gives back. One relation carries the five through every function that
changes the state, so that each function is walked once. -/

namespace Sys2Proof.Machine

/-! ### Flash -/

theorem bit_eq_testBit (n i : Nat) : bit n i = n.testBit i := by
  rw [bit, Nat.testBit_eq_decide_div_mod_eq]
  rfl

theorem bit_setBit_true (n p q : Nat) : bit (setBit n p true) q = (decide (q = p) || bit n q) := by
  rw [bit_eq_testBit, bit_eq_testBit, setBit, setBits_testBit]
  split_ifs with h₁ h₂
  · simp [show q ≠ p by omega]
  · simp [show q = p by omega]
  · simp [show q ≠ p by omega]

/-- What a flash may become: sealed pages stay sealed, what they hold stays, and no floor falls. -/
structure FlashState.Grows (f g : FlashState) : Prop where
  sealedPages : ∀ p, bit f.sealedPages p = true → bit g.sealedPages p = true
  unitId : g.unitId = f.unitId
  oemRoot : bit f.sealedPages 1 = true → g.oemRoot = f.oemRoot
  floor : f.floor ≤ g.floor
  fwFloor : f.fwFloor ≤ g.fwFloor

namespace FlashState.Grows

theorem refl (f : FlashState) : f.Grows f := ⟨fun _ h => h, rfl, fun _ => rfl, le_rfl, le_rfl⟩

theorem trans {f g k : FlashState} (h : f.Grows g) (h' : g.Grows k) : f.Grows k :=
  ⟨fun p hp => h'.sealedPages p (h.sealedPages p hp), h'.unitId.trans h.unitId,
    fun hp => (h'.oemRoot (h.sealedPages 1 hp)).trans (h.oemRoot hp), h.floor.trans h'.floor,
    h.fwFloor.trans h'.fwFloor⟩

/-- A change of what R58 lets change freely: the loader's bank entries, the attestation marks, the vault's keys. -/
theorem update (f : FlashState) {a1 a2 a3 a4 a5 a6 a7 a8 a9} :
    f.Grows ⟨f.sealedPages, f.unitId, f.oemRoot, a1, a2, a3, a4, a5, f.floor, f.fwFloor, a6, a7, a8, a9⟩ :=
  ⟨fun _ h => h, rfl, fun _ => rfl, le_rfl, le_rfl⟩

theorem ite {f g k : FlashState} {c : Prop} {_ : Decidable c} (h : f.Grows g) (h' : f.Grows k) :
    f.Grows (if c then g else k) := by split <;> assumption

theorem sealing (f : FlashState) (p : Nat) : f.Grows { f with sealedPages := setBit f.sealedPages p true } := by
  refine ⟨fun q hq => ?_, rfl, fun _ => rfl, le_rfl, le_rfl⟩
  rw [bit_setBit_true]
  simp [hq]

theorem raiseFloor (f : FlashState) (n : Nat) : f.Grows { f with floor := max f.floor n } :=
  ⟨fun _ h => h, rfl, fun _ => rfl, le_max_left _ _, le_rfl⟩

theorem raiseFwFloor {f : FlashState} {n : Nat} (hn : f.fwFloor ≤ n) : f.Grows { f with fwFloor := n } :=
  ⟨fun _ h => h, rfl, fun _ => rfl, le_rfl, hn⟩

/-- A root key digest is written where its page is not sealed, or is the one already there. -/
theorem setRoot {f : FlashState} {root : Nat} {key : Option Nat}
    (hr : ¬ (bit f.sealedPages 1 = true ∧ f.oemRoot ≠ root)) : f.Grows { f with oemRoot := root, attKey := key } :=
  ⟨fun _ h => h, rfl, fun hp => by by_contra hne; exact hr ⟨hp, fun e => hne e.symm⟩, le_rfl, le_rfl⟩

end FlashState.Grows

/-! ### The relation and the forms that a function's body takes -/

/-- Whether a state is one that a command may make of another: canonical stores stay canonical, the queue of commands is
untouched, no draw is taken back, and flash only grows. -/
structure State.Keeps (s t : State) : Prop where
  mem : Memory.wf s.mem = true → Memory.wf t.mem = true
  regs : storeRises s.regs = true → storeRises t.regs = true
  pending : t.pending = s.pending
  freeCtr : s.freeCtr ≤ t.freeCtr
  flash : s.flash.Grows t.flash

theorem State.Keeps.canonical {s t : State} (h : s.Keeps t) (hs : s.canonical) : t.canonical :=
  ⟨h.mem hs.1, h.regs hs.2⟩

/-- What an engine's instruction makes of a state is one that a command may make of it. -/
def TeResult.Keeps (s₀ : State) : TeResult → Prop
  | .done t => s₀.Keeps t
  | .jump t _ _ => s₀.Keeps t
  | .stall => True
  | .fault _ => True
  | .stopped t => s₀.Keeps t

/-- What a sequencer's instruction makes of a state is one that a command may make of it. -/
def TahrResult.Keeps (s₀ : State) : TahrResult → Prop
  | .fault _ _ => True
  | .faultIn t _ _ => s₀.Keeps t
  | .stall t => s₀.Keeps t
  | .done t _ => s₀.Keeps t
  | .rest t _ _ => s₀.Keeps t

namespace State.Keeps
variable {s₀ s t u : State} {α β : Type}

theorem refl (s : State) : s.Keeps s := ⟨id, id, rfl, le_rfl, .refl _⟩

theorem trans (h : s.Keeps t) (h' : t.Keeps u) : s.Keeps u :=
  ⟨h'.mem ∘ h.mem, h'.regs ∘ h.regs, h'.pending.trans h.pending, h.freeCtr.trans h'.freeCtr, h.flash.trans h'.flash⟩

theorem ite {c : Prop} {_ : Decidable c} (h : s₀.Keeps s) (h' : s₀.Keeps t) : s₀.Keeps (if c then s else t) := by
  split <;> assumption

theorem foldl {f : State → α → State} {l : List α} (h : s₀.Keeps s)
    (hf : ∀ t x, s₀.Keeps t → s₀.Keeps (f t x)) : s₀.Keeps (l.foldl f s) := by
  induction l generalizing s with
  | nil => exact h
  | cons x l ih => exact ih (hf s x h)

theorem foldl_fst {f : State × β → α → State × β} {b : β} {l : List α} (h : s₀.Keeps s)
    (hf : ∀ p x, s₀.Keeps p.1 → s₀.Keeps (f p x).1) : s₀.Keeps (l.foldl f (s, b)).1 := by
  suffices ∀ p : State × β, s₀.Keeps p.1 → s₀.Keeps (l.foldl f p).1 from this (s, b) h
  induction l with
  | nil => exact fun _ hp => hp
  | cons x l ih => exact fun p hp => ih _ (hf p x hp)

theorem of_fst {p : State × α} {a : α} (h : s₀.Keeps p.1) (e : p = (t, a)) : s₀.Keeps t := by
  rw [e] at h; exact h

theorem of_snd {p : α × State} {a : α} (h : s₀.Keeps p.2) (e : p = (a, t)) : s₀.Keeps t := by
  rw [e] at h; exact h

theorem some_eq (h : s₀.Keeps s) : Option.some s = Option.some t → s₀.Keeps t := by rintro ⟨⟩; exact h

theorem some_fst_eq {a : α} {p : State × α} (h : s₀.Keeps s) :
    Option.some (s, a) = Option.some p → s₀.Keeps p.1 := by rintro ⟨⟩; exact h

theorem next (h : s₀.Keeps s) : nextWith (.next s) s₀.Keeps := ⟨s, rfl, h⟩

theorem done (h : s₀.Keeps s) : (TeResult.done s).Keeps s₀ := h
theorem jump {p ls} (h : s₀.Keeps s) : (TeResult.jump s p ls).Keeps s₀ := h
theorem stopped (h : s₀.Keeps s) : (TeResult.stopped s).Keeps s₀ := h

theorem faultIn {c a} (h : s₀.Keeps s) : (TahrResult.faultIn s c a).Keeps s₀ := h
theorem stall (h : s₀.Keeps s) : (TahrResult.stall s).Keeps s₀ := h
theorem doneTahr {p} (h : s₀.Keeps s) : (TahrResult.done s p).Keeps s₀ := h
theorem rest {q p} (h : s₀.Keeps s) : (TahrResult.rest s q p).Keeps s₀ := h

end State.Keeps

theorem nextWith.thenDo {s₀ : State} {r : Host.Outcome State Fault Refusal}
    {f : State → Host.Outcome State Fault Refusal} (hr : nextWith r s₀.Keeps)
    (hf : ∀ t, s₀.Keeps t → nextWith (f t) s₀.Keeps) : nextWith (Machine.thenDo r f) s₀.Keeps := by
  obtain ⟨t, rfl, ht⟩ := hr
  exact hf t ht

theorem nextWith.ite {r q : Host.Outcome State Fault Refusal} {P : State → Prop} {c : Prop} {_ : Decidable c}
    (h : nextWith r P) (h' : nextWith q P) : nextWith (if c then r else q) P := by split <;> assumption

namespace TeResult.Keeps
variable {s₀ t : State} {r q : TeResult}

theorem ite {c : Prop} {_ : Decidable c} (h : r.Keeps s₀) (h' : q.Keeps s₀) : (if c then r else q).Keeps s₀ := by
  split <;> assumption

theorem of_done (h : r.Keeps s₀) (e : r = .done t) : s₀.Keeps t := by subst e; exact h
theorem of_jump {p ls} (h : r.Keeps s₀) (e : r = .jump t p ls) : s₀.Keeps t := by subst e; exact h
theorem of_stopped (h : r.Keeps s₀) (e : r = .stopped t) : s₀.Keeps t := by subst e; exact h

end TeResult.Keeps

namespace TahrResult.Keeps
variable {s₀ t : State} {r : TahrResult}

theorem of_faultIn {c a} (h : r.Keeps s₀) (e : r = .faultIn t c a) : s₀.Keeps t := by subst e; exact h
theorem of_stall (h : r.Keeps s₀) (e : r = .stall t) : s₀.Keeps t := by subst e; exact h
theorem of_done {p} (h : r.Keeps s₀) (e : r = .done t p) : s₀.Keeps t := by subst e; exact h
theorem of_rest {q p} (h : r.Keeps s₀) (e : r = .rest t q p) : s₀.Keeps t := by subst e; exact h

end TahrResult.Keeps

/-! ### The state's own operations -/

namespace State.Keeps
variable {s₀ s : State}

theorem setReg {a v} (h : s₀.Keeps s) : s₀.Keeps (s.setReg a v) :=
  { h with regs := fun hr => State.setReg_rises a v (h.regs hr) }

theorem fset {f d i u v} (h : s₀.Keeps s) : s₀.Keeps (s.fset f d i u v) := h.setReg

theorem putAt {a bs} (h : s₀.Keeps s) : s₀.Keeps (s.putAt a bs) :=
  { h with mem := fun hm => State.putAt_wf a bs (h.mem hm) }

theorem scrub {a n} (h : s₀.Keeps s) : s₀.Keeps (s.scrub a n) :=
  ⟨fun hm => State.scrub_wf a n (h.mem hm), h.regs, h.pending, h.freeCtr,
    h.flash.trans ⟨fun _ h => h, rfl, fun _ => rfl, le_rfl, le_rfl⟩⟩

/-- A change of any other fields of the state. -/
theorem update {a1 a2 a3 a4 a5 a6 a7 a8 a9 a10 a11 a12 a13 a14 a15 a16 a17 a18 a19 a20 a21 a22 a23 a24 a25 a26 a27 a28
    a29 a30 a31 a32 a33 a34} (h : s₀.Keeps s) :
    s₀.Keeps ⟨s.regs, a1, s.mem, a2, a3, s.freeCtr, a4, a5, a6, s.flash, a7, a8, a9, a10, a11, a12, a13, a14, a15, a16,
      a17, a18, a19, a20, a21, a22, a23, a24, a25, a26, a27, a28, a29, a30, a31, a32, a33, a34, s.pending⟩ :=
  ⟨h.mem, h.regs, h.pending, h.freeCtr, h.flash⟩

theorem updateFlash {f a1 a2 a3 a4 a5 a6 a7 a8 a9 a10 a11 a12 a13 a14 a15 a16 a17 a18 a19 a20 a21 a22 a23 a24 a25 a26
    a27 a28 a29 a30 a31 a32 a33 a34} (h : s₀.Keeps s) (hf : s.flash.Grows f) :
    s₀.Keeps ⟨s.regs, a1, s.mem, a2, a3, s.freeCtr, a4, a5, a6, f, a7, a8, a9, a10, a11, a12, a13, a14, a15, a16, a17,
      a18, a19, a20, a21, a22, a23, a24, a25, a26, a27, a28, a29, a30, a31, a32, a33, a34, s.pending⟩ :=
  ⟨h.mem, h.regs, h.pending, h.freeCtr, h.flash.trans hf⟩

theorem draw {n} (h : s₀.Keeps s) : s₀.Keeps { s with freeCtr := s.freeCtr + n } :=
  { h with freeCtr := Nat.le_add_right_of_le h.freeCtr }

theorem fresh {w} (h : s₀.Keeps s) : s₀.Keeps (s.fresh w).2 :=
  { h with freeCtr := Nat.le_succ_of_le h.freeCtr }

end State.Keeps

end Sys2Proof.Machine
end

section
/-! PROOFS. Records, completions, queues and job contexts keep what every step keeps. -/

namespace Sys2Proof.Machine.State.Keeps
variable {s₀ s t u : State} {α β : Type}

theorem tick (h : s₀.Keeps s) : s₀.Keeps (s.tick) :=
  h.update

theorem answerError (h : s₀.Keeps s) : s₀.Keeps (s.answerError) :=
  h.update

theorem setGft {te x} (h : s₀.Keeps s) : s₀.Keeps (s.setGft te x) :=
  h.update

theorem raiseRec {r} (h : s₀.Keeps s) : s₀.Keeps (s.raiseRec r) :=
  h.update

theorem fadd {f die idx unit n} (h : s₀.Keeps s) : s₀.Keeps (s.fadd f die idx unit n) :=
  h.fset

theorem countRefusal {c addr} (h : s₀.Keeps s) : s₀.Keeps (s.countRefusal c addr) := by
  unfold State.countRefusal
  split
  · exact h
  · exact ite h.fadd (ite h.fadd h)

theorem refused {c who addr} (h : s₀.Keeps s) : s₀.Keeps (s.refused c who addr) := by
  unfold State.refused
  dsimp only
  refine raiseRec ?_
  refine countRefusal ?_
  split
  · exact ite h.setGft h
  · exact h

theorem refuse {c who addr} (h : s₀.Keeps s) : s₀.Keeps (s.refuse c who addr) :=
  h.refused.answerError

theorem dropReg {c who addr} (h : s₀.Keeps s) : s₀.Keeps (s.dropReg c who addr) :=
  h.raiseRec.update

theorem ran {r} (_ : s₀.Keeps s) (hr : nextWith r s₀.Keeps) : s₀.Keeps (s.ran r) := by
  obtain ⟨t, rfl, ht⟩ := hr
  exact ht

theorem answerOk (h : s₀.Keeps s) : s₀.Keeps (s.answerOk) :=
  h.update

theorem clearPoison {a n} (h : s₀.Keeps s) : s₀.Keeps (s.clearPoison a n) := by
  unfold State.clearPoison
  dsimp only
  split
  · exact h.update
  · exact h.update
  · exact h

theorem store {a bs} (h : s₀.Keeps s) : s₀.Keeps (s.store a bs) :=
  h.clearPoison.putAt

theorem setCq {q c} (h : s₀.Keeps s) : s₀.Keeps (s.setCq q c) :=
  h.update

theorem send {m} (h : s₀.Keeps s) : s₀.Keeps (s.send m) :=
  h.update

theorem faultRecord {device iova write} (h : s₀.Keeps s) : s₀.Keeps (s.faultRecord device iova write).1 :=
  (h.fresh (w := 12)).fresh (w := 64)

theorem queueFault {device iova write} (h : s₀.Keeps s) : s₀.Keeps (s.queueFault device iova write) :=
  ite h (ite h.setReg h.faultRecord.store.setReg)

theorem iommuFault {vi r iova write} (h : s₀.Keeps s) : s₀.Keeps (s.iommuFault vi r iova write) :=
  h.queueFault.fadd.raiseRec

theorem sendViMsi {vi vector} (h : s₀.Keeps s) : s₀.Keeps (s.sendViMsi vi vector) := by
  unfold State.sendViMsi
  dsimp only
  split
  · exact h.send
  split
  · exact h.send
  · exact h.iommuFault

theorem sendCqMsi {q} (h : s₀.Keeps s) : s₀.Keeps (s.sendCqMsi q) :=
  ite h.setCq.fset.sendViMsi h.setCq.fset

theorem signalCq {q} (h : s₀.Keeps s) : s₀.Keeps (s.signalCq q) :=
  ite (ite h.setCq.fadd.sendCqMsi (ite h.setCq.fadd.fadd h.setCq.fadd)) h

theorem releaseEngines {j} (h : s₀.Keeps s) : s₀.Keeps (s.releaseEngines j) :=
  h.fset.fset

theorem countReady (h : s₀.Keeps s) : s₀.Keeps (s.countReady) :=
  h.fset.fset.fset

theorem unready {j} (h : s₀.Keeps s) : s₀.Keeps (s.unready j) :=
  h.update.countReady

theorem freeJob {j} (h : s₀.Keeps s) : s₀.Keeps (s.freeJob j) := by
  unfold State.freeJob
  extract_lets x s₁ s₂ s₃ s₄ x₁ s₅ s₆ vi s₇
  have h₂ : s₀.Keeps s₂ := h.releaseEngines.foldl fun _ _ h => h.setReg
  exact h₂.fset.unready.update.setReg.fset.fset

theorem putCompletion {q h'} (h : s₀.Keeps s) : s₀.Keeps (s.putCompletion q h') := by
  unfold State.putCompletion
  dsimp only
  split
  · exact h.store.fset.signalCq
  · exact h.store.fset.signalCq.freeJob

theorem drainHeld {q a} (h : s₀.Keeps s) : s₀.Keeps (s.drainHeld q a) := by
  induction a generalizing s q with
  | zero =>
    unfold State.drainHeld
    exact h
  | succ a ih =>
    unfold State.drainHeld
    dsimp only
    split
    · exact h
    · exact ite h (ih h.setCq.putCompletion)

theorem refuseDoorbell {who q off} (h : s₀.Keeps s) : s₀.Keeps (s.refuseDoorbell who q off) := by
  unfold State.refuseDoorbell
  extract_lets x s₁
  exact h.raiseRec.update

theorem execCompletionHeadDoorbell {who queue value} (h : s₀.Keeps s) :
    nextWith (Machine.execCompletionHeadDoorbell who queue value s) s₀.Keeps := by
  unfold Machine.execCompletionHeadDoorbell
  dsimp only
  split
  · exact h.fset.drainHeld.answerOk.next
  · exact h.refuseDoorbell.next

theorem execDoorbellTail {who queue value} (h : s₀.Keeps s) :
    nextWith (Machine.execDoorbellTail who queue value s) s₀.Keeps := by
  unfold Machine.execDoorbellTail
  split
  · exact h.fset.answerOk.next
  · exact h.refuseDoorbell.next

theorem modJob {j f} (h : s₀.Keeps s) : s₀.Keeps (s.modJob j f) := by
  unfold State.modJob
  dsimp only
  split
  · exact h
  · exact h.update

theorem resolveOne {j i outcome how} (h : s₀.Keeps s) : s₀.Keeps (s.resolveOne j i outcome how) :=
  ite h.fset.fset.modJob (ite h h.fadd)

theorem resolveRange {j first outcome how a} (h : s₀.Keeps s) :
    s₀.Keeps (s.resolveRange j first outcome how a) := by
  induction a generalizing s j first outcome how with
  | zero =>
    unfold State.resolveRange
    exact h
  | succ a ih =>
    unfold State.resolveRange
    exact ih h.resolveOne

theorem fwrap {f die idx unit n} (h : s₀.Keeps s) : s₀.Keeps (s.fwrap f die idx unit n) :=
  h.fset

theorem setGranState {d b e st} (h : s₀.Keeps s) : s₀.Keeps (s.setGranState d b e st) :=
  (ite ((ite h.fset (ite h.fset h)).fwrap) (ite ((ite h.fset (ite h.fset h)).fwrap) (ite h.fset
    (ite h.fset h)))).fset

theorem idleGranule {d b e} (h : s₀.Keeps s) : s₀.Keeps (s.idleGranule d b e) :=
  h.setGranState.fset.fset.fset.update

theorem discard {j gs} (h : s₀.Keeps s) : s₀.Keeps (s.discard j gs) :=
  h.foldl fun _ _ h => h.idleGranule.fwrap.modJob

theorem writeProgress {j} (h : s₀.Keeps s) : s₀.Keeps (s.writeProgress j) := by
  unfold State.writeProgress
  dsimp only
  split
  · exact h
  · exact h.modJob.store

theorem setJobState {j st} (h : s₀.Keeps s) : s₀.Keeps (s.setJobState j st) :=
  h.fset.writeProgress

theorem setRingSt {n st} (h : s₀.Keeps s) : s₀.Keeps (s.setRingSt n st) :=
  h.fset

theorem setRing {n r} (h : s₀.Keeps s) : s₀.Keeps (s.setRing n r) :=
  h.update

theorem opRingAbort {n} (h : s₀.Keeps s) : s₀.Keeps (s.opRingAbort n) :=
  h.setRing.setRingSt

theorem rankStopped {j r} (h : s₀.Keeps s) : s₀.Keeps (s.rankStopped j r) :=
  h.modJob

theorem haltEngines {j teState} (h : s₀.Keeps s) : s₀.Keeps (s.haltEngines j teState) := by
  unfold State.haltEngines
  refine h.foldl fun t x h => ?_
  split
  · exact h
  · exact ite h h.fset.rankStopped

theorem haltJob {j teState} (h : s₀.Keeps s) : s₀.Keeps (s.haltJob j teState) :=
  h.haltEngines.foldl fun _ _ h => h.opRingAbort

theorem squash {j a} (h : s₀.Keeps s) : s₀.Keeps (s.squash j a) := by
  induction a generalizing s j with
  | zero =>
    unfold State.squash
    exact h
  | succ a ih =>
    unfold State.squash
    exact h.discard.modJob.foldl fun _ _ h => (ite (ih (ite h.resolveRange.modJob.haltJob.setJobState
      h.resolveRange.modJob)) h)

theorem endModels {j} (h : s₀.Keeps s) : s₀.Keeps (s.endModels j) := by
  unfold State.endModels
  dsimp only
  refine h.foldl fun t x h => ?_
  split
  · exact h
  · exact ite h (ite h.update h.update)

theorem finishJob {j st} (h : s₀.Keeps s) : s₀.Keeps (s.finishJob j st) :=
  (ite h.discard (h.discard.foldl fun _ _ h => h.modJob)).modJob.setJobState.endModels.unready

theorem countDone {j} (h : s₀.Keeps s) : s₀.Keeps (s.countDone j) :=
  h.update

theorem releaseCompletion {q h'} (h : s₀.Keeps s) : s₀.Keeps (s.releaseCompletion q h') :=
  ite h.setCq.fadd h.putCompletion

theorem settle {j} (h : s₀.Keeps s) : s₀.Keeps (s.settle j) :=
  ite h <|
    ite (ite (ite h.finishJob.freeJob ((ite h.finishJob.countDone h.finishJob).modJob.releaseCompletion)) h) <|
    ite (ite h.releaseEngines.modJob.releaseCompletion h) h

theorem settleAll (h : s₀.Keeps s) : s₀.Keeps (s.settleAll) :=
  h.foldl fun _ _ h => h.settle

theorem raiseSide {r} (h : s₀.Keeps s) : s₀.Keeps (s.raiseSide r) :=
  h.update

theorem postEvent {die kind job detail} (h : s₀.Keeps s) : s₀.Keeps (s.postEvent die kind job detail) :=
  ite h.fset.raiseSide h.update.fset

theorem postJobEvent {kind j detail} (h : s₀.Keeps s) : s₀.Keeps (s.postJobEvent kind j detail) :=
  h.foldl fun _ _ h => h.postEvent

theorem resolveTokens {j first outcome how n} (h : s₀.Keeps s) :
    s₀.Keeps (s.resolveTokens j first outcome how n) :=
  (ite h.resolveRange.squash h.resolveRange).postJobEvent.settleAll

theorem execResolveDoorbell {who queue value} (h : s₀.Keeps s) :
    nextWith (Machine.execResolveDoorbell who queue value s) s₀.Keeps := by
  unfold Machine.execResolveDoorbell
  dsimp only
  split
  · exact h.refuseDoorbell.next
  split
  · exact h.resolveTokens.update.next
  · exact h.raiseRec.update.next

theorem doorbellWrite {who q off v} (h : s₀.Keeps s) : s₀.Keeps (s.doorbellWrite who q off v) := by
  unfold State.doorbellWrite
  split
  · refine h.ran ?_
    split
    · exact h.execCompletionHeadDoorbell
    · exact h.execDoorbellTail
  · exact ite (h.ran h.execResolveDoorbell) (ite (ite h.answerOk h.refuseDoorbell) h.refuse)

theorem dropWrite {who addr} (h : s₀.Keeps s) : s₀.Keeps (s.dropWrite who addr) :=
  h.dropReg

theorem mirrorWrite {who x off v mask} (h : s₀.Keeps s) : s₀.Keeps (s.mirrorWrite who x off v mask) :=
  ite h.dropWrite h.setReg.answerOk

theorem noteReserved {who addr b} (h : s₀.Keeps s) : s₀.Keeps (s.noteReserved who addr b) :=
  ite h.dropReg h

theorem setSending {die lane} (h : s₀.Keeps s) : s₀.Keeps (s.setSending die lane) :=
  h.update.fset

theorem sendLanes {p} (h : s₀.Keeps s) : s₀.Keeps (s.sendLanes p) :=
  h.foldl fun _ _ h => h.setSending

theorem checkTiming {p} (h : s₀.Keeps s) : s₀.Keeps (s.checkTiming p) :=
  (ite h (ite h.fset h.fset.fset)).sendLanes

theorem copyConfig {src dst} (h : s₀.Keeps s) : s₀.Keeps (s.copyConfig src dst) :=
  h.foldl fun _ _ h => h.setReg

theorem setDomState {d st} (h : s₀.Keeps s) : s₀.Keeps (s.setDomState d st) :=
  h.fset

theorem afterWrite {x} (h : s₀.Keeps s) : s₀.Keeps (s.afterWrite x) :=
  ite h.checkTiming <|
    ite (ite h.copyConfig.update h) (ite (ite (ite h.setDomState h) h.setDomState) (ite (ite h.fset h) h))

theorem plainWrite {who x v mask} (h : s₀.Keeps s) : s₀.Keeps (s.plainWrite who x v mask) := by
  unfold State.plainWrite
  dsimp only
  split
  · exact h.dropWrite
  split
  · exact h.dropReg
  · exact h.setReg.afterWrite.answerOk.noteReserved

theorem setIsl {f d i v} (h : s₀.Keeps s) : s₀.Keeps (s.setIsl f d i v) :=
  h.fset

theorem refreshReason (h : s₀.Keeps s) : s₀.Keeps (s.refreshReason) :=
  h.fset

theorem losePace {d i} (h : s₀.Keeps s) : s₀.Keeps (s.losePace d i) := by
  unfold State.losePace
  extract_lets s₁ s₂ s₃ x s₄ s₅ x₁
  have h₁ : s₀.Keeps s₁ := h.foldl fun _ _ h => h.setIsl
  have h₂ : s₀.Keeps s₂ := h₁.foldl fun _ _ h => h.fset
  have h₃ : s₀.Keeps s₃ := h₂.foldl fun _ _ h => (ite h.fset h)
  have h₅ : s₀.Keeps s₅ := h₃.update.foldl fun _ _ h => h.fset
  exact h₅.raiseSide.refreshReason

theorem takeLevel {d i v} (h : s₀.Keeps s) : s₀.Keeps (s.takeLevel d i v) := by
  unfold State.takeLevel
  extract_lets s₁ x s₂
  have h₁ : s₀.Keeps s₁ := ite h.losePace h
  have h₂ : s₀.Keeps s₂ := by
    unfold s₂
    split
    · exact h₁
    · exact h₁.update
  exact h₂.setIsl

theorem keepNormal {d i} (h : s₀.Keeps s) : s₀.Keeps (s.keepNormal d i) :=
  ite h h.update

theorem followLevel {d i j v} (h : s₀.Keeps s) : s₀.Keeps (s.followLevel d i j v) :=
  ite h (ite h.keepNormal.takeLevel h.takeLevel)

theorem requestLevel {d i v} (h : s₀.Keeps s) : s₀.Keeps (s.requestLevel d i v) :=
  ite h (ite h.fadd (h.foldl fun _ _ h => h.followLevel))

theorem execFixedPaceRequest {who die value} (h : s₀.Keeps s) :
    nextWith (Machine.execFixedPaceRequest who die value s) s₀.Keeps := by
  unfold Machine.execFixedPaceRequest
  extract_lets v cs named s₁ status s₂ s₃ x s₄ s₅ s₆
  have h₃ : s₀.Keeps s₃ := h.fset.fset.answerOk.foldl fun _ _ h => (ite h h.requestLevel)
  have h₆ : s₀.Keeps s₆ := h₃.update.fset.foldl fun _ _ h => h.fset
  split
  · exact h.dropWrite.next
  split
  · exact h.fset.answerOk.next
  split
  · exact h.fset.fset.answerOk.next
  · exact h₆.refreshReason.next

end Sys2Proof.Machine.State.Keeps
end

section
/-! PROOFS. Engines and rings, commanded through registers, keep what every step keeps. -/

namespace Sys2Proof.Machine.State.Keeps
variable {s₀ s t u : State} {α β : Type}

theorem parkWrite {who d e op f} (h : s₀.Keeps s) (hf : ∀ t a₀, s₀.Keeps t → s₀.Keeps (f t a₀).1) :
    s₀.Keeps (s.parkWrite who d e op f) := by
  unfold State.parkWrite
  dsimp only
  split
  · exact h.dropWrite
  refine answerOk ?_
  refine fset ?_
  split
  · exact hf _ _ h.fset.fset
  · exact h.fset.fset

theorem setHeldPending {k v} (h : s₀.Keeps s) : s₀.Keeps (s.setHeldPending k v) :=
  ite h.fset.fset h.fset

theorem secNotice {block kind deadline} (h : s₀.Keeps s) : s₀.Keeps (s.secNotice block kind deadline) :=
  h.fset.fset.fset

theorem parkHeld {k} (h : s₀.Keeps s) : s₀.Keeps (s.parkHeld k) :=
  ite h h.setHeldPending.secNotice.raiseSide

theorem opRingPause {n} (h : s₀.Keeps s) : s₀.Keeps (s.opRingPause n) :=
  ite h.setRing h

theorem requestPreempt {j} (h : s₀.Keeps s) : s₀.Keeps (s.requestPreempt j) :=
  (h.foldl fun _ _ h => (ite h.fset h)).foldl fun _ _ h => h.opRingPause

theorem setTeStat {te v} (h : s₀.Keeps s) : s₀.Keeps (s.setTeStat te v) :=
  h.fset

theorem opTePreempt {te} (h : s₀.Keeps s) : s₀.Keeps (s.opTePreempt te) :=
  ite h.setTeStat h

theorem suspendCodec (h : s₀.Keeps s) : s₀.Keeps (s.suspendCodec) :=
  h.foldl fun _ _ h => (ite h.fset h)

theorem showParked {k v} (h : s₀.Keeps s) : s₀.Keeps (s.showParked k v) :=
  ite h.fset (ite h.fset h)

theorem setParked {k v} (h : s₀.Keeps s) : s₀.Keeps (s.setParked k v) :=
  h.fset.showParked

theorem startPark {k} (h : s₀.Keeps s) : s₀.Keeps (s.startPark k) := by
  unfold State.startPark
  dsimp only
  split
  · exact h
  split
  · split
    · exact h.update
    · split
      · exact ite h.update.requestPreempt h.update
      · exact h.update.opTePreempt
  · exact (ite h.suspendCodec h).setParked.fadd

theorem execPark {who die engine} (h : s₀.Keeps s) : nextWith (Machine.execPark who die engine s) s₀.Keeps := by
  unfold Machine.execPark
  dsimp only
  refine next ?_
  refine h.parkWrite fun t a1 h => ?_
  split
  · exact h
  split
  · exact h
  split
  · exact h.parkHeld
  · exact ite h.startPark.fset h.startPark

theorem queueWake {k} (h : s₀.Keeps s) : s₀.Keeps (s.queueWake k) :=
  ite h h.update.fset

theorem execUnpark {who die engine} (h : s₀.Keeps s) :
    nextWith (Machine.execUnpark who die engine s) s₀.Keeps := by
  unfold Machine.execUnpark
  dsimp only
  refine next ?_
  refine h.parkWrite fun t a1 h => ?_
  split
  · exact h.update
  split
  · exact h
  · exact h.update.queueWake

theorem execWithdraw {who die engine} (h : s₀.Keeps s) :
    nextWith (Machine.execWithdraw who die engine s) s₀.Keeps := by
  unfold Machine.execWithdraw
  dsimp only
  refine next ?_
  refine h.parkWrite fun t a1 h => ?_
  split
  · exact h.setHeldPending
  · exact h

theorem onBit {v i row} (h : s₀.Keeps s) (hf : ∀ t, s₀.Keeps t → nextWith (row t) s₀.Keeps) :
    s₀.Keeps (s.onBit v i row) :=
  ite (h.ran (hf _ h)) h

theorem teCtrlRefused {who te t} (h : s₀.Keeps s) : s.teCtrlRefused who te = Option.some t → s₀.Keeps t := by
  unfold State.teCtrlRefused
  dsimp only
  split
  · exact nofun
  split
  · exact h.dropWrite.some_eq
  split
  · exact h.dropReg.some_eq
  split
  · exact h.dropReg.some_eq
  split
  · exact h.dropReg.some_eq
  · exact nofun

theorem teBegin {te} (h : s₀.Keeps s) : s₀.Keeps (s.teBegin te) :=
  h.setReg

theorem setEng {te e} (h : s₀.Keeps s) : s₀.Keeps (s.setEng te e) :=
  h.update

theorem startTest {te} (h : s₀.Keeps s) : s₀.Keeps (s.startTest te) :=
  h.setGft.fset.fset.fset.fwrap.setReg.setReg.setReg.setEng.teBegin

theorem testIfDue {te} (h : s₀.Keeps s) : s₀.Keeps (s.testIfDue te) :=
  ite h.startTest h

theorem stopJob {j st code} (h : s₀.Keeps s) : s₀.Keeps (s.stopJob j st code) :=
  ite ((ite h.resolveRange.modJob.squash.modJob.finishJob.postJobEvent
    (ite h.resolveRange.modJob.squash.modJob.finishJob.postJobEvent
    h.resolveRange.modJob.squash.modJob.finishJob)).settle.settleAll) h

theorem teStop {te c} (h : s₀.Keeps s) : s₀.Keeps (s.teStop te c) := by
  unfold State.teStop
  dsimp only
  split
  · exact h.fset.fset.fset.fset
  · exact h.fset.fset.fset.fset.rankStopped.stopJob

theorem setStream {who x} (h : s₀.Keeps s) : s₀.Keeps (s.setStream who x) :=
  h.update

theorem logPosted {vi seq addr code initiator} (h : s₀.Keeps s) :
    s₀.Keeps (s.logPosted vi seq addr code initiator) :=
  ite h (ite h.fadd (ite h.store.fset.sendViMsi h.store.fset))

theorem raiseFollow {r} (h : s₀.Keeps s) : s₀.Keeps (s.raiseFollow r) :=
  h.update

theorem drainFailed {vi addr} (h : s₀.Keeps s) : s₀.Keeps (s.drainFailed vi addr) :=
  ite h.fadd.raiseFollow h

theorem postFail {who addr r} (h : s₀.Keeps s) : s₀.Keeps (s.postFail who addr r) := by
  unfold State.postFail
  extract_lets x seq s₁ s₂ s₃ s₄
  have h₂ : s₀.Keeps s₂ := by
    unfold s₂
    dsimp only
    split
    · exact h.setStream.update
    · exact h.setStream
  split
  · exact h₂.raiseRec.fadd
  · exact h₂.raiseRec.fadd.drainFailed.logPosted

theorem teWriteRefusal {te c addr} (h : s₀.Keeps s) : s₀.Keeps (s.teWriteRefusal te c addr) :=
  ite h.countRefusal.postFail h.refuse

theorem noteOverBudget {vi} (h : s₀.Keeps s) : s₀.Keeps (s.noteOverBudget vi) := by
  unfold State.noteOverBudget
  extract_lets x s₁ s₂ s₃ last x₁ x₂
  exact ite h.update (ite h.update.fset.fadd.update.raiseSide h.update.fset.fadd)

theorem takeBucket {vi d need} (h : s₀.Keeps s) : s₀.Keeps (s.takeBucket vi d need) :=
  (ite h.noteOverBudget h).update

theorem takeTokens {who addr n} (h : s₀.Keeps s) : s₀.Keeps (s.takeTokens who addr n) := by
  unfold State.takeTokens
  dsimp only
  split
  · refine h.foldl fun t x h => ?_
    split
    · exact h.takeBucket
    · exact ite h.update h.takeBucket
  · exact h

theorem countLines {who addr n} (h : s₀.Keeps s) : s₀.Keeps (s.countLines who addr n) := by
  unfold State.countLines
  dsimp only
  split
  · split
    · exact h.foldl fun _ _ h => h.fwrap
    · exact (h.foldl fun _ _ h => h.fwrap).modJob
  · exact h

theorem notePosted {who addr} (h : s₀.Keeps s) : s₀.Keeps (s.notePosted who addr) :=
  ite h.setStream h

theorem takeGranule {j d b g} (h : s₀.Keeps s) : s₀.Keeps (s.takeGranule j d b g) := by
  unfold State.takeGranule
  extract_lets e s₁ s₂ s₃ s₄ x tok s₅ s₆
  exact h.setGranState.fset.fset.fset.fset.fset.update

theorem tagLines {secure a n} (h : s₀.Keeps s) : s₀.Keeps (s.tagLines secure a n) :=
  ite h.update h

theorem gateWrite {who j d b addr bs} (h : s₀.Keeps s) : s₀.Keeps (s.gateWrite who j d b addr bs).1 := by
  unfold State.gateWrite
  extract_lets g e s₁ f o s₂ s₃ off a s₄
  have h₁ : s₀.Keeps s₁ := ite h.takeGranule h
  have h₂ : s₀.Keeps s₂ := ite h₁.fset h₁
  have h₃ : s₀.Keeps s₃ := by
    unfold s₃
    split
    · exact h₂.fset
    · exact h₂
  split
  · exact h
  split
  · exact h
  split
  · exact h
  split
  · exact h₃.update
  · exact h₃.update.store.tagLines

theorem placeWrite {who addr bs} (h : s₀.Keeps s) : s₀.Keeps (s.placeWrite who addr bs).1 := by
  unfold State.placeWrite
  dsimp only
  split
  · exact h.foldl_fst fun _ _ h => h.gateWrite
  · exact h.store.tagLines

theorem landWrite {te w} (h : s₀.Keeps s) : s₀.Keeps (s.landWrite te w).1 := by
  unfold State.landWrite
  dsimp only
  split
  · exact h.teWriteRefusal
  split
  · exact h.notePosted.countLines.takeTokens.placeWrite.teWriteRefusal
  · exact h.notePosted.countLines.takeTokens.placeWrite

theorem landWrites {te which} (h : s₀.Keeps s) : s₀.Keeps (s.landWrites te which).1 :=
  h.setEng.foldl_fst fun _ _ h => h.landWrite

theorem settleWrites {te} (h : s₀.Keeps s) : s₀.Keeps (s.settleWrites te) :=
  h.landWrites

theorem teAddressStop {te} (h : s₀.Keeps s) : s₀.Keeps (s.teAddressStop te) :=
  h.settleWrites.teStop.testIfDue

theorem teRefused {te c addr} (h : s₀.Keeps s) : s₀.Keeps (s.teRefused te c addr) :=
  h.refuse.teAddressStop

theorem markPoison {a n} (h : s₀.Keeps s) : s₀.Keeps (s.markPoison a n) := by
  unfold State.markPoison
  dsimp only
  split
  · exact h.update
  · exact h.update
  · exact h

theorem countBad {a} (h : s₀.Keeps s) : s₀.Keeps (s.countBad a) := by
  unfold State.countBad
  dsimp only
  split
  · exact h.fadd.fset
  · exact h.fadd.fset
  · exact h

theorem countPoison {addr n} (h : s₀.Keeps s) : s₀.Keeps (s.countPoison addr n) :=
  h.markPoison.foldl fun _ _ h => h.countBad

theorem dropModelAt {d addr} (h : s₀.Keeps s) : s₀.Keeps (s.dropModelAt d addr) := by
  unfold State.dropModelAt
  dsimp only
  split
  · exact h
  · exact h.update.raiseSide

theorem reportPoison {who addr n} (h : s₀.Keeps s) : s₀.Keeps (s.reportPoison who addr n) := by
  unfold State.reportPoison
  dsimp only
  split
  · exact ite h.countPoison.raiseRec.dropModelAt h.countPoison.raiseRec
  · exact h.countPoison.raiseRec
  · exact h.countPoison

theorem correctSoft {addr n} (h : s₀.Keeps s) : s₀.Keeps (s.correctSoft addr n) := by
  unfold State.correctSoft
  dsimp only
  split
  · exact h.foldl fun _ _ h => h.update.fadd.raiseSide
  · exact h.foldl fun _ _ h => h.update.fadd.raiseSide
  · exact h

theorem correctSteered {r a n} (h : s₀.Keeps s) : s₀.Keeps (s.correctSteered r a n) :=
  h.foldl fun _ _ h => h.correctSoft

theorem noteRead {r a n} (h : s₀.Keeps s) : s₀.Keeps (s.noteRead r a n) := by
  unfold State.noteRead
  dsimp only
  split
  · exact h
  refine h.foldl fun t x h => ?_
  split
  · exact h
  · exact ite h.modJob h

theorem fetchBytes {who a n} (h : s₀.Keeps s) : s₀.Keeps (s.fetchBytes who a n).1 :=
  h.correctSteered.countLines.takeTokens.noteRead

theorem loadProgram {te go} (h : s₀.Keeps s) (hf : ∀ t a₀, s₀.Keeps t → s₀.Keeps (go t a₀)) :
    s₀.Keeps (s.loadProgram te go) := by
  unfold State.loadProgram
  dsimp only
  split
  · exact h.teRefused
  split
  · exact h.reportPoison.teStop
  · exact hf _ _ h.fetchBytes

theorem opTeStart {te} (h : s₀.Keeps s) : s₀.Keeps (s.opTeStart te) :=
  h.loadProgram (fun _ _ h => h.setReg.setEng.teBegin)

theorem execTeStart {who te} (h : s₀.Keeps s) : nextWith (Machine.execTeStart who te s) s₀.Keeps := by
  unfold Machine.execTeStart
  split
  · exact (h.teCtrlRefused ‹_›).next
  split
  · exact h.dropReg.next
  split
  · exact h.opTeStart.next
  · exact h.next

theorem execTePreempt {who te} (h : s₀.Keeps s) : nextWith (Machine.execTePreempt who te s) s₀.Keeps := by
  unfold Machine.execTePreempt
  split
  · exact (h.teCtrlRefused ‹_›).next
  · exact h.opTePreempt.next

theorem failGranules {gs} (h : s₀.Keeps s) : s₀.Keeps (s.failGranules gs) :=
  h.foldl fun _ _ h => h.setGranState

theorem failAndReport {die gs} (h : s₀.Keeps s) : s₀.Keeps (s.failAndReport die gs) :=
  h.failGranules.raiseFollow

theorem checkStops {c te detail} (h : s₀.Keeps s) : s₀.Keeps (s.checkStops c te detail) := by
  unfold State.checkStops
  dsimp only
  refine teStop ?_
  split
  · exact h.raiseRec
  · exact h.raiseRec.failAndReport

theorem controlOf {a bytes len} (h : s₀.Keeps s) : s₀.Keeps (s.controlOf a bytes len).2 := by
  unfold State.controlOf
  split
  · split
    · exact h
    · exact h.draw
  · exact h.draw

theorem setBankState {te b v} (h : s₀.Keeps s) : s₀.Keeps (s.setBankState te b v) :=
  h.fset

theorem noteResidue {te c b entry predicted found} (h : s₀.Keeps s) :
    s₀.Keeps (s.noteResidue te c b entry predicted found) :=
  h.fset.fset.fset.fset.fset

theorem putLive {o st} (h : s₀.Keeps s) : s₀.Keeps (s.putLive o st) :=
  h.fset.fset

theorem noteReason {reason} (h : s₀.Keeps s) : s₀.Keeps (s.noteReason reason) :=
  ite h.update.fset h.update

theorem worsen {o st reason} (h : s₀.Keeps s) : s₀.Keeps (s.worsen o st reason) :=
  ite h ((ite h.putLive.fset h.putLive).noteReason.raiseFollow)

theorem doubt {o reason} (h : s₀.Keeps s) : s₀.Keeps (s.doubt o reason) :=
  h.worsen

theorem doubtKind {kind index reason} (h : s₀.Keeps s) : s₀.Keeps (s.doubtKind kind index reason) :=
  h.foldl fun _ _ h => (ite h.doubt h)

theorem doubtPartition {p reason} (h : s₀.Keeps s) : s₀.Keeps (s.doubtPartition p reason) :=
  h.doubtKind

theorem capsChanged {resource} (h : s₀.Keeps s) : s₀.Keeps (s.capsChanged resource) :=
  h.fwrap.raiseSide

theorem setCaps {f v resource} (h : s₀.Keeps s) : s₀.Keeps (s.setCaps f v resource) :=
  ite h h.fset.capsChanged

theorem setChamois {m} (h : s₀.Keeps s) : s₀.Keeps (s.setChamois m) :=
  h.update.fset.setCaps

theorem chamoisOut {k} (h : s₀.Keeps s) : s₀.Keeps (s.chamoisOut k) :=
  ite h (ite h.setGft.setChamois.fset.raiseFollow h.setGft.setChamois.fset.raiseFollow.update.raiseFollow)

theorem countEvent {te} (h : s₀.Keeps s) : s₀.Keeps (s.countEvent te) :=
  h.setGft.fset.fadd

theorem countPending (h : s₀.Keeps s) : s₀.Keeps (s.countPending) :=
  h.fset

theorem putModel {vi id m} (h : s₀.Keeps s) : s₀.Keeps (s.putModel vi id m) :=
  h.update

theorem countGranule {o up} (h : s₀.Keeps s) : s₀.Keeps (s.countGranule o up) := by
  unfold State.countGranule
  dsimp only
  split
  · exact h.fset
  · exact h

theorem setGranule {die g kind vi rt} (h : s₀.Keeps s) : s₀.Keeps (s.setGranule die g kind vi rt) := by
  unfold State.setGranule
  extract_lets i old new s₁ s₂ s₃ s₄ s₅ s₆ x
  exact ite h.fset.fset.fset h.fset.fset.fset.countGranule.countGranule.scrub.fset.update

theorem setPoison {a} (h : s₀.Keeps s) : s₀.Keeps (s.setPoison a) := by
  unfold State.setPoison
  split
  · exact h.update
  · exact h.update
  · exact h

theorem copyMarked {src dst n} (h : s₀.Keeps s) : s₀.Keeps (s.copyMarked src dst n) :=
  h.store.foldl fun _ _ h => h.setPoison

theorem moveModel {vi id pair} (h : s₀.Keeps s) : s₀.Keeps (s.moveModel vi id pair) := by
  unfold State.moveModel
  dsimp only
  split
  · exact h
  split
  · exact h
  · exact (h.foldl fun _ _ h => h.setGranule).copyMarked.putModel

/-- The number of pairs is made a variable first: the kernel would else unfold its division when it compares the cases of
the match. -/
theorem compact {vi die} (h : s₀.Keeps s) : s₀.Keeps (s.compact vi die) := by
  obtain ⟨pairs, hp⟩ := exists_eq (a' := modelPairs)
  unfold State.compact
  rw [← hp]
  refine h.foldl fun t p h => ?_
  split
  · exact h
  · dsimp only
    split
    · exact h
    · exact ite h.moveModel h

theorem map_fst {o : Option β} {f : β → α} {p : State × α} (h : s₀.Keeps s) :
    o.map (fun x => (s, f x)) = Option.some p → s₀.Keeps p.1 := by
  cases o with
  | none => nofun
  | some x => rintro ⟨⟩; exact h

theorem runOf {vi die n p} (h : s₀.Keeps s) : s.runOf vi die n = Option.some p → s₀.Keeps p.1 := by
  unfold State.runOf
  split
  · exact h.some_fst_eq
  · exact h.compact.map_fst

theorem dropModel {vi id} (h : s₀.Keeps s) : s₀.Keeps (s.dropModel vi id) := by
  unfold State.dropModel
  split
  · exact h
  · exact h.putModel

theorem makeRoom {vi die n fuel p} (h : s₀.Keeps s) :
    s.makeRoom vi die n fuel = Option.some p → s₀.Keeps p.1 := by
  induction fuel generalizing s with
  | zero => nofun
  | succ k ih =>
    unfold State.makeRoom
    split
    · next r heq => exact fun e => Option.some.inj e ▸ h.runOf heq
    split
    · exact ih h.dropModel
    split
    · nofun
    · exact ih h.dropModel

theorem startLoad {vi id pair cls st} (h : s₀.Keeps s) : s₀.Keeps (s.startLoad vi id pair cls st) := by
  unfold State.startLoad
  dsimp only
  split
  · exact h
  · exact (h.foldl fun _ _ h => h.setGranule).putModel

theorem demandModel {vi id cls} (h : s₀.Keeps s) : s₀.Keeps (s.demandModel vi id cls) := by
  obtain ⟨pairs, hp⟩ := exists_eq (a' := modelPairs)
  unfold State.demandModel
  rw [← hp]
  split
  · exact h
  refine ite h ?_
  split
  · exact h.putModel
  · split
    · exact h
    · next hr => exact (h.makeRoom hr).startLoad
  · exact h

theorem repin {key c} (h : s₀.Keeps s) : s₀.Keeps (s.repin key c) := by
  unfold State.repin
  dsimp only
  split
  · exact h
  · exact ite h (ite h.update (ite h.demandModel h.putModel.raiseSide))

theorem clusterLost {cluster} (h : s₀.Keeps s) : s₀.Keeps (s.clusterLost cluster) :=
  h.foldl fun _ _ h => h.dropModel.repin

theorem setUsable {te u} (h : s₀.Keeps s) : s₀.Keeps (s.setUsable te u) :=
  ite h <|
    ite h.fset.fset.fset.fset.capsChanged.countPending.clusterLost
      h.fset.fset.fset.fset.capsChanged.countPending

theorem refreshProtected {c} (h : s₀.Keeps s) : s₀.Keeps (s.refreshProtected c) :=
  h.fset

theorem lockRt {te held} (h : s₀.Keeps s) : s₀.Keeps (s.lockRt te held) :=
  h.fset.fset.refreshProtected

theorem setRtPart {p x} (h : s₀.Keeps s) : s₀.Keeps (s.setRtPart p x) :=
  h.update

theorem rtEngineLost {te} (h : s₀.Keeps s) : s₀.Keeps (s.rtEngineLost te) := by
  unfold State.rtEngineLost
  dsimp only
  refine h.foldl fun t x h => ?_
  split
  · split
    · exact h.fset.raiseSide
    · refine raiseSide ?_
      refine setRtPart ?_
      refine fset ?_
      refine lockRt ?_
      refine fset ?_
      split
      · exact h.fset.raiseSide
      · exact h.fset.raiseSide.requestPreempt
  · exact h.fset.raiseSide

theorem retire {te} (h : s₀.Keeps s) : s₀.Keeps (s.retire te) :=
  ite h.fset.fset.raiseFollow h.fset.fset.raiseFollow.failAndReport.settleAll

theorem quarantine {te} (h : s₀.Keeps s) : s₀.Keeps (s.quarantine te) :=
  ite h.chamoisOut <|
    ite h <|
    ite ((ite h.countEvent.fset.fset.raiseFollow.setUsable.rtEngineLost
      h.countEvent.fset.fset.raiseFollow.setUsable).retire) ((ite
      h.countEvent.fset.fset.raiseFollow.setUsable.rtEngineLost
      h.countEvent.fset.fset.raiseFollow.setUsable).setGft)

theorem checkFailure {c te detail} (h : s₀.Keeps s) : s₀.Keeps (s.checkFailure c te detail) :=
  (h.checkStops.foldl fun _ _ h => h.doubtPartition).quarantine

theorem entryFails {te b f} (h : s₀.Keeps s) : s₀.Keeps (s.entryFails te b f) :=
  h.noteResidue.settleWrites.setBankState.checkFailure

theorem upsetFails {te c b others} (h : s₀.Keeps s) : s₀.Keeps (s.upsetFails te c b others) :=
  h.fresh.fresh.fresh.noteResidue.settleWrites.setBankState.checkFailure

theorem fetchAll {who a} (h : s₀.Keeps s) : s₀.Keeps (s.fetchAll who a).1 := by
  induction a generalizing s who with
  | nil =>
    unfold State.fetchAll
    exact h
  | cons x a ih =>
    unfold State.fetchAll
    exact ih h.fetchBytes

theorem reload {te l} (h : s₀.Keeps s) : s₀.Keeps (s.reload te l).1 :=
  h.fetchAll

theorem reloadAll {te a} (h : s₀.Keeps s) : s₀.Keeps (s.reloadAll te a).1 := by
  induction a generalizing s te with
  | nil =>
    unfold State.reloadAll
    exact h
  | cons x a ih =>
    unfold State.reloadAll
    exact ih h.reload

theorem teFault {te c} (h : s₀.Keeps s) : s₀.Keeps (s.teFault te c) :=
  h.settleWrites.raiseRec.teStop.testIfDue

theorem tePlace {te pc loops} (h : s₀.Keeps s) : s₀.Keeps (s.tePlace te pc loops) :=
  ite ((ite h.setEng.fset.fset.fset.setTeStat h.setEng.fset.fset.fset).teFault) <|
    ite h.setEng.fset.fset.fset.setTeStat h.setEng.fset.fset.fset

theorem resumeLoads {te e signature pc} (h : s₀.Keeps s) : s₀.Keeps (s.resumeLoads te e signature pc) := by
  unfold State.resumeLoads
  dsimp only
  split
  · exact h.teRefused
  · exact h.reloadAll.setEng.fset.tePlace

theorem opTeResume {te upset} (h : s₀.Keeps s) : s₀.Keeps (s.opTeResume te upset) := by
  unfold State.opTeResume
  extract_lets a s₁ img
  have h₁ : s₀.Keeps s₁ := h.correctSoft.countLines.takeTokens
  split
  · exact h.teRefused
  refine ite h₁.reportPoison.checkStops (ite h₁.checkStops (h₁.loadProgram fun t p ht => ?_))
  extract_lets c s₂ e fill e' s₃ s₄ s₅
  have h₂ : s₀.Keeps s₂ := ht.controlOf
  have h₅ : s₀.Keeps s₅ := h₂.fwrap.teBegin.setBankState.setBankState
  clear_value s₅ e'
  split
  · exact h₅.entryFails
  · exact h₅.entryFails
  · exact ite h₅.upsetFails h₅.resumeLoads

theorem execTeResume {who te upset} (h : s₀.Keeps s) :
    nextWith (Machine.execTeResume who te upset s) s₀.Keeps := by
  unfold Machine.execTeResume
  split
  · exact (h.teCtrlRefused ‹_›).next
  split
  · exact h.dropReg.next
  split
  · exact h.opTeResume.next
  · exact h.next

theorem abortEngine {te} (h : s₀.Keeps s) : s₀.Keeps (s.abortEngine te) :=
  h.settleWrites.setBankState.setBankState.setEng.setTeStat.fset

theorem shrinkDie {vi die a} (h : s₀.Keeps s) : s₀.Keeps (s.shrinkDie vi die a) := by
  induction a generalizing s vi die with
  | zero =>
    unfold State.shrinkDie
    exact h
  | succ a ih =>
    unfold State.shrinkDie
    dsimp only
    split
    · exact h
    · exact ih h.setGranule
    split
    · exact ih h.dropModel
    split
    · exact h
    refine ih ?_
    refine raiseSide ?_
    split
    · exact h.dropModel
    · exact h.dropModel.putModel

theorem shrinkAll (h : s₀.Keeps s) : s₀.Keeps (s.shrinkAll) :=
  h.foldl fun _ _ h => (ite (h.foldl fun _ _ h1 => h1.shrinkDie) ((h.foldl fun _ _ h1 => h1.shrinkDie).update))

theorem opTeAbort {te} (h : s₀.Keeps s) : s₀.Keeps (s.opTeAbort te) := by
  unfold State.opTeAbort
  dsimp only
  split
  · split
    · exact h.abortEngine
    · exact h.abortEngine.rankStopped.stopJob.settle.shrinkAll.testIfDue
  · exact h

theorem execTeAbort {who te} (h : s₀.Keeps s) : nextWith (Machine.execTeAbort who te s) s₀.Keeps := by
  unfold Machine.execTeAbort
  split
  · exact (h.teCtrlRefused ‹_›).next
  · exact h.opTeAbort.next

theorem giveGranule {die g kind vi rt} (h : s₀.Keeps s) : s₀.Keeps (s.giveGranule die g kind vi rt) :=
  ite h.setGranule.refreshProtected.update h.setGranule.refreshProtected

theorem execGranuleOwnerWrite {who cluster granule value} (h : s₀.Keeps s) :
    nextWith (Machine.execGranuleOwnerWrite who cluster granule value s) s₀.Keeps := by
  unfold Machine.execGranuleOwnerWrite
  dsimp only
  split
  · exact h.dropWrite.next
  split
  · exact h.giveGranule.dropReg.next
  · exact h.giveGranule.answerOk.next

theorem execSeRingTailWrite {who ring tail} (h : s₀.Keeps s) :
    nextWith (Machine.execSeRingTailWrite who ring tail s) s₀.Keeps := by
  unfold Machine.execSeRingTailWrite
  split
  · exact h.setReg.answerOk.next
  · exact h.dropWrite.next

theorem ringCtrl {who n op} (h : s₀.Keeps s) (hf : ∀ t a₀, s₀.Keeps t → s₀.Keeps (op t a₀)) :
    s₀.Keeps (s.ringCtrl who n op) :=
  ite ((hf _ _ h).answerOk) h.dropWrite

theorem opRingStart {n} (h : s₀.Keeps s) : s₀.Keeps (s.opRingStart n) :=
  ite h.setRing.setRingSt h

theorem execSeRingStart {who ring} (h : s₀.Keeps s) : nextWith (Machine.execSeRingStart who ring s) s₀.Keeps :=
  (h.ringCtrl (fun _ _ h => h.opRingStart)).next

theorem execSeRingPause {who ring} (h : s₀.Keeps s) : nextWith (Machine.execSeRingPause who ring s) s₀.Keeps :=
  (h.ringCtrl (fun _ _ h => h.opRingPause)).next

theorem execSeRingAbort {who ring} (h : s₀.Keeps s) : nextWith (Machine.execSeRingAbort who ring s) s₀.Keeps :=
  (h.ringCtrl (fun _ _ h => h.opRingAbort)).next

theorem xdie {who die job rank act} (h : s₀.Keeps s) (hf : ∀ t a₀, s₀.Keeps t → s₀.Keeps (act t a₀)) :
    s₀.Keeps (s.xdie who die job rank act) := by
  unfold State.xdie
  dsimp only
  split
  · exact h.dropWrite
  split
  · exact h.answerOk
  · exact ite h.dropReg (ite h.dropReg ((hf _ _ h).answerOk))

theorem execXdiePreempt {who die job rank} (h : s₀.Keeps s) :
    nextWith (Machine.execXdiePreempt who die job rank s) s₀.Keeps :=
  (h.xdie (fun _ _ h => h.opTePreempt)).next

theorem execXdieResume {who die job rank} (h : s₀.Keeps s) :
    nextWith (Machine.execXdieResume who die job rank s) s₀.Keeps :=
  (h.xdie (fun _ _ h => (ite h.opTeResume h))).next

theorem execXdieAbort {who die job rank} (h : s₀.Keeps s) :
    nextWith (Machine.execXdieAbort who die job rank s) s₀.Keeps :=
  (h.xdie (fun _ _ h => h.opTeAbort)).next

theorem execXdiePauseRings {who die job rank} (h : s₀.Keeps s) :
    nextWith (Machine.execXdiePauseRings who die job rank s) s₀.Keeps :=
  (h.xdie (fun _ _ h => (h.foldl fun _ _ h1 => h1.opRingPause))).next

end Sys2Proof.Machine.State.Keeps
end

section
/-! PROOFS. Boot control, flash and the granting of watermarks keep what every step keeps. -/

namespace Sys2Proof.Machine.State.Keeps
variable {s₀ s t u : State} {α β : Type}

theorem ownWriteC {who x go v mask} (h : s₀.Keeps s) : s₀.Keeps (s.ownWriteC who x go v mask) := by
  unfold State.ownWriteC
  dsimp only
  split
  · exact ite h.plainWrite ((((h.onBit (fun _ h => h.execTeStart)).onBit (fun _ h => h.execTePreempt)).onBit
      (fun _ h => h.execTeResume)).onBit (fun _ h => h.execTeAbort))
  split
  · exact h.ran h.execGranuleOwnerWrite
  · exact ite (h.ran h.execSeRingTailWrite) <|
      ite (ite h.plainWrite (((h.onBit (fun _ h => h.execSeRingStart)).onBit
        (fun _ h => h.execSeRingPause)).onBit (fun _ h => h.execSeRingAbort))) <|
      ite (ite (h.ran h.execXdiePreempt) (ite (h.ran h.execXdieResume) (ite (h.ran h.execXdieAbort) (ite
        (h.ran h.execXdiePauseRings) (ite h.dropWrite h.dropReg))))) h.plainWrite

theorem bootCtrl {who f} (h : s₀.Keeps s) (hf : ∀ t, s₀.Keeps t → s₀.Keeps (f t)) :
    s₀.Keeps (s.bootCtrl who f) :=
  ite (hf _ h) h.dropWrite

theorem bootRefused (h : s₀.Keeps s) : s₀.Keeps (s.bootRefused) :=
  h.fset.answerOk

theorem showBanks (h : s₀.Keeps s) : s₀.Keeps (s.showBanks) :=
  h.fset.fset.fset

theorem writeEntry {e} (h : s₀.Keeps s) : s₀.Keeps (s.writeEntry e) :=
  showBanks (h.updateFlash (.ite (.update _) (.update _)))

theorem execBootCommit {who} (h : s₀.Keeps s) : nextWith (Machine.execBootCommit who s) s₀.Keeps := by
  refine (h.bootCtrl fun t h => ?_).next
  dsimp only
  split
  · exact h.bootRefused
  split
  · exact h.bootRefused
  · exact (h.writeEntry.updateFlash (.raiseFloor _ _)).fset.answerOk

theorem execBootSwitch {who} (h : s₀.Keeps s) : nextWith (Machine.execBootSwitch who s) s₀.Keeps := by
  unfold Machine.execBootSwitch
  dsimp only
  refine next ?_
  refine h.bootCtrl fun t h => ?_
  split
  · exact h.bootRefused
  · exact ite h.bootRefused h.writeEntry.answerOk

theorem execBootRestart {who} (h : s₀.Keeps s) : nextWith (Machine.execBootRestart who s) s₀.Keeps :=
  (h.bootCtrl (fun _ h => h.update.answerOk)).next

theorem execFlashProgram {who value} (h : s₀.Keeps s) :
    nextWith (Machine.execFlashProgram who value s) s₀.Keeps := by
  unfold Machine.execFlashProgram
  extract_lets a v target sectors s₁ s₂ s₃ b e x e₁ s₄ x₁ s₅
  have h₁ : s₀.Keeps s₁ := ite h h.fset
  have h₂ : s₀.Keeps s₂ := ite h₁ h₁.fset
  split
  · exact h.dropWrite.next
  split
  · exact h.answerOk.next
  split
  · exact h₂.dropReg.next
  split
  · exact h.fset.fset.fset.answerOk.next
  · exact h.fset.fset.writeEntry.update.fset.fset.answerOk.next

theorem execWatermarkGrant {who target upTo} (h : s₀.Keeps s) :
    nextWith (Machine.execWatermarkGrant who target upTo s) s₀.Keeps := by
  unfold Machine.execWatermarkGrant
  dsimp only
  split
  · exact h.dropWrite.next
  split
  · exact h.fset.dropReg.next
  · exact h.fset.fset.fset.answerOk.next

end Sys2Proof.Machine.State.Keeps
end

section
/-! PROOFS. Life states, firmware, functions and the safety die's registers keep what every step keeps. -/

namespace Sys2Proof.Machine.State.Keeps
variable {s₀ s t u : State} {α β : Type}

theorem fetchAs {who a n} (h : s₀.Keeps s) : s₀.Keeps (s.fetchAs who a n).1 := by
  unfold State.fetchAs
  dsimp only
  split
  · exact h.refused
  split
  · exact h.correctSteered.takeTokens.countLines.reportPoison
  · exact h.correctSteered.takeTokens.countLines.noteRead

theorem lifeRequest (h : s₀.Keeps s) : s₀.Keeps (s.lifeRequest).1 := by
  unfold State.lifeRequest
  dsimp only
  split
  · exact h.fetchAs
  · exact h

theorem lifeMove {who op flashOk f} (h : s₀.Keeps s) (hf : ∀ t a₀, s₀.Keeps t → s₀.Keeps (f t a₀)) :
    s₀.Keeps (s.lifeMove who op flashOk f) := by
  unfold State.lifeMove
  dsimp only
  split
  · exact h.dropWrite
  split
  · exact h.answerOk
  split
  · exact (h.lifeRequest.of_fst ‹_›).fset.answerOk
  · exact ite h <|
      ite ((hf _ _ ((h.lifeRequest.of_fst ‹_›).fset)).answerOk) ((h.lifeRequest.of_fst ‹_›).fset.answerOk)

theorem lifeDone {op} (h : s₀.Keeps s) : s₀.Keeps (s.lifeDone op) := by
  unfold State.lifeDone
  extract_lets x s₁ x₁
  exact ite h.raiseSide h.raiseSide.update

theorem execSetDevRoot {who flashOk} (h : s₀.Keeps s) :
    nextWith (Machine.execSetDevRoot who flashOk s) s₀.Keeps :=
  (h.lifeMove (fun _ _ h => (h.updateFlash (.update _)).lifeDone)).next

theorem sealPage {p} (h : s₀.Keeps s) : s₀.Keeps (s.sealPage p) := h.updateFlash (.sealing _ p)

theorem execToProd {who flashOk} (h : s₀.Keeps s) : nextWith (Machine.execToProd who flashOk s) s₀.Keeps := by
  refine (h.lifeMove fun t r h => ?_).next
  dsimp only
  split
  · exact h.update.fset
  · next hr => exact (h.update.updateFlash (.setRoot hr)).sealPage.update.fset

theorem execToRetired {who flashOk} (h : s₀.Keeps s) :
    nextWith (Machine.execToRetired who flashOk s) s₀.Keeps :=
  (h.lifeMove (fun _ _ h => (h.scrub.scrub.updateFlash (.update _)).sealPage.lifeDone)).next

theorem execToDev {who flashOk} (h : s₀.Keeps s) : nextWith (Machine.execToDev who flashOk s) s₀.Keeps :=
  (h.lifeMove (fun _ _ h => h.sealPage.lifeDone)).next

theorem fwCommand {who op f} (h : s₀.Keeps s) (hf : ∀ t, s₀.Keeps t → s₀.Keeps (f t).1) :
    s₀.Keeps (s.fwCommand who op f) :=
  ite h.dropWrite ((hf _ h.fset).fset.answerOk)

theorem fwVerify {src} (h : s₀.Keeps s) : s₀.Keeps (s.fwVerify src).1 := by
  unfold State.fwVerify
  split
  · next e => exact h.fetchAs.of_fst e
  · next e =>
    have h₁ := h.fetchAs.of_fst e
    dsimp only
    split
    · exact h₁
    split
    · next e => exact h₁.fetchAs.of_fst e
    · next e => exact h₁.fetchAs.of_fst e

theorem setPair {p x} (h : s₀.Keeps s) : s₀.Keeps (s.setPair p x) :=
  h.update

theorem copySram {p off bs} (h : s₀.Keeps s) : s₀.Keeps (s.copySram p off bs) :=
  h.setPair

theorem copyCode {ps slot code} (h : s₀.Keeps s) : s₀.Keeps (s.copyCode ps slot code) :=
  h.foldl fun _ _ h => h.copySram

theorem restartPair {p} (h : s₀.Keeps s) : s₀.Keeps (s.restartPair p) :=
  h.setPair

theorem fwBusy {b} (h : s₀.Keeps s) : s₀.Keeps (s.fwBusy b) :=
  h.fset

theorem execFwLoad {who} (h : s₀.Keeps s) : nextWith (Machine.execFwLoad who s) s₀.Keeps := by
  unfold Machine.execFwLoad
  dsimp only
  refine next ?_
  refine h.fwCommand fun t h => ?_
  split
  · exact h
  split
  · exact h.fwVerify.raiseRec
  · exact (h.fwVerify.copyCode.foldl fun _ _ h => h.restartPair).update.fwBusy

theorem setFwSt {st} (h : s₀.Keeps s) : s₀.Keeps (s.setFwSt st) :=
  h.fset

theorem execFwStage {who} (h : s₀.Keeps s) : nextWith (Machine.execFwStage who s) s₀.Keeps := by
  unfold Machine.execFwStage
  dsimp only
  refine next ?_
  refine h.fwCommand fun t h => ?_
  split
  · exact h
  split
  · exact h
  split
  · exact h.fwVerify.raiseRec
  split
  · split
    · exact h.fwVerify.raiseRec
    · exact h.fwVerify.copyCode.update.setFwSt.fset
  split
  · exact h.fwVerify.raiseRec
  · exact h.fwVerify.copyCode.update.setFwSt.fset

theorem startHandoff (h : s₀.Keeps s) : s₀.Keeps (s.startHandoff) :=
  h.update.fset.setFwSt

theorem execFwActivate {who} (h : s₀.Keeps s) : nextWith (Machine.execFwActivate who s) s₀.Keeps := by
  unfold Machine.execFwActivate
  dsimp only
  refine next ?_
  refine h.fwCommand fun t h => ?_
  split
  · exact h
  split
  · exact h.update.setFwSt.fwBusy
  · exact h.startHandoff.fwBusy

theorem dropStaged (h : s₀.Keeps s) : s₀.Keeps (s.dropStaged) :=
  h.update.setFwSt.fset

theorem execFwCancel {who} (h : s₀.Keeps s) : nextWith (Machine.execFwCancel who s) s₀.Keeps := by
  unfold Machine.execFwCancel
  refine next ?_
  refine h.fwCommand fun t h => ?_
  split
  · exact h.dropStaged
  · exact h

theorem execFwCommit {who} (h : s₀.Keeps s) : nextWith (Machine.execFwCommit who s) s₀.Keeps := by
  refine (h.fwCommand fun t h => ?_).next
  split
  · exact h
  split
  · exact h
  · next hn =>
    simp only [not_or, not_lt] at hn
    obtain ⟨-, -, hfloor⟩ := hn
    exact (h.updateFlash (.raiseFwFloor hfloor)).fset

theorem execDriverHeartbeat {who slot} (h : s₀.Keeps s) :
    nextWith (Machine.execDriverHeartbeat who slot s) s₀.Keeps := by
  unfold Machine.execDriverHeartbeat
  dsimp only
  split
  · exact h.dropWrite.next
  split
  · exact h.answerOk.next
  · exact h.update.fset.answerOk.next

theorem thawQueues {vi} (h : s₀.Keeps s) : s₀.Keeps (s.thawQueues vi) :=
  h.foldl fun _ _ h => (ite (ite h.fset.drainHeld h.fset) h)

theorem serveSlot {slot} (h : s₀.Keeps s) : s₀.Keeps (s.serveSlot slot) :=
  ite h <|
    ite (h.foldl fun _ _ h => (h.foldl fun _ _ h1 => (ite h1.fset h1))) <|
    ite (h.foldl fun _ _ h => (ite h.thawQueues h)) h

theorem execDriverAttach {who slot} (h : s₀.Keeps s) :
    nextWith (Machine.execDriverAttach who slot s) s₀.Keeps := by
  unfold Machine.execDriverAttach
  dsimp only
  split
  · exact h.dropWrite.next
  split
  · exact h.answerOk.next
  split
  · exact h.fset.fset.update.raiseRec.serveSlot.answerOk.next
  · exact h.fset.fset.update.answerOk.next

theorem loseDriver {slot} (h : s₀.Keeps s) : s₀.Keeps (s.loseDriver slot) :=
  h.fset.update.raiseRec.serveSlot

theorem execDriverDetach {who slot} (h : s₀.Keeps s) :
    nextWith (Machine.execDriverDetach who slot s) s₀.Keeps := by
  unfold Machine.execDriverDetach
  split
  · exact h.dropWrite.next
  split
  · exact h.loseDriver.answerOk.next
  · exact h.answerOk.next

theorem hlogShow {bs valid} (h : s₀.Keeps s) : s₀.Keeps (s.hlogShow bs valid) :=
  (h.foldl fun _ _ h => h.fset).fset.fset

theorem freeBytes {a} (h : s₀.Keeps s) : s₀.Keeps (s.freeBytes a).1 := by
  induction a generalizing s with
  | zero =>
    unfold State.freeBytes
    exact h
  | succ a ih =>
    unfold State.freeBytes
    exact ih h.fresh

theorem execHlogRead {who value} (h : s₀.Keeps s) : nextWith (Machine.execHlogRead who value s) s₀.Keeps := by
  unfold Machine.execHlogRead
  dsimp only
  split
  · exact h.dropWrite.next
  split
  · exact h.fset.hlogShow.answerOk.next
  · exact h.fset.freeBytes.hlogShow.answerOk.next

theorem setFallback {v} (h : s₀.Keeps s) : s₀.Keeps (s.setFallback v) :=
  h.fset.fset

theorem enterSafe {reason fallbackGoesOn} (h : s₀.Keeps s) : s₀.Keeps (s.enterSafe reason fallbackGoesOn) :=
  ite h <|
    ite (ite ((h.fset.fset.update.fadd.raiseFollow.foldl fun _ _ h => h.worsen).update)
      (h.fset.fset.update.fadd.raiseFollow.foldl fun _ _ h => h.worsen)) ((ite
      ((h.fset.fset.update.fadd.raiseFollow.foldl fun _ _ h => h.worsen).update)
      (h.fset.fset.update.fadd.raiseFollow.foldl fun _ _ h => h.worsen)).setFallback.fset.fset)

theorem newEvent (h : s₀.Keeps s) : s₀.Keeps (s.newEvent) :=
  h.update

theorem execRequestSafe {who} (h : s₀.Keeps s) : nextWith (Machine.execRequestSafe who s) s₀.Keeps := by
  unfold Machine.execRequestSafe
  dsimp only
  split
  · split
    · exact h.newEvent.enterSafe.answerOk.next
    · exact h.dropWrite.next
  · split
    · exact h.newEvent.enterSafe.answerOk.next
    · exact h.dropWrite.next
  split
  · exact h.newEvent.enterSafe.answerOk.next
  · exact h.dropWrite.next

theorem setTahrSeq {n x} (h : s₀.Keeps s) : s₀.Keeps (s.setTahrSeq n x) :=
  h.update

theorem setSqState {seq st} (h : s₀.Keeps s) : s₀.Keeps (s.setSqState seq st) :=
  h.fset

theorem tahrStart {seq p} (h : s₀.Keeps s) : s₀.Keeps (s.tahrStart seq p) :=
  h.setTahrSeq.fset.setSqState

theorem tahrRestart {seq} (h : s₀.Keeps s) : s₀.Keeps (s.tahrRestart seq) := by
  unfold State.tahrRestart
  dsimp only
  split
  · exact h
  · exact ite h.tahrStart.fset h.tahrStart

theorem execTsqRestart {who seq} (h : s₀.Keeps s) : nextWith (Machine.execTsqRestart who seq s) s₀.Keeps := by
  unfold Machine.execTsqRestart
  dsimp only
  split
  · exact h.dropWrite.next
  · exact h.tahrRestart.answerOk.next

theorem execTsqStop {who seq} (h : s₀.Keeps s) : nextWith (Machine.execTsqStop who seq s) s₀.Keeps := by
  unfold Machine.execTsqStop
  dsimp only
  split
  · exact h.dropWrite.next
  · exact h.setTahrSeq.answerOk.next

theorem execTableSwap {who seq table variant} (h : s₀.Keeps s) :
    nextWith (Machine.execTableSwap who seq table variant s) s₀.Keeps := by
  unfold Machine.execTableSwap
  extract_lets a s₁ x x₁ s₂
  split
  · exact h.dropWrite.next
  split
  · exact h.setReg.fset.raiseRec.answerOk.next
  · exact (ite h.setReg.fset.setTahrSeq.setSqState h.setReg.fset.setTahrSeq).answerOk.next

theorem execSeBind {who value} (h : s₀.Keeps s) : nextWith (Machine.execSeBind who value s) s₀.Keeps := by
  unfold Machine.execSeBind
  extract_lets v a n seq program control busy
  clear_value control busy
  refine .ite h.dropWrite.next ?_
  split
  · exact h.setTahrSeq.setRing.tahrStart.fset.answerOk.next
  · exact h.dropReg.next

theorem execSeUnbind {who value} (h : s₀.Keeps s) : nextWith (Machine.execSeUnbind who value s) s₀.Keeps := by
  unfold Machine.execSeUnbind
  extract_lets n seq control
  clear_value control
  exact .ite h.dropWrite.next (.ite h.setTahrSeq.setRing.setSqState.answerOk.next h.answerOk.next)

theorem viCommand {who vi cmd status shrink effect} (h : s₀.Keeps s) (hf : ∀ t, s₀.Keeps t → s₀.Keeps
    (effect t)) :
    s₀.Keeps (s.viCommand who vi cmd status shrink effect) :=
  ite h.dropWrite (ite ((hf _ h.fset.fset.fset).answerOk) h.fset.fset.fset.update.raiseRec.answerOk)

theorem takeGuaranteed {vi} (h : s₀.Keeps s) : s₀.Keeps (s.takeGuaranteed vi) :=
  h.foldl fun _ _ h => (h.foldl fun _ _ h1 => h1.setGranule)

theorem countInstances (h : s₀.Keeps s) : s₀.Keeps (s.countInstances) :=
  h.fset.fset

theorem setViSt {vi st} (h : s₀.Keeps s) : s₀.Keeps (s.setViSt vi st) :=
  h.fset.countInstances

theorem execViCreate {who vi} (h : s₀.Keeps s) : nextWith (Machine.execViCreate who vi s) s₀.Keeps :=
  (h.viCommand (fun _ h => (h.copyConfig.update.takeGuaranteed.foldl fun _ _ h1 => h1.fset).setViSt)).next

theorem settleBuckets {vi} (h : s₀.Keeps s) : s₀.Keeps (s.settleBuckets vi) :=
  h.update

theorem shrinkNow {vi} (h : s₀.Keeps s) : s₀.Keeps (s.shrinkNow vi) :=
  h.foldl fun _ _ h => (ite h.requestPreempt h)

theorem execViResize {who vi shrinkNow} (h : s₀.Keeps s) :
    nextWith (Machine.execViResize who vi shrinkNow s) s₀.Keeps :=
  (h.viCommand (fun _ h => (ite h.settleBuckets.copyConfig.takeGuaranteed.update.shrinkAll.shrinkNow
    h.settleBuckets.copyConfig.takeGuaranteed.update.shrinkAll).countInstances)).next

theorem freezeQueues {vi} (h : s₀.Keeps s) : s₀.Keeps (s.freezeQueues vi) :=
  h.foldl fun _ _ h => (ite h.fset h)

theorem leaveBuffer {d b copy} (h : s₀.Keeps s) : s₀.Keeps (s.leaveBuffer d b copy) :=
  (ite (h.foldl fun _ _ h => (ite h.copyMarked h)) h).fset.fset

theorem resetBuffers {vi} (h : s₀.Keeps s) : s₀.Keeps (s.resetBuffers vi) :=
  h.foldl fun _ _ h => (ite h.leaveBuffer h)

theorem abortRanks {j} (h : s₀.Keeps s) : s₀.Keeps (s.abortRanks j) := by
  unfold State.abortRanks
  refine h.foldl fun t x h => ?_
  split
  · exact h
  · exact ite h.rankStopped h.abortEngine.rankStopped

theorem resetJobs {vi st} (h : s₀.Keeps s) : s₀.Keeps (s.resetJobs vi st) :=
  ((h.foldl fun _ _ h => (ite h.abortRanks.modJob.stopJob h.abortRanks.modJob.settle)).foldl fun _ _ h =>
    (ite h.setCq h)).foldl fun _ _ h => h.freeJob

theorem setGfxCtx {c x} (h : s₀.Keeps s) : s₀.Keeps (s.setGfxCtx c x) :=
  h.update

theorem setGfxState {c st} (h : s₀.Keeps s) : s₀.Keeps (s.setGfxState c st) :=
  h.fset

theorem opGfxAbort {c} (h : s₀.Keeps s) : s₀.Keeps (s.opGfxAbort c) :=
  h.setGfxState.setGfxCtx

theorem gfxResetVi {vi} (h : s₀.Keeps s) : s₀.Keeps (s.gfxResetVi vi) :=
  h.foldl fun _ _ h => (ite h.opGfxAbort h)

theorem resetModels {vi} (h : s₀.Keeps s) : s₀.Keeps (s.resetModels vi) :=
  h.update

theorem countBuffers {g} (h : s₀.Keeps s) : s₀.Keeps (s.countBuffers g) :=
  h.fset.fset

theorem setIppGroup {g x} (h : s₀.Keeps s) : s₀.Keeps (s.setIppGroup g x) :=
  h.update

theorem ippResetVi {vi} (h : s₀.Keeps s) : s₀.Keeps (s.ippResetVi vi) :=
  h.foldl fun _ _ h => (ite h.fset.setIppGroup.countBuffers h)

theorem opViReset {vi st back} (h : s₀.Keeps s) : s₀.Keeps (s.opViReset vi st back) := by
  unfold State.opViReset
  extract_lets x s₁ s₂ rings s₃ s₄ s₅ x₁ s₆
  have h₅ : s₀.Keeps s₅ := h.update.setViSt.fset.freezeQueues.resetJobs.resetBuffers.foldl fun _ _ h =>
    h.opRingAbort
  exact h₅.update.ippResetVi.resetModels.gfxResetVi

theorem execViReset {who vi} (h : s₀.Keeps s) : nextWith (Machine.execViReset who vi s) s₀.Keeps :=
  (h.viCommand (fun _ h => h.opViReset)).next

theorem execViQuiesce {who vi} (h : s₀.Keeps s) : nextWith (Machine.execViQuiesce who vi s) s₀.Keeps :=
  (h.viCommand (fun _ h => h.freezeQueues.setViSt)).next

theorem execViResume {who vi} (h : s₀.Keeps s) : nextWith (Machine.execViResume who vi s) s₀.Keeps :=
  (h.viCommand (fun _ h => h.setViSt.thawQueues)).next

theorem resetQos {vi} (h : s₀.Keeps s) : s₀.Keeps (s.resetQos vi) :=
  (h.foldl fun _ _ h => (ite h.setCq h)).fset.update.fset

theorem clearQueue {q} (h : s₀.Keeps s) : s₀.Keeps (s.clearQueue q) :=
  h.foldl fun _ _ h => h.setReg

theorem execViRemove {who vi} (h : s₀.Keeps s) : nextWith (Machine.execViRemove who vi s) s₀.Keeps := by
  unfold Machine.execViRemove
  extract_lets status
  exact (h.viCommand (fun _ h => (((((h.resetBuffers.foldl fun _ _ h1 =>
    h1.opRingAbort).ippResetVi.resetModels.resetQos.foldl fun _ _ h1 =>
    (h1.foldl fun _ _ h2 => h2.setGranule)).foldl fun _ _ h1 => h1.clearQueue).foldl fun _ _ h1 =>
    h1.setReg).foldl fun _ _ h1 => h1.setReg).fset.update.setViSt.raiseRec)).next

theorem secWrite {who a f} (h : s₀.Keeps s) (hf : ∀ t, s₀.Keeps t → s₀.Keeps (f t)) :
    s₀.Keeps (s.secWrite who a f) :=
  ite (hf _ h) h.refuse

theorem execWatermarkMove {who target mark} (h : s₀.Keeps s) :
    nextWith (Machine.execWatermarkMove who target mark s) s₀.Keeps := by
  unfold Machine.execWatermarkMove
  extract_lets a
  exact (h.secWrite (fun _ h => (ite h.fset.dropReg (ite h.dropWrite (ite h.fset.fset.fset.answerOk
    ((ite h.fset.fset.fset.answerOk.fset h.fset.fset.fset.answerOk).update.fset)))))).next

theorem holdCommand {who b op f} (h : s₀.Keeps s) (hf : ∀ t, s₀.Keeps t → s₀.Keeps (f t).1) :
    s₀.Keeps (s.holdCommand who b op f) := by
  unfold State.holdCommand
  exact h.secWrite (fun _ h => (ite h.dropReg ((hf _ h.fset.fset).fset.answerOk)))

theorem setHeld {b v} (h : s₀.Keeps s) : s₀.Keeps (s.setHeld b v) :=
  ite h.fset.fset h.fset

theorem execSecureHold {who block} (h : s₀.Keeps s) : nextWith (Machine.execSecureHold who block s) s₀.Keeps :=
  (h.holdCommand (fun _ h => (ite h.setHeld h))).next

theorem countSessions (h : s₀.Keeps s) : s₀.Keeps (s.countSessions) :=
  h.fset

theorem scrubBlock {b} (h : s₀.Keeps s) : s₀.Keeps (s.scrubBlock b) :=
  ite (h.foldl fun _ _ h => (ite h h.abortEngine.setEng.setTeStat.fset.fset)) <|
    ite (h.foldl fun _ _ h => (h.update.foldl fun _ _ h1 => h1.setReg))
      ((h.foldl fun _ _ h => h.fset).countSessions)

theorem parkWaiting {b} (h : s₀.Keeps s) : s₀.Keeps (s.parkWaiting b) :=
  h.foldl fun _ _ h => (ite h.setHeldPending.startPark h)

theorem endHold {b} (h : s₀.Keeps s) : s₀.Keeps (s.endHold b) :=
  (ite h.scrubBlock.setHeld.secNotice h.scrubBlock.setHeld).parkWaiting

theorem execSecureRelease {who block} (h : s₀.Keeps s) :
    nextWith (Machine.execSecureRelease who block s) s₀.Keeps := by
  unfold Machine.execSecureRelease
  refine next ?_
  refine h.holdCommand fun t h => ?_
  split
  · exact h.endHold
  · exact h

theorem wdogRestart (h : s₀.Keeps s) : s₀.Keeps (s.wdogRestart) := by
  unfold State.wdogRestart
  extract_lets r s₁ s₂ x
  exact h.fresh.fset.fset.update

theorem wdogExpire (h : s₀.Keeps s) : s₀.Keeps (s.wdogExpire) :=
  h.update.newEvent.raiseRec.enterSafe

theorem execWatchdogKick {who value} (h : s₀.Keeps s) :
    nextWith (Machine.execWatchdogKick who value s) s₀.Keeps :=
  (h.secWrite (fun _ h => (ite h.answerOk (ite h.wdogRestart.answerOk h.wdogExpire.answerOk)))).next

theorem secTe {who f} (h : s₀.Keeps s) (hf : ∀ t a₀, s₀.Keeps t → s₀.Keeps (f t a₀)) :
    s₀.Keeps (s.secTe who f) := by
  unfold State.secTe
  exact h.secWrite (fun _ h => (ite h.dropWrite (ite h.dropReg ((hf _ _ h).answerOk))))

theorem execSecTeStart {who} (h : s₀.Keeps s) : nextWith (Machine.execSecTeStart who s) s₀.Keeps :=
  (h.secTe (fun _ _ h => (ite h.opTeStart h))).next

theorem execSecTePreempt {who} (h : s₀.Keeps s) : nextWith (Machine.execSecTePreempt who s) s₀.Keeps :=
  (h.secTe (fun _ _ h => h.opTePreempt)).next

theorem execSecTeResume {who} (h : s₀.Keeps s) : nextWith (Machine.execSecTeResume who s) s₀.Keeps :=
  (h.secTe (fun _ _ h => (ite h.opTeResume h))).next

theorem execSecTeAbort {who} (h : s₀.Keeps s) : nextWith (Machine.execSecTeAbort who s) s₀.Keeps :=
  (h.secTe (fun _ _ h => h.opTeAbort)).next

theorem execCapWrite {who watts} (h : s₀.Keeps s) : nextWith (Machine.execCapWrite who watts s) s₀.Keeps := by
  unfold Machine.execCapWrite
  dsimp only
  split
  · exact h.dropWrite.next
  split
  · exact h.dropReg.next
  · exact h.fset.answerOk.next

theorem refreshErr (h : s₀.Keeps s) : s₀.Keeps (s.refreshErr) :=
  h.fset.fset.fset.fset.fset

theorem passTail {a} (h : s₀.Keeps s) : s₀.Keeps (s.passTail a) := by
  induction a generalizing s with
  | zero =>
    unfold State.passTail
    exact h
  | succ a ih =>
    unfold State.passTail
    dsimp only
    split
    · split
      · exact ite (ih h.update) h
      · exact h
    · exact h

theorem markDone {index} (h : s₀.Keeps s) : s₀.Keeps (s.markDone index) := by
  unfold State.markDone
  dsimp only
  split
  · exact h
  · exact ite h.update.passTail.refreshErr h

theorem execErrDone {who index} (h : s₀.Keeps s) : nextWith (Machine.execErrDone who index s) s₀.Keeps := by
  unfold Machine.execErrDone
  split
  · exact h.markDone.answerOk.next
  · exact h.dropWrite.next

theorem execErrInject {who value} (h : s₀.Keeps s) : nextWith (Machine.execErrInject who value s) s₀.Keeps := by
  unfold Machine.execErrInject
  dsimp only
  split
  · exact h.dropWrite.next
  split
  · exact h.dropReg.next
  split
  · exact h.answerOk.next
  · exact h.raiseRec.answerOk.next

end Sys2Proof.Machine.State.Keeps
end

section
/-! PROOFS. Graphics, displays, media and the access to register space keep what every step keeps. -/

namespace Sys2Proof.Machine.State.Keeps
variable {s₀ s t u : State} {α β : Type}

theorem ownWriteS {who x go v mask} (h : s₀.Keeps s) : s₀.Keeps (s.ownWriteS who x go v mask) := by
  unfold State.ownWriteS
  extract_lets plain word off op op' s₁ cmd vi
  have hp : s₀.Keeps plain := h.plainWrite
  have h₁ : s₀.Keeps s₁ := ite hp h
  exact ite (ite hp (((h.onBit fun _ h => h.execBootCommit).onBit fun _ h => h.execBootSwitch).onBit
      fun _ h => h.execBootRestart)) <|
    ite (ite (h.ran h.execFlashProgram) hp) <|
    ite (ite (h.ran h.execWatermarkGrant) hp) <|
    ite (ite hp (h.ran (.ite h.execSetDevRoot (.ite h.execToProd (.ite h.execToRetired h.execToDev))))) <|
    ite (ite hp (ite (h.ran h.execFwLoad) (ite (h.ran h.execFwStage) (ite (h.ran h.execFwActivate)
      (ite (h.ran h.execFwCancel) (ite (h.ran h.execFwCommit) h.dropReg)))))) <|
    ite (h.ran h.execDriverHeartbeat) <|
    ite ((h₁.onBit fun _ h => h.execDriverAttach).onBit fun _ h => h.execDriverDetach) <|
    ite (h.ran h.execHlogRead) <|
    ite (ite (h.ran h.execRequestSafe) hp) <|
    ite (ite hp ((h.onBit fun _ h => h.execTsqRestart).onBit fun _ h => h.execTsqStop)) <|
    ite (ite (h.ran h.execTableSwap) hp) <|
    ite (h.ran (.ite h.execSeBind h.execSeUnbind)) <|
    ite (ite hp (ite (h.ran h.execViCreate) (ite (h.ran h.execViResize) (ite (h.ran h.execViReset)
      (ite (h.ran h.execViQuiesce) (ite (h.ran h.execViResume) (ite (h.ran h.execViRemove) h.dropReg))))))) <|
    ite (ite (h.ran h.execWatermarkMove) hp) <|
    ite (ite hp (ite (h.ran h.execSecureHold) (ite (h.ran h.execSecureRelease) h.dropReg))) <|
    ite (h.ran h.execWatchdogKick) <|
    ite ((((h.onBit fun _ h => h.execSecTeStart).onBit fun _ h => h.execSecTePreempt).onBit
      fun _ h => h.execSecTeResume).onBit fun _ h => h.execSecTeAbort) <|
    ite (ite (h.ran h.execCapWrite) hp) <|
    ite (h.ran h.execErrDone) <|
    ite (h.ran h.execErrInject) hp

theorem gfxCtrl {who op} (h : s₀.Keeps s) (hf : ∀ t, s₀.Keeps t → s₀.Keeps (op t)) :
    s₀.Keeps (s.gfxCtrl who op) :=
  ite ((hf _ h).answerOk) h.dropWrite

theorem tileLoad {c a n} (h : s₀.Keeps s) : s₀.Keeps (s.tileLoad c a n).1 := by
  unfold State.tileLoad
  dsimp only
  split
  · exact h.fetchAs
  · exact h.fetchAs.freeBytes

theorem loadRow {c p stored x y n} (h : s₀.Keeps s) : s₀.Keeps (s.loadRow c p stored x y n).1 := by
  unfold State.loadRow
  dsimp only
  split
  · exact h
  · exact h.tileLoad.tileLoad

theorem storeAs {who a bs} (h : s₀.Keeps s) : s₀.Keeps (s.storeAs who a bs).1 := by
  unfold State.storeAs
  split
  · exact h.refused
  · exact h.takeTokens.countLines.placeWrite

theorem shadeRow {c p stored frags events x n y} (h : s₀.Keeps s) :
    s₀.Keeps (s.shadeRow c p stored frags events x n y) :=
  h.loadRow.storeAs.storeAs

theorem shadeTile {c events tile} (h : s₀.Keeps s) : s₀.Keeps (s.shadeTile c events tile) := by
  unfold State.shadeTile
  dsimp only
  split
  · exact h
  · exact ite h ((h.foldl fun _ _ h => h.shadeRow).setGfxCtx)

theorem opGfxPreempt {c tiles events} (h : s₀.Keeps s) : s₀.Keeps (s.opGfxPreempt c tiles events) :=
  ite ((h.setGfxState.foldl fun _ _ h => h.shadeTile).fadd) h

theorem execGfxPreempt {who ctx tiles events} (h : s₀.Keeps s) :
    nextWith (Machine.execGfxPreempt who ctx tiles events s) s₀.Keeps := by
  unfold Machine.execGfxPreempt
  split
  · exact h.next
  · exact (h.gfxCtrl (fun _ h => h.opGfxPreempt)).next

theorem execGfxAbort {who ctx} (h : s₀.Keeps s) : nextWith (Machine.execGfxAbort who ctx s) s₀.Keeps :=
  (h.gfxCtrl (fun _ h => h.opGfxAbort)).next

theorem beginPass {c d} (h : s₀.Keeps s) : s₀.Keeps (s.beginPass c d) :=
  h.setGfxCtx

theorem opGfxResume {c draw} (h : s₀.Keeps s) : s₀.Keeps (s.opGfxResume c draw) := by
  unfold State.opGfxResume
  dsimp only
  split
  · split
    · exact h.setGfxState.setGfxCtx
    · exact ite h.setGfxState.setGfxCtx.beginPass h.setGfxState.setGfxCtx
  · exact h

theorem execGfxResume {who ctx draw} (h : s₀.Keeps s) :
    nextWith (Machine.execGfxResume who ctx draw s) s₀.Keeps :=
  (h.gfxCtrl (fun _ h => h.opGfxResume)).next

theorem setRegion {n r} (h : s₀.Keeps s) : s₀.Keeps (s.setRegion n r) :=
  h.update

theorem execTelltaleStateWrite {who region value} (h : s₀.Keeps s) :
    nextWith (Machine.execTelltaleStateWrite who region value s) s₀.Keeps := by
  unfold Machine.execTelltaleStateWrite
  dsimp only
  split
  · exact h.dropWrite.next
  · exact .ite h.dropWrite.next (.ite h.raiseRec.answerOk.next h.setRegion.setReg.answerOk.next)

theorem storePass {c events} (h : s₀.Keeps s) : s₀.Keeps (s.storePass c events) :=
  (h.foldl fun _ _ h => h.shadeTile).setGfxCtx

theorem finishPass {c events} (h : s₀.Keeps s) : s₀.Keeps (s.finishPass c events) :=
  h.storePass.setGfxCtx

theorem setPipe {p x} (h : s₀.Keeps s) : s₀.Keeps (s.setPipe p x) :=
  h.update

theorem execDisplayFlip {who pipe value} (h : s₀.Keeps s) :
    nextWith (Machine.execDisplayFlip who pipe value s) s₀.Keeps := by
  unfold Machine.execDisplayFlip
  dsimp only
  split
  · exact h.dropWrite.next
  · exact (ite h.finishPass.setGfxState h).setReg.setPipe.fset.answerOk.next

theorem execMediaSessionOpen {who session value} (h : s₀.Keeps s) :
    nextWith (Machine.execMediaSessionOpen who session value s) s₀.Keeps := by
  unfold Machine.execMediaSessionOpen
  dsimp only
  split
  · exact h.dropWrite.next
  split
  · exact h.answerOk.next
  split
  · exact h.fset.fset.answerOk.next
  · exact h.fset.fset.fset.countSessions.answerOk.next

theorem execMediaSessionClose {who session} (h : s₀.Keeps s) :
    nextWith (Machine.execMediaSessionClose who session s) s₀.Keeps := by
  unfold Machine.execMediaSessionClose
  split
  · exact h.dropWrite.next
  split
  · exact h.answerOk.next
  · exact h.fset.countSessions.answerOk.next

theorem ownWriteG {who x go v mask} (h : s₀.Keeps s) : s₀.Keeps (s.ownWriteG who x go v mask) :=
  ite (ite h.plainWrite (((h.onBit (fun _ h => h.execGfxPreempt)).onBit (fun _ h => h.execGfxAbort)).onBit
      (fun _ h => h.execGfxResume))) <|
    ite (h.ran h.execTelltaleStateWrite) <|
    ite (ite (h.ran h.execDisplayFlip) h.plainWrite) <|
    ite ((ite (h.ran h.execMediaSessionOpen) (ite h h.plainWrite)).onBit
      (fun _ h => h.execMediaSessionClose)) h.plainWrite

theorem setIppStream {n x} (h : s₀.Keeps s) : s₀.Keeps (s.setIppStream n x) :=
  h.update

theorem execParameterLoad {who stream src} (h : s₀.Keeps s) :
    nextWith (Machine.execParameterLoad who stream src s) s₀.Keeps := by
  unfold Machine.execParameterLoad
  dsimp only
  split
  · exact h.dropWrite.next
  split
  · next e => exact (h.fset.answerOk.fetchAs.of_fst e).next
  · next e =>
    have h₁ := h.fset.answerOk.fetchAs.of_fst e
    split
    · exact h₁.setIppStream.next
    split
    · next e => exact (h₁.fetchAs.of_fst e).next
    · next e => exact (h₁.fetchAs.of_fst e).setIppStream.next

theorem ippWrite {g a bs} (h : s₀.Keeps s) : s₀.Keeps (s.ippWrite g a bs) :=
  ite h h.storeAs

theorem putBatch {g b} (h : s₀.Keeps s) : s₀.Keeps (s.putBatch g b) :=
  h.setIppGroup

theorem fillSlot {g b slot status capture seq data} (h : s₀.Keeps s) :
    s₀.Keeps (s.fillSlot g b slot status capture seq data).1 :=
  h.ippWrite.putBatch

theorem missSlot {g b slot} (h : s₀.Keeps s) : s₀.Keeps (s.missSlot g b slot).1 :=
  h.raiseSide.fillSlot

theorem lowWater {g} (h : s₀.Keeps s) : s₀.Keeps (s.lowWater g) :=
  ite h.setIppGroup.fset.send.raiseSide h

theorem discardPrepared {g b} (h : s₀.Keeps s) : s₀.Keeps (s.discardPrepared g b) :=
  h.setIppGroup.countBuffers.lowWater

theorem prepareBatch {g b} (h : s₀.Keeps s) : s₀.Keeps (s.prepareBatch g b) := by
  unfold State.prepareBatch
  dsimp only
  split
  · refine discardPrepared ?_
    refine fadd ?_
    refine countBuffers ?_
    refine setIppGroup ?_
    refine putBatch ?_
    refine ippWrite ?_
    refine h.foldl fun t x h => ?_
    split
    · exact h
    · exact h.ippWrite
  refine countBuffers ?_
  refine setIppGroup ?_
  refine putBatch ?_
  refine ippWrite ?_
  refine h.foldl fun t x h => ?_
  split
  · exact h
  · exact h.ippWrite

theorem execStreamReset {who stream} (h : s₀.Keeps s) :
    nextWith (Machine.execStreamReset who stream s) s₀.Keeps := by
  unfold Machine.execStreamReset
  dsimp only
  split
  · exact h.dropWrite.next
  split
  · exact h.setIppStream.answerOk.next
  split
  · exact h.setIppStream.answerOk.next
  split
  · exact h.setIppStream.answerOk.missSlot.prepareBatch.next
  · exact h.setIppStream.answerOk.missSlot.next

theorem execGroupRelease {who group index} (h : s₀.Keeps s) :
    nextWith (Machine.execGroupRelease who group index s) s₀.Keeps := by
  unfold Machine.execGroupRelease
  extract_lets a x x₁ s₁
  split
  · exact h.dropWrite.next
  split
  · exact h.setIppGroup.countBuffers.answerOk.next
  · exact h.raiseRec.update.next

theorem execGwContextEnable {who context enable} (h : s₀.Keeps s) :
    nextWith (Machine.execGwContextEnable who context enable s) s₀.Keeps := by
  unfold Machine.execGwContextEnable
  dsimp only
  split
  · exact h.dropWrite.next
  split
  · exact h.answerOk.next
  · exact (h.fset.foldl fun _ _ h => h.setTahrSeq).answerOk.next

theorem readGateList {src} (h : s₀.Keeps s) : s₀.Keeps (s.readGateList src).1 := by
  unfold State.readGateList
  split
  · next e => exact h.fetchAs.of_fst e
  · next t b e =>
    have h₁ := h.fetchAs.of_fst e
    have h₂ : s₀.Keeps (if leAt b 1 1 = 0 then (t, Option.some [])
        else t.fetchAs (.service none) (src + 20) (8 * leAt b 1 1)).1 := by
      split
      · exact h₁
      · exact h₁.fetchAs
    split
    · next e => exact h₂.of_fst e
    · next e => exact h₂.of_fst e

theorem setEthPort {p x} (h : s₀.Keeps s) : s₀.Keeps (s.setEthPort p x) :=
  h.update

theorem execGclStage {who port src} (h : s₀.Keeps s) :
    nextWith (Machine.execGclStage who port src s) s₀.Keeps := by
  unfold Machine.execGclStage
  dsimp only
  split
  · exact h.dropWrite.next
  split
  · exact (h.fset.answerOk.readGateList.of_fst ‹_›).next
  · exact (h.fset.answerOk.readGateList.of_fst ‹_›).setEthPort.fset.next

theorem ownWriteO {who x go v mask} (h : s₀.Keeps s) : s₀.Keeps (s.ownWriteO who x go v mask) :=
  ite (ite (h.ran h.execParameterLoad) h.plainWrite) <|
    ite (ite (h.ran h.execStreamReset) h.plainWrite) <|
    ite (h.ran h.execGroupRelease) <|
    ite (h.ran h.execGwContextEnable) (ite (ite (h.ran h.execGclStage) h.plainWrite) h.plainWrite)

theorem ownWrite {who x go mask} (h : s₀.Keeps s) : s₀.Keeps (s.ownWrite who x go mask) :=
  ite h.plainWrite <|
    ite h.plainWrite <|
    ite (h.ran h.execFixedPaceRequest) <|
    ite (ite h.plainWrite (ite (h.ran h.execPark) (ite (h.ran h.execUnpark) (ite
      (h.ran h.execWithdraw) h.dropReg)))) <|
    ite h.ownWriteC (ite h.ownWriteS (ite h.ownWriteG h.ownWriteO))

theorem regWrite {who addr size v} (h : s₀.Keeps s) : s₀.Keeps (s.regWrite who addr size v) := by
  unfold State.regWrite
  dsimp only
  split
  · exact h.refuse
  split
  · exact h.refuse
  split
  · exact h.dropReg
  split
  · exact h.doorbellWrite
  split
  · exact ite h.setReg.answerOk h.dropWrite
  split
  · exact h.dropWrite
  split
  · exact ite h.answerOk h.dropWrite
  split
  · exact h.refuse
  split
  · exact h.mirrorWrite
  · exact ite h.ownWrite h.plainWrite

theorem execRegisterWrite {who addr size value} (h : s₀.Keeps s) :
    nextWith (Machine.execRegisterWrite who addr size value s) s₀.Keeps := by
  unfold Machine.execRegisterWrite
  split
  · exact h.regWrite.next
  · exact h.next

theorem answer {value} (h : s₀.Keeps s) : s₀.Keeps (s.answer value) :=
  h.update

theorem takePart {off size} (h : s₀.Keeps s) : s₀.Keeps (s.takePart off size) :=
  h.update

theorem readTime {who} (h : s₀.Keeps s) : s₀.Keeps (s.readTime who) :=
  ite h.refuse h.fset.answer

theorem takeItem {addr size take} (h : s₀.Keeps s) (hf : ∀ t, s₀.Keeps t → s₀.Keeps (take t)) :
    s₀.Keeps (s.takeItem addr size take) := by
  unfold State.takeItem
  extract_lets a s₁ half left
  have h₁ : s₀.Keeps s₁ := hf _ h.update
  exact ite h₁.update (ite h₁ (ite h.update.answer h₁.update.takePart))

theorem readNext {who} (h : s₀.Keeps s) : s₀.Keeps (s.readNext who) := by
  unfold State.readNext
  dsimp only
  split
  · exact h.refuse
  split
  · exact h.answer
  · exact (ite h h.fadd).update.refreshErr.answer

theorem execSchEventRead {who die} (h : s₀.Keeps s) :
    nextWith (Machine.execSchEventRead who die s) s₀.Keeps := by
  unfold Machine.execSchEventRead
  dsimp only
  split
  · exact h.refuse.next
  split
  · exact h.answer.next
  · exact h.update.fset.answer.next

theorem readFence {who addr size} (h : s₀.Keeps s) : s₀.Keeps (s.readFence who addr size) :=
  h.setStream.answer

theorem execGroupAcquire {who group} (h : s₀.Keeps s) :
    nextWith (Machine.execGroupAcquire who group s) s₀.Keeps := by
  unfold Machine.execGroupAcquire
  dsimp only
  split
  · exact h.refuse.next
  split
  · exact h.refuse.next
  split
  · exact h.answer.next
  · exact h.setIppGroup.countBuffers.lowWater.answer.next

theorem liveRead {who x addr size t} (h : s₀.Keeps s) :
    s.liveRead who x addr size = Option.some t → s₀.Keeps t := by
  unfold State.liveRead
  dsimp only
  split
  · split
    · exact h.readTime.takePart.some_eq
    · split
      · exact h.answer.some_eq
      · split
        · exact (h.takeItem (fun _ h => h.readNext)).some_eq
        · split
          · exact h.fset.answer.some_eq
          · exact nofun
  split
  · split
    · exact (h.takeItem (fun _ h => (h.ran h.execSchEventRead))).some_eq
    · exact nofun
  split
  · exact h.readFence.some_eq
  split
  · exact (h.takeItem (fun _ h => (h.ran h.execGroupAcquire))).some_eq
  · exact nofun

theorem showNow {x} (h : s₀.Keeps s) : s₀.Keeps (s.showNow x) :=
  ite h.fset (ite h.setReg (ite h.fset h))

theorem regRead {who addr size} (h : s₀.Keeps s) : s₀.Keeps (s.regRead who addr size) := by
  unfold State.regRead
  dsimp only
  split
  · exact h.refuse
  split
  · exact h.refuse
  split
  · exact h.answer
  split
  · exact ite h.answer h.refuse
  split
  · exact h.answer
  split
  · exact h.answer
  split
  · exact h.answer
  split
  · exact h.refuse
  split
  · exact h.liveRead ‹_›
  · exact h.setReg.answer

theorem execRcRead {who addr size} (h : s₀.Keeps s) :
    nextWith (Machine.execRcRead who addr size s) s₀.Keeps := by
  unfold Machine.execRcRead
  split
  · exact h.regRead.next
  · exact h.next

theorem execSelLoad {who addr size value} (h : s₀.Keeps s) :
    nextWith (Machine.execSelLoad who addr size value s) s₀.Keeps := by
  unfold Machine.execSelLoad
  split
  · split
    · exact h.regWrite.next
    · exact h.next
  · exact h.next

end Sys2Proof.Machine.State.Keeps
end

section
/-! PROOFS. Accesses to memory, granules and links keep what every step keeps. -/

namespace Sys2Proof.Machine.State.Keeps
variable {s₀ s t u : State} {α β : Type}

theorem strike {hits} (h : s₀.Keeps s) : s₀.Keeps (s.strike hits) := by
  unfold State.strike
  dsimp only
  refine h.foldl fun t x h => ?_
  split
  · exact ite h.update h.update
  · exact ite h.update h.update
  · exact ite (h.updateFlash (.update _)) h
  · exact h

theorem escalate {p} (h : s₀.Keeps s) : s₀.Keeps (s.escalate p) :=
  h.raiseFollow.fset.enterSafe

theorem setPhase {n} (h : s₀.Keeps s) : s₀.Keeps (s.setPhase n) :=
  h.fset

theorem repinAll (h : s₀.Keeps s) : s₀.Keeps (s.repinAll) :=
  h.update.foldl fun _ _ h => h.repin

theorem attachFirmware (h : s₀.Keeps s) : s₀.Keeps (s.attachFirmware) :=
  (ite h.fset.setPhase h.fset).serveSlot.serveSlot.repinAll

theorem endHandoff (h : s₀.Keeps s) : s₀.Keeps (s.endHandoff) :=
  h.update

theorem finishRollBack (h : s₀.Keeps s) : s₀.Keeps (s.finishRollBack) :=
  h.dropStaged.endHandoff.attachFirmware.fwBusy.fset.raiseSide

theorem rollBackReady (h : s₀.Keeps s) : s₀.Keeps (s.rollBackReady) :=
  ite h.finishRollBack h

theorem fwRollBack {cause} (h : s₀.Keeps s) : s₀.Keeps (s.fwRollBack cause) :=
  ite h ((h.update.setFwSt.foldl fun _ _ h => h.restartPair).rollBackReady)

theorem fwPairLost {p} (h : s₀.Keeps s) : s₀.Keeps (s.fwPairLost p) :=
  h.update.fwRollBack.rollBackReady

theorem setPairSt {p st} (h : s₀.Keeps s) : s₀.Keeps (s.setPairSt p st) :=
  h.fset

theorem setPairActive {p b} (h : s₀.Keeps s) : s₀.Keeps (s.setPairActive p b) :=
  h.fset

theorem unhandle (h : s₀.Keeps s) : s₀.Keeps (s.unhandle) :=
  h.update.refreshErr

theorem takeOver {p} (h : s₀.Keeps s) : s₀.Keeps (s.takeOver p) :=
  h.setPairActive.setPairActive.setPairSt.fadd.raiseFollow.unhandle

theorem pairFails {p} (h : s₀.Keeps s) : s₀.Keeps (s.pairFails p) :=
  ite h.fwPairLost (ite h.takeOver h)

theorem retirePair {p} (h : s₀.Keeps s) : s₀.Keeps (s.retirePair p) :=
  h.setPairSt.setPairActive.raiseFollow

theorem miscompare {p c count} (h : s₀.Keeps s) : s₀.Keeps (s.miscompare p c count) :=
  ite h ((ite ((ite h.raiseRec.fadd.fset.update.escalate h.raiseRec.fadd.fset.update.pairFails).retirePair)
    ((ite h.raiseRec.fadd.fset.update.escalate h.raiseRec.fadd.fset.update.pairFails).setPairSt)).restartPair)

theorem pairSramHit {p fatal} (h : s₀.Keeps s) : s₀.Keeps (s.pairSramHit p fatal) :=
  ite h (ite h.miscompare h.fadd.raiseSide)

theorem strikeAll {hits} (h : s₀.Keeps s) : s₀.Keeps (s.strikeAll hits) :=
  h.foldl fun _ _ h => (ite h.strike h.pairSramHit)

theorem hold {w} (h : s₀.Keeps s) : s₀.Keeps (s.hold w) :=
  h.update

theorem route {d e t} (h : s₀.Keeps s) : s.route d e = Option.some t → s₀.Keeps t := by
  unfold State.route
  split
  · exact h.some_eq
  split
  · exact h.fadd.some_eq
  · exact nofun

theorem outRead {addr n} (h : s₀.Keeps s) : s₀.Keeps (s.outRead addr n).1 := by
  unfold State.outRead
  dsimp only
  split
  · exact h.send.freeBytes
  · exact h

theorem readMem {who addr n} (h : s₀.Keeps s) : s₀.Keeps (s.readMem who addr n) := by
  unfold State.readMem
  dsimp only
  split
  · exact h.fetchAs.update
  · exact h.fetchAs.update

theorem readAt {who a n} (h : s₀.Keeps s) : s₀.Keeps (s.readAt who a n) := by
  unfold State.readAt
  dsimp only
  split
  · exact h.regRead
  split
  · exact h.refuse
  split
  · split
    · exact h.outRead.refuse
    · exact h.outRead.update
  · exact h.takeTokens.readMem

theorem refuseWrite {c who addr} (h : s₀.Keeps s) : s₀.Keeps (s.refuseWrite c who addr) :=
  ite h.countRefusal.postFail.update h.refuse

theorem outWrite {who addr bs} (h : s₀.Keeps s) : s₀.Keeps (s.outWrite who addr bs).1 := by
  unfold State.outWrite
  split
  · exact h.notePosted.send
  · exact h.postFail

theorem writeMem {who addr bs} (h : s₀.Keeps s) : s₀.Keeps (s.writeMem who addr bs) := by
  unfold State.writeMem
  dsimp only
  split
  · exact h.refuseWrite
  · exact ite h.takeTokens.countLines.notePosted.placeWrite.refuse
      h.takeTokens.countLines.notePosted.placeWrite.update

theorem writeAt {who a bs} (h : s₀.Keeps s) : s₀.Keeps (s.writeAt who a bs) := by
  unfold State.writeAt
  split
  · exact h.regWrite
  split
  · exact h.refuseWrite
  · exact ite h.outWrite.answerOk h.takeTokens.writeMem

theorem accessAt {who acc} (h : s₀.Keeps s) : s₀.Keeps (s.accessAt who acc) := by
  unfold State.accessAt
  dsimp only
  split
  · split
    · exact h
    · split
      · exact h.hold
      · split
        · exact h.refuse
        · exact (h.route ‹_›).readAt
  split
  · exact h
  split
  · exact h.hold
  split
  · exact h.refuse
  · exact (h.route ‹_›).writeAt

theorem execMemoryAccess {who acc hits} (h : s₀.Keeps s) :
    nextWith (Machine.execMemoryAccess who acc hits s) s₀.Keeps := by
  unfold Machine.execMemoryAccess
  dsimp only
  split
  · split
    · exact h.strikeAll.next
    · split
      · exact h.strikeAll.accessAt.refuse.next
      · exact h.strikeAll.accessAt.next
  split
  · exact h.strikeAll.next
  split
  · exact h.strikeAll.accessAt.refuse.next
  · exact h.strikeAll.accessAt.next

theorem ringStop {n code} (h : s₀.Keeps s) : s₀.Keeps (s.ringStop n code) :=
  h.setRingSt.setRing.fset.fset.stopJob

theorem stopWriter {w} (h : s₀.Keeps s) : s₀.Keeps (s.stopWriter w) :=
  ite h.teStop.testIfDue (ite h.ringStop h)

theorem fillFails {d e o src} (h : s₀.Keeps s) : s₀.Keeps (s.fillFails d e o src) := by
  unfold State.fillFails
  extract_lets j s₁ x s₂ s₃ s₄ s₅
  have h₅ : s₀.Keeps s₅ := h.countPoison.raiseRec.update.setGranState.foldl fun _ _ h => h.stopWriter
  exact h₅.stopJob

theorem fillDone {d e o src} (h : s₀.Keeps s) : s₀.Keeps (s.fillDone d e o src) := by
  unfold State.fillDone
  extract_lets dst s₁ s₂
  have h₁ : s₀.Keeps s₁ := ite h.store h.correctSoft.store
  have h₂ : s₀.Keeps s₂ := h₁.foldl fun _ _ h => (ite h h.store.tagLines)
  exact h₂.update

theorem execGranuleFillDone {die entry hits} (h : s₀.Keeps s) :
    nextWith (Machine.execGranuleFillDone die entry hits s) s₀.Keeps := by
  unfold Machine.execGranuleFillDone
  dsimp only
  split
  · exact h.next
  split
  · exact h.next
  split
  · exact h.strike.fillFails.next
  · exact h.strike.fillDone.next

theorem execOverBudgetEnd {vi} (h : s₀.Keeps s) : nextWith (Machine.execOverBudgetEnd vi s) s₀.Keeps := by
  unfold Machine.execOverBudgetEnd
  dsimp only
  split
  · exact h.next
  · exact (h.fset.foldl fun _ _ h => h.sendCqMsi).next

theorem execFabReplay {die port ok} (h : s₀.Keeps s) :
    nextWith (Machine.execFabReplay die port ok s) s₀.Keeps := by
  unfold Machine.execFabReplay
  dsimp only
  split
  · exact h.next
  split
  · exact h.fadd.update.raiseRec.next
  · exact h.fadd.update.next

theorem dropOutstanding {te addr t} (h : s₀.Keeps s) : s.dropOutstanding te addr = some t → s₀.Keeps t := by
  intro e
  obtain ⟨ws, -, rfl⟩ := Option.map_eq_some_iff.1 e
  exact h.update

theorem getD {o : Option State} (h : s₀.Keeps s) (ho : ∀ t, o = some t → s₀.Keeps t) : s₀.Keeps (o.getD s) := by
  cases o with
  | none => exact h
  | some t => exact ho t rfl

theorem catchRequest {a b c} (h : s₀.Keeps s) : s₀.Keeps (s.catchRequest a b c) := by
  unfold State.catchRequest
  split
  · split
    · exact h
    · exact ite h.setEng.teFault h
  · split
    · refine postFail ?_
      split
      · exact h.getD fun _ => h.dropOutstanding
      · exact h
    · exact h
  · exact ite h.refuse h

theorem execFabLinkDown {die port caught} (h : s₀.Keeps s) :
    nextWith (Machine.execFabLinkDown die port caught s) s₀.Keeps := by
  unfold Machine.execFabLinkDown
  dsimp only
  split
  · exact h.next
  · exact (h.update.raiseRec.foldl fun _ _ h => h.catchRequest).next

theorem execPostedWriteFail {who addr code} (h : s₀.Keeps s) :
    nextWith (Machine.execPostedWriteFail who addr code s) s₀.Keeps := by
  unfold Machine.execPostedWriteFail
  split
  · refine next (postFail ?_)
    split
    · exact h.getD fun _ => h.dropOutstanding
    · exact h
  · exact h.next

end Sys2Proof.Machine.State.Keeps
end

section
/-! PROOFS. Power-up, rails, trips and restarts keep what every step keeps. -/

namespace Sys2Proof.Machine.State.Keeps
variable {s₀ s t u : State} {α β : Type}

theorem coldBase (h : s₀.Keeps s) : s₀.Keeps s.coldBase :=
  { h with mem := fun hm => filter_wf _ (h.mem hm), regs := fun _ => rfl }

theorem relaxedFrames {reason} (h : s₀.Keeps s) : s₀.Keeps (s.relaxedFrames reason) :=
  h.update.fset.foldl fun _ _ h => h.fset.fset

theorem rescuePort (h : s₀.Keeps s) : s₀.Keeps (s.rescuePort) :=
  h.fset.fset.fset.fset

theorem enterRetired (h : s₀.Keeps s) : s₀.Keeps (s.enterRetired) := by
  unfold State.enterRetired
  exact h.update.showBanks.rescuePort.setPhase.relaxedFrames

theorem enterRecovery (h : s₀.Keeps s) : s₀.Keeps (s.enterRecovery) := by
  unfold State.enterRecovery
  exact h.update.showBanks.rescuePort.setPhase.relaxedFrames

theorem failBank {b code} (h : s₀.Keeps s) : s₀.Keeps (s.failBank b code) := by
  unfold State.failBank
  dsimp only
  refine raiseSide ?_
  refine fset ?_
  refine fset ?_
  split
  · exact h
  · exact h.writeEntry

theorem tryBank {b} (h : s₀.Keeps s) : s₀.Keeps (s.tryBank b).1 := by
  unfold State.tryBank
  dsimp only
  split
  · exact h
  split
  · split
    · exact h.failBank
    · split
      · exact h.writeEntry
      · exact h.writeEntry.failBank
  · split
    · exact h
    · exact h.failBank
  · exact h

theorem chooseBank (h : s₀.Keeps s) : s₀.Keeps (s.chooseBank).1 := by
  unfold State.chooseBank
  dsimp only
  split
  · exact h
  split
  · exact h.tryBank
  · exact h.tryBank.tryBank

theorem streamSecure {b r} (h : s₀.Keeps s) : s₀.Keeps (s.streamSecure b r) :=
  ite h.update h

theorem startChamois {k program} (h : s₀.Keeps s) : s₀.Keeps (s.startChamois k program) :=
  (h.draw (n := 32)).setReg.setGft.setEng.teBegin

theorem testChamois {mask} (h : s₀.Keeps s) : s₀.Keeps (s.testChamois mask) :=
  h.foldl fun _ _ h => h.startChamois

theorem loadChamois {c} (h : s₀.Keeps s) : s₀.Keeps (s.loadChamois c) :=
  h.store.update.testChamois

theorem applyFallback {b} (h : s₀.Keeps s) : s₀.Keeps (s.applyFallback b) :=
  ((ite h.update h.update.loadChamois).foldl fun _ _ h => h.fset).fset.setFallback

theorem declareOutput {o e} (h : s₀.Keeps s) : s₀.Keeps (s.declareOutput o e) :=
  h.fset.fset.fset.fset.putLive

theorem applySafety {b} (h : s₀.Keeps s) : s₀.Keeps (s.applySafety b) := by
  unfold State.applySafety
  extract_lets p n s₁ s₂ s₃ s₄ s₅ x s₆ s₇ s₈
  have h₃ : s₀.Keeps s₃ := h.fset.fset.fset.fset.foldl fun _ _ h => h.fset
  have h₇ : s₀.Keeps s₇ := h₃.fset.fset.fset.update.foldl fun _ _ h => h.declareOutput
  have h₈ : s₀.Keeps s₈ := h₇.foldl fun _ _ h => h.fset.fset
  exact h₈.foldl fun _ _ h => h.fset.fset

theorem setMark {target mark} (h : s₀.Keeps s) : s₀.Keeps (s.setMark target mark) :=
  ite h.fset h.fset

theorem applyWorld {b} (h : s₀.Keeps s) : s₀.Keeps (s.applyWorld b) :=
  ((h.foldl fun _ _ h => h.setMark).foldl fun _ _ h => h.setMark).fset.fset.wdogRestart

theorem testPairs (h : s₀.Keeps s) : s₀.Keeps (s.testPairs) :=
  h.foldl fun _ _ h => (ite h h.fset)

theorem applyNet {b} (h : s₀.Keeps s) : s₀.Keeps (s.applyNet b) :=
  (((h.foldl fun _ _ h => h.setReg).foldl fun _ _ h => h.setReg.setReg.update).foldl fun _ _ h =>
    h.setEthPort).foldl fun _ _ h => h.setReg

theorem storeProgram {p} (h : s₀.Keeps s) : s₀.Keeps (s.storeProgram p) := by
  unfold State.storeProgram
  dsimp only
  split
  · exact h
  · exact h.update.fset

theorem startSite {b site} (h : s₀.Keeps s) : s₀.Keeps (s.startSite b site) := by
  unfold State.startSite
  refine h.foldl fun t x h => ?_
  split
  · exact h
  · exact h.storeProgram.tahrRestart

theorem applyRoutes {p} (h : s₀.Keeps s) : s₀.Keeps (s.applyRoutes p) := by
  unfold State.applyRoutes
  extract_lets set n s₁ s₂ s₃ vs x
  have h₂ : s₀.Keeps s₂ := by
    unfold s₂
    split
    · exact h.fset.fset
    · exact h.fset.fset.fset.fset
  have h₃ : s₀.Keeps s₃ := h₂.foldl fun _ _ h => h.setReg.setReg.setReg.update
  exact h₃.update

theorem applyGateway {b} (h : s₀.Keeps s) : s₀.Keeps (s.applyGateway b) :=
  ((h.applyNet.startSite.foldl fun _ _ h => h.fset).foldl fun _ _ h => h.applyRoutes).fset

theorem atLeast {d i v} (h : s₀.Keeps s) : s₀.Keeps (s.atLeast d i v) :=
  h.setIsl.setIsl

theorem fixedLevel {d i} (h : s₀.Keeps s) : s₀.Keeps (s.fixedLevel d i) :=
  h.atLeast.foldl fun _ _ h => h.atLeast

theorem applyPolicy {b} (h : s₀.Keeps s) : s₀.Keeps (s.applyPolicy b) := by
  unfold State.applyPolicy
  extract_lets p s₁ x s₂ s₃
  have h₃ : s₀.Keeps s₃ := h.fset.fset.update.foldl fun _ _ h => (ite h.setIsl.fixedLevel h.setIsl)
  exact h₃.foldl fun _ _ h => h.fset

theorem applyMapping {b} (h : s₀.Keeps s) : s₀.Keeps (s.applyMapping b) :=
  h.setCaps

theorem applyPlatform {b} (h : s₀.Keeps s) : s₀.Keeps (s.applyPlatform b) :=
  h.fset.fset.fset.fset.applyMapping

theorem applyLogic {b} (h : s₀.Keeps s) : s₀.Keeps (s.applyLogic b) :=
  h.applyPlatform.applyPolicy.startSite.applyGateway

theorem applyBank {b} (h : s₀.Keeps s) : s₀.Keeps (s.applyBank b) :=
  (h.update.fset.fset.fset.foldl fun _ _ h =>
    h.streamSecure).applyWorld.applySafety.applyFallback.applyLogic.testPairs.showBanks.setPhase

theorem startImage (h : s₀.Keeps s) : s₀.Keeps s.startImage := by
  unfold State.startImage
  dsimp only
  split
  · exact h.chooseBank.enterRecovery
  have hb := h.chooseBank
  exact (fset (s := { s.chooseBank.1 with regs := [], boot := { s.chooseBank.1.boot with loaded := true } })
    { hb with regs := fun _ => rfl }).fset.fset.applyBank.fset.fset

theorem coldStart (h : s₀.Keeps s) : s₀.Keeps (s.coldStart) := by
  unfold State.coldStart
  dsimp only
  split
  · exact h.coldBase.fset.enterRetired
  split
  · exact h.coldBase.fset.enterRecovery
  · exact h.coldBase.fset.update.startImage

theorem execPowerGood {cold} (h : s₀.Keeps s) : nextWith (Machine.execPowerGood cold s) s₀.Keeps := by
  unfold Machine.execPowerGood
  split
  · exact h.coldStart.next
  · exact h.next

theorem chamoisReady {selfTests} (h : s₀.Keeps s) : s₀.Keeps (s.chamoisReady selfTests) :=
  h.setChamois

theorem leaveSafe (h : s₀.Keeps s) : s₀.Keeps (s.leaveSafe) :=
  h.update.fset.refreshReason

theorem execSafetyInService {selfTests} (h : s₀.Keeps s) :
    nextWith (Machine.execSafetyInService selfTests s) s₀.Keeps := by
  unfold Machine.execSafetyInService
  dsimp only
  split
  · exact h.next
  · exact (ite ((ite ((ite h.update h.update.chamoisReady).setPhase.fset.leaveSafe)
      ((ite h.update h.update.chamoisReady).setPhase.fset.refreshReason)).setFallback) (ite
      ((ite h.update h.update.chamoisReady).setPhase.fset.leaveSafe)
      ((ite h.update h.update.chamoisReady).setPhase.fset.refreshReason))).next

theorem trainStack {n u} (h : s₀.Keeps s) : s₀.Keeps (s.trainStack n u) :=
  ite h.fset.fset h.fset.fset.fset

theorem setStack {n u} (h : s₀.Keeps s) : s₀.Keeps (s.setStack n u) :=
  ite h h.fset.fset.fset.capsChanged

theorem execLpddr6Training {present} (h : s₀.Keeps s) :
    nextWith (Machine.execLpddr6Training present s) s₀.Keeps := by
  unfold Machine.execLpddr6Training
  dsimp only
  split
  · exact h.next
  split
  · exact ((h.update.foldl fun _ _ h => h.trainStack).foldl fun _ _ h => h.setStack).applyMapping.next
  · exact (h.update.foldl fun _ _ h => h.trainStack).next

theorem recordUnloaded {r} (h : s₀.Keeps s) : s₀.Keeps (s.recordUnloaded r) := by
  unfold State.recordUnloaded
  dsimp only
  refine raiseSide ?_
  split
  · exact h.update
  · exact h.update.writeEntry

theorem execGoldenAreaWrite (h : s₀.Keeps s) : nextWith (Machine.execGoldenAreaWrite s) s₀.Keeps := by
  unfold Machine.execGoldenAreaWrite
  extract_lets b
  dsimp only
  split
  · exact h.next
  split
  · exact h.next
  split
  · exact h.recordUnloaded.next
  · exact (h.foldl fun _ _ h => h.store.store).update.fset.next

theorem countUnits (h : s₀.Keeps s) : s₀.Keeps (s.countUnits) :=
  ite h h.fset.capsChanged

theorem startFails {te} (h : s₀.Keeps s) : s₀.Keeps (s.startFails te) :=
  h.setUsable.fset.setTeStat.setGft.countUnits

theorem execComputeIslandTest {passed} (h : s₀.Keeps s) :
    nextWith (Machine.execComputeIslandTest passed s) s₀.Keeps := by
  unfold Machine.execComputeIslandTest
  dsimp only
  split
  · exact h.next
  · exact (h.update.foldl fun _ _ h => (ite (h.foldl fun _ _ h1 => (ite h1.setParked h1)) (ite
      ((h.foldl fun _ _ h1 => (ite h1.startFails h1)).raiseSide) (h.foldl fun _ _ h1 =>
      (ite h1.startFails h1))))).next

theorem loadInstance {vi} (h : s₀.Keeps s) : s₀.Keeps (s.loadInstance vi) := by
  unfold State.loadInstance
  extract_lets s₁ x s₂
  have h₁ : s₀.Keeps s₁ := h.foldl fun _ _ h => h.fset.fset.fset.fset.fset.fset
  exact h₁.update.setViSt

theorem loadSpm {vi d n} (h : s₀.Keeps s) : s₀.Keeps (s.loadSpm vi d n) :=
  h.foldl fun _ _ h => h.setReg

theorem loadPartition {p} (h : s₀.Keeps s) : s₀.Keeps (s.loadPartition p) :=
  ((((ite h h.loadInstance).setRtPart.foldl fun _ _ h => (ite h.setGranule h)).foldl fun _ _ h =>
    h.loadSpm).fset.fset.fset.fset.fset.foldl fun _ _ h => h.lockRt).fset.fset.fset.fset

theorem loadInputs {p} (h : s₀.Keeps s) : s₀.Keeps (s.loadInputs p) :=
  (h.foldl fun _ _ h => h.setReg.setReg.setReg.setReg).foldl fun _ _ h =>
    (ite h.setReg.setIppStream.fset.fset h.setReg.setIppStream.fset)

theorem loadDisplay {p} (h : s₀.Keeps s) : s₀.Keeps (s.loadDisplay p) := by
  unfold State.loadDisplay
  extract_lets n k s₁ s₂ regions x
  have h₂ : s₀.Keeps s₂ := h.fset.fset.foldl fun _ _ h => (ite
    (h.setReg.setReg.setReg.setReg.fset.fset.checkTiming.foldl fun _ _ h1 => h1.fset.fset)
    h.setReg.setReg.setReg.setReg.fset.fset.checkTiming)
  exact h₂.update

theorem loadSteward {p} (h : s₀.Keeps s) : s₀.Keeps (s.loadSteward p).1 :=
  ite h.update h

theorem loadRecord {r} (h : s₀.Keeps s) : s₀.Keeps (s.loadRecord r) := by
  unfold State.loadRecord
  dsimp only
  split
  · exact h
  split
  · exact h.recordUnloaded
  split
  · exact h.streamSecure.loadPartition
  split
  · exact h.streamSecure.loadInputs
  split
  · exact h.streamSecure.loadDisplay
  split
  · exact ite h.streamSecure.loadSteward h.streamSecure.recordUnloaded
  split
  · split
    · exact h.streamSecure.storeProgram
    · exact ite h.streamSecure.storeProgram.tahrRestart h.streamSecure.storeProgram
  · exact h.streamSecure

theorem execComputeReady (h : s₀.Keeps s) : nextWith (Machine.execComputeReady s) s₀.Keeps := by
  unfold Machine.execComputeReady
  dsimp only
  split
  · exact h.next
  · exact (ite ((h.foldl fun _ _ h => (ite h h.loadRecord)).update.fset.setPhase) ((h.foldl fun _ _ h =>
      (ite h h.loadRecord)).update.fset)).next

theorem restoreOut {out} (h : s₀.Keeps s) : s₀.Keeps (s.restoreOut out) :=
  ite (((h.foldl fun _ _ h => h.fset.setTeStat).foldl fun _ _ h => h.setUsable).countUnits)
    (h.foldl fun _ _ h => h.fset.setTeStat)

theorem keepRegs {p : Nat × Word → Bool} (h : s₀.Keeps s) : s₀.Keeps { s with regs := s.regs.filter p } :=
  { h with regs := fun hr => storeRises_filter _ (h.regs hr) }

theorem dropFirmware {handoffSeq} (h : s₀.Keeps s) : s₀.Keeps (s.dropFirmware handoffSeq) :=
  (keepRegs h.update).fset

theorem loseLogic (h : s₀.Keeps s) : s₀.Keeps s.loseLogic := by
  refine restoreOut (dropFirmware ?_)
  exact { h with mem := fun hm => filter_wf _ (h.mem hm), regs := fun hr => storeRises_filter _ (h.regs hr) }

theorem stopDevice (h : s₀.Keeps s) : s₀.Keeps (s.stopDevice) :=
  h.loseLogic.update

theorem dropHolds (h : s₀.Keeps s) : s₀.Keeps (s.dropHolds) :=
  h.foldl fun _ _ h => h.setHeld.secNotice

theorem loseOptics (h : s₀.Keeps s) : s₀.Keeps (s.loseOptics) := by
  unfold State.loseOptics
  extract_lets s₁ s₂ s₃ x
  have h₁ : s₀.Keeps s₁ := h.foldl fun _ _ h => h.fset
  have h₂ : s₀.Keeps s₂ := h₁.foldl fun _ _ h => (h.foldl fun _ _ h1 => (ite h1 h1.fset))
  have h₃ : s₀.Keeps s₃ := h₂.foldl fun _ _ h => h.fset
  exact h₃.update

theorem loseMemory (h : s₀.Keeps s) : s₀.Keeps s.loseMemory := by
  refine foldl ?_ fun _ _ h => h.fset
  exact { h with mem := fun hm => filter_wf _ (h.mem hm) }

theorem execRailLoss {rail} (h : s₀.Keeps s) : nextWith (Machine.execRailLoss rail s) s₀.Keeps := by
  unfold Machine.execRailLoss
  dsimp only
  split
  · exact h.next
  split
  · exact h.newEvent.update.enterSafe.stopDevice.next
  · exact (ite h.newEvent.update.enterSafe.dropHolds.loseLogic
      (ite h.newEvent.update.enterSafe.loseOptics h.newEvent.update.enterSafe.loseMemory)).next

theorem execRailRestored {rail} (h : s₀.Keeps s) : nextWith (Machine.execRailRestored rail s) s₀.Keeps := by
  unfold Machine.execRailRestored
  dsimp only
  split
  · exact h.next
  · exact h.update.next

theorem countWarm (h : s₀.Keeps s) : s₀.Keeps (s.countWarm) :=
  h.fset.fadd

theorem execLogicWarmRestart (h : s₀.Keeps s) : nextWith (Machine.execLogicWarmRestart s) s₀.Keeps := by
  unfold Machine.execLogicWarmRestart
  refine .ite h.next ?_
  extract_lets s₁ x s₂ s₃ s₄ p s₅ s₆ s₇
  have h₄ : s₀.Keeps s₄ := (h.dropHolds.loseLogic.update.foldl fun _ _ h => ite h
    h.setPairSt).applyLogic.countWarm
  have h₇ : s₀.Keeps s₇ := h₄.fset.fset.fset.fset.foldl fun _ _ h => h.fset
  exact .ite h₇.setPhase.next (.ite h₇.setPhase.leaveSafe.next h₇.setPhase.next)

theorem copyRecords (h : s₀.Keeps s) : s₀.Keeps (s.copyRecords) :=
  h.update

theorem warmBase (h : s₀.Keeps s) : s₀.Keeps s.warmBase := by
  refine restoreOut (dropFirmware ?_)
  exact { h with mem := fun hm => filter_wf _ (h.mem hm), regs := fun hr => storeRises_filter _ (h.regs hr) }

theorem execWholeWarmRestart (h : s₀.Keeps s) : nextWith (Machine.execWholeWarmRestart s) s₀.Keeps := by
  unfold Machine.execWholeWarmRestart
  dsimp only
  split
  · exact h.next
  split
  · exact h.next
  split
  · exact h.newEvent.update.raiseRec.fset.fset.next
  split
  · split
    · exact h.copyRecords.warmBase.unhandle.countWarm.fset.fset.setCaps.enterRetired.next
    · split
      · exact h.copyRecords.warmBase.unhandle.countWarm.fset.fset.setCaps.failBank.enterRecovery.next
      · exact h.copyRecords.warmBase.unhandle.countWarm.fset.fset.setCaps.applyBank.next
  split
  · exact h.warmBase.unhandle.countWarm.fset.fset.setCaps.enterRetired.next
  split
  · exact h.warmBase.unhandle.countWarm.fset.fset.setCaps.failBank.enterRecovery.next
  · exact h.warmBase.unhandle.countWarm.fset.fset.setCaps.applyBank.next

theorem programBytes (h : s₀.Keeps s) : s₀.Keeps (s.programBytes).1 := by
  unfold State.programBytes
  dsimp only
  split
  · exact h.fset.scrub.fetchAs
  · exact h.fset.scrub

theorem execFlashProgramDone {written} (h : s₀.Keeps s) :
    nextWith (Machine.execFlashProgramDone written s) s₀.Keeps := by
  unfold Machine.execFlashProgramDone
  dsimp only
  split
  · exact h.next
  split
  · exact (h.programBytes.of_fst ‹_›).fset.next
  split
  · exact (h.programBytes.of_fst ‹_›).fset.next
  · exact (h.programBytes.of_fst ‹_›).putAt.writeEntry.next

end Sys2Proof.Machine.State.Keeps
end

section
/-! PROOFS. Paces, margins and oscillators keep what every step keeps. -/

namespace Sys2Proof.Machine.State.Keeps
variable {s₀ s t u : State} {α β : Type}

theorem execPaceMonitorPeriod {cluster steps} (h : s₀.Keeps s) :
    nextWith (Machine.execPaceMonitorPeriod cluster steps s) s₀.Keeps := by
  unfold Machine.execPaceMonitorPeriod
  dsimp only
  split
  · exact h.setIsl.update.next
  split
  · exact h.fset.update.next
  · exact h.next

theorem execFixedPaceLost (h : s₀.Keeps s) : nextWith (Machine.execFixedPaceLost s) s₀.Keeps := by
  unfold Machine.execFixedPaceLost
  split
  · exact h.next
  · exact h.losePace.next

theorem enterFixed {d i} (h : s₀.Keeps s) : s₀.Keeps (s.enterFixed d i) :=
  ite h (ite h (ite (h.update.setIsl.foldl fun _ _ h => h.fset) h.update))

theorem refill {d i used} (h : s₀.Keeps s) : s₀.Keeps (s.refill d i used) :=
  ite h h.update.fadd

theorem execPaceTokenRelease {generator used} (h : s₀.Keeps s) :
    nextWith (Machine.execPaceTokenRelease generator used s) s₀.Keeps := by
  unfold Machine.execPaceTokenRelease
  extract_lets gap x s₁ x₁ s₂ s₃
  have h₂ : s₀.Keeps s₂ := h.update.foldl fun _ _ h => h.enterFixed
  split
  · split
    · exact h.next
    · split
      · exact h.update.update.next
      · exact (h₂.fset.foldl fun _ _ h => h.refill).next
  split
  · exact h.next
  split
  · exact h.update.update.next
  · exact (h₂.fset.foldl fun _ _ h => h.refill).next

theorem seqEvent {n event} (h : s₀.Keeps s) : s₀.Keeps (s.seqEvent n event) :=
  h.setTahrSeq

theorem execDroopInform {die island} (h : s₀.Keeps s) :
    nextWith (Machine.execDroopInform die island s) s₀.Keeps := by
  unfold Machine.execDroopInform
  extract_lets k s₁ ts x s₂ before x₁ s₃
  split
  · exact h.fadd.seqEvent.update.next
  · exact h.fadd.seqEvent.update.update.requestLevel.next

theorem execDroopRaiseEnd {die island} (h : s₀.Keeps s) :
    nextWith (Machine.execDroopRaiseEnd die island s) s₀.Keeps := by
  unfold Machine.execDroopRaiseEnd
  dsimp only
  split
  · exact h.next
  split
  · exact h.next
  · exact h.update.requestLevel.setIsl.next

theorem endTest {te} (h : s₀.Keeps s) : s₀.Keeps (s.endTest te) := by
  unfold State.endTest
  extract_lets d i x s₁ s₂ s₃ s₄ s₅ s₆
  exact ite h.setReg.setReg.setReg.setReg.setEng.setGft.fset.fset
    h.setReg.setReg.setReg.setReg.setEng.setGft.fset.fset

theorem marginEngine {te} (h : s₀.Keeps s) : s₀.Keeps (s.marginEngine te) :=
  ite ((ite h.endTest (ite h h.teStop)).foldl fun _ _ h => h.doubtPartition) ((ite (((ite h.endTest
    (ite h h.teStop)).foldl fun _ _ h => h.doubtPartition).setUsable.rtEngineLost) (((ite h.endTest
    (ite h h.teStop)).foldl fun _ _ h => h.doubtPartition).setUsable)).fset.setTeStat.setGft)

theorem execMarginLost {die island} (h : s₀.Keeps s) :
    nextWith (Machine.execMarginLost die island s) s₀.Keeps := by
  unfold Machine.execMarginLost
  extract_lets x s₁ k x₁ s₂ s₃
  have h₃ : s₀.Keeps s₃ := ite h.newEvent.raiseRec.update.failAndReport.settleAll h.newEvent.raiseRec.update
  split
  · exact h₃.next
  · exact h₃.marginEngine.marginEngine.next

theorem reserve {src dst v} (h : s₀.Keeps s) : s₀.Keeps (s.reserve src dst v) :=
  ite h.update h.fadd

theorem execLevelReservation {src dst mv back} (h : s₀.Keeps s) :
    nextWith (Machine.execLevelReservation src dst mv back s) s₀.Keeps := by
  unfold Machine.execLevelReservation
  split
  · exact h.next
  split
  · exact h.reserve.next
  split
  · exact h.reserve.reserve.next
  · exact h.reserve.reserve.next

theorem lowerIsland {d i step lowest} (h : s₀.Keeps s) : s₀.Keeps (s.lowerIsland d i step lowest) := by
  unfold State.lowerIsland
  dsimp only
  split
  · exact h
  · exact ite h h.keepNormal.requestLevel

theorem coolCrossing {a b} (h : s₀.Keeps s) : s₀.Keeps (s.coolCrossing a b) :=
  ite h.lowerIsland h

theorem execCrossingTemp {die island other otherIsland} (h : s₀.Keeps s) :
    nextWith (Machine.execCrossingTemp die island other otherIsland s) s₀.Keeps := by
  unfold Machine.execCrossingTemp
  extract_lets a b x x₁ s₁ x₂
  split
  · exact h.next
  split
  · exact h.next
  · exact h.raiseRec.update.coolCrossing.next

theorem haltDevice (h : s₀.Keeps s) : s₀.Keeps s.haltDevice :=
  { h.stopDevice with mem := h.mem }

theorem execOscFail (h : s₀.Keeps s) : nextWith (Machine.execOscFail s) s₀.Keeps :=
  h.newEvent.raiseRec.fset.enterSafe.haltDevice.next

theorem execChamoisPaceLost (h : s₀.Keeps s) : nextWith (Machine.execChamoisPaceLost s) s₀.Keeps := by
  unfold Machine.execChamoisPaceLost
  dsimp only
  split
  · exact h.next
  · exact (ite h.update.setFallback h.update).next

theorem execFallbackRestored (h : s₀.Keeps s) : nextWith (Machine.execFallbackRestored s) s₀.Keeps := by
  unfold Machine.execFallbackRestored
  dsimp only
  split
  · exact (ite h.update.setFallback h.update).next
  · exact h.next

end Sys2Proof.Machine.State.Keeps
end

section
/-! PROOFS. The tensor engines' instructions and operations keep what every step keeps. -/

namespace Sys2Proof.Machine.State.Keeps
variable {s₀ s t u : State} {α β : Type}

theorem teAdvance {te} (h : s₀.Keeps s) : s₀.Keeps (s.teAdvance te) :=
  h.tePlace

theorem teRun {te op effect} (h : s₀.Keeps s) (hf : ∀ w, (effect w).Keeps s₀) :
    s₀.Keeps (s.teRun te op effect) := by
  unfold State.teRun
  split
  · exact h
  split
  · exact h
  · next w _ =>
    refine ite h ?_
    split
    · exact h
    refine ite h.teFault (ite h.teAdvance ?_)
    have hw := hf w
    split
    · next e => exact (hw.of_done e).teAdvance
    · next e => exact (hw.of_jump e).tePlace
    · exact h
    · exact h.teFault
    · next e => exact hw.of_stopped e

theorem execNop {te} (h : s₀.Keeps s) : nextWith (Machine.execNop te s) s₀.Keeps :=
  (h.teRun (fun _ => h.done)).next

theorem execSop {te} (h : s₀.Keeps s) : nextWith (Machine.execSop te s) s₀.Keeps :=
  (h.teRun (fun _ => h.setEng.done)).next

theorem execScmp {te} (h : s₀.Keeps s) : nextWith (Machine.execScmp te s) s₀.Keeps :=
  (h.teRun (fun _ => h.setEng.done)).next

theorem execSld {te} (h : s₀.Keeps s) : nextWith (Machine.execSld te s) s₀.Keeps := by
  unfold Machine.execSld
  dsimp only
  refine next ?_
  refine h.teRun fun a0 => ?_
  split
  · exact trivial
  split
  · exact h.teRefused.stopped
  split
  · exact h.reportPoison.teStop.stopped
  · exact h.fetchBytes.setEng.done

theorem teWrites {te ws} (h : s₀.Keeps s) : (s.teWrites te ws).Keeps s₀ := by
  unfold State.teWrites
  dsimp only
  split
  · exact h.teWriteRefusal.teAddressStop.stopped
  split
  · exact trivial
  · exact h.setEng.done

theorem execSst {te} (h : s₀.Keeps s) : nextWith (Machine.execSst te s) s₀.Keeps := by
  unfold Machine.execSst
  dsimp only
  refine next ?_
  refine h.teRun fun a0 => ?_
  split
  · exact trivial
  · exact h.teWrites

theorem execPset {te} (h : s₀.Keeps s) : nextWith (Machine.execPset te s) s₀.Keeps :=
  (h.teRun (fun _ => h.setEng.done)).next

theorem execBr {te} (h : s₀.Keeps s) : nextWith (Machine.execBr te s) s₀.Keeps := by
  unfold Machine.execBr
  dsimp only
  refine next ?_
  refine h.teRun fun a0 => ?_
  split
  · split
    · exact trivial
    · exact h.setEng.jump
  split
  · exact trivial
  · exact h.setEng.jump

theorem execLoop {te} (h : s₀.Keeps s) : nextWith (Machine.execLoop te s) s₀.Keeps := by
  unfold Machine.execLoop
  dsimp only
  refine next ?_
  refine h.teRun fun a0 => ?_
  split
  · exact trivial
  split
  · exact trivial
  split
  · split
    · exact h.jump
    · exact h.jump
  split
  · exact h.jump
  · exact h.jump

theorem teSync {te which go} (h : s₀.Keeps s) (hf : ∀ t, s₀.Keeps t → (go t).Keeps s₀) :
    (s.teSync te which go).Keeps s₀ := by
  unfold State.teSync
  dsimp only
  split
  · exact h.landWrites.teAddressStop.stopped
  split
  · exact h.landWrites.stopped
  · exact hf _ h.landWrites

theorem rankHalted {te j} (h : s₀.Keeps s) : s₀.Keeps (s.rankHalted te j) :=
  (ite h.rankStopped.postEvent.setJobState.releaseEngines h.rankStopped.postEvent).settle

theorem execHalt {te} (h : s₀.Keeps s) : nextWith (Machine.execHalt te s) s₀.Keeps := by
  unfold Machine.execHalt
  dsimp only
  refine next ?_
  refine h.teRun fun a0 => ?_
  refine h.teSync fun t h => ?_
  split
  · exact h.setTeStat.stopped
  · exact h.setTeStat.rankHalted.shrinkAll.testIfDue.stopped

theorem execAgset {te} (h : s₀.Keeps s) : nextWith (Machine.execAgset te s) s₀.Keeps := by
  unfold Machine.execAgset
  dsimp only
  refine next ?_
  refine h.teRun fun a0 => ?_
  split
  · exact h.setEng.done
  split
  · split
    · exact trivial
    · exact h.setEng.done
  split
  · exact trivial
  · exact h.setEng.done

theorem execAgadv {te} (h : s₀.Keeps s) : nextWith (Machine.execAgadv te s) s₀.Keeps :=
  (h.teRun (fun _ => h.setEng.done)).next

theorem execThset {te} (h : s₀.Keeps s) : nextWith (Machine.execThset te s) s₀.Keeps := by
  unfold Machine.execThset
  dsimp only
  refine next ?_
  refine h.teRun fun a0 => ?_
  split
  · exact trivial
  · exact h.setEng.done

theorem execThswap {te} (h : s₀.Keeps s) : nextWith (Machine.execThswap te s) s₀.Keeps := by
  unfold Machine.execThswap
  dsimp only
  refine next ?_
  refine h.teRun fun a0 => ?_
  split
  · exact h.setEng.done
  · exact trivial

theorem execTld {te} (h : s₀.Keeps s) : nextWith (Machine.execTld te s) s₀.Keeps := by
  unfold Machine.execTld
  dsimp only
  refine next ?_
  refine h.teRun fun a0 => ?_
  split
  · exact trivial
  split
  · exact trivial
  split
  · exact h.teRefused.stopped
  · exact h.fetchAll.setEng.done

theorem execTldComplete {te handle} (h : s₀.Keeps s) :
    nextWith (Machine.execTldComplete te handle s) s₀.Keeps := by
  unfold Machine.execTldComplete
  dsimp only
  split
  · exact h.next
  split
  · exact h.next
  split
  · exact h.reportPoison.teStop.next
  · exact h.setEng.fset.next

theorem upsetCorrected {te u} (h : s₀.Keeps s) : s₀.Keeps (s.upsetCorrected te u) := by
  unfold State.upsetCorrected
  dsimp only
  split
  · exact h.raiseSide
  · exact h.fresh.raiseSide
  · exact h

theorem foldSignature {te ws} (h : s₀.Keeps s) : s₀.Keeps (s.foldSignature te ws) :=
  ite h.fset h

theorem execTst {te upset} (h : s₀.Keeps s) : nextWith (Machine.execTst te upset s) s₀.Keeps := by
  unfold Machine.execTst
  dsimp only
  refine next ?_
  refine h.teRun fun a0 => ?_
  split
  · exact trivial
  split
  · exact trivial
  split
  · exact h.upsetFails.stopped
  split
  · exact (h.upsetCorrected.teWrites.of_done ‹_›).foldSignature.setEng.done
  · exact h.upsetCorrected.teWrites

theorem execTopen {te} (h : s₀.Keeps s) : nextWith (Machine.execTopen te s) s₀.Keeps := by
  unfold Machine.execTopen
  dsimp only
  refine next ?_
  refine h.teRun fun a0 => ?_
  split
  · exact trivial
  split
  · exact trivial
  · exact h.setEng.setBankState.done

theorem freeEntries {l entries} (h : s₀.Keeps s) : s₀.Keeps (s.freeEntries l entries).1 := by
  unfold State.freeEntries
  split
  · exact h
  refine h.foldl_fst fun p x h => ?_
  split
  · exact h
  · exact (h.fresh (w := 81)).fresh (w := 8)

theorem countSteps {te n} (h : s₀.Keeps s) : s₀.Keeps (s.countSteps te n) := by
  unfold State.countSteps
  dsimp only
  split
  · exact h.fwrap
  · exact h.fwrap.modJob

theorem execMma {te upset} (h : s₀.Keeps s) : nextWith (Machine.execMma te upset s) s₀.Keeps := by
  unfold Machine.execMma
  dsimp only
  refine next ?_
  refine h.teRun fun a0 => ?_
  split
  · split
    · exact trivial
    · split
      · exact trivial
      · exact trivial
      · split
        · exact h.upsetFails.stopped
        · exact h.upsetCorrected.freeEntries.setEng.countSteps.done
  · exact trivial

theorem execComb {te upset} (h : s₀.Keeps s) : nextWith (Machine.execComb te upset s) s₀.Keeps := by
  unfold Machine.execComb
  dsimp only
  refine next ?_
  refine h.teRun fun a0 => ?_
  split
  · exact trivial
  split
  · exact trivial
  split
  · exact trivial
  split
  · exact h.settleWrites.setBankState.checkStops.stopped
  split
  · exact h.fwrap.entryFails.stopped
  split
  · exact h.fwrap.upsetFails.stopped
  · exact h.fwrap.upsetCorrected.freeEntries.setEng.countSteps.done

theorem compareBank {te b upset t} (h : s₀.Keeps s) :
    s.compareBank te b upset = Option.some t → s₀.Keeps t := by
  unfold State.compareBank
  split
  · exact h.entryFails.some_eq
  split
  · exact h.upsetFails.some_eq
  · exact nofun

theorem execTclose {te upset} (h : s₀.Keeps s) : nextWith (Machine.execTclose te upset s) s₀.Keeps := by
  unfold Machine.execTclose
  dsimp only
  refine next ?_
  refine h.teRun fun a0 => ?_
  split
  · exact trivial
  split
  · exact (h.upsetCorrected.fadd.compareBank ‹_›).stopped
  · exact h.upsetCorrected.fadd.setBankState.done

theorem drained {te b row m} (h : s₀.Keeps s) : s₀.Keeps (s.drained te b row m) :=
  ite h.setEng.setBankState h.setEng

theorem execDrain {te upset} (h : s₀.Keeps s) : nextWith (Machine.execDrain te upset s) s₀.Keeps := by
  refine next (h.teRun fun w => ?_)
  extract_lets e b raw row m x hs dst an g s₁ col src scale bias direct grid rs finish ws
  have h₁ : s₀.Keeps s₁ := h.upsetCorrected
  have hfin (t : State) (ht : s₀.Keeps t) : s₀.Keeps (finish t) := ht.fadd.drained
  clear_value finish s₁ ws rs hs dst
  refine .ite trivial (.ite trivial (.ite trivial (.ite trivial (.ite trivial (.ite h.upsetFails
    (.ite ?_ ?_))))))
  · split
    next t e =>
      have ht : s₀.Keeps t := TeResult.Keeps.of_done h₁.teWrites e
      exact hfin _ (setEng (ite ht.foldSignature ht))
    · exact h₁.teWrites
  · cases dst with
    | none => trivial
    | some d => exact .ite (.ite trivial (hfin _ h₁.setEng)) (.ite trivial (hfin _ h₁.setEng))

theorem execVop {te upset} (h : s₀.Keeps s) : nextWith (Machine.execVop te upset s) s₀.Keeps := by
  refine next (h.teRun fun w => ?_)
  extract_lets e func scalar two
  split
  · dsimp only
    refine .ite trivial (.ite trivial (.ite trivial (.ite h.upsetFails (.ite ?_ ?_))))
    · exact h.settleWrites.setGft.countUnits.checkFailure.stopped
    · exact h.upsetCorrected.setEng.fadd.done
  · trivial

theorem teWaits {te} (h : s₀.Keeps s) : s₀.Keeps (s.teWaits te) :=
  ite h h.setEng.setTeStat

theorem execWait {te} (h : s₀.Keeps s) : nextWith (Machine.execWait te s) s₀.Keeps := by
  unfold Machine.execWait
  dsimp only
  refine next ?_
  refine h.teRun fun a0 => ?_
  split
  · split
    · exact h.setEng.done
    · exact h.teWaits.stopped
  split
  · exact h.setEng.done
  · exact h.teWaits.stopped

theorem execWaitTimeout {te} (h : s₀.Keeps s) : nextWith (Machine.execWaitTimeout te s) s₀.Keeps := by
  unfold Machine.execWaitTimeout
  dsimp only
  split
  · exact h.next
  refine next ?_
  refine h.teRun fun a0 => ?_
  split
  · exact trivial
  · exact h.setEng.done

theorem execSignal {te} (h : s₀.Keeps s) : nextWith (Machine.execSignal te s) s₀.Keeps := by
  unfold Machine.execSignal
  dsimp only
  refine next ?_
  refine h.teRun fun a0 => ?_
  split
  · exact trivial
  split
  · exact trivial
  · exact h.teSync (fun _ h => h.update.done)

theorem setFlag {te f} (h : s₀.Keeps s) : s₀.Keeps (s.setFlag te f) :=
  h.setEng

theorem execEventFlagArrival {te flag} (h : s₀.Keeps s) :
    nextWith (Machine.execEventFlagArrival te flag s) s₀.Keeps := by
  unfold Machine.execEventFlagArrival
  split
  · exact h.next
  · exact h.update.setFlag.next

theorem execBar {te} (h : s₀.Keeps s) : nextWith (Machine.execBar te s) s₀.Keeps := by
  unfold Machine.execBar
  dsimp only
  refine next ?_
  refine h.teRun fun a0 => ?_
  refine h.teSync fun t h => ?_
  split
  · exact h.teWaits.stopped
  split
  · exact h.teWaits.stopped
  · exact h.teWaits.modJob.stopped

theorem logRelease {j ranks} (h : s₀.Keeps s) : s₀.Keeps (s.logRelease j ranks) :=
  h.modJob

theorem execBarrierRelease {job barrier} (h : s₀.Keeps s) :
    nextWith (Machine.execBarrierRelease job barrier s) s₀.Keeps := by
  unfold Machine.execBarrierRelease
  dsimp only
  split
  · refine next ?_
    refine h.modJob.logRelease.foldl fun t x h => ?_
    split
    · exact h
    · exact ite h.teAdvance h
  · exact h.next

theorem execBarrierTimeout {te} (h : s₀.Keeps s) : nextWith (Machine.execBarrierTimeout te s) s₀.Keeps := by
  unfold Machine.execBarrierTimeout
  split
  · exact h.next
  refine next ?_
  refine h.teRun fun a0 => ?_
  split
  · exact trivial
  · exact trivial

theorem execFence {te} (h : s₀.Keeps s) : nextWith (Machine.execFence te s) s₀.Keeps :=
  (h.teRun (fun _ => (h.teSync (fun _ h => h.setEng.done)))).next

theorem markWaits {te j d b gs} (h : s₀.Keeps s) : s₀.Keeps (s.markWaits te j d b gs) := by
  unfold State.markWaits
  dsimp only
  refine h.foldl fun t x h => ?_
  split
  · exact ite h.takeGranule h
  · exact ite ((ite h.takeGranule h).update) (ite h.takeGranule h)

theorem markOne {te d b g first count contrib} (h : s₀.Keeps s) :
    s₀.Keeps (s.markOne te d b g first count contrib) := by
  unfold State.markOne
  dsimp only
  split
  · exact h
  · exact ite h.update (ite h.update.fset.fset.setGranState h.update.fset.fset)

theorem execCmark {te} (h : s₀.Keeps s) : nextWith (Machine.execCmark te s) s₀.Keeps := by
  unfold Machine.execCmark
  dsimp only
  refine next ?_
  refine h.teRun fun a0 => ?_
  split
  · exact trivial
  split
  · exact trivial
  split
  · exact trivial
  refine h.teSync fun t h => ?_
  split
  · exact h.teRefused.stopped
  split
  · split
    · exact h.markWaits.stopped
    · exact (h.foldl fun _ _ h => h.markOne).done
  · exact h.settleWrites.raiseRec.failGranules.teStop.stopped

theorem execRie {te upset} (h : s₀.Keeps s) : nextWith (Machine.execRie te upset s) s₀.Keeps := by
  refine next (h.teRun fun w => ?_)
  extract_lets e base count unit
  split
  · refine .ite trivial (.ite trivial (.ite trivial (.ite h.upsetFails ?_)))
    dsimp only
    split
    · exact h.upsetCorrected.setEng.done
    · exact h.upsetCorrected.setEng.resolveTokens.done
  · trivial

theorem execChkrd {te} (h : s₀.Keeps s) : nextWith (Machine.execChkrd te s) s₀.Keeps :=
  (h.teRun (fun _ => h.setEng.done)).next

theorem execSig {te} (h : s₀.Keeps s) : nextWith (Machine.execSig te s) s₀.Keeps := by
  unfold Machine.execSig
  dsimp only
  refine next ?_
  refine h.teRun fun a0 => ?_
  split
  · exact h.fset.done
  · exact h.setEng.done

theorem execIllegalOpcode {te} (h : s₀.Keeps s) : nextWith (Machine.execIllegalOpcode te s) s₀.Keeps := by
  unfold Machine.execIllegalOpcode
  split
  · exact h.next
  split
  · exact h.next
  · exact (ite h.teFault h).next

theorem execWriteRefusedAtTarget {te addr} (h : s₀.Keeps s) :
    nextWith (Machine.execWriteRefusedAtTarget te addr s) s₀.Keeps := by
  unfold Machine.execWriteRefusedAtTarget
  dsimp only
  split
  · exact h.next
  split
  · exact h.next
  · exact (h.dropOutstanding ‹_›).teWriteRefusal.teAddressStop.next

theorem compareOpen {te upset t} (h : s₀.Keeps s) : s.compareOpen te upset = Option.some t → s₀.Keeps t := by
  have one (b : Bool) {u : State} :
      (if s.bankState te b = bkOpen then s.compareBank te b upset else none) = Option.some u → s₀.Keeps u := by
    split
    · exact h.compareBank
    · nofun
  unfold State.compareOpen
  dsimp only
  split
  · next e => exact fun e' => Option.some.inj e' ▸ one false e
  · exact one true

theorem execTileInterimCheck {te upset} (h : s₀.Keeps s) :
    nextWith (Machine.execTileInterimCheck te upset s) s₀.Keeps := by
  unfold Machine.execTileInterimCheck
  extract_lets st opened due s₁ e again e₁ e₂
  split
  · exact h.next
  split
  · exact (h.upsetCorrected.fwrap.compareOpen ‹_›).next
  · exact h.upsetCorrected.fwrap.setEng.next

theorem controlBytes (h : s₀.Keeps s) : s₀.Keeps s.controlBytes.2 := h.draw

theorem writeImage {te} (h : s₀.Keeps s) : s₀.Keeps (s.writeImage te) := by
  unfold State.writeImage
  extract_lets a e s₁ c x s₂
  exact h.countLines.takeTokens.controlBytes.store.tagLines.update

theorem jobSaved {j} (h : s₀.Keeps s) : s₀.Keeps (s.jobSaved j) :=
  ite h.modJob.fadd.setJobState.releaseEngines h

theorem saveEngine {te upset} (h : s₀.Keeps s) : s₀.Keeps (s.saveEngine te upset) := by
  unfold State.saveEngine
  dsimp only
  split
  · exact h.upsetCorrected.compareOpen ‹_›
  split
  · exact h.upsetCorrected.upsetFails
  split
  · split
    · split
      · exact h.upsetCorrected.teRefused
      · exact h.upsetCorrected.writeImage.setTeStat.modJob.postEvent.jobSaved.shrinkAll.testIfDue
    · exact h.upsetCorrected.setTeStat.rankStopped.settle.testIfDue
  split
  · exact h.upsetCorrected.teRefused
  · exact h.upsetCorrected.writeImage.setTeStat.testIfDue

theorem execEngineSaved {te upset} (h : s₀.Keeps s) :
    nextWith (Machine.execEngineSaved te upset s) s₀.Keeps := by
  unfold Machine.execEngineSaved
  dsimp only
  split
  · exact h.next
  · exact (ite h.landWrites.teAddressStop (ite h.landWrites h.landWrites.saveEngine)).next

theorem execGranuleScrubDone {cluster granule} (h : s₀.Keeps s) :
    nextWith (Machine.execGranuleScrubDone cluster granule s) s₀.Keeps :=
  h.fset.next

end Sys2Proof.Machine.State.Keeps
end

section
/-! PROOFS. Patrols and the storage engines' descriptors keep what every step keeps. -/

namespace Sys2Proof.Machine.State.Keeps
variable {s₀ s t u : State} {α β : Type}

theorem patrolWord {d c w} (h : s₀.Keeps s) : s₀.Keeps (s.patrolWord d c w) :=
  ite h.markPoison.fadd.fset.raiseRec.dropModelAt h.markPoison.fadd.fset.raiseRec

theorem execSpmPatrol {cluster hits} (h : s₀.Keeps s) :
    nextWith (Machine.execSpmPatrol cluster hits s) s₀.Keeps := by
  unfold Machine.execSpmPatrol
  dsimp only
  split
  · exact h.next
  · exact (h.strike.correctSoft.foldl fun _ _ h => h.patrolWord).fwrap.fset.next

theorem patrolLine {m l} (h : s₀.Keeps s) : s₀.Keeps (s.patrolLine m l) :=
  h.markPoison.fadd.fset.raiseRec

theorem execMemPatrol {stack hits} (h : s₀.Keeps s) :
    nextWith (Machine.execMemPatrol stack hits s) s₀.Keeps := by
  unfold Machine.execMemPatrol
  dsimp only
  split
  · exact h.next
  · exact ((h.strike.foldl fun _ _ h => h.correctSoft).foldl fun _ _ h => h.patrolLine).fwrap.next

theorem execRingPaused {ring} (h : s₀.Keeps s) : nextWith (Machine.execRingPaused ring s) s₀.Keeps := by
  unfold Machine.execRingPaused
  dsimp only
  split
  · exact h.setRing.setRingSt.next
  · exact h.next

theorem ringRead {n a len} (h : s₀.Keeps s) : s₀.Keeps (s.ringRead n a len).1 := by
  unfold State.ringRead
  dsimp only
  split
  · exact h.refuse
  split
  · exact h.reportPoison
  · exact h.fetchBytes

theorem ringFail {n c} (h : s₀.Keeps s) : s₀.Keeps (s.ringFail n c) :=
  h.raiseRec.ringStop

theorem ringRun {n op effect} (h : s₀.Keeps s) (hf : ∀ t a₀, s₀.Keeps t → s₀.Keeps (effect t a₀)) :
    s₀.Keeps (s.ringRun n op effect) := by
  unfold State.ringRun
  dsimp only
  split
  · exact h
  split
  · exact (h.ringRead.of_fst ‹_›).ringStop
  · exact ite ((h.ringRead.of_fst ‹_›).ringFail) (ite h (hf _ _ (h.ringRead.of_fst ‹_›)))

theorem ringWrite {n a bs} (h : s₀.Keeps s) : s₀.Keeps (s.ringWrite n a bs).1 := by
  unfold State.ringWrite
  dsimp only
  split
  · split
    · exact h.refuseWrite
    · exact h.refuse
  split
  · exact h.notePosted.countLines.takeTokens.placeWrite.fwrap.refuse
  · exact h.notePosted.countLines.takeTokens.placeWrite.fwrap

theorem ringWrites {n bs a a4} (h : s₀.Keeps s) : s₀.Keeps (s.ringWrites n bs a a4).1 := by
  induction a4 generalizing s n bs a with
  | nil =>
    unfold State.ringWrites
    exact h
  | cons x a4 ih =>
    unfold State.ringWrites
    dsimp only
    split
    · exact h.ringWrite
    · exact ih h.ringWrite

theorem ringWriteRow {n a bs} (h : s₀.Keeps s) : s₀.Keeps (s.ringWriteRow n a bs).1 :=
  h.ringWrites

theorem copyRow {n src dst blind acc ps} (h : s₀.Keeps s) : s₀.Keeps (s.copyRow n src dst blind acc ps).1 := by
  induction ps generalizing s acc with
  | nil => exact h
  | cons p t ih =>
    unfold State.copyRow
    split
    · next e => exact h.ringRead.of_fst e
    · next u bs e =>
      have h₁ := h.ringRead.of_fst e
      have h₂ : s₀.Keeps (if blind then u.freeBytes bs.length else (u, bs)).1 := by
        split
        · exact h₁.freeBytes
        · exact h₁
      dsimp only
      split
      · next e => exact h₂.ringWriteRow.of_fst e
      · next e => exact ih (h₂.ringWriteRow.of_fst e)

theorem copyRows {n len blind acc a} (h : s₀.Keeps s) : s₀.Keeps (s.copyRows n len blind acc a).1 := by
  induction a generalizing s n len blind acc with
  | nil =>
    unfold State.copyRows
    exact h
  | cons x a ih =>
    unfold State.copyRows
    split
    · exact h.copyRow.of_fst ‹_›
    · exact ih (h.copyRow.of_fst ‹_›)

theorem ringIssued {n d crc} (h : s₀.Keeps s) : s₀.Keeps (s.ringIssued n d crc) :=
  h.setRing.setRingSt

theorem execSeCopy {ring} (h : s₀.Keeps s) : nextWith (Machine.execSeCopy ring s) s₀.Keeps := by
  unfold Machine.execSeCopy
  refine next ?_
  refine h.ringRun fun t a1 h => ?_
  split
  · exact (h.copyRows.of_fst ‹_›).ringStop
  · exact (h.copyRows.of_fst ‹_›).ringIssued

theorem fillRows {n len pattern done a} (h : s₀.Keeps s) : s₀.Keeps (s.fillRows n len pattern done a).1 := by
  induction a generalizing s n len pattern done with
  | nil =>
    unfold State.fillRows
    exact h
  | cons x a ih =>
    unfold State.fillRows
    split
    · exact h.ringWriteRow.of_fst ‹_›
    · exact ih (h.ringWriteRow.of_fst ‹_›)

theorem execSeFill {ring} (h : s₀.Keeps s) : nextWith (Machine.execSeFill ring s) s₀.Keeps := by
  unfold Machine.execSeFill
  dsimp only
  refine next ?_
  refine h.ringRun fun t a1 h => ?_
  split
  · exact (h.fillRows.of_fst ‹_›).ringStop
  · exact (h.fillRows.of_fst ‹_›).ringIssued

theorem execSeWait {ring} (h : s₀.Keeps s) : nextWith (Machine.execSeWait ring s) s₀.Keeps :=
  (h.ringRun (fun _ _ h => (ite h.setRing.ringIssued h.setRingSt))).next

theorem signalRank {n d} (h : s₀.Keeps s) : s₀.Keeps (s.signalRank n d) := by
  unfold State.signalRank
  split
  · exact h
  · exact h.setFlag

theorem execSeSignal {ring} (h : s₀.Keeps s) : nextWith (Machine.execSeSignal ring s) s₀.Keeps :=
  (h.ringRun (fun _ _ h => h.signalRank.ringIssued)).next

theorem execSeFence {ring} (h : s₀.Keeps s) : nextWith (Machine.execSeFence ring s) s₀.Keeps :=
  (h.ringRun (fun _ _ h => (ite h.ringIssued h.setRingSt))).next

theorem execRingFlagSet {ring flag} (h : s₀.Keeps s) :
    nextWith (Machine.execRingFlagSet ring flag s) s₀.Keeps := by
  unfold Machine.execRingFlagSet
  dsimp only
  split
  · exact h.next
  · exact h.update.setRing.next

theorem spoilDest {n d} (h : s₀.Keeps s) : s₀.Keeps (s.spoilDest n d) :=
  h.foldl fun _ _ h => h.freeBytes.placeWrite

theorem retireDescriptor {n x rest same} (h : s₀.Keeps s) : s₀.Keeps (s.retireDescriptor n x rest same) :=
  ite h.spoilDest.ringFail <|
    ite h.spoilDest.ringFail <|
    ite ((ite h.setRing.fset.seqEvent h.setRing.fset).signalRank) (ite h.setRing.fset.seqEvent h.setRing.fset)

theorem execDescriptorRetire {ring same} (h : s₀.Keeps s) :
    nextWith (Machine.execDescriptorRetire ring same s) s₀.Keeps := by
  unfold Machine.execDescriptorRetire
  split
  · exact h.next
  split
  · exact h.next
  · exact h.retireDescriptor.next

end Sys2Proof.Machine.State.Keeps
end

section
/-! PROOFS. Models and buffers keep what every step keeps. -/

namespace Sys2Proof.Machine.State.Keeps
variable {s₀ s t u : State} {α β : Type}

theorem readEntryAt {q i n} (h : s₀.Keeps s) : s₀.Keeps (s.readEntryAt q i n).1 :=
  h.fetchAs

theorem skipEntry {q n} (h : s₀.Keeps s) : s₀.Keeps (s.skipEntry q n) :=
  h.fset.raiseRec

theorem withEntry {q n f} (h : s₀.Keeps s) (hf : ∀ t a₀, s₀.Keeps t → s₀.Keeps (f t a₀)) :
    s₀.Keeps (s.withEntry q n f) := by
  unfold State.withEntry
  split
  · exact h
  split
  · exact (h.readEntryAt.of_fst ‹_›).skipEntry
  · exact hf _ _ (h.readEntryAt.of_fst ‹_›)

theorem completeCommand {q tag vi status result} (h : s₀.Keeps s) :
    s₀.Keeps (s.completeCommand q tag vi status result) :=
  h.releaseCompletion

theorem sysCommand {q code f} (h : s₀.Keeps s) (hf : ∀ t e vi, s₀.Keeps t → s₀.Keeps (f t e vi).1) :
    s₀.Keeps (s.sysCommand q code f) := by
  unfold State.sysCommand
  refine ite h (h.withEntry fun t e ht => ite h ?_)
  have hr := hf _ e (s.qVi q) (ht.fset (f := F.schQptr_head) (d := 4) (i := 0) (u := q) (v := s.qHead q + 1))
  dsimp only
  split
  · exact hr
  · exact ite hr.completeCommand hr

theorem execMcRegister {queue} (h : s₀.Keeps s) : nextWith (Machine.execMcRegister queue s) s₀.Keeps := by
  unfold Machine.execMcRegister
  dsimp only
  refine next ?_
  refine h.sysCommand fun t a1 a2 h => ?_
  split
  · exact h
  split
  · exact h
  split
  · exact h
  split
  · exact h
  · exact h.putModel

theorem execMcPin {queue} (h : s₀.Keeps s) : nextWith (Machine.execMcPin queue s) s₀.Keeps := by
  unfold Machine.execMcPin
  dsimp only
  refine next ?_
  refine h.sysCommand fun t a1 a2 h => ?_
  split
  · exact h
  split
  · exact h
  split
  · exact h.putModel
  split
  · exact h
  split
  · exact h
  · exact h.demandModel.putModel

theorem execMcUnpin {queue} (h : s₀.Keeps s) : nextWith (Machine.execMcUnpin queue s) s₀.Keeps := by
  unfold Machine.execMcUnpin
  refine next ?_
  refine h.sysCommand fun t a1 a2 h => ?_
  split
  · exact h
  · exact h.putModel

theorem pinDone {vi ws status} (h : s₀.Keeps s) : s₀.Keeps (s.pinDone vi ws status) :=
  h.foldl fun _ _ h => (ite h.completeCommand h)

theorem execMcRelease {queue} (h : s₀.Keeps s) : nextWith (Machine.execMcRelease queue s) s₀.Keeps := by
  unfold Machine.execMcRelease
  dsimp only
  refine next ?_
  refine h.sysCommand fun t a1 a2 h => ?_
  split
  · exact h
  split
  · exact h.pinDone.putModel
  · exact h.pinDone.update

/-- As for `compact`, the number of pairs and the time of a load are made variables, before the recursion is unfolded. -/
theorem prefetchRoom {vi y num den a p} (h : s₀.Keeps s) :
    s.prefetchRoom vi y num den a = Option.some p → s₀.Keeps p.1 := by
  obtain ⟨pairs, hp⟩ := exists_eq (a' := modelPairs)
  obtain ⟨reload, hr⟩ := exists_eq (a' := reloadUs)
  delta State.prefetchRoom State.prefetchRoom._f
  rw [← hp, ← hr]
  clear hp hr
  induction a generalizing s with
  | zero => nofun
  | succ n ih =>
    dsimp only
    split
    next hr => rintro ⟨⟩; exact h.runOf hr
    split
    · nofun
    split
    · nofun
    split
    · exact ih h.dropModel
    · nofun

theorem prefetch {vi id num den t} (h : s₀.Keeps s) :
    s.prefetch vi id num den = Option.some t → s₀.Keeps t := by
  unfold State.prefetch
  generalize 66 = fuel
  split
  · nofun
  split
  · intro e
    obtain ⟨r, hr, rfl⟩ := Option.map_eq_some_iff.1 e
    exact (h.prefetchRoom hr).startLoad
  · nofun

theorem execMcPrefetch {queue} (h : s₀.Keeps s) : nextWith (Machine.execMcPrefetch queue s) s₀.Keeps := by
  unfold Machine.execMcPrefetch
  dsimp only
  refine next ?_
  refine h.sysCommand fun t a1 a2 h => ?_
  split
  · exact h
  split
  · exact h
  split
  · exact h
  · exact h.prefetch ‹_›

theorem execMcQuery {queue} (h : s₀.Keeps s) : nextWith (Machine.execMcQuery queue s) s₀.Keeps := by
  unfold Machine.execMcQuery
  refine next ?_
  refine h.sysCommand fun t a1 a2 h => ?_
  split
  · exact h
  · exact h

theorem loadPiece {vi m b se same p} (h : s₀.Keeps s) : s₀.Keeps (s.loadPiece vi m b se same p).1 := by
  unfold State.loadPiece
  dsimp only
  split
  · exact h.fetchAs.of_fst ‹_›
  split
  · exact (h.fetchAs.of_fst ‹_›).fetchAs.of_fst ‹_›
  split
  · exact ((h.fetchAs.of_fst ‹_›).fetchAs.of_fst ‹_›).store.fwrap.raiseRec
  split
  · exact ((h.fetchAs.of_fst ‹_›).fetchAs.of_fst ‹_›).store.fwrap.raiseRec
  · exact ((h.fetchAs.of_fst ‹_›).fetchAs.of_fst ‹_›).store.fwrap

theorem loadPieces {vi m b se same a} (h : s₀.Keeps s) : s₀.Keeps (s.loadPieces vi m b se same a).1 := by
  induction a generalizing s vi m b se same with
  | nil =>
    unfold State.loadPieces
    exact h
  | cons x a ih =>
    unfold State.loadPieces
    split
    · exact h.loadPiece.of_fst ‹_›
    · exact ih (h.loadPiece.of_fst ‹_›)

theorem refuseWaiting {j status} (h : s₀.Keeps s) : s₀.Keeps (s.refuseWaiting j status) :=
  h.modJob.endModels.unready.releaseCompletion

theorem execModelLoadDone {vi id se same} (h : s₀.Keeps s) :
    nextWith (Machine.execModelLoadDone vi id se same s) s₀.Keeps := by
  unfold Machine.execModelLoadDone
  dsimp only
  split
  · exact h.next
  split
  · exact h.next
  split
  · exact h.next
  split
  · exact h.loadPieces.putModel.pinDone.next
  · exact (h.loadPieces.putModel.pinDone.foldl fun _ _ h => h.refuseWaiting).next

theorem enterBuffer {d b vi pub shadow n fill span readers first} (h : s₀.Keeps s) :
    s₀.Keeps (s.enterBuffer d b vi pub shadow n fill span readers first) :=
  (h.setReg.setReg.setReg.fset.fset.fset.fset.fset.fset.foldl fun _ _ h => h.setReg.setReg.setReg).fset.fset

theorem execCbRegister {queue die buffer} (h : s₀.Keeps s) :
    nextWith (Machine.execCbRegister queue die buffer s) s₀.Keeps := by
  unfold Machine.execCbRegister
  dsimp only
  refine next ?_
  refine h.sysCommand fun t a1 a2 h => ?_
  split
  · exact h
  split
  · exact h
  split
  · exact h.enterBuffer
  · exact h

theorem execCbRelease {queue} (h : s₀.Keeps s) : nextWith (Machine.execCbRelease queue s) s₀.Keeps := by
  unfold Machine.execCbRelease
  refine next ?_
  refine h.sysCommand fun t a1 a2 h => ?_
  split
  · exact h
  split
  · exact h
  · exact h.leaveBuffer

theorem execCbQuery {queue} (h : s₀.Keeps s) : nextWith (Machine.execCbQuery queue s) s₀.Keeps := by
  unfold Machine.execCbQuery
  dsimp only
  refine next ?_
  refine h.sysCommand fun t a1 a2 h => ?_
  split
  · exact h
  · exact h.update

theorem execCbShare {queue} (h : s₀.Keeps s) : nextWith (Machine.execCbShare queue s) s₀.Keeps := by
  unfold Machine.execCbShare
  refine next ?_
  refine h.sysCommand fun t a1 a2 h => ?_
  split
  · exact h
  · exact h.fset

theorem flip {d e o} (h : s₀.Keeps s) : s₀.Keeps (s.flip d e o) :=
  h.fset.fset.fset.fset.fset.idleGranule.fwrap.fwrap.modJob

theorem execGroupConfirm {die entry} (h : s₀.Keeps s) :
    nextWith (Machine.execGroupConfirm die entry s) s₀.Keeps := by
  unfold Machine.execGroupConfirm
  dsimp only
  split
  · exact h.next
  split
  · exact (h.foldl fun _ _ h => h.flip).writeProgress.settle.shrinkAll.next
  · exact h.next

end Sys2Proof.Machine.State.Keeps
end

section
/-! PROOFS. Tokens, job records and dispatch keep what every step keeps. -/

namespace Sys2Proof.Machine.State.Keeps
variable {s₀ s t u : State} {α β : Type}

theorem execTokenDeadline {job} (h : s₀.Keeps s) : nextWith (Machine.execTokenDeadline job s) s₀.Keeps := by
  unfold Machine.execTokenDeadline
  dsimp only
  split
  · exact h.next
  · exact h.fadd.raiseRec.resolveTokens.next

theorem markAdmitted {j} (h : s₀.Keeps s) : s₀.Keeps (s.markAdmitted j) :=
  h.modJob

theorem rtAdmit {p est ranks} (h : s₀.Keeps s) : s₀.Keeps (s.rtAdmit p est ranks) :=
  h.fset.fadd.setRtPart

theorem acceptRecord {q vi e} (h : s₀.Keeps s) : s₀.Keeps (s.acceptRecord q vi e) := by
  unfold State.acceptRecord
  extract_lets j r cls s₁ x x₁ s₂ s₃ s₄ waits s₅ x₂ s₆ s₇ s₈
  have h₅ : s₀.Keeps s₅ := ite h.setReg.update.fset.fset.rtAdmit.markAdmitted h.setReg.update.fset.fset
  have h₆ : s₀.Keeps s₆ := ite h₅.update h₅.update.countReady
  have h₈ : s₀.Keeps s₈ := h₆.postEvent.foldl fun _ _ h => h.demandModel
  exact h₈.writeProgress

theorem rtRefused {p a} (h : s₀.Keeps s) : s₀.Keeps (s.rtRefused p a) := by
  unfold State.rtRefused
  split
  · exact h.fadd
  · exact h.fadd
  · exact h

theorem refuseRecord {vi e status} (h : s₀.Keeps s) : s₀.Keeps (s.refuseRecord vi e status) :=
  ite ((ite h.fadd.rtRefused (ite h.fadd.rtRefused h.fadd)).releaseCompletion) <|
    ite h.fadd.rtRefused (ite h.fadd.rtRefused h.fadd)

theorem execJobRecordFetch {queue} (h : s₀.Keeps s) :
    nextWith (Machine.execJobRecordFetch queue s) s₀.Keeps := by
  unfold Machine.execJobRecordFetch
  dsimp only
  split
  · exact (h.withEntry (fun _ _ k => (ite h (h.sysCommand (fun _ _ _ h1 => h1))))).next
  split
  · exact h.next
  · exact (h.withEntry (fun _ _ h => (ite h.fset.acceptRecord h.fset.refuseRecord))).next

theorem execMsiCoalesceTimeout {queue} (h : s₀.Keeps s) :
    nextWith (Machine.execMsiCoalesceTimeout queue s) s₀.Keeps := by
  unfold Machine.execMsiCoalesceTimeout
  dsimp only
  split
  · split
    · exact h.next
    · exact h.sendCqMsi.next
  split
  · exact h.next
  · exact h.sendCqMsi.next

theorem takeModel {j key} (h : s₀.Keeps s) : s₀.Keeps (s.takeModel j key) := by
  unfold State.takeModel
  dsimp only
  split
  · exact h
  · exact ite h.dropModel.fadd (h.dropModel.fadd.foldl fun _ _ h => h.giveGranule)

theorem regionRoom {j die n fuel p} (h : s₀.Keeps s) :
    s.regionRoom j die n fuel = Option.some p → s₀.Keeps p.1 := by
  induction fuel generalizing s with
  | zero => nofun
  | succ k ih =>
    unfold State.regionRoom
    split
    · exact h.some_fst_eq
    split
    · nofun
    · exact ih h.takeModel

theorem placeRegions {vi j ps p} (h : s₀.Keeps s) : s.placeRegions vi j ps = Option.some p → s₀.Keeps p.1 := by
  induction ps generalizing s p with
  | nil => exact h.some_fst_eq
  | cons q t ih =>
    unfold State.placeRegions
    generalize 66 = fuel
    split
    · intro e
      obtain ⟨r, hr, rfl⟩ := Option.map_eq_some_iff.1 e
      have hr' := ih h hr
      exact hr'
    split
    · nofun
    · next e =>
      intro e'
      obtain ⟨r, hr, rfl⟩ := Option.map_eq_some_iff.1 e'
      have hr' := ih ((h.regionRoom e).foldl fun _ _ h => h.setGranule).modJob hr
      exact hr'

theorem allocRegions {j t} (h : s₀.Keeps s) : s.allocRegions j = Option.some t → s₀.Keeps t := by
  intro e
  obtain ⟨r, hr, rfl⟩ := Option.map_eq_some_iff.1 e
  exact (h.modJob.placeRegions hr).modJob

theorem allocTokens {j home t} (h : s₀.Keeps s) : s.allocTokens j home = Option.some t → s₀.Keeps t := by
  unfold State.allocTokens
  dsimp only
  split
  · exact h.modJob.some_eq
  split
  · exact nofun
  · exact (h.foldl fun _ _ h => h.setReg).fset.modJob.some_eq

theorem mapRanks {j} (h : s₀.Keeps s) : s₀.Keeps (s.mapRanks j) :=
  h.fset.fset.fset

theorem learn {vi prev cur} (h : s₀.Keeps s) : s₀.Keeps (s.learn vi prev cur) :=
  h.update

theorem cacheDispatch {vi x} (h : s₀.Keeps s) : s₀.Keeps (s.cacheDispatch vi x) := by
  unfold State.cacheDispatch
  extract_lets s₁ c s₂ y n
  have h₁ : s₀.Keeps s₁ := by
    unfold s₁
    split
    · exact h
    · exact h.learn
  have h₂ : s₀.Keeps s₂ := h₁.update
  exact ite (h₂.getD fun _ => h₂.prefetch) h₂

theorem noteWindow {j te r} (h : s₀.Keeps s) : s₀.Keeps (s.noteWindow j te r) :=
  h.modJob

theorem bindRank {j te r} (h : s₀.Keeps s) : s₀.Keeps (s.bindRank j te r) :=
  h.setReg.setReg.noteWindow

theorem startRanks {j tes slots} (h : s₀.Keeps s) : s₀.Keeps (s.startRanks j tes slots) := by
  unfold State.startRanks
  dsimp only
  refine foldl ?_ fun t x h => ?_
  · refine foldl ?_ fun t x h => ?_
    · split
      · exact (h.modJob.mapRanks.foldl fun _ _ h => h.fset).unready.setJobState
      · exact (h.modJob.mapRanks.foldl fun _ _ h => h.fset).unready.setJobState.cacheDispatch
    · exact h.bindRank
  · exact h.opTeStart

theorem execJobDispatch {job tes slots} (h : s₀.Keeps s) :
    nextWith (Machine.execJobDispatch job tes slots s) s₀.Keeps := by
  unfold Machine.execJobDispatch
  dsimp only
  split
  · exact h.next
  split
  · exact h.refuseWaiting.next
  split
  · exact (h.foldl fun _ _ h => h.demandModel).next
  split
  · split
    · exact h.next
    · split
      · exact h.fadd.next
      · split
        · exact h.next
        · exact ((h.allocRegions ‹_›).allocTokens ‹_›).startRanks.next
  split
  · exact h.next
  split
  · exact h.fadd.next
  split
  · exact h.next
  · exact ((h.allocRegions ‹_›).allocTokens ‹_›).startRanks.next

theorem execJobPreempt {job needing} (h : s₀.Keeps s) :
    nextWith (Machine.execJobPreempt job needing s) s₀.Keeps := by
  unfold Machine.execJobPreempt
  split
  · exact h.requestPreempt.next
  · exact h.next

theorem spillGranule {j se a copy} (h : s₀.Keeps s) : s₀.Keeps (s.spillGranule j se a copy) :=
  h.copyMarked.scrub.countLines.fwrap.fadd.modJob

theorem execSpillDone {job needer se granules copies} (h : s₀.Keeps s) :
    nextWith (Machine.execSpillDone job needer se granules copies s) s₀.Keeps := by
  unfold Machine.execSpillDone
  dsimp only
  split
  · exact (ite ((h.foldl fun _ _ h => h.spillGranule).foldl fun _ _ h => h.giveGranule)
      (h.foldl fun _ _ h => h.spillGranule)).shrinkAll.next
  · exact h.next

theorem resumeRanks {j} (h : s₀.Keeps s) : s₀.Keeps (s.resumeRanks j) := by
  unfold State.resumeRanks
  dsimp only
  refine foldl ?_ fun t x h => ?_
  · refine foldl ?_ fun t x h => ?_
    · refine modJob ?_
      refine h.setJobState.foldl fun t x h => ?_
      split
      · exact h
      · exact h.bindRank.fset
    · exact ite h.opRingStart h
  split
  · exact h
  · exact ite h.opTeResume h

theorem execJobResume {job tes} (h : s₀.Keeps s) : nextWith (Machine.execJobResume job tes s) s₀.Keeps := by
  unfold Machine.execJobResume
  dsimp only
  split
  · exact h.next
  split
  · exact h.modJob.mapRanks.resumeRanks.next
  · exact h.modJob.mapRanks.next

theorem execRefillDone {job same} (h : s₀.Keeps s) : nextWith (Machine.execRefillDone job same s) s₀.Keeps := by
  unfold Machine.execRefillDone
  dsimp only
  split
  · exact h.next
  split
  · exact h.raiseRec.stopJob.next
  · exact (h.foldl fun _ _ h => h.fset.copyMarked).modJob.resumeRanks.next

theorem overrun {j} (h : s₀.Keeps s) : s₀.Keeps (s.overrun j) := by
  unfold State.overrun
  dsimp only
  refine doubtPartition ?_
  refine foldl ?_ fun t x h => ?_
  · refine stopJob ?_
    refine h.raiseRec.fadd.fadd.foldl fun t x h => ?_
    split
    · exact h
    · exact h.abortEngine.rankStopped
  split
  · exact h
  · exact h.testIfDue

theorem execRtBudgetEnd {partition} (h : s₀.Keeps s) :
    nextWith (Machine.execRtBudgetEnd partition s) s₀.Keeps := by
  unfold Machine.execRtBudgetEnd
  dsimp only
  split
  · exact h.next
  · exact (h.setRtPart.foldl fun _ _ h => h.overrun).next

end Sys2Proof.Machine.State.Keeps
end

section
/-! PROOFS. Streams, windows, frames and the fallback keep what every step keeps. -/

namespace Sys2Proof.Machine.State.Keeps
variable {s₀ s t u : State} {α β : Type}

theorem fallbackSample {n capture damage data} (h : s₀.Keeps s) :
    s₀.Keeps (s.fallbackSample n capture damage data) :=
  ite h.update h

theorem ingestSample {stream capture damage data} (h : s₀.Keeps s) :
    nextWith (s.ingestSample stream capture damage data) s₀.Keeps := by
  unfold State.ingestSample
  dsimp only
  split
  · exact h.fallbackSample.next
  split
  · exact h.fallbackSample.setIppStream.next
  split
  · exact h.fallbackSample.setIppStream.fadd.next
  split
  · split
    · exact h.fallbackSample.setIppStream.putBatch.next
    · exact h.fallbackSample.setIppStream.next
  · exact h.fallbackSample.setIppStream.next

theorem execSampleIngest {stream capture damage data} (h : s₀.Keeps s) :
    nextWith (Machine.execSampleIngest stream capture damage data s) s₀.Keeps :=
  h.ingestSample

theorem sourceOf {decode p x} (h : s₀.Keeps s) : s₀.Keeps (s.sourceOf decode p x).2 := by
  unfold State.sourceOf
  split
  · exact h.draw
  · exact h

theorem execSlotComplete {stream lost refsLost} (h : s₀.Keeps s) :
    nextWith (Machine.execSlotComplete stream lost refsLost s) s₀.Keeps := by
  unfold Machine.execSlotComplete
  dsimp only
  split
  · exact h.next
  split
  · split
    · split
      · exact h.sourceOf.setIppStream.fillSlot.prepareBatch.next
      · exact h.sourceOf.setIppStream.fillSlot.next
    · split
      · exact h.sourceOf.setIppStream.fadd.raiseRec.fillSlot.prepareBatch.next
      · exact h.sourceOf.setIppStream.fadd.raiseRec.fillSlot.next
  split
  · split
    · exact h.sourceOf.fillSlot.prepareBatch.next
    · exact h.sourceOf.fillSlot.next
  split
  · exact h.sourceOf.fadd.raiseRec.fillSlot.prepareBatch.next
  · exact h.sourceOf.fadd.raiseRec.fillSlot.next

theorem execDecodeAbort {stream undecoded} (h : s₀.Keeps s) :
    nextWith (Machine.execDecodeAbort stream undecoded s) s₀.Keeps := by
  unfold Machine.execDecodeAbort
  dsimp only
  split
  · exact h.next
  split
  · exact h.next
  · exact h.putBatch.fadd.raiseRec.next

theorem latchGroup {g} (h : s₀.Keeps s) : s₀.Keeps (s.latchGroup g) := by
  unfold State.latchGroup
  dsimp only
  refine h.setIppGroup.foldl fun t x h => ?_
  split
  · exact h
  · exact h.setIppStream

theorem takeBuffer {g p} (h : s₀.Keeps s) : s.takeBuffer g = Option.some p → s₀.Keeps p.1 := by
  unfold State.takeBuffer
  dsimp only
  split
  · exact h.some_fst_eq
  split
  · exact nofun
  · exact h.fadd.discardPrepared.some_fst_eq

theorem execWindowOpen {group} (h : s₀.Keeps s) : nextWith (Machine.execWindowOpen group s) s₀.Keeps := by
  unfold Machine.execWindowOpen
  dsimp only
  split
  · exact h.next
  split
  · exact h.latchGroup.setIppGroup.fset.fadd.raiseRec.next
  · exact (h.latchGroup.setIppGroup.fset.takeBuffer ‹_›).setIppGroup.countBuffers.next

theorem execWindowClose {group} (h : s₀.Keeps s) : nextWith (Machine.execWindowClose group s) s₀.Keeps := by
  unfold Machine.execWindowClose
  dsimp only
  split
  · exact h.next
  split
  · exact h.next
  refine next ?_
  refine setIppGroup ?_
  split
  · exact h.foldl fun _ _ h => h.seqEvent
  refine prepareBatch ?_
  refine (h.foldl fun _ _ h => h.seqEvent).foldl_fst fun p x h => ?_
  split
  · exact h
  split
  · exact h
  · exact h.missSlot

theorem execRtConsumeDeadline {group} (h : s₀.Keeps s) :
    nextWith (Machine.execRtConsumeDeadline group s) s₀.Keeps := by
  unfold Machine.execRtConsumeDeadline
  dsimp only
  split
  · exact h.next
  split
  · exact h.setIppGroup.next
  · exact (h.setIppGroup.foldl fun _ _ h => h.discardPrepared).fadd.raiseRec.doubtPartition.next

theorem batchWrite {off bs} (h : s₀.Keeps s) : s₀.Keeps (s.batchWrite off bs) :=
  ite h.store h

theorem writeLane {i l} (h : s₀.Keeps s) : s₀.Keeps (s.writeLane i l) :=
  h.batchWrite.batchWrite

theorem writeBatchHeader (h : s₀.Keeps s) : s₀.Keeps (s.writeBatchHeader) :=
  h.fresh.batchWrite

theorem execFallbackClose (h : s₀.Keeps s) : nextWith (Machine.execFallbackClose s) s₀.Keeps := by
  unfold Machine.execFallbackClose
  refine .ite h.next ?_
  extract_lets s₁ lanes missing ok bad s₂ x s₃ s₄ s₅ s₆
  have h₂ : s₀.Keeps s₂ := h.newEvent.foldl fun t i h => by
    split
    · exact ite h.writeLane h
    · exact h
  have h₄ : s₀.Keeps s₄ := h₂.update.writeBatchHeader
  have h₅ : s₀.Keeps s₅ := ite h₄.fadd h₄
  have h₆ : s₀.Keeps s₆ := h₅.foldl fun _ _ h => h.fadd.chamoisOut
  exact (ite h₆ h₆.startChamois).next

theorem keepLate (h : s₀.Keeps s) : s₀.Keeps (s.keepLate) :=
  h.update

theorem fallbackFrame {f} (h : s₀.Keeps s) : s₀.Keeps (s.fallbackFrame f) := by
  unfold State.fallbackFrame
  extract_lets y s₁ s₂
  have h₂ : s₀.Keeps s₂ := ite h.update h.update.testChamois
  exact ite h₂.setFallback h₂

theorem routeFailure {set} (h : s₀.Keeps s) : s₀.Keeps (s.routeFailure set) :=
  ite ((ite h.fadd.fadd h.fadd).fset.doubt) ((ite h.fadd.fadd h.fadd).fset)

theorem gatewayFrame (h : s₀.Keeps s) : s₀.Keeps (s.gatewayFrame) :=
  (h.foldl fun _ _ h => (ite h.fset h)).foldl fun _ _ h => (h.foldl fun _ _ h1 => h1.routeFailure)

theorem resetLives (h : s₀.Keeps s) : s₀.Keeps (s.resetLives) :=
  h.foldl fun _ _ h => h.putLive

theorem partitionFrame {p} (h : s₀.Keeps s) : s₀.Keeps (s.partitionFrame p) :=
  h.setRtPart.fset

theorem examineWaiting {j} (h : s₀.Keeps s) : s₀.Keeps (s.examineWaiting j) := by
  unfold State.examineWaiting
  dsimp only
  split
  · exact h
  · exact h.rtAdmit.markAdmitted.update
  · exact h.rtRefused.refuseWaiting
  · exact h.rtRefused.refuseWaiting

theorem testEngines {tes} (h : s₀.Keeps s) : s₀.Keeps (s.testEngines tes) :=
  h.foldl fun _ _ h => (ite h.startTest (ite h.setGft h))

theorem ippFrameStart (h : s₀.Keeps s) : s₀.Keeps (s.ippFrameStart) :=
  h.foldl fun _ _ h => (ite (h.foldl fun _ _ h1 => (ite h1 h1.discardPrepared)) h)

theorem execFrameStart (h : s₀.Keeps s) : nextWith (Machine.execFrameStart s) s₀.Keeps := by
  unfold Machine.execFrameStart
  dsimp only
  split
  · exact h.next
  refine (testEngines (foldl (countReady (foldl (foldl ?_ ?_) ?_)) ?_)).ippFrameStart.next
  · exact
      h.newEvent.keepLate.update.fset.fset.fset.fset.fallbackFrame.countPending.resetLives.gatewayFrame.refreshReason
  · exact fun _ _ h => h.partitionFrame
  · exact fun _ _ h => h.examineWaiting
  · exact fun _ _ h => h.setGft

theorem execGtOpen (h : s₀.Keeps s) : nextWith (Machine.execGtOpen s) s₀.Keeps := by
  unfold Machine.execGtOpen
  split
  · exact h.next
  · exact h.testEngines.next

theorem forceTest {te} (h : s₀.Keeps s) : s₀.Keeps (s.forceTest te) := by
  unfold State.forceTest
  dsimp only
  split
  · exact h
  refine raiseSide ?_
  refine fwrap ?_
  refine fadd ?_
  split
  · exact h.requestPreempt
  · exact h.opTePreempt

theorem execGtForcedPoint (h : s₀.Keeps s) : nextWith (Machine.execGtForcedPoint s) s₀.Keeps := by
  unfold Machine.execGtForcedPoint
  dsimp only
  split
  · exact h.next
  · exact (h.testEngines.foldl fun _ _ h => h.forceTest).next

theorem noteFailure {te cause found} (h : s₀.Keeps s) : s₀.Keeps (s.noteFailure te cause found) :=
  h.fadd.fset.fset.fset.fset.fset.raiseRec

theorem marginTest {te} (h : s₀.Keeps s) : s₀.Keeps (s.marginTest te) :=
  h.startTest.fset.fset

theorem notePass {te} (h : s₀.Keeps s) : s₀.Keeps (s.notePass te) :=
  h.setGft.fset.fset.countPending

theorem rtEngineBack {te} (h : s₀.Keeps s) : s₀.Keeps (s.rtEngineBack te) :=
  h.foldl fun _ _ h => (h.setRtPart.foldl fun _ _ h1 => h1.fset.lockRt).fset.raiseSide

theorem returnEngine {te} (h : s₀.Keeps s) : s₀.Keeps (s.returnEngine te) := by
  unfold State.returnEngine
  extract_lets s₁ s₂ s₃ x s₄ s₅
  exact h.fset.setTeStat.setEng.fset.setGft.notePass.raiseRec.setUsable.countUnits.rtEngineBack

theorem marginEnd {te outcome found} (h : s₀.Keeps s) : s₀.Keeps (s.marginEnd te outcome found) := by
  unfold State.marginEnd
  dsimp only
  split
  · exact h.endTest.noteFailure.setGft.quarantine
  · exact ite h.endTest.setGft.marginTest h.endTest.returnEngine

theorem lateDoubt {o} (h : s₀.Keeps s) : s₀.Keeps (s.lateDoubt o) := by
  unfold State.lateDoubt
  dsimp only
  split
  · exact h
  · exact ite h h.update

theorem goldenDoubts {te} (h : s₀.Keeps s) : s₀.Keeps (s.goldenDoubts te) := by
  unfold State.goldenDoubts
  extract_lets f outs prevOpen s₁ strict s₂ s₃ s₄ s₅ x s₆ x₁
  have h₁ : s₀.Keeps s₁ := h.foldl fun _ _ h => h.lateDoubt.doubt
  exact ite h₁ h₁.fset.fset.fset.fadd.update.raiseSide

theorem goldenFailure {te cause found} (h : s₀.Keeps s) : s₀.Keeps (s.goldenFailure te cause found) :=
  ite h.noteFailure.failAndReport.settleAll.goldenDoubts
    h.noteFailure.failAndReport.settleAll.goldenDoubts.quarantine

theorem execGoldenTestEnd {te} (h : s₀.Keeps s) : nextWith (Machine.execGoldenTestEnd te s) s₀.Keeps := by
  unfold Machine.execGoldenTestEnd
  dsimp only
  split
  · exact h.next
  split
  · exact h.newEvent.marginEnd.next
  split
  · exact h.newEvent.endTest.notePass.next
  · exact h.newEvent.endTest.goldenFailure.next

theorem missTest {te} (h : s₀.Keeps s) : s₀.Keeps (s.missTest te) :=
  (ite h.endTest (ite h h.newEvent.teStop)).goldenFailure

theorem execConfirmPoint (h : s₀.Keeps s) : nextWith (Machine.execConfirmPoint s) s₀.Keeps := by
  unfold Machine.execConfirmPoint
  dsimp only
  split
  · exact h.next
  · exact (h.foldl fun _ _ h => h.missTest).next

theorem decide {o st} (h : s₀.Keeps s) : s₀.Keeps (s.decide o st) :=
  ite (ite h.fset.fadd (ite h.fset.fadd h.fset)) ((ite h.fset.fadd (ite h.fset.fadd h.fset)).fwrap)

theorem decideLate {f lives} (h : s₀.Keeps s) : s₀.Keeps (s.decideLate f lives) :=
  (h.update.foldl fun _ _ h => (ite h h.raiseSide).decide).fset

theorem decideLive {o} (h : s₀.Keeps s) : s₀.Keeps (s.decideLive o) :=
  (ite ((ite h h.doubt).worsen.fset) (ite h h.doubt)).decide

theorem execDecisionPoint (h : s₀.Keeps s) : nextWith (Machine.execDecisionPoint s) s₀.Keeps := by
  unfold Machine.execDecisionPoint
  dsimp only
  split
  · exact h.next
  split
  · split
    · exact h.newEvent.next
    · exact h.newEvent.decideLate.next
  split
  · exact h.newEvent.next
  · exact (h.newEvent.foldl fun _ _ h => h.decideLive).update.fset.refreshReason.next

theorem execFallbackRunEnd (h : s₀.Keeps s) : nextWith (Machine.execFallbackRunEnd s) s₀.Keeps := by
  unfold Machine.execFallbackRunEnd
  extract_lets k st x s₁ good x₁ s₂ s₃ steps
  split
  · exact h.next
  split
  · exact h.update.update.fset.fset.setFallback.next
  · exact h.update.update.next

theorem execFallbackDeadline (h : s₀.Keeps s) : nextWith (Machine.execFallbackDeadline s) s₀.Keeps := by
  unfold Machine.execFallbackDeadline
  dsimp only
  split
  · exact h.next
  · exact h.raiseRec.update.fadd.setFallback.next

theorem chamoisRetest {k passed} (h : s₀.Keeps s) : s₀.Keeps (s.chamoisRetest k passed) := by
  unfold State.chamoisRetest
  extract_lets x s₁ x₁
  exact ite h (ite h.setGft.newEvent.setChamois.raiseSide h.setGft.newEvent.update.raiseSide)

theorem execEngineRetestEnd {te passed unitPassed} (h : s₀.Keeps s) :
    nextWith (Machine.execEngineRetestEnd te passed unitPassed s) s₀.Keeps := by
  unfold Machine.execEngineRetestEnd
  dsimp only
  split
  · split
    · exact h.chamoisRetest.next
    · exact h.next
  split
  · exact h.next
  split
  · exact (ite h.newEvent.endTest h.newEvent).returnEngine.next
  · exact (ite ((ite h.newEvent.endTest h.newEvent).setGft.fset.fset.countUnits)
      ((ite h.newEvent.endTest h.newEvent).setGft.fset.fset)).fset.retire.next

theorem execStatusFrame {channel} (h : s₀.Keeps s) : nextWith (Machine.execStatusFrame channel s) s₀.Keeps := by
  unfold Machine.execStatusFrame
  dsimp only
  split
  · exact h.next
  · exact (ite h.send.fwrap.fset.update.fset h.send.fwrap.fset.update).next

end Sys2Proof.Machine.State.Keeps
end

section
/-! PROOFS. Pairs and the TAHR sequencers keep what every step keeps. -/

namespace Sys2Proof.Machine.State.Keeps
variable {s₀ s t u : State} {α β : Type}

theorem leaderAt {p r} (h : s₀.Keeps s) : s₀.Keeps (s.leaderAt p r) :=
  ite h h.setPair

theorem checkpointPasses {p g} (h : s₀.Keeps s) : s₀.Keeps (s.checkpointPasses p g) :=
  ite h.setPair.setPair h.setPair

theorem releaseMessage {p m} (h : s₀.Keeps s) : s₀.Keeps (s.releaseMessage p m) :=
  ite h.accessAt h

theorem followerAt {p r} (h : s₀.Keeps s) : s₀.Keeps (s.followerAt p r) := by
  unfold State.followerAt
  dsimp only
  split
  · exact h
  split
  · split
    · exact h.checkpointPasses
    · exact h.checkpointPasses.releaseMessage
  · exact h.miscompare

theorem execPairCheckpoint {pair leader follower} (h : s₀.Keeps s) :
    nextWith (Machine.execPairCheckpoint pair leader follower s) s₀.Keeps := by
  unfold Machine.execPairCheckpoint
  dsimp only
  split
  · exact h.next
  refine next ?_
  split
  · split
    · exact h
    · exact h.leaderAt
  refine followerAt ?_
  split
  · exact h
  · exact h.leaderAt

theorem admitPair {p} (h : s₀.Keeps s) : s₀.Keeps (s.admitPair p) :=
  ite h.setPairSt (ite h.setPairSt h.setPairSt.setPairActive)

theorem failPair {p} (h : s₀.Keeps s) : s₀.Keeps (s.failPair p) :=
  ite h.raiseRec.retirePair <|
    ite h.raiseRec.retirePair.setPairSt.setPairActive <|
    ite h.raiseRec.retirePair.relaxedFrames h.raiseRec.retirePair

theorem execPairComparatorTest {pair passed} (h : s₀.Keeps s) :
    nextWith (Machine.execPairComparatorTest pair passed s) s₀.Keeps := by
  unfold Machine.execPairComparatorTest
  split
  · exact h.next
  split
  · exact h.admitPair.restartPair.next
  · exact h.failPair.next

theorem endSwap {seq status} (h : s₀.Keeps s) : s₀.Keeps (s.endSwap seq status) := by
  unfold State.endSwap
  dsimp only
  split
  · exact h
  · exact h.setTahrSeq.fset.fset

theorem holdLevel {d i v} (h : s₀.Keeps s) : s₀.Keeps (s.holdLevel d i v) :=
  ite h h.keepNormal.takeLevel

theorem holdLevels {d} (h : s₀.Keeps s) : s₀.Keeps (s.holdLevels d) :=
  h.foldl fun _ _ h => (ite h h.holdLevel)

theorem refreshLimit {d i} (h : s₀.Keeps s) : s₀.Keeps (s.refreshLimit d i) :=
  h.setIsl

theorem setCapLimit {d i n} (h : s₀.Keeps s) : s₀.Keeps (s.setCapLimit d i n) :=
  h.update.refreshLimit

theorem governorPark {k} (h : s₀.Keeps s) : s₀.Keeps (s.governorPark k) :=
  ite h.parkHeld (ite h h.startPark.update)

theorem refreshEmergency (h : s₀.Keeps s) : s₀.Keeps (s.refreshEmergency) :=
  h.foldl fun _ _ h => h.fset

theorem governorHold {d} (h : s₀.Keeps s) : s₀.Keeps (s.governorHold d) := by
  unfold State.governorHold
  extract_lets s₁ s₂ s₃ x s₄ s₅ x₁
  have h₂ : s₀.Keeps s₂ := h.holdLevels.foldl fun _ _ h => (ite h h.setCapLimit)
  have h₃ : s₀.Keeps s₃ := h₂.foldl fun _ _ h => h.governorPark
  exact h₃.update.fset.refreshEmergency.raiseSide

theorem stopSeq {seq} (h : s₀.Keeps s) : s₀.Keeps (s.stopSeq seq) :=
  ite h.setSqState.governorHold (ite h.setSqState.fset h.setSqState)

theorem tahrFault {seq c addr} (h : s₀.Keeps s) : s₀.Keeps (s.tahrFault seq c addr) := by
  unfold State.tahrFault
  extract_lets x again pc s₁ s₂ s₃ s₄ s₅ s₆ x₁ s₇
  have h₆ : s₀.Keeps s₆ := ite h.raiseRec.fset.fwrap.setSqState.setTahrSeq.endSwap.stopSeq
    h.raiseRec.fset.fwrap.setSqState.setTahrSeq.endSwap
  have h₇ : s₀.Keeps s₇ := h.raiseRec.fset.fwrap.setSqState.setTahrSeq.endSwap.setSqState.setTahrSeq
  dsimp only
  split
  · exact h₆.foldl fun _ _ h => h.routeFailure
  · exact ite h.raiseRec.fset.fwrap.setSqState.setTahrSeq.endSwap.stopSeq
      h.raiseRec.fset.fwrap.setSqState.setTahrSeq.endSwap
  · exact h.raiseRec.fset.fwrap.setSqState.setTahrSeq.endSwap.stopSeq
  split
  · exact h₇
  · exact h₇.setRing.ringStop

theorem tahrRun {seq op upset effect} (h : s₀.Keeps s) (hf : ∀ t a₀ a₁ a₂, s₀.Keeps t →
    (effect t a₀ a₁ a₂).Keeps s₀) :
    s₀.Keeps (s.tahrRun seq op upset effect) := by
  unfold State.tahrRun
  dsimp only
  split
  · exact h
  split
  · exact ite h.newEvent.tahrFault h
  split
  · exact h
  split
  · exact h.newEvent.tahrFault
  split
  · exact (ite h.fadd.raiseSide h).newEvent.tahrFault
  split
  · exact (ite h.fadd.raiseSide h).newEvent.tahrFault
  split
  · exact (ite h.fadd.raiseSide h).newEvent.tahrFault
  · exact ((hf _ _ _ _ (ite h.fadd.raiseSide h)).of_faultIn ‹_›).tahrFault
  · exact ((hf _ _ _ _ (ite h.fadd.raiseSide h)).of_stall ‹_›).setSqState
  · exact ((hf _ _ _ _ (ite h.fadd.raiseSide h)).of_done ‹_›).fset.setSqState
  · exact ((hf _ _ _ _ (ite h.fadd.raiseSide h)).of_rest ‹_›).fset.setSqState

theorem tahrStep {seq op upset f} (h : s₀.Keeps s) : s₀.Keeps (s.tahrStep seq op upset f) :=
  h.tahrRun (fun _ _ _ _ h => h.setTahrSeq.doneTahr)

theorem execTahrNop {seq upset} (h : s₀.Keeps s) : nextWith (Machine.execTahrNop seq upset s) s₀.Keeps :=
  h.tahrStep.next

theorem execTahrAlu {seq upset} (h : s₀.Keeps s) : nextWith (Machine.execTahrAlu seq upset s) s₀.Keeps :=
  h.tahrStep.next

theorem execTahrAddi {seq upset} (h : s₀.Keeps s) : nextWith (Machine.execTahrAddi seq upset s) s₀.Keeps :=
  h.tahrStep.next

theorem execTahrAndi {seq upset} (h : s₀.Keeps s) : nextWith (Machine.execTahrAndi seq upset s) s₀.Keeps :=
  h.tahrStep.next

theorem execTahrOri {seq upset} (h : s₀.Keeps s) : nextWith (Machine.execTahrOri seq upset s) s₀.Keeps :=
  h.tahrStep.next

theorem execTahrXori {seq upset} (h : s₀.Keeps s) : nextWith (Machine.execTahrXori seq upset s) s₀.Keeps :=
  h.tahrStep.next

theorem execTahrShi {seq upset} (h : s₀.Keeps s) : nextWith (Machine.execTahrShi seq upset s) s₀.Keeps :=
  h.tahrStep.next

theorem execTahrMovi {seq upset} (h : s₀.Keeps s) : nextWith (Machine.execTahrMovi seq upset s) s₀.Keeps :=
  h.tahrStep.next

theorem execTahrLui {seq upset} (h : s₀.Keeps s) : nextWith (Machine.execTahrLui seq upset s) s₀.Keeps :=
  h.tahrStep.next

theorem tahrByte {seq a} (h : s₀.Keeps s) : s₀.Keeps (s.tahrByte seq a).1 := by
  have free := h.fresh (w := 8)
  unfold State.tahrByte
  dsimp only
  split
  · exact h
  split
  · split
    · exact h
    · split
      · exact free
      · split
        · exact h
        · split
          · exact h
          · exact free
  · exact h
  · exact free

theorem tahrCells {seq a a3} (h : s₀.Keeps s) : s₀.Keeps (s.tahrCells seq a a3).1 := by
  induction a3 generalizing s seq a with
  | zero =>
    unfold State.tahrCells
    exact h
  | succ a3 ih =>
    unfold State.tahrCells
    exact ih h.tahrByte

theorem tahrBytes {seq a n} (h : s₀.Keeps s) : s₀.Keeps (s.tahrBytes seq a n).1 := by
  unfold State.tahrBytes
  split
  · split
    · exact h.tahrCells
    · split
      · exact h.ringRead.of_fst ‹_›
      · exact h.ringRead.of_fst ‹_›
  · exact h.tahrCells

theorem tahrLoad {seq x pc a n align f} (h : s₀.Keeps s) :
    (Machine.tahrLoad s seq x pc a n align f).Keeps s₀ := by
  unfold Machine.tahrLoad
  split
  · exact trivial
  split
  · exact (h.tahrBytes.of_fst ‹_›).faultIn
  · exact (h.tahrBytes.of_fst ‹_›).setTahrSeq.doneTahr

theorem tahrLoadOp {seq op n upset} (h : s₀.Keeps s) : s₀.Keeps (s.tahrLoadOp seq op n upset) :=
  h.tahrRun (fun _ _ _ _ h => h.tahrLoad)

theorem execTahrLd {seq upset} (h : s₀.Keeps s) : nextWith (Machine.execTahrLd seq upset s) s₀.Keeps :=
  h.tahrLoadOp.next

theorem execTahrLdh {seq upset} (h : s₀.Keeps s) : nextWith (Machine.execTahrLdh seq upset s) s₀.Keeps :=
  h.tahrLoadOp.next

theorem execTahrLdb {seq upset} (h : s₀.Keeps s) : nextWith (Machine.execTahrLdb seq upset s) s₀.Keeps :=
  h.tahrLoadOp.next

theorem tahrWrite {seq a bs} (h : s₀.Keeps s) : s₀.Keeps (s.tahrWrite seq a bs) := by
  unfold State.tahrWrite
  dsimp only
  split
  · exact h.setTahrSeq
  split
  · exact h.setTahrSeq
  · exact h.setTahrSeq
  · exact h

theorem tahrStore {seq pc a bs} (h : s₀.Keeps s) : (Machine.tahrStore s seq pc a bs).Keeps s₀ := by
  unfold Machine.tahrStore
  split
  · exact trivial
  · exact h.tahrWrite.doneTahr

theorem tahrStoreOp {seq op n upset} (h : s₀.Keeps s) : s₀.Keeps (s.tahrStoreOp seq op n upset) :=
  h.tahrRun (fun _ _ _ _ h => h.tahrStore)

theorem execTahrSt {seq upset} (h : s₀.Keeps s) : nextWith (Machine.execTahrSt seq upset s) s₀.Keeps :=
  h.tahrStoreOp.next

theorem execTahrSth {seq upset} (h : s₀.Keeps s) : nextWith (Machine.execTahrSth seq upset s) s₀.Keeps :=
  h.tahrStoreOp.next

theorem execTahrStb {seq upset} (h : s₀.Keeps s) : nextWith (Machine.execTahrStb seq upset s) s₀.Keeps :=
  h.tahrStoreOp.next

theorem execTahrBext {seq upset} (h : s₀.Keeps s) : nextWith (Machine.execTahrBext seq upset s) s₀.Keeps := by
  unfold Machine.execTahrBext
  dsimp only
  refine next ?_
  refine h.tahrRun fun t a1 a2 a3 h => ?_
  split
  · exact trivial
  · exact h.setTahrSeq.doneTahr

theorem execTahrBins {seq upset} (h : s₀.Keeps s) : nextWith (Machine.execTahrBins seq upset s) s₀.Keeps := by
  unfold Machine.execTahrBins
  dsimp only
  refine next ?_
  refine h.tahrRun fun t a1 a2 a3 h => ?_
  split
  · exact trivial
  · exact h.setTahrSeq.doneTahr

theorem execTahrBextm {seq upset} (h : s₀.Keeps s) : nextWith (Machine.execTahrBextm seq upset s) s₀.Keeps :=
  (h.tahrRun (fun _ _ _ _ h => h.tahrLoad)).next

theorem execTahrBinsm {seq upset} (h : s₀.Keeps s) : nextWith (Machine.execTahrBinsm seq upset s) s₀.Keeps := by
  unfold Machine.execTahrBinsm
  dsimp only
  refine next ?_
  refine h.tahrRun fun t a1 a2 a3 h => ?_
  split
  · exact trivial
  split
  · exact (h.tahrBytes.of_fst ‹_›).faultIn
  · exact (h.tahrBytes.of_fst ‹_›).tahrWrite.doneTahr

theorem execTahrRscl {seq upset} (h : s₀.Keeps s) : nextWith (Machine.execTahrRscl seq upset s) s₀.Keeps :=
  (h.tahrRun (fun _ _ _ _ h => h.tahrLoad)).next

theorem execTahrTlx {seq upset} (h : s₀.Keeps s) : nextWith (Machine.execTahrTlx seq upset s) s₀.Keeps := by
  unfold Machine.execTahrTlx
  dsimp only
  refine next ?_
  refine h.tahrRun fun t a1 a2 a3 h => ?_
  split
  · exact trivial
  split
  · exact (h.tahrBytes.of_fst ‹_›).faultIn
  split
  · exact (h.tahrBytes.of_fst ‹_›).setTahrSeq.doneTahr
  split
  · exact (h.tahrBytes.of_fst ‹_›).fresh.setTahrSeq.doneTahr
  · exact (h.tahrBytes.of_fst ‹_›).tahrLoad

theorem keyedSearch {seq a key lo hi a6} (h : s₀.Keeps s) : s₀.Keeps (s.keyedSearch seq a key lo hi a6).1 := by
  induction a6 generalizing s seq a key lo hi with
  | zero =>
    unfold State.keyedSearch
    exact h
  | succ a6 ih =>
    unfold State.keyedSearch
    dsimp only
    split
    · exact h
    split
    · exact h
    split
    · exact h.tahrBytes.of_fst ‹_›
    split
    · exact h.tahrBytes.of_fst ‹_›
    split
    · exact ih (h.tahrBytes.of_fst ‹_›)
    · exact ih (h.tahrBytes.of_fst ‹_›)

theorem execTahrTlk {seq upset} (h : s₀.Keeps s) : nextWith (Machine.execTahrTlk seq upset s) s₀.Keeps := by
  unfold Machine.execTahrTlk
  dsimp only
  refine next ?_
  refine h.tahrRun fun t a1 a2 a3 h => ?_
  split
  · exact trivial
  split
  · exact (h.tahrBytes.of_fst ‹_›).faultIn
  split
  · exact ((h.tahrBytes.of_fst ‹_›).keyedSearch.of_fst ‹_›).faultIn
  · exact ((h.tahrBytes.of_fst ‹_›).keyedSearch.of_fst ‹_›).setTahrSeq.doneTahr
  · exact ((h.tahrBytes.of_fst ‹_›).keyedSearch.of_fst ‹_›).setTahrSeq.doneTahr

theorem execTahrCrc {seq upset} (h : s₀.Keeps s) : nextWith (Machine.execTahrCrc seq upset s) s₀.Keeps :=
  h.tahrStep.next

theorem execTahrCrcm {seq upset} (h : s₀.Keeps s) : nextWith (Machine.execTahrCrcm seq upset s) s₀.Keeps := by
  unfold Machine.execTahrCrcm
  dsimp only
  refine next ?_
  refine h.tahrRun fun t a1 a2 a3 h => ?_
  split
  · exact h.fresh.setTahrSeq.doneTahr
  · exact h.tahrLoad

theorem tahrJump {x target} (h : s₀.Keeps s) : (Machine.tahrJump s x target).Keeps s₀ := by
  unfold Machine.tahrJump
  split
  · exact trivial
  · exact h.doneTahr

theorem execTahrBr {seq upset} (h : s₀.Keeps s) : nextWith (Machine.execTahrBr seq upset s) s₀.Keeps := by
  unfold Machine.execTahrBr
  refine next ?_
  refine h.tahrRun fun t a1 a2 a3 h => ?_
  split
  · exact h.tahrJump
  · exact h.doneTahr

theorem execTahrJal {seq upset} (h : s₀.Keeps s) : nextWith (Machine.execTahrJal seq upset s) s₀.Keeps :=
  (h.tahrRun (fun _ _ _ _ h => h.setTahrSeq.tahrJump)).next

theorem execTahrJr {seq upset} (h : s₀.Keeps s) : nextWith (Machine.execTahrJr seq upset s) s₀.Keeps :=
  (h.tahrRun (fun _ _ _ _ h => h.setTahrSeq.tahrJump)).next

theorem execTahrRecv {seq upset} (h : s₀.Keeps s) : nextWith (Machine.execTahrRecv seq upset s) s₀.Keeps := by
  unfold Machine.execTahrRecv
  dsimp only
  refine next ?_
  refine h.tahrRun fun t a1 a2 a3 h => ?_
  split
  · exact trivial
  split
  · split
    · exact h.stall
    · exact h.setTahrSeq.doneTahr
  split
  · exact h.stall
  · exact h.setTahrSeq.doneTahr

theorem dropMessage {c ctx ingress} (h : s₀.Keeps s) : s₀.Keeps (s.dropMessage c ctx ingress) :=
  h.fadd.fadd.raiseRec.routeFailure

theorem putOutEntry {q ctx flag m} (h : s₀.Keeps s) : s₀.Keeps (s.putOutEntry q ctx flag m) :=
  h.storeAs.fset.signalCq

theorem finishEntry {e status} (h : s₀.Keeps s) : s₀.Keeps (s.finishEntry e status) := by
  unfold State.finishEntry
  dsimp only
  split
  · exact h
  · exact ite h.storeAs.storeAs h.storeAs

theorem noteLate {p sent} (h : s₀.Keeps s) : s₀.Keeps (s.noteLate p sent) :=
  ite h.fadd h.fadd.setEthPort.raiseSide

theorem sendFrame {p f} (h : s₀.Keeps s) : s₀.Keeps (s.sendFrame p f) :=
  ite h.send.finishEntry (ite h.noteLate.send.finishEntry h.noteLate.finishEntry)

theorem emitFrame {p f} (h : s₀.Keeps s) : s₀.Keeps (s.emitFrame p f) := by
  unfold State.emitFrame
  split
  · exact h.sendFrame
  split
  · exact h.finishEntry
  · exact h.sendFrame

theorem drainPort {p a} (h : s₀.Keeps s) : s₀.Keeps (s.drainPort p a) := by
  induction a generalizing s p with
  | zero =>
    unfold State.drainPort
    exact h
  | succ a ih =>
    unfold State.drainPort
    dsimp only
    split
    · exact h
    split
    · exact h
    · exact ih h.setEthPort.emitFrame

theorem runPort {p} (h : s₀.Keeps s) : s₀.Keeps (s.runPort p) :=
  h.drainPort

theorem enqueueFrame {p f} (h : s₀.Keeps s) : s₀.Keeps (s.enqueueFrame p f) :=
  ite h.setEthPort.runPort h.emitFrame

theorem measureLatency {ctx ingress} (h : s₀.Keeps s) : s₀.Keeps (s.measureLatency ctx ingress) :=
  ite h.fset.fset.fadd.fadd.raiseRec.routeFailure h.fset.fset

theorem egress {seq ctx m ingress} (h : s₀.Keeps s) : s₀.Keeps (s.egress seq ctx m ingress) := by
  unfold State.egress
  dsimp only
  split
  · exact h.newEvent.fadd.raiseRec
  split
  · exact h.newEvent.dropMessage
  split
  · exact h.newEvent.fadd.fadd
  split
  · split
    · exact h.newEvent.dropMessage
    · split
      · exact h.newEvent.fwrap.putOutEntry
      · exact h.newEvent.fwrap.putOutEntry.measureLatency
  split
  · exact h.newEvent.dropMessage
  split
  · exact h.newEvent.fwrap.enqueueFrame
  · exact h.newEvent.fwrap.enqueueFrame.measureLatency

theorem submitStaged {seq n pc} (h : s₀.Keeps s) : (s.submitStaged seq n pc).Keeps s₀ := by
  unfold State.submitStaged
  dsimp only
  split
  · exact h.stall
  split
  · exact (h.ringWrite.of_fst ‹_›).faultIn
  · exact (h.ringWrite.of_fst ‹_›).fset.doneTahr

theorem execTahrSend {seq upset} (h : s₀.Keeps s) : nextWith (Machine.execTahrSend seq upset s) s₀.Keeps := by
  unfold Machine.execTahrSend
  dsimp only
  refine next ?_
  refine h.tahrRun fun t a1 a2 a3 h => ?_
  split
  · exact trivial
  split
  · exact h.egress.doneTahr
  · split
    · exact h.stall
    · exact h.submitStaged
  · exact h.send.doneTahr

theorem endActivation {seq} (h : s₀.Keeps s) : s₀.Keeps (s.endActivation seq) := by
  unfold State.endActivation
  dsimp only
  split
  · exact h
  · exact h.setTahrSeq.fset

theorem execTahrWait {seq upset} (h : s₀.Keeps s) : nextWith (Machine.execTahrWait seq upset s) s₀.Keeps := by
  unfold Machine.execTahrWait
  dsimp only
  refine next ?_
  refine h.tahrRun fun t a1 a2 a3 h => ?_
  split
  · exact h.endActivation.setTahrSeq.rest
  split
  · exact h.endActivation.rest
  split
  · exact h.endActivation.rest
  · exact h.endActivation.setTahrSeq.fwrap.doneTahr

theorem execTahrTime {seq upset} (h : s₀.Keeps s) : nextWith (Machine.execTahrTime seq upset s) s₀.Keeps :=
  h.tahrStep.next

theorem execTahrTmr {seq upset} (h : s₀.Keeps s) : nextWith (Machine.execTahrTmr seq upset s) s₀.Keeps :=
  h.tahrStep.next

theorem execTahrGetf {seq upset} (h : s₀.Keeps s) : nextWith (Machine.execTahrGetf seq upset s) s₀.Keeps :=
  h.tahrStep.next

theorem execTahrHalt {seq upset} (h : s₀.Keeps s) : nextWith (Machine.execTahrHalt seq upset s) s₀.Keeps :=
  (h.tahrRun (fun _ _ _ _ h => h.endActivation.rest)).next

theorem execTahrTimer {seq} (h : s₀.Keeps s) : nextWith (Machine.execTahrTimer seq s) s₀.Keeps := by
  unfold Machine.execTahrTimer
  dsimp only
  split
  · exact h.next
  · exact h.setTahrSeq.next

theorem execTahrEvent {seq event message} (h : s₀.Keeps s) :
    nextWith (Machine.execTahrEvent seq event message s) s₀.Keeps := by
  unfold Machine.execTahrEvent
  dsimp only
  split
  · exact h.next
  split
  · exact h.setTahrSeq.next
  split
  · exact h.setTahrSeq.next
  · exact h.next

theorem execTahrActivationLimit {seq} (h : s₀.Keeps s) :
    nextWith (Machine.execTahrActivationLimit seq s) s₀.Keeps := by
  unfold Machine.execTahrActivationLimit
  dsimp only
  split
  · split
    · exact h.newEvent.tahrFault.next
    · exact h.next
  · exact h.next

theorem execTahrRestart {seq} (h : s₀.Keeps s) : nextWith (Machine.execTahrRestart seq s) s₀.Keeps := by
  unfold Machine.execTahrRestart
  split
  · exact h.tahrRestart.next
  · exact h.next

end Sys2Proof.Machine.State.Keeps
end

section
/-! PROOFS. Table swaps, functions, watermarks and attestation keep what every step keeps. -/

namespace Sys2Proof.Machine.State.Keeps
variable {s₀ s t u : State} {α β : Type}

theorem execTableSwapDone {seq} (h : s₀.Keeps s) : nextWith (Machine.execTableSwapDone seq s) s₀.Keeps := by
  unfold Machine.execTableSwapDone
  dsimp only
  split
  · split
    · exact h.next
    · exact h.setTahrSeq.endSwap.setSqState.next
  · exact h.next

theorem resetGranules {vi} (h : s₀.Keeps s) : s₀.Keeps (s.resetGranules vi) :=
  h.foldl fun _ _ h => ((h.foldl fun _ _ h1 => h1.setGranule).foldl fun _ _ h1 => h1.scrub.fset.setGranule)

theorem execViResetDone {vi} (h : s₀.Keeps s) : nextWith (Machine.execViResetDone vi s) s₀.Keeps := by
  unfold Machine.execViResetDone
  dsimp only
  split
  · exact h.next
  · exact (h.resetGranules.resetQos.foldl fun _ _ h => (ite h
      h.fset.fset.fset)).setViSt.fset.fset.fwrap.update.raiseRec.next

theorem execViResetLate {vi} (h : s₀.Keeps s) : nextWith (Machine.execViResetLate vi s) s₀.Keeps := by
  unfold Machine.execViResetLate
  dsimp only
  split
  · exact h.next
  split
  · exact h.next
  · exact h.update.raiseRec.next

theorem execViQuiesced {vi} (h : s₀.Keeps s) : nextWith (Machine.execViQuiesced vi s) s₀.Keeps := by
  unfold Machine.execViQuiesced
  split
  · exact h.setViSt.next
  · exact h.next

theorem execFunctionLevelReset {function} (h : s₀.Keeps s) :
    nextWith (Machine.execFunctionLevelReset function s) s₀.Keeps := by
  unfold Machine.execFunctionLevelReset
  dsimp only
  split
  · exact h.next
  split
  · exact h.opViReset.next
  · exact h.next

theorem iovaRead {a n} (h : s₀.Keeps s) : s₀.Keeps (s.iovaRead a n).1 := by
  unfold State.iovaRead
  split
  · exact h.outRead
  · exact h.fetchAs

theorem dmaWrite {who a bs} (h : s₀.Keeps s) : s₀.Keeps (s.dmaWrite who a bs).1 := by
  unfold State.dmaWrite
  split
  · exact h.refuseWrite
  · exact h.notePosted.takeTokens.countLines.placeWrite

theorem iovaWrite {queue a bs} (h : s₀.Keeps s) : s₀.Keeps (s.iovaWrite queue a bs).1 := by
  unfold State.iovaWrite
  split
  · exact h.outWrite
  · exact h.dmaWrite

theorem dmaMove {queue out device iova moved a} (h : s₀.Keeps s) :
    s₀.Keeps (s.dmaMove queue out device iova moved a).1 := by
  induction a generalizing s queue out device iova moved with
  | nil =>
    unfold State.dmaMove
    exact h
  | cons x a ih =>
    unfold State.dmaMove
    dsimp only
    split
    · exact h.iommuFault
    split
    · split
      · exact h.fetchAs
      · exact h.iovaRead
    split
    · split
      · exact ih h.fetchAs.iovaWrite
      · exact h.fetchAs.iovaWrite
    split
    · exact ih h.iovaRead.dmaWrite
    · exact h.iovaRead.dmaWrite

theorem dmaFetch {queue op} (h : s₀.Keeps s) : s₀.Keeps (s.dmaFetch queue op) := by
  unfold State.dmaFetch
  refine ite h (h.withEntry fun t e ht => ite h ?_)
  dsimp only
  refine update ?_
  split
  · exact ht.fset.dmaMove
  · exact ht.fset

theorem execDmaToIova {queue} (h : s₀.Keeps s) : nextWith (Machine.execDmaToIova queue s) s₀.Keeps :=
  h.dmaFetch.next

theorem execDmaFromIova {queue} (h : s₀.Keeps s) : nextWith (Machine.execDmaFromIova queue s) s₀.Keeps :=
  h.dmaFetch.next

theorem execDmaComplete {queue} (h : s₀.Keeps s) : nextWith (Machine.execDmaComplete queue s) s₀.Keeps := by
  unfold Machine.execDmaComplete
  dsimp only
  split
  · exact h.next
  split
  · exact h.update.completeCommand.next
  · exact h.update.next

theorem scrubWhere {p} (h : s₀.Keeps s) : s₀.Keeps (s.scrubWhere p) :=
  { h with mem := fun hm => filter_wf _ (h.mem hm) }

theorem scrubMarks {target lo hi} (h : s₀.Keeps s) : s₀.Keeps (s.scrubMarks target lo hi) :=
  h.scrubWhere

theorem execWatermarkMoveDone {target} (h : s₀.Keeps s) :
    nextWith (Machine.execWatermarkMoveDone target s) s₀.Keeps := by
  unfold Machine.execWatermarkMoveDone
  dsimp only
  split
  · exact h.next
  · exact h.scrubMarks.setMark.update.fset.next

theorem zeroSecure {c} (h : s₀.Keeps s) : s₀.Keeps (s.zeroSecure c) :=
  h.foldl fun _ _ h => (ite h.scrub h)

theorem forceHold {b} (h : s₀.Keeps s) : s₀.Keeps (s.forceHold b) :=
  (ite h.zeroSecure h).endHold.raiseSide

theorem execSecureHoldForced (h : s₀.Keeps s) : nextWith (Machine.execSecureHoldForced s) s₀.Keeps := by
  unfold Machine.execSecureHoldForced
  split
  · exact h.next
  split
  · exact h.next
  · exact (h.foldl fun _ _ h => h.forceHold).countSessions.next

theorem execWatchdogExpiry (h : s₀.Keeps s) : nextWith (Machine.execWatchdogExpiry s) s₀.Keeps := by
  unfold Machine.execWatchdogExpiry
  split
  · exact h.next
  split
  · exact h.next
  · exact h.wdogExpire.next

theorem writeIndex {seq ceiling} (h : s₀.Keeps s) : s₀.Keeps (s.writeIndex seq ceiling) :=
  (putAt (ite h.scrub h)).updateFlash (.update _)

theorem execAttest {queue} (h : s₀.Keeps s) : nextWith (Machine.execAttest queue s) s₀.Keeps := by
  unfold Machine.execAttest
  dsimp only
  refine next ?_
  refine h.sysCommand fun t a1 a2 h => ?_
  split
  · exact h.update
  split
  · exact h.update
  split
  · exact h.update
  split
  · exact h.update
  split
  · exact h.update.fetchAs.of_fst ‹_›
  · exact (ite ((h.update.fetchAs.of_fst ‹_›).writeIndex) (h.update.fetchAs.of_fst ‹_›)).store.setReg

theorem execAttestKey {queue} (h : s₀.Keeps s) : nextWith (Machine.execAttestKey queue s) s₀.Keeps := by
  unfold Machine.execAttestKey
  dsimp only
  refine next ?_
  refine h.sysCommand fun t a1 a2 h => ?_
  split
  · exact h
  split
  · exact h
  · exact h.store

theorem execAttestKeyGenerated {flashOk} (h : s₀.Keeps s) :
    nextWith (Machine.execAttestKeyGenerated flashOk s) s₀.Keeps := by
  unfold Machine.execAttestKeyGenerated
  split
  · exact h.next
  split
  · exact h.update.fset.fset.next
  · exact (h.update.fset.fresh.updateFlash (.update _)).writeIndex.sealPage.lifeDone.next

end Sys2Proof.Machine.State.Keeps
end

section
/-! PROOFS. The governor, displays and telltales keep what every step keeps. -/

namespace Sys2Proof.Machine.State.Keeps
variable {s₀ s t u : State} {α β : Type}

theorem readTemps {temps} (h : s₀.Keeps s) : s₀.Keeps (s.readTemps temps) := by
  unfold State.readTemps
  extract_lets s₁ s₂ hot since x
  have h₁ : s₀.Keeps s₁ := by
    unfold s₁
    refine h.foldl fun t x h => ?_
    split
    · exact h
    · exact h.setIsl
  have h₂ : s₀.Keeps s₂ := by
    unfold s₂
    refine h₁.foldl fun t x h => ?_
    split
    · exact h
    · exact ite h.fset h
  exact h₂.update

theorem accountLines (h : s₀.Keeps s) : s₀.Keeps (s.accountLines) :=
  h.foldl fun _ _ h => h.modJob

theorem credit {d j active pj} (h : s₀.Keeps s) : s₀.Keeps (s.credit d j active pj) := by
  unfold State.credit
  dsimp only
  split
  · exact h.modJob
  · exact h.update

theorem accountDie {counters d} (h : s₀.Keeps s) : s₀.Keeps (s.accountDie counters d) :=
  ((h.foldl fun _ _ h => h.credit).foldl fun _ _ h => (ite (h.foldl fun _ _ h1 => h1.credit) h.credit)).setReg

theorem setStage {d n} (h : s₀.Keeps s) : s₀.Keeps (s.setStage d n) :=
  h.update

theorem lowerStep {d is} (h : s₀.Keeps s) : s₀.Keeps (s.lowerStep d is) :=
  h.foldl fun _ _ h => h.lowerIsland

theorem capStep {d est budget} (h : s₀.Keeps s) : s₀.Keeps (s.capStep d est budget) := by
  unfold State.capStep
  dsimp only
  split
  · exact (h.foldl fun _ _ h => h.setCapLimit).setStage
  split
  · exact (h.lowerStep.foldl fun _ _ h => h.setCapLimit).setStage
  split
  · exact (h.foldl fun _ _ h => h.setCapLimit).setStage
  split
  · exact h.governorPark.setStage
  · exact h.setStage

theorem relaxStep {d} (h : s₀.Keeps s) : s₀.Keeps (s.relaxStep d) := by
  unfold State.relaxStep
  extract_lets open' x
  dsimp only
  split
  · exact ite h.update.queueWake h.update
  split
  · exact (h.foldl fun _ _ h => h.setCapLimit).setStage
  split
  · exact ite h.requestLevel.update h.requestLevel
  · exact (h.foldl fun _ _ h => h.setCapLimit).setStage

theorem capDie {counters d} (h : s₀.Keeps s) : s₀.Keeps (s.capDie counters d) :=
  ite h.fset (ite h.fset.capStep (ite h.fset.relaxStep h.fset))

theorem resetFrozen (h : s₀.Keeps s) : s₀.Keeps (s.resetFrozen) :=
  h.foldl fun _ _ h => (h.update.foldl fun _ _ h1 => (ite h1.marginTest h1))

theorem rampStep (h : s₀.Keeps s) : s₀.Keeps (s.rampStep) :=
  h.foldl fun _ _ h => (h.foldl fun _ _ h1 => h1.setIsl.setIsl.setIsl)

theorem herdStep (h : s₀.Keeps s) : s₀.Keeps (s.herdStep) := by
  unfold State.herdStep
  dsimp only
  split
  · exact h
  refine foldl ?_ fun t x h => ?_
  · refine foldl ?_ fun t x h => ?_
    · refine foldl ?_ fun t x h => ?_
      · refine h.foldl fun t x h => ?_
        split
        · exact h
        · exact ite h.update (ite h h.update)
      · exact ite h.update.raiseSide h
    · exact ite h (ite h.update.refreshLimit (ite h.update.refreshLimit.lowerIsland h.update.refreshLimit))
  · exact h.fset

theorem crossingStep (h : s₀.Keeps s) : s₀.Keeps (s.crossingStep) :=
  h.foldl fun _ _ h => (ite h.update h.coolCrossing)

theorem throttleStep (h : s₀.Keeps s) : s₀.Keeps (s.throttleStep) := by
  unfold State.throttleStep
  dsimp only
  refine h.foldl fun t x h => ?_
  split
  · exact h.update
  split
  · exact h.fadd
  · exact ite h.fadd.lowerIsland (h.fadd.foldl fun _ _ h => h.lowerIsland)

theorem capReach {est} (h : s₀.Keeps s) : s₀.Keeps (s.capReach est) :=
  ite h (ite (ite h.fset h.fset.fset) (ite h.fset.fset.raiseSide h))

theorem execGovernorPeriod {counters temps} (h : s₀.Keeps s) :
    nextWith (Machine.execGovernorPeriod counters temps s) s₀.Keeps := by
  unfold Machine.execGovernorPeriod
  extract_lets s₁ pj s₂ est s₃ s₄ s₅ levers s₆ x s₇ s₈ s₉
  have h₁ : s₀.Keeps s₁ := h.readTemps.foldl fun _ _ h => h.seqEvent
  have h₂ : s₀.Keeps s₂ := h₁.foldl fun _ _ h => h.fset
  have h₅ : s₀.Keeps s₅ := (h₂.fset.fset.foldl fun _ _ h => h.accountDie).accountLines
  have h₆ : s₀.Keeps s₆ := h₅.foldl fun _ _ h => h.capDie
  have h₈ : s₀.Keeps s₈ := h₆.update.foldl fun _ _ h => (ite h.holdLevels h)
  have h₉ : s₀.Keeps s₉ := h₈.capReach.throttleStep.crossingStep.herdStep.rampStep.refreshEmergency.resetFrozen
  split
  · exact h₁.next
  · exact (h₉.foldl fun _ _ h => h.fset).next

theorem execEngineParked {te} (h : s₀.Keeps s) : nextWith (Machine.execEngineParked te s) s₀.Keeps := by
  unfold Machine.execEngineParked
  dsimp only
  split
  · exact h.update.setParked.fadd.fset.setEng.setTeStat.next
  · exact h.next

theorem resumeCodec (h : s₀.Keeps s) : s₀.Keeps (s.resumeCodec) :=
  ite h (h.foldl fun _ _ h => (ite h.fset.raiseSide h))

theorem execWakeGrant (h : s₀.Keeps s) : nextWith (Machine.execWakeGrant s) s₀.Keeps := by
  unfold Machine.execWakeGrant
  dsimp only
  split
  · exact h.next
  split
  · exact h.next
  split
  · exact h.update.fset.fadd.setParked.setGft.testIfDue.next
  split
  · exact h.update.fset.fadd.setParked.resumeCodec.next
  · exact h.update.fset.fadd.setParked.next

theorem execThermalThrottle {die island} (h : s₀.Keeps s) :
    nextWith (Machine.execThermalThrottle die island s) s₀.Keeps := by
  unfold Machine.execThermalThrottle
  dsimp only
  split
  · exact h.next
  · exact h.update.fset.lowerIsland.raiseRec.next

theorem emergencyPark {k} (h : s₀.Keeps s) : s₀.Keeps (s.emergencyPark k) :=
  ite h.setHeldPending.secNotice h.governorPark

theorem execThermalEmergency {die island} (h : s₀.Keeps s) :
    nextWith (Machine.execThermalEmergency die island s) s₀.Keeps := by
  unfold Machine.execThermalEmergency
  dsimp only
  split
  · exact h.next
  · exact ((((h.update.raiseRec.foldl fun _ _ h => (h.foldl fun _ _ h1 =>
      (ite h1.setCapLimit.lowerIsland h1.setCapLimit))).foldl fun _ _ h => h.emergencyPark).foldl fun _ _ h =>
      h.setStage).foldl fun _ _ h => h.fset).refreshEmergency.next

theorem execThermalEmergencyEnd (h : s₀.Keeps s) : nextWith (Machine.execThermalEmergencyEnd s) s₀.Keeps := by
  unfold Machine.execThermalEmergencyEnd
  dsimp only
  split
  · split
    · exact h.next
    · exact (h.update.foldl fun _ _ h => h.fset).refreshEmergency.next
  · exact h.next

theorem execThermalTrip {die} (h : s₀.Keeps s) : nextWith (Machine.execThermalTrip die s) s₀.Keeps := by
  unfold Machine.execThermalTrip
  dsimp only
  split
  · exact h.next
  · exact (h.newEvent.raiseRec.enterSafe.update.foldl fun _ _ h => h.forceHold).loseLogic.next

theorem execTripRecovery (h : s₀.Keeps s) : nextWith (Machine.execTripRecovery s) s₀.Keeps := by
  unfold Machine.execTripRecovery
  dsimp only
  split
  · exact h.next
  split
  · exact h.next
  · exact h.update.next

theorem execGfxTileTimeout {ctx} (h : s₀.Keeps s) : nextWith (Machine.execGfxTileTimeout ctx s) s₀.Keeps := by
  unfold Machine.execGfxTileTimeout
  dsimp only
  split
  · exact h.next
  · exact h.fadd.setGfxState.raiseRec.next

theorem execGfxFlush {ctx events rest} (h : s₀.Keeps s) :
    nextWith (Machine.execGfxFlush ctx events rest s) s₀.Keeps := by
  unfold Machine.execGfxFlush
  dsimp only
  split
  · exact h.next
  · exact h.fadd.raiseRec.storePass.setGfxCtx.next

theorem execCompositionStart {pipe draw events} (h : s₀.Keeps s) :
    nextWith (Machine.execCompositionStart pipe draw events s) s₀.Keeps := by
  unfold Machine.execCompositionStart
  dsimp only
  split
  · exact h.next
  split
  · exact h.next
  split
  · exact h.setPipe.setGfxState.finishPass.setGfxCtx.next
  · exact h.setPipe.setGfxState.finishPass.setGfxCtx.beginPass.next

theorem applyFlips {p} (h : s₀.Keeps s) : s₀.Keeps (s.applyFlips p).1 := by
  unfold State.applyFlips
  dsimp only
  refine h.foldl_fst fun p x h => ?_
  split
  · exact h.fset.setPipe.fset
  · exact h

theorem latchFrame {pipe number} (h : s₀.Keeps s) : s₀.Keeps (s.latchFrame pipe number) := by
  unfold State.latchFrame
  dsimp only
  refine setPipe ?_
  split
  · exact h.applyFlips
  · exact h.applyFlips.fadd.raiseRec

theorem execDisplayLatch {pipe} (h : s₀.Keeps s) : nextWith (Machine.execDisplayLatch pipe s) s₀.Keeps := by
  unfold Machine.execDisplayLatch
  split
  · exact h.next
  split
  · exact h.next
  · exact h.latchFrame.next

theorem readRows {rows} (h : s₀.Keeps s) : s₀.Keeps (s.readRows rows).1 :=
  h.foldl_fst fun _ _ h => h.fetchAs

theorem flagFrame {p n} (h : s₀.Keeps s) : s₀.Keeps (s.flagFrame p n) :=
  h.setPipe

theorem judgeLine {p ready rows} (h : s₀.Keeps s) : s₀.Keeps (s.judgeLine p ready rows) := by
  unfold State.judgeLine
  split
  · exact h.flagFrame.fadd.raiseRec
  split
  · exact h
  · exact ite h h.flagFrame.fadd.raiseRec

theorem sendUlham {p type flags line payload} (h : s₀.Keeps s) :
    s₀.Keeps (s.sendUlham p type flags line payload) :=
  ite h.send h

theorem sendSop {p} (h : s₀.Keeps s) : s₀.Keeps (s.sendSop p) :=
  h.sendUlham

theorem sendLine {p line pixels} (h : s₀.Keeps s) : s₀.Keeps (s.sendLine p line pixels) :=
  h.foldl fun _ _ h => h.sendUlham

theorem showFrame {p} (h : s₀.Keeps s) : s₀.Keeps (s.showFrame p) :=
  h.fset.fset.fset

theorem execDisplayLine {pipe line ready} (h : s₀.Keeps s) :
    nextWith (Machine.execDisplayLine pipe line ready s) s₀.Keeps := by
  unfold Machine.execDisplayLine
  extract_lets x frame s₁ rows r s₂ s₃ s₄ last y s₅
  split
  · exact h.next
  have h₁ : s₀.Keeps s₁ := ite h.setPipe h
  have hr : s₀.Keeps r.1 := by
    unfold r
    split
    · exact h₁.readRows
    · exact h₁
  have h₃ : s₀.Keeps s₃ := ite hr.judgeLine.sendSop hr.judgeLine
  have h₅ : s₀.Keeps s₅ := h₃.sendLine.setPipe
  split
  · exact h₅.sendUlham.showFrame.next
  · exact h₅.next

theorem execDisplayStatusPacket {pipe} (h : s₀.Keeps s) :
    nextWith (Machine.execDisplayStatusPacket pipe s) s₀.Keeps := by
  unfold Machine.execDisplayStatusPacket
  dsimp only
  split
  · exact h.next
  split
  · exact h.setPipe.next
  · exact h.setPipe.sendUlham.showFrame.next

theorem execTelltaleApply {region} (h : s₀.Keeps s) :
    nextWith (Machine.execTelltaleApply region s) s₀.Keeps := by
  unfold Machine.execTelltaleApply
  split
  · exact h.next
  split
  · exact h.next
  split
  · exact h.next
  · exact h.setRegion.next

theorem renderRegion {r faults} (h : s₀.Keeps s) : s₀.Keeps (s.renderRegion r faults) :=
  h.update

theorem execTelltaleRenderDone {region wrong} (h : s₀.Keeps s) :
    nextWith (Machine.execTelltaleRenderDone region wrong s) s₀.Keeps := by
  unfold Machine.execTelltaleRenderDone
  dsimp only
  split
  · exact h.next
  split
  · exact h.next
  · exact (ite h.renderRegion.setRegion.fset h.renderRegion.setRegion).next

theorem execTelltaleCheck {region badWord wrong} (h : s₀.Keeps s) :
    nextWith (Machine.execTelltaleCheck region badWord wrong s) s₀.Keeps := by
  unfold Machine.execTelltaleCheck
  dsimp only
  split
  · exact h.next
  split
  · split
    · exact h.fwrap.fset.next
    · exact (ite h.fwrap.fset.fadd.fadd h.fwrap.fset.fadd).raiseRec.setRegion.doubtKind.next
  split
  · exact h.fset.next
  · exact (ite h.fset.fadd.fadd h.fset.fadd).raiseRec.setRegion.doubtKind.next

end Sys2Proof.Machine.State.Keeps
end

section
/-! PROOFS. Host requests and locked cycles keep what every step keeps. -/

namespace Sys2Proof.Machine.State.Keeps
variable {s₀ s t u : State} {α β : Type}

theorem inboundRefused {write} (h : s₀.Keeps s) : s₀.Keeps (s.inboundRefused write) :=
  ite h.fadd.send h.fadd

theorem hostFault {c who addr write} (h : s₀.Keeps s) : s₀.Keeps (s.hostFault c who addr write) :=
  (ite h.postFail h.raiseRec.answerError).inboundRefused

theorem hostMisses {who req write} (h : s₀.Keeps s) : s₀.Keeps (s.hostMisses who req write) := by
  unfold State.hostMisses
  dsimp only
  split
  · refine hostFault ?_
    split
    · exact h.queueFault
    · exact h.queueFault.fadd
  · exact h.hostFault

theorem requestAt {req} (h : s₀.Keeps s) : s₀.Keeps (s.requestAt req) := by
  unfold State.requestAt
  dsimp only
  split
  · exact h.answer
  · exact h.hostMisses
  split
  · exact h.hostFault
  split
  · split
    · exact h.answerOk
    · split
      · exact h.hold
      · split
        · exact h.hostFault
        · exact ite ((h.route ‹_›).writeAt.inboundRefused) ((h.route ‹_›).writeAt)
  split
  · exact h.answerOk
  split
  · exact h.hold
  split
  · exact h.hostFault
  · exact ite ((h.route ‹_›).readAt.inboundRefused) ((h.route ‹_›).readAt)

theorem execHostInboundRequest {req} (h : s₀.Keeps s) :
    nextWith (Machine.execHostInboundRequest req s) s₀.Keeps := by
  unfold Machine.execHostInboundRequest
  split
  · exact h.next
  split
  · exact h.fadd.next
  · exact h.requestAt.next

theorem loseOutbound {link c} (h : s₀.Keeps s) : s₀.Keeps (s.loseOutbound link c) := by
  unfold State.loseOutbound
  split
  · exact ite h.postFail h
  · exact ite h.refuse h
  · exact h

theorem execHpLinkDown {link lost} (h : s₀.Keeps s) :
    nextWith (Machine.execHpLinkDown link lost s) s₀.Keeps := by
  unfold Machine.execHpLinkDown
  dsimp only
  split
  · exact h.next
  · exact (ite ((h.fset.fset.fadd.raiseRec.foldl fun _ _ h => h.loseOutbound).update.answerError)
      ((h.fset.fset.fadd.raiseRec.foldl fun _ _ h => h.loseOutbound).update)).next

theorem execHpFenceRead {who} (h : s₀.Keeps s) : nextWith (Machine.execHpFenceRead who s) s₀.Keeps :=
  h.regRead.next

theorem abortAtomic (h : s₀.Keeps s) : s₀.Keeps (s.abortAtomic) :=
  h.fadd.answerError

theorem holdSeq {w} (h : s₀.Keeps s) : s₀.Keeps (s.holdSeq w) :=
  h.hold.fadd

theorem atomicAt {req} (h : s₀.Keeps s) : s₀.Keeps (s.atomicAt req) := by
  unfold State.atomicAt
  extract_lets n
  split
  · exact h.abortAtomic
  · exact h.hostMisses
  extract_lets known memory t
  have ht : s₀.Keeps t := h.correctSoft.takeTokens.countLines
  clear_value memory t
  refine ite h.refuse.abortAtomic (ite h.holdSeq ?_)
  split
  · exact h.refuse.abortAtomic
  · exact ite ht.reportPoison.abortAtomic ht.placeWrite.update

theorem showLocks (h : s₀.Keeps s) : s₀.Keeps (s.showLocks) :=
  h.fset

theorem lockedAt {req} (h : s₀.Keeps s) : s₀.Keeps (s.lockedAt req) := by
  unfold State.lockedAt
  dsimp only
  split
  · exact ite h.holdSeq (ite h.requestAt.update.showLocks h.requestAt)
  · exact h.requestAt

theorem amoAt {who a op n v} (h : s₀.Keeps s) : s₀.Keeps (s.amoAt who a op n v) := by
  unfold State.amoAt
  extract_lets v₁ native
  dsimp only
  split
  · exact h.refuse
  split
  · exact h.answer
  split
  · exact h.holdSeq
  split
  · exact (h.outRead.of_fst ‹_›).refuse
  · exact ite ((h.outRead.of_fst ‹_›).update) ((ite ((h.outRead.of_fst ‹_›).update)
      (h.outRead.of_fst ‹_›)).send.update)

theorem runHeld {w} (h : s₀.Keeps s) : s₀.Keeps (s.runHeld w) := by
  unfold State.runHeld
  split
  · exact h.accessAt
  · exact h.requestAt
  · exact h.atomicAt
  · exact h.lockedAt
  · exact h.amoAt

theorem backOff {seq n w} (h : s₀.Keeps s) : s₀.Keeps (s.backOff seq n w) := by
  unfold State.backOff
  extract_lets s₁ due x x₁ s₂ x₂ x₃
  have h₂ : s₀.Keeps s₂ := ite h.fadd.update.raiseSide h.fadd
  exact ite h₂.update.raiseRec.answerError h₂.update

theorem startSeq {w refused} (h : s₀.Keeps s) : s₀.Keeps (s.startSeq w refused) :=
  ite (ite h.fadd.runHeld h.update.backOff) h.runHeld

theorem execInboundAtomic {req refused} (h : s₀.Keeps s) :
    nextWith (Machine.execInboundAtomic req refused s) s₀.Keeps := by
  unfold Machine.execInboundAtomic
  split
  · exact h.startSeq.next
  · exact h.next

theorem endLocks {f} (h : s₀.Keeps s) : s₀.Keeps (s.endLocks f) :=
  h.update.showLocks.foldl fun _ _ h => h.runHeld

theorem execBrLockTimeout {line} (h : s₀.Keeps s) : nextWith (Machine.execBrLockTimeout line s) s₀.Keeps := by
  unfold Machine.execBrLockTimeout
  dsimp only
  split
  · exact h.next
  · exact h.fadd.raiseRec.answerError.endLocks.next

theorem execInboundLockedRead {req} (h : s₀.Keeps s) :
    nextWith (Machine.execInboundLockedRead req s) s₀.Keeps := by
  unfold Machine.execInboundLockedRead
  split
  · exact h.lockedAt.next
  · exact h.next

theorem execUnlock {link} (h : s₀.Keeps s) : nextWith (Machine.execUnlock link s) s₀.Keeps := by
  unfold Machine.execUnlock
  split
  · exact h.endLocks.next
  · exact h.next

end Sys2Proof.Machine.State.Keeps
end

section
/-! PROOFS. The gateway, Ethernet, time, the camera links, hand-over and the error log keep what every step keeps. -/

namespace Sys2Proof.Machine.State.Keeps
variable {s₀ s t u : State} {α β : Type}

theorem execOutboundAmo {who addr op size value refused} (h : s₀.Keeps s) :
    nextWith (Machine.execOutboundAmo who addr op size value refused s) s₀.Keeps := by
  unfold Machine.execOutboundAmo
  dsimp only
  split
  · split
    · exact h.next
    · split
      · exact h.refuse.next
      · exact h.startSeq.next
  split
  · exact h.next
  split
  · exact h.refuse.next
  · exact h.startSeq.next

theorem execClaimBackoffRetry {seq refused} (h : s₀.Keeps s) :
    nextWith (Machine.execClaimBackoffRetry seq refused s) s₀.Keeps := by
  unfold Machine.execClaimBackoffRetry
  dsimp only
  split
  · exact h.next
  split
  · exact h.next
  split
  · exact h.backOff.next
  · exact h.update.runHeld.next

theorem postNotice {ctx n} (h : s₀.Keeps s) : s₀.Keeps (s.postNotice ctx n) :=
  ite h.fwrap.newEvent.dropMessage h.fwrap.setTahrSeq

theorem ingress {isQueue flow n} (h : s₀.Keeps s) : s₀.Keeps (s.ingress isQueue flow n) := by
  unfold State.ingress
  split
  · exact h.fadd
  · exact h.postNotice

theorem execGwIngressMessage {isQueue flow bus format identifier sdt vcid flags af payload} (h : s₀.Keeps s) :
    nextWith (Machine.execGwIngressMessage isQueue flow bus format identifier sdt vcid flags af payload s)
      s₀.Keeps := by
  unfold Machine.execGwIngressMessage
  dsimp only
  split
  · exact h.next
  · exact h.ingress.next

theorem dropIn (h : s₀.Keeps s) : s₀.Keeps (s.dropIn) :=
  h.fadd

theorem execGwInEntry {queue} (h : s₀.Keeps s) : nextWith (Machine.execGwInEntry queue s) s₀.Keeps := by
  unfold Machine.execGwInEntry
  dsimp only
  split
  · exact h.next
  refine next ?_
  refine h.withEntry fun t a1 h => ?_
  split
  · exact h.fset.dropIn
  split
  · exact ite h.fset.dropIn h.fset.postNotice
  split
  · exact h.fset.dropIn
  split
  · exact h.fset.postNotice
  split
  · exact (h.fset.fetchAs.of_fst ‹_›).dropIn
  · exact (h.fset.fetchAs.of_fst ‹_›).postNotice

theorem receiveEntry {flow q frame} (h : s₀.Keeps s) : s₀.Keeps (s.receiveEntry flow q frame) := by
  unfold State.receiveEntry
  refine ite h ?_
  dsimp only
  split
  next t e => exact h.readEntryAt.of_fst e
  next t b e =>
    have ht : s₀.Keeps t := h.readEntryAt.of_fst e
    split
    · exact ite ht (ite ht.storeAs ht.storeAs.storeAs.fset.signalCq)
    · exact ite ht.storeAs (ite ht.storeAs.storeAs ht.storeAs.storeAs.storeAs.fset.signalCq)

theorem execEthFrameReceive {port frame} (h : s₀.Keeps s) :
    nextWith (Machine.execEthFrameReceive port frame s) s₀.Keeps := by
  unfold Machine.execEthFrameReceive
  dsimp only
  split
  · exact h.next
  split
  · split
    · exact h.enqueueFrame.next
    · exact h.fadd.next
  split
  · exact h.receiveEntry.next
  split
  · exact h.enqueueFrame.next
  · exact h.send.next

theorem transmitEntry {q e} (h : s₀.Keeps s) : s₀.Keeps (s.transmitEntry q e) := by
  unfold State.transmitEntry
  dsimp only
  split
  · exact h.fset.finishEntry
  split
  · exact (ite h.fset.fadd h.fset).raiseRec.finishEntry
  split
  · exact (h.fset.fetchAs.of_fst ‹_›).finishEntry
  · exact (h.fset.fetchAs.of_fst ‹_›).enqueueFrame

theorem execEthTransmit {queue} (h : s₀.Keeps s) : nextWith (Machine.execEthTransmit queue s) s₀.Keeps := by
  unfold Machine.execEthTransmit
  split
  · exact h.next
  · exact (h.withEntry (fun _ _ h => h.transmitEntry)).next

theorem execLaunchTime {port} (h : s₀.Keeps s) : nextWith (Machine.execLaunchTime port s) s₀.Keeps :=
  h.runPort.next

theorem syncGates {p} (h : s₀.Keeps s) : s₀.Keeps (s.syncGates p) := by
  unfold State.syncGates
  dsimp only
  split
  · exact h
  · exact ite h h.setEthPort

theorem execGclEntryExpiry {port} (h : s₀.Keeps s) : nextWith (Machine.execGclEntryExpiry port s) s₀.Keeps :=
  h.syncGates.runPort.next

theorem execGclConfigChange {port} (h : s₀.Keeps s) :
    nextWith (Machine.execGclConfigChange port s) s₀.Keeps := by
  unfold Machine.execGclConfigChange
  dsimp only
  split
  · exact h.next
  split
  · exact h.next
  · exact h.setEthPort.fset.syncGates.runPort.next

theorem setDriver {d} (h : s₀.Keeps s) : s₀.Keeps (s.setDriver d) :=
  h.fset.fset

theorem switchTo {d} (h : s₀.Keeps s) : s₀.Keeps (s.switchTo d) :=
  h.update.setDriver.raiseRec

theorem loseDomain {d} (h : s₀.Keeps s) : s₀.Keeps (s.loseDomain d) := by
  unfold State.loseDomain
  dsimp only
  split
  · exact h.setDomState.update
  split
  · exact h.setDomState.update.fset
  · exact h.setDomState.update.switchTo

theorem stepGates {p} (h : s₀.Keeps s) : s₀.Keeps (s.stepGates p) := by
  unfold State.stepGates
  dsimp only
  split
  · exact h
  · exact ite h.setEthPort h

theorem firstLock {d offset} (h : s₀.Keeps s) : s₀.Keeps (s.firstLock d offset) :=
  h.update.setDriver.fset.raiseRec.foldl fun _ _ h => h.stepGates.syncGates.runPort

theorem lockDomain {d offset} (h : s₀.Keeps s) : s₀.Keeps (s.lockDomain d offset) :=
  ite h.setDomState.firstLock (ite h.setDomState h.setDomState.switchTo)

theorem setRate {r} (h : s₀.Keeps s) : s₀.Keeps (s.setRate r) :=
  h.fset

theorem steer' {offset servo} (h : s₀.Keeps s) : s₀.Keeps (s.steer' offset servo) :=
  (ite h.update h).setRate

theorem execPtpSync {domain gm offset rate servo} (h : s₀.Keeps s) :
    nextWith (Machine.execPtpSync domain gm offset rate servo s) s₀.Keeps := by
  unfold Machine.execPtpSync
  refine .ite h.next ?_
  extract_lets changed x s₁ s₂ s₃ s₄ near n y s₅ s₆
  have h₃ : s₀.Keeps s₃ := h.update.fset.fset
  have h₅ : s₀.Keeps s₅ := (ite h₃ h₃.setDomState).update
  have h₆ : s₀.Keeps s₆ := ite h₅.lockDomain h₅
  exact .ite h₃.loseDomain.next (ite h₆.steer' h₆).next

theorem execSyncReceiptTimeout {domain} (h : s₀.Keeps s) :
    nextWith (Machine.execSyncReceiptTimeout domain s) s₀.Keeps := by
  unfold Machine.execSyncReceiptTimeout
  split
  · exact h.loseDomain.next
  · exact h.next

theorem execTimeRead {who} (h : s₀.Keeps s) : nextWith (Machine.execTimeRead who s) s₀.Keeps :=
  h.readTime.next

theorem setLaneState {die lane st} (h : s₀.Keeps s) : s₀.Keeps (s.setLaneState die lane st) :=
  h.fset

theorem setUlkLane {die lane x} (h : s₀.Keeps s) : s₀.Keeps (s.setUlkLane die lane x) :=
  h.update

theorem execUlkLaneEnable {who die lane enable} (h : s₀.Keeps s) :
    nextWith (Machine.execUlkLaneEnable who die lane enable s) s₀.Keeps := by
  unfold Machine.execUlkLaneEnable
  dsimp only
  split
  · exact h.dropWrite.next
  split
  · exact h.fset.answerOk.next
  split
  · exact h.fset.answerOk.setSending.next
  · exact h.fset.answerOk.setUlkLane.setLaneState.next

theorem laneStream {die lane st} (h : s₀.Keeps s) : s₀.Keeps (s.laneStream die lane st) :=
  ite h h.fset

theorem laneMoves {die lane from' next} (h : s₀.Keeps s) : s₀.Keeps (s.laneMoves die lane from' next) :=
  ite (ite h.setLaneState.laneStream h.setLaneState) h

theorem execUlkLightDetected {die lane} (h : s₀.Keeps s) :
    nextWith (Machine.execUlkLightDetected die lane s) s₀.Keeps :=
  h.laneMoves.next

theorem execUlkLocked {die lane} (h : s₀.Keeps s) : nextWith (Machine.execUlkLocked die lane s) s₀.Keeps :=
  h.laneMoves.next

theorem execUlkAligned {die lane} (h : s₀.Keeps s) : nextWith (Machine.execUlkAligned die lane s) s₀.Keeps :=
  h.laneMoves.next

theorem noteUlkCrc {die lane} (h : s₀.Keeps s) : s₀.Keeps (s.noteUlkCrc die lane) :=
  ite h h.setUlkLane.raiseSide

theorem loseLines {die lane lines} (h : s₀.Keeps s) : s₀.Keeps (s.loseLines die lane lines) :=
  ite h h.setUlkLane.fadd.noteUlkCrc

theorem closePicture {die lane} (h : s₀.Keeps s) : nextWith (s.closePicture die lane) s₀.Keeps := by
  unfold State.closePicture
  dsimp only
  split
  · exact h.next
  · exact h.loseLines.setUlkLane.fwrap.ingestSample

theorem execUlkLockLost {die lane} (h : s₀.Keeps s) :
    nextWith (Machine.execUlkLockLost die lane s) s₀.Keeps := by
  unfold Machine.execUlkLockLost
  dsimp only
  split
  · exact h.next
  refine h.fadd.setLaneState.raiseRec.closePicture.thenDo fun t h => ?_
  exact h.laneStream.next

theorem badPacket {die lane} (h : s₀.Keeps s) : s₀.Keeps (s.badPacket die lane) :=
  h.fadd.noteUlkCrc

theorem execUlkSop {die lane body} (h : s₀.Keeps s) :
    nextWith (Machine.execUlkSop die lane body s) s₀.Keeps := by
  unfold Machine.execUlkSop
  dsimp only
  split
  · exact h.next
  refine h.closePicture.thenDo fun t h => ?_
  split
  · exact h.badPacket.next
  · exact h.setUlkLane.next

theorem execUlkLine {die lane body} (h : s₀.Keeps s) :
    nextWith (Machine.execUlkLine die lane body s) s₀.Keeps := by
  unfold Machine.execUlkLine
  dsimp only
  split
  · exact h.next
  split
  · exact h.badPacket.next
  split
  · exact h.next
  split
  · exact h.loseLines.setUlkLane.closePicture
  · exact h.loseLines.setUlkLane.next

theorem execUlkEop {die lane body} (h : s₀.Keeps s) :
    nextWith (Machine.execUlkEop die lane body s) s₀.Keeps := by
  unfold Machine.execUlkEop
  split
  · exact h.next
  split
  · exact h.badPacket.next
  · exact h.closePicture

theorem dieReady {die} (h : s₀.Keeps s) : s₀.Keeps (s.dieReady die) :=
  ite h h.update

theorem runImage {img} (h : s₀.Keeps s) : s₀.Keeps (s.runImage img) :=
  h.update.fset.setFwSt

theorem execFwLoaded {die} (h : s₀.Keeps s) : nextWith (Machine.execFwLoaded die s) s₀.Keeps := by
  unfold Machine.execFwLoaded
  dsimp only
  split
  · exact h.next
  split
  · split
    · exact h.dieReady.update.runImage.attachFirmware.fwBusy.raiseRec.next
    · exact h.dieReady.next
  · exact h.next

theorem execHandoffStart (h : s₀.Keeps s) : nextWith (Machine.execHandoffStart s) s₀.Keeps := by
  unfold Machine.execHandoffStart
  split
  · exact h.startHandoff.next
  · exact h.next

theorem reachPoint {img t0 die secs} (h : s₀.Keeps s) : s₀.Keeps (s.reachPoint img t0 die secs) :=
  ite h (ite h.fwRollBack (ite (h.copySram.update.foldl fun _ _ h => h.restartPair) h.copySram.update))

theorem finishHandoff {img t0} (h : s₀.Keeps s) : s₀.Keeps (s.finishHandoff img t0) :=
  h.dropStaged.endHandoff.update.runImage.fwrap.fset.attachFirmware.fwBusy.raiseRec

theorem reportReady {img t0 die} (h : s₀.Keeps s) : s₀.Keeps (s.reportReady img t0 die) :=
  ite h (ite h.fwRollBack (ite h.dieReady.finishHandoff h.dieReady))

theorem execFwHandoff {die sections} (h : s₀.Keeps s) :
    nextWith (Machine.execFwHandoff die sections s) s₀.Keeps := by
  unfold Machine.execFwHandoff
  split
  · exact h.next
  split
  · refine next ?_
    split
    · exact h.dieReady.rollBackReady
    · exact h
  split
  · split
    · exact h.next
    · refine next ?_
      split
      · exact h.reachPoint
      · exact h.reportReady
  · exact h.next

theorem execFwRollback {die} (h : s₀.Keeps s) : nextWith (Machine.execFwRollback die s) s₀.Keeps := by
  unfold Machine.execFwRollback
  split
  · exact h.next
  split
  · exact h.fwRollBack.next
  · exact h.next

theorem execFwActivationExpired (h : s₀.Keeps s) : nextWith (Machine.execFwActivationExpired s) s₀.Keeps := by
  unfold Machine.execFwActivationExpired
  dsimp only
  split
  · exact h.next
  split
  · exact h.next
  · exact h.update.setFwSt.fwBusy.fset.raiseRec.next

theorem execFwReloaded {pair} (h : s₀.Keeps s) : nextWith (Machine.execFwReloaded pair s) s₀.Keeps := by
  unfold Machine.execFwReloaded
  dsimp only
  split
  · exact h.next
  split
  · exact h.copyCode.update.repinAll.raiseRec.next
  · exact h.next

theorem execHeartbeatWindow {slot} (h : s₀.Keeps s) :
    nextWith (Machine.execHeartbeatWindow slot s) s₀.Keeps := by
  unfold Machine.execHeartbeatWindow
  extract_lets t0 x s₁ x₁ n s₂
  split
  · exact h.next
  split
  · exact h.update.update.next
  · exact (ite h.update.fset.loseDriver h.update.fset).next

theorem execFwTeardown {slot} (h : s₀.Keeps s) : nextWith (Machine.execFwTeardown slot s) s₀.Keeps := by
  unfold Machine.execFwTeardown
  dsimp only
  split
  · exact h.next
  split
  · exact h.next
  · exact (h.foldl fun _ _ h => (ite h.opViReset (ite h.update h))).update.fset.raiseRec.next

theorem notifyRec {r} (h : s₀.Keeps s) : s₀.Keeps (s.notifyRec r) :=
  ite h.send h

theorem storeRec {r} (h : s₀.Keeps s) : s₀.Keeps (s.storeRec r) :=
  h.update.fadd.notifyRec.refreshErr

theorem fatalRec {r} (h : s₀.Keeps s) : s₀.Keeps (s.fatalRec r) :=
  ite h.update.enterSafe h

theorem beginStorm {lost} (h : s₀.Keeps s) : s₀.Keeps (s.beginStorm lost) :=
  (ite h.update.fset.storeRec h.update.fset.fadd).fatalRec

theorem collect {r} (h : s₀.Keeps s) : s₀.Keeps (s.collect r) :=
  (ite (ite h.storeRec h.fadd) (ite (ite h.storeRec (ite h.fadd h.beginStorm))
    (ite h.storeRec h.fadd))).fatalRec

theorem execErrorRecordArrival {corrupt} (h : s₀.Keeps s) :
    nextWith (Machine.execErrorRecordArrival corrupt s) s₀.Keeps := by
  unfold Machine.execErrorRecordArrival
  extract_lets ready
  clear_value ready
  cases ready with
  | some d =>
    cases hd : storeGet [] s.err.held d with
    | nil => simpa only [hd] using h.next
    | cons r rs => simpa only [hd] using h.update.collect.next
  | none =>
    cases hd : s.err.inFlight with
    | nil => exact h.next
    | cons r rs =>
      dsimp only
      split
      · exact h.update.collect.next
      split
      · exact h.update.update.next
      · exact h.update.fadd.next

theorem execErrNextRead {who} (h : s₀.Keeps s) : nextWith (Machine.execErrNextRead who s) s₀.Keeps :=
  h.readNext.next

theorem hlogWrite {r} (h : s₀.Keeps s) : s₀.Keeps (s.hlogWrite r) :=
  h.update.fwrap.fset

theorem execHealthLogWrite (h : s₀.Keeps s) : nextWith (Machine.execHealthLogWrite s) s₀.Keeps := by
  unfold Machine.execHealthLogWrite
  extract_lets room n x x₁
  dsimp only
  split
  · split
    · exact h.update.raiseSide.next
    · exact h.next
  split
  · exact h.update.hlogWrite.next
  · exact h.update.fadd.next

theorem execPairAddressMiscompare {pair count} (h : s₀.Keeps s) :
    nextWith (Machine.execPairAddressMiscompare pair count s) s₀.Keeps :=
  h.miscompare.next

theorem execHostLinkUp {link speed width atomics} (h : s₀.Keeps s) :
    nextWith (Machine.execHostLinkUp link speed width atomics s) s₀.Keeps := by
  unfold Machine.execHostLinkUp
  dsimp only
  split
  · exact h.next
  split
  · split
    · exact h.next
    · exact h.update.fset.fset.fset.fset.fset.next
  split
  · exact h.next
  · exact h.update.fset.fset.fset.fset.fset.next

theorem execEthLinkUp {port} (h : s₀.Keeps s) : nextWith (Machine.execEthLinkUp port s) s₀.Keeps := by
  unfold Machine.execEthLinkUp
  split
  · exact h.next
  · exact h.fset.runPort.next

theorem execEthLinkDown {port} (h : s₀.Keeps s) : nextWith (Machine.execEthLinkDown port s) s₀.Keeps := by
  unfold Machine.execEthLinkDown
  split
  · exact h.next
  · exact h.fset.next

theorem execFallbackSlotComplete {slot} (h : s₀.Keeps s) :
    nextWith (Machine.execFallbackSlotComplete slot s) s₀.Keeps := by
  unfold Machine.execFallbackSlotComplete
  dsimp only
  split
  · exact h.next
  split
  · exact h.update.writeLane.next
  · exact h.next

theorem exec {i} (h : s₀.Keeps s) : nextWith (Machine.exec i s) s₀.Keeps := by
  unfold Machine.exec
  split
  · exact h.execRegisterWrite
  · exact h.execRcRead
  · exact h.execSelLoad
  · exact h.execMemoryAccess
  · exact h.execGranuleFillDone
  · exact h.execOverBudgetEnd
  · exact h.execFabReplay
  · exact h.execFabLinkDown
  · exact h.execPostedWriteFail
  · exact h.execPowerGood
  · exact h.execSafetyInService
  · exact h.execLpddr6Training
  · exact h.execGoldenAreaWrite
  · exact h.execComputeIslandTest
  · exact h.execComputeReady
  · exact h.execRailLoss
  · exact h.execRailRestored
  · exact h.execLogicWarmRestart
  · exact h.execWholeWarmRestart
  · exact h.execBootCommit
  · exact h.execBootSwitch
  · exact h.execBootRestart
  · exact h.execFlashProgram
  · exact h.execFlashProgramDone
  · exact h.execPaceMonitorPeriod
  · exact h.execFixedPaceLost
  · exact h.execFixedPaceRequest
  · exact h.execPaceTokenRelease
  · exact h.execDroopInform
  · exact h.execDroopRaiseEnd
  · exact h.execMarginLost
  · exact h.execLevelReservation
  · exact h.execCrossingTemp
  · exact h.execOscFail
  · exact h.execChamoisPaceLost
  · exact h.execFallbackRestored
  · exact h.execNop
  · exact h.execSop
  · exact h.execScmp
  · exact h.execSld
  · exact h.execSst
  · exact h.execPset
  · exact h.execBr
  · exact h.execLoop
  · exact h.execHalt
  · exact h.execAgset
  · exact h.execAgadv
  · exact h.execThset
  · exact h.execThswap
  · exact h.execTld
  · exact h.execTldComplete
  · exact h.execTst
  · exact h.execTopen
  · exact h.execMma
  · exact h.execComb
  · exact h.execTclose
  · exact h.execDrain
  · exact h.execVop
  · exact h.execWait
  · exact h.execWaitTimeout
  · exact h.execSignal
  · exact h.execEventFlagArrival
  · exact h.execBar
  · exact h.execBarrierRelease
  · exact h.execBarrierTimeout
  · exact h.execFence
  · exact h.execCmark
  · exact h.execRie
  · exact h.execChkrd
  · exact h.execSig
  · exact h.execIllegalOpcode
  · exact h.execWriteRefusedAtTarget
  · exact h.execTileInterimCheck
  · exact h.execTeStart
  · exact h.execTePreempt
  · exact h.execEngineSaved
  · exact h.execTeResume
  · exact h.execTeAbort
  · exact h.execGranuleOwnerWrite
  · exact h.execGranuleScrubDone
  · exact h.execSpmPatrol
  · exact h.execMemPatrol
  · exact h.execSeRingTailWrite
  · exact h.execSeRingStart
  · exact h.execSeRingPause
  · exact h.execRingPaused
  · exact h.execSeRingAbort
  · exact h.execSeCopy
  · exact h.execSeFill
  · exact h.execSeWait
  · exact h.execSeSignal
  · exact h.execSeFence
  · exact h.execRingFlagSet
  · exact h.execDescriptorRetire
  · exact h.execMcRegister
  · exact h.execMcPin
  · exact h.execMcUnpin
  · exact h.execMcRelease
  · exact h.execMcPrefetch
  · exact h.execMcQuery
  · exact h.execModelLoadDone
  · exact h.execCbRegister
  · exact h.execCbRelease
  · exact h.execCbQuery
  · exact h.execCbShare
  · exact h.execGroupConfirm
  · exact h.execResolveDoorbell
  · exact h.execTokenDeadline
  · exact h.execDoorbellTail
  · exact h.execCompletionHeadDoorbell
  · exact h.execJobRecordFetch
  · exact h.execMsiCoalesceTimeout
  · exact h.execJobDispatch
  · exact h.execJobPreempt
  · exact h.execSpillDone
  · exact h.execJobResume
  · exact h.execRefillDone
  · exact h.execRtBudgetEnd
  · exact h.execXdiePreempt
  · exact h.execXdieResume
  · exact h.execXdieAbort
  · exact h.execXdiePauseRings
  · exact h.execSchEventRead
  · exact h.execSampleIngest
  · exact h.execSlotComplete
  · exact h.execDecodeAbort
  · exact h.execWindowOpen
  · exact h.execWindowClose
  · exact h.execRtConsumeDeadline
  · exact h.execGroupAcquire
  · exact h.execGroupRelease
  · exact h.execParameterLoad
  · exact h.execStreamReset
  · exact h.execFallbackClose
  · exact h.execFrameStart
  · exact h.execGtOpen
  · exact h.execGtForcedPoint
  · exact h.execGoldenTestEnd
  · exact h.execConfirmPoint
  · exact h.execDecisionPoint
  · exact h.execFallbackRunEnd
  · exact h.execFallbackDeadline
  · exact h.execEngineRetestEnd
  · exact h.execStatusFrame
  · exact h.execRequestSafe
  · exact h.execPairCheckpoint
  · exact h.execPairComparatorTest
  · exact h.execTahrNop
  · exact h.execTahrAlu
  · exact h.execTahrAddi
  · exact h.execTahrAndi
  · exact h.execTahrOri
  · exact h.execTahrXori
  · exact h.execTahrShi
  · exact h.execTahrMovi
  · exact h.execTahrLui
  · exact h.execTahrLd
  · exact h.execTahrLdh
  · exact h.execTahrLdb
  · exact h.execTahrSt
  · exact h.execTahrSth
  · exact h.execTahrStb
  · exact h.execTahrBext
  · exact h.execTahrBins
  · exact h.execTahrBextm
  · exact h.execTahrBinsm
  · exact h.execTahrRscl
  · exact h.execTahrTlx
  · exact h.execTahrTlk
  · exact h.execTahrCrc
  · exact h.execTahrCrcm
  · exact h.execTahrBr
  · exact h.execTahrJal
  · exact h.execTahrJr
  · exact h.execTahrRecv
  · exact h.execTahrSend
  · exact h.execTahrWait
  · exact h.execTahrTime
  · exact h.execTahrTmr
  · exact h.execTahrGetf
  · exact h.execTahrHalt
  · exact h.execTahrTimer
  · exact h.execTahrEvent
  · exact h.execTahrActivationLimit
  · exact h.execTahrRestart
  · exact h.execTsqRestart
  · exact h.execTsqStop
  · exact h.execTableSwap
  · exact h.execTableSwapDone
  · exact h.execSeBind
  · exact h.execSeUnbind
  · exact h.execViCreate
  · exact h.execViResize
  · exact h.execViReset
  · exact h.execViResetDone
  · exact h.execViResetLate
  · exact h.execViQuiesce
  · exact h.execViQuiesced
  · exact h.execViResume
  · exact h.execViRemove
  · exact h.execFunctionLevelReset
  · exact h.execDmaToIova
  · exact h.execDmaFromIova
  · exact h.execDmaComplete
  · exact h.execWatermarkMove
  · exact h.execWatermarkMoveDone
  · exact h.execWatermarkGrant
  · exact h.execSecureHold
  · exact h.execSecureRelease
  · exact h.execSecureHoldForced
  · exact h.execWatchdogKick
  · exact h.execWatchdogExpiry
  · exact h.execSecTeStart
  · exact h.execSecTePreempt
  · exact h.execSecTeResume
  · exact h.execSecTeAbort
  · exact h.execAttest
  · exact h.execAttestKey
  · exact h.execToDev
  · exact h.execSetDevRoot
  · exact h.execToProd
  · exact h.execAttestKeyGenerated
  · exact h.execToRetired
  · exact h.execGovernorPeriod
  · exact h.execCapWrite
  · exact h.execPark
  · exact h.execEngineParked
  · exact h.execUnpark
  · exact h.execWithdraw
  · exact h.execWakeGrant
  · exact h.execThermalThrottle
  · exact h.execThermalEmergency
  · exact h.execThermalEmergencyEnd
  · exact h.execThermalTrip
  · exact h.execTripRecovery
  · exact h.execGfxPreempt
  · exact h.execGfxAbort
  · exact h.execGfxResume
  · exact h.execGfxTileTimeout
  · exact h.execGfxFlush
  · exact h.execCompositionStart
  · exact h.execDisplayLatch
  · exact h.execDisplayLine
  · exact h.execDisplayStatusPacket
  · exact h.execDisplayFlip
  · exact h.execTelltaleStateWrite
  · exact h.execTelltaleApply
  · exact h.execTelltaleRenderDone
  · exact h.execTelltaleCheck
  · exact h.execMediaSessionOpen
  · exact h.execMediaSessionClose
  · exact h.execHostInboundRequest
  · exact h.execHpLinkDown
  · exact h.execHpFenceRead
  · exact h.execInboundAtomic
  · exact h.execBrLockTimeout
  · exact h.execInboundLockedRead
  · exact h.execUnlock
  · exact h.execOutboundAmo
  · exact h.execClaimBackoffRetry
  · exact h.execGwIngressMessage
  · exact h.execGwInEntry
  · exact h.execGwContextEnable
  · exact h.execEthFrameReceive
  · exact h.execEthTransmit
  · exact h.execLaunchTime
  · exact h.execGclEntryExpiry
  · exact h.execGclStage
  · exact h.execGclConfigChange
  · exact h.execPtpSync
  · exact h.execSyncReceiptTimeout
  · exact h.execTimeRead
  · exact h.execUlkLaneEnable
  · exact h.execUlkLightDetected
  · exact h.execUlkLocked
  · exact h.execUlkAligned
  · exact h.execUlkLockLost
  · exact h.execUlkSop
  · exact h.execUlkLine
  · exact h.execUlkEop
  · exact h.execFwLoad
  · exact h.execFwLoaded
  · exact h.execFwStage
  · exact h.execFwActivate
  · exact h.execHandoffStart
  · exact h.execFwHandoff
  · exact h.execFwRollback
  · exact h.execFwActivationExpired
  · exact h.execFwCancel
  · exact h.execFwCommit
  · exact h.execFwReloaded
  · exact h.execDriverHeartbeat
  · exact h.execHeartbeatWindow
  · exact h.execDriverAttach
  · exact h.execDriverDetach
  · exact h.execFwTeardown
  · exact h.execErrorRecordArrival
  · exact h.execErrNextRead
  · exact h.execErrDone
  · exact h.execErrInject
  · exact h.execHealthLogWrite
  · exact h.execHlogRead
  · exact h.execPairAddressMiscompare
  · exact h.execHostLinkUp
  · exact h.execEthLinkUp
  · exact h.execEthLinkDown
  · exact h.execFallbackSlotComplete

end Sys2Proof.Machine.State.Keeps
end

section
/-! PROOFS. What a step keeps. -/

namespace Sys2Proof.Machine

theorem exec_keeps (c : Instr) (s : State) : nextWith (exec c s) s.Keeps := (State.Keeps.refl s).exec

/-- A step keeps the stores: of a state with no command waiting it moves time only, and else it takes the first command
off the queue, which touches neither store, and executes it. -/
theorem canonical_of_step {s t : State} (hs : s.canonical) (e : step s = .next t) : t.canonical := by
  unfold step at e
  split at e
  · cases e
    exact (State.Keeps.refl s).tick.canonical hs
  · next c rest _ =>
    obtain ⟨u, hu, hkeeps⟩ := exec_keeps c { s with pending := rest }
    rw [hu] at e
    cases e
    exact hkeeps.canonical hs

/-- Settles O58: a step is a tick of time or the execution of one command, and each function that a command is made of
keeps the canonical forms. -/
theorem stepsKeepTheStores : Obligations.StepsKeepTheStores := fun _ _ => canonical_of_step

end Sys2Proof.Machine
end

section
/-! PROOFS. Registers that are set apart from one another, and the records that an operation adds. -/

namespace Sys2Proof.Machine

/-! ### Registers apart -/

/-- Whether two registers stand at different places of the banks' common layout (R5), so that no two copies of
them share an address. -/
def apart (f : Fld) (d i : Nat) (g : Fld) (e j : Nat) : Bool :=
  fldPlace f d i < bankStride && fldPlace g e j < bankStride && fldPlace f d i != fldPlace g e j

theorem fldAddr_eq_fldPlace_add (f : Fld) (d i u : Nat) : fldAddr f d i u = fldPlace f d i + u * bankStride := by
  simp [fldPlace, fldAddr]

theorem fldAddr_mod_of_lt {f : Fld} {d i : Nat} (u : Nat) (h : fldPlace f d i < bankStride) :
    fldAddr f d i u % bankStride = fldPlace f d i := by
  rw [fldAddr_eq_fldPlace_add, Nat.add_mul_mod_self_right, Nat.mod_eq_of_lt h]

theorem fldAddr_ne_of_apart {f g : Fld} {d i e j : Nat} (u v : Nat) (h : apart f d i g e j = true) :
    fldAddr f d i u ≠ fldAddr g e j v := by
  simp only [apart, Bool.and_eq_true, decide_eq_true_eq, bne_iff_ne] at h
  obtain ⟨⟨hf, hg⟩, hne⟩ := h
  intro heq
  rw [← fldAddr_mod_of_lt u hf, ← fldAddr_mod_of_lt v hg, heq] at hne
  exact hne rfl

theorem State.fget_fset_apart (s : State) {f g : Fld} {d i e j : Nat} (u v k : Nat) (h : apart g e j f d i = true) :
    (s.fset f d i u v).fget g e j k = s.fget g e j k :=
  State.fget_fset_other _ _ _ _ _ _ _ _ _ _ (fldAddr_ne_of_apart _ _ h)

theorem State.fget_fadd_apart (s : State) {f g : Fld} {d i e j : Nat} (u n k : Nat) (h : apart g e j f d i = true) :
    (s.fadd f d i u n).fget g e j k = s.fget g e j k := State.fget_fset_apart _ _ _ _ h

theorem satAdd_mod (a b w : Nat) : satAdd a b w % 2 ^ w = satAdd a b w :=
  Nat.mod_eq_of_lt (lt_of_le_of_lt (min_le_right _ _) (Nat.sub_lt (by positivity) one_pos))

/-- A counter that was added to reads as the saturated sum. -/
theorem State.fget_fadd_same (s : State) (f : Fld) (d i u n : Nat) (h : f.lo + f.w ≤ 64) :
    (s.fadd f d i u n).fget f d i u = satAdd (s.fget f d i u) n f.w := by
  rw [State.fadd, State.fget_fset_same _ _ _ _ _ _ h, satAdd_mod]

theorem sameRegsBut_fset (s : State) (f : Fld) (d i u v : Nat) : sameRegsBut [fldAddr f d i u] s (s.fset f d i u v) :=
  fun _ ha => State.reg_fset_other _ _ _ _ _ _ (by simpa using ha)

/-- What the IOMMU translates depends on memory and on its own registers alone. -/
theorem State.translate_setReg (s : State) {a : Nat} (v : Nat) (h : inIommu a = false) (device iova : Nat)
    (write : Bool) : (s.setReg a v).translate device iova write = s.translate device iova write := by
  have hfilter : ∀ m : Store Word, (storePut m a (BitVec.ofNat 64 v)).filter (fun p => inIommu p.1)
      = m.filter (fun p => inIommu p.1) := by
    intro m
    induction m with
    | nil => simp [storePut, h]
    | cons p m ih =>
      obtain ⟨k, w⟩ := p
      rw [storePut]
      split_ifs with h₁ h₂
      · subst h₁
        simp [h]
      · simp [h]
      · simp [List.filter_cons, ih]
  rw [State.translate, State.translate]
  exact congrArg (Config.iommu s.mem · device iova write) (hfilter s.regs)

/-- A register below the IOMMU's block is none of its registers, in any copy. -/
theorem inIommu_fldAddr_of_place_lt {f : Fld} {d i : Nat} (u : Nat) (h : fldPlace f d i < iommuBase) :
    inIommu (fldAddr f d i u) = false := by
  have hplace := fldAddr_mod_of_lt (f := f) (d := d) (i := i) u (h.trans (by decide))
  have hbase : iommuBase + 0x10000 < bankStride := by decide
  simp only [inIommu, Bool.and_eq_false_iff, decide_eq_false_iff_not, not_le, not_lt]
  by_contra hin
  simp only [not_or, not_lt, not_le] at hin
  rw [Nat.mod_eq_of_lt (by omega)] at hplace
  omega

theorem State.translate_fset (s : State) {f : Fld} {d i : Nat} (u v : Nat) (h : fldPlace f d i < iommuBase)
    (device iova : Nat) (write : Bool) :
    (s.fset f d i u v).translate device iova write = s.translate device iova write :=
  State.translate_setReg s _ (inIommu_fldAddr_of_place_lt u h) device iova write

/-! ### New records -/

theorem newCodes_self {s t : State} (h : t.err.inFlight = s.err.inFlight) : newCodes s t = [] := by
  simp [newCodes, h]

theorem newCodes_raiseRec_only {s t : State} (r : ErrRec) (h : t.err = s.err) :
    newCodes s (t.raiseRec r) = [r.code] := by
  simp [newCodes, State.raiseRec, h]

/-- A record put on its way is the last of the new ones. -/
theorem newCodes_raiseRec {s t : State} (r : ErrRec) (h : s.err.inFlight.length ≤ t.err.inFlight.length) :
    newCodes s (t.raiseRec r) = newCodes s t ++ [r.code] := by
  simp [newCodes, State.raiseRec, List.drop_append_of_le_length h]

end Sys2Proof.Machine
end

section
/-! PROOFS. The MSI of a completion queue (R376, R384): where it goes, and what sending it leaves unchanged. -/

namespace Sys2Proof.Machine

/-! ### MSIs of a VI -/

theorem State.sendViMsi_host {s : State} {vi : Nat} (vector : Nat)
    (h : s.hostMode = 2 ∧ s.fget F.viOwner_vf_enable 4 0 (64 + vi) = 1) :
    s.sendViMsi vi vector = s.send (.host 4 (vi + 1) (leBytes vector 4)) := if_pos h

theorem State.sendViMsi_translated {s : State} {vi a : Nat} (vector : Nat)
    (h : ¬ (s.hostMode = 2 ∧ s.fget F.viOwner_vf_enable 4 0 (64 + vi) = 1))
    (ha : s.translate (s.viDevice vi) (s.fget F.viMsi_file 4 0 (64 + vi) * 4096) true = some a) :
    s.sendViMsi vi vector = s.send (.msi a vector) := by
  refine (if_neg h).trans ?_
  simp only [committed, ha]

@[simp] theorem State.store_sched (s : State) (a : Nat) (bs : List Byte) : (s.store a bs).sched = s.sched := by
  unfold State.store State.clearPoison
  split <;> rfl

@[simp] theorem State.store_regs (s : State) (a : Nat) (bs : List Byte) : (s.store a bs).regs = s.regs := by
  unfold State.store State.clearPoison
  split <;> rfl

@[simp] theorem State.store_boot (s : State) (a : Nat) (bs : List Byte) : (s.store a bs).boot = s.boot := by
  unfold State.store State.clearPoison
  split <;> rfl

theorem State.queueFault_sched (s : State) (device iova : Nat) (write : Bool) :
    (s.queueFault device iova write).sched = s.sched := by
  unfold State.queueFault
  dsimp only
  split
  · rfl
  split
  · rfl
  · rw [State.setReg_sched, State.store_sched]
    rfl

/-- A register outside the IOMMU's block reads as before when a fault is put in the IOMMU's queue. -/
theorem State.queueFault_reg (s : State) (device iova : Nat) (write : Bool) {a : Nat} (ha : inIommu a = false) :
    (s.queueFault device iova write).reg a = s.reg a := by
  have hends : a ≠ iommuBase + 0x30 := by rintro rfl; simp [inIommu] at ha
  have hcsr : a ≠ iommuBase + 0x48 := by rintro rfl; simp [inIommu] at ha
  unfold State.queueFault
  dsimp only
  split
  · rfl
  split
  · exact State.reg_setReg_other _ _ hcsr
  · rw [State.reg_setReg_other _ _ hends]
    exact State.reg_congr (by rw [State.store_regs]; rfl) (by rw [State.store_boot]; rfl) a

theorem State.sendViMsi_sched (s : State) (vi vector : Nat) : (s.sendViMsi vi vector).sched = s.sched := by
  unfold State.sendViMsi
  dsimp only
  split
  · rfl
  split
  · rfl
  · exact State.queueFault_sched _ _ _ _

/-- A register that is neither the IOMMU's nor the VI's count of IOMMU faults reads as before. -/
theorem State.sendViMsi_reg (s : State) (vi vector : Nat) {a : Nat} (ha : inIommu a = false)
    (hc : a ≠ fldAddr F.viCounts_iommu_faults 4 0 vi) : (s.sendViMsi vi vector).reg a = s.reg a := by
  unfold State.sendViMsi
  dsimp only
  split
  · rfl
  split
  · rfl
  · exact (State.reg_fset_other _ _ _ _ _ _ hc).trans (State.queueFault_reg _ _ _ _ ha)

/-! ### The MSI of a completion queue -/

/-- The state in which the records of a completion queue count as signalled. -/
def State.quietCq (s : State) (q : Nat) : State :=
  (s.setCq q { s.cq q with unsignalled := 0, oldest := 0 }).fset F.viUse_pending_msi 4 0 (s.qVi q)
    (s.fget F.viUse_pending_msi 4 0 (s.qVi q) - (s.cq q).unsignalled)

theorem State.sendCqMsi_of_vector {s : State} {q : Nat}
    (h : s.fget F.viCtx_vec_first 4 0 (64 + s.qVi q) ≤ s.fget F.schQcfg_msi_vector 4 0 q ∧
      s.fget F.schQcfg_msi_vector 4 0 q <
        s.fget F.viCtx_vec_first 4 0 (64 + s.qVi q) + s.fget F.viCtx_vec_count 4 0 (64 + s.qVi q)) :
    s.sendCqMsi q = (s.quietCq q).sendViMsi (s.qVi q) (s.fget F.schQcfg_msi_vector 4 0 q) := if_pos h

theorem State.quietCq_eq (s : State) (q : Nat) :
    s.quietCq q = { s with regs := (s.quietCq q).regs, sched := (s.quietCq q).sched } := rfl

theorem State.quietCq_unsignalled (s : State) (q : Nat) : ((s.quietCq q).cq q).unsignalled = 0 := by
  simp [State.quietCq, State.cq, State.setCq]

theorem State.quietCq_sameRegs (s : State) (q : Nat) :
    sameRegsBut [fldAddr F.viUse_pending_msi 4 0 (s.qVi q)] s (s.quietCq q) :=
  sameRegsBut_fset (s.setCq q _) F.viUse_pending_msi 4 0 (s.qVi q) _

theorem State.quietCq_fget (s : State) (q : Nat) {f : Fld} {d i : Nat} (u : Nat)
    (h : apart f d i F.viUse_pending_msi 4 0 = true) : (s.quietCq q).fget f d i u = s.fget f d i u :=
  State.fget_fset_apart (s.setCq q _) _ _ _ h

theorem State.quietCq_translate (s : State) (q device iova : Nat) (write : Bool) :
    (s.quietCq q).translate device iova write = s.translate device iova write :=
  State.translate_fset (s.setCq q _) _ _ (by decide) _ _ _

/-- The MSI-X message of a VI with a virtual function. -/
theorem State.quietCq_sendViMsi_host {s : State} {q vi : Nat} (vector : Nat)
    (h : s.hostMode = 2 ∧ s.fget F.viOwner_vf_enable 4 0 (64 + vi) = 1) :
    (s.quietCq q).sendViMsi vi vector = (s.quietCq q).send (.host 4 (vi + 1) (leBytes vector 4)) := by
  refine State.sendViMsi_host vector ?_
  rw [State.hostMode] at h
  rwa [State.hostMode, State.quietCq_fget _ _ _ rfl, State.quietCq_fget _ _ _ rfl]

/-- The MSI of a VI at the address that the IOMMU gives. -/
theorem State.quietCq_sendViMsi_translated {s : State} {q vi a : Nat} (vector : Nat)
    (h : ¬ (s.hostMode = 2 ∧ s.fget F.viOwner_vf_enable 4 0 (64 + vi) = 1))
    (ha : s.translate (s.viDevice vi) (s.fget F.viMsi_file 4 0 (64 + vi) * 4096) true = some a) :
    (s.quietCq q).sendViMsi vi vector = (s.quietCq q).send (.msi a vector) := by
  rw [State.hostMode] at h
  rw [State.viDevice] at ha
  refine State.sendViMsi_translated vector ?_ ?_
  · rwa [State.hostMode, State.quietCq_fget _ _ _ rfl, State.quietCq_fget _ _ _ rfl]
  · rwa [State.viDevice, State.quietCq_fget _ _ _ rfl, State.quietCq_fget _ _ _ rfl, State.quietCq_translate]

theorem State.sendCqMsi_unsignalled (s : State) (q : Nat) : ((s.sendCqMsi q).cq q).unsignalled = 0 := by
  unfold State.sendCqMsi
  dsimp only
  split
  · rw [State.cq, State.sendViMsi_sched]
    exact State.quietCq_unsignalled s q
  · exact State.quietCq_unsignalled s q

theorem State.sendCqMsi_reg (s : State) (q : Nat) {a : Nat} (ha : inIommu a = false)
    (hc : a ≠ fldAddr F.viCounts_iommu_faults 4 0 (s.qVi q)) (hp : a ≠ fldAddr F.viUse_pending_msi 4 0 (s.qVi q)) :
    (s.sendCqMsi q).reg a = s.reg a := by
  have hquiet : (s.quietCq q).reg a = s.reg a := s.quietCq_sameRegs q a (by simpa using hp)
  unfold State.sendCqMsi
  dsimp only
  split
  · exact (State.sendViMsi_reg _ _ _ ha hc).trans hquiet
  · exact hquiet

end Sys2Proof.Machine
end

section
/-! PROOFS. Fabric links and the end of an over-budget state (R12, R15, R375, R376). -/

namespace Sys2Proof.Machine

/-! ### Replays and the loss of a link -/

theorem execFabReplay_of_up {s : State} {die port : Nat} (hd : die < 8) (hp : port < 4) (hu : s.portUp die port = true)
    (ok : Bool) : exec (.fabReplay die port ok) s =
      let t := s.fadd F.fabPortN_replays die port 0 1
      let k := die * 4 + port
      if ok then .next ({ t with bridge := { t.bridge with replays := storeDrop t.bridge.replays k } }.raiseRec
        { recOf E.fabReplay die 0x00 port with detail := port })
      else .next { t with bridge :=
        { t.bridge with replays := storePut t.bridge.replays k (storeGet 0 t.bridge.replays k + 1) } } := by
  have hguard : ¬ (8 ≤ die || 4 ≤ port || !s.portUp die port) = true := by simp [hd, hp, hu]
  exact if_neg hguard

/-- The link of a port: both of its ends, and the record of its loss. -/
def State.linkLost (s : State) (die port : Nat) : State :=
  { s with bridge := { s.bridge with linksDown := s.bridge.linksDown ++
      ([die * 4 + port] ++ ((fabPortTo (fabPeer die port) die).map (fabPeer die port * 4 + ·)).toList) } }.raiseRec
    { recOf E.fabLinkDown die 0x00 port with detail := port + fabPeer die port * 2 ^ 8 }

theorem execFabLinkDown_of_failed {s : State} {die port : Nat} (hd : die < 8) (hp : port < 4)
    (hu : s.portUp die port = true) (hr : 16 ≤ storeGet 0 s.bridge.replays (die * 4 + port)) (caught : List Caught) :
    exec (.fabLinkDown die port caught) s =
      .next (caught.foldl (fun t c => t.catchRequest die (fabPeer die port) c) (s.linkLost die port)) := by
  have hguard : ¬ (8 ≤ die || 4 ≤ port || !s.portUp die port
      || storeGet 0 s.bridge.replays (die * 4 + port) < 16) = true := by simp [hd, hp, hu, hr]
  exact if_neg hguard

theorem linkLost_portUp_near (s : State) (die port : Nat) : (s.linkLost die port).portUp die port = false := by
  simp [State.linkLost, State.portUp]

theorem linkLost_portUp_far (s : State) (die port : Nat) {p : Nat} (hp : fabPortTo (fabPeer die port) die = some p) :
    (s.linkLost die port).portUp (fabPeer die port) p = false := by
  simp [State.linkLost, State.portUp, hp]

theorem newCodes_linkLost (s : State) (die port : Nat) : newCodes s (s.linkLost die port) = [E.fabLinkDown.code] := by
  simp [State.linkLost, newCodes, State.raiseRec, recOf]

/-- The refusal of a request for a lost link changes its answer and adds its record. -/
theorem refuse_fabLinkDown (s : State) (who : Initiator) (addr : Nat) :
    s.refuse E.fabLinkDown who addr = (s.raiseRec (s.refusalRec E.fabLinkDown who addr)).answerError := by
  have hcount : s.countRefusal E.fabLinkDown addr = s := by
    unfold State.countRefusal
    split
    · rfl
    · simp [E.fabLinkDown, E.cgForeignWrite, E.cgShadow, E.cgOwner]
  unfold State.refuse State.refused
  split
  · simp [hcount, show E.fabLinkDown.code ≠ E.gftArea.code by decide]
  · simp [hcount]

theorem goesOver_linkLost (s : State) (die port a b : Nat) (who : Initiator) (addr : Nat) :
    (s.linkLost die port).goesOver a b who addr = s.goesOver a b who addr := rfl

theorem refusalRec_code (s : State) (c : ErrCode) (who : Initiator) (addr : Nat) :
    (s.refusalRec c who addr).code = c.code := rfl

/-! ### The end of an over-budget state -/

theorem viReg_fset_overBudget (s : State) (vi v : Nat) (f : Fld) (unit : Nat)
    (h : apart f 4 0 F.viState_over_budget 4 0 = true) :
    (s.fset F.viState_over_budget 4 0 vi v).viReg f unit = s.viReg f unit := State.fget_fset_apart _ _ _ _ h

theorem viQueues_fset_overBudget (s : State) (vi v q : Nat) :
    (s.fset F.viState_over_budget 4 0 vi v).viQueues q = s.viQueues q := by
  simp (disch := decide) only [State.viQueues, State.queueRanges, viReg_fset_overBudget]

/-- The completion queues of a VI that hold back an MSI. -/
def State.msiQueues (s : State) (vi : Nat) : List Nat :=
  (s.viQueues vi).filter (fun q => isCompletion q && s.fon F.schQcfg_msi_enable 4 0 q && (s.cq q).unsignalled != 0)

/-- The end of an over-budget state sends the MSIs that are due; which ones are due does not hang on the bit that it
clears. -/
theorem execOverBudgetEnd_of_over {s : State} {vi : Nat} (ho : s.fon F.viState_over_budget 4 0 vi = true)
    (ht : storeGet 0 s.vis.obWaits vi + 3840 ≤ s.periods) :
    exec (.overBudgetEnd vi) s =
      .next (((s.msiQueues vi).filter
        (fun q => s.fget F.viCoalesce_count_max 4 0 (64 + vi) ≤ (s.cq q).unsignalled)).foldl State.sendCqMsi
          (s.fset F.viState_over_budget 4 0 vi 0)) := by
  have hguard : ¬ (!s.fon F.viState_over_budget 4 0 vi || s.periods < storeGet 0 s.vis.obWaits vi + 3840) = true := by
    simp [ho, ht]
  refine (if_neg hguard).trans (congrArg (fun l : List Nat => Host.Outcome.next (l.foldl State.sendCqMsi _)) ?_)
  have hmsi (q : Nat) : (s.fset F.viState_over_budget 4 0 vi 0).fget F.schQcfg_msi_enable 4 0 q
      = s.fget F.schQcfg_msi_enable 4 0 q := State.fget_fset_apart _ _ _ _ rfl
  have hmax : (s.fset F.viState_over_budget 4 0 vi 0).fget F.viCoalesce_count_max 4 0 (64 + vi)
      = s.fget F.viCoalesce_count_max 4 0 (64 + vi) := State.fget_fset_apart _ _ _ _ rfl
  have hcq (q : Nat) : (s.fset F.viState_over_budget 4 0 vi 0).cq q = s.cq q := rfl
  simp only [viQueues_fset_overBudget, State.fon, hmsi, hmax, hcq, committed, State.msiQueues, List.filter_filter]
  exact List.filter_congr fun q _ => Bool.and_comm _ _

theorem msiQueues_none_due {s : State} {vi n : Nat}
    (h : (s.viQueues vi).all (fun q => !(isCompletion q && s.fon F.schQcfg_msi_enable 4 0 q
      && (s.cq q).unsignalled != 0) || decide ((s.cq q).unsignalled < n)) = true) :
    (s.msiQueues vi).filter (fun q => n ≤ (s.cq q).unsignalled) = [] := by
  refine List.filter_eq_nil_iff.2 fun q hq => ?_
  obtain ⟨hmem, hholds⟩ := List.mem_filter.1 hq
  have hq' := List.all_eq_true.1 h q hmem
  rw [hholds] at hq'
  simpa using hq'

/-- Settles O51: the links by the equations above; the end of over-budget by the queues that are due, which the clearing
of its bit leaves as they were. -/
theorem fabricAndBudgetsComplete : Obligations.FabricAndBudgetsComplete := by
  unfold Obligations.FabricAndBudgetsComplete
  refine ⟨?replayed, ?replayFailed, ?linkDown, ?linkDownCaught, ?noneDue, ?oneDue⟩
  case replayed =>
    rintro s die port ⟨hd, hp, hu⟩
    exact ⟨_, execFabReplay_of_up hd hp hu true, rfl, State.fget_fadd_same s _ _ _ _ _ (by decide),
      newCodes_raiseRec_only _ rfl, sameRegsBut_fset s _ _ _ _ _⟩
  case replayFailed =>
    rintro s die port ⟨hd, hp, hu⟩
    exact ⟨_, execFabReplay_of_up hd hp hu false, rfl, storeGet_put_same _ _ _ _,
      State.fget_fadd_same s _ _ _ _ _ (by decide)⟩
  case linkDown =>
    rintro s die port ⟨hd, hp, hu, hr⟩
    exact ⟨_, execFabLinkDown_of_failed hd hp hu hr [], rfl, linkLost_portUp_near s die port,
      fun p hp => linkLost_portUp_far s die port hp, newCodes_linkLost s die port⟩
  case linkDownCaught =>
    rintro s die port who addr ⟨hd, hp, hu, hr⟩ ⟨hover, -⟩
    have hcatch : (s.linkLost die port).catchRequest die (fabPeer die port) (.request who addr)
        = ((s.linkLost die port).raiseRec
            ((s.linkLost die port).refusalRec E.fabLinkDown who addr)).answerError := by
      rw [← refuse_fabLinkDown]
      exact if_pos ((goesOver_linkLost s die port _ _ who addr).trans hover)
    refine ⟨_, execFabLinkDown_of_failed hd hp hu hr _, ?_⟩
    rw [List.foldl_cons, List.foldl_nil, hcatch]
    refine ⟨rfl, linkLost_portUp_near s die port, ?_⟩
    calc newCodes s ((s.linkLost die port).raiseRec _).answerError
        = newCodes s (s.linkLost die port) ++ [E.fabLinkDown.code] :=
          newCodes_raiseRec _ (by simp [State.linkLost, State.raiseRec])
      _ = _ := by rw [newCodes_linkLost]; rfl
  case noneDue =>
    rintro s vi ⟨ho, ht⟩ hnone
    refine ⟨s.fset F.viState_over_budget 4 0 vi 0, ?_, rfl, ⟨?_, ?_⟩, sameRegsBut_fset s _ _ _ _ _⟩
    · rw [execOverBudgetEnd_of_over ho ht, msiQueues_none_due hnone, List.foldl_nil]
    · rw [State.fon, State.fget_fset_same _ _ _ _ _ _ (by decide)]
      decide
    · exact State.fget_fset_beside _ _ _ _ _ _ _ _ _ _ rfl (by decide) (by decide)
  case oneDue =>
    rintro s vi q vec ⟨ho, ht, rfl⟩ hq hmax rfl hvec
    have hone : (s.msiQueues (s.qVi q)).filter
        (fun x => s.fget F.viCoalesce_count_max 4 0 (64 + s.qVi q) ≤ (s.cq x).unsignalled) = [q] := by
      rw [State.msiQueues, hq]
      simp [hmax]
    have hexec := execOverBudgetEnd_of_over ho ht
    rw [hone, List.foldl_cons, List.foldl_nil] at hexec
    obtain ⟨u, hu⟩ : ∃ u, u = s.fset F.viState_over_budget 4 0 (s.qVi q) 0 := ⟨_, rfl⟩
    have hget {f : Fld} {d i : Nat} (k : Nat) (h : apart f d i F.viState_over_budget 4 0 = true) :
        u.fget f d i k = s.fget f d i k := hu ▸ State.fget_fset_apart _ _ _ _ h
    rw [← hu] at hexec
    have hvi : u.qVi q = s.qVi q := hget _ rfl
    have hsend : u.sendCqMsi q = (u.quietCq q).sendViMsi (s.qVi q) (s.fget F.schQcfg_msi_vector 4 0 q) := by
      rw [State.sendCqMsi_of_vector, hvi, hget _ rfl]
      rwa [hvi, hget _ rfl, hget _ rfl, hget _ rfl]
    refine ⟨_, hexec, ⟨?_, State.sendCqMsi_unsignalled u q⟩, ?_, ?_⟩
    · have hreg : (u.sendCqMsi q).reg (fldAddr F.viState_over_budget 4 0 (s.qVi q))
          = u.reg (fldAddr F.viState_over_budget 4 0 (s.qVi q)) :=
        State.sendCqMsi_reg u q (inIommu_fldAddr_of_place_lt _ (by decide)) (fldAddr_ne_of_apart _ _ (by decide))
          (fldAddr_ne_of_apart _ _ (by decide))
      rw [State.fon, State.fget, hreg, ← State.fget, hu, State.fget_fset_same _ _ _ _ _ _ (by decide)]
      decide
    · rintro a ⟨hmode, ha⟩
      rw [hsend, State.quietCq_sendViMsi_translated (a := a)]
      · rw [hu]; rfl
      · rw [State.hostMode, hget _ rfl]
        exact fun h => hmode h.1
      · rw [State.viDevice, hget _ rfl, hget _ rfl, hu, State.translate_fset _ _ _ (by decide)]
        exact ha
    · intro hhost
      rw [hsend, State.quietCq_sendViMsi_host]
      · rw [hu]; rfl
      · rwa [State.hostMode, hget _ rfl, hget _ rfl]

end Sys2Proof.Machine
end

section
/-! PROOFS. The loss of the memory's rails (R403). -/

namespace Sys2Proof.Machine

theorem State.foldl_mem {α : Type} (l : List α) (g : State → α → State) (hg : ∀ s x, (g s x).mem = s.mem)
    (s : State) : (l.foldl g s).mem = s.mem := by
  induction l generalizing s with
  | nil => rfl
  | cons x l ih => rw [List.foldl_cons, ih, hg]

/-- The loss of the memory's rails leaves no byte of LPDDR6. -/
theorem State.loseMemory_mem (s : State) : s.loseMemory.mem = s.mem.filter (fun c => placeOf c.1 != .lpddr) := by
  unfold State.loseMemory
  rw [State.foldl_mem _ _ fun _ _ => State.fset_mem _ _ _ _ _ _]

/-- The device in its safe state for the loss of a rail other than VIN_SAFE. -/
def State.railGone (s : State) (rail : Rail) : State :=
  let ok := setBit s.boot.railsOk rail.index false
  let s := { s.newEvent with boot := { s.boot with railsOk := ok, powered := ok != 0 } }
  { s with boot := { s.boot with railLost := true } }.enterSafe rsRailLoss true

theorem exec_railLoss_vmemCore {s : State} (hp : s.boot.powered = true)
    (hb : bit s.boot.railsOk Rail.vmemCore.index = true) :
    exec (.railLoss .vmemCore) s = .next (s.railGone .vmemCore).loseMemory := by
  have hguard : ¬ (!(s.boot.powered && bit s.boot.railsOk Rail.vmemCore.index)) = true := by simp [hp, hb]
  exact (if_neg hguard).trans ((if_neg (by decide)).trans
    (congrArg Host.Outcome.next ((if_neg (by decide)).trans (if_neg (by decide)))))

/-- A device with one byte of LPDDR6 written. -/
def lpddrWritten : State := { State.reset with mem := [(0x1000000000, 1)], boot := { powered := true } }

/-- Refutes O2: its clause of rail losses says that every rail but VIN_LOGIC leaves memory as it was. The loss of
VMEM_CORE loses what LPDDR6 held. -/
theorem not_railsAndRestartsComplete : ¬ Obligations.RailsAndRestartsComplete := by
  unfold Obligations.RailsAndRestartsComplete
  rintro ⟨railLoss, -⟩
  obtain ⟨t, ht, -, -, -, -, hmem, -⟩ := railLoss lpddrWritten .vmemCore (by decide) rfl (by decide)
  rw [if_neg (by decide)] at hmem
  rw [exec_railLoss_vmemCore rfl (by decide), Host.Outcome.next.injEq] at ht
  have hcell : ((0x1000000000, 1) : Host.Cell) ∈
      (lpddrWritten.railGone .vmemCore).mem.filter (fun c => placeOf c.1 != .lpddr) := by
    rw [← State.loseMemory_mem, ht, hmem]
    exact List.mem_singleton_self _
  exact absurd (List.mem_filter.1 hcell).2 (by decide)

end Sys2Proof.Machine
end

section
/-! PROOFS. Reads of registers by an initiator that does not reach them (R24, R77). -/

namespace Sys2Proof.Machine

/-- A read of a register that the map or its BARs keep from the initiator is refused before anything else of it is
looked at (R24). -/
theorem State.regRead_of_not_reaches {s : State} {who : Initiator} {addr : Nat} (size : Nat)
    (hr : reachesRegister who addr = false) : s.regRead who addr size = s.refuse E.addressRefused who addr := by
  simp [State.regRead, hr]

/-- BAR 0 of the recovery function maps CFG_ of S alone (R77), and not HP_FENCE. -/
theorem recovery_not_reaches_hpFence : reachesRegister .recovery (fldPlace F.hpFence_all_ok 7 0) = false := by decide

/-- Refutes O49: its clause of HP_FENCE asks of an initiator only that R23 lets it into register space, not that its
BARs map the register. A read of HP_FENCE by the recovery function, whose BAR maps CFG_ alone, is refused with an error. -/
theorem not_memoryRequestsComplete : ¬ Obligations.MemoryRequestsComplete := by
  unfold Obligations.MemoryRequestsComplete
  rintro ⟨-, -, -, -, -, -, hpFence⟩
  obtain ⟨t, hexec, hframe, -⟩ := hpFence State.reset .recovery (by decide)
  have hread : exec (.hpFenceRead .recovery) State.reset
      = .next (State.reset.refuse E.addressRefused .recovery (fldPlace F.hpFence_all_ok 7 0)) :=
    congrArg Host.Outcome.next (State.regRead_of_not_reaches 8 recovery_not_reaches_hpFence)
  rw [hread, Host.Outcome.next.injEq] at hexec
  have herror : t.resp.error = true := by rw [← hexec, State.refuse_resp]
  have hclean : t.resp.error = false := by rw [hframe]
  exact absurd herror (by rw [hclean]; decide)

end Sys2Proof.Machine
end

section
/-! PROOFS. The queue of commands. -/

namespace Sys2Proof.Machine

/-- Settles O56: step takes the front of the queue, and no word of the table spells a command. -/
theorem aStepRunsTheFirstCommand : Obligations.AStepRunsTheFirstCommand := by
  unfold Obligations.AStepRunsTheFirstCommand
  refine ⟨fun c s => rfl, fun c s => rfl, fun s hs => ?_, fun s nbits w => ⟨rfl, rfl⟩⟩
  rw [step, hs]

end Sys2Proof.Machine
end

section
/-! PROOFS. The loss of fixed pace (R42, R44, R47). -/

namespace Sys2Proof.Machine

/-- What an operation of a fold leaves as it is, the fold leaves as it is. -/
theorem State.foldl_proj {α β : Type} (p : State → β) {g : State → α → State} (hg : ∀ s x, p (g s x) = p s)
    (l : List α) (s : State) : p (l.foldl g s) = p s := by
  induction l generalizing s with
  | nil => rfl
  | cons x l ih => rw [List.foldl_cons, ih, hg]

@[simp] theorem State.setIsl_power (s : State) (f : Fld) (d i v : Nat) : (s.setIsl f d i v).power = s.power := rfl

/-- The end of fixed pace takes the tokens of the compute islands alone: those of the chamois unit, as 32, stay. -/
theorem State.losePace_tokens (s : State) (d i : Nat) :
    (s.losePace d i).power.tokens = s.power.tokens.filter (fun p => p.1 == 32) := by
  have hcond (v : State) (p : Nat) : (if v.fget F.schRtCfg_condition 4 p 0 = 0 then
      v.fset F.schRtUse_admit_corner 4 p 0 1 else v).power = v.power := by
    rw [apply_ite State.power, State.fset_power, ite_self]
  rw [State.losePace, State.refreshReason, State.fset_power, State.raiseSide_power]
  rw [State.foldl_proj State.power fun v d => State.fset_power v _ _ _ _ _]
  dsimp only
  rw [State.foldl_proj State.power hcond, State.foldl_proj State.power fun v d => State.fset_power v _ _ _ _ _]
  rw [State.foldl_proj State.power fun v c => State.setIsl_power v _ _ _ _]

theorem execFixedPaceLost_of_lost {s : State} {c : Nat}
    (h : (List.range 32).find? (fun c => s.isl F.pwrIsl_fixed (c / 8) (c % 8) == 1 && 5 ≤ storeGet 0 s.power.low c)
      = some c) : exec .fixedPaceLost s = .next (s.losePace (c / 8) (c % 8)) := by
  change execFixedPaceLost s = _
  rw [execFixedPaceLost, h]

/-- A fixed-pace island that has read low five times, beside a chamois unit that has tokens. -/
def lowBesideChamois : State :=
  { State.reset.setIsl F.pwrIsl_fixed 0 0 1 with power := { low := [(0, 5)], tokens := [(0, 125), (32, 625)] } }

/-- Refutes O4: its clause of fixedPaceLost leaves no token at all, where the generator of the chamois unit, which keeps
its own pace (R47), keeps its tokens. -/
theorem not_paceCommandsComplete : ¬ Obligations.PaceCommandsComplete := by
  unfold Obligations.PaceCommandsComplete
  rintro ⟨-, -, fixedPaceLost, -⟩
  have hfixed : lowBesideChamois.isl F.pwrIsl_fixed 0 0 = 1 := by decide
  obtain ⟨t, hexec, -, -, -, ⟨htokens, -⟩, -⟩ := fixedPaceLost lowBesideChamois 0 (by decide) hfixed (by decide)
  rw [execFixedPaceLost_of_lost (c := 0) (by decide), Host.Outcome.next.injEq] at hexec
  have hkept : t.power.tokens = [(32, 625)] := by rw [← hexec, State.losePace_tokens]; rfl
  exact absurd htokens (by rw [hkept]; decide)

end Sys2Proof.Machine
end

section
/-! PROOFS. Granules of the scratchpads and the models that take them: which registers a change of owners, a move and a
load of a model leave as they were (R157, R158, R183). -/

namespace Sys2Proof.Machine

/-! ### Granules of the scratchpads (R157, R158) -/

/-- Where the owner entry of a die granule stands. -/
def granuleEntry (die g : Nat) : Nat := fldAddr F.spmGranuleN_kind die (granReg g) 0

theorem granuleEntry_inj {die g k : Nat} (h : granuleEntry die g = granuleEntry die k) : g = k := by
  simp only [granuleEntry, fldAddr, granReg, F.spmGranuleN_kind] at h
  omega

/-- Owner entries stand in the first 0x80 bytes of a 64 KiB block of registers, and VI_USE below 0x200 of its own. -/
theorem ne_granuleEntry_of_high {a : Nat} (ha : 0x200 ≤ a % 0x10000) (die g : Nat) : a ≠ granuleEntry die g := by
  rintro rfl
  simp only [granuleEntry, fldAddr, granReg, regBase, F.spmGranuleN_kind] at ha
  omega

theorem ne_viUse_of_high {a : Nat} (ha : 0x200 ≤ a % 0x10000) (v : Nat) : a ≠ fldAddr F.viUse_granules 4 0 v := by
  rintro rfl
  simp only [fldAddr, regBase, bankStride, F.viUse_granules] at ha
  omega

theorem granuleEntry_ne_viUse (die g v : Nat) : granuleEntry die g ≠ fldAddr F.viUse_granules 4 0 v := by
  simp only [granuleEntry, fldAddr, granReg, regBase, bankStride, F.spmGranuleN_kind, F.viUse_granules]
  omega

theorem State.countGranule_reg (s : State) (o : Option (Bool × Nat)) (up : Bool) {a : Nat}
    (hu : ∀ v, a ≠ fldAddr F.viUse_granules 4 0 v) : (s.countGranule o up).reg a = s.reg a := by
  unfold State.countGranule
  split
  · exact State.reg_fset_other _ _ _ _ _ _ (hu _)
  · rfl

theorem State.countGranule_cache (s : State) (o : Option (Bool × Nat)) (up : Bool) :
    (s.countGranule o up).cache = s.cache := by
  unfold State.countGranule
  split <;> rfl

theorem State.countGranule_sched (s : State) (o : Option (Bool × Nat)) (up : Bool) :
    (s.countGranule o up).sched = s.sched := by
  unfold State.countGranule
  split <;> rfl

/-- The state in which an owner entry names its owner, before anything follows the change. -/
def State.putOwner (s : State) (die g kind vi rt : Nat) : State :=
  ((s.fset F.spmGranuleN_kind die (granReg g) 0 kind).fset F.spmGranuleN_vi die (granReg g) 0 vi).fset
    F.spmGranuleN_rt_partition die (granReg g) 0 rt

/-- The state in which a granule's change of owner was counted and its scrub began. -/
def State.ownerChanged (s : State) (die g : Nat) (old new : Option (Bool × Nat)) : State :=
  let s := ((s.countGranule old false).countGranule new true).scrub (spmBase die 0 + g * 0x100000) 0x100000
  let s := s.fset F.spmGranuleN_scrubbing die (granReg g) 0 1
  { s with vis := { s.vis with borrowed := storeDrop s.vis.borrowed (die * 128 + g) } }

theorem State.setGranule_eq (s : State) (die g kind vi rt : Nat) :
    s.setGranule die g kind vi rt =
      if s.granOwner die (granReg g) = granuleOwner kind vi rt then s.putOwner die g kind vi rt
      else (s.putOwner die g kind vi rt).ownerChanged die g (s.granOwner die (granReg g))
        (granuleOwner kind vi rt) := rfl

theorem State.putOwner_reg (s : State) {die g a : Nat} (kind vi rt : Nat) (hg : a ≠ granuleEntry die g) :
    (s.putOwner die g kind vi rt).reg a = s.reg a := by
  unfold State.putOwner
  rw [State.reg_fset_other _ F.spmGranuleN_rt_partition die (granReg g) 0 rt hg,
    State.reg_fset_other _ F.spmGranuleN_vi die (granReg g) 0 vi hg,
    State.reg_fset_other _ F.spmGranuleN_kind die (granReg g) 0 kind hg]

theorem State.putOwner_granKind (s : State) (die g kind vi rt : Nat) :
    (s.putOwner die g kind vi rt).granKind die (granReg g) = kind % 8 := by
  have hkind := s.fget_fset_same F.spmGranuleN_kind die (granReg g) 0 kind (by decide)
  unfold State.putOwner State.granKind
  rw [State.fget_fset_beside _ F.spmGranuleN_rt_partition F.spmGranuleN_kind die (granReg g) 0 die (granReg g) 0 rt rfl
      (by decide) (by decide),
    State.fget_fset_beside _ F.spmGranuleN_vi F.spmGranuleN_kind die (granReg g) 0 die (granReg g) 0 vi rfl
      (by decide) (by decide)]
  exact hkind

theorem State.ownerChanged_reg (s : State) {die g a : Nat} (old new : Option (Bool × Nat))
    (hg : a ≠ granuleEntry die g) (hu : ∀ v, a ≠ fldAddr F.viUse_granules 4 0 v) :
    (s.ownerChanged die g old new).reg a = s.reg a :=
  calc (s.ownerChanged die g old new).reg a
      = ((s.countGranule old false).countGranule new true).reg a := State.reg_fset_other _ _ _ _ _ _ hg
    _ = s.reg a := by rw [State.countGranule_reg _ _ _ hu, State.countGranule_reg _ _ _ hu]

theorem State.ownerChanged_granKind (s : State) (die g : Nat) (old new : Option (Bool × Nat)) :
    (s.ownerChanged die g old new).granKind die (granReg g) = s.granKind die (granReg g) :=
  calc (s.ownerChanged die g old new).granKind die (granReg g)
      = ((s.countGranule old false).countGranule new true).granKind die (granReg g) :=
        State.fget_fset_beside _ _ _ _ _ _ _ _ _ _ rfl (by decide) (by decide)
    _ = s.granKind die (granReg g) := by
        have hu := granuleEntry_ne_viUse die g
        simp only [granuleEntry] at hu
        rw [State.granKind, State.fget, State.countGranule_reg _ _ _ hu, State.countGranule_reg _ _ _ hu]
        rfl

theorem State.setGranule_reg (s : State) {die g a : Nat} (kind vi rt : Nat) (hg : a ≠ granuleEntry die g)
    (hu : ∀ v, a ≠ fldAddr F.viUse_granules 4 0 v) : (s.setGranule die g kind vi rt).reg a = s.reg a := by
  rw [State.setGranule_eq]
  split
  · exact State.putOwner_reg _ _ _ _ hg
  · rw [State.ownerChanged_reg _ _ _ hg hu, State.putOwner_reg _ _ _ _ hg]

theorem State.setGranule_granKind (s : State) (die g kind vi rt : Nat) :
    (s.setGranule die g kind vi rt).granKind die (granReg g) = kind % 8 := by
  rw [State.setGranule_eq]
  split
  · exact State.putOwner_granKind _ _ _ _ _ _
  · rw [State.ownerChanged_granKind, State.putOwner_granKind]

theorem State.setGranule_cache (s : State) (die g kind vi rt : Nat) :
    (s.setGranule die g kind vi rt).cache = s.cache := by
  rw [State.setGranule_eq]
  split
  · rfl
  · exact (State.countGranule_cache _ _ _).trans (State.countGranule_cache _ _ _)

theorem State.setGranule_sched (s : State) (die g kind vi rt : Nat) :
    (s.setGranule die g kind vi rt).sched = s.sched := by
  rw [State.setGranule_eq]
  split
  · rfl
  · exact (State.countGranule_sched _ _ _).trans (State.countGranule_sched _ _ _)

/-! ### Models that take granules (R183) -/

/-- A VI takes n granules of a die for a model, from a first one on. -/
def State.takeGranules (s : State) (die vi first n : Nat) : State :=
  (List.range n).foldl (fun s i =>
    s.setGranule die (first + i) 3 vi (s.fget F.spmGranuleN_rt_partition die (granReg (first + i)) 0)) s

theorem State.takeGranules_succ (s : State) (die vi first n : Nat) :
    ∃ rt, s.takeGranules die vi first (n + 1) = (s.takeGranules die vi first n).setGranule die (first + n) 3 vi rt :=
  ⟨_, by rw [State.takeGranules, List.range_succ, List.foldl_append]; rfl⟩

theorem State.takeGranules_reg (s : State) (die vi first n : Nat) {a : Nat}
    (hg : ∀ i < n, a ≠ granuleEntry die (first + i)) (hu : ∀ v, a ≠ fldAddr F.viUse_granules 4 0 v) :
    (s.takeGranules die vi first n).reg a = s.reg a := by
  induction n with
  | zero => rfl
  | succ n ih =>
    obtain ⟨rt, hrt⟩ := s.takeGranules_succ die vi first n
    rw [hrt, State.setGranule_reg _ _ _ _ (hg n n.lt_succ_self) hu]
    exact ih fun i hi => hg i (hi.trans n.lt_succ_self)

/-- However many granules are taken, each one's owner entry says so, wherever the entry stands. -/
theorem State.takeGranules_granKind (s : State) (die vi first : Nat) {n i : Nat} (hi : i < n) :
    (s.takeGranules die vi first n).granKind die (granReg (first + i)) = 3 := by
  induction n with
  | zero => exact absurd hi i.not_lt_zero
  | succ n ih =>
    obtain ⟨rt, hrt⟩ := s.takeGranules_succ die vi first n
    rw [hrt]
    rcases Nat.lt_succ_iff_lt_or_eq.1 hi with hlt | rfl
    · have hne : granuleEntry die (first + i) ≠ granuleEntry die (first + n) := fun h => by
        have := granuleEntry_inj h
        omega
      have hreg := (s.takeGranules die vi first n).setGranule_reg 3 vi rt hne (granuleEntry_ne_viUse die _)
      rw [granuleEntry] at hreg
      rw [State.granKind, State.fget, hreg]
      exact ih hlt
    · exact State.setGranule_granKind _ _ _ _ _ _

theorem State.takeGranules_cache (s : State) (die vi first n : Nat) :
    (s.takeGranules die vi first n).cache = s.cache :=
  State.foldl_proj State.cache (fun _ _ => State.setGranule_cache _ _ _ _ _ _) _ s

theorem State.takeGranules_sched (s : State) (die vi first n : Nat) :
    (s.takeGranules die vi first n).sched = s.sched :=
  State.foldl_proj State.sched (fun _ _ => State.setGranule_sched _ _ _ _ _ _) _ s

theorem State.store_cache (s : State) (a : Nat) (bs : List Byte) : (s.store a bs).cache = s.cache := by
  unfold State.store State.clearPoison
  split <;> rfl

theorem State.setPoison_eq (s : State) (a : Nat) : s.setPoison a =
    { s with poisonWords := (s.setPoison a).poisonWords, poisonLines := (s.setPoison a).poisonLines } := by
  unfold State.setPoison
  split <;> rfl

theorem State.copyMarked_regs (s : State) (src dst n : Nat) : (s.copyMarked src dst n).regs = s.regs :=
  (State.foldl_proj State.regs (fun v _ => by rw [State.setPoison_eq]) _ _).trans (State.store_regs _ _ _)

theorem State.copyMarked_boot (s : State) (src dst n : Nat) : (s.copyMarked src dst n).boot = s.boot :=
  (State.foldl_proj State.boot (fun v _ => by rw [State.setPoison_eq]) _ _).trans (State.store_boot _ _ _)

theorem State.copyMarked_sched (s : State) (src dst n : Nat) : (s.copyMarked src dst n).sched = s.sched :=
  (State.foldl_proj State.sched (fun v _ => by rw [State.setPoison_eq]) _ _).trans (State.store_sched _ _ _)

theorem State.copyMarked_cache (s : State) (src dst n : Nat) : (s.copyMarked src dst n).cache = s.cache :=
  (State.foldl_proj State.cache (fun v _ => by rw [State.setPoison_eq]) _ _).trans (State.store_cache _ _ _)

/-- A move takes the granules of its new place, copies the model there and changes its base. Here and below the
number of pairs is made a variable before a definition is unfolded, or its division would be unfolded with it. -/
theorem State.moveModel_eq {s : State} {vi id b : Nat} {m : Model} (pair : Nat) (hm : s.model? vi id = some m)
    (hb : m.base = some b) : s.moveModel vi id pair =
      ((s.takeGranules m.die vi (2 * pair) (modelPairs m.length * 2)).copyMarked (granuleAddr m.die b)
        (granuleAddr m.die (2 * pair)) (modelPairs m.length * 0x200000)).putModel vi id
        { m with base := some (2 * pair) } := by
  obtain ⟨pairs, hp⟩ := exists_eq (a' := modelPairs)
  unfold State.moveModel State.takeGranules
  simp only [hm, hb, ← hp]

theorem State.putModel_models (s : State) (vi id : Nat) (m : Model) :
    (s.putModel vi id m).cache.models = storePut s.cache.models (vi * 64 + id) m := rfl

theorem State.putModel_sched (s : State) (vi id : Nat) (m : Model) : (s.putModel vi id m).sched = s.sched := rfl

theorem State.putModel_reg (s : State) (vi id : Nat) (m : Model) (a : Nat) : (s.putModel vi id m).reg a = s.reg a := rfl

theorem State.copyMarked_reg (s : State) (src dst n a : Nat) : (s.copyMarked src dst n).reg a = s.reg a :=
  State.reg_congr (State.copyMarked_regs _ _ _ _) (congrArg _ (State.copyMarked_boot _ _ _ _)) a

theorem State.moveModel_reg {s : State} {vi id b : Nat} {m : Model} (pair : Nat) (hm : s.model? vi id = some m)
    (hb : m.base = some b) (a : Nat) : (s.moveModel vi id pair).reg a =
      (s.takeGranules m.die vi (2 * pair) (modelPairs m.length * 2)).reg a := by
  rw [State.moveModel_eq pair hm hb, State.putModel_reg, State.copyMarked_reg]

theorem State.moveModel_sched {s : State} {vi id b : Nat} {m : Model} (pair : Nat) (hm : s.model? vi id = some m)
    (hb : m.base = some b) : (s.moveModel vi id pair).sched = s.sched := by
  rw [State.moveModel_eq pair hm hb, State.putModel_sched, State.copyMarked_sched, State.takeGranules_sched]

theorem State.moveModel_models {s : State} {vi id b : Nat} {m : Model} (pair : Nat) (hm : s.model? vi id = some m)
    (hb : m.base = some b) : (s.moveModel vi id pair).cache.models =
      storePut s.cache.models (vi * 64 + id) { m with base := some (2 * pair) } := by
  rw [State.moveModel_eq pair hm hb, State.putModel_models, State.copyMarked_cache, State.takeGranules_cache]

/-- A load takes granules, and nothing else of the registers. -/
theorem State.startLoad_reg (s : State) (vi id pair cls : Nat) (st : ModelState) {a : Nat}
    (hg : ∀ m, s.model? vi id = some m → ∀ i < modelPairs m.length * 2, a ≠ granuleEntry m.die (2 * pair + i))
    (hu : ∀ v, a ≠ fldAddr F.viUse_granules 4 0 v) : (s.startLoad vi id pair cls st).reg a = s.reg a := by
  obtain ⟨pairs, hp⟩ := exists_eq (a' := modelPairs)
  rw [← hp] at hg
  unfold State.startLoad
  rw [← hp]
  split
  · rfl
  · next m hm => exact State.takeGranules_reg s m.die vi (2 * pair) _ (hg m hm) hu

/-- The low bits of a field that begins at bit 0 are those of the register. -/
theorem bit_bits (n : Nat) {i w : Nat} (hi : i < w) : bit (bits n 0 w) i = bit n i := by
  simp [bit_eq_testBit, bits_testBit, hi]

theorem bit_reg_of_granKind {s : State} {die g i : Nat} (hk : s.granKind die (granReg g) = 3) (hi : i < 2) :
    bit (s.reg (granuleEntry die g)) i = true := by
  have hlow := bit_bits (s.reg (granuleEntry die g)) (show i < 3 by omega)
  have hthree : bits (s.reg (granuleEntry die g)) 0 3 = 3 := hk
  rw [← hlow, hthree]
  interval_cases i <;> rfl

end Sys2Proof.Machine
end

section
/-! PROOFS. Where the model cache finds room: free granules, compactions and demand loads (R183, R186, R190). -/

namespace Sys2Proof.Machine

/-! ### Room for a model -/

theorem modelInUse_of_noJobs {s : State} (hj : s.sched.jobs = []) (vi id : Nat) : s.modelInUse vi id = false := by
  simp [State.modelInUse, hj, storeKeys]

/-- A granule that is allotted to a VI, in a usable cluster, with neither model nor job nor buffer, is free. -/
theorem granFree_of_noJobs {s : State} {vi die g : Nat} (hj : s.sched.jobs = []) (ha : s.allotted vi die g = true)
    (hm : s.cache.models.any (fun p => p.2.covers die g) = false)
    (hb : allBuffers.all (fun p => !s.bufValid p.1 p.2) = true)
    (hc : bit (s.fget F.cfgCapsClusterMap_cluster_usable 4 0 0) (die * 8 + g / 16) = true) :
    s.granFree vi die g = true := by
  have hregion : s.regionHolder die g = none := by simp [State.regionHolder, hj, storeKeys]
  have hbuffer : s.holdsBuffer die g = false := by
    refine List.any_eq_false.2 fun p hp => ?_
    have hvalid : s.bufValid p.1 p.2 = false := by simpa using List.all_eq_true.1 hb p hp
    simp [hvalid]
  simp [State.granFree, ha, hm, hc, hregion, hbuffer]

/-- A run of n numbers behind one that is free begins at the free one. -/
theorem findRun_behind {q n : Nat} (hn : 0 < n) (hq : q < 64) :
    findRun ([q] ++ (List.range n).map (· + (q + 1))) n 64 = some q := by
  unfold findRun
  rw [List.find?_range_eq_some]
  refine ⟨?_, List.mem_range.2 hq, fun p hp => ?_⟩
  · simp only [List.all_eq_true, List.mem_range, List.contains_iff_mem, List.mem_append, List.mem_singleton,
      List.mem_map]
    intro i hi
    rcases i.eq_zero_or_pos with rfl | hi'
    · exact .inl rfl
    · exact .inr ⟨i - 1, by omega, by omega⟩
  · simp only [Bool.not_eq_true', List.all_eq_false, List.mem_range]
    refine ⟨0, hn, ?_⟩
    have hbehind : ∀ x < n, x + (q + 1) ≠ p := fun x _ => by omega
    simpa using ⟨hp.ne, hbehind⟩

/-- A fold over numbers of which one alone changes the state. -/
theorem foldl_range_of_once {f : State → Nat → State} {s t : State} {k n : Nat} (hk : k < n)
    (hbefore : ∀ p < k, f s p = s) (hat : f s k = t) (hbehind : ∀ p, k < p → f t p = t) :
    (List.range n).foldl f s = t := by
  have hsteps (n : Nat) : (List.range n).foldl f s = if k < n then t else s := by
    induction n with
    | zero => rfl
    | succ n ih =>
      rw [List.range_succ, List.foldl_append, ih, List.foldl_cons, List.foldl_nil]
      rcases lt_trichotomy k n with h | rfl | h
      · rw [if_pos h, if_pos (by omega), hbehind n h]
      · rw [if_neg (lt_irrefl _), if_pos (by omega), hat]
      · rw [if_neg (by omega), if_neg (by omega), hbefore n h]
  rw [hsteps, if_pos hk]

/-- Whether a model lies on a die from a cache granule on, so that a compaction for a VI may move it. -/
def State.movable (s : State) (vi die p : Nat) (q : Nat × Model) : Bool :=
  q.1 / 64 == vi && q.2.die == die && q.2.state == .resident && q.2.base == some (2 * p) && !s.modelInUse vi (q.1 % 64)

/-- What a compaction does at one cache granule. -/
def State.compactAt (s : State) (vi die p : Nat) : State :=
  match s.cache.models.find? (s.movable vi die p) with
  | none => s
  | some q =>
    let n := modelPairs q.2.length
    match findRun (s.freePairs vi die ++ (List.range n).map (· + p)) n 64 with
    | none => s
    | some t => if t < p then s.moveModel vi (q.1 % 64) t else s

theorem State.compact_eq (s : State) (vi die : Nat) :
    s.compact vi die = (List.range 64).foldl (fun s p => s.compactAt vi die p) s := by
  obtain ⟨pairs, hp⟩ := exists_eq (a' := modelPairs)
  unfold State.compact State.compactAt
  rw [← hp]
  rfl

theorem State.compactAt_of_none {s : State} {vi die p : Nat} (h : s.cache.models.find? (s.movable vi die p) = none) :
    s.compactAt vi die p = s := by
  rw [State.compactAt, h]

theorem State.compactAt_of_run {s : State} {vi die p n t : Nat} {q : Nat × Model}
    (h : s.cache.models.find? (s.movable vi die p) = some q) (hn : modelPairs q.2.length = n)
    (hr : findRun (s.freePairs vi die ++ (List.range n).map (· + p)) n 64 = some t) (ht : t < p) :
    s.compactAt vi die p = s.moveModel vi (q.1 % 64) t := by
  obtain ⟨pairs, hp⟩ := exists_eq (a' := modelPairs)
  unfold State.compactAt
  rw [← hp] at hn ⊢
  rw [h]
  dsimp only
  rw [hn, hr]
  exact if_pos ht

theorem movable_of_noJobs {s : State} (hj : s.sched.jobs = []) (vi die p : Nat) (q : Nat × Model) :
    s.movable vi die p q =
      (q.1 / 64 == vi && q.2.die == die && q.2.state == .resident && q.2.base == some (2 * p)) := by
  simp [State.movable, modelInUse_of_noJobs hj]

theorem State.compactAt_of_base {s : State} {p : Nat} (h : ∀ q ∈ s.cache.models, q.2.base ≠ some (2 * p))
    (vi die : Nat) : s.compactAt vi die p = s := by
  refine State.compactAt_of_none (List.find?_eq_none.2 fun q hq => ?_)
  simp [State.movable, h q hq]

theorem State.demandModel_of_room {s t : State} {vi id p : Nat} {m : Model} (cls : Nat) (hm : s.model? vi id = some m)
    (ha : m.state = .absent) (hf : s.firmwareStarts m.die = true)
    (hr : s.makeRoom vi m.die (modelPairs m.length) 130 = some (t, p)) :
    s.demandModel vi id cls = t.startLoad vi id p cls .loading := by
  obtain ⟨pairs, hp⟩ := exists_eq (a' := modelPairs)
  unfold State.demandModel
  rw [← hp] at hr ⊢
  rw [hm]
  dsimp only
  rw [hf, ha, hr]
  rfl

/-- A load that starts shows in the model's state. -/
theorem State.startLoad_model {s : State} {vi id : Nat} {m : Model} (pair cls : Nat) (st : ModelState)
    (hm : s.model? vi id = some m) : (s.startLoad vi id pair cls st).model? vi id =
      some { m with state := st, base := some (2 * pair), loadClass := cls } := by
  obtain ⟨pairs, hp⟩ := exists_eq (a' := modelPairs)
  unfold State.startLoad
  rw [← hp, hm]
  exact storeFind_put_same _ _ _

/-- A pinned model that is absent and finds room is loaded. -/
theorem State.repin_of_load {s : State} {key : Nat} {m : Model} (c : Nat)
    (hm : s.model? (key / 64) (key % 64) = some m) (hpin : m.pinned = true) (ha : m.state = .absent)
    (hf : s.firmwareStarts m.die = true)
    (hl : ((s.demandModel (key / 64) (key % 64) m.loadClass).model? (key / 64) (key % 64)).any
      (fun n => n.state == .loading) = true) :
    s.repin key c = s.demandModel (key / 64) (key % 64) m.loadClass := by
  unfold State.repin
  simp only [hm, hpin, ha, hf, hl, Bool.not_true, bne_self_eq_false, Bool.or_self, Bool.false_eq_true, if_false,
    if_true]

end Sys2Proof.Machine
end

section
/-! PROOFS. Engines that leave service with their island (R30, R41, R190). -/

namespace Sys2Proof.Machine

/-- The capability table without an engine, before its cluster's models are looked at. -/
def State.capsWithout (s : State) (te : Nat) : State :=
  let m := setBit (s.fget F.cfgCapsEngineMap_engine_usable 4 0 0) te false
  let s := s.fset F.cfgCapsEngineMap_engine_usable 4 0 0 m
  let s := s.fset F.cfgCapsCounts_engines 4 0 0 (popcount m 64)
  let cm := setBit (s.fget F.cfgCapsClusterMap_cluster_usable 4 0 0) (te / 2)
    (bit m (2 * (te / 2)) || bit m (2 * (te / 2) + 1))
  let s := s.fset F.cfgCapsClusterMap_cluster_usable 4 0 0 cm
  ((s.fset F.cfgCapsCounts_clusters 4 0 0 (popcount cm 32)).capsChanged te).countPending

/-- An engine that was its cluster's last one in service takes the cluster's models with it (R190). -/
theorem State.setUsable_of_last {s : State} {te : Nat} (hu : s.engineUsable te = true)
    (hc : (let m := setBit (s.fget F.cfgCapsEngineMap_engine_usable 4 0 0) te false
      let v := (s.fset F.cfgCapsEngineMap_engine_usable 4 0 0 m).fset F.cfgCapsCounts_engines 4 0 0 (popcount m 64)
      let was := v.fget F.cfgCapsClusterMap_cluster_usable 4 0 0
      bit was (te / 2) && !bit (setBit was (te / 2) (bit m (2 * (te / 2)) || bit m (2 * (te / 2) + 1))) (te / 2))
        = true) :
    s.setUsable te false = (s.capsWithout te).clusterLost (te / 2) :=
  (if_neg (by simp [hu])).trans (if_pos hc)

/-- An engine out of service with its island. -/
def State.outForMargin (s : State) (te : Nat) : State :=
  let s := (s.fset F.gftEng_state 4 0 te gfMargin).setTeStat te tsOut
  s.setGft te { s.gftOf te with marginPasses := 0 }

/-- An idle engine that runs no test and serves no partition leaves service with its island. -/
theorem State.marginEngine_of_idle {s : State} {te : Nat} (ht : s.testing te = false) (hf : s.teFree te = true)
    (hp : s.partitionsOf te = []) (hs : s.gftState te = gfIn) (hu : s.engineUsable te = true) :
    s.marginEngine te = ((s.setUsable te false).rtEngineLost te).outForMargin te := by
  have hin : ¬ (gfIn = gfQuarantine ∨ gfIn = gfRetired ∨ gfIn = gfAbsent) := by decide
  unfold State.marginEngine
  simp only [ht, hf, hp, hs, hu, hin, Bool.false_eq_true, if_true, if_false, List.foldl_nil]
  rfl

theorem State.setGft_reg (s : State) (te : Nat) (x : GftEngine) (a : Nat) : (s.setGft te x).reg a = s.reg a := rfl

/-- The table of usable engines stays as an engine goes out of service. -/
theorem State.outForMargin_usable (s : State) (te k : Nat) : (s.outForMargin te).engineUsable k = s.engineUsable k := by
  have hstatus : fldAddr F.cfgCapsEngineMap_engine_usable 4 0 0 ≠ fldAddr F.teStatus_state (te / 16) (te % 16) 0 := by
    simp only [fldAddr, regBase, F.cfgCapsEngineMap_engine_usable, F.teStatus_state]
    omega
  have hmap : (s.outForMargin te).reg (fldAddr F.cfgCapsEngineMap_engine_usable 4 0 0)
      = s.reg (fldAddr F.cfgCapsEngineMap_engine_usable 4 0 0) := by
    unfold State.outForMargin State.setTeStat
    rw [State.setGft_reg, State.reg_fset_other _ _ _ _ _ _ hstatus,
      State.reg_fset_other _ _ _ _ _ _ (fldAddr_ne_of_apart _ _ rfl)]
  rw [State.engineUsable, State.engineUsable, State.fget, State.fget, hmap]

theorem State.rtEngineLost_of_shared {s : State} {te : Nat} (hp : s.partitionsOf te = []) : s.rtEngineLost te = s := by
  rw [State.rtEngineLost, hp, List.foldl_nil]

/-- The state in which an island's lost margin is recorded, the island frozen and what it touched discarded. -/
def State.marginRecorded (s : State) (die island : Nat) : State :=
  let s := s.newEvent.raiseRec { recOf E.marginLost die 0x01 island with
    detail := die + island * 2 ^ 8 + s.isl F.pwrIsl_setpoint die island * 2 ^ 16 }
  let k := die * 16 + island
  let s := { s with power := { s.power with
    frozen := if s.power.frozen.contains k then s.power.frozen else s.power.frozen ++ [k] } }
  (s.failAndReport die (s.islandTouched die island)).settleAll

/-- A lost margin of a compute island takes both of its engines out of service (R41). -/
theorem exec_marginLost_compute (s : State) {die island : Nat} (hd : die < 4) (hi : island < 8) :
    exec (.marginLost die island) s = .next (((s.marginRecorded die island).marginEngine
      (die * 16 + 2 * island)).marginEngine (die * 16 + 2 * island + 1)) := by
  have hcompute : ¬ (4 ≤ die ∨ 8 ≤ island) := by omega
  change execMarginLost die island s = _
  unfold execMarginLost
  simp only [if_pos hd, if_neg hcompute]
  rfl

end Sys2Proof.Machine
end

section
/-! PROOFS. A lost margin beside a model that is longer than a scratchpad (R41, R183, R190). -/

namespace Sys2Proof.Machine

/-- A pinned model of 4 MiB in the first granules of cluster 0. -/
def pinnedModel : Model :=
  { source := 0, length := 0x400000, die := 0, crcTable := 0, state := .resident, pinned := true, base := some 0 }

/-- A model of 20 GiB, from the second cache granule of cluster 1 on. -/
def overlongModel : Model :=
  { source := 0, length := 0x500000000, die := 0, crcTable := 0, state := .resident, base := some 18 }

/-- A device whose VI 0 has both models, the granules of the pinned one, and one cache granule below the long one.
Engine 1 and clusters 0 and 1 are in service, engine 0 is not. -/
def overlongState : State :=
  let s := State.reset.fset F.schCtrl_fw_attached 4 0 0 1
  let s := s.fset F.cfgCapsEngineMap_engine_usable 4 0 0 2
  let s := s.fset F.cfgCapsClusterMap_cluster_usable 4 0 0 3
  let s := [0, 1, 2, 3, 16, 17].foldl (fun s g => s.fset F.spmGranuleN_kind 0 (granReg g) 0 3) s
  { s with cache := { models := [(0, pinnedModel), (1, overlongModel)] } }

/-- The state before engine 1 leaves service: island 0 of die 0 has lost its margin, and engine 0 is out. -/
def beforeEngine1 : State := (overlongState.marginRecorded 0 0).marginEngine 0

/-- The state before cluster 0's models are loaded elsewhere: no engine of it is in service, and the pinned model is
absent. -/
def beforeRepin : State := (beforeEngine1.capsWithout 1).dropModel 0 0

/-- The long model moved down by one cache granule. -/
def afterMove : State := beforeRepin.moveModel 0 1 8

theorem beforeRepin_models : beforeRepin.cache.models =
    [(0, { pinnedModel with state := .absent, base := none }), (1, overlongModel)] := by decide +kernel

theorem beforeRepin_jobs : beforeRepin.sched.jobs = [] := by decide +kernel

theorem beforeRepin_freePairs : beforeRepin.freePairs 0 0 = [8] := by decide +kernel

theorem beforeRepin_buffers : allBuffers.all (fun p => !beforeRepin.bufValid p.1 p.2) = true := by decide +kernel

theorem beforeRepin_allotted : ∀ g < 4, beforeRepin.allotted 0 0 g = true := by decide +kernel

theorem beforeRepin_starts : beforeRepin.firmwareStarts 0 = true := by decide +kernel

theorem beforeRepin_shared : beforeRepin.partitionsOf 1 = [] := by decide +kernel

theorem beforeEngine1_untested : beforeEngine1.testing 1 = false := by decide +kernel

theorem beforeEngine1_free : beforeEngine1.teFree 1 = true := by decide +kernel

theorem beforeEngine1_shared : beforeEngine1.partitionsOf 1 = [] := by decide +kernel

theorem beforeEngine1_in : beforeEngine1.gftState 1 = gfIn := by decide +kernel

theorem beforeEngine1_usable : beforeEngine1.engineUsable 1 = true := by decide +kernel

/-! ### The move of the long model -/

theorem beforeRepin_long : beforeRepin.model? 0 1 = some overlongModel := by
  rw [State.model?, beforeRepin_models]
  rfl

theorem overlong_pairs : modelPairs overlongModel.length = 10240 := by
  simp [modelPairs, overlongModel]

theorem afterMove_models : afterMove.cache.models =
    [(0, { pinnedModel with state := .absent, base := none }), (1, { overlongModel with base := some 16 })] := by
  rw [afterMove, State.moveModel_models 8 beforeRepin_long rfl, beforeRepin_models]
  rfl

theorem afterMove_jobs : afterMove.sched.jobs = [] := by
  rw [afterMove, State.moveModel_sched 8 beforeRepin_long rfl, beforeRepin_jobs]

theorem afterMove_reg {a : Nat} (hg : ∀ g, 16 ≤ g → a ≠ granuleEntry 0 g)
    (hu : ∀ v, a ≠ fldAddr F.viUse_granules 4 0 v) : afterMove.reg a = beforeRepin.reg a := by
  rw [afterMove, State.moveModel_reg 8 beforeRepin_long rfl]
  exact State.takeGranules_reg _ _ _ _ _ (fun i _ => hg _ (by omega)) hu

theorem afterMove_granKind {g : Nat} (hlo : 16 ≤ g) (hhi : g < 20496) : afterMove.granKind 0 (granReg g) = 3 := by
  have hkind := beforeRepin.takeGranules_granKind 0 0 (2 * 8)
    (show g - 16 < modelPairs overlongModel.length * 2 by rw [overlong_pairs]; omega)
  rw [show 2 * 8 + (g - 16) = g by omega] at hkind
  rw [State.granKind, State.fget, afterMove, State.moveModel_reg 8 beforeRepin_long rfl]
  exact hkind

/-- The maps of usable engines and of usable clusters stand where the owner entries of granules 16 770 and 16 771 of
die 0 would. -/
theorem granuleEntry_engineMap : granuleEntry 0 16770 = fldAddr F.cfgCapsEngineMap_engine_usable 4 0 0 := by decide

theorem granuleEntry_clusterMap : granuleEntry 0 16771 = fldAddr F.cfgCapsClusterMap_cluster_usable 4 0 0 := by decide

theorem afterMove_clusterMap : bit (afterMove.fget F.cfgCapsClusterMap_cluster_usable 4 0 0) 0 = true := by
  rw [State.fget, ← granuleEntry_clusterMap]
  exact (bit_bits _ (by decide)).trans
    (bit_reg_of_granKind (afterMove_granKind (by decide) (by decide)) (by decide))

theorem afterMove_engineMap : bit (afterMove.reg (fldAddr F.cfgCapsEngineMap_engine_usable 4 0 0)) 1 = true := by
  rw [← granuleEntry_engineMap]
  exact bit_reg_of_granKind (afterMove_granKind (by decide) (by decide)) (by decide)

theorem afterMove_reg_high {a : Nat} (ha : 0x200 ≤ a % 0x10000) : afterMove.reg a = beforeRepin.reg a :=
  afterMove_reg (fun _ _ => ne_granuleEntry_of_high ha _ _) (ne_viUse_of_high ha)

theorem afterMove_buffers : allBuffers.all (fun p => !afterMove.bufValid p.1 p.2) = true := by
  refine List.all_eq_true.2 fun p hp => ?_
  have hvalid : afterMove.bufValid p.1 p.2 = beforeRepin.bufValid p.1 p.2 := by
    have hb : p.2 < 256 := by
      simp only [allBuffers, List.mem_flatten, List.mem_map, List.mem_range] at hp
      obtain ⟨_, ⟨d, -, rfl⟩, b⟩ := hp
      obtain ⟨b, hb, rfl⟩ := List.mem_map.1 b
      exact List.mem_range.1 hb
    have hhigh : 0x200 ≤ fldAddr F.cgBufCtrl_valid p.1 p.2 0 % 0x10000 := by
      simp only [fldAddr, regBase, F.cgBufCtrl_valid]
      omega
    rw [State.bufValid, State.bufValid, State.fon, State.fon, State.fget, State.fget, afterMove_reg_high hhigh]
  rw [hvalid]
  exact List.all_eq_true.1 beforeRepin_buffers p hp

theorem afterMove_allotted {g : Nat} (hg : g < 4) : afterMove.allotted 0 0 g = true := by
  have hreg : afterMove.reg (granuleEntry 0 g) = beforeRepin.reg (granuleEntry 0 g) :=
    afterMove_reg (fun k hk h => by have := granuleEntry_inj h; omega) (granuleEntry_ne_viUse 0 g)
  have hvi : afterMove.reg (fldAddr F.spmGranuleN_vi 0 (granReg g) 0)
      = beforeRepin.reg (fldAddr F.spmGranuleN_vi 0 (granReg g) 0) := hreg
  rw [granuleEntry] at hreg
  have hbefore := beforeRepin_allotted g hg
  simp only [State.allotted, State.granKind, State.granVi, State.fget] at hbefore ⊢
  rw [hreg, hvi]
  exact hbefore

/-- The move has put cluster 0 back into the table: its granules are free for the pinned model. -/
theorem afterMove_granFree {g : Nat} (hg : g < 4) : afterMove.granFree 0 0 g = true := by
  refine granFree_of_noJobs afterMove_jobs (afterMove_allotted hg) ?_ afterMove_buffers ?_
  · have hcovers : ∀ g < 4, [(0, { pinnedModel with state := .absent, base := none }),
        (1, { overlongModel with base := some 16 })].any (fun p => p.2.covers 0 g) = false := by decide
    rw [afterMove_models, hcovers g hg]
  · rw [Nat.div_eq_of_lt (by omega)]
    exact afterMove_clusterMap

theorem mem_freePairs_afterMove {p : Nat} (hp : p < 2) : p ∈ afterMove.freePairs 0 0 := by
  refine List.mem_filter.2 ⟨List.mem_range.2 (by omega), ?_⟩
  rw [afterMove_granFree (by omega), afterMove_granFree (by omega)]
  rfl

theorem afterMove_run : ∃ p < 64, findRun (afterMove.freePairs 0 0) 2 64 = some p := by
  have hrun : (findRun (afterMove.freePairs 0 0) 2 64).isSome = true := by
    refine List.find?_isSome.2 ⟨0, by simp, ?_⟩
    simp only [List.all_eq_true, List.mem_range, Nat.zero_add, List.contains_iff_mem]
    exact fun i hi => mem_freePairs_afterMove hi
  obtain ⟨p, hp⟩ := Option.isSome_iff_exists.1 hrun
  exact ⟨p, List.mem_range.1 (List.mem_of_find?_eq_some hp), hp⟩

/-- The compaction for the pinned model moves the long one, and nothing else. -/
theorem compact_beforeRepin : beforeRepin.compact 0 0 = afterMove := by
  have hrun : findRun (beforeRepin.freePairs 0 0 ++ (List.range 10240).map (· + 9)) 10240 64 = some 8 := by
    rw [beforeRepin_freePairs]
    exact findRun_behind (by decide) (by decide)
  have hfind : beforeRepin.cache.models.find? (beforeRepin.movable 0 0 9) = some (1, overlongModel) := by
    simp only [funext (movable_of_noJobs beforeRepin_jobs 0 0 9), beforeRepin_models]
    decide
  rw [State.compact_eq]
  refine foldl_range_of_once (k := 9) (show 9 < 64 by decide) (fun p hp => ?ahead) ?moves (fun p hp => ?behind)
  case ahead =>
    refine State.compactAt_of_base ?_ 0 0
    rw [beforeRepin_models]
    refine List.forall_mem_cons.2 ⟨nofun, List.forall_mem_singleton.2 fun h => ?_⟩
    have hbase : 18 = 2 * p := Option.some.inj h
    omega
  case moves => exact State.compactAt_of_run (q := (1, overlongModel)) hfind overlong_pairs hrun (by decide)
  case behind =>
    refine State.compactAt_of_base ?_ 0 0
    rw [afterMove_models]
    refine List.forall_mem_cons.2 ⟨nofun, List.forall_mem_singleton.2 fun h => ?_⟩
    have hbase : 16 = 2 * p := Option.some.inj h
    omega

theorem runOf_beforeRepin : ∃ p < 64, beforeRepin.runOf 0 0 2 = some (afterMove, p) := by
  obtain ⟨p, hp, hrun⟩ := afterMove_run
  refine ⟨p, hp, ?_⟩
  have hnone : findRun (beforeRepin.freePairs 0 0) 2 64 = none := by
    rw [beforeRepin_freePairs]
    decide
  rw [State.runOf, hnone]
  dsimp only
  rw [compact_beforeRepin, hrun]
  rfl

theorem pinned_pairs : modelPairs pinnedModel.length = 2 := by
  simp [modelPairs, pinnedModel]

theorem beforeRepin_pinned :
    beforeRepin.model? 0 0 = some { pinnedModel with state := .absent, base := none } := by
  rw [State.model?, beforeRepin_models]
  rfl

theorem afterMove_pinned :
    afterMove.model? 0 0 = some { pinnedModel with state := .absent, base := none } := by
  rw [State.model?, afterMove_models]
  rfl

/-- The pinned model is loaded behind the move of the long one. -/
theorem repin_beforeRepin : ∃ p < 64,
    beforeRepin.repin 0 0 = afterMove.startLoad 0 0 p pinnedModel.loadClass .loading := by
  obtain ⟨p, hp, hrun⟩ := runOf_beforeRepin
  have hroom : beforeRepin.makeRoom 0 0 2 130 = some (afterMove, p) := by rw [State.makeRoom, hrun]
  have hdemand := State.demandModel_of_room pinnedModel.loadClass beforeRepin_pinned rfl beforeRepin_starts
    ((congrArg (beforeRepin.makeRoom 0 0 · 130) pinned_pairs).trans hroom)
  have hload : ((beforeRepin.demandModel 0 0 pinnedModel.loadClass).model? 0 0).any (fun n => n.state == .loading)
      = true := by
    rw [hdemand, State.startLoad_model _ _ _ afterMove_pinned]
    rfl
  have hrepin := State.repin_of_load (s := beforeRepin) (key := 0)
    (m := { pinnedModel with state := .absent, base := none }) 0
  rw [Nat.zero_div, Nat.zero_mod] at hrepin
  exact ⟨p, hp, (hrepin beforeRepin_pinned rfl rfl beforeRepin_starts hload).trans hdemand⟩

/-- The load of the pinned model takes granules of the scratchpad, and leaves every other register as it was. -/
theorem repin_beforeRepin_reg {a : Nat} (hg : ∀ g < 130, a ≠ granuleEntry 0 g)
    (hu : ∀ v, a ≠ fldAddr F.viUse_granules 4 0 v) : (beforeRepin.repin 0 0).reg a = afterMove.reg a := by
  obtain ⟨p, hp, hload⟩ := repin_beforeRepin
  rw [hload]
  refine State.startLoad_reg _ _ _ _ _ _ (fun m hm i hi => ?_) hu
  obtain rfl := Option.some.inj (afterMove_pinned.symm.trans hm)
  have hi : i < modelPairs pinnedModel.length * 2 := hi
  rw [pinned_pairs] at hi
  exact hg _ (by omega)

/-! ### The lost margin -/

theorem clusterLost_beforeRepin : (beforeEngine1.capsWithout 1).clusterLost 0 = beforeRepin.repin 0 0 := by
  have hmodels : (beforeEngine1.capsWithout 1).cache.models = [(0, pinnedModel), (1, overlongModel)] := by
    decide +kernel
  have hhit : [(0, pinnedModel), (1, overlongModel)].filter (fun p => (List.range 16).any
      (fun i => p.2.covers (0 / 8) (0 % 8 * 16 + i))) = [(0, pinnedModel)] := by decide
  unfold State.clusterLost
  dsimp only
  rw [hmodels, hhit, List.foldl_cons, List.foldl_nil, Nat.zero_div, Nat.zero_mod, beforeRepin]

theorem setUsable_beforeEngine1 : beforeEngine1.setUsable 1 false = beforeRepin.repin 0 0 :=
  (State.setUsable_of_last beforeEngine1_usable (by decide +kernel)).trans clusterLost_beforeRepin

theorem partitionsOf_repin : (beforeRepin.repin 0 0).partitionsOf 1 = [] := by
  rw [← beforeRepin_shared, State.partitionsOf, State.partitionsOf]
  refine List.filter_congr fun p hp => ?_
  have hp : p < 64 := List.mem_range.1 hp
  have hhigh : 0x200 ≤ fldAddr F.schRtEngines_engines 4 p 0 % 0x10000 := by
    simp only [fldAddr, regBase, F.schRtEngines_engines]
    omega
  rw [State.fget, State.fget, repin_beforeRepin_reg (fun _ _ => ne_granuleEntry_of_high hhigh _ _)
    (ne_viUse_of_high hhigh), afterMove_reg_high hhigh]

/-- Engine 1 is usable again when it has left service: the long model's granules lie over the capability table. -/
theorem engineUsable_after : (beforeEngine1.marginEngine 1).engineUsable 1 = true := by
  have hentry : ∀ g < 130, fldAddr F.cfgCapsEngineMap_engine_usable 4 0 0 ≠ granuleEntry 0 g := by
    rw [← granuleEntry_engineMap]
    exact fun g hg h => by have := granuleEntry_inj h; omega
  have hreg := repin_beforeRepin_reg hentry fun v => fldAddr_ne_of_apart 0 v (by decide)
  rw [State.marginEngine_of_idle beforeEngine1_untested beforeEngine1_free beforeEngine1_shared beforeEngine1_in
    beforeEngine1_usable, State.outForMargin_usable, setUsable_beforeEngine1,
    State.rtEngineLost_of_shared partitionsOf_repin, State.engineUsable, State.fget, hreg]
  exact (bit_bits _ (by decide)).trans afterMove_engineMap

/-- Refutes O5: its clause of marginLost asks nothing of the model cache, whose models the state does not keep within a
scratchpad. Where the lost cluster's pinned model finds room by moving a model of 20 GiB down, the owner entries of the
granules that the long model takes run through the registers of the dies that follow, and put the engine that was just
taken out back into the capability table. -/
theorem not_droopAndMarginCommandsComplete : ¬ Obligations.DroopAndMarginCommandsComplete := by
  unfold Obligations.DroopAndMarginCommandsComplete
  rintro ⟨-, -, marginLost, -⟩
  obtain ⟨t, hexec, -, -, hout⟩ := marginLost overlongState 0 0 (by decide) (by decide) (.inl (by decide))
    (.inl (by decide))
  rw [exec_marginLost_compute _ (by decide) (by decide), Host.Outcome.next.injEq] at hexec
  rw [← hexec] at hout
  exact absurd engineUsable_after (by rw [show (beforeEngine1.marginEngine 1).engineUsable 1 = false from hout]; decide)

end Sys2Proof.Machine
end

section
/-! PROOFS. What flash never gives back over a step (R57, R58, R78, R544). -/

namespace Sys2Proof.Machine

/-- Pages that stay sealed give a lifecycle state that does not fall. -/
theorem FlashState.Grows.lifecycle_le {f g : FlashState} (h : f.Grows g) : f.lifecycle ≤ g.lifecycle := by
  cases h4 : bit f.sealedPages 4 with
  | true => simp [FlashState.lifecycle, h4, h.sealedPages 4 h4]
  | false =>
    cases h3 : bit f.sealedPages 3 with
    | true =>
      have hf : f.lifecycle = lcProd := by simp [FlashState.lifecycle, h4, h3]
      rw [hf, FlashState.lifecycle, if_pos (h.sealedPages 3 h3)]
      split <;> decide
    | false =>
      cases h2 : bit f.sealedPages 2 with
      | true =>
        have hf : f.lifecycle = lcDev := by simp [FlashState.lifecycle, h4, h3, h2]
        rw [hf, FlashState.lifecycle, if_pos (h.sealedPages 2 h2)]
        split_ifs <;> decide
      | false => simp [FlashState.lifecycle, h4, h3, h2, lcBlank]

/-- A step's flash grows: a period of time does not touch it, and neither does taking a command off the queue. -/
theorem flash_grows_of_step {s t : State} (e : step s = .next t) : s.flash.Grows t.flash := by
  unfold step at e
  split at e
  · cases e
    exact (State.Keeps.refl s).tick.flash
  · next c rest _ =>
    obtain ⟨u, hu, hkeeps⟩ := exec_keeps c { s with pending := rest }
    rw [hu] at e
    cases e
    exact hkeeps.flash

/-- Settles O60: each function that a command is made of lets flash only grow. -/
theorem flashNeverGoesBack : Obligations.FlashNeverGoesBack := by
  unfold Obligations.FlashNeverGoesBack
  intro s t e
  have h := flash_grows_of_step e
  exact ⟨h.sealedPages, h.lifecycle_le, h.unitId, h.oemRoot, h.floor, h.fwFloor⟩

end Sys2Proof.Machine
end

section
/-! PROOFS. A read of the flash by the loader (R56, R82), and a program that is longer than a bank. -/

namespace Sys2Proof.Machine

/-! ### Reads that no registered buffer, no job and no storage fault stands in the way of -/

/-- Whether no gate has a registered buffer and no job is on the books. -/
def State.ungated (s : State) : Prop := (∀ p ∈ allBuffers, s.bufValid p.1 p.2 = false) ∧ s.sched.jobs = []

theorem State.ungated.publicAt {s : State} (h : s.ungated) (addr : Nat) : s.publicAt addr = none :=
  List.find?_eq_none.2 fun p hp => by simp [h.1 p hp]

theorem State.ungated.shadowAt {s : State} (h : s.ungated) (addr : Nat) : s.shadowAt addr = none :=
  List.find?_eq_none.2 fun p hp => by simp [h.1 p hp]

theorem State.ungated.privateOwner {s : State} (h : s.ungated) (addr : Nat) : s.privateOwner addr = none := by
  rw [State.privateOwner, h.2]
  rfl

theorem State.ungated.gateVerdict {s : State} (h : s.ungated) (who : Initiator) (write : Bool) (addr : Nat) :
    s.gateVerdict who write addr = .pass := by
  simp [State.gateVerdict, h.shadowAt, h.publicAt, h.privateOwner]

theorem State.ungated.gateVerdicts {s : State} (h : s.ungated) (who : Initiator) (write : Bool) (addr n : Nat) :
    s.gateVerdicts who write addr n = .pass := by
  rw [State.gateVerdicts, List.find?_eq_none.2]
  · rfl
  · intro v hv
    obtain ⟨a, -, rfl⟩ := List.mem_map.1 hv
    simp [h.gateVerdict]

theorem placeOf_flash {a : Nat} (hlo : 0x6000000000 ≤ a) (hhi : a < 0x6080000000) : placeOf a = .flash := by
  rw [placeOf, if_neg (by omega), if_neg (by omega), if_neg (by omega), if_pos ⟨hlo, hhi⟩]

/-- What lies in the flash behind the vault's store is not kept from the normal world (R391). -/
theorem State.worldRefuses_flash (s : State) {a n : Nat} (ha : placeOf a = .flash) (hz : placeOf (a + n - 1) = .flash)
    (hlo : 0x6001000000 ≤ a) (hhi : a < 0x6080000000) : s.worldRefuses false a n = false := by
  have hbelow {x : Nat} (hx : placeOf x = .flash) : s.belowMark x = false := by
    simp [State.belowMark, State.markPlace, hx]
  have hsec : ¬ regBase 4 + 0x180000 ≤ a := by simp only [regBase]; omega
  have hvault : ¬ a < 0x6001000000 := by omega
  simp [State.worldRefuses, hbelow ha, hbelow hz, ha, hsec, hvault]

/-- The loader reads the flash behind the vault's store where the gate has no say (R23, R391). -/
theorem State.ungated.checkAccess_loader_flash {s : State} {a n : Nat} (h : s.ungated) (hlo : 0x6001000000 ≤ a)
    (hn : 0 < n) (hhi : a + n ≤ 0x6080000000) : s.checkAccess .loader false a n = .pass := by
  have ha : placeOf a = .flash := placeOf_flash (by omega) (by omega)
  have hz : placeOf (a + n - 1) = .flash := placeOf_flash (by omega) (by omega)
  have hworld : s.worldRefuses (s.secureAccess .loader) a n = false := s.worldRefuses_flash ha hz hlo (by omega)
  have hmoving {x : Nat} (hx : placeOf x = .flash) : s.isMoving x = false := by
    simp [State.isMoving, State.markPlace, hx]
  have hmap {x : Nat} (hx : placeOf x = .flash) : s.mapAllows .loader false x = true := by
    simp [State.mapAllows, Initiator.isChamois, hx]
  simp [State.checkAccess, hworld, hmoving ha, hmoving hz, State.goldenRefuses, State.vaultJobStrays, hmap ha, hmap hz,
    h.gateVerdicts, ha]

/-- Whether no storage fault waits anywhere. -/
def State.faultless (s : State) : Prop :=
  (s.poisonWords = [] ∧ s.hardWords = [] ∧ s.softWords = []) ∧
    (s.poisonLines = [] ∧ s.hardLines = [] ∧ s.softLines = []) ∧ s.flash.unreadable = []

theorem State.faultless.poisoned {s : State} (h : s.faultless) (a n : Nat) : s.poisoned a n = false := by
  obtain ⟨⟨hpw, hhw, -⟩, ⟨hpl, hhl, -⟩, hf⟩ := h
  unfold State.poisoned
  split <;> simp [*, touches]

theorem State.faultless.correctSoft {s : State} (h : s.faultless) (a n : Nat) : s.correctSoft a n = s := by
  obtain ⟨⟨-, -, hsw⟩, ⟨-, -, hsl⟩, -⟩ := h
  unfold State.correctSoft
  split <;> simp [hsw, hsl, storeKeys]

theorem State.faultless.correctSteered {s : State} (h : s.faultless) (r : GateReader) (a n : Nat) :
    s.correctSteered r a n = s := by
  unfold State.correctSteered
  induction s.steeredPieces r a n with
  | nil => rfl
  | cons p l ih => rw [List.foldl_cons, h.correctSoft, ih]

theorem State.faultless.poisonOf {s : State} (h : s.faultless) (r : GateReader) (a n : Nat) :
    s.poisonOf r a n = none := List.find?_eq_none.2 fun p _ => by simp [h.poisoned]

/-- A read of the flash by the loader costs nothing and returns what the flash's window shows. -/
theorem fetchAs_loader_flash {s : State} {a n : Nat} (h : s.faultless) (hc : s.checkAccess .loader false a n = .pass)
    (hp : placeOf a = .flash) : s.fetchAs .loader a n = (s, some (s.flashBytes a n)) := by
  have hreader : s.readerOf .loader = .other := rfl
  simp only [State.fetchAs, hc, hreader, h.correctSteered, State.takeTokens, State.countLines, hp, h.poisonOf,
    State.noteRead, beq_self_eq_true, if_true]

theorem State.flashBytes_eq_map (s : State) (a n : Nat) :
    s.flashBytes a n = (List.range n).map fun i => s.flashByte (a + i) := by
  induction n generalizing a with
  | zero => rfl
  | succ n ih =>
    have hnext (i : Nat) : a + 1 + i = a + i.succ := Nat.succ_add_eq_add_succ a i
    simp only [State.flashBytes, ih, List.range_succ_eq_map, List.map_cons, List.map_map, Nat.add_zero, hnext,
      Function.comp_def]

theorem State.flashBytes_length (s : State) (a n : Nat) : (s.flashBytes a n).length = n := by
  simp [State.flashBytes_eq_map]

theorem State.flashBytes_getElem (s : State) (a n i : Nat) (h : i < (s.flashBytes a n).length) :
    (s.flashBytes a n)[i] = s.flashByte (a + i) := by
  simp [State.flashBytes_eq_map]

/-! ### A program that is longer than a bank -/

/-- The device programs 0x2001 sectors, one more than a bank has, from the payload area into bank A, while the first byte
of bank B is 1. -/
def overlongProgram : State :=
  { State.reset.fset F.cfgFlashCmd_busy 4 0 0 1 with
    mem := [(bankBase 1, 1)]
    boot := { programSource := payloadArea, programSectors := 0x2001 } }

/-- The same when bank A is erased. -/
def overlongErased : State := (overlongProgram.fset F.cfgFlashCmd_busy 4 0 0 0).scrub (bankBase 0) bankSize

theorem overlongErased_ungated : overlongErased.ungated := by
  have h : allBuffers.all (fun p => !overlongErased.bufValid p.1 p.2) = true := by decide +kernel
  exact ⟨fun p hp => by simpa using List.all_eq_true.1 h p hp, rfl⟩

theorem overlongErased_faultless : overlongErased.faultless := ⟨⟨rfl, rfl, rfl⟩, ⟨rfl, rfl, rfl⟩, rfl⟩

theorem overlongErased_source : overlongErased.flashByte (payloadArea + bankSize) = 0 := by decide

theorem overlongProgram_programBytes {n : Nat} (hn : n = 0x2001 * 0x10000) :
    overlongProgram.programBytes = (overlongErased, some (overlongErased.flashBytes payloadArea n)) := by
  have hpass : overlongErased.checkAccess .loader false payloadArea n = .pass :=
    overlongErased_ungated.checkAccess_loader_flash (by decide) (by omega) (by simp only [payloadArea]; omega)
  have haligned : overlongProgram.boot.programSource % 0x10000 = 0 := by decide
  have hsource : overlongProgram.boot.programSource = payloadArea := rfl
  have hsectors : overlongProgram.boot.programSectors * 0x10000 = n := hn.symm
  have herased : (overlongProgram.fset F.cfgFlashCmd_busy 4 0 0 0).scrub (bankBase overlongProgram.boot.programTarget)
      bankSize = overlongErased := rfl
  rw [State.programBytes, if_pos haligned, herased, hsectors, hsource]
  exact fetchAs_loader_flash overlongErased_faultless hpass (by decide)

/-- Refutes O3: its clause of a program that ends asks nothing of the number of sectors, which CFG_FLASH_CMD keeps within
a bank and the state does not. Where bank A is programmed with a sector more than it has, the clause wants the first
byte of bank B to be that of the source, 0, and to stay as it was, 1. -/
theorem not_bankCommandsComplete : ¬ Obligations.BankCommandsComplete := by
  unfold Obligations.BankCommandsComplete
  rintro ⟨-, -, -, -, programDone, -⟩
  obtain ⟨n, hn⟩ : ∃ n, n = 0x2001 * 0x10000 := ⟨_, rfl⟩
  have hdone := programDone overlongProgram (by decide) (by decide)
  rw [overlongProgram_programBytes hn] at hdone
  obtain ⟨t, -, -, ⟨-, hwritten⟩, hframe⟩ := hdone
  have hin : bankSize < (overlongErased.flashBytes payloadArea n).length := by
    rw [State.flashBytes_length, hn]
    decide
  have hkept : t.byteAt (bankBase 0 + bankSize) = 1 := hframe _ (.inr le_rfl)
  have hsource : t.byteAt (bankBase 0 + bankSize) = overlongErased.flashByte (payloadArea + bankSize) :=
    (hwritten bankSize hin).trans (State.flashBytes_getElem _ _ _ _ hin)
  rw [hkept, overlongErased_source] at hsource
  exact absurd hsource (by decide)

end Sys2Proof.Machine
end

section
/-! PROOFS. An instruction of a tensor engine that completes in sequence (R121, R124): what its end changes, and which
effects leave its place in the program alone. -/

namespace Sys2Proof.Machine

/-! ### Fields of one unit's registers -/

/-- Whether setting field f leaves field g of the same unit: it stands in another register, or beside f. -/
def Fld.spares (f g : Fld) : Bool :=
  f.stride == g.stride && (f.off != g.off || (g.lo + g.w ≤ 64 && (g.lo + g.w ≤ f.lo || f.lo + f.w ≤ g.lo)))

theorem State.fget_fset_spared (s : State) {f g : Fld} (d i u v : Nat) (h : f.spares g = true) :
    (s.fset f d i u v).fget g d i u = s.fget g d i u := by
  simp only [Fld.spares, Bool.and_eq_true, Bool.or_eq_true, beq_iff_eq, bne_iff_ne, decide_eq_true_eq] at h
  obtain ⟨hstride, hspares⟩ := h
  by_cases hoff : f.off = g.off
  · obtain ⟨hfits, hbeside⟩ := hspares.resolve_left (not_not_intro hoff)
    exact State.fget_fset_beside _ _ _ _ _ _ _ _ _ _ (by simp [fldAddr, hstride, hoff]) hfits hbeside
  · refine State.fget_fset_other _ _ _ _ _ _ _ _ _ _ ?_
    simp only [fldAddr, hstride]
    omega

/-! ### An engine's own state -/

@[simp] theorem State.eng_setEng_same (s : State) (te : Nat) (e : Engine) : (s.setEng te e).eng te = e := by
  simp [State.eng, State.setEng]

theorem State.eng_setEng_other (s : State) {te n : Nat} (e : Engine) (h : n ≠ te) :
    (s.setEng te e).eng n = s.eng n := storeGet_put_other _ _ _ h

@[simp] theorem State.eng_fset (s : State) (f : Fld) (d i u v n : Nat) : (s.fset f d i u v).eng n = s.eng n := rfl
@[simp] theorem State.eng_fadd (s : State) (f : Fld) (d i u k n : Nat) : (s.fadd f d i u k).eng n = s.eng n := rfl
@[simp] theorem State.eng_setBankState (s : State) (te : Nat) (b : Bool) (v n : Nat) :
    (s.setBankState te b v).eng n = s.eng n := rfl

@[simp] theorem State.fget_setEng (s : State) (te : Nat) (e : Engine) (f : Fld) (d i u : Nat) :
    (s.setEng te e).fget f d i u = s.fget f d i u := rfl

@[simp] theorem Engine.bank_setBank_same (e : Engine) (b : Bool) (x : Bank) : (e.setBank b x).bank b = x := by
  cases b <;> rfl

@[simp] theorem Engine.setBank_loops (e : Engine) (b : Bool) (x : Bank) : (e.setBank b x).loops = e.loops := by
  cases b <;> rfl

@[simp] theorem Engine.setBank_program (e : Engine) (b : Bool) (x : Bank) : (e.setBank b x).program = e.program := by
  cases b <;> rfl

@[simp] theorem Engine.setBank_writes (e : Engine) (b : Bool) (x : Bank) : (e.setBank b x).writes = e.writes := by
  cases b <;> rfl

@[simp] theorem Engine.setBank_opbuf (e : Engine) (b : Bool) (x : Bank) : (e.setBank b x).opbuf = e.opbuf := by
  cases b <;> rfl

@[simp] theorem Engine.bank_putBytes (e : Engine) (h : Handle) (off : Nat) (bs : List Byte) (b : Bool) :
    (e.putBytes h off bs).bank b = e.bank b := rfl

@[simp] theorem Engine.bank_withLoops (e : Engine) (loops : List (Nat × Nat × Nat)) (b : Bool) :
    ({ e with loops } : Engine).bank b = e.bank b := rfl

theorem State.fget_setBankState_spared (s : State) (te : Nat) (b : Bool) (v : Nat) {g : Fld}
    (h : (bankFld b).spares g = true) :
    (s.setBankState te b v).fget g (te / 16) (te % 16) 0 = s.fget g (te / 16) (te % 16) 0 :=
  State.fget_fset_spared _ _ _ _ _ h

theorem State.bankState_setBankState_same (s : State) (te : Nat) (b : Bool) (v : Nat) :
    (s.setBankState te b v).bankState te b = v % 4 := by
  cases b <;> exact State.fget_fset_same _ _ _ _ _ _ (by decide)

/-! ### What else stays the same -/

/-- Whether two states differ in registers and engines alone. -/
def EnginesOnly (s t : State) : Prop := ∃ regs engines, t = { s with regs, engines }

namespace EnginesOnly

variable {s u : State}

theorem refl (s : State) : EnginesOnly s s := ⟨s.regs, s.engines, rfl⟩

theorem trans {t : State} (h : EnginesOnly s u) (h' : EnginesOnly u t) : EnginesOnly s t := by
  obtain ⟨_, _, rfl⟩ := h
  obtain ⟨regs, engines, rfl⟩ := h'
  exact ⟨regs, engines, rfl⟩

theorem setEng (h : EnginesOnly s u) (te : Nat) (e : Engine) : EnginesOnly s (u.setEng te e) :=
  h.trans ⟨u.regs, storePut u.engines te e, rfl⟩

theorem fset (h : EnginesOnly s u) (f : Fld) (d i k v : Nat) : EnginesOnly s (u.fset f d i k v) :=
  h.trans ⟨storePut u.regs _ _, u.engines, rfl⟩

theorem fadd (h : EnginesOnly s u) (f : Fld) (d i k n : Nat) : EnginesOnly s (u.fadd f d i k n) := h.fset _ _ _ _ _

theorem eq (h : EnginesOnly s u) : u = { s with regs := u.regs, engines := u.engines } := by
  obtain ⟨_, _, rfl⟩ := h
  rfl

theorem mem (h : EnginesOnly s u) : u.mem = s.mem := by
  obtain ⟨_, _, rfl⟩ := h
  rfl

theorem freeCtr (h : EnginesOnly s u) : u.freeCtr = s.freeCtr := by
  obtain ⟨_, _, rfl⟩ := h
  rfl

end EnginesOnly

/-! ### The end of an instruction -/

/-- From u to t an engine moves to a place in its program, given by pc and active loops: it runs if it ran or waited,
and nothing else changes but what else TE_STATUS shows of the engine. -/
structure MovesTo (te pc : Nat) (loops : List (Nat × Nat × Nat)) (u t : State) : Prop where
  frame : EnginesOnly u t
  eng : t.eng te = { u.eng te with loops }
  others : ∀ n, n ≠ te → t.eng n = u.eng n
  pc : t.tePc te = pc % 4096
  stat : u.teStat te = tsRunning ∨ u.teStat te = tsWaiting → t.teStat te = tsRunning
  bankState : ∀ b, t.bankState te b = u.bankState te b
  regs : sameRegsBut [fldAddr F.teStatus_state (te / 16) (te % 16) 0] u t

theorem sameRegsBut.trans {as : List Nat} {s t u : State} (h : sameRegsBut as s t) (h' : sameRegsBut as t u) :
    sameRegsBut as s u := fun a ha => (h' a ha).trans (h a ha)

theorem sameRegsBut_setEng (as : List Nat) (s : State) (te : Nat) (e : Engine) : sameRegsBut as s (s.setEng te e) :=
  fun _ _ => rfl

theorem fldAddr_congr {f g : Fld} (hoff : f.off = g.off) (hstride : f.stride = g.stride) (d i u : Nat) :
    fldAddr f d i u = fldAddr g d i u := by rw [fldAddr, fldAddr, hoff, hstride]

/-- The place of an engine as TE_STATUS shows it, before the engine runs on. -/
def State.placed (s : State) (te pc : Nat) (loops : List (Nat × Nat × Nat)) : State :=
  (((s.setEng te { s.eng te with loops }).fset F.teStatus_pc (te / 16) (te % 16) 0 pc).fset
    F.teStatus_loop_depth (te / 16) (te % 16) 0 loops.length).fset
    F.teStatus_handle_ready (te / 16) (te % 16) 0 (s.eng te).readyMask

section
variable (s : State) (te pc : Nat) (loops : List (Nat × Nat × Nat))

theorem State.tePlace_eq (h : pc < (s.eng te).program.length) :
    s.tePlace te pc loops = if (s.placed te pc loops).teStat te = tsWaiting
      then (s.placed te pc loops).setTeStat te tsRunning else s.placed te pc loops := by
  rw [State.tePlace]
  exact if_neg (not_le.2 h)

theorem State.eng_placed_same : (s.placed te pc loops).eng te = { s.eng te with loops } := by simp [State.placed]

theorem State.eng_placed_other {n : Nat} (h : n ≠ te) : (s.placed te pc loops).eng n = s.eng n := by
  simp [State.placed, State.eng_setEng_other _ _ h]

theorem State.tePc_placed : (s.placed te pc loops).tePc te = pc % 4096 := by
  rw [State.tePc, State.placed, State.fget_fset_spared _ _ _ _ _ (by decide),
    State.fget_fset_spared _ _ _ _ _ (by decide)]
  exact State.fget_fset_same _ _ _ _ _ _ (by decide)

theorem State.teStat_placed : (s.placed te pc loops).teStat te = s.teStat te := by
  simp (disch := decide) only [State.teStat, State.placed, State.fget_fset_spared, State.fget_setEng]

theorem State.bankState_placed (b : Bool) : (s.placed te pc loops).bankState te b = s.bankState te b := by
  cases b <;>
    simp (disch := decide) only [State.bankState, State.placed, bankFld, State.fget_fset_spared, State.fget_setEng,
      if_true, if_false, Bool.false_eq_true]

theorem State.enginesOnly_placed : EnginesOnly s (s.placed te pc loops) :=
  ((((EnginesOnly.refl s).setEng _ _).fset _ _ _ _ _).fset _ _ _ _ _).fset _ _ _ _ _

theorem State.sameRegsBut_placed :
    sameRegsBut [fldAddr F.teStatus_state (te / 16) (te % 16) 0] s (s.placed te pc loops) := by
  have hfset : ∀ (u : State) (f : Fld) (v : Nat), f.off = F.teStatus_state.off → f.stride = F.teStatus_state.stride →
      sameRegsBut [fldAddr F.teStatus_state (te / 16) (te % 16) 0] u (u.fset f (te / 16) (te % 16) 0 v) :=
    fun u f v hoff hstride => fldAddr_congr hoff hstride (te / 16) (te % 16) 0 ▸ sameRegsBut_fset _ _ _ _ _ _
  exact (sameRegsBut_setEng _ _ _ _).trans ((hfset _ F.teStatus_pc _ rfl rfl).trans
    ((hfset _ F.teStatus_loop_depth _ rfl rfl).trans (hfset _ F.teStatus_handle_ready _ rfl rfl)))

end

theorem State.tePlace_movesTo {s : State} {te pc : Nat} (loops : List (Nat × Nat × Nat))
    (h : pc < (s.eng te).program.length) : MovesTo te pc loops s (s.tePlace te pc loops) := by
  rw [State.tePlace_eq s te pc loops h, State.teStat_placed]
  split_ifs with hwaits
  · exact
      { frame := (s.enginesOnly_placed te pc loops).fset _ _ _ _ _
        eng := (State.eng_fset _ _ _ _ _ _ _).trans (s.eng_placed_same te pc loops)
        others := fun _ hn => (State.eng_fset _ _ _ _ _ _ _).trans (s.eng_placed_other te pc loops hn)
        pc := (State.fget_fset_spared _ _ _ _ _ (by decide)).trans (s.tePc_placed te pc loops)
        stat := fun _ => State.fget_fset_same _ _ _ _ _ _ (by decide)
        bankState := fun b =>
          (State.fget_fset_spared _ _ _ _ _ (by cases b <;> decide)).trans (s.bankState_placed te pc loops b)
        regs := (s.sameRegsBut_placed te pc loops).trans (sameRegsBut_fset _ _ _ _ _ _) }
  · exact
      { frame := s.enginesOnly_placed te pc loops
        eng := s.eng_placed_same te pc loops
        others := fun _ hn => s.eng_placed_other te pc loops hn
        pc := s.tePc_placed te pc loops
        stat := fun hran => (s.teStat_placed te pc loops).trans (hran.resolve_right hwaits)
        bankState := s.bankState_placed te pc loops
        regs := s.sameRegsBut_placed te pc loops }

/-- A field of a register other than TE_STATUS reads as before the engine moved. -/
theorem MovesTo.fget {te pc : Nat} {loops : List (Nat × Nat × Nat)} {u t : State} (h : MovesTo te pc loops u t)
    {f : Fld} (hstride : f.stride = F.teStatus_state.stride) (hoff : f.off ≠ F.teStatus_state.off) :
    t.fget f (te / 16) (te % 16) 0 = u.fget f (te / 16) (te % 16) 0 := by
  have hne : fldAddr f (te / 16) (te % 16) 0 ≠ fldAddr F.teStatus_state (te / 16) (te % 16) 0 := by
    simp only [fldAddr, hstride]
    omega
  rw [State.fget, State.fget, h.regs _ (by simpa using hne)]

/-- The instruction at the pc that completes does its effect, and ends. -/
theorem State.teRun_done {s u : State} {te op w : Nat} {effect : Nat → TeResult} (hrun : s.runsWord te op w = true)
    (hdone : effect w = .done u) : s.teRun te op effect = u.teAdvance te := by
  simp only [State.runsWord, Bool.and_eq_true, Bool.or_eq_true, Bool.not_eq_true', beq_iff_eq] at hrun
  obtain ⟨⟨⟨⟨⟨⟨⟨⟨-, hstat⟩, hstall⟩, hword⟩, hop⟩, hclear⟩, hcode⟩, hrange⟩, hguard⟩ := hrun
  obtain ⟨fs, hfs, hclear⟩ := (Option.any_eq_true _ _).1 hclear
  have hruns : (s.teStat te != tsRunning && s.teStat te != tsWaiting) = false := by
    rcases hstat with h | h <;> simp [h]
  simp [State.teRun, hruns, hstall, hword, hop, hfs, hclear, hcode, hrange, hguard, hdone]

/-! ### Effects that leave an engine's place alone -/

/-- Whether an engine stands at the same place in the same program in two states. -/
structure SamePlace (te : Nat) (s u : State) : Prop where
  pc : u.tePc te = s.tePc te
  loops : (u.eng te).loops = (s.eng te).loops
  program : (u.eng te).program = (s.eng te).program

namespace SamePlace

variable {te : Nat} {s u : State}

theorem refl (te : Nat) (s : State) : SamePlace te s s := ⟨rfl, rfl, rfl⟩

theorem setEng {e : Engine} (h : SamePlace te s u) (hloops : e.loops = (u.eng te).loops)
    (hprogram : e.program = (u.eng te).program) : SamePlace te s (u.setEng te e) :=
  ⟨h.pc, by rw [State.eng_setEng_same, hloops, h.loops], by rw [State.eng_setEng_same, hprogram, h.program]⟩

theorem setBank (h : SamePlace te s u) (b : Bool) (x : Bank) :
    SamePlace te s (u.setEng te ((u.eng te).setBank b x)) := h.setEng (by simp) (by simp)

theorem fset (h : SamePlace te s u) {f : Fld} (v : Nat) (hf : f.spares F.teStatus_pc = true) :
    SamePlace te s (u.fset f (te / 16) (te % 16) 0 v) :=
  ⟨(State.fget_fset_spared _ _ _ _ _ hf).trans h.pc, h.loops, h.program⟩

theorem fadd (h : SamePlace te s u) {f : Fld} (n : Nat) (hf : f.spares F.teStatus_pc = true) :
    SamePlace te s (u.fadd f (te / 16) (te % 16) 0 n) := h.fset _ hf

theorem setBankState (h : SamePlace te s u) (b : Bool) (v : Nat) : SamePlace te s (u.setBankState te b v) :=
  h.fset _ (by cases b <;> decide)

theorem nextPlace (h : SamePlace te s u) : u.nextPlace te = s.nextPlace te := by
  rw [State.nextPlace, State.nextPlace, h.pc, h.loops]

theorem followed (h : SamePlace te s u) : u.followed te = s.followed te := by
  rw [State.followed, State.followed, h.nextPlace, h.program]

/-- An effect that left the place alone, and then the end of its instruction, move the engine to the place that
followed before. -/
theorem teAdvance_movesTo (h : SamePlace te s u) (hs : s.followed te = true) :
    MovesTo te (s.nextPlace te).1 (s.nextPlace te).2 u (u.teAdvance te) := by
  have hu : u.followed te = true := h.followed.trans hs
  rw [← h.nextPlace]
  exact State.tePlace_movesTo _ (by simpa [State.followed] using hu)

end SamePlace

end Sys2Proof.Machine
end

section
/-! PROOFS. TCLOSE beside a corrected upset of an accumulator (R84, R104). -/

namespace Sys2Proof.Machine

theorem exec_tclose (te : Nat) (upset : Upset) (s : State) : exec (.tclose te upset) s = execTclose te upset s := by
  rfl

@[simp] theorem State.upsetCorrected_eng (s : State) (te n : Nat) (u : Upset) :
    (s.upsetCorrected te u).eng n = s.eng n := by
  cases u <;> rfl

/-- Which accumulator entry was corrected is open, and takes a free value. -/
theorem State.upsetCorrected_accum_freeCtr (s : State) (te : Nat) :
    (s.upsetCorrected te .accumCorrected).freeCtr = s.freeCtr + 1 := rfl

theorem State.compareBank_none {s : State} {te : Nat} {b : Bool} {upset : Upset}
    (hpass : ((s.eng te).bank b).mismatch E.residueTile = none) (hupset : upset.atCompare = false) :
    s.compareBank te b upset = none := by
  simp [State.compareBank, hpass, hupset]

/-- A TCLOSE whose residues agree passes its tile and counts it, whatever upset was corrected beside it. -/
theorem execTclose_passes {s : State} {te w : Nat} {upset : Upset} (hrun : s.runsWord te 0x33 w = true)
    (hopen : s.bankState te (bit w 16) = bkOpen) (hpass : ((s.eng te).bank (bit w 16)).mismatch E.residueTile = none)
    (hupset : upset.atCompare = false) :
    execTclose te upset s = .next ((((s.upsetCorrected te upset).fadd
      F.teCheckCounts_tiles_checked (te / 16) (te % 16) 0 1).setBankState te (bit w 16) bkPassed).teAdvance te) := by
  refine congrArg Host.Outcome.next (State.teRun_done hrun ?_)
  simp only [hopen, bne_self_eq_false, Bool.false_eq_true, if_false]
  rw [State.compareBank_none (by simpa using hpass) hupset]

/-- An upset of an accumulator that is corrected beside a TCLOSE moves the model's counter of free values on. -/
theorem tclose_accumCorrected_freeCtr {s t : State} {te w : Nat} (hrun : s.runsWord te 0x33 w = true)
    (hfollowed : s.followed te = true) (hopen : s.bankState te (bit w 16) = bkOpen)
    (hpass : ((s.eng te).bank (bit w 16)).mismatch E.residueTile = none)
    (hexec : exec (.tclose te .accumCorrected) s = .next t) : t.freeCtr = s.freeCtr + 1 := by
  rw [exec_tclose, execTclose_passes hrun hopen hpass rfl] at hexec
  cases hexec
  have hcorrected : SamePlace te s (s.upsetCorrected te .accumCorrected) := ⟨rfl, rfl, rfl⟩
  have hplace := (hcorrected.fadd 1 (f := F.teCheckCounts_tiles_checked) (by decide)).setBankState (bit w 16) bkPassed
  exact (hplace.teAdvance_movesTo hfollowed).frame.freeCtr

/-- Engine 0 runs a TCLOSE of its bank A, in which an empty tile is open; a NOP follows. -/
def closingTile : State :=
  { (State.reset.fset F.teStatus_state 0 0 0 tsRunning).fset F.teStatus_bank_a 0 0 0 bkOpen with
    engines := [(0, { program := [0x33, 0] })] }

/-- Refutes O11: its clause of TCLOSE allows an upset that is corrected and lets nothing change but registers, engines
and error records. On a tile that passes, a corrected accumulator upset also takes a free value for the entry that its
record names. -/
theorem not_tileInstructionsComplete : ¬ Obligations.TileInstructionsComplete := by
  unfold Obligations.TileInstructionsComplete
  rintro ⟨-, -, -, -, tclose, -⟩
  have hrun : closingTile.runsWord 0 0x33 0x33 = true := by decide
  have hfollowed : closingTile.followed 0 = true := by decide
  have hopen : closingTile.bankState 0 (bit 0x33 16) = bkOpen := by decide
  have hpass : ((closingTile.eng 0).bank (bit 0x33 16)).mismatch E.residueTile = none := by decide
  obtain ⟨t, hexec, hframe, -⟩ := tclose closingTile 0 .accumCorrected 0x33 hrun hfollowed hopen hpass rfl
  have hkept : t.freeCtr = closingTile.freeCtr := by rw [hframe]
  have hmoved : t.freeCtr = closingTile.freeCtr + 1 := tclose_accumCorrected_freeCtr hrun hfollowed hopen hpass hexec
  omega

end Sys2Proof.Machine
end

section
/-! PROOFS. DRAIN (R99, R100, R130, R134): the handles it names, its writes, and the bank it leaves. -/

namespace Sys2Proof.Machine

theorem exec_drain (te : Nat) (upset : Upset) (s : State) : exec (.drain te upset) s = execDrain te upset s := by
  rfl

/-! ### The handles of a DRAIN -/

theorem bit_setBit_other (w : Nat) {i k : Nat} (v : Bool) (h : k ≠ i) : bit (setBit w i v) k = bit w k := by
  have hbits : bits (setBit w i v) k 1 = bits w k 1 := bits_setBits_other _ _ _ _ _ _ (by omega)
  exact congrArg (· == 1) hbits

theorem bit_setBit_same (w i : Nat) (v : Bool) : bit (setBit w i v) i = v := by
  have hbits : bits (setBit w i v) i 1 = v.toNat % 2 ^ 1 := bits_setBits_same _ _ _ _
  rw [show bit (setBit w i v) i = (bits (setBit w i v) i 1 == 1) from rfl, hbits]
  cases v <;> rfl

/-- A DRAIN without scale and bias columns names no column handle. -/
theorem drainHandles_columns {w : Nat} (hscale : bits w 31 2 ≠ 2) (hbias : bit w 37 = false) :
    drainHandles (setBit w 21 true) = [] := by
  have hbits : bits (setBit w 21 true) 31 2 = bits w 31 2 := bits_setBits_other _ _ _ _ _ _ (by omega)
  simp [drainHandles, hbits, bit_setBit_other, bit_setBit_same, hscale, hbias]

theorem drainHandles_handle {w : Nat} (hscale : bits w 31 2 ≠ 2) (hbias : bit w 37 = false)
    (hdest : bit w 21 = false) :
    drainHandles w = [bits w 17 4] := by
  simp [drainHandles, hscale, hbias, hdest]

theorem drainHandles_memory {w : Nat} (hscale : bits w 31 2 ≠ 2) (hbias : bit w 37 = false) (hdest : bit w 21 = true) :
    drainHandles w = [] := by
  simp [drainHandles, hscale, hbias, hdest]

/-! ### The bank after a DRAIN (R130) -/

/-- A bank whose whole range was drained is EMPTY. -/
theorem State.drained_whole {s : State} {te row m : Nat} {b : Bool} (h : ((s.eng te).bank b).range = some (row, m)) :
    s.drained te b row m = (s.setEng te ((s.eng te).setBank b {})).setBankState te b bkEmpty := by
  have hall : (List.range m).all (fun i =>
      (((s.eng te).bank b).drained ++ (List.range m).map (· + row)).contains (row + i)) = true := by
    simp only [List.all_eq_true, List.mem_range, List.contains_eq_mem, decide_eq_true_eq, List.mem_append, List.mem_map]
    exact fun i hi => .inr ⟨i, hi, Nat.add_comm i row⟩
  simp only [State.drained, h, hall, if_true]

/-- Draining rows changes the bank, and shows it EMPTY or not. -/
theorem State.drained_cases (s : State) (te row m : Nat) (b : Bool) :
    ∃ x, s.drained te b row m = s.setEng te ((s.eng te).setBank b x) ∨
      s.drained te b row m = (s.setEng te ((s.eng te).setBank b x)).setBankState te b bkEmpty := by
  rw [State.drained]
  split_ifs
  · exact ⟨{}, .inr rfl⟩
  · exact ⟨_, .inl rfl⟩

section
variable {s u : State} (te row m : Nat) (b : Bool)

theorem EnginesOnly.drained (h : EnginesOnly s u) : EnginesOnly s (u.drained te b row m) := by
  obtain ⟨x, hx | hx⟩ := u.drained_cases te row m b
  · exact hx ▸ h.setEng _ _
  · exact hx ▸ (h.setEng _ _).fset _ _ _ _ _

theorem SamePlace.drained (h : SamePlace te s u) : SamePlace te s (u.drained te b row m) := by
  obtain ⟨x, hx | hx⟩ := u.drained_cases te row m b
  · exact hx ▸ h.setBank b x
  · exact hx ▸ (h.setBank b x).setBankState b bkEmpty

theorem State.drained_writes (u : State) : ((u.drained te b row m).eng te).writes = (u.eng te).writes := by
  obtain ⟨x, hx | hx⟩ := u.drained_cases te row m b <;> simp [hx]

theorem State.fget_drained_spared (u : State) {f : Fld} (hf : ∀ b, (bankFld b).spares f = true) :
    (u.drained te b row m).fget f (te / 16) (te % 16) 0 = u.fget f (te / 16) (te % 16) 0 := by
  obtain ⟨x, hx | hx⟩ := u.drained_cases te row m b
  · rw [hx, State.fget_setEng]
  · rw [hx, State.fget_setBankState_spared _ _ _ _ (hf b), State.fget_setEng]

end

/-! ### A raw DRAIN to a handle -/

section
variable {s : State} {te w : Nat} {h : Handle} (hrun : s.runsWord te 0x34 w = true) (hdest : bit w 21 = false)
  (hraw : bit w 29 = true) (hbias : bit w 37 = false) (hscale : bits w 31 2 ≠ 2)
  (hhandle : (s.eng te).handle (bits w 17 4) = some h) (hready : (s.eng te).ready h = true)
  (hbank : s.bankState te (bit w 16) = bkPassed) (hrows : bits w 46 7 + (bits w 53 7 + 1) ≤ arrayDim te)
  (hfits : (bits w 53 7 + 1) * arrayDim te * 12 + 4 ≤ h.rows * h.rowBytes)
include hrun hdest hraw hbias hscale hhandle hready hbank hrows hfits

/-- A raw DRAIN puts the entry images into its handle, and counts no conversion event. -/
theorem execDrain_raw :
    execDrain te .clean s = .next ((((s.setEng te ((s.eng te).putBytes h 0
      (rawImages (arrayDim te) ((s.eng te).bank (bit w 16)) (bits w 46 7) (bits w 53 7 + 1)))).fadd
        F.teConvEvents_events (te / 16) (te % 16) 0 0).drained te (bit w 16) (bits w 46 7)
          (bits w 53 7 + 1)).teAdvance te) := by
  refine congrArg Host.Outcome.next (State.teRun_done hrun ?_)
  simp [drainHandles_handle hscale hbias hdest, drainHandles_columns hscale hbias, hhandle, hready, hbank,
    not_lt.2 hrows, not_lt.2 hfits, hdest, hraw, State.upsetCorrected]

/-- A raw DRAIN of the whole range of its bank changes the handle's bytes, leaves the bank EMPTY, and goes on. -/
theorem drain_raw_completes (hfollowed : s.followed te = true)
    (hrange : ((s.eng te).bank (bit w 16)).range = some (bits w 46 7, bits w 53 7 + 1)) :
    ∃ t, exec (.drain te .clean) s = .next t ∧ t = { s with regs := t.regs, engines := t.engines } ∧
      (t.eng te).opbuf = ((s.eng te).putBytes h 0 (rawImages (arrayDim te) ((s.eng te).bank (bit w 16)) (bits w 46 7)
        (bits w 53 7 + 1))).opbuf ∧
      t.bankState te (bit w 16) = bkEmpty ∧ (t.eng te).bank (bit w 16) = {} ∧
      t.tePc te = (s.nextPlace te).1 % 4096 := by
  refine ⟨_, (exec_drain te .clean s).trans
    (execDrain_raw hrun hdest hraw hbias hscale hhandle hready hbank hrows hfits), ?_⟩
  generalize rawImages (arrayDim te) ((s.eng te).bank (bit w 16)) (bits w 46 7) (bits w 53 7 + 1) = images
  rw [State.drained_whole (by simpa using hrange), State.eng_fadd, State.eng_setEng_same]
  have hput : SamePlace te s (s.setEng te ((s.eng te).putBytes h 0 images)) := (SamePlace.refl te s).setEng rfl rfl
  have hcounted := hput.fadd 0 (f := F.teConvEvents_events) (by decide)
  have hmoves := ((hcounted.setBank (bit w 16) {}).setBankState (bit w 16) bkEmpty).teAdvance_movesTo hfollowed
  rw [State.eng_fadd, State.eng_setEng_same] at hmoves
  refine ⟨(EnginesOnly.trans ?_ hmoves.frame).eq, ?_, ?_, ?_, hmoves.pc⟩
  · exact ((((EnginesOnly.refl s).setEng _ _).fadd _ _ _ _ _).setEng _ _).fset _ _ _ _ _
  · rw [hmoves.eng, State.eng_setBankState, State.eng_setEng_same]
    exact Engine.setBank_opbuf _ _ _
  · rw [hmoves.bankState, State.bankState_setBankState_same]
    rfl
  · rw [hmoves.eng, Engine.bank_withLoops, State.eng_setBankState, State.eng_setEng_same, Engine.bank_setBank_same]

end

/-! ### A direct DRAIN to memory -/

theorem State.meetsMarked_of_publicAt_none {s : State} {a : Nat} (te : Nat) (h : s.publicAt a = none) :
    s.meetsMarked te a = false := by simp [State.meetsMarked, h]

/-- An engine with the requests of rows among its outstanding writes. -/
def Engine.written (e : Engine) (ws : List (Nat × List Byte)) : Engine :=
  { e with writes := e.writes ++ writeRequests ws }

/-- An engine's writes that the checks pass and that lie in no gate's buffer become outstanding. -/
theorem State.teWrites_done {s : State} {te : Nat} {ws : List (Nat × List Byte)}
    (hpass : s.firstRefusal (.engine te) true ((writeRequests ws).map (fun r => (r.1, r.2.length))) = none)
    (hungated : (writeRequests ws).all (fun r => (s.publicAt r.1).isNone) = true) :
    s.teWrites te ws = .done (s.setEng te ((s.eng te).written ws)) := by
  have hunmarked : (writeRequests ws).any (fun r => s.meetsMarked te r.1) = false := by
    rw [List.any_eq_false]
    intro r hr
    have hnone := List.all_eq_true.1 hungated r hr
    simp [State.meetsMarked_of_publicAt_none te (Option.isNone_iff_eq_none.1 hnone)]
  simp [State.teWrites, hpass, hunmarked, Engine.written]

/-- Folding rows into the signature, where it happens at all, sets TE_SIG at most. -/
theorem State.foldSignature_cases (s : State) (te : Nat) (ws : List (Nat × List Byte)) (fold : Bool) :
    (if fold then s.foldSignature te ws else s) = s ∨
      ∃ v, (if fold then s.foldSignature te ws else s) = s.fset F.teSig_signature (te / 16) (te % 16) 0 v := by
  rw [State.foldSignature]
  split_ifs
  · exact .inr ⟨_, rfl⟩
  · exact .inl rfl
  · exact .inl rfl

/-- The state of a DRAIN to memory whose n rows were written: they are outstanding, the signature took them in where the
word asks for it, and the generator has moved past them. -/
def State.rowsWritten (s : State) (te w : Nat) (ws : List (Nat × List Byte)) (n : Nat) : State :=
  let v := s.setEng te ((s.eng te).written ws)
  let v := if bit w 60 then v.foldSignature te ws else v
  v.setEng te ((v.eng te).setGen (bits w 22 3) (((s.eng te).gen (bits w 22 3)).advance n))

section
variable (s : State) (te w : Nat) (ws : List (Nat × List Byte)) (n : Nat)

/-- Writing rows changes the engine's writes and its generator, and TE_SIG at most. -/
theorem State.rowsWritten_cases :
    ∃ v, (v = s ∨ ∃ x, v = s.fset F.teSig_signature (te / 16) (te % 16) 0 x) ∧
      s.rowsWritten te w ws n = (v.setEng te ((v.eng te).written ws)).setEng te
        (((v.eng te).written ws).setGen (bits w 22 3) (((s.eng te).gen (bits w 22 3)).advance n)) := by
  rw [State.rowsWritten]
  obtain hv | ⟨x, hv⟩ := State.foldSignature_cases (s.setEng te ((s.eng te).written ws)) te ws (bit w 60)
  · refine ⟨s, .inl rfl, ?_⟩
    simp only [hv, State.eng_setEng_same]
  · refine ⟨_, .inr ⟨x, rfl⟩, ?_⟩
    simp only [hv, State.eng_setEng_same, State.eng_fset]
    rfl

theorem State.rowsWritten_enginesOnly : EnginesOnly s (s.rowsWritten te w ws n) := by
  obtain ⟨v, rfl | ⟨x, rfl⟩, hv⟩ := s.rowsWritten_cases te w ws n
  · exact hv ▸ ((EnginesOnly.refl _).setEng _ _).setEng _ _
  · exact hv ▸ (((EnginesOnly.refl s).fset _ _ _ _ _).setEng _ _).setEng _ _

theorem State.rowsWritten_samePlace : SamePlace te s (s.rowsWritten te w ws n) := by
  obtain ⟨v, hs, hv⟩ := s.rowsWritten_cases te w ws n
  have hplace : SamePlace te s v := by
    obtain rfl | ⟨x, rfl⟩ := hs
    · exact .refl te _
    · exact (SamePlace.refl te s).fset x (by decide)
  rw [hv]
  exact (hplace.setEng (e := (v.eng te).written ws) rfl rfl).setEng (by rw [State.eng_setEng_same]; rfl)
    (by rw [State.eng_setEng_same]; rfl)

theorem State.rowsWritten_writes :
    ((s.rowsWritten te w ws n).eng te).writes = (s.eng te).writes ++ writeRequests ws := by
  obtain ⟨v, rfl | ⟨x, rfl⟩, hv⟩ := s.rowsWritten_cases te w ws n <;> rw [hv, State.eng_setEng_same] <;> rfl

theorem State.fget_rowsWritten_spared {f : Fld} (hf : F.teSig_signature.spares f = true) :
    (s.rowsWritten te w ws n).fget f (te / 16) (te % 16) 0 = s.fget f (te / 16) (te % 16) 0 := by
  obtain ⟨v, rfl | ⟨x, rfl⟩, hv⟩ := s.rowsWritten_cases te w ws n
  · rw [hv, State.fget_setEng, State.fget_setEng]
  · rw [hv, State.fget_setEng, State.fget_setEng, State.fget_fset_spared _ _ _ _ _ hf]

end

section
variable {s : State} {te w : Nat} {rs : List (List Byte × List Byte × Nat)} {ws : List (Nat × List Byte)}
  (hrun : s.runsWord te 0x34 w = true) (hdest : bit w 21 = true) (hraw : bit w 29 = false) (hbias : bit w 37 = false)
  (hscale : bits w 31 2 = 0) (hact : bits w 42 4 = 0) (hbank : s.bankState te (bit w 16) = bkPassed)
  (hrows : bits w 46 7 + (bits w 53 7 + 1) ≤ arrayDim te)
  (hrs : rs = (drainGrid (arrayDim te) ((s.eng te).bank (bit w 16)) (bits w 46 7) (bits w 53 7 + 1) (bit w 61)
    (fun _ v => v)).map (encodeRow (bits w 25 4) (bit w 30)))
  (hws : ws = ((((s.eng te).gen (bits w 22 3)).rows true rs.length).zip rs).map (fun p => (p.1, p.2.1 ++ p.2.2.1)))
  (hpass : s.firstRefusal (.engine te) true ((writeRequests ws).map (fun r => (r.1, r.2.length))) = none)
  (hungated : (writeRequests ws).all (fun r => (s.publicAt r.1).isNone) = true)
include hrun hdest hraw hbias hscale hact hbank hrows hrs hws hpass hungated

/-- A direct DRAIN to memory writes its encoded rows and counts their conversion events. -/
theorem execDrain_direct :
    execDrain te .clean s = .next ((((s.rowsWritten te w ws rs.length).fadd
        F.teConvEvents_events (te / 16) (te % 16) 0 (rs.map (fun r => r.2.2)).sum).drained te (bit w 16) (bits w 46 7)
          (bits w 53 7 + 1)).teAdvance te) := by
  have hnone : bits w 31 2 ≠ 2 := by omega
  refine congrArg Host.Outcome.next (State.teRun_done hrun ?_)
  have hwrites := State.teWrites_done (te := te) hpass hungated
  simp [drainHandles_memory hnone hbias hdest, drainHandles_columns hnone hbias, hbank,
    not_lt.2 hrows, hdest, hraw, State.upsetCorrected, hscale, hbias, hact, drainValue, ← hrs, ← hws, hwrites,
    State.rowsWritten]

/-- A direct DRAIN to memory leaves its rows as outstanding writes, and goes on. -/
theorem drain_direct_completes (hfollowed : s.followed te = true) :
    ∃ t, exec (.drain te .clean) s = .next t ∧
      (t.eng te).writes = (s.eng te).writes ++ writeRequests ws ∧ t.mem = s.mem ∧
      t.fget F.teConvEvents_events (te / 16) (te % 16) 0 = satAdd (s.fget F.teConvEvents_events (te / 16) (te % 16) 0)
        (rs.map (fun r => r.2.2)).sum 32 ∧
      t.tePc te = (s.nextPlace te).1 % 4096 := by
  refine ⟨_, (exec_drain te .clean s).trans
    (execDrain_direct hrun hdest hraw hbias hscale hact hbank hrows hrs hws hpass hungated), ?_⟩
  have hcounted := (s.rowsWritten_samePlace te w ws rs.length).fadd (f := F.teConvEvents_events)
    (rs.map (fun r => r.2.2)).sum (by decide)
  have hmoves := (hcounted.drained te (bits w 46 7) (bits w 53 7 + 1) (bit w 16)).teAdvance_movesTo hfollowed
  have hframe := ((s.rowsWritten_enginesOnly te w ws rs.length).fadd F.teConvEvents_events (te / 16) (te % 16) 0
    (rs.map (fun r => r.2.2)).sum).drained te (bits w 46 7) (bits w 53 7 + 1) (bit w 16)
  refine ⟨?_, (hframe.trans hmoves.frame).mem, ?_, hmoves.pc⟩
  · rw [hmoves.eng]
    exact (State.drained_writes _ _ _ _ _).trans (s.rowsWritten_writes te w ws rs.length)
  · rw [hmoves.fget (by decide) (by decide), State.fget_drained_spared _ _ _ _ _ (by decide),
      State.fget_fadd_same _ _ _ _ _ _ (by decide), State.fget_rowsWritten_spared _ _ _ _ _ (by decide)]
    rfl

end

end Sys2Proof.Machine
end

section
/-! PROOFS. VOP (R110 to R114, R136). -/

namespace Sys2Proof.Machine

theorem exec_vop (te : Nat) (upset : Upset) (s : State) : exec (.vop te upset) s = execVop te upset s := by
  rfl

/-- Rows written to a handle, from row 0 on. -/
def Engine.putRows (e : Engine) (h : Handle) (rs : List (List Byte × List Byte × Nat)) : Engine :=
  (rs.zip (List.range rs.length)).foldl (fun e p => e.putRow h p.2 p.1.1 p.1.2.1) e

/-- Rows written to a handle change the operand buffer alone. -/
theorem Engine.putRows_eq (e : Engine) (h : Handle) (rs : List (List Byte × List Byte × Nat)) :
    e.putRows h rs = { e with opbuf := (e.putRows h rs).opbuf } := by
  rw [Engine.putRows]
  generalize rs.zip (List.range rs.length) = ps
  induction ps generalizing e with
  | nil => rfl
  | cons p ps ih => exact ih _

/-- The handle that a VOP reads as its second source: none where its function takes no second source, and none where
that is a scalar. -/
def Engine.vopHandle (e : Engine) (w : Nat) : Option Handle :=
  if vopBinary (bits w 34 6) && !bit w 28 then e.handle (bits w 24 4) else none

/-- The values of the second source: those of a handle, else the scalar. -/
def Engine.vopSource (e : Engine) (w : Nat) : Option Handle → List Num
  | some h => e.lanes h
  | none => [f32Code (e.reg (bits w 29 5) % 2 ^ 32)]

/-- The rows that a VOP writes to its destination. -/
def Engine.vopRows (e : Engine) (w : Nat) (hd h1 : Handle) (h2 : Option Handle) : List (List Byte × List Byte × Nat) :=
  (rowsOf hd.perRow (e.vopResults (bits w 34 6) hd h1 (e.vopSource w h2) (bit w 28)) hd.rows).map
    (encodeRow hd.fmt false)

section
variable {s : State} {te w : Nat} {hd h1 : Handle} {h2 : Option Handle} (hrun : s.runsWord te 0x40 w = true)
  (hhandles : (s.eng te).handle (bits w 16 4) = some hd ∧ (s.eng te).handle (bits w 20 4) = some h1)
  (hsecond : (s.eng te).vopHandle w = h2) (htwo : (vopBinary (bits w 34 6) && !bit w 28) = h2.isSome)
  (hready : (s.eng te).ready hd = true ∧ (s.eng te).ready h1 = true) (hready2 : ∀ h ∈ h2, (s.eng te).ready h = true)
  (hunit : s.vectorOut te = false) (hrange : vopInRange (bits w 34 6) hd h1 h2 = true)
include hrun hhandles hsecond htwo hready hready2 hunit hrange

/-- A VOP that finds its operands writes its rows to the destination handle, and counts their conversion events. -/
theorem execVop_writes :
    execVop te .clean s = .next (((s.setEng te ((s.eng te).putRows hd ((s.eng te).vopRows w hd h1 h2))).fadd
      F.teConvEvents_events (te / 16) (te % 16) 0
      (((s.eng te).vopRows w hd h1 h2).map (fun r => r.2.2)).sum).teAdvance te) := by
  refine congrArg Host.Outcome.next (State.teRun_done hrun ?_)
  obtain ⟨hhd, hh1⟩ := hhandles
  rw [Engine.vopHandle, htwo] at hsecond
  cases h2 with
  | none =>
    simp [hhd, hh1, htwo, hready, hunit, hrange, State.upsetCorrected, Engine.vopRows, Engine.vopSource, Engine.putRows]
  | some h =>
    have hh2 : (s.eng te).handle (bits w 24 4) = some h := by simpa using hsecond
    simp [hhd, hh1, hh2, htwo, hready, hready2 h rfl, hunit, hrange, State.upsetCorrected, Engine.vopRows,
      Engine.vopSource, Engine.putRows]

/-- A VOP that finds its operands changes the destination's bytes and the count of conversion events, and goes on. -/
theorem vop_completes (hfollowed : s.followed te = true) :
    ∃ t, exec (.vop te .clean) s = .next t ∧ EnginesOnly s t ∧
      t.eng te = { (s.eng te).putRows hd ((s.eng te).vopRows w hd h1 h2) with loops := (s.nextPlace te).2 } ∧
      t.fget F.teConvEvents_events (te / 16) (te % 16) 0 = satAdd (s.fget F.teConvEvents_events (te / 16) (te % 16) 0)
        (((s.eng te).vopRows w hd h1 h2).map (fun r => r.2.2)).sum 32 ∧
      t.tePc te = (s.nextPlace te).1 % 4096 := by
  refine ⟨_, (exec_vop te .clean s).trans
    (execVop_writes hrun hhandles hsecond htwo hready hready2 hunit hrange), ?_⟩
  generalize (s.eng te).vopRows w hd h1 h2 = rs
  have hput : SamePlace te s (s.setEng te ((s.eng te).putRows hd rs)) :=
    (SamePlace.refl te s).setEng (by rw [Engine.putRows_eq]) (by rw [Engine.putRows_eq])
  have hmoves := (hput.fadd (f := F.teConvEvents_events) (rs.map (fun r => r.2.2)).sum (by decide)).teAdvance_movesTo
    hfollowed
  refine ⟨(((EnginesOnly.refl s).setEng _ _).fadd _ _ _ _ _).trans hmoves.frame, ?_, ?_, hmoves.pc⟩
  · rw [hmoves.eng, State.eng_fadd, State.eng_setEng_same]
  · rw [hmoves.fget (by decide) (by decide), State.fget_fadd_same _ _ _ _ _ _ (by decide), State.fget_setEng]
    rfl

end

end Sys2Proof.Machine
end

section
/-! PROOFS. Every form of DRAIN and VOP that the statement names. -/

namespace Sys2Proof.Machine

/-- Settles O12. Each form answers with an effect that keeps the engine's place, followed by the end of the instruction,
which moves TE_STATUS and the engine's loops alone; what an effect leaves is then read off the state it gives. -/
theorem drainAndVectorInstructionsComplete : Obligations.DrainAndVectorInstructionsComplete := by
  unfold Obligations.DrainAndVectorInstructionsComplete
  refine ⟨?raw, ?direct, ?binary, ?unary⟩
  case raw =>
    rintro s te w h _ hrun hfollowed ⟨hdest, hraw, hbias, hscale⟩ hhandle hready rfl hbank hrange hrows hfits
    exact drain_raw_completes hrun hdest hraw hbias hscale hhandle hready hbank hrows hfits hfollowed hrange
  case direct =>
    rintro s te w _ rs ws hrun hfollowed ⟨hdest, hraw, hbias, hscale, hact⟩ rfl hbank hrows hrs hws hpass hungated
    exact drain_direct_completes hrun hdest hraw hbias hscale hact hbank hrows hrs hws hpass hungated hfollowed
  case binary =>
    rintro s te w hd h1 h2 rs hrun hfollowed ⟨hbinary, hscalar⟩ ⟨hhd, hh1, hh2⟩ ⟨hrd, hr1, hr2⟩ hunit hrange hrs
    have hrows : rs = (s.eng te).vopRows w hd h1 (some h2) := by
      rw [hrs, Engine.vopRows, hscalar]
      rfl
    obtain ⟨t, hexec, hframe, heng, hevents, hpc⟩ := vop_completes hrun ⟨hhd, hh1⟩
      (by simp [Engine.vopHandle, hbinary, hscalar, hh2]) (by simp [hbinary, hscalar]) ⟨hrd, hr1⟩ (by simpa using hr2)
      hunit hrange hfollowed
    exact ⟨t, hexec, hframe.eq, hrows ▸ heng, hrows ▸ hevents, hpc⟩
  case unary =>
    rintro s te w hd h1 rs hrun hfollowed hsingle hhandles hready hunit hrange hrs
    have hrows : rs = (s.eng te).vopRows w hd h1 none := hrs
    obtain ⟨t, hexec, hframe, heng, -, hpc⟩ := vop_completes (h2 := none) hrun hhandles
      (by simp [Engine.vopHandle, hsingle]) hsingle hready (by simp) hunit hrange hfollowed
    exact ⟨t, hexec, hframe.eq, hrows ▸ heng, hpc⟩

end Sys2Proof.Machine
end

section
/-! PROOFS. How an instruction of a tensor engine ends (R121, R124, R146), and the instructions whose effect is on their
engine alone: SOP, SCMP, PSET, CHKRD and SIG (R122, R123, R141, R571). -/

namespace Sys2Proof.Machine

/-! ### Storing what is stored already -/

/-- Putting a value back where it was found changes nothing. -/
theorem storePut_of_find {α : Type} {m : Store α} {a : Nat} {x : α} (h : storeFind m a = some x) :
    storePut m a x = m := by
  induction m with
  | nil => simp [storeFind] at h
  | cons p m ih =>
    obtain ⟨k, v⟩ := p
    rw [storeFind] at h
    rw [storePut]
    split_ifs at h ⊢ with hk
    · simp_all
    · rw [ih h]

/-- An engine that holds an instruction is listed. -/
theorem State.setEng_self {s : State} {te i w : Nat} (h : (s.eng te).program[i]? = some w) :
    s.setEng te (s.eng te) = s := by
  have hlisted : storeFind s.engines te = some (s.eng te) := by
    rw [State.eng, storeGet]
    cases hfind : storeFind s.engines te with
    | none => simp [State.eng, storeGet, hfind] at h
    | some e => rfl
  rw [State.setEng, storePut_of_find hlisted]

/-! ### The word that an engine runs -/

/-- What it takes for an engine to run the word at its pc. -/
structure State.Executes (s : State) (te w : Nat) : Prop where
  engine : te < 64 ∨ te = 128 ∨ te = 129
  stat : s.teStat te = tsRunning ∨ s.teStat te = tsWaiting
  unstalled : s.teStalled te = false
  word : (s.eng te).program[s.tePc te]? = some w

theorem State.executes {s : State} {te op w : Nat} (h : s.runsWord te op w = true) : s.Executes te w := by
  simp only [State.runsWord, Bool.and_eq_true, Bool.or_eq_true, Bool.not_eq_true', beq_iff_eq, decide_eq_true_eq] at h
  obtain ⟨⟨⟨⟨⟨⟨⟨⟨hengine, hstat⟩, hunstalled⟩, hword⟩, -⟩, -⟩, -⟩, -⟩, -⟩ := h
  exact ⟨or_assoc.1 hengine, hstat, hunstalled, hword⟩

theorem State.Executes.setEng_self {s : State} {te w : Nat} (h : s.Executes te w) : s.setEng te (s.eng te) = s :=
  State.setEng_self h.word

/-- What an effect's answer makes of the state in which the instruction began. -/
def TeResult.ending (te : Nat) (s : State) : TeResult → State
  | .done t => t.teAdvance te
  | .jump t target loops => t.tePlace te target loops
  | .stall => s
  | .fault c => s.teFault te c
  | .stopped t => t

/-- The instruction at the pc does its effect and ends as the effect answers. -/
theorem State.teRun_eq_ending {s : State} {te op w : Nat} (hrun : s.runsWord te op w = true)
    (effect : Nat → TeResult) : s.teRun te op effect = (effect w).ending te s := by
  simp only [State.runsWord, Bool.and_eq_true, Bool.or_eq_true, Bool.not_eq_true', beq_iff_eq] at hrun
  obtain ⟨⟨⟨⟨⟨⟨⟨⟨-, hstat⟩, hstall⟩, hword⟩, hop⟩, hclear⟩, hcode⟩, hrange⟩, hguard⟩ := hrun
  obtain ⟨fs, hfs, hclear⟩ := (Option.any_eq_true _ _).1 hclear
  have hruns : (s.teStat te != tsRunning && s.teStat te != tsWaiting) = false := by
    rcases hstat with h | h <;> simp [h]
  simp only [State.teRun, hruns, hstall, hword, hop, hfs, hclear, hcode, hrange, hguard, Bool.or_self, bne_self_eq_false,
    Bool.and_self, Bool.not_true, Bool.false_eq_true, if_false]
  cases effect w <;> rfl

/-! ### Effects on the engine alone -/

section
variable {s u t : State} {te : Nat} {e : Engine}

/-- An effect on an engine and on TE_STATUS alone, after which the engine moves to the place that follows, completes in
sequence. -/
theorem MovesTo.teStep (h : MovesTo te (s.nextPlace te).1 (s.nextPlace te).2 u t)
    (hruns : u.teStat te = tsRunning ∨ u.teStat te = tsWaiting) (hframe : EnginesOnly s u) (heng : u.eng te = e)
    (hothers : ∀ n, n ≠ te → u.eng n = s.eng n)
    (hregs : sameRegsBut [fldAddr F.teStatus_state (te / 16) (te % 16) 0] s u) : teStep te e s t :=
  ⟨heng ▸ h.eng, h.pc, h.stat hruns, fun n hn => (h.others n hn).trans (hothers n hn), hregs.trans h.regs,
    (hframe.trans h.frame).eq⟩

/-- An engine that runs or waits takes new contents beside its place, and goes on in sequence. -/
theorem State.teStep_teAdvance (hfollowed : s.followed te = true)
    (hruns : s.teStat te = tsRunning ∨ s.teStat te = tsWaiting) (hloops : e.loops = (s.eng te).loops)
    (hprogram : e.program = (s.eng te).program) : teStep te e s ((s.setEng te e).teAdvance te) :=
  (((SamePlace.refl te s).setEng hloops hprogram).teAdvance_movesTo hfollowed).teStep hruns
    ((EnginesOnly.refl s).setEng te e) (State.eng_setEng_same s te e) (fun _ hn => State.eng_setEng_other s e hn)
    (sameRegsBut_setEng _ _ _ _)

variable {op w : Nat} {effect : Nat → TeResult}

/-- An instruction whose effect is new contents of its engine completes in sequence. -/
theorem State.teStep_teRun (hrun : s.runsWord te op w = true) (hfollowed : s.followed te = true)
    (hdone : effect w = .done (s.setEng te e)) (hloops : e.loops = (s.eng te).loops := by rfl)
    (hprogram : e.program = (s.eng te).program := by rfl) : teStep te e s (s.teRun te op effect) := by
  rw [State.teRun_done hrun hdone]
  exact State.teStep_teAdvance hfollowed (State.executes hrun).stat hloops hprogram

end

/-! ### The scalar, predicate and check instructions -/

theorem exec_nop (te : Nat) (s : State) : exec (.nop te) s = execNop te s := by rfl
theorem exec_sop (te : Nat) (s : State) : exec (.sop te) s = execSop te s := by rfl
theorem exec_scmp (te : Nat) (s : State) : exec (.scmp te) s = execScmp te s := by rfl
theorem exec_pset (te : Nat) (s : State) : exec (.pset te) s = execPset te s := by rfl
theorem exec_chkrd (te : Nat) (s : State) : exec (.chkrd te) s = execChkrd te s := by rfl
theorem exec_sig (te : Nat) (s : State) : exec (.sig te) s = execSig te s := by rfl

/-- SIG with CLEAR zeroes the signature, and goes on. -/
theorem execSig_clear {s : State} {te w : Nat} (hrun : s.runsWord te 0x71 w = true) (hmode : bits w 16 2 = 0) :
    execSig te s = .next ((s.fset F.teSig_signature (te / 16) (te % 16) 0 0).teAdvance te) :=
  congrArg Host.Outcome.next (State.teRun_done hrun (by simp [hmode]))

/-- Settles O7. A NOP has no effect, and SIG with CLEAR one on the signature; every other form gives its engine new
contents. -/
theorem scalarInstructionsComplete : Obligations.ScalarInstructionsComplete := by
  unfold Obligations.ScalarInstructionsComplete
  refine ⟨?nop, ?sop, ?scmp, ?pset, ?chkrd, ?sig, ?sigClear⟩
  case nop =>
    intro s te w hrun hfollowed
    refine ⟨_, exec_nop te s, ?_⟩
    rw [State.teRun_done (u := s) hrun rfl]
    exact ((SamePlace.refl te s).teAdvance_movesTo hfollowed).teStep (State.executes hrun).stat (.refl s) rfl
      (fun _ _ => rfl) (fun _ _ => rfl)
  case sop =>
    intro s te w hrun hfollowed
    exact ⟨_, exec_sop te s, State.teStep_teRun hrun hfollowed rfl⟩
  case scmp =>
    intro s te w hrun hfollowed
    exact ⟨_, exec_scmp te s, State.teStep_teRun hrun hfollowed rfl⟩
  case pset =>
    intro s te w hrun hfollowed
    exact ⟨_, exec_pset te s, State.teStep_teRun hrun hfollowed rfl⟩
  case chkrd =>
    intro s te w hrun hfollowed
    exact ⟨_, exec_chkrd te s, State.teStep_teRun hrun hfollowed rfl⟩
  case sig =>
    intro s te w hrun hfollowed hmode
    exact ⟨_, exec_sig te s, State.teStep_teRun hrun hfollowed (by simp [hmode])⟩
  case sigClear =>
    intro s te w hrun hfollowed hmode
    refine ⟨_, (exec_sig te s).trans (execSig_clear hrun hmode), ?_⟩
    have hmoves := ((SamePlace.refl te s).fset 0 (f := F.teSig_signature) (by decide)).teAdvance_movesTo hfollowed
    refine ⟨(((EnginesOnly.refl s).fset _ _ _ _ _).trans hmoves.frame).eq, ?_, hmoves.pc, hmoves.eng⟩
    rw [hmoves.fget (by decide) (by decide), State.fget_fset_same _ _ _ _ _ _ (by decide), Nat.zero_mod]

end Sys2Proof.Machine
end

section
/-! PROOFS. The operations of SOP and SCMP as arithmetic on numbers (R123). -/

namespace Sys2Proof.Machine

/-- Choosing a word by a comparison of its values takes the smaller value, and the other way round the larger. -/
theorem ite_eq_min_and_max {α : Type} [LinearOrder α] (value : Word → α) {c : Bool} {a b : Word}
    (h : c = true ↔ value a < value b) :
    value (if c then a else b) = min (value a) (value b) ∧ value (if c then b else a) = max (value a) (value b) := by
  by_cases hlt : value a < value b
  · simp [h.2 hlt, hlt.le]
  · have hc : c = false := by simpa using mt h.1 hlt
    simp [hc, not_lt.1 hlt]

/-- Settles O8. Every code but the four of minimum and maximum is an operation of the library's bit vectors, whose value
the library gives. -/
theorem aluOperations : Obligations.AluOperations := by
  unfold Obligations.AluOperations
  intro a b
  have hsigned := ite_eq_min_and_max BitVec.toInt (BitVec.slt_iff_toInt_lt (x := a) (y := b))
  have hunsigned := ite_eq_min_and_max BitVec.toNat (BitVec.ult_iff_toNat_lt (x := a) (y := b))
  refine ⟨?add, ?sub, ?mul, ?and, ?or, ?xor, ?shl, ?shr, ?sar, hsigned.1, hsigned.2, hunsigned.1, hunsigned.2, rfl,
    ?eq, ?ne, ?lt, ?ge, ?ltu, ?geu⟩
  case add => exact BitVec.toNat_add a b
  case sub => exact (BitVec.toNat_sub a b).trans (congrArg (· % 2 ^ 64) (Nat.add_comm _ _))
  case mul => exact BitVec.toNat_mul a b
  case and => exact fun i _ => BitVec.getLsbD_and
  case or => exact fun i _ => BitVec.getLsbD_or
  case xor => exact fun i _ => BitVec.getLsbD_xor
  case shl => exact BitVec.toNat_shiftLeft.trans (by rw [Nat.shiftLeft_eq])
  case shr => exact (BitVec.toNat_ushiftRight _ _).trans (Nat.shiftRight_eq_div_pow _ _)
  case sar => exact BitVec.toInt_sshiftRight.trans (Int.shiftRight_eq_div_pow _ _)
  case eq => exact beq_iff_eq
  case ne => exact bne_iff_ne
  case lt => exact BitVec.slt_iff_toInt_lt
  case ge => simp [cmpOp, BitVec.slt_eq_decide]
  case ltu => exact BitVec.ult_iff_toNat_lt
  case geu => simp [cmpOp, BitVec.ult_eq_decide]

end Sys2Proof.Machine
end

section
/-! PROOFS. An illegal opcode beside an outstanding write (R126, R146). -/

namespace Sys2Proof.Machine

/-- Engine 0 runs a word whose opcode is not in the map, while a write of it has not reached its target. -/
def strayOpcode : State :=
  { State.reset.fset F.teStatus_state 0 0 0 tsRunning with
    engines := [(0, { program := [0xFF], writes := [(0, [1])] })] }

theorem exec_illegalOpcode (te : Nat) (s : State) : exec (.illegalOpcode te) s = execIllegalOpcode te s := by rfl

/-- The opcode faults. -/
theorem execIllegalOpcode_strayOpcode :
    execIllegalOpcode 0 strayOpcode = .next (strayOpcode.teFault 0 E.illegalOpcode) := by
  have hstat : strayOpcode.teStat 0 = tsRunning := by decide
  have hunstalled : strayOpcode.teStalled 0 = false := by decide
  have hword : (strayOpcode.eng 0).program[strayOpcode.tePc 0]? = some 0xFF := by decide
  have hillegal : (opFields 0xFF).isNone = true := by decide
  simp [execIllegalOpcode, hstat, hunstalled, hword, hillegal]

/-- The fault lets the write reach its target, and the engine holds it no more. -/
theorem strayOpcode_settles : ((strayOpcode.teFault 0 E.illegalOpcode).eng 0).writes = [] := by decide +kernel

/-- Refutes O9: its clause of an illegal opcode asks nothing of the engine's outstanding writes, and lets nothing change
but registers and error records. An engine that stops lets its outstanding writes reach their targets first. -/
theorem not_controlInstructionsComplete : ¬ Obligations.ControlInstructionsComplete := by
  unfold Obligations.ControlInstructionsComplete
  rintro ⟨-, -, -, -, -, -, -, -, -, illegalOpcode⟩
  obtain ⟨t, hexec, hframe, -⟩ := illegalOpcode strayOpcode 0 0xFF (by decide) (by decide) (by decide) (by decide)
    (by decide) (by decide) (by decide)
  have hkept : (t.eng 0).writes = [(0, [1])] := by
    rw [hframe]
    rfl
  rw [exec_illegalOpcode, execIllegalOpcode_strayOpcode] at hexec
  rw [← Host.Outcome.next.inj hexec, strayOpcode_settles] at hkept
  exact absurd hkept (by decide)

end Sys2Proof.Machine
end

section
/-! PROOFS. What goes on beside an access: the registers, books and records that counting its lines, taking its tokens,
correcting its words and noting its readers change, and what they leave alone (R160, R176, R180, R181, R374, R480). -/

namespace Sys2Proof.Machine

/-! ### Registers by their offsets -/

/-- The offset of a register in the window of its die, whatever its die and its copy. -/
def regOffset (a : Nat) : Nat := a % 0x1000000

theorem regOffset_fldAddr (f : Fld) (d i u : Nat) : regOffset (fldAddr f d i u) = (f.off + i * f.stride) % 0x1000000 := by
  simp only [regOffset, fldAddr, regBase, bankStride]
  omega

/-- The offsets of the registers in which accesses are counted: SPM_ECC, MEM_ECC, MEM_LINES, VI_STATE and VI_COUNTS. -/
def isCountOffset (o : Nat) : Bool :=
  (List.range 8).any (fun c => o == 0x200080 + c * 0x10000) || o == 0x200108 || o == 0x2001C8
    || (List.range 2).any (fun m => o == 0x3C0008 + m * 0x100 || o == 0x3C0018 + m * 0x100)

theorem isCountOffset_memLines {m : Nat} :
    isCountOffset ((F.memLines_lines.off + m % 2 * F.memLines_lines.stride) % 0x1000000) = true := by
  obtain h | h := Nat.mod_two_eq_zero_or_one m <;> rw [h] <;> rfl

theorem isCountOffset_memEcc {m : Nat} :
    isCountOffset ((F.memEcc_corrected.off + m % 2 * F.memEcc_corrected.stride) % 0x1000000) = true := by
  obtain h | h := Nat.mod_two_eq_zero_or_one m <;> rw [h] <;> rfl

/-! ### Places and buffers -/

theorem placeOf_scratchpad_lt {a d c : Nat} (h : placeOf a = .scratchpad d c) : c < 8 := by
  simp only [placeOf] at h
  split_ifs at h
  simp only [Place.scratchpad.injEq] at h
  omega

theorem mem_allBuffers {p : Nat × Nat} (h : p ∈ allBuffers) : p.1 < 4 ∧ p.2 < 256 := by
  simp only [allBuffers, List.mem_flatten, List.mem_map, List.mem_range] at h
  obtain ⟨_, ⟨d, hd, rfl⟩, hp⟩ := h
  obtain ⟨b, hb, rfl⟩ := List.mem_map.1 hp
  exact ⟨hd, List.mem_range.1 hb⟩

theorem State.publicAt_lt {s : State} {a d b : Nat} (h : s.publicAt a = some (d, b)) : d < 4 ∧ b < 256 :=
  mem_allBuffers (List.mem_of_find?_eq_some h)

/-! ### Jobs -/

/-- A job's record without the counts that the accesses of engines move. -/
def Job.bare (x : Job) : Job := { x with lines := 0, readers := [], discarded := 0, tokensTrue := 0, tokensFalse := 0 }

/-- What a change to one job makes of it. -/
theorem State.job?_modJob_same (s : State) (j : Nat) (f : Job → Job) : (s.modJob j f).job? j = (s.job? j).map f := by
  cases h : s.job? j with
  | none => simp [State.modJob, h]
  | some x =>
    simp only [State.modJob, h]
    exact storeFind_put_same _ _ _

theorem State.job?_modJob_other (s : State) {j k : Nat} (f : Job → Job) (h : k ≠ j) :
    (s.modJob j f).job? k = s.job? k := by
  cases hj : s.job? j with
  | none => simp [State.modJob, hj]
  | some x =>
    simp only [State.modJob, hj]
    exact storeFind_put_other _ _ h

theorem State.job_modJob_same {s : State} {j : Nat} {f : Job → Job} (h : (s.job? j).isSome = true) :
    (s.modJob j f).job j = f (s.job j) := by
  obtain ⟨x, hx⟩ := Option.isSome_iff_exists.1 h
  simp [State.job, State.job?_modJob_same, hx]

theorem State.modJob_sched (s : State) (j : Nat) (f : Job → Job) : ∃ sched, s.modJob j f = { s with sched } := by
  rw [State.modJob]
  split
  · exact ⟨s.sched, rfl⟩
  · exact ⟨_, rfl⟩

theorem storeKeys_put_of_find {α : Type} {m : Store α} {a : Nat} {x : α} (y : α) (h : storeFind m a = some x) :
    storeKeys (storePut m a y) = storeKeys m := by
  induction m with
  | nil => simp [storeFind] at h
  | cons p m ih =>
    obtain ⟨k, v⟩ := p
    rw [storeFind] at h
    rw [storePut]
    split_ifs at h ⊢ with hk
    · rfl
    · exact congrArg (k :: ·) (ih h)

theorem State.jobKeys_modJob (s : State) (j : Nat) (f : Job → Job) :
    storeKeys (s.modJob j f).sched.jobs = storeKeys s.sched.jobs := by
  cases h : s.job? j with
  | none => simp [State.modJob, h]
  | some x =>
    simp only [State.modJob, h]
    exact storeKeys_put_of_find _ h

/-! ### The relation -/

/-- Whether a state comes of another by changes beside its engines: registers at offsets that P names, and of jobs their
counts at most. -/
structure Beside (P : Nat → Bool) (s u : State) : Prop where
  engines : u.engines = s.engines
  regs : ∀ a, P (regOffset a) = false → u.reg a = s.reg a
  jobKeys : storeKeys u.sched.jobs = storeKeys s.sched.jobs
  jobs : ∀ j, (u.job? j).map Job.bare = (s.job? j).map Job.bare

namespace Beside

variable {P Q : Nat → Bool} {s u t : State}

theorem refl (P : Nat → Bool) (s : State) : Beside P s s := ⟨rfl, fun _ _ => rfl, rfl, fun _ => rfl⟩

theorem trans (h : Beside P s u) (h' : Beside P u t) : Beside P s t :=
  ⟨h'.engines.trans h.engines, fun a ha => (h'.regs a ha).trans (h.regs a ha), h'.jobKeys.trans h.jobKeys,
    fun j => (h'.jobs j).trans (h.jobs j)⟩

theorem mono (h : Beside P s u) (hPQ : ∀ o, P o = true → Q o = true) : Beside Q s u :=
  { h with regs := fun a ha => h.regs a (Bool.eq_false_iff.2 fun hP => Bool.false_ne_true (ha.symm.trans (hPQ _ hP))) }

/-- A change of what the relation does not speak of. -/
theorem update (h : Beside P s u) (hengines : t.engines = u.engines := by rfl) (hregs : t.regs = u.regs := by rfl)
    (hboot : t.boot = u.boot := by rfl) (hjobs : t.sched.jobs = u.sched.jobs := by rfl) : Beside P s t :=
  h.trans ⟨hengines, fun a _ => State.reg_congr hregs (by rw [hboot]) a, by rw [hjobs],
    fun j => by rw [State.job?, State.job?, hjobs]⟩

theorem fset (h : Beside P s u) {f : Fld} {d i : Nat} (k v : Nat)
    (hf : P ((f.off + i * f.stride) % 0x1000000) = true) : Beside P s (u.fset f d i k v) := by
  refine h.trans ⟨rfl, fun a ha => State.reg_fset_other _ _ _ _ _ _ ?_, rfl, fun _ => rfl⟩
  rintro rfl
  rw [regOffset_fldAddr, hf] at ha
  exact absurd ha (by decide)

theorem fadd (h : Beside P s u) {f : Fld} {d i : Nat} (k n : Nat)
    (hf : P ((f.off + i * f.stride) % 0x1000000) = true) : Beside P s (u.fadd f d i k n) := h.fset _ _ hf

theorem fwrap (h : Beside P s u) {f : Fld} {d i : Nat} (k n : Nat)
    (hf : P ((f.off + i * f.stride) % 0x1000000) = true) : Beside P s (u.fwrap f d i k n) := h.fset _ _ hf

theorem raiseSide (h : Beside P s u) (r : ErrRec) : Beside P s (u.raiseSide r) := h.update

theorem modJob (h : Beside P s u) (j : Nat) {f : Job → Job} (hf : ∀ x, (f x).bare = x.bare) :
    Beside P s (u.modJob j f) := by
  obtain ⟨sched, hu⟩ := u.modJob_sched j f
  refine h.trans ⟨by rw [hu], fun a _ => by rw [hu]; rfl, State.jobKeys_modJob u j f, fun k => ?_⟩
  obtain rfl | hk := eq_or_ne k j
  · rw [State.job?_modJob_same, Option.map_map]
    exact congrArg (Option.map · _) (funext hf)
  · rw [State.job?_modJob_other _ _ hk]

theorem foldl {α : Type} {f : State → α → State} {l : List α} (h : Beside P s u)
    (hf : ∀ t x, x ∈ l → Beside P s t → Beside P s (f t x)) : Beside P s (l.foldl f u) := by
  induction l generalizing u with
  | nil => exact h
  | cons x l ih =>
    exact ih (hf u x List.mem_cons_self h) fun t y hy => hf t y (List.mem_cons_of_mem x hy)

theorem ite {c : Prop} {_ : Decidable c} (h : Beside P s u) (h' : Beside P s t) : Beside P s (if c then u else t) := by
  split <;> assumption

/-! What reads the same -/

theorem eng (h : Beside P s u) (te : Nat) : u.eng te = s.eng te := by rw [State.eng, State.eng, h.engines]

theorem fget (h : Beside P s u) {f : Fld} {d i : Nat} (k : Nat)
    (hf : P ((f.off + i * f.stride) % 0x1000000) = false) : u.fget f d i k = s.fget f d i k := by
  rw [State.fget, State.fget, h.regs _ (by rwa [regOffset_fldAddr])]

theorem job?_isSome (h : Beside P s u) (j : Nat) : (u.job? j).isSome = (s.job? j).isSome := by
  rw [← Option.isSome_map (f := Job.bare), h.jobs, Option.isSome_map]

/-- What a job's bare record tells of the job. -/
theorem job {α : Type} (h : Beside P s u) (j : Nat) (view : Job → α) (hview : ∀ x, view x.bare = view x) :
    view (u.job j) = view (s.job j) := by
  have hbare : ∀ t : State, view (t.job j) = view (((t.job? j).map Job.bare).getD { record := {} }) := by
    intro t
    rw [State.job]
    cases t.job? j with
    | none => rfl
    | some x => exact (hview x).symm
  rw [hbare, hbare, h.jobs]

/-- A field of engine te's registers. -/
theorem fgetTe (h : Beside P s u) {f : Fld} {te : Nat} (k : Nat)
    (hP : (List.range 16).all (fun i => !P ((f.off + i * f.stride) % 0x1000000)) = true) :
    u.fget f (te / 16) (te % 16) k = s.fget f (te / 16) (te % 16) k :=
  h.fget k (by simpa using List.all_eq_true.1 hP (te % 16) (List.mem_range.2 (Nat.mod_lt _ (by decide))))

/-- A field of buffer b of a gate. -/
theorem fgetBuf (h : Beside P s u) {f : Fld} (d : Nat) {b : Nat} (hb : b < 256)
    (hP : (List.range 256).all (fun i => !P ((f.off + i * f.stride) % 0x1000000)) = true) :
    u.fget f d b 0 = s.fget f d b 0 :=
  h.fget 0 (by simpa using List.all_eq_true.1 hP b (List.mem_range.2 hb))

end Beside

/-! ### What accesses do beside their bytes -/

/-- Whether a state comes of another by what accesses do beside the bytes they move. -/
structure Traffic (s u : State) : Prop extends Beside isCountOffset s u where
  mem : u.mem = s.mem
  opens : u.opens = s.opens
  gft : u.gft = s.gft

namespace Traffic

variable {s u t : State}

theorem refl (s : State) : Traffic s s := ⟨.refl _ s, rfl, rfl, rfl⟩

theorem trans (h : Traffic s u) (h' : Traffic u t) : Traffic s t :=
  ⟨h.toBeside.trans h'.toBeside, h'.mem.trans h.mem, h'.opens.trans h.opens, h'.gft.trans h.gft⟩

/-- A change of what the relation does not speak of. -/
theorem update (h : Traffic s u) (hengines : t.engines = u.engines := by rfl) (hregs : t.regs = u.regs := by rfl)
    (hboot : t.boot = u.boot := by rfl) (hjobs : t.sched.jobs = u.sched.jobs := by rfl) (hmem : t.mem = u.mem := by rfl)
    (hopens : t.opens = u.opens := by rfl) (hgft : t.gft = u.gft := by rfl) : Traffic s t :=
  ⟨h.toBeside.update hengines hregs hboot hjobs, hmem.trans h.mem, hopens.trans h.opens, hgft.trans h.gft⟩

theorem fset (h : Traffic s u) {f : Fld} {d i : Nat} (k v : Nat)
    (hf : isCountOffset ((f.off + i * f.stride) % 0x1000000) = true) : Traffic s (u.fset f d i k v) :=
  ⟨h.toBeside.fset k v hf, h.mem, h.opens, h.gft⟩

theorem modJob (h : Traffic s u) (j : Nat) {f : Job → Job} (hf : ∀ x, (f x).bare = x.bare) :
    Traffic s (u.modJob j f) := by
  obtain ⟨sched, hu⟩ := u.modJob_sched j f
  exact ⟨h.toBeside.modJob j hf, by rw [hu]; exact h.mem, by rw [hu]; exact h.opens, by rw [hu]; exact h.gft⟩

theorem foldl {α : Type} {f : State → α → State} {l : List α} (h : Traffic s u)
    (hf : ∀ t x, x ∈ l → Traffic s t → Traffic s (f t x)) : Traffic s (l.foldl f u) := by
  induction l generalizing u with
  | nil => exact h
  | cons x l ih =>
    exact ih (hf u x List.mem_cons_self h) fun t y hy => hf t y (List.mem_cons_of_mem x hy)

theorem ite {c : Prop} {_ : Decidable c} (h : Traffic s u) (h' : Traffic s t) : Traffic s (if c then u else t) := by
  split <;> assumption

theorem raiseSide (h : Traffic s u) (r : ErrRec) : Traffic s (u.raiseSide r) := h.update

theorem notePosted (h : Traffic s u) (who : Initiator) (a : Nat) : Traffic s (u.notePosted who a) :=
  ite h.update h

theorem countLines (h : Traffic s u) (who : Initiator) (a n : Nat) : Traffic s (u.countLines who a n) := by
  rw [State.countLines]
  split
  · have hcounted : Traffic s ((u.linesOn a n).foldl
        (fun s k => s.fwrap F.memLines_lines (k.1 / 2) (k.1 % 2) 0 k.2) u) :=
      h.foldl fun t k _ ht => ht.fset _ _ isCountOffset_memLines
    dsimp only
    split
    · exact hcounted
    · exact hcounted.modJob _ fun _ => rfl
  · exact h

theorem noteOverBudget (h : Traffic s u) (vi : Nat) : Traffic s (u.noteOverBudget vi) := by
  unfold State.noteOverBudget
  extract_lets x s₁ s₂ s₃ last x₁ x₂
  have h₁ : Traffic s s₁ := h.update
  have h₃ : Traffic s s₃ := (h₁.fset vi 1 (f := F.viState_over_budget) (by decide)).fset vi _ (by decide)
  exact ite h₁ (ite (Traffic.raiseSide h₃.update _) h₃)

theorem takeBucket (h : Traffic s u) (vi d need : Nat) : Traffic s (u.takeBucket vi d need) :=
  (ite (h.noteOverBudget vi) h : Traffic s (if u.bucketLevel vi d < need then u.noteOverBudget vi else u)).update

theorem takeTokens (h : Traffic s u) (who : Initiator) (a n : Nat) : Traffic s (u.takeTokens who a n) := by
  rw [State.takeTokens]
  split
  · refine h.foldl fun t k _ ht => ?_
    dsimp only
    split
    · exact ht.takeBucket _ _ _
    · exact ite ht.update (ht.takeBucket _ _ _)
  · exact h

theorem correctSoft (h : Traffic s u) (a n : Nat) : Traffic s (u.correctSoft a n) := by
  rw [State.correctSoft]
  split
  next d c hplace =>
    have hoffset : isCountOffset ((F.spmEcc_corrected.off + c * F.spmEcc_corrected.stride) % 0x1000000) = true := by
      have hall : (List.range 8).all (fun c =>
        isCountOffset ((F.spmEcc_corrected.off + c * F.spmEcc_corrected.stride) % 0x1000000)) = true := by decide
      exact List.all_eq_true.1 hall c (List.mem_range.2 (placeOf_scratchpad_lt hplace))
    exact h.foldl fun t w _ ht => (Traffic.fset ht.update _ _ hoffset).raiseSide _
  · exact h.foldl fun t w _ ht => (Traffic.fset ht.update _ _ isCountOffset_memEcc).raiseSide _
  · exact h

theorem correctSteered (h : Traffic s u) (r : GateReader) (a n : Nat) : Traffic s (u.correctSteered r a n) :=
  h.foldl fun _ _ _ ht => ht.correctSoft _ _

theorem noteRead (h : Traffic s u) (r : GateReader) (a n : Nat) : Traffic s (u.noteRead r a n) := by
  unfold State.noteRead
  split
  · exact h
  · refine h.foldl fun t p _ ht => ?_
    split
    · exact ht
    · exact ite (ht.modJob _ fun _ => rfl) ht

theorem fetchBytes (h : Traffic s u) (who : Initiator) (a n : Nat) : Traffic s (u.fetchBytes who a n).1 :=
  (((h.correctSteered _ a n).countLines who a n).takeTokens who a n).noteRead _ a n

theorem fetchAll (h : Traffic s u) (who : Initiator) (ps : List (Nat × Nat)) : Traffic s (u.fetchAll who ps).1 := by
  induction ps generalizing u with
  | nil => exact h
  | cons p ps ih => exact ih (h.fetchBytes who p.1 p.2)

/-! What reads the same -/

theorem bytesAt (h : Traffic s u) (a n : Nat) : u.bytesAt a n = s.bytesAt a n := by
  induction n generalizing a with
  | zero => rfl
  | succ n ih => rw [State.bytesAt, State.bytesAt, ih, State.byteAt, State.byteAt, h.mem]

theorem publicAt (h : Traffic s u) (a : Nat) : u.publicAt a = s.publicAt a := by
  refine List.find?_congr fun p hp => ?_
  obtain ⟨-, hb⟩ := mem_allBuffers hp
  simp only [State.bufValid, State.fon, State.bufBase, State.bufGranules]
  rw [h.fgetBuf p.1 hb (by decide +kernel), h.fgetBuf p.1 hb (by decide +kernel), h.fgetBuf p.1 hb (by decide +kernel)]

theorem testing (h : Traffic s u) (te : Nat) : u.testing te = s.testing te := by
  rw [State.testing, State.testing, State.gftOf, State.gftOf, h.gft]

theorem jobOf (h : Traffic s u) (te : Nat) : u.jobOf (.engine te) = s.jobOf (.engine te) := by
  rw [State.jobOf, State.jobOf, h.testing, State.blockHeld, State.blockHeld, h.fget 0 (by decide),
    h.fgetTe 0 (by decide)]

theorem jobLive (h : Traffic s u) (j : Nat) : u.jobLive j = s.jobLive j := by
  rw [State.jobLive, State.jobLive, h.job?_isSome, State.jobState, State.jobState, h.fget j (by decide),
    h.job j Job.settled fun _ => rfl]

theorem tokenState (h : Traffic s u) (j i : Nat) : u.tokenState j i = s.tokenState j i := by
  rw [State.tokenState, State.tokenState, h.fget _ (by decide), h.job j Job.tokenHome fun _ => rfl,
    h.job j Job.tokenBase fun _ => rfl]

theorem dropsWrite (h : Traffic s u) (j d g : Nat) {b : Nat} (hb : b < 256) :
    u.dropsWrite j d b g = s.dropsWrite j d b g := by
  have hprefix : ∀ i, u.prefixFalse j i = s.prefixFalse j i := fun i => by
    simp only [State.prefixFalse, h.tokenState]
  simp only [State.dropsWrite, h.jobLive, h.job j (fun x => x.record.speculative) fun _ => rfl,
    h.job j Job.tokenCount fun _ => rfl, h.fgetBuf d hb (f := F.cgBufCtrl_tok_span) (by decide +kernel), hprefix]

end Traffic

end Sys2Proof.Machine
end

section
/-! PROOFS. SLD, SST, TLD and TST on memory outside registered buffers (R126, R129, R137, R139, R199). -/

namespace Sys2Proof.Machine

theorem exec_sld (te : Nat) (s : State) : exec (.sld te) s = execSld te s := by rfl
theorem exec_sst (te : Nat) (s : State) : exec (.sst te) s = execSst te s := by rfl
theorem exec_tld (te : Nat) (s : State) : exec (.tld te) s = execTld te s := by rfl
theorem exec_tldComplete (te handle : Nat) (s : State) :
    exec (.tldComplete te handle) s = execTldComplete te handle s := by rfl
theorem exec_tst (te : Nat) (upset : Upset) (s : State) : exec (.tst te upset) s = execTst te upset s := by rfl

theorem Beside.samePlace {P : Nat → Bool} {s u : State} (h : Beside P s u) (te : Nat)
    (hP : (List.range 16).all (fun i => !P ((F.teStatus_pc.off + i * F.teStatus_pc.stride) % 0x1000000)) = true) :
    SamePlace te s u :=
  ⟨h.fgetTe 0 hP, by rw [h.eng], by rw [h.eng]⟩

/-! ### Words of eight bytes -/

/-- What a size divides lies in one piece of any larger size that it divides. -/
theorem pieces_word {a k : Nat} (fuel : Nat) (ha : a % 8 = 0) (hk : 0 < k) : pieces (8 * k) a 8 (fuel + 1) = [(a, 8)] := by
  have hroom : 8 ≤ 8 * k - a % (8 * k) := by
    obtain ⟨c, rfl⟩ := Nat.dvd_of_mod_eq_zero ha
    have hlt : c % k < k := Nat.mod_lt _ hk
    rw [Nat.mul_mod_mul_left]
    omega
  have hrest : ∀ fuel, pieces (8 * k) (a + 8) 0 fuel = [] := fun fuel => by cases fuel <;> simp [pieces]
  simp [pieces, hroom, hrest]

theorem granPieces_word {a : Nat} (ha : a % 8 = 0) : granPieces a 8 = [(a, 8)] :=
  pieces_word (k := 8192) 1 ha (by decide)

theorem requests_word {a : Nat} (ha : a % 8 = 0) : requests a 8 = [(a, 8)] :=
  pieces_word (k := 32) 1 ha (by decide)

theorem writeRequests_word {a : Nat} {bs : List Byte} (ha : a % 8 = 0) (hbs : bs.length = 8) :
    writeRequests [(a, bs)] = [(a, bs)] := by
  simp [writeRequests, hbs, requests_word ha, List.take_of_length_le]

/-! ### SLD -/

/-- An aligned read outside registered buffers returns the bytes as the engine sees them. -/
theorem State.fetchBytes_word {s : State} {te a : Nat} (ha : a % 8 = 0) (hpublic : s.publicAt a = none) :
    (s.fetchBytes (.engine te) a 8).2 = s.ownView (.engine te) a (s.bytesAt a 8) := by
  obtain ⟨r, u, htraffic, hread⟩ : ∃ r u, Traffic s u ∧
      (s.fetchBytes (.engine te) a 8).2 = u.ownView (.engine te) a (u.steeredBytes r a 8) :=
    ⟨s.readerOf (.engine te), _, (((Traffic.refl s).correctSteered _ a 8).countLines (.engine te) a 8).takeTokens
      (.engine te) a 8, rfl⟩
  have hungated : u.publicAt a = none := (htraffic.publicAt a).trans hpublic
  rw [hread]
  simp [State.steeredBytes, granPieces_word ha, State.steer, hungated, htraffic.bytesAt, State.ownView, htraffic.eng]

theorem execSld_reads {s : State} {te w : Nat} (hrun : s.runsWord te 0x03 w = true)
    (ha : (s.eng te).scalarAddr w % 8 = 0)
    (hpass : s.firstRefusal (.engine te) false [((s.eng te).scalarAddr w, 8)] = none)
    (hclean : s.poisonIn (.engine te) ((s.eng te).scalarAddr w) 8 = none) :
    execSld te s = .next (((s.fetchBytes (.engine te) ((s.eng te).scalarAddr w) 8).1.setEng te ((s.eng te).setReg
      (bits w 16 5) (leNat (s.fetchBytes (.engine te) ((s.eng te).scalarAddr w) 8).2))).teAdvance te) :=
  congrArg Host.Outcome.next (State.teRun_done hrun (by simp [ha, hpass, hclean]))

/-! ### SST -/

/-- An engine's writes that the checks pass and that meet no granule it has marked become outstanding. -/
theorem State.teWrites_unmarked {s : State} {te : Nat} {ws : List (Nat × List Byte)}
    (hpass : s.firstRefusal (.engine te) true ((writeRequests ws).map (fun r => (r.1, r.2.length))) = none)
    (hunmarked : (writeRequests ws).any (fun r => s.meetsMarked te r.1) = false) :
    s.teWrites te ws = .done (s.setEng te ((s.eng te).written ws)) := by
  simp [State.teWrites, hpass, hunmarked, Engine.written]

/-- A store of a scalar that the checks pass is outstanding, and the engine goes on. -/
theorem sst_completes {s : State} {te w a : Nat} (hrun : s.runsWord te 0x04 w = true)
    (hfollowed : s.followed te = true) (ha : a = (s.eng te).scalarAddr w) (haligned : a % 8 = 0)
    (hpass : s.firstRefusal (.engine te) true [(a, 8)] = none) (hunmarked : s.meetsMarked te a = false) :
    ∃ t, exec (.sst te) s = .next t ∧
      teStep te ((s.eng te).written [(a, leBytes ((s.eng te).reg (bits w 16 5)) 8)]) s t := by
  refine ⟨_, exec_sst te s, State.teStep_teRun hrun hfollowed ?_⟩
  have hrequests := writeRequests_word (bs := leBytes ((s.eng te).reg (bits w 16 5)) 8) haligned (leBytes_length _ _)
  have hwrites := State.teWrites_unmarked (s := s) (te := te) (ws := [(a, leBytes ((s.eng te).reg (bits w 16 5)) 8)])
    (by rw [hrequests]; simpa using hpass) (by rw [hrequests]; simpa using hunmarked)
  simp [← ha, haligned, hwrites]

/-! ### TLD -/

theorem Engine.gen_setGen (e : Engine) (a : Nat) (g : AddrGen) : (e.setGen a g).gen a = g ∨ e.ags.length ≤ a := by
  refine (lt_or_ge a e.ags.length).imp (fun h => ?_) id
  simp [Engine.gen, Engine.setGen, h]

/-- The load that a TLD issues. -/
def State.loadOf (s : State) (te w : Nat) (hd : Handle) (ps : List (Nat × Nat)) : TileLoad :=
  { th := bits w 16 4, handle := hd, rows := ps.map Prod.fst, raw := bit w 23, data := (s.fetchAll (.engine te) ps).2,
    poison := (ps.filterMap (fun p => s.poisonIn (.engine te) p.1 p.2)).head? }

/-- The generator behind a TLD. -/
def Engine.genBehind (e : Engine) (w : Nat) (hd : Handle) : AddrGen :=
  if bit w 24 then (e.gen (bits w 20 3)).advance (if bit w 23 then 1 else hd.rows) else e.gen (bits w 20 3)

theorem execTld_issues {s : State} {te w : Nat} {hd : Handle} {ps : List (Nat × Nat)}
    (hrun : s.runsWord te 0x20 w = true) (hhandle : (s.eng te).handle (bits w 16 4) = some hd)
    (hready : (s.eng te).ready hd = true) (hroom : (s.eng te).loads.length < 8)
    (hps : ps = loadPieces hd ((s.eng te).gen (bits w 20 3)) (bit w 23) (bit w 24))
    (hpass : s.firstRefusal (.engine te) false ((ps.map (fun p => requests p.1 p.2)).flatten) = none) :
    execTld te s = .next (((s.fetchAll (.engine te) ps).1.setEng te
      { (s.eng te).setGen (bits w 20 3) ((s.eng te).genBehind w hd) with
        loads := (s.eng te).loads ++ [s.loadOf te w hd ps] }).teAdvance te) := by
  refine congrArg Host.Outcome.next (State.teRun_done hrun ?_)
  simp [hhandle, hready, not_le.2 hroom, ← hps, hpass, Engine.genBehind, State.loadOf]

/-! ### The end of a load -/

theorem execTldComplete_lands {s : State} {te th : Nat} {l : TileLoad}
    (hload : (s.eng te).loads.find? (fun x => x.th == th) = some l) (hclean : l.poison = none)
    (hstat : s.teStat te = tsRunning ∨ s.teStat te = tsWaiting ∨ s.teStat te = tsStopping) :
    execTldComplete te th s = .next ((s.setEng te { (s.eng te).landLoad l with loads := (s.eng te).loads.erase l }).fset
      F.teStatus_handle_ready (te / 16) (te % 16) 0
      ({ (s.eng te).landLoad l with loads := (s.eng te).loads.erase l } : Engine).readyMask) := by
  have hruns : (s.teStat te != tsRunning && s.teStat te != tsWaiting && s.teStat te != tsStopping) = false := by
    rcases hstat with h | h | h <;> simp [h]
  simp [execTldComplete, hload, hruns, hclean]

/-! ### TST -/

/-- The engine whose rows a TST wrote: they are outstanding, and the generator has moved past them where it is asked to. -/
def Engine.stored (e : Engine) (w : Nat) (hd : Handle) (ws : List (Nat × List Byte)) : Engine :=
  (e.written ws).setGen (bits w 20 3)
    (if bit w 24 then (e.gen (bits w 20 3)).advance hd.rows else e.gen (bits w 20 3))

/-- A TST writes the rows of its handle, and its signature takes them in. -/
theorem execTst_writes {s : State} {te w : Nat} {hd : Handle} {ws : List (Nat × List Byte)}
    (hrun : s.runsWord te 0x21 w = true) (hhandle : (s.eng te).handle (bits w 16 4) = some hd)
    (hready : (s.eng te).ready hd = true)
    (hws : ws = (s.eng te).storeRows hd ((s.eng te).gen (bits w 20 3)) (bit w 24))
    (hpass : s.firstRefusal (.engine te) true ((writeRequests ws).map (fun r => (r.1, r.2.length))) = none)
    (hungated : (writeRequests ws).all (fun r => (s.publicAt r.1).isNone) = true) :
    ∃ v, (v = s ∨ ∃ x, v = s.fset F.teSig_signature (te / 16) (te % 16) 0 x) ∧
      execTst te .clean s =
        .next (((v.setEng te ((s.eng te).written ws)).setEng te ((s.eng te).stored w hd ws)).teAdvance te) := by
  have hwrites := State.teWrites_done (te := te) hpass hungated
  have hsigned := State.foldSignature_cases (s.setEng te ((s.eng te).written ws)) te ws true
  simp only [if_true] at hsigned
  have hdone : ∀ u : State, (s.setEng te ((s.eng te).written ws)).foldSignature te ws = u →
      u.eng te = (s.eng te).written ws →
      execTst te .clean s = .next ((u.setEng te ((s.eng te).stored w hd ws)).teAdvance te) := by
    intro u hu heng
    refine congrArg Host.Outcome.next (State.teRun_done hrun ?_)
    simp [hhandle, hready, State.upsetCorrected, ← hws, hwrites, hu, heng, Engine.stored]
  obtain h | ⟨x, h⟩ := hsigned
  · exact ⟨s, .inl rfl, hdone _ h (State.eng_setEng_same _ _ _)⟩
  · exact ⟨_, .inr ⟨x, rfl⟩, hdone _ h (State.eng_setEng_same _ _ _)⟩

/-- Settles O10. What an access does beside its bytes leaves its engine and memory alone; each form then changes its
engine's contents. -/
theorem engineMemoryInstructionsComplete : Obligations.EngineMemoryInstructionsComplete := by
  unfold Obligations.EngineMemoryInstructionsComplete
  refine ⟨?sld, ?sst, ?tld, ?tldComplete, ?tst⟩
  case sld =>
    rintro s te w _ hrun hfollowed rfl haligned hpass hclean hpublic
    refine ⟨_, (exec_sld te s).trans (execSld_reads hrun haligned hpass hclean), ?_⟩
    rw [State.fetchBytes_word haligned hpublic]
    have htraffic := (Traffic.refl s).fetchBytes (.engine te) ((s.eng te).scalarAddr w) 8
    have hmoves := ((htraffic.samePlace te (by decide)).setEng
      (e := (s.eng te).setReg (bits w 16 5) (leNat (s.ownView (.engine te) ((s.eng te).scalarAddr w)
        (s.bytesAt ((s.eng te).scalarAddr w) 8))))
      (by rw [htraffic.eng]; rfl) (by rw [htraffic.eng]; rfl)).teAdvance_movesTo hfollowed
    exact ⟨hmoves.eng.trans (by rw [State.eng_setEng_same]), hmoves.pc, hmoves.frame.mem.trans htraffic.mem⟩
  case sst =>
    intro s te w a hrun hfollowed ha haligned hpass hpublic
    obtain ⟨t, hexec, heng, hpc, -, -, -, hframe⟩ :=
      sst_completes hrun hfollowed ha haligned hpass (State.meetsMarked_of_publicAt_none te hpublic)
    exact ⟨t, hexec, heng, hpc, by rw [hframe]⟩
  case tld =>
    intro s te w hd ps hrun hfollowed hhandle hready hroom hps hpass
    refine ⟨_, (exec_tld te s).trans (execTld_issues hrun hhandle hready hroom hps hpass), ?_⟩
    have htraffic := (Traffic.refl s).fetchAll (.engine te) ps
    have hmoves := ((htraffic.samePlace te (by decide)).setEng
      (e := { (s.eng te).setGen (bits w 20 3) ((s.eng te).genBehind w hd) with
        loads := (s.eng te).loads ++ [s.loadOf te w hd ps] })
      (by rw [htraffic.eng]; rfl) (by rw [htraffic.eng]; rfl)).teAdvance_movesTo hfollowed
    rw [hmoves.eng, State.eng_setEng_same]
    refine ⟨List.dropLast_concat, ?_, Engine.gen_setGen _ _ _, hmoves.pc, hmoves.frame.mem.trans htraffic.mem⟩
    simp [State.loadOf]
  case tldComplete =>
    intro s te th l _ hload hclean hstat
    refine ⟨_, (exec_tldComplete te th s).trans (execTldComplete_lands hload hclean hstat), rfl, ?_, ?_, ?_⟩
    · exact (State.eng_fset _ _ _ _ _ _ _).trans (State.eng_setEng_same _ _ _)
    · rw [State.fget_fset_same _ _ _ _ _ _ (by decide), State.eng_fset, State.eng_setEng_same]
    · exact (sameRegsBut_setEng _ s te _).trans (sameRegsBut_fset _ F.teStatus_handle_ready _ _ _ _)
  case tst =>
    intro s te w hd ws hrun hfollowed hhandle hready hws hpass hungated
    obtain ⟨v, hv, hexec⟩ := execTst_writes hrun hhandle hready hws hpass hungated
    refine ⟨_, (exec_tst te .clean s).trans hexec, ?_⟩
    have hplace : SamePlace te s v ∧ v.mem = s.mem ∧ v.eng te = s.eng te := by
      obtain rfl | ⟨x, rfl⟩ := hv
      · exact ⟨.refl te _, rfl, rfl⟩
      · exact ⟨(SamePlace.refl te s).fset x (by decide), rfl, rfl⟩
    obtain ⟨hplace, hmem, heng⟩ := hplace
    have hmoves := ((hplace.setEng (e := (s.eng te).written ws) (by rw [heng]; rfl) (by rw [heng]; rfl)).setEng
      (e := (s.eng te).stored w hd ws) (by rw [State.eng_setEng_same]; rfl)
      (by rw [State.eng_setEng_same]; rfl)).teAdvance_movesTo hfollowed
    exact ⟨by rw [hmoves.eng, State.eng_setEng_same]; rfl, hmoves.frame.mem.trans hmem, hmoves.pc⟩

end Sys2Proof.Machine
end

section
/-! PROOFS. Outstanding writes that reach their targets without a refusal (R126, R129, R199): they leave their engine's
place and its other contents alone. -/

namespace Sys2Proof.Machine

/-! ### The gate's registers -/

/-- Offsets among which those of CG_BUF_STATUS lie, whatever buffer is named. -/
def isStatusOffset (o : Nat) : Bool := o % 0x20 == 0x18

/-- The offsets of registers that the gate moves with a granule's state: CG_TVT_ENTRY, CG_TVT_WRITERS and CG_EVENTS, and
among others CG_COUNTS and CG_BUF_STATUS. -/
def isGateOffset (o : Nat) : Bool := o == 0x380108 || o == 0x380110 || o == 0x380020 || isStatusOffset o

/-- The offsets of registers that a write moves on its way to its target. -/
def isLandOffset (o : Nat) : Bool := isCountOffset o || isGateOffset o

theorem isStatusOffset_bufStatus (b : Nat) :
    isStatusOffset ((F.cgBufStatus_open.off + b * F.cgBufStatus_open.stride) % 0x1000000) = true := by
  simp only [isStatusOffset, F.cgBufStatus_open, beq_iff_eq]
  omega

/-- A granule takes its state after its buffer's counts moved. -/
theorem State.setGranState_eq (s : State) (d b e st : Nat) : ∃ v, Beside isStatusOffset s v ∧
    (∃ regs, v = { s with regs }) ∧ s.setGranState d b e st = v.fset F.cgTvtEntry_state d 0 e st := by
  have hstep : ∀ (u : State) (f : Fld) (n : Nat), f.off = F.cgBufStatus_open.off →
      f.stride = F.cgBufStatus_open.stride → Beside isStatusOffset s u → (∃ regs, u = { s with regs }) →
      Beside isStatusOffset s (u.fset f d b 0 n) ∧ ∃ regs, u.fset f d b 0 n = { s with regs } := by
    rintro u f n hoff hstride hu ⟨regs, rfl⟩
    exact ⟨hu.fset _ _ (by rw [hoff, hstride]; exact isStatusOffset_bufStatus b), _, rfl⟩
  unfold State.setGranState
  extract_lets old s₁ s₂
  have h₁ : Beside isStatusOffset s s₁ ∧ ∃ regs, s₁ = { s with regs } := by
    unfold s₁
    split_ifs
    · exact hstep s F.cgBufStatus_open _ rfl rfl (.refl _ s) ⟨s.regs, rfl⟩
    · exact hstep s F.cgBufStatus_marked _ rfl rfl (.refl _ s) ⟨s.regs, rfl⟩
    · exact ⟨.refl _ s, s.regs, rfl⟩
  have h₂ : Beside isStatusOffset s s₂ ∧ ∃ regs, s₂ = { s with regs } := by
    unfold s₂
    split_ifs
    · exact hstep s₁ F.cgBufStatus_open _ rfl rfl h₁.1 h₁.2
    · exact hstep s₁ F.cgBufStatus_marked _ rfl rfl h₁.1 h₁.2
    · exact h₁
  exact ⟨s₂, h₂.1, h₂.2, rfl⟩

namespace Beside

variable {s u : State}

theorem setGranState (h : Beside isGateOffset s u) (d b e st : Nat) :
    Beside isGateOffset s (u.setGranState d b e st) := by
  obtain ⟨v, hv, -, heq⟩ := u.setGranState_eq d b e st
  rw [heq]
  exact (h.trans (hv.mono fun o ho => by simp [isGateOffset, ho])).fset _ _ (by decide)

theorem takeGranule (h : Beside isGateOffset s u) (j d b g : Nat) : Beside isGateOffset s (u.takeGranule j d b g) := by
  unfold State.takeGranule
  extract_lets e s₁ s₂ s₃ s₄ x tok s₅ s₆
  have h₄ : Beside isGateOffset s s₄ :=
    (((h.setGranState d b e gOpen).fset e j (f := F.cgTvtEntry_owner) (by decide)).fset e 0
      (f := F.cgTvtWriters_ranks) (by decide)).fset e 0 (f := F.cgTvtEntry_marks_rcvd) (by decide)
  have h₆ : Beside isGateOffset s s₆ :=
    (h₄.fset e _ (f := F.cgTvtEntry_bound) (i := 0) (by decide)).fset e _ (f := F.cgTvtEntry_token) (i := 0) (by decide)
  exact h₆.update

theorem store {P : Nat → Bool} (h : Beside P s u) (a : Nat) (bs : List Byte) : Beside P s (u.store a bs) := by
  rw [State.store, State.clearPoison]
  split <;> exact h.update

theorem tagLines {P : Nat → Bool} (h : Beside P s u) (secure : Bool) (a n : Nat) :
    Beside P s (u.tagLines secure a n) := ite h.update h

theorem gateWrite (h : Beside isGateOffset s u) (te j d b a : Nat) (bs : List Byte) :
    Beside isGateOffset s (u.gateWrite (.engine te) j d b a bs).1 := by
  unfold State.gateWrite
  extract_lets g e s₁ f o s₂ s₃ off x s₄
  have h₁ : Beside isGateOffset s s₁ := ite (h.takeGranule j d b g) h
  have h₂ : Beside isGateOffset s s₂ := ite (h₁.fset _ _ (by decide)) h₁
  have h₃ : Beside isGateOffset s s₃ := h₂.fset _ _ (by decide)
  split_ifs
  · exact h
  · exact h
  · exact h
  · exact h₃.update
  · exact (store (u := s₄) h₃.update _ _).tagLines _ _ _

theorem placeWrite (h : Beside isGateOffset s u) (te a : Nat) (bs : List Byte) :
    Beside isGateOffset s (u.placeWrite (.engine te) a bs).1 := by
  rw [State.placeWrite]
  split
  next j d b _ _ =>
    generalize granPieces a bs.length = ps
    suffices hfold : ∀ acc : State × GateWrite, Beside isGateOffset s acc.1 → Beside isGateOffset s
        (ps.foldl (fun acc p =>
          let r := acc.1.gateWrite (.engine te) j d b p.1 ((bs.drop (p.1 - a)).take p.2)
          (r.1, if acc.2 = .marked then .marked else r.2)) acc).1 from hfold (u, .done) h
    induction ps with
    | nil => exact fun _ hacc => hacc
    | cons p ps ih => exact fun acc hacc => ih _ (hacc.gateWrite te j d b p.1 _)
  · exact (h.store a bs).tagLines _ _ _

/-- A write that is not refused lands. -/
theorem landWrite (h : Beside isLandOffset s u) {te : Nat} {w : Nat × List Byte}
    (hlands : (u.landWrite te w).2 = false) : Beside isLandOffset s (u.landWrite te w).1 := by
  have hcount : ∀ {v t : State}, Beside isCountOffset v t → Beside isLandOffset v t :=
    fun hv => hv.mono fun o ho => by simp [isLandOffset, ho]
  have hgate : ∀ {v t : State}, Beside isGateOffset v t → Beside isLandOffset v t :=
    fun hv => hv.mono fun o ho => by simp [isLandOffset, ho]
  rw [State.landWrite] at hlands ⊢
  split at hlands
  · exact absurd hlands (by simp)
  next hpass =>
    dsimp only at hlands ⊢
    split_ifs at hlands ⊢
    have htraffic := (((Traffic.refl u).notePosted (.engine te) w.1).countLines (.engine te) w.1 w.2.length).takeTokens
      (.engine te) w.1 w.2.length
    exact (h.trans (hcount htraffic.toBeside)).trans (hgate ((refl _ _).placeWrite te w.1 w.2))

end Beside

/-! ### All outstanding writes -/

/-- Writes none of which is refused leave what is not on their way. -/
theorem State.beside_landWrites {s u : State} {te : Nat} {which : Nat × List Byte → Bool}
    (h : s.landWrites te which = (u, false)) :
    Beside isLandOffset (s.setEng te { s.eng te with writes := (s.eng te).writes.filter (fun w => !which w) }) u := by
  rw [State.landWrites] at h
  generalize s.setEng te { s.eng te with writes := (s.eng te).writes.filter (fun w => !which w) } = v at h ⊢
  generalize (s.eng te).writes.filter which = ws at h
  suffices hfold : ∀ (ws : List (Nat × List Byte)) (acc : State × Bool),
      (ws.foldl (fun acc w =>
        let r := acc.1.landWrite te w
        (r.1, acc.2 || r.2)) acc).2 = false →
      acc.2 = false ∧ Beside isLandOffset acc.1 (ws.foldl (fun acc w =>
        let r := acc.1.landWrite te w
        (r.1, acc.2 || r.2)) acc).1 by
    have := (hfold ws (v, false) (by rw [h])).2
    rwa [h] at this
  clear h
  intro ws
  induction ws with
  | nil => exact fun acc hacc => ⟨hacc, .refl _ _⟩
  | cons w ws ih =>
    intro acc hacc
    obtain ⟨hw, hrest⟩ := ih _ hacc
    obtain ⟨hacc, hlands⟩ := Bool.or_eq_false_iff.1 hw
    exact ⟨hacc, ((Beside.refl _ acc.1).landWrite hlands).trans hrest⟩

theorem SamePlace.trans {te : Nat} {s u t : State} (h : SamePlace te s u) (h' : SamePlace te u t) : SamePlace te s t :=
  ⟨h'.pc.trans h.pc, h'.loops.trans h.loops, h'.program.trans h.program⟩

section
variable {s u : State} {te : Nat} {which : Nat × List Byte → Bool} (h : s.landWrites te which = (u, false))
include h

/-- An engine whose writes landed stands where it stood. -/
theorem State.samePlace_landWrites : SamePlace te s u :=
  ((SamePlace.refl te s).setEng (e := { s.eng te with writes := (s.eng te).writes.filter (fun w => !which w) }) rfl
    rfl).trans ((State.beside_landWrites h).samePlace te (by decide))

theorem State.teStat_landWrites : u.teStat te = s.teStat te := (State.beside_landWrites h).fgetTe 0 (by decide)

theorem State.eng_landWrites :
    u.eng te = { s.eng te with writes := (s.eng te).writes.filter (fun w => !which w) } := by
  rw [(State.beside_landWrites h).eng, State.eng_setEng_same]

theorem State.teSync_landed (hgo : u.teStalled te = false) (go : State → TeResult) : s.teSync te which go = go u := by
  simp [State.teSync, h, hgo]

end

/-! ### One outstanding write -/

/-- The state in which a write that the checks pass is placed: it is numbered where it is posted, and counted. -/
def State.arriving (s : State) (te : Nat) (w : Nat × List Byte) : State :=
  ((s.notePosted (.engine te) w.1).countLines (.engine te) w.1 w.2.length).takeTokens (.engine te) w.1 w.2.length

theorem Traffic.arriving (s : State) (te : Nat) (w : Nat × List Byte) : Traffic s (s.arriving te w) :=
  (((Traffic.refl s).notePosted _ _).countLines _ _ _).takeTokens _ _ _

/-- The state in which an engine's one outstanding write is placed. -/
def State.arrivingOnly (s : State) (te : Nat) (w : Nat × List Byte) : State :=
  (s.setEng te { s.eng te with writes := [] }).arriving te w

theorem Traffic.arrivingOnly (s : State) (te : Nat) (w : Nat × List Byte) :
    Traffic (s.setEng te { s.eng te with writes := [] }) (s.arrivingOnly te w) := Traffic.arriving _ te w

/-- Checks do not hang on engines' own states. -/
theorem State.checkAccess_setEng (s : State) (te : Nat) (e : Engine) (who : Initiator) (write : Bool) (a n : Nat) :
    (s.setEng te e).checkAccess who write a n = s.checkAccess who write a n := by rfl

/-- An engine's one outstanding write that the checks pass, and that meets no granule that is MARKED, is placed. -/
theorem State.landWrites_single {s : State} {te a : Nat} {bs : List Byte} (hwrites : (s.eng te).writes = [(a, bs)])
    (hpass : s.checkAccess (.engine te) true a bs.length = .pass)
    (hunmarked : ((s.arrivingOnly te (a, bs)).placeWrite (.engine te) a bs).2 ≠ .marked) :
    s.landWrites te (fun _ => true) = (((s.arrivingOnly te (a, bs)).placeWrite (.engine te) a bs).1, false) := by
  have hpass' : (s.setEng te { s.eng te with writes := [] }).checkAccess (.engine te) true a bs.length = .pass :=
    (State.checkAccess_setEng s te _ _ _ _ _).trans hpass
  have hlands : (s.setEng te { s.eng te with writes := [] }).landWrite te (a, bs) =
      (((s.arrivingOnly te (a, bs)).placeWrite (.engine te) a bs).1, false) := by
    rw [State.landWrite, hpass']
    exact if_neg hunmarked
  simp [State.landWrites, hwrites, hlands]

/-- A write that no gate takes goes straight to its place. -/
theorem State.placeWrite_ungated {s : State} {who : Initiator} {a : Nat} (bs : List Byte)
    (h : s.publicAt a = none ∨ s.jobOf who = none) :
    s.placeWrite who a bs = ((s.store a bs).tagLines (s.secureAccess who) a bs.length, .done) := by
  rw [State.placeWrite]
  obtain h | h := h
  · rw [h]
    cases s.jobOf who <;> rfl
  · rw [h]

/-! ### The bytes of a write -/

theorem State.bytesAt_eq_map (s : State) (a n : Nat) : s.bytesAt a n = (List.range n).map fun i => s.byteAt (a + i) := by
  induction n generalizing a with
  | zero => rfl
  | succ n ih =>
    have hnext (i : Nat) : a + 1 + i = a + i.succ := Nat.succ_add_eq_add_succ a i
    simp only [State.bytesAt, ih, List.range_succ_eq_map, List.map_cons, List.map_map, Nat.add_zero, hnext,
      Function.comp_def]

theorem State.bytesAt_store {s : State} {a : Nat} {bs : List Byte} (h : storeRises s.mem = true) :
    (s.store a bs).bytesAt a bs.length = bs := by
  rw [State.bytesAt_eq_map]
  refine List.ext_getElem (by simp) fun i hi _ => ?_
  simpa using State.byteAt_store_same a i bs h (by simpa using hi)

@[simp] theorem State.tagLines_mem (s : State) (secure : Bool) (a n : Nat) : (s.tagLines secure a n).mem = s.mem := by
  rw [State.tagLines]
  split <;> rfl

@[simp] theorem State.tagLines_opens (s : State) (secure : Bool) (a n : Nat) :
    (s.tagLines secure a n).opens = s.opens := by
  rw [State.tagLines]
  split <;> rfl

@[simp] theorem State.store_opens (s : State) (a : Nat) (bs : List Byte) : (s.store a bs).opens = s.opens := by
  rw [State.store, State.clearPoison]
  split <;> rfl

theorem State.bytesAt_congr {s t : State} (h : t.mem = s.mem) (a n : Nat) : t.bytesAt a n = s.bytesAt a n := by
  rw [State.bytesAt_eq_map, State.bytesAt_eq_map]
  simp [State.byteAt, h]

/-- An engine without outstanding writes waits for none. -/
theorem State.Executes.landWrites_nil {s : State} {te w : Nat} (h : s.Executes te w) (hwrites : (s.eng te).writes = [])
    (which : Nat × List Byte → Bool) : s.landWrites te which = (s, false) := by
  have hself : ({ s.eng te with writes := [] } : Engine) = s.eng te := by rw [← hwrites]
  simp [State.landWrites, hwrites, hself, h.setEng_self]

end Sys2Proof.Machine
end

section
/-! PROOFS. WAIT, SIGNAL, BAR and FENCE with the events that end their waits (R137, R138, R243, R482). -/

namespace Sys2Proof.Machine

theorem exec_wait (te : Nat) (s : State) : exec (.wait te) s = execWait te s := by rfl
theorem exec_waitTimeout (te : Nat) (s : State) : exec (.waitTimeout te) s = execWaitTimeout te s := by rfl
theorem exec_signal (te : Nat) (s : State) : exec (.signal te) s = execSignal te s := by rfl
theorem exec_eventFlagArrival (te flag : Nat) (s : State) :
    exec (.eventFlagArrival te flag) s = execEventFlagArrival te flag s := by rfl
theorem exec_bar (te : Nat) (s : State) : exec (.bar te) s = execBar te s := by rfl
theorem exec_barrierRelease (job barrier : Nat) (s : State) :
    exec (.barrierRelease job barrier) s = execBarrierRelease job barrier s := by rfl
theorem exec_barrierTimeout (te : Nat) (s : State) : exec (.barrierTimeout te) s = execBarrierTimeout te s := by rfl
theorem exec_fence (te : Nat) (s : State) : exec (.fence te) s = execFence te s := by rfl

/-! ### The job of an engine -/

theorem State.teJobOf_congr {s u : State} {te : Nat}
    (hjob : u.fget F.teJob_job_ctx (te / 16) (te % 16) 0 = s.fget F.teJob_job_ctx (te / 16) (te % 16) 0)
    (hheld : u.fget F.secHoldMap_held 4 0 0 = s.fget F.secHoldMap_held 4 0 0) (hgft : u.gft = s.gft)
    (hsched : u.sched = s.sched) : u.teJobOf te = s.teJobOf te := by
  have htesting : u.testing te = s.testing te := by rw [State.testing, State.testing, State.gftOf, State.gftOf, hgft]
  have hblock : u.blockHeld (te / 2) = s.blockHeld (te / 2) := by rw [State.blockHeld, State.blockHeld, hheld]
  have hbooks : ∀ j, u.job? j = s.job? j := fun j => by rw [State.job?, State.job?, hsched]
  rw [State.teJobOf, State.teJobOf, hjob, htesting, hblock, State.job, State.job, hbooks]

theorem State.job?_isSome_of_teJobOf {s : State} {te j : Nat} (h : s.teJobOf te = some j) :
    (s.job? j).isSome = true := by
  simp only [State.teJobOf, Option.ite_none_right_eq_some, Bool.and_eq_true, Option.some.injEq] at h
  obtain ⟨⟨⟨-, hsome⟩, -⟩, rfl⟩ := h
  exact hsome

/-- SEC_HOLD_MAP is not a TE_STATUS. -/
theorem fldAddr_secHoldMap_ne (te : Nat) :
    fldAddr F.secHoldMap_held 4 0 0 ≠ fldAddr F.teStatus_state (te / 16) (te % 16) 0 := by
  intro h
  have hoffset := congrArg regOffset h
  simp only [regOffset_fldAddr, F.secHoldMap_held, F.teStatus_state] at hoffset
  omega

/-- An engine's job hangs on no TE_STATUS and on no engine's own state. -/
theorem EnginesOnly.teJobOf {s u : State} {te : Nat} (hframe : EnginesOnly s u)
    (hregs : sameRegsBut [fldAddr F.teStatus_state (te / 16) (te % 16) 0] s u) : u.teJobOf te = s.teJobOf te := by
  have hgft : u.gft = s.gft := by rw [hframe.eq]
  have hsched : u.sched = s.sched := by rw [hframe.eq]
  refine State.teJobOf_congr ?_ ?_ hgft hsched
  · rw [State.fget, State.fget, hregs]
    simp [fldAddr, F.teJob_job_ctx, F.teStatus_state]
  · rw [State.fget, State.fget, hregs]
    simpa using fldAddr_secHoldMap_ne te

/-! ### WAIT -/

theorem wait_met_iff {w flags mask : Nat} :
    (if bit w 32 then Nat.land flags mask == mask else Nat.land flags mask != 0) = true ↔
      if bit w 32 then Nat.land flags mask = mask else Nat.land flags mask ≠ 0 := by
  split_ifs <;> simp

/-- From u to t an engine waits: its time counts from the moment when it began. -/
structure Waits (te : Nat) (u t : State) : Prop where
  frame : EnginesOnly u t
  eng : t.eng te =
    { u.eng te with waitFrom := if u.teStat te = tsWaiting then (u.eng te).waitFrom else u.periods }
  stat : t.teStat te = tsWaiting
  pc : t.tePc te = u.tePc te
  regs : sameRegsBut [fldAddr F.teStatus_state (te / 16) (te % 16) 0] u t

theorem State.teWaits_waits (u : State) (te : Nat) : Waits te u (u.teWaits te) := by
  rw [State.teWaits]
  split_ifs with hwaits
  · exact ⟨.refl u, by rw [if_pos hwaits], hwaits, rfl, fun _ _ => rfl⟩
  · exact
      { frame := ((EnginesOnly.refl u).setEng _ _).fset _ _ _ _ _
        eng := by rw [if_neg hwaits]; exact State.eng_setEng_same _ _ _
        stat := State.fget_fset_same _ _ _ _ _ _ (by decide)
        pc := State.fget_fset_spared _ _ _ _ _ (by decide)
        regs := (sameRegsBut_setEng _ u te _).trans (sameRegsBut_fset _ _ _ _ _ _) }

theorem execWait_stops {s : State} {te w : Nat} (hrun : s.runsWord te 0x50 w = true)
    (hunmet : ¬ if bit w 32 then Nat.land (s.eng te).flags (bits w 16 16) = bits w 16 16
      else Nat.land (s.eng te).flags (bits w 16 16) ≠ 0) : execWait te s = .next (s.teWaits te) := by
  refine congrArg Host.Outcome.next ((State.teRun_eq_ending hrun _).trans ?_)
  dsimp only
  rw [if_neg (mt wait_met_iff.1 hunmet)]
  rfl

theorem State.timedOut_of_le {s : State} {te w : Nat}
    (h : bits w 40 24 ≠ 0 ∧ (s.eng te).waitFrom + bits w 40 24 ≤ s.periods) : s.timedOut te w = true := by
  simp [State.timedOut, h.1, h.2]

/-! ### SIGNAL and its arrival -/

theorem execSignal_sends {s u : State} {te w j target : Nat} (hrun : s.runsWord te 0x51 w = true)
    (hjob : s.teJobOf te = some j)
    (htarget : (if bit w 26 then (s.boundRing (te / 16) (bits w 27 2) j).map (· + 64)
      else s.rankEngine j (bits w 16 6)) = some target)
    (hlanded : s.landWrites te (fun _ => true) = (u, false)) (hgo : u.teStalled te = false) :
    execSignal te s = .next
      (({ u with signals := u.signals ++ [⟨te, target, bits w 22 4⟩] } : State).teAdvance te) := by
  refine congrArg Host.Outcome.next (State.teRun_done hrun ?_)
  dsimp only
  rw [hjob]
  dsimp only
  rw [htarget]
  exact State.teSync_landed hlanded hgo _

theorem takeFlight_length {target flag : Nat} {before flights rest : List Flight}
    (h : takeFlight target flag before flights = some rest) :
    before.length + flights.length = rest.length + 1 := by
  induction flights generalizing before with
  | nil => simp [takeFlight] at h
  | cons x flights ih =>
    rw [takeFlight] at h
    split_ifs at h
    · obtain rfl := Option.some.inj h
      simp only [List.length_append, List.length_cons]
      omega
    · have := ih h
      simp only [List.length_append, List.length_cons, List.length_nil] at this ⊢
      omega

/-! ### BAR and its release -/

/-- An engine's arrival at a barrier, behind those that are there, in its job's record. -/
def State.arriveAt (s : State) (te w : Nat) (here : List Nat) (x : Job) : Job :=
  { x with
    arrivals := storePut x.arrivals (bits w 16 8) (here ++ [s.teRank te * 64 + bits w 24 6])
    arrivedAt := storePut x.arrivedAt (s.teRank te) s.periods }

/-- A BAR at which its engine's rank has not arrived yet notes the arrival. -/
theorem execBar_arrives {s u : State} {te w j : Nat} (hrun : s.runsWord te 0x52 w = true)
    (hlanded : s.landWrites te (fun _ => true) = (u, false)) (hgo : u.teStalled te = false)
    (hjob : (u.teWaits te).teJobOf te = some j)
    (hnew : (storeGet [] ((u.teWaits te).job j).arrivals (bits w 16 8)).any
      (fun a => a / 64 == (u.teWaits te).teRank te) = false) :
    execBar te s = .next ((u.teWaits te).modJob j ((u.teWaits te).arriveAt te w
      (storeGet [] ((u.teWaits te).job j).arrivals (bits w 16 8)))) := by
  refine congrArg Host.Outcome.next ((State.teRun_eq_ending hrun _).trans ?_)
  dsimp only
  rw [State.teSync_landed hlanded hgo, hjob]
  dsimp only
  rw [if_neg (by rw [hnew]; simp)]
  rfl

/-- From u to t, one engine goes on in sequence. -/
structure GoesOn (te : Nat) (u t : State) : Prop where
  pc : t.tePc te = (u.nextPlace te).1 % 4096
  stat : t.teStat te = tsRunning

/-- What a release does at one arrival: the engine of its rank goes on, where it waits. -/
def State.releaseRank (job : Nat) (s : State) (a : Nat) : State :=
  match s.rankEngine job (a / 64) with
  | none => s
  | some te => if s.teStat te = tsWaiting then s.teAdvance te else s

/-- The books of a released barrier. -/
def State.released (s : State) (job barrier : Nat) (here : List Nat) : State :=
  (s.modJob job (fun x => { x with arrivals := storeDrop x.arrivals barrier })).logRelease job (here.map (· / 64))

theorem execBarrierRelease_releases {s : State} {job barrier : Nat} {here : List Nat}
    (hhere : here = storeGet [] (s.job job).arrivals barrier) (hne : here ≠ [])
    (hall : here.all (fun a => a % 64 + 1 ≤ here.length) = true) :
    execBarrierRelease job barrier s = .next (here.foldl (State.releaseRank job) (s.released job barrier here)) := by
  have hcond : (!here.isEmpty && here.all (fun a => a % 64 + 1 ≤ here.length)) = true := by
    rw [hall]
    simp [hne]
  rw [execBarrierRelease, ← hhere]
  exact if_pos hcond

theorem State.released_sched (s : State) (job barrier : Nat) (here : List Nat) :
    ∃ sched, s.released job barrier here = { s with sched } := by
  rw [State.released, State.logRelease]
  obtain ⟨sched, h⟩ := s.modJob_sched job fun x => { x with arrivals := storeDrop x.arrivals barrier }
  rw [h]
  exact State.modJob_sched _ _ _

theorem State.ranks_released {s : State} {job barrier : Nat} {here : List Nat} (h : (s.job? job).isSome = true) :
    ((s.released job barrier here).job job).ranks = (s.job job).ranks := by
  have h' : ((s.modJob job fun x => { x with arrivals := storeDrop x.arrivals barrier }).job? job).isSome = true := by
    rw [State.job?_modJob_same, Option.isSome_map, h]
  rw [State.released, State.logRelease, State.job_modJob_same h', State.job_modJob_same h]

theorem State.arrivals_released {s : State} {job barrier : Nat} {here : List Nat} (h : (s.job? job).isSome = true) :
    ((s.released job barrier here).job job).arrivals = storeDrop (s.job job).arrivals barrier := by
  have h' : ((s.modJob job fun x => { x with arrivals := storeDrop x.arrivals barrier }).job? job).isSome = true := by
    rw [State.job?_modJob_same, Option.isSome_map, h]
  rw [State.released, State.logRelease, State.job_modJob_same h', State.job_modJob_same h]

/-- From u to t an engine's place and its state stay. -/
structure Stays (te : Nat) (u t : State) : Prop extends SamePlace te u t where
  stat : t.teStat te = u.teStat te

theorem Stays.trans {te : Nat} {s u t : State} (h : Stays te s u) (h' : Stays te u t) : Stays te s t :=
  ⟨h.toSamePlace.trans h'.toSamePlace, h'.stat.trans h.stat⟩

theorem fldAddr_teStatus_ne {te n : Nat} (hte : te < 64) (hn : n < 64) (h : n ≠ te) :
    fldAddr F.teStatus_state (n / 16) (n % 16) 0 ≠ fldAddr F.teStatus_state (te / 16) (te % 16) 0 := by
  simp only [fldAddr, regBase, F.teStatus_state]
  omega

/-- Where one engine goes on, another stays. -/
theorem MovesTo.stays {te n pc : Nat} {loops : List (Nat × Nat × Nat)} {u t : State} (h : MovesTo te pc loops u t)
    (hte : te < 64) (hn : n < 64) (hne : n ≠ te) : Stays n u t := by
  have hreg := h.regs (fldAddr F.teStatus_state (n / 16) (n % 16) 0) (by simpa using fldAddr_teStatus_ne hte hn hne)
  exact ⟨⟨congrArg (bits · 4 12) hreg, by rw [h.others n hne], by rw [h.others n hne]⟩, congrArg (bits · 0 4) hreg⟩

theorem EnginesOnly.rankEngine {s u : State} (h : EnginesOnly s u) (job r : Nat) :
    u.rankEngine job r = s.rankEngine job r := by
  rw [h.eq]
  rfl

/-- The engine of an arrival. -/
abbrev State.arrived (s : State) (job : Nat) (here : List Nat) : List Nat :=
  here.filterMap fun a => s.rankEngine job (a / 64)

/-- The release lets the engines of the arrivals go on, and every other engine stays. -/
theorem State.foldl_releaseRank {job : Nat} {here : List Nat} {u : State} (hnodup : (u.arrived job here).Nodup)
    (hready : ∀ te ∈ u.arrived job here, te < 64 ∧ u.teStat te = tsWaiting ∧ u.followed te = true) :
    EnginesOnly u (here.foldl (State.releaseRank job) u) ∧
      (∀ te < 64, te ∉ u.arrived job here → Stays te u (here.foldl (State.releaseRank job) u)) ∧
      ∀ te ∈ u.arrived job here, GoesOn te u (here.foldl (State.releaseRank job) u) := by
  induction here generalizing u with
  | nil => exact ⟨.refl u, fun te _ _ => ⟨.refl te u, rfl⟩, fun te hte => absurd hte List.not_mem_nil⟩
  | cons a here ih =>
    cases hrank : u.rankEngine job (a / 64) with
    | none =>
      have harrived : u.arrived job (a :: here) = u.arrived job here := List.filterMap_cons_none hrank
      rw [harrived] at hnodup hready ⊢
      have hstep : u.releaseRank job a = u := by rw [State.releaseRank, hrank]
      rw [List.foldl_cons, hstep]
      exact ih hnodup hready
    | some te =>
      have harrived : u.arrived job (a :: here) = te :: u.arrived job here := List.filterMap_cons_some hrank
      rw [harrived] at hnodup hready ⊢
      obtain ⟨hnew, hnodup⟩ := List.nodup_cons.1 hnodup
      obtain ⟨hte, hwaits, hfollowed⟩ := hready te List.mem_cons_self
      have hmoves : MovesTo te (u.nextPlace te).1 (u.nextPlace te).2 u (u.releaseRank job a) := by
        have hstep : u.releaseRank job a = u.teAdvance te := by
          simp only [State.releaseRank, hrank]
          exact if_pos hwaits
        rw [hstep]
        exact (SamePlace.refl te u).teAdvance_movesTo hfollowed
      rw [List.foldl_cons]
      generalize u.releaseRank job a = v at hmoves ⊢
      have hsame : v.arrived job here = u.arrived job here :=
        List.filterMap_congr fun a _ => hmoves.frame.rankEngine job (a / 64)
      have hstays : ∀ n < 64, n ≠ te → Stays n u v := fun n hn hne => hmoves.stays hte hn hne
      have hlt : ∀ n ∈ u.arrived job here, n < 64 ∧ n ≠ te := fun n hn =>
        ⟨(hready n (List.mem_cons_of_mem te hn)).1, fun h => hnew (h ▸ hn)⟩
      obtain ⟨hframe, hothers, hgo⟩ := ih (u := v) (hsame ▸ hnodup) (by
        intro n hn
        rw [hsame] at hn
        obtain ⟨hn64, hnwaits, hnfollowed⟩ := hready n (List.mem_cons_of_mem te hn)
        have hn' := hstays n hn64 (hlt n hn).2
        exact ⟨hn64, hn'.stat.trans hnwaits, hn'.followed.trans hnfollowed⟩)
      rw [hsame] at hothers hgo
      refine ⟨hmoves.frame.trans hframe, fun n hn hnot => ?_, fun n hn => ?_⟩
      · obtain ⟨hne, hrest⟩ := not_or.1 (mt List.mem_cons.2 hnot)
        exact (hstays n hn hne).trans (hothers n hn hrest)
      · obtain rfl | hn := List.mem_cons.1 hn
        · have hlast := hothers n hte hnew
          exact ⟨hlast.pc.trans hmoves.pc, hlast.stat.trans (hmoves.stat (.inr hwaits))⟩
        · have hplace := (hstays n (hlt n hn).1 (hlt n hn).2).nextPlace
          exact ⟨hplace ▸ (hgo n hn).pc, (hgo n hn).stat⟩

/-! ### Faults of an engine with nothing outstanding -/

/-- TE_STATUS and TE_FAULT of an engine that stops in FAULTED with a code. -/
def State.showFault (s : State) (te : Nat) (c : ErrCode) : State :=
  let s := s.fset F.teStatus_state (te / 16) (te % 16) 0 tsFaulted
  let s := s.fset F.teFault_code (te / 16) (te % 16) 0 c.code
  let s := s.fset F.teFault_pc (te / 16) (te % 16) 0 (s.tePc te)
  s.fset F.teFault_valid (te / 16) (te % 16) 0 1

theorem State.showFault_regs (s : State) (te : Nat) (c : ErrCode) : ∃ regs, s.showFault te c = { s with regs } :=
  ⟨_, rfl⟩

theorem State.teStat_showFault (s : State) (te : Nat) (c : ErrCode) : (s.showFault te c).teStat te = tsFaulted := by
  rw [State.teStat, State.showFault, State.fget_fset_spared _ _ _ _ _ (by decide),
    State.fget_fset_spared _ _ _ _ _ (by decide), State.fget_fset_spared _ _ _ _ _ (by decide),
    State.fget_fset_same _ _ _ _ _ _ (by decide)]
  rfl

theorem State.teFault_code_showFault (s : State) (te : Nat) {c : ErrCode} (hc : c.code < 2 ^ 16) :
    (s.showFault te c).fget F.teFault_code (te / 16) (te % 16) 0 = c.code := by
  rw [State.showFault, State.fget_fset_spared _ _ _ _ _ (by decide), State.fget_fset_spared _ _ _ _ _ (by decide),
    State.fget_fset_same _ _ _ _ _ _ (by decide)]
  exact Nat.mod_eq_of_lt hc

theorem State.showFault_teJobOf (s : State) (te : Nat) (c : ErrCode) : (s.showFault te c).teJobOf te = s.teJobOf te := by
  have hbeside : Beside (fun o => o % 0x10000 == 0x10 || o % 0x10000 == 0x30) s (s.showFault te c) := by
    have hf : ∀ f : Fld, f.stride = 0x10000 → f.off % 0x10000 = 0x10 ∨ f.off % 0x10000 = 0x30 →
        ((f.off + te % 16 * f.stride) % 0x1000000 % 0x10000 == 0x10
          || (f.off + te % 16 * f.stride) % 0x1000000 % 0x10000 == 0x30) = true := by
      intro f hstride hoff
      rw [hstride, Bool.or_eq_true, beq_iff_eq, beq_iff_eq]
      omega
    exact ((((Beside.refl _ s).fset _ _ (hf _ rfl (.inl rfl))).fset _ _ (hf _ rfl (.inr rfl))).fset _ _
      (hf _ rfl (.inr rfl))).fset _ _ (hf _ rfl (.inr rfl))
  exact State.teJobOf_congr (hbeside.fgetTe 0 (by decide)) (hbeside.fget 0 (by decide)) rfl rfl

theorem State.teStop_of_jobless {s : State} {te : Nat} (c : ErrCode) (hjob : s.teJobOf te = none) :
    s.teStop te c = s.showFault te c := by
  rw [State.teStop]
  change (match (s.showFault te c).teJobOf te with | none => s.showFault te c | some j => _) = _
  rw [State.showFault_teJobOf, hjob]

theorem State.testIfDue_of_not_due {s : State} {te : Nat} (h : (s.gftOf te).due = false) : s.testIfDue te = s :=
  if_neg (by simp [h])

/-- An engine without a job and without outstanding writes that faults writes its record and shows its fault. -/
theorem State.Executes.teFault_eq {s : State} {te w : Nat} (h : s.Executes te w) (c : ErrCode)
    (hwrites : (s.eng te).writes = []) (hjob : s.teJobOf te = none) (hdue : (s.gftOf te).due = false) :
    s.teFault te c = (s.raiseRec (s.engineRec c te (s.engineJobGrave te))).showFault te c := by
  have hsettled : s.settleWrites te = s := congrArg Prod.fst (h.landWrites_nil hwrites _)
  rw [State.teFault, hsettled, State.teStop_of_jobless (s := s.raiseRec _) c hjob, State.testIfDue_of_not_due]
  exact hdue

/-! ### FENCE -/

/-- A FENCE whose writes landed reports them, and goes on. -/
theorem fence_completes {s u : State} {te w : Nat} (hrun : s.runsWord te 0x53 w = true)
    (hfollowed : s.followed te = true) (hlanded : s.landWrites te (fun _ => true) = (u, false))
    (hgo : u.teStalled te = false) :
    ∃ t, exec (.fence te) s = .next t ∧
      teStep te { u.eng te with preds := setBit (u.eng te).preds (bits w 16 3) (u.eng te).writesOk, writesOk := true }
        u t := by
  have hdone := State.teRun_done hrun (effect := fun w => s.teSync te (fun _ => true) (fun s =>
    .done (s.setEng te { s.eng te with
      preds := setBit (s.eng te).preds (bits w 16 3) (s.eng te).writesOk, writesOk := true })))
    (State.teSync_landed hlanded hgo _)
  have hstat := State.teStat_landWrites hlanded
  refine ⟨_, (exec_fence te s).trans (congrArg Host.Outcome.next hdone), ?_⟩
  exact State.teStep_teAdvance ((State.samePlace_landWrites hlanded).followed.trans hfollowed)
    (hstat ▸ (State.executes hrun).stat) rfl rfl

theorem teStalled_of_opens {s u : State} {te : Nat} (h : u.opens = s.opens) : u.teStalled te = s.teStalled te := by
  rw [State.teStalled, State.teStalled, h]

/-- A FENCE behind one outstanding write that is stored: its bytes stand where they were stored, and every other byte of
memory reads as before. -/
theorem fence_stores {s v : State} {te w x : Nat} {bs : List Byte} {secure : Bool} (hcanonical : s.canonical)
    (hrun : s.runsWord te 0x53 w = true) (hfollowed : s.followed te = true)
    (hlanded : s.landWrites te (fun _ => true) = ((v.store x bs).tagLines secure x bs.length, false))
    (hmem : v.mem = s.mem) (hgo : v.teStalled te = false) :
    ∃ t, exec (.fence te) s = .next t ∧ t.bytesAt x bs.length = bs ∧
      (∀ y, y < x ∨ x + bs.length ≤ y → t.byteAt y = s.byteAt y) ∧ (t.eng te).writes = [] ∧
      (t.eng te).preds = setBit (s.eng te).preds (bits w 16 3) (s.eng te).writesOk ∧
      t.tePc te = (s.nextPlace te).1 % 4096 := by
  have hrises : storeRises v.mem = true := by
    rw [hmem]
    exact ((Memory.wf_iff _).1 hcanonical.1).1
  have hgo' := (teStalled_of_opens (te := te) (s := v) (u := (v.store x bs).tagLines secure x bs.length)
    (by simp)).trans hgo
  obtain ⟨t, hexec, heng, hpc, -, -, -, hframe⟩ := fence_completes hrun hfollowed hlanded hgo'
  have hmem' : t.mem = (v.store x bs).mem := by
    rw [hframe]
    exact State.tagLines_mem _ _ _ _
  rw [State.eng_landWrites hlanded] at heng
  refine ⟨t, hexec, ?_, fun y hy => ?_, ?_, ?_, ?_⟩
  · rw [State.bytesAt_congr hmem', State.bytesAt_store hrises]
  · rw [State.byteAt, hmem']
    exact (State.byteAt_store_other x y bs hrises hy).trans (by rw [State.byteAt, State.byteAt, hmem])
  · rw [heng]
    simp
  · rw [heng]
  · rw [hpc, (State.samePlace_landWrites hlanded).nextPlace]

/-- An outstanding write that the checks pass and that no gate takes lands before the FENCE ends. -/
theorem fence_lands {s : State} {te w a : Nat} {bs : List Byte} (hcanonical : s.canonical)
    (hrun : s.runsWord te 0x53 w = true) (hfollowed : s.followed te = true) (hwrites : (s.eng te).writes = [(a, bs)])
    (hpass : s.checkAccess (.engine te) true a bs.length = .pass)
    (hungated : s.publicAt a = none ∨ s.jobOf (.engine te) = none) :
    ∃ t, exec (.fence te) s = .next t ∧ t.bytesAt a bs.length = bs ∧
      (∀ y, y < a ∨ a + bs.length ≤ y → t.byteAt y = s.byteAt y) ∧ (t.eng te).writes = [] ∧
      (t.eng te).preds = setBit (s.eng te).preds (bits w 16 3) (s.eng te).writesOk ∧
      t.tePc te = (s.nextPlace te).1 % 4096 := by
  have htraffic := Traffic.arrivingOnly s te (a, bs)
  have hplaced := State.placeWrite_ungated (s := s.arrivingOnly te (a, bs)) (who := .engine te) bs
    (hungated.imp (htraffic.publicAt a).trans (htraffic.jobOf te).trans)
  have hlanded := State.landWrites_single hwrites hpass (by rw [hplaced]; simp)
  rw [hplaced] at hlanded
  exact fence_stores hcanonical hrun hfollowed hlanded htraffic.mem
    ((teStalled_of_opens (s := s) htraffic.opens).trans (State.executes hrun).unstalled)

/-- Settles O13. Writes that land leave their engine's place alone, and a release moves every engine that arrived by
itself. -/
theorem synchronisationInstructionsComplete : Obligations.SynchronisationInstructionsComplete := by
  unfold Obligations.SynchronisationInstructionsComplete
  refine ⟨?wait, ?waitUnmet, ?waitTimeout, ?signal, ?arrival, ?bar, ?barrierRelease, ?barrierTimeout, ?fence,
    ?fenceLands⟩
  case wait =>
    intro s te w hrun hfollowed hmet
    exact ⟨_, exec_wait te s, State.teStep_teRun hrun hfollowed (if_pos (wait_met_iff.2 hmet))⟩
  case waitUnmet =>
    intro s te w hrun hunmet
    have hwaits := s.teWaits_waits te
    exact ⟨_, (exec_wait te s).trans (execWait_stops hrun (by rw [hunmet]; exact id)), hwaits.frame.eq, hwaits.eng,
      hwaits.stat, hwaits.pc, hwaits.regs⟩
  case waitTimeout =>
    intro s te w hrun hfollowed hwaits htime
    refine ⟨_, (exec_waitTimeout te s).trans (if_neg (by simp [hwaits])), State.teStep_teRun hrun hfollowed ?_⟩
    simp [State.timedOut_of_le htime]
  case signal =>
    rintro s te w j target u hrun hfollowed hjob htarget ⟨hlanded, hgo⟩
    refine ⟨_, (exec_signal te s).trans (execSignal_sends hrun hjob htarget hlanded hgo), ?_⟩
    have hsent : SamePlace te u { u with signals := u.signals ++ [⟨te, target, bits w 22 4⟩] } := ⟨rfl, rfl, rfl⟩
    have hmoves := hsent.teAdvance_movesTo ((State.samePlace_landWrites hlanded).followed.trans hfollowed)
    exact ⟨hmoves.frame.eq, hmoves.eng, hmoves.pc, hmoves.regs⟩
  case arrival =>
    intro s te flag fs htake
    have hlength := takeFlight_length htake
    refine ⟨({ s with signals := fs } : State).setFlag te flag, ?_, rfl, State.eng_setEng_same _ _ _, by simpa using hlength⟩
    rw [exec_eventFlagArrival, execEventFlagArrival, htake]
  case bar =>
    rintro s te w j u hrun ⟨hlanded, hgo⟩ hjob hnew
    have hwaits := u.teWaits_waits te
    have hjob' : (u.teWaits te).teJobOf te = some j := (hwaits.frame.teJobOf hwaits.regs).trans hjob
    have hsome : ((u.teWaits te).job? j).isSome = true := State.job?_isSome_of_teJobOf hjob'
    have hrank : (u.teWaits te).teRank te = u.teRank te := by
      rw [State.teRank, State.teRank, State.fget, State.fget, hwaits.regs]
      simp [fldAddr, F.teJob_rank, F.teStatus_state]
    have hbooks : (u.teWaits te).job j = u.job j := by rw [hwaits.frame.eq]; rfl
    refine ⟨_, (exec_bar te s).trans (execBar_arrives hrun hlanded hgo hjob' (by rw [hbooks, hrank, hnew])), ?_⟩
    rw [hbooks]
    obtain ⟨sched, hmod⟩ := (u.teWaits te).modJob_sched j
      ((u.teWaits te).arriveAt te w (storeGet [] (u.job j).arrivals (bits w 16 8)))
    refine ⟨?_, ?_, ?_, ?_, ?_, ?_⟩
    · rw [hmod, hwaits.frame.eq]
    · rw [hmod]
      exact hwaits.stat
    · rw [hmod]
      exact hwaits.pc
    · rw [hmod]
      exact hwaits.eng
    · rw [State.job_modJob_same hsome, State.arriveAt, storeGet_put_same, hrank]
    · rw [hmod]
      exact hwaits.regs
  case barrierRelease =>
    intro s job barrier here hhere hne hall hnodup hready
    have hsome : (s.job? job).isSome = true := by
      by_contra hnone
      have hempty : s.job job = { record := {} } := by simp [State.job, Option.not_isSome_iff_eq_none.1 hnone]
      exact hne (by rw [hhere, hempty]; rfl)
    have hrank : ∀ r, (s.released job barrier here).rankEngine job r = s.rankEngine job r := fun r => by
      rw [State.rankEngine, State.rankEngine, State.ranks_released hsome]
    have harrived : (s.released job barrier here).arrived job here = s.arrived job here :=
      List.filterMap_congr fun a _ => hrank (a / 64)
    have hready' : ∀ te ∈ s.arrived job here, te < 64 ∧ s.teStat te = tsWaiting ∧ s.followed te = true := by
      intro te hte
      obtain ⟨a, ha, hte⟩ := List.mem_filterMap.1 hte
      have := List.all_eq_true.1 hready a ha
      rw [hte] at this
      simpa [and_assoc] using this
    obtain ⟨sched, hbooks⟩ := s.released_sched job barrier here
    have hfold := State.foldl_releaseRank (u := s.released job barrier here) (job := job) (here := here)
      (by rwa [harrived]) (by rw [harrived, hbooks]; exact hready')
    rw [harrived] at hfold
    obtain ⟨hframe, -, hgo⟩ := hfold
    refine ⟨_, (exec_barrierRelease job barrier s).trans (execBarrierRelease_releases hhere hne hall), ?_, ?_, ?_⟩
    · refine List.all_eq_true.2 fun a ha => ?_
      cases hte : s.rankEngine job (a / 64) with
      | none => rfl
      | some te =>
        obtain ⟨hpc, hstat⟩ := hgo te (List.mem_filterMap.2 ⟨a, ha, hte⟩)
        have hplace : (s.released job barrier here).nextPlace te = s.nextPlace te := by rw [hbooks]; rfl
        rw [hplace] at hpc
        simp [hstat, hpc]
    · have hjobs : ((here.foldl (State.releaseRank job) (s.released job barrier here)).job job) =
          (s.released job barrier here).job job := by rw [hframe.eq]; rfl
      rw [hjobs, State.arrivals_released hsome]
    · rw [hframe.mem, hbooks]
  case barrierTimeout =>
    intro s te w hrun hwaits htime hjob hdue hwrites
    have hexec : execBarrierTimeout te s = .next (s.teFault te E.barrierTimeout) := by
      refine (if_neg (by simp [hwaits])).trans (congrArg Host.Outcome.next ((State.teRun_eq_ending hrun _).trans ?_))
      simp [State.timedOut_of_le htime, TeResult.ending]
    rw [(State.executes hrun).teFault_eq _ hwrites hjob hdue] at hexec
    refine ⟨_, (exec_barrierTimeout te s).trans hexec, ?_, ?_, State.teStat_showFault _ _ _,
      State.teFault_code_showFault _ _ (by decide), ?_⟩
    all_goals
      obtain ⟨regs, hshown⟩ :=
        State.showFault_regs (s.raiseRec (s.engineRec E.barrierTimeout te (s.engineJobGrave te))) te E.barrierTimeout
      rw [hshown]
    · rfl
    · rfl
    · exact newCodes_raiseRec_only (t := s) _ rfl
  case fence =>
    rintro s te w u hrun hfollowed ⟨hlanded, hgo⟩
    exact fence_completes hrun hfollowed hlanded hgo
  case fenceLands =>
    intro s te w a bs hcanonical hrun hfollowed hwrites hpass _ hungated
    exact fence_lands hcanonical hrun hfollowed hwrites hpass hungated

end Sys2Proof.Machine
end

section
/-! PROOFS. An engine's writes into a granule that is OPEN, and CMARK (R139, R193, R199, R201). -/

namespace Sys2Proof.Machine

theorem exec_cmark (te : Nat) (s : State) : exec (.cmark te) s = execCmark te s := by rfl

/-! ### A write into a granule that is OPEN -/

/-- What a listed value has under a test, the list has as well when the value is put anew. -/
theorem any_storePut_of_find {α : Type} {m : Store α} {k : Nat} {x y : α} {p : Nat × α → Bool}
    (h : storeFind m k = some x) (hp : p (k, y) = p (k, x)) : (storePut m k y).any p = m.any p := by
  induction m with
  | nil => simp [storeFind] at h
  | cons q m ih =>
    obtain ⟨i, v⟩ := q
    rw [storeFind] at h
    rw [storePut]
    split_ifs at h ⊢ with hi
    · obtain rfl := Option.some.inj h
      simp [hi, hp]
    · simp [ih h]

/-- The offsets of the version table's entries and writers. -/
def isEntryOffset (o : Nat) : Bool := o == 0x380108 || o == 0x380110

/-- What a write notes at its granule: its frame, where it is the first or a later one, and its engine's rank. -/
def State.noteWriter (s : State) (te d e : Nat) (o : OpenGranule) : State :=
  let f := s.writeFrame (.engine te)
  let s := if !o.written || frameBefore (s.tvt F.cgTvtEntry_frame d e) f then s.fset F.cgTvtEntry_frame d 0 e f else s
  s.fset F.cgTvtWriters_ranks d 0 e
    (setBit (s.fget F.cgTvtWriters_ranks d 0 e) (s.fget F.teJob_rank (te / 16) (te % 16) 0) true)

/-- What a write into a granule whose fill is over leaves beside its bytes. -/
def State.noteWrite (s : State) (te d e : Nat) (o : OpenGranule) : State :=
  let v := s.noteWriter te d e o
  { v with opens := storePut v.opens (openKey d e) { o with written := true } }

section
variable (s : State) (te d e : Nat) (o : OpenGranule)

theorem Beside.noteWriter : Beside isEntryOffset s (s.noteWriter te d e o) :=
  (Beside.ite ((Beside.refl _ s).fset e _ (f := F.cgTvtEntry_frame) (by decide)) (.refl _ s)).fset _ _ (by decide)

theorem State.confirmedSlot_noteWriter :
    (s.noteWriter te d e o).tvt F.cgTvtEntry_confirmed_slot d e = s.tvt F.cgTvtEntry_confirmed_slot d e := by
  unfold State.noteWriter
  extract_lets f s₁
  have h₁ : s₁.tvt F.cgTvtEntry_confirmed_slot d e = s.tvt F.cgTvtEntry_confirmed_slot d e := by
    unfold s₁
    split
    · exact State.fget_fset_spared _ _ _ _ _ (by decide)
    · rfl
  exact (State.fget_fset_spared _ _ _ _ _ (by decide)).trans h₁

theorem State.bufBase_noteWriter {b : Nat} (hb : b < 256) : (s.noteWriter te d e o).bufBase d b = s.bufBase d b :=
  (Beside.noteWriter s te d e o).fgetBuf d hb (by decide +kernel)

theorem State.slotAddr_noteWriter {b : Nat} (hb : b < 256) (g slot : Nat) :
    (s.noteWriter te d e o).slotAddr d b g slot = s.slotAddr d b g slot := by
  rw [State.slotAddr, State.slotAddr, State.bufBase_noteWriter s te d e o hb, State.bufShadow, State.bufShadow,
    (Beside.noteWriter s te d e o).fgetBuf d hb (by decide +kernel)]

theorem State.noteWriter_regs : ∃ regs, s.noteWriter te d e o = { s with regs } := by
  unfold State.noteWriter
  extract_lets f s₁
  have h₁ : ∃ regs, s₁ = { s with regs } := by
    unfold s₁
    split
    · exact ⟨_, rfl⟩
    · exact ⟨s.regs, rfl⟩
  obtain ⟨regs, h₁⟩ := h₁
  rw [h₁]
  exact ⟨_, rfl⟩

end

/-- A write into a granule that is OPEN and whose fill is over goes to the slot that is not confirmed (R199). -/
theorem State.gateWrite_open {s : State} {te j d b a g : Nat} {o : OpenGranule} (bs : List Byte) (hb : b < 256)
    (hg : g = (a - s.bufBase d b) / granBytes) (hkept : s.dropsWrite j d b g = false)
    (hopen : s.granState d (s.bufFirst d b + g) = gOpen)
    (hfind : storeFind s.opens (openKey d (s.bufFirst d b + g)) = some o) (hfilled : o.filling = false) :
    ∃ (v : State) (secure : Bool), v.mem = s.mem ∧
      v.opens = storePut s.opens (openKey d (s.bufFirst d b + g)) { o with written := true } ∧
      s.gateWrite (.engine te) j d b a bs = ((v.store (s.slotAddr d b g
        (1 - s.tvt F.cgTvtEntry_confirmed_slot d (s.bufFirst d b + g)) + (a - s.bufBase d b) % granBytes) bs).tagLines
        secure (s.slotAddr d b g
        (1 - s.tvt F.cgTvtEntry_confirmed_slot d (s.bufFirst d b + g)) + (a - s.bufBase d b) % granBytes) bs.length,
        .done) := by
  obtain ⟨regs, hregs⟩ := s.noteWriter_regs te d (s.bufFirst d b + g) o
  refine ⟨s.noteWrite te d (s.bufFirst d b + g) o, (s.noteWrite te d (s.bufFirst d b + g) o).secureAccess (.engine te),
    ?_, ?_, ?_⟩
  · simp [State.noteWrite, hregs]
  · simp [State.noteWrite, hregs]
  · unfold State.gateWrite
    extract_lets g' e s₁ f o' s₂ s₃ off x s₄
    have hg' : g' = g := hg.symm
    have hopen' : s.granState d e = gOpen := by simpa only [e, hg'] using hopen
    have hs₁ : s₁ = s := if_neg (by rw [hopen']; decide)
    have ho : o' = o := by simp only [o', e, hs₁, hg', hfind, Option.getD_some]
    have hs₃ : s₃ = s.noteWriter te d (s.bufFirst d b + g) o := by
      simp only [s₃, s₂, f, e, hs₁, ho, hg']
      rfl
    have hs₄ : s₄ = s.noteWrite te d (s.bufFirst d b + g) o := by
      simp only [s₄, hs₃, e, ho, hg']
      rfl
    have hx : x = s.slotAddr d b g (1 - s.tvt F.cgTvtEntry_confirmed_slot d (s.bufFirst d b + g)) +
        (a - s.bufBase d b) % granBytes := by
      simp only [x, off, e, hs₃, hg', State.slotAddr_noteWriter _ _ _ _ _ hb, State.confirmedSlot_noteWriter,
        State.bufBase_noteWriter _ _ _ _ _ hb]
    rw [if_neg (by rw [hg', hkept]; decide), if_neg (by rw [hopen']; decide), if_neg (by rw [hopen']; decide),
      if_neg (by rw [ho, hfilled]; decide), hs₄, hx]

/-! ### FENCE -/

theorem Traffic.granState {s u : State} (h : Traffic s u) (d e : Nat) : u.granState d e = s.granState d e :=
  h.fget _ (by decide)

theorem Traffic.slotAddr {s u : State} (h : Traffic s u) (d : Nat) {b : Nat} (hb : b < 256) (g slot : Nat) :
    u.slotAddr d b g slot = s.slotAddr d b g slot := by
  rw [State.slotAddr, State.slotAddr, State.bufBase, State.bufBase, State.bufShadow, State.bufShadow,
    h.fgetBuf d hb (by decide +kernel), h.fgetBuf d hb (by decide +kernel)]

/-- A word written by a job's engine into a buffer is placed by the gate, in one piece. -/
theorem State.placeWrite_word {s : State} {te j d b a : Nat} {bs : List Byte} (haligned : a % 8 = 0)
    (hlength : bs.length = 8) (hjob : s.jobOf (.engine te) = some j) (hpublic : s.publicAt a = some (d, b)) :
    s.placeWrite (.engine te) a bs = s.gateWrite (.engine te) j d b a bs := by
  rw [State.placeWrite, hjob, hpublic]
  simp [hlength, granPieces_word haligned, List.take_of_length_le hlength.le]

/-- A FENCE behind a word for an OPEN granule whose fill is over stores it in the slot that is not confirmed. -/
theorem fence_stores_open {s : State} {te w a j d b g slot : Nat} {bs : List Byte} {o : OpenGranule}
    (hcanonical : s.canonical) (hrun : s.runsWord te 0x53 w = true) (hfollowed : s.followed te = true)
    (hwrites : (s.eng te).writes = [(a, bs)]) (haligned : a % 8 = 0) (hlength : bs.length = 8)
    (hpass : s.checkAccess (.engine te) true a 8 = .pass) (hjob : s.jobOf (.engine te) = some j)
    (hpublic : s.publicAt a = some (d, b)) (hg : g = (a - s.bufBase d b) / granBytes)
    (hkept : s.dropsWrite j d b g = false) (hopen : s.granState d (s.bufFirst d b + g) = gOpen)
    (hfind : storeFind s.opens (openKey d (s.bufFirst d b + g)) = some o) (hfilled : o.filling = false)
    (hslot : slot = s.slotAddr d b g (1 - s.tvt F.cgTvtEntry_confirmed_slot d (s.bufFirst d b + g)) +
      (a - s.bufBase d b) % granBytes) :
    ∃ t, exec (.fence te) s = .next t ∧ t.bytesAt slot bs.length = bs ∧
      (∀ x, x < slot ∨ slot + bs.length ≤ x → t.byteAt x = s.byteAt x) ∧ t.tePc te = (s.nextPlace te).1 % 4096 := by
  have hb : b < 256 := (State.publicAt_lt hpublic).2
  have htraffic := Traffic.arrivingOnly s te (a, bs)
  set u := s.arrivingOnly te (a, bs) with hu
  have hbase : u.bufBase d b = s.bufBase d b := htraffic.fgetBuf d hb (by decide +kernel)
  have hfirst : u.bufFirst d b = s.bufFirst d b := htraffic.fgetBuf d hb (by decide +kernel)
  have hconfirmed : u.tvt F.cgTvtEntry_confirmed_slot d (s.bufFirst d b + g) =
      s.tvt F.cgTvtEntry_confirmed_slot d (s.bufFirst d b + g) := htraffic.fget _ (by decide)
  obtain ⟨v, secure, hmem, hopens, hgate⟩ := State.gateWrite_open (s := u) (te := te) (j := j) (d := d) (b := b) (a := a)
    (g := g) (o := o) bs hb (by rw [hbase, hg]) ((htraffic.dropsWrite j d g hb).trans hkept)
    (by rw [hfirst]; exact (htraffic.granState d _).trans hopen)
    (by rw [hfirst, htraffic.opens]; exact hfind) hfilled
  rw [hfirst, hbase, hconfirmed, htraffic.slotAddr d hb] at hgate
  have hplaced := (State.placeWrite_word haligned hlength ((htraffic.jobOf te).trans hjob)
    ((htraffic.publicAt a).trans hpublic)).trans hgate
  have hlanded := State.landWrites_single hwrites (by rwa [hlength]) (by rw [← hu, hplaced]; simp)
  rw [← hu, hplaced] at hlanded
  have hgo : v.teStalled te = false := by
    have hopens' : v.opens = storePut s.opens (openKey d (s.bufFirst d b + g)) { o with written := true } := by
      rw [hopens, hfirst, htraffic.opens]
      rfl
    rw [State.teStalled, hopens']
    exact (any_storePut_of_find (y := { o with written := true }) hfind rfl).trans (State.executes hrun).unstalled
  obtain ⟨t, hexec, hbytes, hothers, -, -, hpc⟩ :=
    fence_stores hcanonical hrun hfollowed hlanded (hmem.trans htraffic.mem) hgo
  have hslot' : slot = (s.setEng te { s.eng te with writes := [] }).slotAddr d b g
      (1 - s.tvt F.cgTvtEntry_confirmed_slot d (s.bufFirst d b + g)) + (a - s.bufBase d b) % granBytes := hslot
  rw [← hslot'] at hbytes hothers
  exact ⟨t, hexec, hbytes, hothers, hpc⟩

/-! ### CMARK -/

/-- A register that is no TE_STATUS reads the same once an engine went on. -/
theorem MovesTo.fget_apart {te pc : Nat} {loops : List (Nat × Nat × Nat)} {u t : State} (h : MovesTo te pc loops u t)
    {f : Fld} {i : Nat} (d k : Nat) (hf : (f.off + i * f.stride) % 0x10000 ≠ 0x10) :
    t.fget f d i k = u.fget f d i k := by
  have hne : fldAddr f d i k ≠ fldAddr F.teStatus_state (te / 16) (te % 16) 0 := by
    simp only [fldAddr, regBase, bankStride, F.teStatus_state]
    omega
  rw [State.fget, State.fget, h.regs _ (by simpa using hne)]

/-- What one mark, with no further one required, notes at its granule before the granule's state changes. -/
def State.noteMark (s : State) (te d e first count : Nat) (o : OpenGranule) : State :=
  (({ s with
      opens := storePut s.opens (openKey d e)
        { o with grpFirst := first, grpCount := count, contrib := 0, marks := setBit o.marks (s.teRank te) true } } :
      State).fset F.cgTvtEntry_marks_req_m1 d 0 e 0).fset F.cgTvtEntry_marks_rcvd d 0 e (0 + 1)

theorem Beside.noteMark (s : State) (te d e first count : Nat) (o : OpenGranule) :
    Beside isGateOffset s (s.noteMark te d e first count o) :=
  (Beside.fset (Beside.update (.refl _ s)) e 0 (f := F.cgTvtEntry_marks_req_m1) (by decide)).fset e _ (by decide)

/-- What the one mark that an OPEN granule requires makes of it. -/
structure MarksLast (d e : Nat) (s u : State) : Prop where
  beside : Beside isGateOffset s u
  frame : u = { s with regs := u.regs, opens := u.opens }
  state : u.granState d e = gMarked
  count : u.tvt F.cgTvtEntry_marks_rcvd d e = 1

section
variable {s : State} {d b g e : Nat} {o : OpenGranule} (te first count : Nat) (he : e = s.bufFirst d b + g)
  (hfind : storeFind s.opens (openKey d e) = some o) (hopen : s.granState d e = gOpen)
  (hnone : s.tvt F.cgTvtEntry_marks_rcvd d e = 0)
include he hfind hopen hnone

/-- The one mark that an OPEN granule requires marks it. -/
theorem State.markOne_last :
    s.markOne te d b g first count 0 = (s.noteMark te d e first count o).setGranState d b e gMarked := by
  have hrcvd : (if s.tvt F.cgTvtEntry_marks_req_m1 d e = 0 then s.tvt F.cgTvtEntry_marks_rcvd d e + 1 else 1) = 0 + 1 := by
    rw [hnone, ite_self]
  have hnotFailed : s.granState d e ≠ gFailed := by
    rw [hopen]
    decide
  unfold State.markOne
  extract_lets e'
  obtain rfl : e' = e := he.symm
  rw [hfind]
  dsimp -zeta only
  extract_lets o₁ s₁ n s₂ s₃
  have hn : n = 0 + 1 := hrcvd
  have hs₁ : ¬ s₁.granState d e' = gFailed := hnotFailed
  rw [if_neg hs₁, if_pos hn]
  simp only [s₃, hn]
  rfl

theorem State.markOne_marksLast : MarksLast d e s (s.markOne te d b g first count 0) := by
  rw [State.markOne_last te first count he hfind hopen hnone]
  have hbeside := (Beside.noteMark s te d e first count o).setGranState d b e gMarked
  obtain ⟨v, hv, ⟨regs, hregs⟩, heq⟩ := (s.noteMark te d e first count o).setGranState_eq d b e gMarked
  rw [heq] at hbeside ⊢
  refine ⟨hbeside, ?_, State.fget_fset_same _ _ _ _ _ _ (by decide), ?_⟩
  · rw [hregs]
    rfl
  · refine (State.fget_fset_spared _ _ _ _ _ (by decide)).trans ((hv.fget e (by decide)).trans ?_)
    exact State.fget_fset_same _ _ _ _ _ _ (by decide)

end

section
variable {s : State} {te w j d b : Nat} {o : OpenGranule}

/-- A CMARK of one granule with one mark required, which its job owns and which is OPEN without a group, marks it. -/
theorem execCmark_marks (hrun : s.runsWord te 0x60 w = true) (hjob : s.teJobOf te = some j)
    (hbuffer : ((s.job j).record.buffers[bits w 16 8]?).getD none = some (d, b))
    (hone : bits w 48 16 = 1 ∧ bits w 64 4 = 0) (hrange : bits w 24 24 < s.bufGranules d b)
    (hwrites : (s.eng te).writes = []) (hkept : s.dropsWrite j d b (bits w 24 24) = false)
    (hopen : s.granState d (s.bufFirst d b + bits w 24 24) = gOpen)
    (howner : s.tvt F.cgTvtEntry_owner d (s.bufFirst d b + bits w 24 24) = j)
    (hfind : storeFind s.opens (openKey d (s.bufFirst d b + bits w 24 24)) = some o)
    (hgroup : o.grpCount = 0) (hfilled : o.filling = false) :
    execCmark te s = .next ((s.markOne te d b (bits w 24 24) (bits w 24 24) 1 0).teAdvance te) := by
  obtain ⟨hcount, hcontrib⟩ := hone
  have hgranules : s.markGranules j d b (bits w 24 24) 1 = [bits w 24 24] := by simp [State.markGranules, hkept]
  have hfits : s.markFits d (s.bufFirst d b + bits w 24 24) (bits w 24 24) 1 0 = true := by
    simp [State.markFits, hopen, hfind, hgroup, gOpen, gIdle, gFailed]
  have hready : s.awaitsFill d (s.bufFirst d b + bits w 24 24) = false := by
    simp [State.awaitsFill, hopen, hfind, hfilled, gOpen, gIdle]
  refine congrArg Host.Outcome.next (State.teRun_done hrun ?_)
  have hroom : ¬ s.bufGranules d b < bits w 24 24 + 1 := by omega
  dsimp only
  simp only [hjob, hbuffer, hcount, hcontrib]
  rw [if_neg hroom, State.teSync_landed ((State.executes hrun).landWrites_nil hwrites _) (State.executes hrun).unstalled]
  simp [hgranules, howner, hfits, hready]

theorem cmark_marks {e : Nat} (hrun : s.runsWord te 0x60 w = true) (hfollowed : s.followed te = true)
    (hjob : s.teJobOf te = some j) (hbuffer : ((s.job j).record.buffers[bits w 16 8]?).getD none = some (d, b))
    (hone : bits w 48 16 = 1 ∧ bits w 64 4 = 0) (hrange : bits w 24 24 < s.bufGranules d b)
    (hwrites : (s.eng te).writes = []) (he : e = s.bufFirst d b + bits w 24 24)
    (hkept : s.dropsWrite j d b (bits w 24 24) = false) (hopen : s.granState d e = gOpen)
    (howner : s.tvt F.cgTvtEntry_owner d e = j) (hnone : s.tvt F.cgTvtEntry_marks_rcvd d e = 0)
    (hfind : storeFind s.opens (openKey d e) = some o) (hgroup : o.grpCount = 0) (hfilled : o.filling = false) :
    ∃ t, exec (.cmark te) s = .next t ∧ t = { s with regs := t.regs, engines := t.engines, opens := t.opens } ∧
      t.granState d e = gMarked ∧ t.tvt F.cgTvtEntry_marks_rcvd d e = 1 ∧ t.tePc te = (s.nextPlace te).1 % 4096 := by
  have hmarks := State.markOne_marksLast te (bits w 24 24) 1 he hfind hopen hnone
  subst he
  have hmoves := (hmarks.beside.samePlace te (by decide)).teAdvance_movesTo hfollowed
  refine ⟨_, (exec_cmark te s).trans (execCmark_marks hrun hjob hbuffer hone hrange hwrites hkept hopen howner hfind
    hgroup hfilled), ?_, ?_, ?_, hmoves.pc⟩
  · rw [hmoves.frame.eq, hmarks.frame]
  · exact (hmoves.fget_apart _ _ (by decide)).trans hmarks.state
  · exact (hmoves.fget_apart _ _ (by decide)).trans hmarks.count

end

end Sys2Proof.Machine
end

section
/-! PROOFS. RIE and the resolution of tokens (R140, R208, R210). -/

namespace Sys2Proof.Machine

theorem exec_rie (te : Nat) (upset : Upset) (s : State) : exec (.rie te upset) s = execRie te upset s := by rfl

/-! ### The registers of a resolution -/

/-- The offsets of registers that move with what a resolution discards and tells: the gate's, and SCH_EVENT_PENDING. -/
def isTellOffset (o : Nat) : Bool := isGateOffset o || o == 0x20010

/-- The offsets of registers that a resolution moves: those, and CG_TOKEN. -/
def isResolveOffset (o : Nat) : Bool := isTellOffset o || o == 0x380128

namespace Beside

variable {s u : State}

theorem resolveOne (h : Beside isResolveOffset s u) (j i : Nat) (outcome : Bool) (how : Nat) :
    Beside isResolveOffset s (u.resolveOne j i outcome how) := by
  unfold State.resolveOne
  extract_lets x k s₁ s₂
  have h₂ : Beside isResolveOffset s s₂ := (h.fset k _ (f := F.cgToken_state) (by decide)).fset k how (by decide)
  exact ite (h₂.modJob j fun x => by split <;> rfl) (ite h (h.fadd 0 1 (by decide)))

theorem resolveRange (h : Beside isResolveOffset s u) (j first : Nat) (outcome : Nat → Bool) (how n : Nat) :
    Beside isResolveOffset s (u.resolveRange j first outcome how n) := by
  induction n generalizing u first with
  | zero => exact h
  | succ n ih => exact ih (h.resolveOne j first (outcome first) how) (first + 1)

theorem idleGranule (h : Beside isGateOffset s u) (d b e : Nat) : Beside isGateOffset s (u.idleGranule d b e) := by
  unfold State.idleGranule
  extract_lets s₁ s₂ s₃ s₄
  have h₄ : Beside isGateOffset s s₄ :=
    (((h.setGranState d b e gIdle).fset e 0 (f := F.cgTvtEntry_marks_rcvd) (by decide)).fset e 0
      (f := F.cgTvtEntry_marks_req_m1) (by decide)).fset e 0 (by decide)
  exact h₄.update

theorem discard (h : Beside isGateOffset s u) (j : Nat) (gs : List (Nat × Nat × OpenGranule)) :
    Beside isGateOffset s (u.discard j gs) :=
  h.foldl fun _ t _ ht => ((ht.idleGranule t.1 t.2.2.buf t.2.1).fwrap 0 1 (f := F.cgCounts_discards) (i := 0)
    (by decide)).modJob j fun _ => rfl

theorem postEvent (h : Beside isTellOffset s u) (die kind job detail : Nat) :
    Beside isTellOffset s (u.postEvent die kind job detail) :=
  ite ((h.fset 0 1 (f := F.schEventPending_overflow) (i := 0) (by decide)).raiseSide _)
    (Beside.fset (f := F.schEventPending_count) (i := 0) h.update 0 _ (by decide))

theorem postJobEvent (h : Beside isTellOffset s u) (kind j detail : Nat) :
    Beside isTellOffset s (u.postJobEvent kind j detail) :=
  h.foldl fun _ d _ ht => ht.postEvent d kind j detail

theorem tokenState {P : Nat → Bool} (h : Beside P s u) (hP : P 0x380128 = false) (j i : Nat) :
    u.tokenState j i = s.tokenState j i := by
  rw [State.tokenState, State.tokenState, h.fget _ (by exact hP), h.job j Job.tokenHome fun _ => rfl,
    h.job j Job.tokenBase fun _ => rfl]

theorem jobState {P : Nat → Bool} (h : Beside P s u) (hP : P 0x280128 = false) (j : Nat) :
    u.jobState j = s.jobState j := h.fget j (by exact hP)

end Beside

/-! ### Readers of a job -/

theorem State.readers_modJob (s : State) (k j : Nat) {f : Job → Job} (hf : ∀ x, (f x).readers = x.readers) :
    ((s.modJob k f).job j).readers = (s.job j).readers := by
  obtain rfl | hj := eq_or_ne j k
  · rw [State.job, State.job, State.job?_modJob_same]
    cases s.job? j with
    | none => rfl
    | some x => exact hf x
  · rw [State.job, State.job, State.job?_modJob_other _ _ hj]

theorem State.readers_resolveOne (s : State) (k i : Nat) (outcome : Bool) (how j : Nat) :
    ((s.resolveOne k i outcome how).job j).readers = (s.job j).readers := by
  unfold State.resolveOne
  extract_lets x u s₁ s₂
  split_ifs
  · exact State.readers_modJob s₂ k j fun _ => rfl
  · exact State.readers_modJob s₂ k j fun _ => rfl
  · rfl
  · rfl

theorem State.readers_resolveRange (s : State) (k first : Nat) (outcome : Nat → Bool) (how n j : Nat) :
    ((s.resolveRange k first outcome how n).job j).readers = (s.job j).readers := by
  induction n generalizing s first with
  | zero => rfl
  | succ n ih => exact (ih _ _).trans (s.readers_resolveOne k first (outcome first) how j)

theorem State.sched_setGranState (s : State) (d b e st : Nat) : (s.setGranState d b e st).sched = s.sched := by
  obtain ⟨v, -, ⟨regs, hv⟩, heq⟩ := s.setGranState_eq d b e st
  rw [heq, hv, State.fset_sched]

theorem State.sched_idleGranule (s : State) (d b e : Nat) : (s.idleGranule d b e).sched = s.sched := by
  unfold State.idleGranule
  extract_lets s₁ s₂ s₃ s₄
  change s₄.sched = s.sched
  rw [State.fset_sched, State.fset_sched, State.fset_sched, State.sched_setGranState]

theorem State.readers_discard (s : State) (k : Nat) (gs : List (Nat × Nat × OpenGranule)) (j : Nat) :
    ((s.discard k gs).job j).readers = (s.job j).readers := by
  induction gs generalizing s with
  | nil => rfl
  | cons t gs ih =>
    rw [State.discard, List.foldl_cons, ← State.discard, ih]
    dsimp only
    rw [State.readers_modJob _ k j (f := fun x => { x with discarded := x.discarded + 1 }) fun _ => rfl, State.job,
      State.job, State.job?, State.job?, State.fwrap_sched, State.sched_idleGranule]

/-- A job that nothing read is squashed alone. -/
theorem Beside.squash {s u : State} (h : Beside isGateOffset s u) {j : Nat} (fuel : Nat)
    (hreaders : (u.job j).readers = []) : Beside isGateOffset s (u.squash j (fuel + 1)) := by
  rw [State.squash]
  simp only [State.readers_discard, hreaders, List.foldl_nil]
  exact (h.discard j _).modJob j fun _ => rfl

/-! ### Settling -/

/-- A job that runs does not settle. -/
theorem State.settle_running {s : State} {j : Nat} (h : s.jobState j = jsRunning) : s.settle j = s := by
  have hsettling : ¬ jsRunning = jsSettling := by decide
  have hfinal : jobFinal jsRunning = false := by decide
  rw [State.settle]
  simp only [h, hsettling, hfinal, Bool.false_eq_true, if_false, ite_self]

/-- The tokens of the one job of the table resolve, and what follows leaves them and the engines alone. -/
theorem State.resolveTokens_beside {s : State} {j : Nat} (first : Nat) (outcome : Nat → Bool) (how n : Nat)
    (hkeys : storeKeys s.sched.jobs = [j]) (hreaders : (s.job j).readers = []) (hstate : s.jobState j = jsRunning) :
    Beside isTellOffset (s.resolveRange j first outcome how n) (s.resolveTokens j first outcome how n) := by
  have hresolved := (Beside.refl isResolveOffset s).resolveRange j first outcome how n
  unfold State.resolveTokens
  extract_lets t t'
  have hsquashed : Beside isGateOffset t t' :=
    Beside.ite ((Beside.refl _ t).squash 7 (by rw [s.readers_resolveRange, hreaders])) (.refl _ t)
  have htold : Beside isTellOffset t (t'.postJobEvent 5 j 0) :=
    (hsquashed.mono fun o ho => by simp [isTellOffset, ho]).postJobEvent 5 j 0
  have hrunning : (t'.postJobEvent 5 j 0).jobState j = jsRunning :=
    (htold.jobState (by decide) j).trans ((hresolved.jobState (by decide) j).trans hstate)
  rw [State.settleAll, htold.jobKeys.trans (hresolved.jobKeys.trans hkeys), List.foldl_cons, List.foldl_nil,
    State.settle_running hrunning]
  exact htold

/-! ### The states of the tokens -/

theorem fldAddr_unit_ne {f g : Fld} (d i : Nat) {u v : Nat} (h : u ≠ v) (hoff : f.off = g.off := by rfl)
    (hstride : f.stride = g.stride := by rfl) : fldAddr f d i u ≠ fldAddr g d i v := by
  simp only [fldAddr, bankStride, hoff, hstride]
  omega

/-- A resolution gives its token its outcome where it is pending, and leaves every other token of the job. -/
theorem State.tokenState_resolveOne (s : State) (j i : Nat) (outcome : Bool) (how k : Nat) :
    (s.resolveOne j i outcome how).tokenState j k =
      if k = i ∧ s.tokenState j k = 1 then (if outcome then 2 else 3) else s.tokenState j k := by
  have hbooks := (Beside.refl isResolveOffset s).resolveOne j i outcome how
  rw [State.tokenState, hbooks.job j Job.tokenHome fun _ => rfl, hbooks.job j Job.tokenBase fun _ => rfl]
  unfold State.resolveOne
  extract_lets x u s₁ s₂
  by_cases hpending : s.tokenState j i = 1
  · rw [if_pos hpending]
    obtain ⟨sched, hmod⟩ := s₂.modJob_sched j (fun x =>
      if outcome then { x with tokensTrue := x.tokensTrue + 1 } else { x with tokensFalse := x.tokensFalse + 1 })
    rw [hmod]
    change s₂.fget F.cgToken_state x.tokenHome 0 (x.tokenBase + k) = _
    obtain rfl | hk := eq_or_ne k i
    · rw [if_pos ⟨rfl, hpending⟩]
      refine (State.fget_fset_spared _ _ _ _ _ (by decide)).trans ((State.fget_fset_same _ _ _ _ _ _ (by decide)).trans ?_)
      cases outcome <;> rfl
    · rw [if_neg fun h => hk h.1]
      have hne : x.tokenBase + k ≠ u := fun h => hk (Nat.add_left_cancel h)
      exact (State.fget_fset_other _ _ _ _ _ _ _ _ _ _ (fldAddr_unit_ne _ _ hne)).trans
        (State.fget_fset_other _ _ _ _ _ _ _ _ _ _ (fldAddr_unit_ne _ _ hne))
  · have hne : fldAddr F.cgToken_state x.tokenHome 0 (x.tokenBase + k) ≠
        fldAddr F.cgEvents_late_resolves x.tokenHome 0 0 := by
      simp only [fldAddr, bankStride, F.cgToken_state, F.cgEvents_late_resolves]
      omega
    have hkept : ¬ (k = i ∧ s.tokenState j k = 1) := fun h => hpending (h.1 ▸ h.2)
    rw [if_neg hpending, if_neg hkept]
    by_cases hstop : how = byStop
    · rw [if_pos hstop]
      rfl
    · rw [if_neg hstop]
      exact State.fget_fset_other _ _ _ _ _ _ _ _ _ _ hne

theorem State.tokenState_resolveRange (s : State) (j first : Nat) (outcome : Nat → Bool) (how n k : Nat) :
    (s.resolveRange j first outcome how n).tokenState j k =
      if first ≤ k ∧ k < first + n ∧ s.tokenState j k = 1 then (if outcome k then 2 else 3) else s.tokenState j k := by
  induction n generalizing s first with
  | zero => exact (if_neg (by omega)).symm
  | succ n ih =>
    rw [State.resolveRange, ih, State.tokenState_resolveOne]
    obtain rfl | hk := eq_or_ne k first
    · simp
    · have hrange : first + 1 ≤ k ∧ k < first + 1 + n ↔ first ≤ k ∧ k < first + (n + 1) := by omega
      simp only [hk, false_and, if_false, ← and_assoc, hrange]

/-! ### RIE -/

/-- What a RIE makes of its engine: the count of leading equal units, and whether it is that of all. -/
def Engine.counted (e : Engine) (w n : Nat) : Engine :=
  { e.setReg (bits w 64 5) n with preds := setBit e.preds (bits w 56 3) (n == bits w 40 8) }

section
variable {s : State} {te w j n : Nat} {ha hb : Handle}

theorem execRie_resolves (hrun : s.runsWord te 0x61 w = true) (hjob : s.teJobOf te = some j)
    (hhandles : (s.eng te).handle (bits w 16 4) = some ha ∧ (s.eng te).handle (bits w 20 4) = some hb)
    (hready : (s.eng te).ready ha = true ∧ (s.eng te).ready hb = true)
    (hsize : bits w 40 8 * bits w 48 8 ≤ ha.size ∧ bits w 40 8 * bits w 48 8 ≤ hb.size)
    (htokens : bits w 24 16 + bits w 40 8 ≤ (s.job j).tokenCount)
    (hn : n = leadingEqual (bits w 48 8) ((s.eng te).hBytes ha 0 (bits w 40 8 * bits w 48 8))
      ((s.eng te).hBytes hb 0 (bits w 40 8 * bits w 48 8)) (bits w 40 8)) :
    execRie te .clean s = .next (((s.setEng te ((s.eng te).counted w n)).resolveTokens j (bits w 24 16)
      (fun t => t < bits w 24 16 + n) byRie (bits w 40 8)).teAdvance te) := by
  have hjob' : ∀ e, (s.setEng te e).teJobOf te = some j := fun _ => hjob
  refine congrArg Host.Outcome.next (State.teRun_done hrun ?_)
  simp only [hhandles.1, hhandles.2, hready.1, hready.2, hjob, Bool.and_self, Bool.not_true, Bool.false_eq_true, if_false,
    not_lt.2 hsize.1, not_lt.2 hsize.2, not_lt.2 htokens, reduceCtorEq, State.upsetCorrected, ← hn]
  rw [hjob']
  rfl

/-- A RIE counts, and resolves the tokens of its range. -/
theorem rie_resolves (hfollowed : s.followed te = true)
    (hkeys : storeKeys s.sched.jobs = [j]) (hreaders : (s.job j).readers = []) (hstate : s.jobState j = jsRunning)
    (hexec : execRie te .clean s = .next (((s.setEng te ((s.eng te).counted w n)).resolveTokens j (bits w 24 16)
      (fun t => t < bits w 24 16 + n) byRie (bits w 40 8)).teAdvance te)) :
    ∃ t, exec (.rie te .clean) s = .next t ∧
      t.eng te = { (s.eng te).counted w n with loops := (s.nextPlace te).2 } ∧
      t.tePc te = (s.nextPlace te).1 % 4096 ∧
      ∀ i < bits w 40 8, t.tokenState j (bits w 24 16 + i) =
        if s.tokenState j (bits w 24 16 + i) = 1 then (if i < n then 2 else 3)
        else s.tokenState j (bits w 24 16 + i) := by
  have htold := State.resolveTokens_beside (s := s.setEng te ((s.eng te).counted w n)) (bits w 24 16)
    (fun t => t < bits w 24 16 + n) byRie (bits w 40 8) hkeys hreaders hstate
  have hresolved := (Beside.refl isResolveOffset (s.setEng te ((s.eng te).counted w n))).resolveRange j (bits w 24 16)
    (fun t => t < bits w 24 16 + n) byRie (bits w 40 8)
  have hall := hresolved.trans (htold.mono fun o ho => by simp [isResolveOffset, ho])
  have hmoves := (((SamePlace.refl te s).setEng (e := (s.eng te).counted w n) rfl rfl).trans
    (hall.samePlace te (by decide))).teAdvance_movesTo hfollowed
  refine ⟨_, (exec_rie te .clean s).trans hexec, ?_, hmoves.pc, fun i hi => ?_⟩
  · rw [hmoves.eng, hall.eng, State.eng_setEng_same]
  · have hjob : ∀ u t : State, EnginesOnly u t → t.job j = u.job j := fun u t h => by
      rw [h.eq]
      rfl
    rw [State.tokenState, hjob _ _ hmoves.frame, hmoves.fget_apart _ _ (by decide)]
    refine (htold.tokenState (by decide) j _).trans ((State.tokenState_resolveRange _ _ _ _ _ _ _).trans ?_)
    have hkeep : (s.setEng te ((s.eng te).counted w n)).tokenState j (bits w 24 16 + i) =
        s.tokenState j (bits w 24 16 + i) := rfl
    simp [hkeep, hi]

end

/-- Settles O14. An OPEN granule whose fill is over takes a job's word at its slot that is not confirmed, and the one mark
required; what follows a resolution leaves the tokens as it left them. -/
theorem engineGateInstructionsComplete : Obligations.EngineGateInstructionsComplete := by
  unfold Obligations.EngineGateInstructionsComplete
  refine ⟨?sst, ?fence, ?cmark, ?rie⟩
  case sst =>
    intro s te w a hrun hfollowed ha haligned hpass hunmarked
    obtain ⟨t, hexec, hstep⟩ := sst_completes hrun hfollowed ha haligned hpass hunmarked
    rw [Engine.written, writeRequests_word haligned (leBytes_length _ _)] at hstep
    exact ⟨t, hexec, hstep⟩
  case fence =>
    rintro s te w a bs j d b g o slot hcanonical hrun hfollowed ⟨hwrites, haligned, hlength⟩ hpass hjob hpublic - hg
      hkept hopen hfind hfilled hslot
    have := fence_stores_open hcanonical hrun hfollowed hwrites haligned hlength hpass hjob hpublic hg hkept hopen hfind
      hfilled hslot
    rwa [hlength] at this
  case cmark =>
    rintro s te w j d b o e hrun hfollowed - hjob hbuffer hone hrange hwrites he hkept ⟨hopen, howner, hnone⟩ hfind
      ⟨hgroup, hfilled⟩
    exact cmark_marks hrun hfollowed hjob hbuffer hone hrange hwrites he hkept hopen howner hnone hfind hgroup hfilled
  case rie =>
    rintro s te w j ha hb n hrun hfollowed hjob hhandles hready hsize htokens hn hkeys ⟨hreaders, hstate⟩ -
    exact rie_resolves hfollowed hkeys hreaders hstate
      (execRie_resolves hrun hjob hhandles hready hsize htokens hn)

end Sys2Proof.Machine
end

section
/-! PROOFS. An engine that saves itself while its VI has no tokens left (R143, R374, R375). -/

namespace Sys2Proof.Machine

/-- Engine 0 is STOPPING, with its save slot in LPDDR6; its VI has an empty bandwidth bucket. -/
def savingOverBudget : State :=
  { State.reset.fset F.teStatus_state 0 0 0 tsStopping with boot := { memTrained := true, stackMask := 1 } }

theorem exec_engineSaved (te : Nat) (upset : Upset) (s : State) :
    exec (.engineSaved te upset) s = execEngineSaved te upset s := by rfl

/-- The image's lines find the bucket of the engine's VI empty, which makes the VI over budget. -/
theorem savingOverBudget_shows {t : State} (h : execEngineSaved 0 .clean savingOverBudget = .next t) :
    t.fget F.viState_over_budget 4 0 0 = 1 := by
  have hover : (match execEngineSaved 0 .clean savingOverBudget with
    | .next t => t.fget F.viState_over_budget 4 0 0 == 1
    | _ => false) = true := by decide +kernel
  rw [h] at hover
  simpa using hover

/-- Refutes O15: its clause of a save lets no register change but TE_STATUS and the counts of lines. The lines of the
image pass the bucket of the engine's VI, and where that holds too few tokens the VI is shown over budget. -/
theorem not_engineStartsAndStopsComplete : ¬ Obligations.EngineStartsAndStopsComplete := by
  unfold Obligations.EngineStartsAndStopsComplete
  rintro ⟨-, -, engineSaved, -⟩
  obtain ⟨t, hexec, -, -, -, -, hregs⟩ := engineSaved savingOverBudget 0 (by decide +kernel) (by decide) (by decide)
    (by decide) (by decide) (by decide) (by decide +kernel) (by decide +kernel) (by decide +kernel)
  have hover := savingOverBudget_shows hexec
  have hkept := hregs (fldAddr F.viState_over_budget 4 0 0) (by decide)
  rw [State.fget, hkept] at hover
  exact absurd hover (by decide)

end Sys2Proof.Machine
end

section
/-! PROOFS. The fields of the state that an access's traffic can change at all: what it counts and notes (R160, R176,
R180, R181, R374, R480). -/

namespace Sys2Proof.Machine

/-- Whether two states differ at most in what accesses count and note: registers, records, corrected words and lines,
the books of jobs, of buckets and of posted streams. -/
def TrafficOnly (s u : State) : Prop := ∃ regs err softWords softLines sched vis bridge,
  u = { s with regs, err, softWords, softLines, sched, vis, bridge }

namespace TrafficOnly

variable {s u t : State}

theorem refl (s : State) : TrafficOnly s s :=
  ⟨s.regs, s.err, s.softWords, s.softLines, s.sched, s.vis, s.bridge, rfl⟩

theorem trans (h : TrafficOnly s u) (h' : TrafficOnly u t) : TrafficOnly s t := by
  obtain ⟨_, _, _, _, _, _, _, rfl⟩ := h
  obtain ⟨regs, err, softWords, softLines, sched, vis, bridge, rfl⟩ := h'
  exact ⟨regs, err, softWords, softLines, sched, vis, bridge, rfl⟩

theorem fset (h : TrafficOnly s u) (f : Fld) (d i k v : Nat) : TrafficOnly s (u.fset f d i k v) :=
  h.trans ⟨_, u.err, u.softWords, u.softLines, u.sched, u.vis, u.bridge, rfl⟩

theorem raiseSide (h : TrafficOnly s u) (r : ErrRec) : TrafficOnly s (u.raiseSide r) :=
  h.trans ⟨u.regs, _, u.softWords, u.softLines, u.sched, u.vis, u.bridge, rfl⟩

theorem updateVis (h : TrafficOnly s u) (vis : ViManager) : TrafficOnly s { u with vis } :=
  h.trans ⟨u.regs, u.err, u.softWords, u.softLines, u.sched, _, u.bridge, rfl⟩

theorem modJob (h : TrafficOnly s u) (j : Nat) (f : Job → Job) : TrafficOnly s (u.modJob j f) := by
  obtain ⟨sched, hu⟩ := u.modJob_sched j f
  exact h.trans ⟨u.regs, u.err, u.softWords, u.softLines, sched, u.vis, u.bridge, hu⟩

theorem foldl {α : Type} {f : State → α → State} {l : List α} (h : TrafficOnly s u)
    (hf : ∀ t x, TrafficOnly s t → TrafficOnly s (f t x)) : TrafficOnly s (l.foldl f u) := by
  induction l generalizing u with
  | nil => exact h
  | cons x l ih => exact ih (hf u x h)

theorem ite {c : Prop} {_ : Decidable c} (h : TrafficOnly s u) (h' : TrafficOnly s t) :
    TrafficOnly s (if c then u else t) := by split <;> assumption

theorem correctSoft (h : TrafficOnly s u) (a n : Nat) : TrafficOnly s (u.correctSoft a n) := by
  rw [State.correctSoft]
  split
  · exact h.foldl fun t w ht => ((ht.trans
      ⟨t.regs, t.err, _, t.softLines, t.sched, t.vis, t.bridge, rfl⟩).fset _ _ _ _ _).raiseSide _
  · exact h.foldl fun t w ht => ((ht.trans
      ⟨t.regs, t.err, t.softWords, _, t.sched, t.vis, t.bridge, rfl⟩).fset _ _ _ _ _).raiseSide _
  · exact h

theorem notePosted (h : TrafficOnly s u) (who : Initiator) (a : Nat) : TrafficOnly s (u.notePosted who a) :=
  ite (h.trans ⟨u.regs, u.err, u.softWords, u.softLines, u.sched, u.vis, _, rfl⟩) h

theorem countLines (h : TrafficOnly s u) (who : Initiator) (a n : Nat) : TrafficOnly s (u.countLines who a n) := by
  rw [State.countLines]
  split
  · have hcounted : TrafficOnly s ((u.linesOn a n).foldl
        (fun s k => s.fwrap F.memLines_lines (k.1 / 2) (k.1 % 2) 0 k.2) u) := h.foldl fun t k ht => ht.fset _ _ _ _ _
    dsimp only
    split
    · exact hcounted
    · exact hcounted.modJob _ _
  · exact h

theorem noteOverBudget (h : TrafficOnly s u) (vi : Nat) : TrafficOnly s (u.noteOverBudget vi) := by
  unfold State.noteOverBudget
  extract_lets x s₁ s₂ s₃ last x₁ x₂
  have h₃ : TrafficOnly s s₃ := ((h.updateVis _).fset _ _ _ _ _).fset _ _ _ _ _
  exact ite (h.updateVis _) (ite ((h₃.updateVis _).raiseSide _) h₃)

theorem takeBucket (h : TrafficOnly s u) (vi d need : Nat) : TrafficOnly s (u.takeBucket vi d need) :=
  (ite (h.noteOverBudget vi) h : TrafficOnly s (if u.bucketLevel vi d < need then u.noteOverBudget vi else u)).updateVis _

theorem takeTokens (h : TrafficOnly s u) (who : Initiator) (a n : Nat) : TrafficOnly s (u.takeTokens who a n) := by
  rw [State.takeTokens]
  split
  · refine h.foldl fun t k ht => ?_
    dsimp only
    split
    · exact ht.takeBucket _ _ _
    · exact ite (ht.updateVis _) (ht.takeBucket _ _ _)
  · exact h

theorem noteRead (h : TrafficOnly s u) (r : GateReader) (a n : Nat) : TrafficOnly s (u.noteRead r a n) := by
  unfold State.noteRead
  split
  · exact h
  · refine h.foldl fun t p ht => ?_
    split
    · exact ht
    · exact ite (ht.modJob _ _) ht

theorem fetchBytes (h : TrafficOnly s u) (who : Initiator) (a n : Nat) : TrafficOnly s (u.fetchBytes who a n).1 :=
  ((((h.foldl fun _ _ ht => ht.correctSoft _ _).countLines who a n).takeTokens who a n).noteRead _ a n)

theorem rings (h : TrafficOnly s u) : u.rings = s.rings := by
  obtain ⟨_, _, _, _, _, _, _, rfl⟩ := h
  rfl

theorem periods (h : TrafficOnly s u) : u.periods = s.periods := by
  obtain ⟨_, _, _, _, _, _, _, rfl⟩ := h
  rfl

end TrafficOnly

end Sys2Proof.Machine
end

section
/-! PROOFS. Owner entries of granules with the scrubs they start, and the patrols of scratchpad and LPDDR6 (R157, R158,
R159, R162, R163, R178). -/

namespace Sys2Proof.Machine

/-! ### Bytes that a scrub leaves -/

/-- What a map without the keys that p refuses answers. -/
theorem storeFind_filterKeys {α : Type} {m : Store α} (p : Nat → Bool) (a : Nat) (h : storeRises m = true) :
    storeFind (m.filter fun c => p c.1) a = if p a then storeFind m a else none := by
  induction m with
  | nil => simp [storeFind]
  | cons c m ih =>
    obtain ⟨k, v⟩ := c
    have hrest : risesFrom (some k) m = true := by
      simpa only [storeRises, risesFrom_cons, Bool.true_and] using h
    have hfind := ih (risesFrom_none hrest)
    cases hk : p k with
    | true =>
      rw [List.filter_cons_of_pos (by simpa using hk), storeFind, storeFind, hfind]
      split_ifs <;> simp_all
    | false =>
      rw [List.filter_cons_of_neg (by simp [hk]), storeFind, hfind]
      split_ifs with hp ha hlt
      · subst ha
        exact absurd hp (by simp [hk])
      · exact storeFind_below hrest hlt.le
      · rfl
      · rfl

/-- The bytes that a scrub covers are zero, and every other byte is as it was. -/
theorem byteAt_of_dropRange {s t : State} {lo len : Nat} (hs : storeRises s.mem = true)
    (h : t.mem = storeDropRange s.mem lo len) (a : Nat) :
    t.byteAt a = if lo ≤ a ∧ a < lo + len then 0 else s.byteAt a := by
  have hfind := storeFind_filterKeys (m := s.mem) (fun k => !(decide (lo ≤ k) && decide (k < lo + len))) a hs
  rw [State.byteAt, State.byteAt, h, storeGet, storeGet, storeDropRange, hfind]
  split_ifs <;> simp_all

/-! ### Owner entries -/

theorem State.countGranule_mem (s : State) (o : Option (Bool × Nat)) (up : Bool) :
    (s.countGranule o up).mem = s.mem := by
  unfold State.countGranule
  split <;> rfl

/-- A change of a granule's owner scrubs the granule, and a rewrite of the same owner changes no byte. -/
theorem State.setGranule_mem (s : State) (die g kind vi rt : Nat) : (s.setGranule die g kind vi rt).mem =
    if s.granOwner die (granReg g) = granuleOwner kind vi rt then s.mem
    else storeDropRange s.mem (granuleAddr die g) 0x100000 := by
  rw [State.setGranule_eq]
  split
  · rfl
  · change storeDropRange ((State.countGranule _ _ _).countGranule _ _).mem _ _ = _
    rw [State.countGranule_mem, State.countGranule_mem]
    rfl

/-- Whether a field lies in an owner entry, beside the bit that a scrub sets. -/
def Fld.namesOwner (f : Fld) : Bool :=
  f.off == F.spmGranuleN_kind.off && F.spmGranuleN_scrubbing.spares f

theorem Fld.namesOwner_addr {f : Fld} (hf : f.namesOwner = true) (die g : Nat) :
    fldAddr f die (granReg g) 0 = granuleEntry die g := by
  simp only [Fld.namesOwner, Fld.spares, Bool.and_eq_true, beq_iff_eq] at hf
  exact fldAddr_congr hf.1 hf.2.1.symm die (granReg g) 0

theorem State.countGranule_fget (s : State) (o : Option (Bool × Nat)) (up : Bool) {f : Fld} {die g : Nat}
    (hf : fldAddr f die (granReg g) 0 = granuleEntry die g) :
    (s.countGranule o up).fget f die (granReg g) 0 = s.fget f die (granReg g) 0 := by
  rw [State.fget, State.fget, hf, State.countGranule_reg _ _ _ (granuleEntry_ne_viUse die g)]

theorem State.ownerChanged_fget (s : State) {die g : Nat} (old new : Option (Bool × Nat)) {f : Fld}
    (hf : f.namesOwner = true) :
    (s.ownerChanged die g old new).fget f die (granReg g) 0 = s.fget f die (granReg g) 0 :=
  calc (s.ownerChanged die g old new).fget f die (granReg g) 0
      = ((s.countGranule old false).countGranule new true).fget f die (granReg g) 0 :=
        State.fget_fset_spared _ _ _ _ _ (by simp only [Fld.namesOwner, Bool.and_eq_true] at hf; exact hf.2)
    _ = s.fget f die (granReg g) 0 := by
        have haddr := Fld.namesOwner_addr hf die g
        rw [State.countGranule_fget _ _ _ haddr, State.countGranule_fget _ _ _ haddr]

/-- What names the owner reads as put, whether the owner changes or not. -/
theorem State.setGranule_fget (s : State) (die g kind vi rt : Nat) {f : Fld} (hf : f.namesOwner = true) :
    (s.setGranule die g kind vi rt).fget f die (granReg g) 0 =
      (s.putOwner die g kind vi rt).fget f die (granReg g) 0 := by
  rw [State.setGranule_eq]
  split
  · rfl
  · exact State.ownerChanged_fget _ _ _ hf

theorem State.setGranule_granVi (s : State) (die g kind vi rt : Nat) :
    (s.setGranule die g kind vi rt).granVi die (granReg g) = vi % 64 :=
  (s.setGranule_fget die g kind vi rt (f := F.spmGranuleN_vi) (by decide)).trans
    ((State.fget_fset_spared _ _ _ _ _ (by decide)).trans (State.fget_fset_same _ _ _ _ _ _ (by decide)))

theorem State.setGranule_partition (s : State) (die g kind vi rt : Nat) :
    (s.setGranule die g kind vi rt).fget F.spmGranuleN_rt_partition die (granReg g) 0 = rt % 64 :=
  (s.setGranule_fget die g kind vi rt (f := F.spmGranuleN_rt_partition) (by decide)).trans
    (State.fget_fset_same _ _ _ _ _ _ (by decide))

/-- A change of owner shows the scrub that it starts. -/
theorem State.setGranule_scrubbing (s : State) {die g kind vi rt : Nat}
    (h : s.granOwner die (granReg g) ≠ granuleOwner kind vi rt) :
    (s.setGranule die g kind vi rt).fget F.spmGranuleN_scrubbing die (granReg g) 0 = 1 := by
  rw [State.setGranule_eq, if_neg h]
  exact State.fget_fset_same _ _ _ _ _ _ (by decide)

/-! ### Owner entries that the control cores write -/

/-- Beside the entry, a write shows the island's protection and notes whether the granule is borrowed. -/
theorem State.giveGranule_eq (s : State) (die g kind vi rt : Nat) : ∃ vis, s.giveGranule die g kind vi rt =
    { (s.setGranule die g kind vi rt).refreshProtected (die * 8 + g / 16) with vis } := by
  unfold State.giveGranule
  dsimp only
  split
  · exact ⟨_, rfl⟩
  · exact ⟨_, rfl⟩

theorem State.giveGranule_mem (s : State) (die g kind vi rt : Nat) :
    (s.giveGranule die g kind vi rt).mem = (s.setGranule die g kind vi rt).mem := by
  obtain ⟨vis, hgive⟩ := s.giveGranule_eq die g kind vi rt
  rw [hgive]
  rfl

theorem fldAddr_protected_ne_granuleEntry (c die g : Nat) :
    granuleEntry die g ≠ fldAddr F.pwrIsl_protected (c / 8) 0 (c % 8) := by
  simp only [granuleEntry, fldAddr, granReg, regBase, bankStride, F.spmGranuleN_kind, F.pwrIsl_protected]
  omega

theorem State.giveGranule_fget (s : State) (die g kind vi rt : Nat) {f : Fld}
    (hf : fldAddr f die (granReg g) 0 = granuleEntry die g) :
    (s.giveGranule die g kind vi rt).fget f die (granReg g) 0 =
      (s.setGranule die g kind vi rt).fget f die (granReg g) 0 := by
  obtain ⟨vis, hgive⟩ := s.giveGranule_eq die g kind vi rt
  rw [hgive]
  refine State.fget_fset_other _ _ _ _ _ _ _ _ _ _ ?_
  rw [hf]
  exact fldAddr_protected_ne_granuleEntry _ die g

/-- An initiator with the right writes an entry of a granule that is not under move. -/
theorem exec_granuleOwnerWrite_of_rights {s : State} {who : Initiator} {cluster granule : Nat} {value : Word}
    (hrights : s.granuleRights who (cluster / 8) (cluster % 8 * 16 + granule) = true)
    (hmoving : s.isMoving (granuleAddr (cluster / 8) (cluster % 8 * 16 + granule)) = false)
    (hkind : bits value.toNat 0 3 ≤ 4) :
    exec (.granuleOwnerWrite who cluster granule value) s = .next (s.giveGranule (cluster / 8)
      (cluster % 8 * 16 + granule) (bits value.toNat 0 3) (bits value.toNat 4 6) (bits value.toNat 10 6)).answerOk := by
  change execGranuleOwnerWrite who cluster granule value s = _
  rw [execGranuleOwnerWrite]
  dsimp only
  rw [if_neg (by simp [hrights, hmoving]), if_neg (by omega)]

theorem exec_granuleScrubDone (cluster granule : Nat) (s : State) : exec (.granuleScrubDone cluster granule) s =
    .next (s.fset F.spmGranuleN_scrubbing (cluster / 8) (granReg (cluster % 8 * 16 + granule)) 0 0) := by rfl

/-! ### Patrols -/

/-- What a patrol's finds leave as it is: a field of its own register, every byte, and the time. -/
def State.patrolView (f : Fld) (d i : Nat) (s : State) : Nat × List Host.Cell × Nat :=
  (s.fget f d i 0, s.mem, s.periods)

section
variable (f : Fld) (d i : Nat) (s : State)

theorem State.patrolView_strike (hits : List Hit) : (s.strike hits).patrolView f d i = s.patrolView f d i := by
  refine State.foldl_proj (State.patrolView f d i) (fun t h => ?_) hits s
  split
  · split <;> rfl
  · split <;> rfl
  · split <;> rfl
  · rfl

theorem State.patrolView_markPoison (a n : Nat) : (s.markPoison a n).patrolView f d i = s.patrolView f d i := by
  unfold State.markPoison
  split <;> rfl

theorem State.patrolView_dropModelAt (die a : Nat) : (s.dropModelAt die a).patrolView f d i = s.patrolView f d i := by
  unfold State.dropModelAt
  dsimp only
  split <;> rfl

/-- A correction counts in a register that accesses count in. -/
theorem State.patrolView_correctSoft (a n : Nat) (hf : isCountOffset ((f.off + i * f.stride) % 0x1000000) = false) :
    (s.correctSoft a n).patrolView f d i = s.patrolView f d i := by
  have htraffic := (Traffic.refl s).correctSoft a n
  rw [State.patrolView, State.patrolView, htraffic.fget 0 hf, htraffic.mem,
    ((TrafficOnly.refl s).correctSoft a n).periods]

theorem State.patrolView_fset {g : Fld} (v : Nat) (hg : g.spares f = true) :
    (s.fset g d i 0 v).patrolView f d i = s.patrolView f d i := by
  rw [State.patrolView, State.fget_fset_spared _ _ _ _ _ hg, State.fset_mem, State.fset_periods, State.patrolView]

theorem State.patrolView_fadd {g : Fld} (n : Nat) (hg : g.spares f = true) :
    (s.fadd g d i 0 n).patrolView f d i = s.patrolView f d i := State.patrolView_fset f d i s _ hg

theorem State.patrolView_raiseRec (r : ErrRec) : (s.raiseRec r).patrolView f d i = s.patrolView f d i := rfl

theorem State.patrolView_patrolWord (w : Nat) (hcount : F.spmEcc_uncorrected.spares f = true)
    (haddr : F.spmEccAddr_addr.spares f = true) : (s.patrolWord d i w).patrolView f d i = s.patrolView f d i := by
  have hnoted : ∀ r : ErrRec, ((((s.markPoison (w * 8) 8).fadd F.spmEcc_uncorrected d i 0 1).fset F.spmEccAddr_addr d i 0
      (w * 8)).raiseRec r).patrolView f d i = s.patrolView f d i := fun r => by
    rw [State.patrolView_raiseRec, State.patrolView_fset _ _ _ _ _ haddr, State.patrolView_fadd _ _ _ _ _ hcount,
      State.patrolView_markPoison]
  unfold State.patrolWord
  dsimp only
  split
  · exact (State.patrolView_dropModelAt f d i _ _ _).trans (hnoted _)
  · exact hnoted _

end

theorem State.patrolView_patrolLine (s : State) (m l : Nat) {f : Fld} (hcount : F.memEcc_uncorrected.spares f = true)
    (haddr : F.memEccAddr_addr.spares f = true) :
    (s.patrolLine m l).patrolView f (m / 2) (m % 2) = s.patrolView f (m / 2) (m % 2) := by
  rw [State.patrolLine, State.patrolView_raiseRec, State.patrolView_fset _ _ _ _ _ haddr,
    State.patrolView_fadd _ _ _ _ _ hcount, State.patrolView_markPoison]

/-- A pass over a usable cluster's scratchpad, after its finds, is counted with its time. -/
theorem exec_spmPatrol_of_usable {s : State} {cluster : Nat} (hits : List Hit)
    (h : bit (s.fget F.cfgCapsClusterMap_cluster_usable 4 0 0) cluster = true) :
    ∃ u : State, u.patrolView F.spmScrub_passes (cluster / 8) (cluster % 8)
        = s.patrolView F.spmScrub_passes (cluster / 8) (cluster % 8) ∧
      exec (.spmPatrol cluster hits) s = .next ((u.fwrap F.spmScrub_passes (cluster / 8) (cluster % 8) 0 1).fset
        F.spmScrub_last_pass_ms (cluster / 8) (cluster % 8) 0
        (u.fwrap F.spmScrub_passes (cluster / 8) (cluster % 8) 0 1).nowMs) := by
  have hpasses : isCountOffset ((F.spmScrub_passes.off + cluster % 8 * F.spmScrub_passes.stride) % 0x1000000) = false := by
    have hall : (List.range 8).all (fun c =>
      !isCountOffset ((F.spmScrub_passes.off + c * F.spmScrub_passes.stride) % 0x1000000)) = true := by decide
    simpa using List.all_eq_true.1 hall (cluster % 8) (List.mem_range.2 (Nat.mod_lt _ (by decide)))
  change ∃ u : State, _ ∧ execSpmPatrol cluster hits s = _
  rw [execSpmPatrol]
  dsimp only
  rw [if_neg (by simp [h])]
  refine ⟨_, ?_, rfl⟩
  refine (State.foldl_proj (State.patrolView _ _ _) (fun t w => ?_) _ _).trans ?_
  · exact State.patrolView_patrolWord _ _ _ t w (by decide) (by decide)
  · exact (State.patrolView_correctSoft _ _ _ _ _ _ hpasses).trans (State.patrolView_strike _ _ _ s _)

/-- A pass over a usable stack, after its finds, is counted. -/
theorem exec_memPatrol_of_usable {s : State} {stack : Nat} (hits : List Hit)
    (h : s.fon F.memStatus_usable (stack / 2) (stack % 2) 0 = true) :
    ∃ u : State, u.patrolView F.memPatrol_passes (stack / 2) (stack % 2)
        = s.patrolView F.memPatrol_passes (stack / 2) (stack % 2) ∧
      exec (.memPatrol stack hits) s = .next (u.fwrap F.memPatrol_passes (stack / 2) (stack % 2) 0 1) := by
  have hpasses : isCountOffset ((F.memPatrol_passes.off + stack % 2 * F.memPatrol_passes.stride) % 0x1000000) = false := by
    obtain h | h := Nat.mod_two_eq_zero_or_one stack <;> rw [h] <;> rfl
  change ∃ u : State, _ ∧ execMemPatrol stack hits s = _
  rw [execMemPatrol]
  dsimp only
  rw [if_neg (by simp [h])]
  refine ⟨_, ?_, rfl⟩
  refine (State.foldl_proj (State.patrolView _ _ _) (fun t l => ?_) _ _).trans
    ((State.foldl_proj (State.patrolView _ _ _) (fun t l => ?_) _ _).trans (State.patrolView_strike _ _ _ s _))
  · exact t.patrolView_patrolLine stack l (by decide) (by decide)
  · exact State.patrolView_correctSoft _ _ _ t _ _ hpasses

/-- Settles O16. An owner entry's fields share a register with the bit of the scrub that a new owner starts, and the
rest of a write stands elsewhere; a patrol's finds leave its own register, the bytes and the time as they are. -/
theorem scratchpadAndPatrolsComplete : Obligations.ScratchpadAndPatrolsComplete := by
  unfold Obligations.ScratchpadAndPatrolsComplete
  refine ⟨?ownerWrite, ?scrubDone, ?spmPatrol, ?memPatrol⟩
  case ownerWrite =>
    rintro s who cluster granule value _ _ ⟨hwf, -⟩ - ⟨rfl, rfl⟩ hrights hmoving hkind
    have hmem := ((Memory.wf_iff s.mem).1 hwf).1
    refine ⟨_, exec_granuleOwnerWrite_of_rights hrights hmoving hkind, ?_⟩
    generalize cluster / 8 = die
    generalize cluster % 8 * 16 + granule = g
    have hk := Nat.mod_eq_of_lt (bits_lt value.toNat 0 3)
    have hv := Nat.mod_eq_of_lt (bits_lt value.toNat 4 6)
    have hr := Nat.mod_eq_of_lt (bits_lt value.toNat 10 6)
    generalize bits value.toNat 0 3 = kind at hk ⊢
    generalize bits value.toNat 4 6 = vi at hv ⊢
    generalize bits value.toNat 10 6 = rt at hr ⊢
    have hbytes : (s.giveGranule die g kind vi rt).answerOk.mem = if s.granOwner die (granReg g) = granuleOwner kind vi rt
        then s.mem else storeDropRange s.mem (granuleAddr die g) 0x100000 :=
      (s.giveGranule_mem die g kind vi rt).trans (s.setGranule_mem die g kind vi rt)
    refine ⟨?_, ?_, ?_, fun a ha => ?_, ?_⟩
    · exact ((s.giveGranule_fget die g kind vi rt rfl).trans (s.setGranule_granKind die g kind vi rt)).trans hk
    · exact ((s.giveGranule_fget die g kind vi rt (f := F.spmGranuleN_vi) rfl).trans
        (s.setGranule_granVi die g kind vi rt)).trans hv
    · exact ((s.giveGranule_fget die g kind vi rt (f := F.spmGranuleN_rt_partition) rfl).trans
        (s.setGranule_partition die g kind vi rt)).trans hr
    · split_ifs at hbytes with hsame
      · rw [State.byteAt, State.byteAt, hbytes]
      · rw [byteAt_of_dropRange hmem hbytes, if_neg (by omega)]
    · split_ifs at hbytes ⊢ with hsame
      · exact hbytes
      · refine ⟨(s.giveGranule_fget die g kind vi rt (f := F.spmGranuleN_scrubbing) rfl).trans
          (s.setGranule_scrubbing hsame), fun a hlo hhi => ?_⟩
        rw [byteAt_of_dropRange hmem hbytes, if_pos ⟨hlo, hhi⟩]
  case scrubDone =>
    intro s cluster granule
    exact ⟨_, exec_granuleScrubDone cluster granule s, rfl, State.fget_fset_same _ _ _ _ _ _ (by decide),
      sameRegsBut_fset s _ _ _ _ _⟩
  case spmPatrol =>
    intro s cluster hits _ husable
    obtain ⟨u, hview, hexec⟩ := exec_spmPatrol_of_usable hits husable
    simp only [State.patrolView, Prod.mk.injEq] at hview
    obtain ⟨hpasses, hmem, htime⟩ := hview
    refine ⟨_, hexec, ?_, ?_, hmem⟩
    · rw [State.fget_fset_spared _ _ _ _ _ (by decide), State.fwrap, State.fget_fset_same _ _ _ _ _ _ (by decide), hpasses]
      rfl
    · rw [State.fget_fset_same _ _ _ _ _ _ (by decide), State.nowMs, State.fwrap,
        State.fset_periods, htime]
      rfl
  case memPatrol =>
    intro s stack hits _ husable
    obtain ⟨u, hview, hexec⟩ := exec_memPatrol_of_usable hits husable
    simp only [State.patrolView, Prod.mk.injEq] at hview
    obtain ⟨hpasses, hmem, -⟩ := hview
    refine ⟨_, hexec, ?_, hmem⟩
    rw [State.fwrap, State.fget_fset_same _ _ _ _ _ _ (by decide), hpasses]
    rfl

end Sys2Proof.Machine
end

section
/-! PROOFS. A ring's registers and books, and the start, pause and abort of a ring (R163, R171, R172, R173). -/

namespace Sys2Proof.Machine

/-! ### A ring's books and its state -/

@[simp] theorem State.ring_setRing_same (s : State) (n : Nat) (r : RingState) : (s.setRing n r).ring n = r :=
  storeGet_put_same _ _ _ _

@[simp] theorem State.ring_fset (s : State) (f : Fld) (d i u v n : Nat) : (s.fset f d i u v).ring n = s.ring n := rfl

@[simp] theorem State.ring_setRingSt (s : State) (k st n : Nat) : (s.setRingSt k st).ring n = s.ring n := rfl

theorem State.ringSt_setRingSt (s : State) (n : Nat) {st : Nat} (h : st < 8) : (s.setRingSt n st).ringSt n = st :=
  (State.fget_fset_same _ _ _ _ _ _ (by decide)).trans (Nat.mod_eq_of_lt h)

/-- A ring's books and its state set together: nothing but the two changes. -/
def State.bookRing (s : State) (n : Nat) (r : RingState) (st : Nat) : State := (s.setRing n r).setRingSt n st

theorem State.bookRing_eq (s : State) (n : Nat) (r : RingState) (st : Nat) :
    s.bookRing n r st = { s with regs := (s.bookRing n r st).regs, rings := (s.bookRing n r st).rings } := rfl

@[simp] theorem State.ring_bookRing (s : State) (n : Nat) (r : RingState) (st : Nat) : (s.bookRing n r st).ring n = r :=
  State.ring_setRing_same s n r

theorem State.ringSt_bookRing (s : State) (n : Nat) (r : RingState) {st : Nat} (h : st < 8) :
    (s.bookRing n r st).ringSt n = st := State.ringSt_setRingSt _ _ h

theorem State.sameRegsBut_bookRing (s : State) (n : Nat) (r : RingState) (st : Nat) :
    sameRegsBut [fldAddr F.seRingHead_state (n / 16) (ringReg n) 0] s (s.bookRing n r st) :=
  sameRegsBut_fset (s.setRing n r) _ _ _ _ _

/-! ### The commands of a ring's registers -/

theorem exec_seRingTailWrite (who : Initiator) (ring tail : Nat) (s : State) :
    exec (.seRingTailWrite who ring tail) s = execSeRingTailWrite who ring tail s := by rfl
theorem exec_seRingStart (who : Initiator) (ring : Nat) (s : State) :
    exec (.seRingStart who ring) s = .next (s.ringCtrl who ring State.opRingStart) := by rfl
theorem exec_seRingPause (who : Initiator) (ring : Nat) (s : State) :
    exec (.seRingPause who ring) s = .next (s.ringCtrl who ring State.opRingPause) := by rfl
theorem exec_seRingAbort (who : Initiator) (ring : Nat) (s : State) :
    exec (.seRingAbort who ring) s = .next (s.ringCtrl who ring State.opRingAbort) := by rfl
theorem exec_ringPaused (ring : Nat) (s : State) : exec (.ringPaused ring) s = execRingPaused ring s := by rfl

/-- Settles O18. An initiator that the write rights let in has its bit of SE_RING_CTRL carried out, and each bit's
operation sets the ring's books, and its state, alone. -/
theorem ringControlsComplete : Obligations.RingControlsComplete := by
  unfold Obligations.RingControlsComplete
  refine ⟨?tail, ?refused, ?start, ?pause, ?paused, ?abort⟩
  case tail =>
    intro s who ring tail hrights
    refine ⟨_, (exec_seRingTailWrite who ring tail s).trans (if_pos hrights), rfl, ?_, fun a ha => ?_⟩
    · change bits ((s.setReg _ (tail % 4096)).reg _) 0 12 = _
      rw [State.reg_setReg_same, bits_mod_64 _ _ _ (by decide)]
      simp [bits]
    · exact State.reg_setReg_other _ _ (by simpa using ha)
  case refused =>
    intro s who ring tail hrights
    refine ⟨_, (exec_seRingTailWrite who ring tail s).trans (if_neg (by simp [hrights])), rfl, ?_⟩
    exact newCodes_raiseRec_only (s := s) _ rfl
  case start =>
    intro s who ring _ hrights hstopped
    have hexec : s.ringCtrl who ring State.opRingStart = (s.bookRing ring
        { s.ring ring with issue := s.ringHead ring, inFlight := [], pausing := false } rgRunning).answerOk :=
      (if_pos hrights).trans (congrArg State.answerOk (if_pos hstopped))
    exact ⟨_, (exec_seRingStart who ring s).trans (congrArg _ hexec), rfl, s.ringSt_bookRing ring _ (by decide),
      s.ring_bookRing ring _ rgRunning, s.sameRegsBut_bookRing ring _ rgRunning⟩
  case pause =>
    intro s who ring hrights hissues
    have hexec : s.ringCtrl who ring State.opRingPause =
        (s.setRing ring { s.ring ring with pausing := true }).answerOk :=
      (if_pos hrights).trans (congrArg State.answerOk (if_pos hissues))
    exact ⟨_, (exec_seRingPause who ring s).trans (congrArg _ hexec), rfl, s.ring_setRing_same ring _⟩
  case paused =>
    intro s ring _ hpausing hflows
    have hexec : execRingPaused ring s = .next (s.bookRing ring
        { s.ring ring with pausing := false, inFlight := [], issue := s.ringHead ring } rgPaused) :=
      if_pos (by simp [hpausing, hflows])
    exact ⟨_, (exec_ringPaused ring s).trans hexec, s.bookRing_eq ring _ _, s.ringSt_bookRing ring _ (by decide),
      s.ring_bookRing ring _ _, s.sameRegsBut_bookRing ring _ _⟩
  case abort =>
    intro s who ring _ hrights
    have hexec : s.ringCtrl who ring State.opRingAbort = (s.bookRing ring
        { s.ring ring with issue := s.ringHead ring, inFlight := [], pausing := false } rgIdle).answerOk := if_pos hrights
    exact ⟨_, (exec_seRingAbort who ring s).trans (congrArg _ hexec), rfl, s.ringSt_bookRing ring _ (by decide),
      s.ring_bookRing ring _ rgIdle, s.sameRegsBut_bookRing ring _ rgIdle⟩

end Sys2Proof.Machine
end

section
/-! PROOFS. The accesses of a ring: what a read and a write that pass leave of the rings' books, and the bytes that a
single request moves (R165, R166, R172). -/

namespace Sys2Proof.Machine

/-! ### Requests in one piece -/

/-- A range that crosses no multiple of the size is one piece. -/
theorem pieces_single {size a n : Nat} (fuel : Nat) (hn : 0 < n) (h : a % size + n ≤ size) :
    pieces size a n (fuel + 1) = [(a, n)] := by
  have hrest : ∀ fuel, pieces size (a + n) 0 fuel = [] := fun fuel => by cases fuel <;> simp [pieces]
  have hroom : min n (size - a % size) = n := by omega
  simp [pieces, hn.ne', hroom, hrest]

theorem requests_single {a n : Nat} (hn : 0 < n) (h : a % 256 + n ≤ 256) : requests a n = [(a, n)] :=
  pieces_single _ hn h

theorem granPieces_single {a n : Nat} (hn : 0 < n) (h : a % 256 + n ≤ 256) : granPieces a n = [(a, n)] :=
  pieces_single _ hn (by simp only [granBytes]; omega)

/-! ### Writes through the gate -/

@[simp] theorem State.store_rings (s : State) (a : Nat) (bs : List Byte) : (s.store a bs).rings = s.rings := by
  rw [State.store, State.clearPoison]
  split <;> rfl

@[simp] theorem State.tagLines_rings (s : State) (secure : Bool) (a n : Nat) :
    (s.tagLines secure a n).rings = s.rings := by
  rw [State.tagLines]
  split <;> rfl

theorem State.setGranState_rings (s : State) (d b e st : Nat) : (s.setGranState d b e st).rings = s.rings := by
  unfold State.setGranState
  dsimp only
  rw [State.fset_rings]
  split_ifs <;> rfl

theorem State.takeGranule_rings (s : State) (j d b g : Nat) : (s.takeGranule j d b g).rings = s.rings :=
  State.setGranState_rings s d b _ gOpen

theorem State.gateWrite_rings (s : State) (who : Initiator) (j d b a : Nat) (bs : List Byte) :
    (s.gateWrite who j d b a bs).1.rings = s.rings := by
  unfold State.gateWrite
  extract_lets g e s₁ f o s₂ s₃ off x s₄
  have h₁ : s₁.rings = s.rings := by
    unfold s₁
    split
    · exact s.takeGranule_rings j d b g
    · rfl
  have h₂ : s₂.rings = s.rings := by
    unfold s₂
    split <;> exact h₁
  have h₃ : s₃.rings = s.rings := by
    unfold s₃
    split <;> exact h₂
  split_ifs
  · rfl
  · rfl
  · rfl
  · exact h₃
  · exact ((State.tagLines_rings _ _ _ _).trans (State.store_rings _ _ _)).trans h₃

/-- A fold over pieces keeps what each piece keeps of the state. -/
theorem foldl_fst_proj {α β γ : Type} (view : State → γ) {f : State × β → α → State × β}
    (hf : ∀ p x, view (f p x).1 = view p.1) (l : List α) (p : State × β) : view (l.foldl f p).1 = view p.1 := by
  induction l generalizing p with
  | nil => rfl
  | cons x l ih => exact (ih (f p x)).trans (hf p x)

theorem State.placeWrite_rings (s : State) (who : Initiator) (a : Nat) (bs : List Byte) :
    (s.placeWrite who a bs).1.rings = s.rings := by
  rw [State.placeWrite]
  split
  · exact foldl_fst_proj State.rings (fun p x => by exact State.gateWrite_rings _ _ _ _ _ _ _) _ (s, GateWrite.done)
  · exact (State.tagLines_rings _ _ _ _).trans (State.store_rings _ _ _)

/-! ### A ring's reads and writes -/

/-- A read that passes and meets no poison fetches its bytes. -/
theorem State.ringRead_passes {s : State} {n a len : Nat} (hpass : s.checkAccess (.ring n) false a len = .pass)
    (hclean : s.poisonIn (.ring n) a len = none) :
    s.ringRead n a len = ((s.fetchBytes (.ring n) a len).1, .ok (s.fetchBytes (.ring n) a len).2) := by
  rw [State.ringRead, hpass]
  dsimp only
  rw [hclean]

theorem State.ringRead_rings {s : State} {n a len : Nat} {bs : List Byte} (h : (s.ringRead n a len).2 = .ok bs) :
    (s.ringRead n a len).1.rings = s.rings := by
  rw [State.ringRead] at h ⊢
  split at h
  · simp at h
  split at h
  · simp at h
  · exact ((TrafficOnly.refl s).fetchBytes _ _ _).rings

/-- What goes on beside a ring's write that passes, before its bytes are placed. -/
def State.ringTraffic (s : State) (n a len : Nat) : State :=
  ((s.notePosted (.ring n) a).countLines (.ring n) a len).takeTokens (.ring n) a len

theorem Traffic.ringTraffic (s : State) (n a len : Nat) : Traffic s (s.ringTraffic n a len) :=
  (((Traffic.refl s).notePosted _ _).countLines _ _ _).takeTokens _ _ _

theorem State.ringTraffic_rings (s : State) (n a len : Nat) : (s.ringTraffic n a len).rings = s.rings :=
  ((((TrafficOnly.refl s).notePosted _ _).countLines _ _ _).takeTokens _ _ _).rings

/-- The state in which a ring's write that passes was placed and its lines were counted at its stream engine. -/
def State.ringPlaced (s : State) (n a : Nat) (bs : List Byte) : State :=
  ((s.ringTraffic n a bs.length).placeWrite (.ring n) a bs).1.fwrap F.seBytes_lines (n / 16) (n % 16 / 4) 0
    ((a + bs.length + 63) / 64 - a / 64)

theorem State.ringPlaced_rings (s : State) (n a : Nat) (bs : List Byte) : (s.ringPlaced n a bs).rings = s.rings :=
  (State.placeWrite_rings _ _ _ _).trans (s.ringTraffic_rings n a bs.length)

/-- A write that passes and meets no granule that is MARKED is placed. -/
theorem State.ringWrite_unmarked {s : State} {n a : Nat} {bs : List Byte}
    (hpass : s.checkAccess (.ring n) true a bs.length = .pass)
    (hunmarked : ((s.ringTraffic n a bs.length).placeWrite (.ring n) a bs).2 ≠ .marked) :
    s.ringWrite n a bs = (s.ringPlaced n a bs, none) := by
  rw [State.ringWrite, hpass]
  exact if_neg hunmarked

/-- A write without a refusal passed and was placed. -/
theorem State.ringWrite_accepted {s : State} {n a : Nat} {bs : List Byte} (h : (s.ringWrite n a bs).2 = none) :
    s.ringWrite n a bs = (s.ringPlaced n a bs, none) := by
  rw [State.ringWrite] at h ⊢
  split at h
  · split at h <;> simp at h
  · dsimp only at h ⊢
    split_ifs at h ⊢
    rfl

/-- A write that passes outside registered buffers puts its bytes at their place. -/
theorem State.ringWrite_stores {s : State} {n a : Nat} {bs : List Byte}
    (hpass : s.checkAccess (.ring n) true a bs.length = .pass) (hpublic : s.publicAt a = none) :
    s.ringWrite n a bs = (s.ringPlaced n a bs, none) ∧ (s.ringPlaced n a bs).mem = putBytes s.mem a bs := by
  have htraffic := Traffic.ringTraffic s n a bs.length
  have hplace := State.placeWrite_ungated (who := .ring n) bs (.inl ((htraffic.publicAt a).trans hpublic))
  refine ⟨State.ringWrite_unmarked hpass (by simp [hplace]), ?_⟩
  rw [State.ringPlaced, State.fwrap, State.fset_mem, hplace, State.tagLines_mem, State.store, State.putAt,
    State.clearPoison_mem, htraffic.mem]

/-! ### Rows -/

theorem State.ringWrites_rings {n a : Nat} {bs : List Byte} {ps : List (Nat × Nat)} {s : State}
    (h : (s.ringWrites n bs a ps).2 = none) : (s.ringWrites n bs a ps).1.rings = s.rings := by
  induction ps generalizing s with
  | nil => rfl
  | cons p ps ih =>
    rw [State.ringWrites] at h ⊢
    split at h
    · simp at h
    next hwrite =>
      rw [State.ringWrite_accepted hwrite] at h ⊢
      exact (ih h).trans (s.ringPlaced_rings _ _ _)

theorem State.freeBytes_rings (s : State) (k : Nat) : (s.freeBytes k).1.rings = s.rings := by
  induction k generalizing s with
  | zero => rfl
  | succ k ih => exact ih (s.fresh 8).2

theorem State.copyRow_rings {n src dst : Nat} {blind : Bool} {ps : List (Nat × Nat)} {s : State} {acc bs : List Byte}
    (h : (s.copyRow n src dst blind acc ps).2 = .ok bs) :
    (s.copyRow n src dst blind acc ps).1.rings = s.rings := by
  induction ps generalizing s acc with
  | nil => rfl
  | cons p ps ih =>
    rw [State.copyRow] at h ⊢
    split at h
    · simp at h
    next u got hread =>
      have hu : u.rings = s.rings := by
        have := State.ringRead_rings (s := s) (n := n) (a := p.1) (len := p.2) (bs := got) (by rw [hread])
        rwa [hread] at this
      dsimp only at h ⊢
      generalize hw : (if blind = true then u.freeBytes got.length else (u, got)) = w at h ⊢
      have hwrings : w.1.rings = u.rings := by
        rw [← hw]
        split
        · exact u.freeBytes_rings _
        · rfl
      split at h
      · simp at h
      next v hrow =>
        have hv := State.ringWrites_rings (s := w.1) (n := n) (a := dst + (p.1 - src)) (bs := w.2)
          (ps := requests (dst + (p.1 - src)) w.2.length) (congrArg Prod.snd hrow)
        rw [show w.1.ringWrites n w.2 (dst + (p.1 - src)) (requests (dst + (p.1 - src)) w.2.length) = (v, none) from
          hrow] at hv
        exact (ih h).trans (hv.trans (hwrings.trans hu))

theorem State.copyRows_rings {n len : Nat} {blind : Bool} {ps : List (Nat × Nat)} {s : State} {acc bs : List Byte}
    (h : (s.copyRows n len blind acc ps).2 = .ok bs) : (s.copyRows n len blind acc ps).1.rings = s.rings := by
  induction ps generalizing s acc with
  | nil => rfl
  | cons p ps ih =>
    rw [State.copyRows] at h ⊢
    split at h
    · simp at h
    next u got hrow =>
      have hu := State.copyRow_rings (congrArg Prod.snd hrow)
      rw [hrow] at hu
      exact (ih h).trans hu

/-! ### Transfers of a single request -/

theorem State.bytesAt_length (s : State) (a n : Nat) : (s.bytesAt a n).length = n := by
  simp [State.bytesAt_eq_map]

theorem State.bytesAt_getElem (s : State) (a n i : Nat) (h : i < (s.bytesAt a n).length) :
    (s.bytesAt a n)[i] = s.byteAt (a + i) := by simp [State.bytesAt_eq_map]

/-- A read of one request outside registered buffers returns the bytes that lie there. -/
theorem State.fetchBytes_single {s : State} {n a len : Nat} (hlen : 0 < len) (hfits : a % 256 + len ≤ 256)
    (hpublic : s.publicAt a = none) : (s.fetchBytes (.ring n) a len).2 = s.bytesAt a len := by
  obtain ⟨r, u, htraffic, hread⟩ : ∃ r u, Traffic s u ∧ (s.fetchBytes (.ring n) a len).2 = u.steeredBytes r a len :=
    ⟨s.readerOf (.ring n), _, (((Traffic.refl s).correctSteered _ a len).countLines (.ring n) a len).takeTokens
      (.ring n) a len, rfl⟩
  have hungated : u.publicAt a = none := (htraffic.publicAt a).trans hpublic
  rw [hread]
  simp [State.steeredBytes, granPieces_single hlen hfits, State.steer, hungated, htraffic.bytesAt]

/-- A row of one request, outside registered buffers, is stored where its write passes. -/
theorem State.ringWriteRow_single {s : State} {n a : Nat} {bs : List Byte} (hlen : 0 < bs.length)
    (hfits : a % 256 + bs.length ≤ 256) (hpass : s.checkAccess (.ring n) true a bs.length = .pass)
    (hpublic : s.publicAt a = none) : s.ringWriteRow n a bs = (s.ringPlaced n a bs, none) := by
  have hwrite := (State.ringWrite_stores hpass hpublic).1
  simp [State.ringWriteRow, requests_single hlen hfits, State.ringWrites, hwrite]

/-- The state after a COPY of one request. -/
theorem State.copyRows_single {s : State} {n src dst len : Nat} (hlen : 0 < len) (hsrc : src % 256 + len ≤ 256)
    (hdst : dst % 256 + len ≤ 256) (hpublic : s.publicAt src = none ∧ s.publicAt dst = none)
    (hread : s.checkAccess (.ring n) false src len = .pass) (hclean : s.poisonIn (.ring n) src len = none)
    (hwrite : (s.fetchBytes (.ring n) src len).1.checkAccess (.ring n) true dst len = .pass) :
    s.copyRows n len false [] [(src, dst)] =
      ((s.fetchBytes (.ring n) src len).1.ringPlaced n dst (s.bytesAt src len), .ok (s.bytesAt src len)) := by
  have hbytes := State.fetchBytes_single (n := n) hlen hsrc hpublic.1
  have hrow := State.ringWriteRow_single (s := (s.fetchBytes (.ring n) src len).1) (n := n) (a := dst)
    (bs := s.bytesAt src len) (by rwa [State.bytesAt_length]) (by rwa [State.bytesAt_length])
    (by rwa [State.bytesAt_length]) ((((Traffic.refl s).fetchBytes _ _ _).publicAt dst).trans hpublic.2)
  have hget : s.ringRead n src len = ((s.fetchBytes (.ring n) src len).1, .ok (s.bytesAt src len)) := by
    rw [State.ringRead_passes hread hclean, hbytes]
  simp [State.copyRows, State.copyRow, requests_single hlen hsrc, hget, hrow]

theorem fillBytes_length (pattern : List Byte) (from' len : Nat) : (fillBytes pattern from' len).length = len := by
  simp [fillBytes]

/-- The state after a FILL of one request. -/
theorem State.fillRows_single {s : State} {n dst len : Nat} (pattern : List Byte) (hlen : 0 < len)
    (hdst : dst % 256 + len ≤ 256) (hpublic : s.publicAt dst = none)
    (hwrite : s.checkAccess (.ring n) true dst len = .pass) :
    s.fillRows n len pattern 0 [dst] = (s.ringPlaced n dst (fillBytes pattern 0 len), none) := by
  have hrow := State.ringWriteRow_single (s := s) (n := n) (a := dst) (bs := fillBytes pattern 0 len)
    (by rwa [fillBytes_length]) (by rwa [fillBytes_length]) (by rwa [fillBytes_length]) hpublic
  simp [State.fillRows, hrow]

end Sys2Proof.Machine
end

section
/-! PROOFS. The descriptors that a ring issues, and their retirement (R165 to R169, R172). -/

namespace Sys2Proof.Machine

theorem exec_ringFlagSet (ring flag : Nat) (s : State) :
    exec (.ringFlagSet ring flag) s = execRingFlagSet ring flag s := by rfl
theorem exec_descriptorRetire (ring : Nat) (same : Bool) (s : State) :
    exec (.descriptorRetire ring same) s = execDescriptorRetire ring same s := by rfl

/-! ### The descriptor that was read -/

theorem descOk_addrs {ranks : Nat} {d : List Byte} (h : descOk ranks d = true) :
    leAt d 8 8 < 2 ^ 48 ∧ leAt d 16 8 < 2 ^ 48 := by
  simp only [descOk, Bool.and_eq_true, decide_eq_true_eq] at h
  tauto

theorem descOk_len {ranks : Nat} {d : List Byte} (h : descOk ranks d = true) (hmoves : descMoves d = true) :
    0 < leAt d 40 4 := by
  simp only [descOk, Bool.and_eq_true, Bool.or_eq_true, hmoves, Bool.not_true, Bool.false_eq_true, false_or,
    decide_eq_true_eq] at h
  omega

/-- The rows of a shape of one row. -/
theorem shapeRows_single {base : Nat} (s1 s2 : Nat) (h : base < 2 ^ 64) : shapeRows base s1 s2 1 1 = [base] := by
  simp [shapeRows, unsigned]
  omega

theorem byteSlice_getElem (bs : List Byte) (off : Nat) {len i : Nat} (hi : i < len) :
    (byteSlice bs off len)[i]?.getD 0 = bs[off + i]?.getD 0 := by
  rw [byteSlice, List.getElem?_append]
  split_ifs with h
  · rw [List.getElem?_take_of_lt hi, List.getElem?_drop]
  · have hpast : bs.length ≤ off + i := by
      simp only [List.length_take, List.length_drop] at h
      omega
    rw [List.getElem?_eq_none hpast, List.getElem?_replicate]
    split_ifs <;> rfl

theorem fillBytes_getElem (d : List Byte) (len i : Nat) (h : i < (fillBytes (byteSlice d 52 4) 0 len).length) :
    (fillBytes (byteSlice d 52 4) 0 len)[i] = d[52 + i % 4]?.getD 0 := by
  rw [← byteSlice_getElem d 52 (Nat.mod_lt i (by decide) : i % 4 < 4)]
  simp [fillBytes]

/-! ### Issue -/

section
variable {s : State} {n op : Nat} {d : List Byte}

/-- A ring that may issue runs the effect of its descriptor in the state in which the descriptor was read. -/
theorem State.ringRun_issues (h : s.ringIssues n op d = true) (hlogic : s.logicFrozen (n / 16) = false)
    (effect : State → List Byte → State) : s.ringRun n op effect = effect (s.ringRead64 n) d := by
  simp only [State.ringIssues, Bool.and_eq_true, Bool.or_eq_true, Bool.not_eq_true', beq_iff_eq, bne_iff_ne,
    Option.isNone_iff_eq_none] at h
  obtain ⟨⟨⟨⟨⟨⟨⟨hst, hpausing⟩, htail⟩, hpass⟩, hclean⟩, hread⟩, hok⟩, hop⟩ := h
  have hruns : (s.ringSt n != rgRunning && s.ringSt n != rgWaiting) = false := by
    rcases hst with h | h <;> simp [h]
  simp [State.ringRun, hruns, hpausing, htail, hlogic, State.ringRead_passes hpass hclean, hread, hok, hop,
    State.ringRead64]

theorem State.ringIssues_desc (h : s.ringIssues n op d = true) : (∃ ranks, descOk ranks d = true) ∧ descOp d = op := by
  simp only [State.ringIssues, Bool.and_eq_true, beq_iff_eq] at h
  obtain ⟨⟨-, hok⟩, hop⟩ := h
  exact ⟨⟨_, hok⟩, hop⟩

theorem Traffic.ringRead64 (s : State) (n : Nat) : Traffic s (s.ringRead64 n) := (Traffic.refl s).fetchBytes _ _ _

theorem State.ringRead64_rings (s : State) (n : Nat) : (s.ringRead64 n).rings = s.rings :=
  ((TrafficOnly.refl s).fetchBytes _ _ _).rings

theorem State.ring_congr {u : State} (h : u.rings = s.rings) (n : Nat) : u.ring n = s.ring n := by
  rw [State.ring, State.ring, h]

theorem State.issuedBooks_congr {u : State} (h : u.rings = s.rings) (n : Nat) (d : List Byte) (crc : Nat) :
    u.issuedBooks n d crc = s.issuedBooks n d crc := by rw [State.issuedBooks, State.issuedBooks, State.ring_congr h]

/-- An issued descriptor enters the ring's books, and the ring runs. -/
theorem State.ringIssued_eq (s : State) (n : Nat) (d : List Byte) (crc : Nat) :
    s.ringIssued n d crc = s.bookRing n (s.issuedBooks n d crc) rgRunning := rfl

theorem State.ring_ringIssued {u : State} (h : u.rings = s.rings) (n : Nat) (d : List Byte) (crc : Nat) :
    (u.ringIssued n d crc).ring n = s.issuedBooks n d crc := by
  rw [State.ringIssued_eq, State.ring_bookRing, State.issuedBooks_congr h]

theorem State.ringSt_ringIssued (s : State) (n : Nat) (d : List Byte) (crc : Nat) :
    (s.ringIssued n d crc).ringSt n = rgRunning := State.ringSt_bookRing _ _ _ (by decide)

/-- A COPY whose requests all pass is in progress, with the CRC of the bytes it read. -/
theorem exec_seCopy_of_moved {v : State} {bs : List Byte} (h : s.ringIssues n 1 d = true)
    (hlogic : s.logicFrozen (n / 16) = false) (hmoved : (s.ringRead64 n).copyRows n (leAt d 40 4) (descOverlaps d) []
      ((descSrcRows d).zip (descDstRows d)) = (v, .ok bs)) :
    exec (.seCopy n) s = .next (v.ringIssued n d (crc32c bs)) := by
  refine congrArg Host.Outcome.next ((State.ringRun_issues h hlogic _).trans ?_)
  rw [hmoved]

/-- A FILL whose requests all pass is in progress. -/
theorem exec_seFill_of_filled {v : State} (h : s.ringIssues n 2 d = true) (hlogic : s.logicFrozen (n / 16) = false)
    (hfilled : (s.ringRead64 n).fillRows n (leAt d 40 4) (byteSlice d 52 4) 0 (descDstRows d) = (v, none)) :
    exec (.seFill n) s = .next (v.ringIssued n d
      (crc32c (fillBytes (byteSlice d 52 4) 0 (leAt d 40 4 * (descDstRows d).length)))) := by
  refine congrArg Host.Outcome.next ((State.ringRun_issues h hlogic _).trans ?_)
  dsimp only
  rw [hfilled]

theorem exec_seWait_issues (h : s.ringIssues n 3 d = true) (hlogic : s.logicFrozen (n / 16) = false) :
    exec (.seWait n) s = .next (if bit (s.ring n).flags (descEvent d) then
      ((s.ringRead64 n).setRing n { s.ring n with flags := setBit (s.ring n).flags (descEvent d) false }).ringIssued n d
        (crc32c []) else (s.ringRead64 n).setRingSt n rgWaiting) := by
  refine congrArg Host.Outcome.next ((State.ringRun_issues h hlogic _).trans ?_)
  dsimp only
  rw [State.ring_congr (s.ringRead64_rings n)]

theorem exec_seSignal_issues (h : s.ringIssues n 4 d = true) (hlogic : s.logicFrozen (n / 16) = false) :
    exec (.seSignal n) s = .next (((s.ringRead64 n).signalRank n d).ringIssued n d (crc32c [])) :=
  congrArg Host.Outcome.next (State.ringRun_issues h hlogic _)

theorem exec_seFence_issues (h : s.ringIssues n 5 d = true) (hlogic : s.logicFrozen (n / 16) = false) :
    exec (.seFence n) s = .next (if (s.ring n).inFlight.isEmpty then (s.ringRead64 n).ringIssued n d (crc32c [])
      else (s.ringRead64 n).setRingSt n rgWaiting) := by
  refine congrArg Host.Outcome.next ((State.ringRun_issues h hlogic _).trans ?_)
  rw [State.ring_congr (s.ringRead64_rings n)]

end

/-! ### Flags of engines -/

theorem State.signalRank_of_engine {s : State} {n te : Nat} {d : List Byte}
    (h : s.rankEngine (s.ringJob n) (descRank d) = some te) : s.signalRank n d = s.setFlag te (descEvent d) := by
  rw [State.signalRank, h]

theorem State.signalRank_engines (s : State) (n : Nat) (d : List Byte) :
    ∃ engines, s.signalRank n d = { s with engines } := by
  rw [State.signalRank]
  split
  · exact ⟨s.engines, rfl⟩
  · exact ⟨_, rfl⟩

theorem State.setFlag_flags (s : State) (te f : Nat) :
    ((s.setFlag te f).eng te).flags = setBit (s.eng te).flags f true := by
  rw [State.setFlag, State.eng_setEng_same]

/-- The registers of a ring are none in which accesses are counted. -/
theorem isCountOffset_ring {f : Fld} (n : Nat) (hlo : 0x300000 ≤ f.off) (hhi : f.off < 0x300020)
    (hstride : f.stride = 0x20) : isCountOffset ((f.off + ringReg n * f.stride) % 0x1000000) = false := by
  have hreg : ringReg n * 0x20 ≤ 0x30060 := by simp only [ringReg]; omega
  rw [hstride, Nat.mod_eq_of_lt (by omega)]
  simp only [isCountOffset, Bool.or_eq_false_iff, List.any_eq_false, List.mem_range, beq_iff_eq, beq_eq_false_iff_ne,
    Bool.or_eq_true]
  refine ⟨⟨⟨fun c hc => ?_, ?_⟩, ?_⟩, fun m hm => ?_⟩ <;> omega

theorem Traffic.ringJob {s u : State} (h : Traffic s u) (n : Nat) : u.ringJob n = s.ringJob n :=
  h.fget 0 (isCountOffset_ring n (by decide) (by decide) rfl)

theorem Traffic.rankEngine {s u : State} (h : Traffic s u) (j r : Nat) : u.rankEngine j r = s.rankEngine j r := by
  rw [State.rankEngine, State.rankEngine, h.job j Job.ranks fun _ => rfl]

/-! ### Retirement -/

/-- What a descriptor's retirement changes before it signals: the ring's head passes it. -/
def State.headPast (s : State) (n : Nat) (x : Issued) (rest : List Issued) : State :=
  let u := (s.setRing n { s.ring n with inFlight := rest }).fset F.seRingHead_head (n / 16) (ringReg n) 0 (ringNext x.idx)
  if (u.tahrSeq (72 + n / 4)).ring = some n then u.seqEvent (72 + n / 4) 10 else u

theorem State.headPast_eq (s : State) (n : Nat) (x : Issued) (rest : List Issued) : ∃ tahr, s.headPast n x rest =
    { (s.setRing n { s.ring n with inFlight := rest }).fset F.seRingHead_head (n / 16) (ringReg n) 0 (ringNext x.idx) with
      tahr } := by
  rw [State.headPast]
  split
  · exact ⟨_, rfl⟩
  · exact ⟨s.tahr, rfl⟩

theorem exec_descriptorRetire_of_ready {s : State} {n : Nat} {same : Bool} {x : Issued} {rest : List Issued}
    (hlogic : s.logicFrozen (n / 16) = false) (hfirst : (s.ring n).inFlight = x :: rest)
    (hstalled : s.ringStalled n = false) :
    exec (.descriptorRetire n same) s = .next (s.retireDescriptor n x rest same) := by
  rw [exec_descriptorRetire, execDescriptorRetire, hfirst]
  exact if_neg (by simp [hstalled, hlogic])

/-- A descriptor whose CRCs agree retires. -/
theorem State.retireDescriptor_agrees {s : State} {n : Nat} {x : Issued} (rest : List Issued)
    (hcrc : descMoves x.desc = true → descExpects x.desc = true → x.crc = leAt x.desc 48 4) :
    s.retireDescriptor n x rest true =
      if descSignals x.desc then (s.headPast n x rest).signalRank n x.desc else s.headPast n x rest := by
  have hagrees : ¬ (descMoves x.desc && descExpects x.desc && x.crc != leAt x.desc 48 4) = true := by
    simp only [Bool.and_eq_true, bne_iff_ne, not_and, not_not, and_imp]
    exact hcrc
  rw [State.retireDescriptor, if_neg (by simp), if_neg hagrees]
  rfl

section
variable (s : State) (n : Nat) (x : Issued) (rest : List Issued)

theorem State.headPast_inFlight : ((s.headPast n x rest).ring n).inFlight = rest := by
  obtain ⟨tahr, hpast⟩ := s.headPast_eq n x rest
  rw [hpast]
  exact congrArg RingState.inFlight (State.ring_setRing_same s n _)

theorem State.headPast_ringHead : (s.headPast n x rest).ringHead n = ringNext x.idx := by
  obtain ⟨tahr, hpast⟩ := s.headPast_eq n x rest
  rw [hpast]
  exact (State.fget_fset_same (s.setRing n _) _ _ _ _ _ (by decide)).trans (Nat.mod_mod _ 4096)

theorem State.headPast_mem : (s.headPast n x rest).mem = s.mem := by
  obtain ⟨tahr, hpast⟩ := s.headPast_eq n x rest
  rw [hpast]
  rfl

theorem State.headPast_eng (te : Nat) : (s.headPast n x rest).eng te = s.eng te := by
  obtain ⟨tahr, hpast⟩ := s.headPast_eq n x rest
  rw [hpast]
  rfl

end

theorem State.headPast_rankEngine (s : State) (n : Nat) (x : Issued) (rest : List Issued) (r : Nat) :
    (s.headPast n x rest).rankEngine ((s.headPast n x rest).ringJob n) r = s.rankEngine (s.ringJob n) r := by
  obtain ⟨tahr, hpast⟩ := s.headPast_eq n x rest
  have hjob : (s.headPast n x rest).ringJob n = s.ringJob n := by
    rw [hpast]
    exact State.fget_fset_spared (s.setRing n _) _ _ _ _ (by decide)
  rw [hjob, hpast]
  rfl

/-! ### Failure -/

/-- Whether two states differ at most in what a store of open bytes changes. -/
def StoresOnly (s u : State) : Prop :=
  ∃ mem freeCtr poisonWords hardWords softWords poisonLines hardLines softLines secureLines, u = { s with
    mem, freeCtr, poisonWords, hardWords, softWords, poisonLines, hardLines, softLines, secureLines }

namespace StoresOnly

variable {s u t : State}

theorem refl (s : State) : StoresOnly s s := ⟨s.mem, s.freeCtr, s.poisonWords, s.hardWords, s.softWords, s.poisonLines,
  s.hardLines, s.softLines, s.secureLines, rfl⟩

theorem trans (h : StoresOnly s u) (h' : StoresOnly u t) : StoresOnly s t := by
  obtain ⟨_, _, _, _, _, _, _, _, _, rfl⟩ := h
  obtain ⟨mem, freeCtr, poisonWords, hardWords, softWords, poisonLines, hardLines, softLines, secureLines, rfl⟩ := h'
  exact ⟨mem, freeCtr, poisonWords, hardWords, softWords, poisonLines, hardLines, softLines, secureLines, rfl⟩

theorem freeBytes (s : State) (k : Nat) : StoresOnly s (s.freeBytes k).1 := by
  induction k generalizing s with
  | zero => exact refl s
  | succ k ih =>
    exact trans ⟨s.mem, _, s.poisonWords, s.hardWords, s.softWords, s.poisonLines, s.hardLines, s.softLines,
      s.secureLines, rfl⟩ (ih (s.fresh 8).2)

theorem store (s : State) (a : Nat) (bs : List Byte) : StoresOnly s (s.store a bs) := by
  rw [State.store, State.clearPoison]
  split
  · exact ⟨_, s.freeCtr, _, _, _, s.poisonLines, s.hardLines, s.softLines, s.secureLines, rfl⟩
  · exact ⟨_, s.freeCtr, s.poisonWords, s.hardWords, s.softWords, _, _, _, s.secureLines, rfl⟩
  · exact ⟨_, s.freeCtr, s.poisonWords, s.hardWords, s.softWords, s.poisonLines, s.hardLines, s.softLines,
      s.secureLines, rfl⟩

theorem tagLines (s : State) (secure : Bool) (a n : Nat) : StoresOnly s (s.tagLines secure a n) := by
  rw [State.tagLines]
  split
  · exact ⟨s.mem, s.freeCtr, s.poisonWords, s.hardWords, s.softWords, s.poisonLines, s.hardLines, s.softLines, _, rfl⟩
  · exact refl s

/-- The gate drops the writes of a job that is over. -/
theorem placeWrite {n : Nat} (hover : s.jobLive (s.ringJob n) = false) (a : Nat) (bs : List Byte) :
    StoresOnly s (s.placeWrite (.ring n) a bs).1 := by
  rw [State.placeWrite]
  split
  next j d b hjob _ =>
    have hj : j = s.ringJob n := by
      rw [State.jobOf] at hjob
      split_ifs at hjob
      exact (Option.some.inj hjob).symm
    have hdrops : ∀ a bs, s.gateWrite (.ring n) j d b a bs = (s, .dropped) := fun a bs => by
      rw [State.gateWrite]
      exact if_pos (by simp [State.dropsWrite, hj, hover])
    generalize granPieces a bs.length = ps
    suffices hfold : ∀ acc : State × GateWrite, acc.1 = s → (ps.foldl (fun acc p =>
        let r := acc.1.gateWrite (.ring n) j d b p.1 ((bs.drop (p.1 - a)).take p.2)
        (r.1, if acc.2 = .marked then .marked else r.2)) acc).1 = s by
      rw [hfold (s, .done) rfl]
      exact refl s
    induction ps with
    | nil => exact fun _ h => h
    | cons p ps ih => exact fun acc h => ih _ (by dsimp only; rw [h, hdrops])
  · exact (store s a bs).trans (tagLines _ _ _ _)

/-- What a store leaves of a job's and a ring's registers, and of the records on their way. -/
theorem jobLive (h : StoresOnly s u) (n : Nat) : u.jobLive (u.ringJob n) = s.jobLive (s.ringJob n) := by
  obtain ⟨_, _, _, _, _, _, _, _, _, rfl⟩ := h
  rfl

theorem err (h : StoresOnly s u) : u.err = s.err := by
  obtain ⟨_, _, _, _, _, _, _, _, _, rfl⟩ := h
  rfl

theorem spoilDest {n : Nat} (hover : s.jobLive (s.ringJob n) = false) (d : List Byte) :
    StoresOnly s (s.spoilDest n d) := by
  rw [State.spoilDest]
  generalize descDstRows d = rows
  suffices hfold : ∀ u, StoresOnly s u → StoresOnly s (rows.foldl (fun s a =>
      let r := s.freeBytes (leAt d 40 4)
      (r.1.placeWrite (.ring n) a r.2).1) u) from hfold s (refl s)
  induction rows with
  | nil => exact fun _ h => h
  | cons a rows ih =>
    intro u h
    have hfree := h.trans (freeBytes u (leAt d 40 4))
    exact ih _ (hfree.trans (placeWrite ((hfree.jobLive n).trans hover) a _))

end StoresOnly

/-- A ring that stopped for a code, before its job stops. -/
def State.ringFaulted (s : State) (n code : Nat) : State :=
  (((s.setRingSt n rgFaulted).setRing n { s.ring n with inFlight := [], pausing := false }).fset F.seStatus_last_code
    (n / 16) (n % 16 / 4) 0 code).fset F.seStatus_last_ring (n / 16) (n % 16 / 4) 0 (n % 4)

theorem State.ringStop_eq (s : State) (n code : Nat) : s.ringStop n code =
    (s.ringFaulted n code).stopJob ((s.ringFaulted n code).ringJob n) jsFaulted code := rfl

theorem State.stopJob_of_over {s : State} {j : Nat} (st code : Nat) (h : s.jobLive j = false) :
    s.stopJob j st code = s := if_neg (by simp [h])

section
variable (s : State) (n code : Nat)

theorem State.ringFaulted_reg {a : Nat} (hhead : a ≠ fldAddr F.seRingHead_state (n / 16) (ringReg n) 0)
    (hstatus : a ≠ fldAddr F.seStatus_last_code (n / 16) (n % 16 / 4) 0) : (s.ringFaulted n code).reg a = s.reg a := by
  have hring : a ≠ fldAddr F.seStatus_last_ring (n / 16) (n % 16 / 4) 0 :=
    fldAddr_congr (f := F.seStatus_last_ring) (g := F.seStatus_last_code) rfl rfl _ _ _ ▸ hstatus
  rw [State.ringFaulted, State.reg_fset_other _ _ _ _ _ _ hring, State.reg_fset_other _ _ _ _ _ _ hstatus]
  exact State.reg_fset_other s _ _ _ _ _ hhead

/-- A ring's registers stand below its stream engine's status. -/
theorem seStatus_ne_ring {f : Fld} (hoff : f.off < 0x300020) (hstride : f.stride = 0x20) :
    fldAddr f (n / 16) (ringReg n) 0 ≠ fldAddr F.seStatus_last_code (n / 16) (n % 16 / 4) 0 := by
  simp only [fldAddr, ringReg, hstride, F.seStatus_last_code]
  omega

theorem State.ringFaulted_ringSt : (s.ringFaulted n code).ringSt n = rgFaulted := by
  have hne := seStatus_ne_ring n (f := F.seRingHead_state) (by decide) rfl
  rw [State.ringSt, State.ringFaulted, State.fget_fset_other _ F.seStatus_last_ring F.seRingHead_state _ _ _ _ _ _ _ hne,
    State.fget_fset_other _ F.seStatus_last_code F.seRingHead_state _ _ _ _ _ _ _ hne]
  exact State.ringSt_setRingSt s n (by decide)

theorem State.ringFaulted_ring :
    (s.ringFaulted n code).ring n = { s.ring n with inFlight := [], pausing := false } := by
  rw [State.ringFaulted, State.ring_fset, State.ring_fset, State.ring_setRing_same]

theorem State.ringFaulted_lastCode (hcode : code < 2 ^ 16) :
    (s.ringFaulted n code).fget F.seStatus_last_code (n / 16) (n % 16 / 4) 0 = code := by
  rw [State.ringFaulted, State.fget_fset_spared _ _ _ _ _ (by decide), State.fget_fset_same _ _ _ _ _ _ (by decide)]
  exact Nat.mod_eq_of_lt hcode

theorem State.ringFaulted_lastRing :
    (s.ringFaulted n code).fget F.seStatus_last_ring (n / 16) (n % 16 / 4) 0 = n % 4 := by
  rw [State.ringFaulted, State.fget_fset_same _ _ _ _ _ _ (by decide)]
  exact Nat.mod_mod n 4

/-- A ring's own stop leaves its job's state alone. -/
theorem State.ringFaulted_jobLive : (s.ringFaulted n code).jobLive ((s.ringFaulted n code).ringJob n) =
    s.jobLive (s.ringJob n) := by
  have hjob : (s.ringFaulted n code).ringJob n = s.ringJob n := by
    rw [State.ringJob, State.fget, State.ringFaulted_reg s n code
      (by simp only [fldAddr, F.seRingBase_job_ctx, F.seRingHead_state]; omega)
      (seStatus_ne_ring n (f := F.seRingBase_job_ctx) (by decide) rfl)]
    rfl
  have hstate : ∀ j, (s.ringFaulted n code).jobState j = s.jobState j := fun j => by
    rw [State.jobState, State.fget, State.ringFaulted_reg]
    · rfl
    · simp only [fldAddr, regBase, bankStride, ringReg, F.schJctx_state, F.seRingHead_state]
      omega
    · simp only [fldAddr, regBase, bankStride, F.schJctx_state, F.seStatus_last_code]
      omega
  rw [hjob, State.jobLive, State.jobLive, hstate]
  rfl

end

/-- A descriptor whose bytes as written and as read disagree stops its ring, with one record; its job was over. -/
theorem State.retireDescriptor_fails {s : State} {n : Nat} {x : Issued} (rest : List Issued)
    (hmoves : descMoves x.desc = true) (hover : s.jobLive (s.ringJob n) = false) :
    ∃ u r, StoresOnly s u ∧ r.code = E.seCrc.code ∧
      s.retireDescriptor n x rest false = (u.raiseRec r).ringFaulted n E.seCrc.code := by
  obtain ⟨u, hu⟩ : ∃ u, u = s.spoilDest n x.desc := ⟨_, rfl⟩
  have hstores : StoresOnly s u := hu ▸ StoresOnly.spoilDest hover x.desc
  rw [State.retireDescriptor, if_pos (by simp [hmoves]), ← hu]
  refine ⟨u, _, hstores, rfl, (State.ringStop_eq _ _ _).trans (State.stopJob_of_over _ _ ?_)⟩
  rw [State.ringFaulted_jobLive]
  exact (hstores.jobLive n).trans hover

/-! ### Bytes of a transfer -/

/-- What a write to memory makes of a state's bytes. -/
theorem byteAt_of_putBytes {s t : State} {a : Nat} {bs : List Byte} (hs : storeRises s.mem = true)
    (h : t.mem = putBytes s.mem a bs) :
    (∀ i (hi : i < bs.length), t.byteAt (a + i) = bs[i]) ∧ ∀ c, c < a ∨ a + bs.length ≤ c → t.byteAt c = s.byteAt c := by
  constructor
  · intro i hi
    rw [State.byteAt, h, putBytes_same a i bs hs hi]
  · intro c hc
    rw [State.byteAt, State.byteAt, h, putBytes_other a c bs hs hc]

section
variable {s : State} {n : Nat} {d : List Byte}

/-- A COPY of one request, whose read and write pass outside registered buffers, moves its bytes. -/
theorem State.ringIssues_copy (hissues : s.ringIssues n 1 d = true) (hcounts : leAt d 44 2 = 1 ∧ leAt d 46 2 = 1)
    (hfits : leAt d 8 8 % 256 + leAt d 40 4 ≤ 256 ∧ leAt d 16 8 % 256 + leAt d 40 4 ≤ 256)
    (hpublic : s.publicAt (leAt d 8 8) = none ∧ s.publicAt (leAt d 16 8) = none)
    (hread : (s.ringRead64 n).checkAccess (.ring n) false (leAt d 8 8) (leAt d 40 4) = .pass)
    (hclean : (s.ringRead64 n).poisonIn (.ring n) (leAt d 8 8) (leAt d 40 4) = none)
    (hwrite : ((s.ringRead64 n).fetchBytes (.ring n) (leAt d 8 8) (leAt d 40 4)).1.checkAccess (.ring n) true
      (leAt d 16 8) (leAt d 40 4) = .pass) :
    ∃ v, (s.ringRead64 n).copyRows n (leAt d 40 4) false [] ((descSrcRows d).zip (descDstRows d)) =
        (v, .ok (s.bytesAt (leAt d 8 8) (leAt d 40 4))) ∧
      v.mem = putBytes s.mem (leAt d 16 8) (s.bytesAt (leAt d 8 8) (leAt d 40 4)) ∧ v.rings = s.rings := by
  obtain ⟨⟨ranks, hok⟩, hop⟩ := State.ringIssues_desc hissues
  obtain ⟨hsrc, hdst⟩ := descOk_addrs hok
  have hlen := descOk_len hok (by simp [descMoves, hop])
  have htraffic := Traffic.ringRead64 s n
  have hbytes := htraffic.bytesAt (leAt d 8 8) (leAt d 40 4)
  have hrows : (descSrcRows d).zip (descDstRows d) = [(leAt d 8 8, leAt d 16 8)] := by
    rw [descSrcRows, descDstRows, hcounts.1, hcounts.2, shapeRows_single _ _ (by omega), shapeRows_single _ _ (by omega)]
    rfl
  have hfetched := (Traffic.refl (s.ringRead64 n)).fetchBytes (.ring n) (leAt d 8 8) (leAt d 40 4)
  have hplaced := (State.ringWrite_stores (bs := s.bytesAt (leAt d 8 8) (leAt d 40 4))
    (by rwa [State.bytesAt_length]) (((htraffic.trans hfetched).publicAt _).trans hpublic.2)).2
  refine ⟨_, ?_, hplaced.trans (by rw [(htraffic.trans hfetched).mem]), ?_⟩
  · rw [hrows, ← hbytes]
    exact State.copyRows_single hlen hfits.1 hfits.2
      ⟨(htraffic.publicAt _).trans hpublic.1, (htraffic.publicAt _).trans hpublic.2⟩ hread hclean hwrite
  · exact (State.ringPlaced_rings _ _ _ _).trans
      (((TrafficOnly.refl _).fetchBytes _ _ _).rings.trans (s.ringRead64_rings n))

/-- A FILL of one request, whose write passes outside registered buffers, stores its pattern. -/
theorem State.ringIssues_fill (hissues : s.ringIssues n 2 d = true) (hcounts : leAt d 44 2 = 1 ∧ leAt d 46 2 = 1)
    (hfits : leAt d 16 8 % 256 + leAt d 40 4 ≤ 256) (hpublic : s.publicAt (leAt d 16 8) = none)
    (hwrite : (s.ringRead64 n).checkAccess (.ring n) true (leAt d 16 8) (leAt d 40 4) = .pass) :
    ∃ v, (s.ringRead64 n).fillRows n (leAt d 40 4) (byteSlice d 52 4) 0 (descDstRows d) = (v, none) ∧
      v.mem = putBytes s.mem (leAt d 16 8) (fillBytes (byteSlice d 52 4) 0 (leAt d 40 4)) ∧ v.rings = s.rings := by
  obtain ⟨⟨ranks, hok⟩, hop⟩ := State.ringIssues_desc hissues
  obtain ⟨-, hdst⟩ := descOk_addrs hok
  have hlen := descOk_len hok (by simp [descMoves, hop])
  have htraffic := Traffic.ringRead64 s n
  have hungated := (htraffic.publicAt (leAt d 16 8)).trans hpublic
  have hplaced := (State.ringWrite_stores (bs := fillBytes (byteSlice d 52 4) 0 (leAt d 40 4))
    (by rwa [fillBytes_length]) hungated).2
  refine ⟨_, ?_, hplaced.trans (by rw [htraffic.mem]), (State.ringPlaced_rings _ _ _ _).trans (s.ringRead64_rings n)⟩
  rw [descDstRows, hcounts.1, hcounts.2, shapeRows_single _ _ (by omega)]
  exact State.fillRows_single _ hlen hfits hungated hwrite

end

/-! ### The descriptors' commands -/

/-- Settles O17. A ring that may issue carries out its descriptor in the state in which it was read, which differs from
the one before in counts and notes alone; the requests of a COPY or FILL that pass leave the rings' books as they are,
and one that no buffer is meant by stores its bytes. -/
theorem ringDescriptorsComplete : Obligations.RingDescriptorsComplete := by
  unfold Obligations.RingDescriptorsComplete
  refine ⟨?copy, ?copySingle, ?fillSingle, ?waitMet, ?waitHeld, ?signal, ?fence, ?flagSet, ?retire, ?retireFails⟩
  case copy =>
    intro s ring d v bs hlogic _ hissues hv hmoved
    have hok : ((s.ringRead64 ring).copyRows ring (leAt d 40 4) (descOverlaps d) []
        ((descSrcRows d).zip (descDstRows d))).2 = .ok bs := by
      revert hmoved
      cases ((s.ringRead64 ring).copyRows ring (leAt d 40 4) (descOverlaps d) []
        ((descSrcRows d).zip (descDstRows d))).2 <;> simp [Except.toOption]
    have hrings : v.rings = s.rings := hv ▸ (State.copyRows_rings hok).trans (s.ringRead64_rings ring)
    exact ⟨_, exec_seCopy_of_moved hissues hlogic (Prod.ext hv.symm hok), State.bookRing_eq v ring _ rgRunning,
      State.ring_ringIssued hrings ring d _, v.ringSt_ringIssued ring d _⟩
  case copySingle =>
    rintro s ring d _ _ _ ⟨hwf, -⟩ hlogic _ hissues ⟨rfl, rfl, rfl⟩ hcounts hfits hapart hpublic hread hclean hwrite
    have hmem := ((Memory.wf_iff s.mem).1 hwf).1
    obtain ⟨v, hmoved, hstored, hrings⟩ := State.ringIssues_copy hissues hcounts hfits hpublic hread hclean hwrite
    obtain ⟨hsame, hother⟩ := byteAt_of_putBytes hmem (t := v.ringIssued ring d _) hstored
    rw [State.bytesAt_length] at hother
    refine ⟨_, exec_seCopy_of_moved hissues hlogic (hapart ▸ hmoved), fun i hi => ?_, hother,
      State.ring_ringIssued hrings ring d _, State.ringSt_ringIssued _ ring d _⟩
    rw [hsame i (by rwa [State.bytesAt_length]), State.bytesAt_getElem]
  case fillSingle =>
    rintro s ring d _ _ ⟨hwf, -⟩ hlogic _ hissues ⟨rfl, rfl⟩ hcounts hfits hpublic hwrite
    have hmem := ((Memory.wf_iff s.mem).1 hwf).1
    obtain ⟨v, hfilled, hstored, hrings⟩ := State.ringIssues_fill hissues hcounts hfits hpublic hwrite
    obtain ⟨hsame, hother⟩ := byteAt_of_putBytes hmem (t := v.ringIssued ring d _) hstored
    rw [fillBytes_length] at hother
    refine ⟨_, exec_seFill_of_filled hissues hlogic hfilled, fun i hi => ?_, hother,
      congrArg RingState.issue (State.ring_ringIssued hrings ring d _), State.ringSt_ringIssued _ ring d _⟩
    rw [hsame i (by rwa [fillBytes_length]), fillBytes_getElem]
  case waitMet =>
    intro s ring d hlogic _ hissues hflag
    have hexec := exec_seWait_issues hissues hlogic
    have hmem := (Traffic.ringRead64 s ring).mem
    generalize s.ringRead64 ring = u at hexec hmem
    rw [if_pos hflag] at hexec
    refine ⟨_, hexec, ?_, State.ringSt_ringIssued _ ring d _, hmem⟩
    rw [State.ringIssued_eq, State.ring_bookRing, State.issuedBooks, State.ring_setRing_same]
    rfl
  case waitHeld =>
    intro s ring d hlogic _ hissues hflag
    have hexec := exec_seWait_issues hissues hlogic
    have hmem := (Traffic.ringRead64 s ring).mem
    have hrings := s.ringRead64_rings ring
    generalize s.ringRead64 ring = u at hexec hmem hrings
    rw [if_neg (by simp [hflag])] at hexec
    exact ⟨_, hexec, State.ring_congr hrings ring, State.ringSt_setRingSt _ ring (by decide), hmem⟩
  case signal =>
    intro s ring d te hlogic _ hissues hrank
    have hexec := exec_seSignal_issues hissues hlogic
    have htraffic := Traffic.ringRead64 s ring
    have hrings := s.ringRead64_rings ring
    generalize s.ringRead64 ring = u at hexec htraffic hrings
    have hrank' : u.rankEngine (u.ringJob ring) (descRank d) = some te := by
      rw [htraffic.ringJob, htraffic.rankEngine, hrank]
    rw [State.signalRank_of_engine hrank'] at hexec
    refine ⟨_, hexec, ?_, State.ring_ringIssued (u := u.setFlag te _) hrings ring d _,
      State.ringSt_ringIssued _ ring d _, htraffic.mem⟩
    exact (u.setFlag_flags te _).trans (by rw [htraffic.eng])
  case fence =>
    intro s ring d hlogic _ hissues
    have hexec := exec_seFence_issues hissues hlogic
    have hmem := (Traffic.ringRead64 s ring).mem
    have hrings := s.ringRead64_rings ring
    generalize s.ringRead64 ring = u at hexec hmem hrings
    by_cases hidle : (s.ring ring).inFlight = []
    · rw [if_pos (by simp [hidle])] at hexec
      refine ⟨_, hexec, ?_, hmem⟩
      rw [if_pos hidle]
      exact ⟨State.ring_ringIssued hrings ring d _, u.ringSt_ringIssued ring d _⟩
    · rw [if_neg (by simp [hidle])] at hexec
      refine ⟨_, hexec, ?_, hmem⟩
      rw [if_neg hidle]
      exact ⟨State.ring_congr hrings ring, State.ringSt_setRingSt u ring (by decide)⟩
  case flagSet =>
    intro s ring flag fs harrives
    refine ⟨_, (exec_ringFlagSet ring flag s).trans (by rw [execRingFlagSet, harrives]), rfl, ?_⟩
    exact State.ring_setRing_same _ ring _
  case retire =>
    intro s ring x rest hlogic _ hfirst hstalled hcrc
    have hexec := exec_descriptorRetire_of_ready (same := true) hlogic hfirst hstalled
    rw [State.retireDescriptor_agrees rest hcrc] at hexec
    obtain ⟨engines, hsignalled⟩ := (s.headPast ring x rest).signalRank_engines ring x.desc
    split_ifs at hexec with hsignals
    · refine ⟨_, hexec, ?_, ?_, ?_, fun te _ hrank => ?_⟩
      · rw [hsignalled]
        exact s.headPast_inFlight ring x rest
      · rw [hsignalled]
        exact s.headPast_ringHead ring x rest
      · rw [hsignalled]
        exact s.headPast_mem ring x rest
      · rw [State.signalRank_of_engine ((s.headPast_rankEngine ring x rest _).trans hrank), State.setFlag_flags,
          State.headPast_eng]
    · exact ⟨_, hexec, s.headPast_inFlight ring x rest, s.headPast_ringHead ring x rest, s.headPast_mem ring x rest,
        fun _ h => absurd h hsignals⟩
  case retireFails =>
    intro s ring x rest hlogic _ hfirst hstalled hmoves hover
    obtain ⟨u, r, hstores, hcode, hretire⟩ := State.retireDescriptor_fails rest hmoves hover
    have hexec := exec_descriptorRetire_of_ready (same := false) hlogic hfirst hstalled
    rw [hretire] at hexec
    refine ⟨_, hexec, State.ringFaulted_ringSt _ ring _, ?_, State.ringFaulted_lastCode _ ring _ (by decide),
      State.ringFaulted_lastRing _ ring _, ?_⟩
    · rw [State.ringFaulted_ring]
    · exact (newCodes_raiseRec_only r hstores.err).trans (by rw [hcode])

end Sys2Proof.Machine
end

section
/-! PROOFS. MC_PIN of a prefetch on a die whose firmware does not run (R184, R191). -/

namespace Sys2Proof.Machine

/-- Instance 0's system queue 61440 holds an MC_PIN of model 0, which a prefetch loads on die 7. The firmware of dies 0
to 3 runs, and that of die 7 is down. -/
def pinsStrayPrefetch : State :=
  { ((((State.reset.fset F.schQptr_state 4 0 61440 1).fset F.schQptr_tail 4 0 61440 1).fset
      F.viExtN_granules 4 0 (committed 0) 1).fset F.schCtrl_fw_attached 4 0 0 1) with
    mem := [(0, 2)]
    boot := { memTrained := true, stackMask := 1 }
    fw := { down := [7] }
    cache := { models := [(0, { source := 0, length := 0, die := 7, crcTable := 0, state := .prefetching })] } }

theorem exec_mcPin (q : Nat) (s : State) : exec (.mcPin q) s = execMcPin q s := by rfl

/-- The command pins the model and leaves it a prefetch. -/
theorem pinsStrayPrefetch_shows {t : State} (h : execMcPin 61440 pinsStrayPrefetch = .next t) :
    (t.model? 0 0).map Model.state = some .prefetching := by
  have hshown : (match execMcPin 61440 pinsStrayPrefetch with
    | .next t => (t.model? 0 0).map Model.state == some .prefetching
    | _ => false) = true := by decide +kernel
  rw [h] at hshown
  simpa using hshown

/-- Refutes O19: its clause of an MC_PIN of a prefetch asks nothing of the model's die. The commands wait for the
firmware of dies 0 to 3 (R532); where that of a model's own die, here die 7, does not run, the prefetch does not become
a load. -/
theorem not_modelCommandsComplete : ¬ Obligations.ModelCommandsComplete := by
  unfold Obligations.ModelCommandsComplete
  rintro ⟨-, -, -, pinPrefetch, -⟩
  obtain ⟨t, hexec, hmodel, -⟩ := pinPrefetch pinsStrayPrefetch 61440 (2#8 :: List.replicate 255 0#8) 0
    { source := 0, length := 0, die := 7, crcTable := 0, state := .prefetching } (by decide +kernel) (by decide +kernel)
    (by decide +kernel) rfl
  have hkept := pinsStrayPrefetch_shows (exec_mcPin 61440 _ ▸ hexec)
  rw [show cmdArg (2#8 :: List.replicate 255 0#8) 0 = 0 by decide] at hmodel
  rw [hmodel] at hkept
  exact absurd hkept (by decide)

end Sys2Proof.Machine
end

section
/-! PROOFS. A fill on a die whose logic is frozen (R41, R199). -/

namespace Sys2Proof.Machine

/-- What a frozen logic holds completes no step (R41): a fill of its gate does not end. -/
theorem exec_granuleFillDone_of_frozen {s : State} {die entry : Nat} {o : OpenGranule} (hits : List Hit)
    (hopen : storeFind s.opens (openKey die entry) = some o) (hfrozen : s.logicFrozen die = true) :
    exec (.granuleFillDone die entry hits) s = .next s := by
  change execGranuleFillDone die entry hits s = .next s
  simp [execGranuleFillDone, hopen, hfrozen]

/-- A fill with zeros under way in entry 0 of die 0's gate, while the die's logic, island 8, is frozen. -/
def frozenFill : State :=
  { State.reset.fset F.cgBufCtrl_fill 0 0 0 1 with
    opens := [(0, { buf := 0, g := 0, filling := true })]
    power := { frozen := [8] } }

/-- Refutes O21: its clauses of fills do not ask that the die's logic works. Where the logic is frozen since a lost
margin (R41), the gate completes no step, and the granule goes on filling. -/
theorem not_gateEventsComplete : ¬ Obligations.GateEventsComplete := by
  unfold Obligations.GateEventsComplete
  rintro ⟨-, fillsWithZero, -⟩
  obtain ⟨t, hexec, -, -, hfilled⟩ := fillsWithZero frozenFill 0 0 { buf := 0, g := 0, filling := true } _
    (by decide) (by decide) rfl rfl rfl (by decide) rfl
  rw [exec_granuleFillDone_of_frozen [] rfl (by decide), Host.Outcome.next.injEq] at hexec
  have hfilling : storeFind t.opens (openKey 0 0) = some { buf := 0, g := 0, filling := true } := hexec ▸ rfl
  exact absurd (hfilled.symm.trans hfilling) (by decide)

end Sys2Proof.Machine
end

section
/-! PROOFS. A pre-emption of a job one of whose engines, its rank having halted, runs its golden test (R244, R294,
R299). -/

namespace Sys2Proof.Machine

/-- Job 6 waits in its ready list, and may pre-empt job 5, which runs on engines 0 and 1. Rank 0 of job 5 has halted,
and its engine runs the golden test of the frame; rank 1 runs. -/
def preemptsBesideTest : State :=
  { ((((((((((State.reset.fset F.schJctx_state 4 0 5 jsRunning).fset F.schJctx_class 4 0 5 2).fset
      F.schJranks_engines 4 0 5 3).fset F.schJctx_class 4 0 6 1).fset F.schCtrl_fw_attached 4 0 0 1).fset
      F.cfgCapsEngineMap_engine_usable 4 0 0 3).fset F.viEngines_die_mask 4 0 64 1).fset
      F.teStatus_state 0 0 0 tsRunning).fset F.gftEng_state 4 0 0 gfTesting).fset
      F.teStatus_state 0 1 0 tsRunning).setReg (fldAddr F.teJob_job_ctx 0 1 0) (5 + 2 * 2 ^ 18 + 2 ^ 22) with
    gft := [(0, { saved := [5 + 2 * 2 ^ 18, 0, 0] })]
    sched := { jobs := [(5, { record := {}, ranks := [0, 1], stopped := [0], dispatched := true }),
                        (6, { record := { dieMask := 1 } })]
               ready := [6] } }

theorem exec_jobPreempt (job needing : Nat) (s : State) :
    exec (.jobPreempt job needing) s = execJobPreempt job needing s := by rfl

/-- The pre-emption stops the rank that runs, and leaves the engine under test alone. -/
theorem preemptsBesideTest_shows {t : State} (h : execJobPreempt 5 6 preemptsBesideTest = .next t) :
    t.teStat 0 = tsRunning ∧ t.teStat 1 = tsStopping := by
  have hshown : (match execJobPreempt 5 6 preemptsBesideTest with
    | .next t => t.teStat 0 == tsRunning && t.teStat 1 == tsStopping
    | _ => false) = true := by decide +kernel
  rw [h] at hshown
  simpa using hshown

/-- Refutes O23: its clause of a pre-emption sends every engine of the victim's rank map that runs to STOPPING. The map
keeps the engine of a rank that has halted, which may run its golden test since (R299) and stops for no job. -/
theorem not_dispatchAndPreemptionComplete : ¬ Obligations.DispatchAndPreemptionComplete := by
  unfold Obligations.DispatchAndPreemptionComplete
  rintro ⟨-, preempt, -⟩
  obtain ⟨t, hexec, -, hstops, -⟩ := preempt preemptsBesideTest 5 6 (by decide +kernel) (by decide +kernel)
    (by decide +kernel)
  obtain ⟨htests, -⟩ := preemptsBesideTest_shows (exec_jobPreempt 5 6 _ ▸ hexec)
  have hranks : (preemptsBesideTest.job 5).ranks = [0, 1] := by decide
  have hran : preemptsBesideTest.teStat 0 = tsRunning := by decide
  rw [hranks, List.all_cons, htests, hran] at hstops
  exact absurd hstops (by simp [tsRunning, tsStopping])

end Sys2Proof.Machine
end

section
/-! PROOFS. What goes on beside an engine that an abort stops: the landing of its outstanding writes, and the end of its
job with the squash, the completion records and the events that follow, leave its banks (R126, R145, R217, R235). -/

namespace Sys2Proof.Machine

/-! ### TE_STATUS -/

/-- Whether an offset of a die's window is that of an engine's TE_STATUS. -/
def isTeStatusOffset (o : Nat) : Bool := decide (0x100000 ≤ o ∧ o < 0x200000 ∧ o % 0x10000 = 0x10)

theorem isTeStatusOffset_teStatus (te : Nat) :
    isTeStatusOffset (regOffset (fldAddr F.teStatus_state (te / 16) (te % 16) 0)) = true := by
  simp only [regOffset_fldAddr, isTeStatusOffset, F.teStatus_state, decide_eq_true_eq]
  omega

theorem isTeStatusOffset_cgBufStatus (b : Nat) :
    isTeStatusOffset ((F.cgBufStatus_open.off + b * F.cgBufStatus_open.stride) % 0x1000000) = false := by
  refine decide_eq_false ?_
  simp only [F.cgBufStatus_open]
  omega

theorem isTeStatusOffset_memLines (m : Nat) :
    isTeStatusOffset ((F.memLines_lines.off + m % 2 * F.memLines_lines.stride) % 0x1000000) = false := by
  refine decide_eq_false ?_
  simp only [F.memLines_lines]
  omega

theorem isTeStatusOffset_seRingHead (n : Nat) :
    isTeStatusOffset ((F.seRingHead_state.off + ringReg n * F.seRingHead_state.stride) % 0x1000000) = false := by
  refine decide_eq_false ?_
  simp only [F.seRingHead_state, ringReg]
  omega

/-- Engines have registers of their own. -/
theorem fldAddr_teStatus_apart {te n : Nat} (h : te ≠ n) :
    fldAddr F.teStatus_state (te / 16) (te % 16) 0 ≠ fldAddr F.teStatus_state (n / 16) (n % 16) 0 := by
  simp only [fldAddr, regBase, F.teStatus_state]
  omega

theorem State.bankState_eq (s : State) (te : Nat) (b : Bool) :
    s.bankState te b = bits (s.reg (fldAddr F.teStatus_state (te / 16) (te % 16) 0)) (bankFld b).lo (bankFld b).w := by
  cases b <;> rfl

/-! ### The relation -/

/-- Whether a state comes of another by changes beside an engine te that stops: its banks and its loads stay, an IDLE
engine stays IDLE, no test becomes due on it, and no VI begins to shrink. -/
structure BesideStop (te : Nat) (s u : State) : Prop where
  banks : ∀ b, u.bankState te b = s.bankState te b
  idle : s.teStat te = tsIdle → u.teStat te = tsIdle
  loads : (u.eng te).loads = (s.eng te).loads
  due : (u.gftOf te).due = (s.gftOf te).due
  shrinking : u.vis.shrinking = s.vis.shrinking

namespace BesideStop

variable {te : Nat} {s u t : State} {β : Type}

theorem refl (te : Nat) (s : State) : BesideStop te s s := ⟨fun _ => rfl, id, rfl, rfl, rfl⟩

theorem trans (h : BesideStop te s u) (h' : BesideStop te u t) : BesideStop te s t :=
  ⟨fun b => (h'.banks b).trans (h.banks b), h'.idle ∘ h.idle, h'.loads.trans h.loads, h'.due.trans h.due,
    h'.shrinking.trans h.shrinking⟩

/-- A change that leaves the engine's TE_STATUS as it was. -/
theorem step (h : BesideStop te s u)
    (hstatus : t.reg (fldAddr F.teStatus_state (te / 16) (te % 16) 0) =
      u.reg (fldAddr F.teStatus_state (te / 16) (te % 16) 0))
    (hloads : (t.eng te).loads = (u.eng te).loads) (hdue : (t.gftOf te).due = (u.gftOf te).due)
    (hshrinking : t.vis.shrinking = u.vis.shrinking) : BesideStop te s t :=
  h.trans ⟨fun b => by rw [State.bankState_eq, State.bankState_eq, hstatus],
    fun hidle => by rw [State.teStat, State.fget, hstatus]; exact hidle, hloads, hdue, hshrinking⟩

/-- A change of the fields that the relation does not speak of. -/
theorem update {halves mem resp sent freeCtr periods devFine err flash fw poisonWords poisonLines softWords softLines
    hardWords hardLines secureLines opens sched safety pairs rings cache moves power bridge signals saves ipp net tahr
    gateway display pending} (h : BesideStop te s u) :
    BesideStop te s ⟨u.regs, halves, mem, resp, sent, freeCtr, periods, devFine, err, flash, u.boot, fw, poisonWords,
      poisonLines, softWords, softLines, hardWords, hardLines, secureLines, opens, sched, u.gft, safety, pairs, rings,
      cache, moves, power, u.vis, bridge, u.engines, signals, saves, ipp, net, tahr, gateway, display, pending⟩ :=
  ⟨h.banks, h.idle, h.loads, h.due, h.shrinking⟩

/-- A change of the VI manager's books but of the VIs that shrink. -/
theorem updateVis {buckets rtLevels obTimes obWaits prior rtBound borrowed resetStart stale dma}
    (h : BesideStop te s u) :
    BesideStop te s { u with vis := ⟨buckets, rtLevels, obTimes, obWaits, prior, rtBound, u.vis.shrinking, borrowed,
      resetStart, stale, dma⟩ } :=
  ⟨h.banks, h.idle, h.loads, h.due, h.shrinking⟩

theorem ite {c : Prop} {_ : Decidable c} (h : BesideStop te s u) (h' : BesideStop te s t) :
    BesideStop te s (if c then u else t) := by split <;> assumption

theorem foldl {α : Type} {f : State → α → State} {l : List α} (h : BesideStop te s u)
    (hf : ∀ t x, BesideStop te s t → BesideStop te s (f t x)) : BesideStop te s (l.foldl f u) := by
  induction l generalizing u with
  | nil => exact h
  | cons x l ih => exact ih (hf u x h)

theorem foldl_fst {α : Type} {f : State × β → α → State × β} {l : List α} {p : State × β}
    (h : BesideStop te s p.1) (hf : ∀ p x, BesideStop te s p.1 → BesideStop te s (f p x).1) :
    BesideStop te s (l.foldl f p).1 := by
  induction l generalizing p with
  | nil => exact h
  | cons x l ih => exact ih (hf p x h)

/-! ### Registers, records and jobs -/

theorem setReg (h : BesideStop te s u) {a : Nat} (v : Nat) (ha : isTeStatusOffset (regOffset a) = false) :
    BesideStop te s (u.setReg a v) := by
  refine h.step (State.reg_setReg_other _ _ ?_) rfl rfl rfl
  rintro rfl
  rw [isTeStatusOffset_teStatus] at ha
  exact absurd ha (by decide)

theorem fset (h : BesideStop te s u) {f : Fld} {d i : Nat} (k v : Nat)
    (hf : isTeStatusOffset ((f.off + i * f.stride) % 0x1000000) = false) : BesideStop te s (u.fset f d i k v) :=
  h.setReg _ (by rwa [regOffset_fldAddr])

/-- A field of a register that a die has once. -/
theorem fsetFirst (h : BesideStop te s u) (f : Fld) {d k v : Nat} (hf : isTeStatusOffset (f.off % 0x1000000) = false) :
    BesideStop te s (u.fset f d 0 k v) := h.fset k v (by rwa [Nat.zero_mul])

/-- An engine goes to IDLE, this one or another. -/
theorem setIdle (h : BesideStop te s u) (n : Nat) :
    BesideStop te s (u.fset F.teStatus_state (n / 16) (n % 16) 0 tsIdle) := by
  obtain rfl | hn := eq_or_ne te n
  · exact h.trans ⟨fun b => by cases b <;> exact State.fget_fset_spared _ _ _ _ _ (by decide),
      fun _ => State.fget_fset_same _ _ _ _ _ _ (by decide), rfl, rfl, rfl⟩
  · exact h.step (State.reg_fset_other _ _ _ _ _ _ (fldAddr_teStatus_apart hn)) rfl rfl rfl

theorem raiseRec (h : BesideStop te s u) (r : ErrRec) : BesideStop te s (u.raiseRec r) := h.update
theorem raiseSide (h : BesideStop te s u) (r : ErrRec) : BesideStop te s (u.raiseSide r) := h.update
theorem raiseFollow (h : BesideStop te s u) (r : ErrRec) : BesideStop te s (u.raiseFollow r) := h.update

theorem modJob (h : BesideStop te s u) (j : Nat) (f : Job → Job) : BesideStop te s (u.modJob j f) := by
  obtain ⟨sched, hu⟩ := u.modJob_sched j f
  rw [hu]
  exact h.update

theorem rankStopped (h : BesideStop te s u) (j r : Nat) : BesideStop te s (u.rankStopped j r) := h.modJob _ _

theorem store (h : BesideStop te s u) (a : Nat) (bs : List Byte) : BesideStop te s (u.store a bs) := by
  unfold State.store State.clearPoison
  split
  · exact h.update
  · exact h.update
  · exact h.update

/-! ### Refusals of writes (R126, R480) -/

theorem countRefusal (h : BesideStop te s u) (c : ErrCode) (a : Nat) : BesideStop te s (u.countRefusal c a) := by
  unfold State.countRefusal
  split
  · exact h
  · exact ite (h.fsetFirst F.cgEvents_foreign_writes (by decide))
      (ite (h.fsetFirst F.cgEvents_owner_conflicts (by decide)) h)

theorem setGft (h : BesideStop te s u) (n : Nat) {x : GftEngine} (hx : x.due = (u.gftOf n).due) :
    BesideStop te s (u.setGft n x) := by
  refine h.step rfl rfl ?_ rfl
  obtain rfl | hn := eq_or_ne te n
  · simpa [State.gftOf, State.setGft] using hx
  · simp [State.gftOf, State.setGft, storeGet_put_other _ _ _ hn]

theorem refused (h : BesideStop te s u) (c : ErrCode) (who : Initiator) (a : Nat) :
    BesideStop te s (u.refused c who a) := by
  unfold State.refused
  extract_lets v
  have hv : BesideStop te s v := by
    unfold v
    split
    · exact ite (h.setGft _ rfl) h
    · exact h
  exact (hv.countRefusal c a).raiseRec _

theorem queueFault (h : BesideStop te s u) (device iova : Nat) (write : Bool) :
    BesideStop te s (u.queueFault device iova write) :=
  ite h (ite (h.setReg _ (by decide))
    (setReg (store (u := (u.faultRecord device iova write).1) h.update _ _) _ (by decide)))

theorem sendViMsi (h : BesideStop te s u) (vi vector : Nat) : BesideStop te s (u.sendViMsi vi vector) := by
  unfold State.sendViMsi State.iommuFault
  dsimp only
  split
  · exact h.update
  split
  · exact h.update
  · exact ((h.queueFault _ _ _).fsetFirst F.viCounts_iommu_faults (by decide)).raiseRec _

theorem drainFailed (h : BesideStop te s u) (vi a : Nat) : BesideStop te s (u.drainFailed vi a) :=
  ite (raiseFollow (h.fsetFirst F.viCounts_drain_failures (by decide)) _) h

theorem logPosted (h : BesideStop te s u) (vi seq a code initiator : Nat) :
    BesideStop te s (u.logPosted vi seq a code initiator) := by
  unfold State.logPosted
  extract_lets head tail size entry v
  have hv : BesideStop te s v := (h.store _ _).fsetFirst F.hpPflogPtr_head (by decide)
  exact ite h (ite (h.fsetFirst F.hpPflogPtr_overflow (by decide)) (ite (hv.sendViMsi _ _) hv))

theorem setEng (h : BesideStop te s u) (n : Nat) {e : Engine} (he : e.loads = (u.eng n).loads) :
    BesideStop te s (u.setEng n e) := by
  refine h.step rfl ?_ rfl rfl
  obtain rfl | hn := eq_or_ne te n
  · rwa [State.eng_setEng_same]
  · rw [State.eng_setEng_other _ _ hn]

theorem postFail (h : BesideStop te s u) (n a : Nat) (r : ErrRec) :
    BesideStop te s (u.postFail (.engine n) a r) := by
  unfold State.postFail
  extract_lets x seq s₁ s₂ s₃ s₄
  have h₁ : BesideStop te s s₁ := h.update
  have h₂ : BesideStop te s s₂ := h₁.setEng n rfl
  have h₄ : BesideStop te s s₄ := (h₂.raiseRec _).fsetFirst F.hpEvents_posted_failures (by decide)
  split
  · exact h₄
  · exact (h₄.drainFailed _ _).logPosted _ _ _ _ _

theorem teWriteRefusal (h : BesideStop te s u) (n : Nat) (c : ErrCode) (a : Nat) :
    BesideStop te s (u.teWriteRefusal n c a) :=
  ite ((h.countRefusal c a).postFail n a _) (h.refused c (.engine n) a).update

/-! ### Writes that land (R126, R199, R374) -/

theorem countLines (h : BesideStop te s u) (who : Initiator) (a n : Nat) : BesideStop te s (u.countLines who a n) := by
  unfold State.countLines
  split
  · extract_lets ks v
    have hv : BesideStop te s v := h.foldl fun _ k ht => ht.fset _ _ (isTeStatusOffset_memLines k.1)
    split
    · exact hv
    · exact hv.modJob _ _
  · exact h

theorem noteOverBudget (h : BesideStop te s u) (vi : Nat) : BesideStop te s (u.noteOverBudget vi) := by
  unfold State.noteOverBudget
  extract_lets x s₁ s₂ s₃ last x₁ x₂
  have h₁ : BesideStop te s s₁ := h.updateVis
  have h₃ : BesideStop te s s₃ :=
    (h₁.fsetFirst F.viState_over_budget (by decide)).fsetFirst F.viCounts_ob_events (by decide)
  exact ite h₁ (ite (h₃.updateVis.raiseSide _) h₃)

theorem takeBucket (h : BesideStop te s u) (vi d need : Nat) : BesideStop te s (u.takeBucket vi d need) := by
  have hnoted : BesideStop te s (if u.bucketLevel vi d < need then u.noteOverBudget vi else u) :=
    ite (h.noteOverBudget vi) h
  rw [State.takeBucket]
  exact hnoted.updateVis

theorem takeTokens (h : BesideStop te s u) (who : Initiator) (a n : Nat) : BesideStop te s (u.takeTokens who a n) := by
  unfold State.takeTokens
  split
  · refine h.foldl fun t k ht => ?_
    dsimp only
    split
    · exact ht.takeBucket _ _ _
    · exact ite ht.updateVis (ht.takeBucket _ _ _)
  · exact h

theorem setGranState (h : BesideStop te s u) (d b e st : Nat) : BesideStop te s (u.setGranState d b e st) := by
  unfold State.setGranState
  extract_lets old v w
  have hv : BesideStop te s v := ite (h.fset 0 _ (f := F.cgBufStatus_open) (isTeStatusOffset_cgBufStatus b))
    (ite (h.fset 0 _ (f := F.cgBufStatus_marked) (isTeStatusOffset_cgBufStatus b)) h)
  have hw : BesideStop te s w := ite (hv.fset 0 _ (f := F.cgBufStatus_open) (isTeStatusOffset_cgBufStatus b))
    (ite (hv.fset 0 _ (f := F.cgBufStatus_marked) (isTeStatusOffset_cgBufStatus b)) hv)
  exact hw.fsetFirst F.cgTvtEntry_state (by decide)

theorem takeGranule (h : BesideStop te s u) (j d b g : Nat) : BesideStop te s (u.takeGranule j d b g) := by
  unfold State.takeGranule
  extract_lets e s₁ s₂ s₃ s₄ x tok s₅ s₆
  have h₄ : BesideStop te s s₄ := (((h.setGranState d b e gOpen).fsetFirst F.cgTvtEntry_owner (by decide)).fsetFirst
    F.cgTvtWriters_ranks (by decide)).fsetFirst F.cgTvtEntry_marks_rcvd (by decide)
  have h₆ : BesideStop te s s₆ :=
    (h₄.fsetFirst F.cgTvtEntry_bound (by decide)).fsetFirst F.cgTvtEntry_token (by decide)
  exact h₆.update

theorem tagLines (h : BesideStop te s u) (secure : Bool) (a n : Nat) : BesideStop te s (u.tagLines secure a n) :=
  ite h.update h

theorem gateWrite (h : BesideStop te s u) (n j d b a : Nat) (bs : List Byte) :
    BesideStop te s (u.gateWrite (.engine n) j d b a bs).1 := by
  unfold State.gateWrite
  extract_lets g e s₁ f o s₂ s₃ off a s₄
  have h₁ : BesideStop te s s₁ := ite (h.takeGranule j d b g) h
  have h₂ : BesideStop te s s₂ := ite (h₁.fsetFirst F.cgTvtEntry_frame (by decide)) h₁
  have h₃ : BesideStop te s s₃ := h₂.fsetFirst F.cgTvtWriters_ranks (by decide)
  have h₄ : BesideStop te s s₄ := h₃.update
  split
  · exact h
  split
  · exact h
  split
  · exact h
  split
  · exact h₃.update
  · exact (h₄.store _ _).tagLines _ _ _

theorem placeWrite (h : BesideStop te s u) (n a : Nat) (bs : List Byte) :
    BesideStop te s (u.placeWrite (.engine n) a bs).1 := by
  unfold State.placeWrite
  split
  · exact foldl_fst h fun _ _ h => h.gateWrite _ _ _ _ _ _
  · exact (h.store a bs).tagLines _ _ _

theorem landWrite (h : BesideStop te s u) (n : Nat) (w : Nat × List Byte) : BesideStop te s (u.landWrite n w).1 := by
  unfold State.landWrite
  extract_lets who v r
  have hnoted : BesideStop te s (u.notePosted who w.1) := ite h.update h
  have hr : BesideStop te s r.1 := ((hnoted.countLines _ _ _).takeTokens _ _ _).placeWrite _ _ _
  split
  · exact h.teWriteRefusal _ _ _
  split
  · exact hr.teWriteRefusal _ _ _
  · exact hr

theorem settleWrites (h : BesideStop te s u) (n : Nat) : BesideStop te s (u.settleWrites n) :=
  foldl_fst (h.setEng n rfl) fun _ _ h => h.landWrite _ _

/-! ### Discards and squashes (R210, R217) -/

theorem resolveOne (h : BesideStop te s u) (j i : Nat) (outcome : Bool) (how : Nat) :
    BesideStop te s (u.resolveOne j i outcome how) := by
  unfold State.resolveOne
  extract_lets x k s₁ s₂
  have h₂ : BesideStop te s s₂ := (h.fsetFirst F.cgToken_state (by decide)).fsetFirst F.cgToken_by (by decide)
  exact ite (h₂.modJob _ _) (ite h (h.fsetFirst F.cgEvents_late_resolves (by decide)))

theorem resolveRange (h : BesideStop te s u) (j first : Nat) (outcome : Nat → Bool) (how n : Nat) :
    BesideStop te s (u.resolveRange j first outcome how n) := by
  induction n generalizing u first with
  | zero => exact h
  | succ n ih => exact ih (h.resolveOne j first (outcome first) how) (first + 1)

theorem idleGranule (h : BesideStop te s u) (d b e : Nat) : BesideStop te s (u.idleGranule d b e) := by
  unfold State.idleGranule
  extract_lets s₁ s₂ s₃ s₄
  have h₄ : BesideStop te s s₄ := (((h.setGranState d b e gIdle).fsetFirst F.cgTvtEntry_marks_rcvd
    (by decide)).fsetFirst F.cgTvtEntry_marks_req_m1 (by decide)).fsetFirst F.cgTvtWriters_ranks (by decide)
  exact h₄.update

theorem discard (h : BesideStop te s u) (j : Nat) (gs : List (Nat × Nat × OpenGranule)) :
    BesideStop te s (u.discard j gs) :=
  h.foldl fun _ t ht => ((ht.idleGranule t.1 t.2.2.buf t.2.1).fsetFirst F.cgCounts_discards (by decide)).modJob _ _

theorem setJobState (h : BesideStop te s u) (j st : Nat) : BesideStop te s (u.setJobState j st) := by
  have hset : BesideStop te s (u.fset F.schJctx_state 4 0 j st) := h.fsetFirst _ (by decide)
  unfold State.setJobState State.writeProgress
  split
  · exact hset
  · exact (hset.modJob _ _).store _ _

theorem opRingAbort (h : BesideStop te s u) (n : Nat) : BesideStop te s (u.opRingAbort n) :=
  fset (u := u.setRing n _) h.update 0 _ (isTeStatusOffset_seRingHead n)

/-- A job that a squash stops leaves its engines IDLE. -/
theorem haltJob (h : BesideStop te s u) (j : Nat) : BesideStop te s (u.haltJob j 0) := by
  unfold State.haltJob State.haltEngines
  refine (h.foldl fun v r hv => ?_).foldl fun _ n ht => ht.opRingAbort n
  split
  · exact hv
  · exact ite hv ((hv.setIdle _).rankStopped _ _)

theorem squash (h : BesideStop te s u) (j fuel : Nat) : BesideStop te s (u.squash j fuel) := by
  induction fuel generalizing u j with
  | zero => exact h
  | succ fuel ih =>
    unfold State.squash
    refine ((h.discard _ _).modJob _ _).foldl fun v r hv => ite (ih ?_ _) hv
    have hresolved := (hv.resolveRange r 0 (fun _ => false) byStop (v.job r).tokenCount).modJob r
      (fun x => { x with squashed := true })
    exact ite ((hresolved.haltJob r).setJobState r _) hresolved

/-! ### The end of a job (R216, R234, R235) -/

theorem unready (h : BesideStop te s u) (j : Nat) : BesideStop te s (u.unready j) := by
  unfold State.unready State.countReady
  extract_lets n
  exact ((fsetFirst h.update F.schStatus_ready_high (by decide)).fsetFirst F.schStatus_ready_normal
    (by decide)).fsetFirst F.schStatus_ready_bulk (by decide)

theorem endModels (h : BesideStop te s u) (j : Nat) : BesideStop te s (u.endModels j) := by
  refine h.foldl fun v id hv => ?_
  dsimp only
  split
  · exact hv
  · exact ite hv (ite hv.update hv.update)

theorem finishJob (h : BesideStop te s u) (j st : Nat) : BesideStop te s (u.finishJob j st) := by
  unfold State.finishJob
  extract_lets s₁ s₂ s₃
  have h₁ : BesideStop te s s₁ := h.discard _ _
  have h₂ : BesideStop te s s₂ := ite h₁ (h₁.foldl fun _ _ ht => ht.modJob _ _)
  exact (((h₂.modJob _ _).setJobState j st).endModels j).unready j

theorem releaseEngines (h : BesideStop te s u) (j : Nat) : BesideStop te s (u.releaseEngines j) :=
  (h.fsetFirst F.viUse_engines_held (by decide)).fsetFirst F.schJranks_engines (by decide)

theorem freeJob (h : BesideStop te s u) (j : Nat) : BesideStop te s (u.freeJob j) := by
  unfold State.freeJob
  extract_lets x s₁ s₂ s₃ s₄ jobs s₅ s₆ vi s₇
  have h₂ : BesideStop te s s₂ := (h.releaseEngines j).foldl fun _ i ht => ht.setReg _ (by
    rw [regOffset_fldAddr]
    decide)
  have h₄ : BesideStop te s s₄ := (h₂.fsetFirst F.cgStatus_tokens_used (by decide)).unready j
  have h₅ : BesideStop te s s₅ := h₄.update
  have h₆ : BesideStop te s s₆ := h₅.setReg _ (by
    rw [regOffset_fldAddr]
    decide)
  exact (h₆.fsetFirst F.viUse_jobs_live (by decide)).fsetFirst F.schStatus_ctx_used (by decide)

theorem sendCqMsi (h : BesideStop te s u) (q : Nat) : BesideStop te s (u.sendCqMsi q) := by
  unfold State.sendCqMsi
  extract_lets vi vec first count c v w
  have hv : BesideStop te s v := h.update
  have hw : BesideStop te s w := hv.fsetFirst F.viUse_pending_msi (by decide)
  exact ite (hw.sendViMsi _ _) hw

theorem signalCq (h : BesideStop te s u) (q : Nat) : BesideStop te s (u.signalCq q) := by
  unfold State.signalCq
  extract_lets c n v vi w now
  have hv : BesideStop te s v := h.update
  have hw : BesideStop te s w := hv.fsetFirst F.viUse_pending_msi (by decide)
  exact ite (ite (hw.sendCqMsi q) (ite (hw.fsetFirst F.viCounts_coalesced (by decide)) hw)) h

theorem putCompletion (h : BesideStop te s u) (q : Nat) (x : HeldRecord) : BesideStop te s (u.putCompletion q x) := by
  unfold State.putCompletion
  extract_lets i phase bs v w
  have hw : BesideStop te s w := ((h.store _ _).fsetFirst F.schQptr_tail (by decide)).signalCq q
  split
  · exact hw
  · exact hw.freeJob _

theorem releaseCompletion (h : BesideStop te s u) (q : Nat) (x : HeldRecord) :
    BesideStop te s (u.releaseCompletion q x) :=
  ite (fsetFirst (u := u.setCq q _) h.update F.schEvents2_cq_holds (by decide)) (h.putCompletion q x)

theorem countDone (h : BesideStop te s u) (j : Nat) : BesideStop te s (u.countDone j) := h.update

theorem settle (h : BesideStop te s u) (j : Nat) : BesideStop te s (u.settle j) := by
  unfold State.settle
  extract_lets st s₁ s₂ s₃ s₄ s₅
  have h₁ : BesideStop te s s₁ := h.finishJob j jsDone
  have h₂ : BesideStop te s s₂ := ite (h₁.countDone j) h₁
  have h₃ : BesideStop te s s₃ := h₂.modJob _ _
  have h₅ : BesideStop te s s₅ := (h.releaseEngines j).modJob _ _
  exact ite h (ite (ite (ite ((h.finishJob j jsSquashed).freeJob j) (h₃.releaseCompletion _ _)) h)
    (ite (ite (h₅.releaseCompletion _ _) h) h))

theorem postJobEvent (h : BesideStop te s u) (kind j detail : Nat) : BesideStop te s (u.postJobEvent kind j detail) :=
  h.foldl fun v d hv => ite (raiseSide (hv.fsetFirst F.schEventPending_overflow (by decide)) _)
    (fsetFirst hv.update F.schEventPending_count (by decide))

theorem settleAll (h : BesideStop te s u) : BesideStop te s u.settleAll := h.foldl fun _ j ht => ht.settle j

theorem stopJob (h : BesideStop te s u) (j st code : Nat) : BesideStop te s (u.stopJob j st code) := by
  unfold State.stopJob
  extract_lets s₁ down s₂ s₃ s₄ s₅
  have h₂ : BesideStop te s s₂ := ((h.resolveRange _ _ _ _ _).modJob _ _).squash j 8
  have h₄ : BesideStop te s s₄ := (h₂.modJob _ _).finishJob j st
  have h₅ : BesideStop te s s₅ := ite (h₄.postJobEvent _ _ _) (ite (h₄.postJobEvent _ _ _) h₄)
  exact ite (h₅.settle j).settleAll h

end BesideStop

/-! ### The abort (R145) -/

theorem bkFailedOrEmpty_mod (c : Prop) [Decidable c] :
    (if c then bkFailed else bkEmpty) % 4 = if c then bkFailed else bkEmpty := by
  split <;> rfl

/-- What an abort makes of an engine: IDLE, its open tiles FAILED and its other tiles gone, no load on its way; whether
its test is due, and which VIs shrink, stays. -/
structure Aborted (te : Nat) (s t : State) : Prop where
  idle : t.teStat te = tsIdle
  banks : ∀ b, t.bankState te b = if s.bankState te b = bkOpen then bkFailed else bkEmpty
  loads : (t.eng te).loads = []
  due : (t.gftOf te).due = (s.gftOf te).due
  shrinking : t.vis.shrinking = s.vis.shrinking

theorem Aborted.beside {te : Nat} {s u t : State} (h : Aborted te s u) (h' : BesideStop te u t) : Aborted te s t :=
  ⟨h'.idle h.idle, fun b => (h'.banks b).trans (h.banks b), h'.loads.trans h.loads, h'.due.trans h.due,
    h'.shrinking.trans h.shrinking⟩

theorem BesideStop.aborted {te : Nat} {s u t : State} (h : BesideStop te s u) (h' : Aborted te u t) : Aborted te s t :=
  ⟨h'.idle, fun b => by rw [h'.banks, h.banks], h'.loads, h'.due.trans h.due, h'.shrinking.trans h.shrinking⟩

/-- A bank of an engine that an abort stops. -/
def State.abortBank (s : State) (te : Nat) (b : Bool) : State :=
  s.setBankState te b (if s.bankState te b = bkOpen then bkFailed else bkEmpty)

theorem State.bankState_abortBank_same (s : State) (te : Nat) (b : Bool) :
    (s.abortBank te b).bankState te b = if s.bankState te b = bkOpen then bkFailed else bkEmpty := by
  rw [State.abortBank, State.bankState_setBankState_same, bkFailedOrEmpty_mod]

theorem State.bankState_abortBank_other (s : State) (te : Nat) {b c : Bool}
    (h : (bankFld c).spares (bankFld b) = true) : (s.abortBank te c).bankState te b = s.bankState te b :=
  State.fget_setBankState_spared _ _ _ _ h

/-- An engine's own state after an abort. -/
def Engine.cleared (e : Engine) : Engine := { e with bankA := {}, bankB := {}, loads := [] }

/-- The engine's own part of an abort, once its outstanding writes have landed. -/
def State.clearEngine (s : State) (te : Nat) : State :=
  ((((s.abortBank te false).abortBank te true).setEng te (s.eng te).cleared).setTeStat te tsIdle).fset
    F.teStatus_handle_ready (te / 16) (te % 16) 0 (s.eng te).cleared.readyMask

theorem State.abortEngine_eq (s : State) (te : Nat) : s.abortEngine te = (s.settleWrites te).clearEngine te := by rfl

theorem State.teStat_clearEngine (s : State) (te : Nat) : (s.clearEngine te).teStat te = tsIdle :=
  (State.fget_fset_spared _ _ _ _ _ (by decide)).trans (State.fget_fset_same _ _ _ _ _ _ (by decide))

theorem State.eng_clearEngine (s : State) (te : Nat) : (s.clearEngine te).eng te = (s.eng te).cleared := by
  rw [State.clearEngine, State.eng_fset, State.setTeStat, State.eng_fset, State.eng_setEng_same]

theorem State.bankState_clearEngine (s : State) (te : Nat) (b : Bool) :
    (s.clearEngine te).bankState te b = ((s.abortBank te false).abortBank te true).bankState te b := by
  rw [State.clearEngine, State.bankState, State.fget_fset_spared _ _ _ _ _ (by cases b <;> decide), State.setTeStat,
    State.fget_fset_spared _ _ _ _ _ (by cases b <;> decide), State.fget_setEng, State.bankState]

theorem State.clearEngine_due (s : State) (te : Nat) : ((s.clearEngine te).gftOf te).due = (s.gftOf te).due := rfl
theorem State.clearEngine_vis (s : State) (te : Nat) : (s.clearEngine te).vis = s.vis := rfl

theorem State.clearEngine_aborted (s : State) (te : Nat) : Aborted te s (s.clearEngine te) := by
  refine ⟨s.teStat_clearEngine te, fun b => ?_, congrArg Engine.loads (s.eng_clearEngine te), s.clearEngine_due te,
    congrArg ViManager.shrinking (s.clearEngine_vis te)⟩
  rw [s.bankState_clearEngine]
  cases b with
  | false => exact (State.bankState_abortBank_other _ te (by decide)).trans (s.bankState_abortBank_same te false)
  | true => rw [State.bankState_abortBank_same, State.bankState_abortBank_other _ te (by decide)]

/-- Where no VI shrinks, none gives anything up. -/
theorem State.shrinkAll_of_none {s : State} (h : s.vis.shrinking = []) : s.shrinkAll = s := by
  rw [State.shrinkAll, h]
  rfl

theorem State.opTeAbort_aborted {s : State} {te : Nat} (hstat : 1 ≤ s.teStat te ∧ s.teStat te ≤ 4)
    (hdue : (s.gftOf te).due = false) (hshrinking : s.vis.shrinking = []) : Aborted te s (s.opTeAbort te) := by
  have hacts :
      s.teStat te = tsRunning ∨ s.teStat te = tsWaiting ∨ s.teStat te = tsStopping ∨ s.teStat te = tsSaved := by
    simp only [tsRunning, tsWaiting, tsStopping, tsSaved]
    omega
  have haborted : Aborted te s (s.abortEngine te) :=
    s.abortEngine_eq te ▸ ((BesideStop.refl te s).settleWrites te).aborted ((s.settleWrites te).clearEngine_aborted te)
  unfold State.opTeAbort
  extract_lets st u
  rw [if_pos hacts]
  split
  · exact haborted
  next j _ =>
    have hstopped := haborted.beside
      ((((BesideStop.refl te u).rankStopped j (u.teRank te)).stopJob j jsAborted 0).settle j)
    rwa [State.shrinkAll_of_none (hstopped.shrinking.trans hshrinking),
      State.testIfDue_of_not_due (hstopped.due.trans hdue)]

end Sys2Proof.Machine
end

section
/-! PROOFS. The acts of one die's control cores on the engines of another, and the reads of SCH_EVENT (R255, R256). -/

namespace Sys2Proof.Machine

theorem exec_xdiePreempt (who : Initiator) (die job rank : Nat) (s : State) :
    exec (.xdiePreempt who die job rank) s = .next (s.xdie who die job rank State.opTePreempt) := by rfl

theorem exec_xdieResume (who : Initiator) (die job rank : Nat) (s : State) :
    exec (.xdieResume who die job rank) s = .next (s.xdie who die job rank (fun s te =>
      if s.engineUsable te && s.teAtRest te then s.opTeResume te .clean else s)) := by rfl

theorem exec_xdieAbort (who : Initiator) (die job rank : Nat) (s : State) :
    exec (.xdieAbort who die job rank) s = .next (s.xdie who die job rank State.opTeAbort) := by rfl

theorem exec_xdiePauseRings (who : Initiator) (die job rank : Nat) (s : State) :
    exec (.xdiePauseRings who die job rank) s = .next (s.xdie who die job rank (fun s te =>
      (s.ringsOf job (te / 16)).foldl State.opRingPause s)) := by rfl

theorem exec_schEventRead (who : Initiator) (die : Nat) (s : State) :
    exec (.schEventRead who die) s = execSchEventRead who die s := by rfl

theorem exec_teResume (who : Initiator) (te : Nat) (upset : Upset) (s : State) :
    exec (.teResume who te upset) s = execTeResume who te upset s := by rfl

/-! ### Who acts, and on what (R256) -/

/-- An act of those who control the die, or of the hardware, on an engine that no test and no RT partition holds. -/
theorem State.xdie_reaches {s : State} {who : Initiator} {die job rank te : Nat} (act : State → Nat → State)
    (hwho : s.controlsDie who die = true ∨ who = .hardware) (hrank : s.rankEngine job rank = some te)
    (htesting : s.testing te = false) (hlock : bit (s.fget F.schRtLock_engines (te / 16) 0 0) (te % 16) = false) :
    s.xdie who die job rank act = (act s te).answerOk := by
  have hmay : (s.controlsDie who die || who == .hardware) = true := by
    simpa only [Bool.or_eq_true, beq_iff_eq] using hwho
  simp only [State.xdie, hmay, hrank, htesting, hlock, Bool.not_true, Bool.false_eq_true, if_false]

theorem State.xdie_drops {s : State} {who : Initiator} {die : Nat} (job rank : Nat) (act : State → Nat → State)
    (hcontrols : s.controlsDie who die = false) (hwho : who ≠ .hardware) :
    s.xdie who die job rank act = s.dropWrite who (fldAddr F.schXdie_kind die 0 0) := by
  have hmay : (s.controlsDie who die || who == .hardware) = false := by simp [hcontrols, hwho]
  simp only [State.xdie, hmay, Bool.not_false, if_true]

/-! ### Pre-emption and resumption -/

/-- A pre-emption sends an engine that works to STOPPING, and changes nothing else. -/
theorem State.opTePreempt_stops {s : State} {te : Nat} (hruns : s.teStat te = tsRunning ∨ s.teStat te = tsWaiting) :
    s.opTePreempt te = { s with regs := (s.opTePreempt te).regs } ∧ (s.opTePreempt te).teStat te = tsStopping ∧
      sameRegsBut [fldAddr F.teStatus_state (te / 16) (te % 16) 0] s (s.opTePreempt te) := by
  rw [State.opTePreempt, if_pos hruns]
  refine ⟨rfl, State.fget_fset_same _ _ _ _ _ _ (by decide), fun a ha => State.reg_fset_other _ _ _ _ _ _ ?_⟩
  simpa using ha

theorem execTeResume_hardware {s : State} {te : Nat} (upset : Upset) (husable : s.engineUsable te = true)
    (hrest : s.teAtRest te = true) : execTeResume .hardware te upset s = .next (s.opTeResume te upset) := by
  have hmay : s.teCtrlRefused .hardware te = none := by simp [State.teCtrlRefused]
  simp [execTeResume, hmay, husable, hrest]

/-! ### Rings (R172) -/

/-- From s to t rings pause, and nothing else changes: a ring of the list that runs or waits, and every other ring that
paused before, pauses in t. -/
structure RingsPause (ns : List Nat) (s t : State) : Prop where
  frame : t = { s with rings := t.rings }
  pausing : ∀ n, (s.ring n).pausing = true ∨ (n ∈ ns ∧ (s.ringSt n = rgRunning ∨ s.ringSt n = rgWaiting)) →
    (t.ring n).pausing = true

/-- A pause of one ring. -/
theorem State.ringsPause_opRingPause (s : State) (n : Nat) : RingsPause [n] s (s.opRingPause n) := by
  unfold State.opRingPause
  by_cases hworks : s.ringSt n = rgRunning ∨ s.ringSt n = rgWaiting
  · rw [if_pos hworks]
    refine ⟨rfl, fun k hk => ?_⟩
    obtain rfl | hne := eq_or_ne k n
    · simp [State.ring, State.setRing]
    · have hbefore : (s.ring k).pausing = true := hk.resolve_right fun h => hne (List.mem_singleton.1 h.1)
      rwa [State.ring, State.setRing, storeGet_put_other _ _ _ hne]
  · rw [if_neg hworks]
    exact ⟨rfl, fun k hk => hk.resolve_right fun h => hworks (List.mem_singleton.1 h.1 ▸ h.2)⟩

theorem RingsPause.ringSt {ns : List Nat} {s t : State} (h : RingsPause ns s t) (n : Nat) :
    t.ringSt n = s.ringSt n := by
  rw [h.frame]
  rfl

theorem State.ringsPause_all (s : State) (ns : List Nat) : RingsPause ns s (ns.foldl State.opRingPause s) := by
  induction ns generalizing s with
  | nil => exact ⟨rfl, fun n hn => hn.resolve_right fun h => absurd h.1 List.not_mem_nil⟩
  | cons m ns ih =>
    have hfirst := s.ringsPause_opRingPause m
    have hrest := ih (s.opRingPause m)
    refine ⟨by rw [List.foldl_cons, hrest.frame, hfirst.frame], fun n hn => hrest.pausing n ?_⟩
    obtain hbefore | ⟨hmem, hworks⟩ := hn
    · exact .inl (hfirst.pausing n (.inl hbefore))
    obtain rfl | hmem := List.mem_cons.1 hmem
    · exact .inl (hfirst.pausing n (.inr ⟨List.mem_singleton_self n, hworks⟩))
    · exact .inr ⟨hmem, by rwa [hfirst.ringSt]⟩

/-! ### SCH_EVENT -/

/-- A read of SCH_EVENT takes the oldest event of a mailbox that holds one. -/
theorem execSchEventRead_takes {s : State} {who : Initiator} {die w : Nat} {rest : List Nat}
    (hwho : who.reachesRegisters = true) (hevents : storeGet [] s.sched.dieEvents die = w :: rest) :
    execSchEventRead who die s = .next
      (({ s with sched := { s.sched with dieEvents := storePut s.sched.dieEvents die rest } }.fset
        F.schEventPending_count die 0 0 rest.length).answer w) := by
  simp [execSchEventRead, hwho, hevents]

/-- Settles O24. A write that is let through does to the rank's engine what the engine's own row says; the abort's other
effects go on beside the engine. -/
theorem crossDieCommandsComplete : Obligations.CrossDieCommandsComplete := by
  unfold Obligations.CrossDieCommandsComplete
  refine ⟨?preempt, ?resume, ?abort, ?pause, ?others, ?event⟩
  case preempt =>
    rintro s who die job rank te hwho ⟨hrank, -⟩ ⟨htesting, hlock⟩ hruns
    obtain ⟨hframe, hstops, hregs⟩ := State.opTePreempt_stops hruns
    refine ⟨_, exec_xdiePreempt who die job rank s, ?_⟩
    rw [State.xdie_reaches _ hwho hrank htesting hlock]
    exact ⟨congrArg State.answerOk hframe, hstops, hregs⟩
  case resume =>
    rintro s who die job rank te hwho ⟨hrank, -⟩ ⟨htesting, hlock⟩ ⟨husable, hrest⟩
    have hresumes := execTeResume_hardware .clean husable hrest
    refine ⟨_, exec_xdieResume who die job rank s, ?_⟩
    rw [State.xdie_reaches _ hwho hrank htesting hlock, exec_teResume, hresumes]
    refine ⟨fun u hu => ?_, _, rfl⟩
    rw [← Host.Outcome.next.inj hu]
    simp [husable, hrest, State.answerOk]
  case abort =>
    rintro s who die job rank te hwho ⟨hrank, -⟩ ⟨htesting, hlock⟩ hstat ⟨hdue, hshrinking⟩
    have haborted := State.opTeAbort_aborted hstat hdue hshrinking
    refine ⟨_, exec_xdieAbort who die job rank s, ?_⟩
    rw [State.xdie_reaches _ hwho hrank htesting hlock]
    exact ⟨haborted.idle, haborted.banks false, haborted.banks true, haborted.loads, rfl⟩
  case pause =>
    rintro s who die job rank te hwho ⟨hrank, -⟩ ⟨htesting, hlock⟩
    have hpause := s.ringsPause_all (s.ringsOf job (te / 16))
    refine ⟨_, exec_xdiePauseRings who die job rank s, ?_⟩
    rw [State.xdie_reaches _ hwho hrank htesting hlock]
    refine ⟨congrArg State.answerOk hpause.frame, List.all_eq_true.2 fun n hn => ?_⟩
    by_cases hworks : s.ringSt n = rgRunning ∨ s.ringSt n = rgWaiting
    · exact Bool.or_eq_true_iff.2 (.inl (hpause.pausing n (.inr ⟨hn, hworks⟩)))
    · simp [not_or.1 hworks]
  case others =>
    rintro s who die job rank ⟨hcontrols, hwho⟩
    refine ⟨_, exec_xdiePreempt who die job rank s, ?_⟩
    rw [State.xdie_drops job rank _ hcontrols hwho]
    exact ⟨rfl, newCodes_raiseRec_only _ rfl⟩
  case event =>
    intro s who die w rest hwho hevents
    refine ⟨_, (exec_schEventRead who die s).trans (execSchEventRead_takes hwho hevents), rfl,
      storeGet_put_same _ _ _ _, State.fget_fset_same _ _ _ _ _ _ (by decide),
      fun a ha => State.reg_fset_other _ _ _ _ _ _ ?_⟩
    simpa using ha

end Sys2Proof.Machine
end

section
/-! PROOFS. A slot that completes beside a reference store that lists a block twice (R266, R274, R275). -/

namespace Sys2Proof.Machine

/-- A sample of stream 16 whose one block was lost on its way. -/
def lostSample : Sample := { seq := 9, capture := 77, data := [], damage := [0] }

/-- A batch whose one slot holds that sample. -/
def lostBatch : Batch :=
  { buf := 0, window := 7, start := 0, slots := [{ stream := some 16, stage := .staged lostSample }] }

/-- Stream 16 gives pictures of one block. It feeds group 0 of VI 1, whose buffer lies in the VI's LPDDR6, and its
reference store lists the block twice. -/
def blockListedTwice : State :=
  { ((State.reset.fset F.ippScfg_in_group 6 0 16 1).fset F.ippGrpBase_base 6 0 0 0x200000).fset
      F.viExtN_granules 4 0 65 8 with
    boot := { memTrained := true, stackMask := 1 }
    ipp := { streams := [(16, { params := [1, 0, 1, 0], refs := [(0, 1), (0, 2)] })]
             groups := [(0, { cfg := 2 ^ F.ippGrpCfg_vi.lo, bufs := [.filling], batches := [lostBatch] })] } }

theorem exec_slotComplete (n : Nat) (lost refsLost : List Nat) (s : State) :
    exec (.slotComplete n lost refsLost) s = execSlotComplete n lost refsLost s := by rfl

/-- The error in the reference store takes the block's first copy, and the second conceals it: no grey is used. -/
theorem blockListedTwice_shows {t : State} (h : execSlotComplete 16 [] [0] blockListedTwice = .next t) :
    bit (t.numAt (blockListedTwice.batchAddr 0 0 + 64 + 32 * 0) 4) 2 = false := by
  have hshown : (match execSlotComplete 16 [] [0] blockListedTwice with
    | .next t => bit (t.numAt (blockListedTwice.batchAddr 0 0 + 64 + 32 * 0) 4) 2 == false
    | _ => false) = true := by decide +kernel
  rw [h] at hshown
  simpa using hshown

/-- Refutes O25: its clause of a slot that completes asks nothing of the order of the stream's reference store, which
`storeFind` and `storeDrop` rely on. Where the store lists a block twice, an uncorrectable error takes one of its copies
only, the other conceals the block, and grey_used stays clear. -/
theorem not_windowsAndSamplesComplete : ¬ Obligations.WindowsAndSamplesComplete := by
  unfold Obligations.WindowsAndSamplesComplete
  rintro ⟨-, -, -, slotComplete, -⟩
  obtain ⟨t, hexec, -, -, hgrey, -⟩ := slotComplete blockListedTwice 16 [] [0] 0 0 lostBatch lostSample
    (by decide +kernel) (by decide +kernel) (by decide +kernel) (by decide +kernel) (by decide) (by decide +kernel)
    (by decide +kernel) (by decide +kernel)
  have hshown := blockListedTwice_shows (exec_slotComplete 16 [] [0] _ ▸ hexec)
  have hlost : (parImage (blockListedTwice.ippStream 16).params &&
      (damagedOf (lostSample.damage ++ []) (parBlocks (blockListedTwice.ippStream 16).params)).any
        (fun k => [0].contains k || (storeFind (blockListedTwice.ippStream 16).refs k).isNone)) = true := by
    decide +kernel
  exact absurd ((hshown.symm.trans hgrey).trans hlost) (by decide)

end Sys2Proof.Machine
end

section
/-! PROOFS. The books of groups and streams, and what goes on beside them: the records that follow those on their way,
the doubts on a partition's outputs, and the reads that load a parameter block (R270, R278, R281, R287, R557). -/

namespace Sys2Proof.Machine

/-! ### Groups and streams -/

@[simp] theorem State.ippGroup_setIppGroup_same (s : State) (g : Nat) (x : IppGroup) :
    (s.setIppGroup g x).ippGroup g = x := storeGet_put_same _ _ _ _

@[simp] theorem State.ippStream_setIppStream_same (s : State) (n : Nat) (x : IppStream) :
    (s.setIppStream n x).ippStream n = x := storeGet_put_same _ _ _ _

/-- A stream that was changed without its configuration feeds the slot that it fed. -/
theorem State.slotOf_setIppStream {s : State} {n : Nat} {x : IppStream} (h : x.cfg = (s.ippStream n).cfg) :
    (s.setIppStream n x).slotOf n = s.slotOf n := by
  simp only [State.slotOf, State.scfg, State.ippStream_setIppStream_same, h]
  rfl

theorem State.answer_ippGroup (s : State) (v g : Nat) : (s.answer v).ippGroup g = s.ippGroup g := rfl

/-- The counts of a group's buffers are shown in IPP_GRP_STATE alone. -/
theorem State.sameRegsBut_countBuffers (s : State) (g : Nat) :
    sameRegsBut [fldAddr F.ippGrpState_prepared (grpDie g) (g % 16) 0] s (s.countBuffers g) := fun a ha =>
  have hother : a ≠ fldAddr F.ippGrpState_prepared (grpDie g) (g % 16) 0 := by simpa using ha
  (State.reg_fset_other _ F.ippGrpState_held _ _ _ _ hother).trans (State.reg_fset_other _ _ _ _ _ _ hother)

/-- The low-water alarm changes no more of its group's books than whether it is armed. -/
theorem State.lowWater_ippGroup (s : State) (g : Nat) :
    ∃ armed, (s.lowWater g).ippGroup g = { s.ippGroup g with armed } := by
  unfold State.lowWater
  dsimp only
  split
  · exact ⟨false, State.ippGroup_setIppGroup_same s g _⟩
  · exact ⟨_, rfl⟩

theorem State.lowWater_mem (s : State) (g : Nat) : (s.lowWater g).mem = s.mem := by
  unfold State.lowWater
  dsimp only
  split <;> rfl

/-! ### Records that follow -/

/-- A service acts for no job, so its writes go straight to their place. -/
theorem State.placeWrite_service (s : State) (vi : Option Nat) (a : Nat) (bs : List Byte) :
    s.placeWrite (.service vi) a bs = ((s.store a bs).tagLines false a bs.length, .done) := by rfl

/-- The first of the new records is the one that follows those that were on their way before. -/
theorem newCodes_head?_eq_some {s t : State} {r : ErrRec} (h : s.err.inFlight ++ [r] <+: t.err.inFlight) :
    (newCodes s t).head? = some r.code := by
  obtain ⟨rs, hrs⟩ := h
  simp [newCodes, ← hrs]

/-- Whether a state comes of another with the streams' books as they were, and its records behind those that were on
their way. -/
structure Follows (s u : State) : Prop where
  records : s.err.inFlight <+: u.err.inFlight
  streams : u.ipp.streams = s.ipp.streams

namespace Follows

variable {s u t : State}

theorem refl (s : State) : Follows s s := ⟨List.prefix_rfl, rfl⟩

/-- A change of what the relation does not speak of. -/
theorem update (h : Follows s u) (herr : t.err = u.err := by rfl) (hstreams : t.ipp.streams = u.ipp.streams := by rfl) :
    Follows s t := ⟨herr ▸ h.records, hstreams.trans h.streams⟩

/-- One more record on its way. -/
theorem record (h : Follows s u) {r : ErrRec} (herr : t.err.inFlight = u.err.inFlight ++ [r] := by rfl)
    (hstreams : t.ipp.streams = u.ipp.streams := by rfl) : Follows s t :=
  ⟨herr ▸ h.records.trans (List.prefix_append _ _), hstreams.trans h.streams⟩

theorem foldl {α : Type} {f : State → α → State} {l : List α} (h : Follows s u)
    (hf : ∀ t x, Follows s t → Follows s (f t x)) : Follows s (l.foldl f u) := by
  induction l generalizing u with
  | nil => exact h
  | cons x l ih => exact ih (hf u x h)

theorem ite {c : Prop} {_ : Decidable c} (h : Follows s u) (h' : Follows s t) : Follows s (if c then u else t) := by
  split <;> assumption

theorem countLines (h : Follows s u) (who : Initiator) (a n : Nat) : Follows s (u.countLines who a n) := by
  unfold State.countLines
  split
  · extract_lets ks v
    have hv : Follows s v := h.foldl fun _ _ ht => ht.update
    split
    · exact hv
    next j _ =>
      obtain ⟨sched, hbooked⟩ := v.modJob_sched j fun x => { x with lines := x.lines + (ks.map Prod.snd).sum }
      rw [hbooked]
      exact hv.update
  · exact h

theorem noteOverBudget (h : Follows s u) (vi : Nat) : Follows s (u.noteOverBudget vi) := by
  unfold State.noteOverBudget
  exact ite h.update (ite h.record h.update)

theorem takeBucket (h : Follows s u) (vi d need : Nat) : Follows s (u.takeBucket vi d need) :=
  (ite (h.noteOverBudget vi) h : Follows s (if u.bucketLevel vi d < need then u.noteOverBudget vi else u)).update

theorem takeTokens (h : Follows s u) (who : Initiator) (a n : Nat) : Follows s (u.takeTokens who a n) := by
  unfold State.takeTokens
  split
  · refine h.foldl fun t k ht => ?_
    dsimp only
    split
    · exact ht.takeBucket _ _ _
    · exact ite ht.update (ht.takeBucket _ _ _)
  · exact h

theorem placeWrite (h : Follows s u) (vi : Option Nat) (a : Nat) (bs : List Byte) :
    Follows s (u.placeWrite (.service vi) a bs).1 := by
  rw [State.placeWrite_service]
  obtain ⟨_, _, _, _, _, _, _, _, _, hstored⟩ :=
    (StoresOnly.store u a bs).trans (StoresOnly.tagLines _ false a bs.length)
  rw [hstored]
  exact h.update

theorem refused (h : Follows s u) (c : ErrCode) (vi : Option Nat) (a : Nat) :
    Follows s (u.refused c (.service vi) a) := by
  have hcounted : Follows s (u.countRefusal c a) := by
    unfold State.countRefusal
    split
    · exact h
    · exact ite h.update (ite h.update h)
  exact hcounted.record

theorem storeAs (h : Follows s u) (vi : Option Nat) (a : Nat) (bs : List Byte) :
    Follows s (u.storeAs (.service vi) a bs).1 := by
  unfold State.storeAs
  split
  · exact h.refused _ _ _
  · exact ((h.takeTokens _ _ _).countLines _ _ _).placeWrite vi _ _

theorem ippWrite (h : Follows s u) (g a : Nat) (bs : List Byte) : Follows s (u.ippWrite g a bs) :=
  ite h (h.storeAs _ _ _)

theorem lowWater (h : Follows s u) (g : Nat) : Follows s (u.lowWater g) := by
  unfold State.lowWater
  exact ite h.record h

theorem fadd (h : Follows s u) (f : Fld) (d i k n : Nat) : Follows s (u.fadd f d i k n) := h.update

theorem putBatch (h : Follows s u) (g : Nat) (b : Batch) : Follows s (u.putBatch g b) := h.update

theorem setBuffers (h : Follows s u) (g : Nat) (x : IppGroup) : Follows s ((u.setIppGroup g x).countBuffers g) :=
  h.update

theorem discardPrepared (h : Follows s u) (g buf : Nat) : Follows s (u.discardPrepared g buf) :=
  (h.setBuffers g _).lowWater g

theorem prepareBatch (h : Follows s u) (g : Nat) (b : Batch) : Follows s (u.prepareBatch g b) := by
  unfold State.prepareBatch
  extract_lets a v w w' x order y
  have hv : Follows s v := h.foldl fun t i ht => by
    split
    · exact ht
    · exact ht.ippWrite _ _ _
  have hy : Follows s y := ((hv.ippWrite g a (batchHeader g b)).putBatch g _).setBuffers g _
  exact ite ((hy.fadd _ _ _ _ _).discardPrepared g b.buf) hy

end Follows

/-! ### Doubts (R287, R309) -/

/-- The offsets of the registers that show doubts on outputs: SAF_OUT, SAF_LIVE and SAF_STATUS. -/
def isDoubtOffset (o : Nat) : Bool :=
  [F.safOut_live_state, F.safOut_last_reason, F.safLive_not_valid, F.safStatus_reason].any (fun f => o == f.off)

/-- Whether a state comes of another by doubts on outputs. -/
structure Doubts (s u : State) : Prop extends Beside isDoubtOffset s u where
  records : s.err.inFlight <+: u.err.inFlight
  ipp : u.ipp = s.ipp

namespace Doubts

variable {s u : State}

theorem refl (s : State) : Doubts s s := ⟨.refl _ s, List.prefix_rfl, rfl⟩

theorem ite {c : Prop} {_ : Decidable c} {t : State} (h : Doubts s u) (h' : Doubts s t) :
    Doubts s (if c then u else t) := by split <;> assumption

theorem fset (h : Doubts s u) {f : Fld} {d i : Nat} (k v : Nat)
    (hf : isDoubtOffset ((f.off + i * f.stride) % 0x1000000) = true) : Doubts s (u.fset f d i k v) :=
  ⟨h.toBeside.fset k v hf, h.records, h.ipp⟩

theorem putLive (h : Doubts s u) (o st : Nat) : Doubts s (u.putLive o st) :=
  (h.fset o st (f := F.safOut_live_state) (by decide)).fset 0 _ (by decide)

theorem noteReason (h : Doubts s u) (reason : Nat) : Doubts s (u.noteReason reason) := by
  have hnoted : Doubts s { u with safety := { u.safety with lastReason := reason } } :=
    ⟨h.toBeside.update, h.records, h.ipp⟩
  exact ite (hnoted.fset 0 reason (f := F.safStatus_reason) (by decide)) hnoted

theorem raiseFollow (h : Doubts s u) (r : ErrRec) : Doubts s (u.raiseFollow r) :=
  ⟨h.toBeside.update, h.records.trans (List.prefix_append _ _), h.ipp⟩

theorem worsen (h : Doubts s u) (o st reason : Nat) : Doubts s (u.worsen o st reason) :=
  have hput := h.putLive o st
  ite h (((ite (hput.fset o reason (f := F.safOut_last_reason) (by decide)) hput).noteReason reason).raiseFollow _)

theorem doubtKind (h : Doubts s u) (kind index reason : Nat) : Doubts s (u.doubtKind kind index reason) := by
  unfold State.doubtKind
  generalize List.range u.outputs = outputs
  induction outputs generalizing u with
  | nil => exact h
  | cons o outputs ih => exact ih (ite (h.worsen o _ reason) h)

/-- A group's counts are none of the registers that show doubts. -/
theorem rtMissing (h : Doubts s u) (g : Nat) : u.fget F.ippGrpCounts_rt_missing (grpDie g) (g % 16) 0 =
    s.fget F.ippGrpCounts_rt_missing (grpDie g) (g % 16) 0 := by
  have hall : (List.range 16).all (fun i => !isDoubtOffset ((F.ippGrpCounts_rt_missing.off +
    i * F.ippGrpCounts_rt_missing.stride) % 0x1000000)) = true := by decide
  exact h.fget 0 (by simpa using List.all_eq_true.1 hall (g % 16) (List.mem_range.2 (Nat.mod_lt _ (by decide))))

end Doubts

/-! ### Reads of the device itself -/

/-- A read that passes leaves what no traffic changes. -/
theorem State.fetchAs_traffic {s u : State} {who : Initiator} {a n : Nat} {bs : List Byte}
    (h : s.fetchAs who a n = (u, some bs)) : Traffic s u ∧ TrafficOnly s u := by
  unfold State.fetchAs at h
  split at h
  · simp at h
  · dsimp only at h
    split at h
    · simp at h
    · obtain ⟨rfl, -⟩ := Prod.mk.inj h
      exact ⟨((((Traffic.refl s).correctSteered _ a n).takeTokens who a n).countLines who a n).noteRead _ a n,
        ((((TrafficOnly.refl s).foldl fun _ _ ht => ht.correctSoft _ _).takeTokens who a n).countLines who a n).noteRead
          _ a n⟩

theorem TrafficOnly.ippStream {s u : State} (h : TrafficOnly s u) (n : Nat) : u.ippStream n = s.ippStream n := by
  obtain ⟨_, _, _, _, _, _, _, rfl⟩ := h
  rfl

end Sys2Proof.Machine
end

section
/-! PROOFS. The consumers of batches, the loads of parameters and the resets of streams (R270, R277 to R279, R281). -/

namespace Sys2Proof.Machine

/-! ### Consumers -/

theorem exec_groupAcquire (who : Initiator) (g : Nat) (s : State) :
    exec (.groupAcquire who g) s = execGroupAcquire who g s := by rfl
theorem exec_groupRelease (who : Initiator) (g i : Nat) (s : State) :
    exec (.groupRelease who g i) s = execGroupRelease who g i s := by rfl
theorem exec_rtConsumeDeadline (g : Nat) (s : State) :
    exec (.rtConsumeDeadline g) s = execRtConsumeDeadline g s := by rfl

section
variable {s : State} {who : Initiator} {g i w : Nat}

/-- A buffer that an acquire has handed out, before the PREPARED buffers are counted again. -/
def State.handOut (s : State) (g i w : Nat) : State :=
  s.setIppGroup g { s.ippGroup g with
    bufs := (s.ippGroup g).bufs.set i (.held w), order := (s.ippGroup g).order.filter (· != i), acquired := some w }

/-- The group's books after an acquire, but for the alarm that it may have set off. -/
theorem State.handOut_books (s : State) (g i w : Nat) :
    ∃ armed, (((s.handOut g i w).countBuffers g).lowWater g).ippGroup g = { s.ippGroup g with
      bufs := (s.ippGroup g).bufs.set i (.held w), order := (s.ippGroup g).order.filter (· != i), acquired := some w
      armed } := by
  obtain ⟨armed, hbooks⟩ := ((s.handOut g i w).countBuffers g).lowWater_ippGroup g
  have hout : ((s.handOut g i w).countBuffers g).ippGroup g = _ := s.ippGroup_setIppGroup_same g _
  exact ⟨armed, hbooks.trans (by rw [hout])⟩

theorem execGroupAcquire_takes (hwho : who.reachesRegisters = true)
    (hresets : s.instanceResets (s.grpFld F.ippGrpCfg_vi g) = false) (hacq : s.acquirable g = some (i, w)) :
    execGroupAcquire who g s =
      .next ((((s.handOut g i w).countBuffers g).lowWater g).answer (i + 2 ^ 4 + w % 2 ^ 32 * 2 ^ 32)) := by
  simp [execGroupAcquire, hwho, hresets, hacq, State.handOut]

theorem execGroupAcquire_none (hwho : who.reachesRegisters = true)
    (hresets : s.instanceResets (s.grpFld F.ippGrpCfg_vi g) = false) (hacq : s.acquirable g = none) :
    execGroupAcquire who g s = .next (s.answer 0) := by
  simp [execGroupAcquire, hwho, hresets, hacq]

section
variable (hwho : who.isSteward = true ∨ s.belongs who (s.grpFld F.ippGrpCfg_vi g) = true)
  (hresets : s.instanceResets (s.grpFld F.ippGrpCfg_vi g) = false)
include hwho hresets

/-- No drop stands in the way of an initiator that may write IPP_GRP_REL. -/
theorem groupRelease_not_dropped : ¬(!(who.isSteward || s.belongs who (s.grpFld F.ippGrpCfg_vi g))
    || s.instanceResets (s.grpFld F.ippGrpCfg_vi g)) = true := by
  rw [Bool.or_eq_true_iff.2 hwho, hresets]
  decide

theorem execGroupRelease_frees (hheld : (s.ippGroup g).bufs[i]? = some (.held w)) :
    execGroupRelease who g i s = .next ((s.setIppGroup g
      { s.ippGroup g with bufs := (s.ippGroup g).bufs.set i .free }).countBuffers g).answerOk := by
  rw [execGroupRelease, if_neg (groupRelease_not_dropped hwho hresets)]
  simp [hheld]

theorem execGroupRelease_bad (hheld : ∀ w, (s.ippGroup g).bufs[i]? ≠ some (.held w)) :
    ∃ r, r.code = E.ippBadRelease.code ∧ execGroupRelease who g i s = .next { s.raiseRec r with resp := {} } := by
  rw [execGroupRelease, if_neg (groupRelease_not_dropped hwho hresets)]
  dsimp only
  split
  · exact absurd ‹_› (hheld _)
  · exact ⟨_, rfl, rfl⟩

end

theorem State.afterStart_of_le {off : Nat} (hrun : s.safety.frameRun = true)
    (hpast : s.safety.frameStart + off ≤ s.periods) : s.afterStart off = true := by simp [State.afterStart, hrun, hpast]

/-- The consume deadline of an rt group's frame after a batch of it was acquired. -/
theorem execRtConsumeDeadline_met (hrt : F.ippGrpCfg_rt.of (s.ippGroup g).cfg = 1)
    (hon : s.fon F.ippGrpCfg_enable (grpDie g) (g % 16) 0 = true)
    (hafter : s.afterStart (s.grpFld F.ippGrpTiming2_consume_offset g) = true)
    (hacquired : (s.ippGroup g).acquired = some s.frame) :
    execRtConsumeDeadline g s = .next (s.setIppGroup g { s.ippGroup g with passed := some s.frame }) := by
  simp [execRtConsumeDeadline, hrt, hon, hafter, hacquired]

/-- An rt group that nobody acquired a batch of, before the doubts on its partition's outputs. -/
def State.rtMissed (s : State) (g : Nat) : State :=
  (s.setIppGroup g { s.ippGroup g with passed := some s.frame }).fadd F.ippGrpCounts_rt_missing (grpDie g) (g % 16) 0 1

theorem execRtConsumeDeadline_missed (hrt : F.ippGrpCfg_rt.of (s.ippGroup g).cfg = 1)
    (hon : s.fon F.ippGrpCfg_enable (grpDie g) (g % 16) 0 = true)
    (hafter : s.afterStart (s.grpFld F.ippGrpTiming2_consume_offset g) = true)
    (hacquired : (s.ippGroup g).acquired ≠ some s.frame) (horder : (s.ippGroup g).order = []) :
    execRtConsumeDeadline g s = .next (((s.rtMissed g).raiseRec ((s.rtMissed g).ippRec E.ippRtMissing g none
      none)).doubtPartition (F.ippGrpCfg_rt_partition.of (s.ippGroup g).cfg) rsRtInput) := by
  simp [execRtConsumeDeadline, hrt, hon, hafter, hacquired, horder, State.rtMissed]

end

/-! ### Parameters and resets -/

theorem exec_parameterLoad (who : Initiator) (n src : Nat) (s : State) :
    exec (.parameterLoad who n src) s = execParameterLoad who n src s := by rfl
theorem exec_streamReset (who : Initiator) (n : Nat) (s : State) :
    exec (.streamReset who n) s = execStreamReset who n s := by rfl

section
variable {s : State} {who : Initiator} {n : Nat}

/-- IPP_SPARAM shows the address of the block that is loaded. -/
def State.loadsFrom (s : State) (n src : Nat) : State := (s.fset F.ippSparam_src (ippDieOf n) 0 (n % 48) src).answerOk

/-- What traffic leaves of a load: the address that IPP_SPARAM shows, and the stream's books. -/
theorem State.loadsFrom_traffic {u : State} {src : Nat} (h : Traffic (s.loadsFrom n src) u)
    (honly : TrafficOnly (s.loadsFrom n src) u) :
    u.fget F.ippSparam_src (ippDieOf n) 0 (n % 48) = src % 2 ^ 48 ∧ u.ippStream n = s.ippStream n :=
  ⟨(h.fget _ (by decide)).trans (State.fget_fset_same s _ _ _ _ _ (by decide)), honly.ippStream n⟩

theorem execParameterLoad_plain {u : State} {src : Nat} {p : List Byte} (hwho : who.isSteward = true)
    (hblock : (s.loadsFrom n src).fetchAs (.service none) src 128 = (u, some p)) (hremap : remapBytes p = 0) :
    execParameterLoad who n src s = .next (u.setIppStream n { u.ippStream n with next := some (p, []) }) := by
  rw [State.loadsFrom] at hblock
  simp [execParameterLoad, hwho, hblock, hremap]

theorem execParameterLoad_remap {u v : State} {src : Nat} {p r : List Byte} (hwho : who.isSteward = true)
    (hblock : (s.loadsFrom n src).fetchAs (.service none) src 128 = (u, some p)) (hremap : remapBytes p ≠ 0)
    (htable : u.fetchAs (.service none) (leAt p 104 8) (remapBytes p) = (v, some r)) :
    execParameterLoad who n src s = .next (v.setIppStream n { v.ippStream n with next := some (p, r) }) := by
  rw [State.loadsFrom] at hblock
  simp [execParameterLoad, hwho, hblock, hremap, htable]

/-- A stream whose reference store was cleared. -/
def State.clearRefs (s : State) (n : Nat) : State := (s.setIppStream n { s.ippStream n with refs := [] }).answerOk

theorem State.slotOf_clearRefs : (s.clearRefs n).slotOf n = s.slotOf n := State.slotOf_setIppStream rfl

theorem State.clearRefs_ippStream : (s.clearRefs n).ippStream n = { s.ippStream n with refs := [] } :=
  State.ippStream_setIppStream_same s n _

theorem execStreamReset_none (hwho : who.isSteward = true) (hslot : s.slotOf n = none) :
    execStreamReset who n s = .next (s.clearRefs n) := by
  have hcleared := State.slotOf_clearRefs.trans hslot
  rw [State.clearRefs] at hcleared
  simp [execStreamReset, hwho, hcleared, State.clearRefs]

/-- The records of a slot that is MISSING begin with its own. -/
theorem State.missSlot_first (s : State) (g : Nat) (b : Batch) (slot : Nat) : ∃ r,
    r.code = E.ippSlotMissing.code ∧ s.err.inFlight ++ [r] <+: (s.missSlot g b slot).1.err.inFlight ∧
      (s.missSlot g b slot).1.ipp.streams = s.ipp.streams := by
  unfold State.missSlot State.fillSlot
  extract_lets stream data rt v w b'
  have hfollows : Follows v (w.putBatch g b') := ((Follows.refl v).ippWrite _ _ _).putBatch _ _
  exact ⟨_, rfl, hfollows.records, hfollows.streams⟩

/-- The slot of the open batch is MISSING, and the batch may become PREPARED by it. -/
theorem execStreamReset_slot {g slot : Nat} {b : Batch} {q : BatchSlot} (hwho : who.isSteward = true)
    (hslot : s.slotOf n = some (g, slot)) (hbatches : (s.ippGroup g).batches = [b]) (hopen : b.done = false)
    (hq : b.slots[slot]? = some q) (hstream : q.stream = some n) (hdone : slotDone q = false) :
    ∃ t, execStreamReset who n s = .next t ∧ Follows ((s.clearRefs n).missSlot g b slot).1 t := by
  have hcleared := State.slotOf_clearRefs.trans hslot
  have hbooks : ((s.clearRefs n).ippGroup g).batches = [b] := hbatches
  rw [State.clearRefs] at hcleared hbooks ⊢
  simp only [execStreamReset, hwho, hcleared, hbooks, hopen, hq, hstream, hdone, List.find?_cons, Bool.not_true,
    Bool.not_false, Bool.false_eq_true, if_false, Bool.and_true, beq_self_eq_true]
  split
  · exact ⟨_, rfl, (Follows.refl _).prepareBatch _ _⟩
  · exact ⟨_, rfl, Follows.refl _⟩

end

/-- Settles O26. The books of a group or a stream are set alone, and what goes on beside them adds its records behind
the one that the statement names. -/
theorem batchConsumersComplete : Obligations.BatchConsumersComplete := by
  unfold Obligations.BatchConsumersComplete
  refine ⟨?acquire, ?nothing, ?release, ?badRelease, ?missed, ?met, ?plain, ?remap, ?reset, ?slot, ?others⟩
  case acquire =>
    intro s who g i w _ hwho hresets hacq _
    obtain ⟨armed, hbooks⟩ := s.handOut_books g i w
    refine ⟨_, (exec_groupAcquire who g s).trans (execGroupAcquire_takes hwho hresets hacq), rfl, ?_⟩
    rw [State.answer_ippGroup, hbooks, State.answer_mem, State.lowWater_mem]
    exact ⟨rfl, rfl, rfl, rfl⟩
  case nothing =>
    intro s who g hwho hresets hacq
    exact ⟨_, (exec_groupAcquire who g s).trans (execGroupAcquire_none hwho hresets hacq), rfl⟩
  case release =>
    intro s who g i w _ hwho hresets hheld
    exact ⟨_, (exec_groupRelease who g i s).trans (execGroupRelease_frees hwho hresets hheld), rfl,
      s.ippGroup_setIppGroup_same g _, State.sameRegsBut_countBuffers (s.setIppGroup g _) g⟩
  case badRelease =>
    intro s who g i hwho hresets hnone
    obtain ⟨r, hcode, hexec⟩ := execGroupRelease_bad (i := i) hwho hresets fun w hheld => by simp [hheld] at hnone
    exact ⟨_, (exec_groupRelease who g i s).trans hexec, rfl,
      (newCodes_raiseRec_only (s := s) r rfl).trans (by rw [hcode])⟩
  case missed =>
    rintro s g _ ⟨hrt, hon⟩ ⟨hrun, hpast⟩ ⟨hacquired, horder⟩
    have hafter := State.afterStart_of_le hrun hpast
    have hdoubts := (Doubts.refl ((s.rtMissed g).raiseRec ((s.rtMissed g).ippRec E.ippRtMissing g none none))).doubtKind
      1 (F.ippGrpCfg_rt_partition.of (s.ippGroup g).cfg) rsRtInput
    refine ⟨_, (exec_rtConsumeDeadline g s).trans (execRtConsumeDeadline_missed hrt hon hafter hacquired horder), ?_,
      (hdoubts.rtMissing g).trans (State.fget_fadd_same (s.setIppGroup g _) _ _ _ _ _ (by decide)),
      newCodes_head?_eq_some hdoubts.records⟩
    have hbooks := s.ippGroup_setIppGroup_same g { s.ippGroup g with passed := some s.frame }
    rw [State.ippGroup, State.doubtPartition, hdoubts.ipp]
    exact congrArg IppGroup.passed hbooks
  case met =>
    rintro s g ⟨hrt, hon⟩ ⟨hrun, hpast⟩ hacquired
    have hafter := State.afterStart_of_le hrun hpast
    exact ⟨_, (exec_rtConsumeDeadline g s).trans (execRtConsumeDeadline_met hrt hon hafter hacquired), rfl,
      s.ippGroup_setIppGroup_same g _⟩
  case plain =>
    intro s who n src p u hwho hblock hremap
    obtain ⟨htraffic, honly⟩ := State.fetchAs_traffic hblock
    obtain ⟨hsrc, hstream⟩ := State.loadsFrom_traffic htraffic honly
    exact ⟨_, (exec_parameterLoad who n src s).trans (execParameterLoad_plain hwho hblock hremap), rfl,
      (u.ippStream_setIppStream_same n _).trans (by rw [hstream]), hsrc⟩
  case remap =>
    intro s who n src p r u v hwho hblock hremap htable
    obtain ⟨htraffic, honly⟩ := State.fetchAs_traffic hblock
    obtain ⟨htraffic', honly'⟩ := State.fetchAs_traffic htable
    obtain ⟨hsrc, hstream⟩ := State.loadsFrom_traffic (htraffic.trans htraffic') (honly.trans honly')
    exact ⟨_, (exec_parameterLoad who n src s).trans (execParameterLoad_remap hwho hblock hremap htable), rfl,
      (v.ippStream_setIppStream_same n _).trans (by rw [hstream]), hsrc⟩
  case reset =>
    intro s who n hwho hslot
    exact ⟨_, (exec_streamReset who n s).trans (execStreamReset_none hwho hslot), rfl, State.clearRefs_ippStream⟩
  case slot =>
    rintro s who n g slot b q hwho hslot ⟨hbatches, hopen⟩ hq ⟨hstream, hdone⟩
    obtain ⟨t, hexec, hfollows⟩ := execStreamReset_slot hwho hslot hbatches hopen hq hstream hdone
    obtain ⟨r, hcode, hrecords, hstreams⟩ := (s.clearRefs n).missSlot_first g b slot
    refine ⟨t, (exec_streamReset who n s).trans hexec, ?_, ?_⟩
    · rw [State.ippStream, hfollows.streams, hstreams]
      exact congrArg IppStream.refs State.clearRefs_ippStream
    · exact hcode ▸ newCodes_head?_eq_some (s := s) (hrecords.trans hfollows.records)
  case others =>
    intro s who n hwho
    refine ⟨_, (exec_streamReset who n s).trans (if_pos (by simp [hwho])), rfl, ?_⟩
    exact newCodes_raiseRec_only (s := s) _ rfl

end Sys2Proof.Machine
end
